-- ==== Sys2Proof/Word.lean ====
section
/-! DEFINITION. The word types of the part and the type of its sparse stores. -/

namespace Sys2Proof

/-- One byte. -/
abbrev Byte := BitVec 8

/-- A control register, a sequencer register: 32 bits. -/
abbrev Reg := BitVec 32

/-- The word of the array: 128 bits (R35). -/
abbrev Word := BitVec 128

/-- One accumulator: 16 lanes of 32 bits (R35). -/
abbrev Acc := BitVec 512

/-- One context plane (R73). -/
abbrev Plane := BitVec 512

/-- One context program entry (R83). -/
abbrev Entry := BitVec 64

/-- A sparse store: the entries that differ from a default, keys rising. -/
abbrev SMap (α : Type) := List (Nat × α)

end Sys2Proof
end

