-- ==== Sys2Proof/Syntax.lean ====
section
/-! DEFINITION. The commands of the block and the types of their operands. -/

namespace Sys2Proof

/-- Cluster index 16y + x (00, identifiers). -/
abbrev ClId := Fin 256
/-- Logical cell index 4cy + cx. -/
abbrev CellId := Fin 16
/-- Global queue ID, cluster x 128 + local index. -/
abbrev QId := Fin 32768
/-- Link entry of a cluster (R122). -/
abbrev LinkId := Fin 32
/-- Forward channel of a cluster (R153). -/
abbrev ChId := Fin 8
/-- Stream mover (R157). -/
abbrev MvId := Fin 64
/-- Region number. -/
abbrev RgId := Fin 64
/-- Belay timer (R220). -/
abbrev TmrId := Fin 1024
/-- HBM stack. -/
abbrev StackId := Fin 4
/-- Pseudo-channel: 32 x stack + 2 x channel + PC. -/
abbrev PcId := Fin 128
/-- NoC initiator ID (R243). -/
abbrev InitId := Fin 4096
/-- Router index (R240). -/
abbrev RtrId := Fin 256
/-- Island 8iy + ix. -/
abbrev IslId := Fin 64
/-- Host port. -/
abbrev PortId := Fin 4
/-- Host port, or 4 for the owner port. -/
abbrev VPort := Fin 5
/-- Function of a host port (R388). -/
abbrev FnId := Fin 65
/-- Load context (R321). -/
abbrev CtxId := Fin 5
/-- Ethernet port. -/
abbrev EthId := Fin 8
/-- Sub-port of a breakout (R485). -/
abbrev SubId := Fin 4
/-- GPIO bank. -/
abbrev BankId := Fin 4
/-- Session. -/
abbrev SessId := Fin 16384
/-- A 5-bit register code of a sequencer instruction (R179, R534). -/
abbrev RegCode := BitVec 5

/-- Second operand of an integer instruction: bit 15 of the encoding chooses (R177). -/
inductive Src where
  | reg (r : RegCode)
  | imm (i : BitVec 15)
  deriving DecidableEq, Repr

/-- Where a control register access arrives (R12, R392). -/
inductive Access where
  /-- By a NoC initiator at a physical address, with a size in bytes. -/
  | ctl (who : InitId) (addr size : Nat)
  /-- By a host at an offset of a function's BAR0. -/
  | bar0 (p : PortId) (f : FnId) (off size : Nat)
  deriving DecidableEq, Repr

/-- What happens physically in a cluster cycle (R58, R464, R476). -/
inductive CellEvent where
  /-- The residue check of a cell fires. -/
  | residue (cell : CellId)
  /-- A bit of a memory word flips: one bit, or two. -/
  | upset (cell : CellId) (word : Fin 2048) (double : Bool)
  /-- A read finds a word uncorrectable: area 0 stream SRAM, 1 context store (planes, then program entries),
  2 sequencer memories in 4-byte words (instruction memory, then data memory) (R464). -/
  | lost (area : Fin 3) (index : Nat)
  /-- The comparator of a lockstep pair finds a mismatch; then firmware's known-answer check finds these cells failing, of the lead's
  cluster or (true) of the twin's (R476). -/
  | mismatch (failing : List (Bool × CellId))
  deriving DecidableEq, Repr

/-- A NoC memory request (R247): the address, words minus 1, SIZE, priority and write data. -/
structure Request where
  who : InitId
  tag : Nat
  addr : Nat
  len : Fin 16
  size : BitVec 2
  prio : Fin 4
  data : List Word
  deriving DecidableEq, Repr

/-- A memory request that an initiator sends now, or the one of an initiator's tag that reaches its target. -/
inductive ReqFrom where
  | send (r : Request)
  | flight (who : InitId) (tag : Nat)
  deriving DecidableEq, Repr

/-- The push that reaches its target, the first of an initiator that has arrived, or one that an initiator sends now. -/
inductive PushFrom where
  | flight (who : InitId)
  | direct (who : InitId) (tag : Nat) (prio : Fin 4) (q : QId) (words : List (Word × BitVec 4))
  deriving DecidableEq, Repr

/-- A change to a router's firewall masks or priority map (R272, R278). -/
inductive RtrSetting where
  | fwLo (p : Fin 4) (v : Reg)
  | fwHi (p : Fin 4) (v : Reg)
  | fwHub (p : Fin 4) (hub : Bool)
  | pmap (k : Fin 4) (v : Reg)
  deriving DecidableEq, Repr

/-- What the ECC decoder of a PC finds in the data of a column read (R304). -/
inductive EccEvent where
  | clean
  | corrected (lane : BitVec 6)
  | uncorrectable (syn : Reg)
  /-- Three or more wrong symbols that the code does not tell: the burst reads as other data. -/
  | wrong (data : BitVec 256)
  deriving DecidableEq, Repr

/-- Algorithms of the SPDM negotiation (R361). -/
inductive SpdmAlg where
  | ecdsaP384 | sha384 | secp384r1 | aes256gcm | other
  deriving DecidableEq, Repr

/-- IDE key management inside a session (R376): program a key of stream and direction, or tear down a stream. -/
inductive IdeMsg where
  | keyProg (stream : Fin 4) (dir : Fin 2) (key : List Byte)
  | teardown (stream : Fin 4)
  deriving DecidableEq, Repr

/-- The rate at which a host link has trained (R386). -/
inductive LinkRate where
  | gt64 | gt32 | gt16 | gt8 | gt5 | gt2_5
  deriving DecidableEq, Repr

/-- The three rings of a function (R388). -/
inductive RingKind where
  | sq | cq | nr
  deriving DecidableEq, Repr

/-- A transaction on BAR2 (R389): in a selective IDE stream or not, a write with data or a read. -/
structure Tlp where
  off : Nat
  /-- The IDE stream that it arrived in: 0 the link stream, 1 to 3 selective ones (R376). -/
  ide : Option (Fin 4)
  write : Option (List Byte)
  readLen : Nat
  tag : Nat
  deriving DecidableEq, Repr

/-- Why Scaeth restarts (R464, R443, R481). -/
inductive RestartCause where
  | mismatch | update | watchdog
  deriving DecidableEq, Repr

/-- Who issued a firmware command: the port (4 the owner port), the function and the TAG. -/
structure Issuer where
  port : VPort
  func : FnId
  tag : BitVec 16
  deriving DecidableEq, Repr

/-- Operands of REGION_ALLOC (R430). -/
structure AllocOp where
  ten : Byte
  x0 : Byte
  y0 : Byte
  w : Byte
  h : Byte
  maxp : Byte
  units : BitVec 16
  tcount : BitVec 16
  quota : BitVec 16
  scount : BitVec 16
  stk : Byte
  flags : Byte
  deriving DecidableEq, Repr

/-- A PC named by STACK, CHAN and PC (R418). -/
structure PcOp where
  stack : Byte
  chan : Byte
  pc : Byte
  deriving DecidableEq, Repr

/-- Widths of the write and the read eye of a byte lane that a sweep finds, in steps (R308). -/
structure Eye where
  write : BitVec 7
  read : BitVec 7
  deriving DecidableEq, Repr

/-- The eyes of the four byte lanes of a PC (R308). -/
structure Eyes where
  lane0 : Eye
  lane1 : Eye
  lane2 : Eye
  lane3 : Eye
  deriving DecidableEq, Repr

/-- What a stack reports with a parity error (R305): the syndrome, and which command it was, as its place in the trace, 0 newest. -/
structure ParityReport where
  syn : Reg
  back : BitVec 6
  deriving DecidableEq, Repr

/-- The result of the PMBus transactions of a step: how many tries failed (R505). -/
structure PmBus where
  fails : Nat
  deriving DecidableEq, Repr

/-- What the physical checks of a bring-up step find. -/
structure BringResult where
  /-- Eyes of the two anchors, by stack (R309). -/
  anchors : List (Eyes × Eyes)
  /-- Islands whose PLLs do not lock or whose memories do not clear (R467). -/
  islandFail : List IslId
  /-- Cells that fail the known-answer check, in order, each with its physical position (R467, R482). -/
  cellFail : List (ClId × CellId × BitVec 5)
  /-- Clusters whose spare cell fails its own check (R468). -/
  spareFail : List ClId
  /-- PCs whose sweep fails, or that are swept instead of loaded, with their eyes (R310). -/
  sweeps : List (PcId × Eyes)
  /-- PMBus tries that failed (R505). -/
  pm : PmBus
  /-- Voltage of the GPIO banks as VIO codes (R507). -/
  vio : List (BankId × BitVec 3)
  deriving DecidableEq, Repr

/-- A word lost on a migration (R470): area 0 stream SRAM, 1 context store, 2 sequencer memory, 3 a cell's word. -/
structure MigLoss where
  area : Fin 4
  cell : CellId
  index : Nat
  /-- In the pair partner that moves too. -/
  partner : Bool := false
  deriving DecidableEq, Repr

/-- A block code of Cairn (R479). -/
structure CairnBlock where
  code : Byte
  inst : BitVec 24
  deriving DecidableEq, Repr

/-- A received frame (R486 to R494): its bytes from the destination MAC without FCS, and what the MAC found. -/
structure RxFrame where
  bytes : List Byte
  fcsOk : Bool
  macsecOk : Bool
  secure : Bool
  pause : Bool
  deriving DecidableEq, Repr

/-- A clock domain with a PLL pair: an island, or a NoC quadrant (R456). -/
inductive PllDomain where
  | island (i : IslId)
  | quadrant (d : Fin 4)
  deriving DecidableEq, Repr

/-- The two sources of the ILLEGAL_INSTRUCTION row: an undefined opcode, or a fetch that finds no instruction. -/
inductive IllegalKind where
  | opcode3E
  | opcode3F
  | fetch (addr : Reg)
  deriving DecidableEq, Repr

/-- The levels of the Rope's lines that a device sees: whether ROPE_DONE_N and ROPE_FAULT_N read high (R343, R353). -/
structure RopeLines where
  done : Bool
  fault : Bool
  deriving DecidableEq, Repr

/-- The commands of the block: one constructor per row of spec/opcode_table.json. -/
inductive Instr where
  /-- REGISTER_WRITE (R7): A write to a register field that has no row of its own takes effect according to the field's access code, with undefined encodings left unchanged. -/
  | registerWrite (a : Access) (v : BitVec 64)
  /-- RC_READ (R7): A read of a read-to-clear field returns its value and then clears every bit of the field. -/
  | rcRead (a : Access)
  /-- DEV_IDENTITY (R428): The command returns the device class, stepping, life-cycle state and DeviceID hash. -/
  | devIdentity (i : Issuer)
  /-- DEV_STATUS (R428): The command returns the device state, mode, tenants, islands and stacks. -/
  | devStatus (i : Issuer)
  /-- TIME_GET (R428): The command returns the device time and the PTP lock. -/
  | timeGet (i : Issuer)
  /-- TIME_STEP (R31): The command steps the time base forward, or refuses a backward step. -/
  | timeStep (i : Issuer) (t : BitVec 64)
  /-- ABORT (R405): The command marks a target command to stop. -/
  | abort (i : Issuer) (target : BitVec 16)
  /-- MODE_SET (R453): The command changes the operating mode through the drain, voltage and clock steps. -/
  | modeSet (i : Issuer) (mode : Byte) (off len : Reg)
  /-- MODE_CHANGE_STEP (R453): The next step of a mode change runs once the previous step has completed. -/
  | modeChangeStep (pm : PmBus)
  /-- TICK_SET (R218): The command sets the Belay delay tick. -/
  | tickSet (i : Issuer) (ns : Reg)
  /-- TENANT_CREATE (R365): The command creates tenant Tn on its host port. -/
  | tenantCreate (i : Issuer) (ten : Byte)
  /-- TENANT_EVICT (R378): The command releases the tenant's regions, ends its session and clears its signer. -/
  | tenantEvict (i : Issuer) (ten : Byte)
  /-- REGION_ALLOC (R431): The command allocates a region with its rectangle, units, tasks, quota and sessions. -/
  | regionAlloc (i : Issuer) (a : AllocOp)
  /-- REGION_RESIZE (R432): The command adds units to, or removes and wipes units from, the end of the unit list. -/
  | regionResize (i : Issuer) (r : Byte) (units : BitVec 16) (stk : Byte)
  /-- REGION_RELEASE (R380): The command aborts the region's loads, destroys its key, clears its clusters, zero-fills its units and frees them. -/
  | regionRelease (i : Issuer) (r : Byte)
  /-- REGION_INFO (R430): The command returns a region's allocation or flags. -/
  | regionInfo (i : Issuer) (r item : Byte)
  /-- REGION_LOAD (R323): The command fetches and loads a region image through the tenant's context. -/
  | regionLoad (i : Issuer) (r : Byte) (addr : BitVec 64) (len : Reg)
  /-- QUOTA_SET (R433): The command sets a region's quota, retrying held events when it rises. -/
  | quotaSet (i : Issuer) (r : Byte) (quota : BitVec 16)
  /-- PRIO_SET (R433): The command sets a region's maximum NoC priority. -/
  | prioSet (i : Issuer) (r maxp : Byte)
  /-- STANDBY_SET (R430): The command sets the hot-standby clusters. -/
  | standbySet (i : Issuer) (mask : BitVec 256)
  /-- SIGNER_REG (R434): The command registers the tenant's hybrid signer keys. -/
  | signerReg (i : Issuer) (addr : BitVec 64) (len : Reg) (hash : BitVec 192) (blob : Option (List Byte))
  /-- SVN_RAISE (R434): The command raises a signer's SVN minimum. -/
  | svnRaise (i : Issuer) (svn : Reg)
  /-- SESSION_RULE (R435): The command installs a steering rule mapping matched traffic to a queue. -/
  | sessionRule (i : Issuer) (sess : BitVec 16) (port profile : Byte) (qid : BitVec 16) (key : BitVec 256)
  /-- SESSION_CLEAR (R435): The command removes a session's steering rule. -/
  | sessionClear (i : Issuer) (sess : BitVec 16)
  /-- SESSION_SHAPE (R497): The command sets a session's egress rate and burst. -/
  | sessionShape (i : Issuer) (sess : BitVec 16) (rate burst : Reg)
  /-- MOVER_ASSIGN (R157): The command assigns or unassigns a mover to a region. -/
  | moverAssign (i : Issuer) (m r : Byte)
  /-- BAR2_BIND (R389): The command binds the BAR2 window to a region, or unbinds it. -/
  | bar2Bind (i : Issuer) (r : Byte)
  /-- PUSHWIN_BIND (R409): The command binds a push-window slot to a HOST queue, or unbinds it. -/
  | pushwinBind (i : Issuer) (slot : Byte) (qid : BitVec 16)
  /-- PORT_CFG (R488): The command sets an Ethernet port's breakout and MACsec settings, or a GPIO bank record. -/
  | portCfg (i : Issuer) (port split : Byte) (off len : Reg)
  /-- PTP_SOURCE (R499): The command chooses the PTP source port, or none. -/
  | ptpSource (i : Issuer) (port : Byte)
  /-- MOVER_POST (R436): The command posts a descriptor to a mover as one indivisible action. -/
  | moverPost (i : Issuer) (m : Byte) (desc : BitVec 256)
  /-- MOVER_STATUS (R436): The command returns a mover's status and clears ERR and DFULL. -/
  | moverStatus (i : Issuer) (m : Byte)
  /-- QUEUE_CFG (R136): The command sets a disabled queue's base, depth, producer and consumer. -/
  | queueCfg (i : Issuer) (qid base depth : BitVec 16) (prod cons psrc : Byte)
  /-- QUEUE_ENABLE (R137): The command enables a queue, resetting its count, pointers and sticky bits. -/
  | queueEnable (i : Issuer) (qid : BitVec 16)
  /-- QUEUE_DISABLE (R137): The command disables a queue, discarding its words and pending notices. -/
  | queueDisable (i : Issuer) (qid : BitVec 16)
  /-- FWD_CFG (R438): The command configures and enables, or disables, a forward channel. -/
  | fwdCfg (i : Issuer) (srcq : BitVec 16) (chan en tkind prio : Byte) (target cred : BitVec 16)
  /-- QMODE_SET (R169): The command sets or clears the cluster's forerunner memory tiles. -/
  | qmodeSet (i : Issuer) (cl um : Byte)
  /-- TASK_WRITE (R208): The command writes a task descriptor and makes the task DORMANT. -/
  | taskWrite (i : Issuer) (task : BitVec 16) (desc : BitVec 272)
  /-- TASK_ARM (R208): The command loads the counter of a DORMANT task from INIT and makes it WAITING. -/
  | taskArm (i : Issuer) (task : BitVec 16)
  /-- TASK_REMOVE (R208): The command makes a DORMANT or WAITING task FREE. -/
  | taskRemove (i : Issuer) (task : BitVec 16)
  /-- TASK_QUERY (R437): The command returns a task's state, counter and excess count. -/
  | taskQuery (i : Issuer) (task : BitVec 16)
  /-- TASK_SIGNAL (R439): The command delivers a host event that decrements a task's counter. -/
  | taskSignal (i : Issuer) (task : BitVec 16)
  /-- TIMER_SET (R220): The command assigns a Belay timer to a region and task and sets its period. -/
  | timerSet (i : Issuer) (t : BitVec 16) (r : Byte) (task : BitVec 16) (period : Reg)
  /-- HBM_ORDER (R285): The command sets a stack's address order. -/
  | hbmOrder (i : Issuer) (stack order : Byte)
  /-- PC_REPAIR (R306): The command repairs a frozen PC with soft or hard post-package repair. -/
  | pcRepair (i : Issuer) (pc : PcOp) (hard : Byte) (ok : Bool)
  /-- PC_RETIRE (R307): The command retires a PC. -/
  | pcRetire (i : Issuer) (pc : PcOp)
  /-- PC_RESWEEP (R441): The command runs a full sweep of a PC and reports its eyes. -/
  | pcResweep (i : Issuer) (pc : PcOp) (lanes : Eyes)
  /-- MEM_MIRROR (R441): The command starts mirroring a region's PCs after copying them, or ends it. -/
  | memMirror (i : Issuer) (r en : Byte)
  /-- HBM_STATS (R440): The command returns a PC's statistics and state. -/
  | hbmStats (i : Issuer) (pc : PcOp)
  /-- NOC_STATS (R442): The command returns an initiator's NoC statistics. -/
  | nocStats (i : Issuer) (id : BitVec 16) (item : Byte)
  /-- ROUTER_STATS (R442): The command returns a router's counters and lane state. -/
  | routerStats (i : Issuer) (r : Byte)
  /-- BELAY_STATS (R442): The command returns a region's Belay counters and clears EXSAT. -/
  | belayStats (i : Issuer) (r : Byte)
  /-- NOC_TIMEOUT (R442): The command sets an initiator's timeout. -/
  | nocTimeout (i : Issuer) (id : BitVec 16) (tous : Reg)
  /-- EVENT_LOG (R442): The command returns one event-log entry. -/
  | eventLog (i : Issuer) (index : Reg)
  /-- CAIRN_STATUS (R442): The command returns Cairn's pass, not-run and failure counts. -/
  | cairnStatus (i : Issuer)
  /-- STAGE (R425): The command writes 32 bytes into the stage buffer. -/
  | stage (i : Issuer) (off : Reg) (data : BitVec 256)
  /-- FW_UPDATE (R443): The command verifies Scaeth firmware, writes it into the inactive slot and activates it. -/
  | fwUpdate (i : Issuer) (off len : Reg)
  /-- FW_UPDATE_TIMEOUT (R443): The new firmware does not serve within 50 ms, so Scaeth returns to the old slot and HW_FAULT is reported. -/
  | fwUpdateTimeout
  /-- FULL_LOAD (R322): The command loads a full image from boot flash or the stage buffer. -/
  | fullLoad (i : Issuer) (src : Byte) (off len : Reg)
  /-- ROPE_CTL (R442): The command sets GHI, releases ROPE_FAULT_N or starts listening on the Rope. -/
  | ropeCtl (i : Issuer) (ghi act : Byte)
  /-- LC_CLAIM (R355): The command claims a BLANK device for an owner. -/
  | lcClaim (i : Issuer) (off len : Reg)
  /-- LC_SEAL (R355): The command moves PROVISIONED to OWNED. -/
  | lcSeal (i : Issuer)
  /-- LC_UNSEAL (R355): The command evicts every tenant and moves OWNED to PROVISIONED. -/
  | lcUnseal (i : Issuer)
  /-- LC_DEBUG (R357): The command destroys secrets and enters DEBUG. -/
  | lcDebug (i : Issuer) (off len : Reg)
  /-- LC_DEBUG_EXIT (R355): The command moves DEBUG to PROVISIONED. -/
  | lcDebugExit (i : Issuer)
  /-- LC_RETIRE (R355): The command destroys every key and retires the device permanently. -/
  | lcRetire (i : Issuer) (confirm : Reg)
  /-- FLEET_KEY (R368): The command installs the wrapped fleet key. -/
  | fleetKey (i : Issuer) (off len : Reg)
  /-- OWNER_SIGNER (R367): The command stores the owner signer's public keys. -/
  | ownerSigner (i : Issuer) (off len : Reg)
  /-- CLUSTER_CYCLE (R119): In one island cycle a cluster either advances, carrying out every action of its governing plane, or stalls. -/
  | clusterCycle (c : ClId) (ev : List CellEvent)
  /-- CELL_MEMORY_ACCESS (R57): An outside access to cell memory waits for a free port and then reads or writes the word. -/
  | cellMemoryAccess (c : ClId) (cell : CellId)
  /-- START (R87): A CTX_RUN write with START set makes the next advancing selection start the program at ENTRY. -/
  | start (who : InitId) (c : ClId) (entry : BitVec 7) (alsoPark : Bool)
  /-- PARK (R87): A CTX_RUN write with PARK set makes the next advancing selection park the cluster. -/
  | park (who : InitId) (c : ClId)
  /-- CTX_CTICK_LO_READ (R108): A read of CTX_CTICK_LO latches CTX_CTICK_HI for the next read. -/
  | ctxCtickLoRead (who : InitId) (c : ClId)
  /-- REGION_COMMIT (R101): At its first edge at or after T, a cluster inverts LIVE and PBANK, discards operations in flight and loads its initial values. -/
  | regionCommit (c : ClId)
  /-- SPARE_REPAIR (R104): A cluster's spare replaces a failed cell: planes are regenerated and a repair tick is set. -/
  | spareRepair (c : ClId) (cell : CellId) (phys : BitVec 5)
  /-- REPAIR_PAUSE (R104): At the repair tick, the cluster moves the state of the shifted cells and then inverts LIVE. -/
  | repairPause (c : ClId) (bad : List (Fin 2048)) (cycles : Fin 2177)
  /-- LINK_WORD_LANDING (R128): A word pushed on a link lands in its target queue after the link latency. -/
  | linkWordLanding (c : ClId) (l : LinkId)
  /-- LINK_CREDIT_ARRIVAL (R126): A credit returned by a pop becomes usable at the sending cluster. -/
  | linkCreditArrival (c : ClId) (l : LinkId)
  /-- STAGED_WORD_ENTRY (R144): A non-blocking arrival leaves the ingress staging and enters its queue. -/
  | stagedWordEntry (q : QId)
  /-- STALE_TIMEOUT (R148): A non-empty queue goes STALE × 64 ns without a pop, so SX sets and the stale notice is raised. -/
  | staleTimeout (q : QId)
  /-- SQ_STALE_WRITE (R148): A write of SQ_STALE sets the timeout and restarts the stale timer. -/
  | sqStaleWrite (who : InitId) (q : QId) (v : Reg)
  /-- NOTICE_DELIVERY (R150): The head pending notice of a queue leaves toward its target once the previous notice has been answered. -/
  | noticeDelivery (q : QId)
  /-- FORWARD_CHANNEL_SEND (R153): A forward channel sends its packed words as one remote push when a send condition holds. -/
  | forwardChannelSend (c : ClId) (ch : ChId)
  /-- SQ_MVPOST (R159): A write to SQ_MVPOST posts the staged descriptor to the mover, or sets DFULL. -/
  | sqMvpost (who : InitId) (m : MvId) (v : Reg)
  /-- MOVER_DESCRIPTOR_START (R163): A mover begins its next descriptor and checks it in the order BADDESC, ADDR, TARGET. -/
  | moverDescriptorStart (m : MvId)
  /-- MOVER_WORD_TRANSFER (R161): A mover moves a word between its source and destination as KIND states. -/
  | moverWordTransfer (m : MvId) (host : Option Word)
  /-- MOVER_COMPLETION (R164): A descriptor completes: the mover records its status and word count and raises a notice. -/
  | moverCompletion (m : MvId)
  /-- ADD (R177): The sequencer adds two values. -/
  | add (c : ClId) (rd ra : RegCode) (b : Src)
  /-- SUB (R177): The sequencer subtracts one value from another. -/
  | sub (c : ClId) (rd ra : RegCode) (b : Src)
  /-- AND (R177): The sequencer forms a bitwise AND. -/
  | and (c : ClId) (rd ra : RegCode) (b : Src)
  /-- OR (R177): The sequencer forms a bitwise OR. -/
  | or (c : ClId) (rd ra : RegCode) (b : Src)
  /-- XOR (R177): The sequencer forms a bitwise XOR. -/
  | xor (c : ClId) (rd ra : RegCode) (b : Src)
  /-- ANDN (R177): The sequencer forms an AND with the inverted second operand. -/
  | andn (c : ClId) (rd ra : RegCode) (b : Src)
  /-- SHL (R177): The sequencer shifts left. -/
  | shl (c : ClId) (rd ra : RegCode) (b : Src)
  /-- SHR (R177): The sequencer shifts right logically. -/
  | shr (c : ClId) (rd ra : RegCode) (b : Src)
  /-- SHRA (R177): The sequencer shifts right arithmetically. -/
  | shra (c : ClId) (rd ra : RegCode) (b : Src)
  /-- MINS (R177): The sequencer takes the signed minimum. -/
  | mins (c : ClId) (rd ra : RegCode) (b : Src)
  /-- MAXS (R177): The sequencer takes the signed maximum. -/
  | maxs (c : ClId) (rd ra : RegCode) (b : Src)
  /-- MINU (R177): The sequencer takes the unsigned minimum. -/
  | minu (c : ClId) (rd ra : RegCode) (b : Src)
  /-- MAXU (R177): The sequencer takes the unsigned maximum. -/
  | maxu (c : ClId) (rd ra : RegCode) (b : Src)
  /-- SETLT (R177): The sequencer sets 1 when the first operand is less than the second, signed. -/
  | setlt (c : ClId) (rd ra : RegCode) (b : Src)
  /-- SETLTU (R177): The sequencer sets 1 when the first operand is less than the second, unsigned. -/
  | setltu (c : ClId) (rd ra : RegCode) (b : Src)
  /-- MOVH (R177): The sequencer writes an immediate into the upper half of rd. -/
  | movh (c : ClId) (rd : RegCode) (imm : BitVec 16)
  /-- MUL (R177): The sequencer returns the low 32 bits of a product. -/
  | mul (c : ClId) (rd ra : RegCode) (b : Src)
  /-- MULHI (R177): The sequencer returns the high 32 bits of a signed product. -/
  | mulhi (c : ClId) (rd ra : RegCode) (b : Src)
  /-- QUO (R177): The sequencer divides on the shared integer divider. -/
  | quo (c : ClId) (rd ra : RegCode) (b : Src)
  /-- REM (R177): The sequencer forms a remainder on the shared integer divider. -/
  | rem (c : ClId) (rd ra : RegCode) (b : Src)
  /-- LDB (R177): The sequencer loads a byte with sign extension. -/
  | ldb (c : ClId) (rd ra : RegCode) (off : BitVec 16)
  /-- LDBZ (R177): The sequencer loads a byte with zero extension. -/
  | ldbz (c : ClId) (rd ra : RegCode) (off : BitVec 16)
  /-- LDH (R177): The sequencer loads a halfword with sign extension. -/
  | ldh (c : ClId) (rd ra : RegCode) (off : BitVec 16)
  /-- LDHZ (R177): The sequencer loads a halfword with zero extension. -/
  | ldhz (c : ClId) (rd ra : RegCode) (off : BitVec 16)
  /-- LDW (R177): The sequencer loads a word. -/
  | ldw (c : ClId) (rd ra : RegCode) (off : BitVec 16)
  /-- STB (R177): The sequencer stores a byte. -/
  | stb (c : ClId) (rs ra : RegCode) (off : BitVec 16)
  /-- STH (R177): The sequencer stores a halfword. -/
  | sth (c : ClId) (rs ra : RegCode) (off : BitVec 16)
  /-- STW (R177): The sequencer stores a word. -/
  | stw (c : ClId) (rs ra : RegCode) (off : BitVec 16)
  /-- BZ (R177): The sequencer branches when the register is zero. -/
  | bz (c : ClId) (ra : RegCode) (off : BitVec 16)
  /-- BNZ (R177): The sequencer branches when the register is not zero. -/
  | bnz (c : ClId) (ra : RegCode) (off : BitVec 16)
  /-- BLZ (R177): The sequencer branches when the register is below zero. -/
  | blz (c : ClId) (ra : RegCode) (off : BitVec 16)
  /-- BGEZ (R177): The sequencer branches when the register is zero or more. -/
  | bgez (c : ClId) (ra : RegCode) (off : BitVec 16)
  /-- BGZ (R177): The sequencer branches when the register is above zero. -/
  | bgz (c : ClId) (ra : RegCode) (off : BitVec 16)
  /-- BLEZ (R177): The sequencer branches when the register is zero or less. -/
  | blez (c : ClId) (ra : RegCode) (off : BitVec 16)
  /-- JL (R177): The sequencer jumps by an offset and links. -/
  | jl (c : ClId) (rd : RegCode) (off : BitVec 21)
  /-- JR (R177): The sequencer jumps to a register address and links. -/
  | jr (c : ClId) (rd ra : RegCode)
  /-- FPADD (R534): The sequencer performs a floating-point add. -/
  | fpadd (c : ClId) (d a b : RegCode) (p : Bool)
  /-- FPSUB (R534): The sequencer performs a floating-point subtract. -/
  | fpsub (c : ClId) (d a b : RegCode) (p : Bool)
  /-- FPMUL (R534): The sequencer performs a floating-point multiply. -/
  | fpmul (c : ClId) (d a b : RegCode) (p : Bool)
  /-- FPFMA (R534): The sequencer performs a fused multiply-add. -/
  | fpfma (c : ClId) (d a b x : RegCode) (p : Bool)
  /-- FPDIV (R534): The sequencer performs a floating-point divide on the unpipelined divider. -/
  | fpdiv (c : ClId) (d a b : RegCode) (p : Bool)
  /-- FPCVT (R534): The sequencer performs the conversion that FN selects. -/
  | fpcvt (c : ClId) (d a fn : RegCode) (p : Bool)
  /-- FPCMP (R534): The sequencer compares two floating-point values into an integer register. -/
  | fpcmp (c : ClId) (d a b fn : RegCode) (p : Bool)
  /-- FPMIN (R534): The sequencer takes the floating-point minimum. -/
  | fpmin (c : ClId) (d a b : RegCode) (p : Bool)
  /-- FPMAX (R534): The sequencer takes the floating-point maximum. -/
  | fpmax (c : ClId) (d a b : RegCode) (p : Bool)
  /-- FPMOV (R534): The sequencer performs the move that FN selects. -/
  | fpmov (c : ClId) (d a fn : RegCode) (p : Bool)
  /-- FPLD (R534): The sequencer loads an f register. -/
  | fpld (c : ClId) (d ra : RegCode) (p : Bool) (off : BitVec 15)
  /-- FPST (R534): The sequencer stores an f register. -/
  | fpst (c : ClId) (d ra : RegCode) (p : Bool) (off : BitVec 15)
  /-- ENTER (R181): The sequencer allocates a new window frame or raises a window-overflow trap. -/
  | enter (c : ClId)
  /-- LEAVE (R182): The sequencer returns to the caller's frame, raises underflow, or ends the task at the root frame. -/
  | leave (c : ClId)
  /-- DONE (R196): The sequencer ends the task with status OK. -/
  | done (c : ClId)
  /-- FAIL (R196): The sequencer ends the task with status FAIL and an 8-bit code. -/
  | fail (c : ClId) (code : Byte)
  /-- FAILR (R204): The sequencer ends a task with a status taken from a register. -/
  | failr (c : ClId) (ra : RegCode)
  /-- RETT (R187): The sequencer ends the trap handler and resumes the trapped task or the next task. -/
  | rett (c : ClId)
  /-- SPILLW (R185): The sequencer stores a live frame to its task's spill area, or ends the task with SPILLOVF. -/
  | spillw (c : ClId) (ra : RegCode)
  /-- FILLW (R186): The sequencer loads the last spilled frame into a free window. -/
  | fillw (c : ClId) (ra : RegCode)
  /-- RDC (R204): The sequencer reads a sequencer control register. -/
  | rdc (c : ClId) (rd : RegCode) (idx : Byte)
  /-- WAITE (R202): The sequencer continues when a masked event is pending, and waits otherwise. -/
  | waite (c : ClId) (mask : BitVec 9)
  /-- CLRE (R202): The sequencer clears the masked event bits. -/
  | clre (c : ClId) (mask : BitVec 9)
  /-- CSTART (R203): The sequencer writes CTX_RUN with START and ENTRY. -/
  | cstart (c : ClId) (entry : BitVec 7)
  /-- CPARK (R203): The sequencer writes CTX_RUN with PARK. -/
  | cpark (c : ClId)
  /-- CSTAT (R203): The sequencer reads CTX_STAT into a register. -/
  | cstat (c : ClId) (rd : RegCode)
  /-- EVENT_LINE (R201): A queue-notice line reaches the sequencer and sets its event bit. -/
  | eventLine (c : ClId) (line : Fin 8)
  /-- TASK_START_TAKEN (R193): At an instruction boundary, the sequencer takes a start from Belay and allocates the root frame. -/
  | taskStartTaken (c : ClId)
  /-- PREEMPTION_TAKEN (R193): The sequencer takes a pre-emption, saves the top task's program counter and starts the new task above it. -/
  | preemptionTaken (c : ClId)
  /-- SEQUENCER_MEMORY_ACCESS (R174): An outside access to sequencer data memory proceeds in the first cycle the sequencer leaves it free. -/
  | sequencerMemoryAccess (c : ClId)
  /-- DEPENDENCE_DECREMENT (R212): Belay takes an event and decrements a task's counter, or adds to its excess count. -/
  | dependenceDecrement
  /-- COMPLETION_PROCESSING (R226): Belay processes a completion: it releases the unit, reloads or retires the task, decrements successors and sends a notice. -/
  | completionProcessing
  /-- DELAY_EXPIRY (R219): Tasks whose wake time has been reached leave the delay list for the ready lists. -/
  | delayExpiry
  /-- TIMER_EXPIRY (R220): A Belay timer reaches its due time, sends one event and counts any missed due times. -/
  | timerExpiry (t : TmrId)
  /-- HELD_EVENT_RETRY (R229): After a unit is released or the quota is raised, the region's held events and quota-held tasks are retried. -/
  | heldEventRetry (r : RgId)
  /-- DISPATCH (R223): Belay sends a start or pre-emption for a candidate to its sequencer. -/
  | dispatch
  /-- BLY_TMR_WRITE (R239): A write of a timer block sets or enables the timer, or is refused while the timer runs. -/
  | blyTmrWrite (who : InitId) (t : TmrId) (second : Bool) (v : Reg)
  /-- RD (R248): A read request reaches its target and is answered with RDATA or ERR. -/
  | rd (r : ReqFrom)
  /-- WR (R248): A write request reaches its target and is answered with ACK or ERR. -/
  | wr (r : ReqFrom)
  /-- WRP (R248): A posted write reaches its target. -/
  | wrp (r : ReqFrom)
  /-- PUSH (R152): A remote push reaches its queue, enters word by word and is answered with PUSHACK. -/
  | push (p : PushFrom)
  /-- PUSHP (R248): A posted push reaches its queue or a mover's input buffer. -/
  | pushp (p : PushFrom)
  /-- CRD (R248): A credit packet returns credits to a forward channel. -/
  | crd (i : InitId)
  /-- EVT (R248): An event packet carries a notice, a completion or a Belay start to its receiver. -/
  | evt (i : InitId)
  /-- TOREP (R264): A timeout report reaches the target, which cancels the named request if it still waits. -/
  | torep (i : InitId) (tag : Nat)
  /-- RDATA (R266): A read response reaches its initiator and is delivered or dropped by its tag and generation. -/
  | rdata (i : InitId) (tag lat : Nat)
  /-- ACK (R266): A write acknowledgement reaches its initiator. -/
  | ack (i : InitId) (tag lat : Nat)
  /-- PUSHACK (R266): A push acknowledgement reaches its initiator with the number of words pushed. -/
  | pushack (i : InitId) (tag lat : Nat)
  /-- ERR (R266): An error response reaches its initiator. -/
  | err (i : InitId) (tag lat : Nat)
  /-- REQUEST_TIMEOUT (R264): A non-posted request times out: the client gets TIMEOUT, the tag is quarantined and TOREP is sent. -/
  | requestTimeout (i : InitId) (tag : Nat)
  /-- QUARANTINE_END (R265): A quarantined tag returns to the free pool with a new generation. -/
  | quarantineEnd (i : InitId) (tag : Nat)
  /-- ABSORB_SET_DEAD (R267): A firmware write of NOC_ABS.STATE = 0b01 puts the port into absorb mode as dead. -/
  | absorbSetDead (who : InitId) (r : RtrId) (p : Fin 4)
  /-- ABSORB_CLEAR (R269): A firmware write of STATE = 0b00, or of PCDEAD bits to 0, ends absorb mode as dead. -/
  | absorbClear (who : InitId) (r : RtrId) (p : Fin 4) (keepPc : BitVec 2)
  /-- ROUTER_SETTING_WRITE (R272): A write to the firewall masks or the priority map sets PEND and waits for a packet boundary. -/
  | routerSettingWrite (who : InitId) (r : RtrId) (w : RtrSetting)
  /-- PACKET_BOUNDARY_CHANGE (R272): Once the router holds no granted packet, its pending changes apply and PEND clears. -/
  | packetBoundaryChange (r : RtrId)
  /-- FENCE_REQUEST (R270): The power controller asks for a fence of an island's local ports. -/
  | fenceRequest (i : IslId)
  /-- FENCE_ACKNOWLEDGE (R270): Outstanding transactions of the island complete, and the fence is acknowledged. -/
  | fenceAcknowledge (i : IslId)
  /-- FLIT_CRC_FAIL (R273): The receiver refuses a flit whose CRC fails, and the sender replays it. -/
  | flitCrcFail (r : RtrId) (d : Fin 4)
  /-- LANE_PARITY_ERROR (R274): A lane parity error is counted, and eight within 1 ms retire the lane. -/
  | laneParityError (r : RtrId) (d : Fin 4) (lane : Fin 68)
  /-- HBM_REQUEST_ENQUEUE (R291): A request leaves the controller port into its PC's queue when an entry is free. -/
  | hbmRequestEnqueue (s : StackId) (ch : Fin 16)
  /-- HBM_SCHEDULE (R293): In a controller cycle, the PC scheduler issues the next allowed command by urgency, merging and age. -/
  | hbmSchedule (p : PcId) (ecc : EccEvent)
  /-- COMMAND_PARITY_ERROR (R305): The stack reports a command or address parity error, and the PC freezes. -/
  | commandParityError (p : PcId) (rep : ParityReport)
  /-- REFRESH_DUE (R299): A refresh falls due and is issued, or is postponed while a class-2 request is queued. -/
  | refreshDue (p : PcId)
  /-- OWED_REFRESH_RUN (R300): The owed refreshes are issued back to back. -/
  | owedRefreshRun (p : PcId)
  /-- RETRAINING_PAUSE (R311): After a refresh, one byte lane is tested at ±1 step and its delay adjusted. -/
  | retrainingPause (p : PcId) (lane : Fin 8) (lowOk highOk : Bool) (margin : Nat)
  /-- DQ_LANE_REMAP (R312): A failing data lane is remapped to a spare during a retraining pause. -/
  | dqLaneRemap (p : PcId) (lane : BitVec 6)
  /-- SELF_REFRESH_ENTRY (R302): After the idle time, a PC issues its owed refreshes, enters self-refresh and stops its clocks. -/
  | selfRefreshEntry (p : PcId)
  /-- SELF_REFRESH_EXIT (R303): A request arrives and the PC exits self-refresh before serving it. -/
  | selfRefreshExit (p : PcId)
  /-- STACK_TEMPERATURE_CHANGE (R299): The stack's temperature crosses 85 °C or 82 °C, and the refresh interval changes. -/
  | stackTemperatureChange (s : StackId) (temp : Byte)
  /-- FULL_SWEEP (R308): A PC's read and write delays are swept, centred and judged against an eye of 12 steps. -/
  | fullSweep (p : PcId) (lanes : Eyes)
  /-- TRAINING_STORE (R310): Firmware stores the training delays in flash at 60 s and then hourly when they have changed. -/
  | trainingStore
  /-- STACK_RATE_CHANGE (R313): A stack moves to 9.2 Gb/s and answers FENCED during the move; given again, the move ends. -/
  | stackRateChange (s : StackId) (anchors : Eyes × Eyes)
  /-- RESUME (R306): A write of HMC_PCCTL.RESUME restarts a frozen scheduler. -/
  | resume (who : InitId) (p : PcId)
  /-- RETIRE (R307): A write of HMC_PCCTL.RETIRE retires the PC permanently. -/
  | retire (who : InitId) (p : PcId)
  /-- LOAD_HEADER (R327): The loader checks an image header in order and fails the load at the first failing check. -/
  | loadHeader (x : CtxId) (bytes : List Byte)
  /-- FRAME (R331): The loader takes a frame and checks its CRC, order, region and segment continuity. -/
  | frame (x : CtxId) (bytes : List Byte)
  /-- CODE_WRITE (R336): The loader writes the held code once the sequencer has no resident task. -/
  | codeWrite (c : ClId)
  /-- COMMIT_DEADLINE (R100): T − 10 µs passes before verification ends, so the load fails with COMMIT_MISSED. -/
  | commitDeadline (x : CtxId)
  /-- WAIT_LOCK (R340): The wake step waits until the PLLs and time-base distribution are locked. -/
  | waitLock
  /-- ENABLE_WRITES (R340): The wake step lifts the write barrier on covered memories. -/
  | enableWrites
  /-- RELEASE_SETRESET (R340): The wake step sets a commit tick and commits every covered cluster. -/
  | releaseSetreset
  /-- RELEASE_OUTPUTS (R340): The wake step ends the partly-loaded pin states. -/
  | releaseOutputs
  /-- DELAY (R340): The wake step waits the given number of microseconds. -/
  | delay
  /-- WAIT_DONE_LINE (R340): The wake step waits until ROPE_DONE_N reads high. -/
  | waitDoneLine (lines : RopeLines)
  /-- WAKE_STEP_TIMEOUT (R343): A wake step's timeout expires, and the load ends with WAKE_TIMEOUT or WAKE_INCOMPLETE. -/
  | wakeStepTimeout
  /-- SOI (R344): A start-of-image control block begins a Rope image. -/
  | soi
  /-- EOI (R344): An end-of-image control block ends a Rope image. -/
  | eoi
  /-- IDLE (R344): An idle control block carries no image data. -/
  | idle
  /-- ROPE_DATA_BLOCK (R344): A data block carries 8 image bytes. -/
  | ropeDataBlock (bytes : List Byte)
  /-- ROPE_UNKNOWN_CONTROL (R344): A control block of another type is ignored and counted in CFG_RERR. -/
  | ropeUnknownControl (type : Byte)
  /-- ROPE_LOCK_LOSS (R348): Loss of block lock inside an image ends it with ROPE_LOCK. -/
  | ropeLockLoss
  /-- ROPE_IDLE_TIMEOUT (R348): No data block arrives for CFG_RTO.MS, and the image ends with EARLY_END. -/
  | ropeIdleTimeout
  /-- CFG_LTKL_READ (R353): A read of CFG_LTKL latches CFG_LTKH for the next read. -/
  | cfgLtklRead (who : InitId) (x : CtxId)
  /-- GET_VERSION (R361): The SPDM responder answers GET_VERSION. -/
  | getVersion (p : PortId)
  /-- GET_CAPABILITIES (R361): The SPDM responder answers GET_CAPABILITIES. -/
  | getCapabilities (p : PortId)
  /-- NEGOTIATE_ALGORITHMS (R361): The SPDM responder negotiates the offered algorithms. -/
  | negotiateAlgorithms (p : PortId) (offer : List SpdmAlg)
  /-- GET_DIGESTS (R361): The SPDM responder returns certificate digests. -/
  | getDigests (p : PortId)
  /-- GET_CERTIFICATE (R360): The SPDM responder returns the certificate chain of slot 0. -/
  | getCertificate (p : PortId) (slot : Nat)
  /-- CHALLENGE (R361): The SPDM responder answers a challenge. -/
  | challenge (p : PortId) (nonce : List Byte)
  /-- GET_MEASUREMENTS (R363): The SPDM responder returns measurement blocks signed with Alias1. -/
  | getMeasurements (p : PortId) (index : Nat) (nonce : List Byte)
  /-- KEY_EXCHANGE (R362): The SPDM responder begins a session, or refuses it when a session is open. -/
  | keyExchange (p : PortId) (share : List Byte)
  /-- FINISH (R369): The SPDM responder completes session setup, creates the session keys and resets SEQ. -/
  | finish (p : PortId) (verify : List Byte)
  /-- HEARTBEAT (R361): The SPDM responder answers a heartbeat. -/
  | heartbeat (p : PortId)
  /-- KEY_UPDATE (R361): The SPDM responder updates the session keys. -/
  | keyUpdate (p : PortId)
  /-- END_SESSION (R362): The SPDM session ends and its secrets are destroyed. -/
  | endSession (p : PortId)
  /-- IDE_KM (R376): IDE key-management messages inside the session program the port's IDE keys. -/
  | ideKm (p : PortId) (m : IdeMsg)
  /-- PE_PERST_N_ASSERT (R385): PE_PERST_N falls, and the host port's link goes down. -/
  | pePerstNAssert (p : PortId)
  /-- PE_PERST_N_DEASSERT (R385): PE_PERST_N rises, and the port begins link training. -/
  | pePerstNDeassert (p : PortId)
  /-- HOST_LINK_UP (R387): A host link completes training, and its rate decides full or slow service. -/
  | hostLinkUp (p : PortId) (rate : LinkRate)
  /-- HOST_LINK_DOWN (R412): A host link goes down: rings are disabled, completions discarded and the session ended. -/
  | hostLinkDown (p : PortId)
  /-- FUNCTION_LEVEL_RESET (R412): An FLR disables the function's rings and discards the completions of its running commands. -/
  | functionLevelReset (p : PortId) (f : FnId)
  /-- HOT_RESET (R412): A hot reset acts as a function-level reset on every function of the port. -/
  | hotReset (p : PortId)
  /-- RING_ENABLE (R393): A ring enable sets the head and tail to 0 and the phase to 1. -/
  | ringEnable (p : PortId) (f : FnId) (k : RingKind) (v : Reg)
  /-- RING_DISABLE (R393): A ring disable stops the ring, after which its base and size may change. -/
  | ringDisable (p : PortId) (f : FnId) (k : RingKind) (v : Reg)
  /-- MBX_SQTAIL (R394): A tail doorbell makes submissions available, or is ignored as a violation. -/
  | mbxSqtail (p : PortId) (f : FnId) (v : Reg)
  /-- MBX_CQHEAD (R396): A head doorbell returns completion entries, or is ignored as a violation. -/
  | mbxCqhead (p : PortId) (f : FnId) (v : Reg)
  /-- MBX_NRHEAD (R396): A head doorbell returns notice entries. -/
  | mbxNrhead (p : PortId) (f : FnId) (v : Reg)
  /-- DESCRIPTOR_CONSUME (R395): The port fetches and consumes one submission and starts its checks. -/
  | descriptorConsume (p : VPort) (fetched : Option (List Byte))
  /-- COMPLETION_POST (R396): A ready completion is written at the ring's tail when the ring has room. -/
  | completionPost (p : PortId) (f : FnId)
  /-- COALESCING_TIMEOUT (R398): CTIME µs pass after an unsignalled entry, and the vector is signalled. -/
  | coalescingTimeout (p : PortId) (f : FnId) (k : RingKind)
  /-- HOST_NOTICE_ARRIVAL (R408): A notice reaches the host port and is written, held, lost or discarded by ring state. -/
  | hostNoticeArrival (p : PortId)
  /-- LOST_NOTICE_ENTRY (R408): When room appears, an entry of KIND 0x07 reports lost task notices. -/
  | lostNoticeEntry (p : PortId) (f : FnId)
  /-- PUSH_WINDOW_WRITE (R409): A host write to a bound push-window slot pushes words to its queue, or is discarded. -/
  | pushWindowWrite (p : PortId) (f : FnId) (off : Nat) (bytes : List Byte)
  /-- BAR2_ACCESS (R389): A BAR2 TLP is translated to the bound region's HBM, or refused. -/
  | bar2Access (p : PortId) (t : Tlp)
  /-- BAR0_VIOLATION (R392): An access that breaks the BAR0 rules gets Unsupported Request or is ignored. -/
  | bar0Violation (p : PortId) (f : FnId) (off size : Nat) (write : Bool)
  /-- VIOLATION_WINDOW_END (R411): A 15.625 ms violation window closes, and the sum moves on. -/
  | violationWindowEnd (p : VPort)
  /-- THROTTLE_END (R411): A throttled second ends, and the port is released or throttled again. -/
  | throttleEnd (p : VPort)
  /-- SCAETH_RESTART (R413): Scaeth restarts or changes firmware slot, and the mailboxes become unavailable. -/
  | scaethRestart (cause : RestartCause)
  /-- MAILBOX_RETURN (R413): The mailboxes return, and the commands Scaeth had begun complete with FW_RESTART. -/
  | mailboxReturn
  /-- SUBMIT (R414): An owner SPI transaction submits a 64-byte descriptor. -/
  | submit (bytes : List Byte)
  /-- STATUS (R414): An owner SPI transaction returns the 8 status bytes. -/
  | status (bytes : List Byte)
  /-- FETCH (R414): An owner SPI transaction returns the oldest waiting completion. -/
  | fetch (bytes : List Byte)
  /-- POP (R415): An owner SPI transaction removes the oldest completion when its TAG matches. -/
  | pop (bytes : List Byte)
  /-- COMMAND_WAIT_END (R422): A command that waited on a common object runs, or completes with RELEASED. -/
  | commandWaitEnd (i : Issuer)
  /-- LIFECYCLE_RESET (R445): The transition's reset begins at the owner's POP, or 100 ms after the completion is posted. -/
  | lifecycleReset
  /-- TEMPERATURE_TRIP (R448): The junction temperature reaches 10 °C above the maximum, and the device enters FAULT-SAFE. -/
  | temperatureTrip
  /-- SUPPLY_FAULT (R448): A core supply stays outside ±5 % for more than 10 µs, and the device enters FAULT-SAFE. -/
  | supplyFault
  /-- ISLAND_IDLE_TIMEOUT (R450): In ECONOMY, an island idle for PWR_GIDLE µs begins its power-off. -/
  | islandIdleTimeout (i : IslId)
  /-- ISLAND_POWER_ON (R458): An island powers on, locks its PLLs and time base, clears its memories and leaves the fence. -/
  | islandPowerOn (i : IslId)
  /-- PENDING_ENABLE_RUN (R459): An enable that waited for a disable of the same object runs once the disable has ended. -/
  | pendingEnableRun
  /-- COLD_RESET (R460): PWR_GOOD rises, and the device resets, wipes and begins bring-up with the time base at 0. -/
  | coldReset (resetHigh : Bool) (straps : BitVec 10)
  /-- WARM_RESET (R460): RESET_N is held low for at least 1 µs, and the device resets and begins bring-up. -/
  | warmReset
  /-- BRINGUP_STEP (R461): The next bring-up step runs once the previous step has ended. -/
  | bringupStep (r : BringResult)
  /-- POWER_DOWN (R515): PWR_GOOD falls, flash writes in progress finish, and the device goes to OFF. -/
  | powerDown
  /-- MIGRATION (R470): A retired cluster's state moves to a standby cluster, and every reference is redirected. -/
  | migration (c : ClId) (bad : List MigLoss)
  /-- LOG_SECOND_END (R480): A second closes, and a LOG_SUPPRESSED entry records the entries not written. -/
  | logSecondEnd
  /-- CAIRN_SLICE (R477): Cairn isolates an idle block, drives it, compares its signature and re-initialises it. -/
  | cairnSlice (b : CairnBlock) (first second : Reg) (clockOk supplyOk request : Bool)
  /-- CAIRN_PASS_END (R478): At the end of a pass, each domain whose standby PLL passed swaps its PLL roles. -/
  | cairnPassEnd
  /-- CAIRN_DISABLE (R484): A write of 0 to CRN_CTL.EN lets running slices finish and starts no new slice. -/
  | cairnDisable (who : InitId)
  /-- FRAME_RECEIVE (R492): A received Ethernet frame is validated, matched against the session table and steered into a queue. -/
  | frameReceive (e : EthId) (sub : SubId) (f : RxFrame)
  /-- ETH_LINK_CHANGE (R486): An Ethernet sub-port's link goes up or down. -/
  | ethLinkChange (e : EthId) (sub : SubId) (up : Bool)
  /-- EGRESS_FRAME (R496): A mover's words form an egress frame, or the frame is discarded as malformed. -/
  | egressFrame (s : SessId)
  /-- FRAME_DEPARTURE (R497): A frame departs once its session's token bucket holds its length, and it is time-stamped. -/
  | frameDeparture (e : EthId) (sub : SubId)
  /-- MACSEC_ASSOCIATION_CHANGE (R489): A MACsec association change takes effect at the next frame boundary. -/
  | macsecAssociationChange (e : EthId)
  /-- SYNC_MESSAGE (R499): A PTP Sync message updates the servo, which slews or steps the time base and decides lock. -/
  | syncMessage (offset : Int)
  /-- PTP_SYNC_TIMEOUT (R499): No Sync arrives for 3 s, and the servo loses lock. -/
  | ptpSyncTimeout
  /-- CAPTURE_EVENT (R502): A GPIO capture event samples the bank's pins, and full words are pushed to INQ. -/
  | captureEvent (b : BankId) (pins : BitVec 24)
  /-- GPIO_OUTPUT_WORD (R502): An output word from OUTQ drives the bank's pins lane by lane. -/
  | gpioOutputWord (b : BankId)
  /-- CONSOLE_STATUS (R504): The owner console command status returns DEV_STATUS. -/
  | consoleStatus
  /-- CONSOLE_LOG (R504): The owner console command log returns an event-log entry. -/
  | consoleLog (n : Nat)
  /-- CONSOLE_VER (R504): The owner console command ver returns the firmware versions. -/
  | consoleVer
  /-- TELEMETRY_READ (R504): A telemetry target read returns a read-only status byte. -/
  | telemetryRead (ptr : Byte)
  /-- TELEMETRY_WRITE (R504): Data bytes written to the telemetry target are NACKed. -/
  | telemetryWrite (data : List Byte)
  /-- BYPASS (R504): The JTAG BYPASS instruction selects the bypass register. -/
  | bypass
  /-- IDCODE (R504): The JTAG IDCODE instruction returns 0x1409_6A1D. -/
  | idcode
  /-- SAMPLE_PRELOAD (R504): The JTAG SAMPLE/PRELOAD instruction samples or preloads the boundary cells. -/
  | samplePreload (cells : List Bool)
  /-- EXTEST (R504): The JTAG EXTEST instruction drives the pins from the boundary cells. -/
  | extest
  /-- HIGHZ (R504): The JTAG HIGHZ instruction places the outputs at high impedance. -/
  | highz
  /-- CLAMP (R504): The JTAG CLAMP instruction holds the outputs from the boundary cells. -/
  | clamp
  /-- JTAG_DEBUG_INSTRUCTION (R504): A JTAG debug instruction acts in DEBUG and reads as BYPASS in every other state. -/
  | jtagDebugInstruction (ir : Nat)
  /-- THERMTRIP (R522): A junction sensor reads 120 °C, and THERMTRIP_N goes low until PWR_GOOD falls. -/
  | thermtrip
  /-- SYS_REFCLK_LOSS (R518): SYS_REFCLK is lost, and the PLLs hold their last frequency while the device keeps running. -/
  | sysRefclkLoss
  /-- ROPE_INVALID_SYNC_HEADER (R344): A Rope block arrives with a sync header that is neither 0b01 nor 0b10; it is counted in CFG_RERR and, at 16 within 64, costs block lock. -/
  | ropeInvalidSyncHeader
  /-- ROPE_FAULT_LINE_LOW (R343): ROPE_FAULT_N is pulled low by a peer while a WAIT_DONE_LINE step runs, ending the wake program with PEER_FAULT. -/
  | ropeFaultLineLow
  /-- RESET_N_RELEASE (R513): RESET_N rises, and the held cold reset, or the warm reset, is released and bring-up begins. -/
  | resetNRelease (straps : BitVec 10)
  /-- ISLAND_PLL_FAILURE (R466): The active PLL of an island or NoC quadrant fails in service, the domain switches to its standby, and when both have failed the island's clusters are retired. -/
  | islandPllFailure (d : PllDomain)
  /-- SECURITY_CORE_SELF_CHECK_FAIL (R464): The duplicated-state check of the security core detects a mismatch and the device enters FAULT-SAFE. -/
  | securityCoreSelfCheckFail
  /-- ILLEGAL_INSTRUCTION (R183): The sequencer issues an undefined opcode (0x3E or 0x3F) or fetches from outside instruction memory, and takes an illegal-instruction trap. -/
  | illegalInstruction (c : ClId) (k : IllegalKind)
  /-- ENTDAA (R504): The I3C ENTDAA command assigns the telemetry target a dynamic address and moves it from I2C to I3C SDR operation. -/
  | entdaa (addr : BitVec 7)
  deriving DecidableEq, Repr

end Sys2Proof
end

