-- ==== Sys2Proof/Config.lean ====
section
/-! DEFINITION. What the spec leaves to a published standard, to an implementation, or open: constants without a body.
No proof can see a value of one (logs 5, 6, 15, 19, 26, 72, 79, 86, 98, 102, 104). -/

namespace Sys2Proof.Config

/-- SHA-384 (R326). -/
opaque sha384 : List Byte → List Byte
/-- HMAC-SHA-384 of a key over data (R329, R366). -/
opaque hmac384 : List Byte → List Byte → List Byte
/-- AES-256-GCM open: key, initial vector, additional data, ciphertext, tag (R329). -/
opaque gcmOpen : List Byte → List Byte → List Byte → List Byte → List Byte → Option (List Byte)
/-- ECDSA P-384 verification: public key, message digest, signature (R326). -/
opaque ecdsaVerify : List Byte → List Byte → List Byte → Bool
/-- ML-DSA-87 verification: public key, message, signature (R326). -/
opaque mldsaVerify : List Byte → List Byte → List Byte → Bool
/-- Whether an encoding is a well-formed ECDSA P-384 public key in uncompressed form (R434). -/
opaque ecKeyOk : List Byte → Bool
/-- Whether an encoding is a well-formed ML-DSA-87 public key (R434). -/
opaque pqKeyOk : List Byte → Bool
/-- Unwraps a key under the wrapping key (R368, R488): the wrapping key and the wrapped blob. -/
opaque unwrap : List Byte → List Byte → Option (List Byte)
/-- The key that the SRAM PUF reconstructs, and the fuse secret (R358). -/
opaque pufKey : List Byte
opaque fuseSecret : List Byte
/-- The ECDSA P-384 public key of the pair derived from a secret (R358, R359). -/
opaque ecPublic : List Byte → List Byte
/-- SHA-384 of the security-core boot ROM and firmware, and of the Scaeth firmware in a slot (R363). -/
opaque romHash : List Byte
opaque secFwHash : List Byte
opaque fwHash : Nat → List Byte
/-- The fuse SVN of the ROM (R363). -/
opaque romSvn : Byte
/-- The SVN of the security-core firmware (R360). -/
opaque secFwSvn : Byte
/-- The certificates of the Osquati root CA, the product CA and a DeviceID key (R359, R360). -/
opaque deviceChain : List Byte → List Byte
/-- The X.509 certificate that a key signs for a public key, with the measured hash and the security version of its layer (R360). -/
opaque certificate : List Byte → List Byte → List Byte → Nat → List Byte
/-- Signature by an identity key over a transcript (R361, R363). -/
opaque sign : List Byte → List Byte → List Byte
/-- Random draws of the security core, one for each count (R362, R369). -/
opaque random : Nat → List Byte
/-- The secret of a Diffie-Hellman exchange: the draw and the requester's share (R362). -/
opaque dhSecret : List Byte → List Byte → List Byte
/-- Whether a claim certificate is signed by the product CA and names a DeviceID key; its owner signer key hash (R355). -/
opaque claimCheck : List Byte → List Byte → Option (List Byte)
/-- Whether a debug authorisation is signed by the product CA and names a DeviceID key; the debug-entry count it names (R355). -/
opaque debugCheck : List Byte → List Byte → Option Nat
/-- Whether a firmware image carries a valid hybrid signature, and its SVN and version (R443). -/
opaque fwCheck : List Byte → Option (Nat × Nat)
/-- SVN of the Scaeth firmware that a slot holds at manufacture (R360). -/
opaque fwSvn : Nat → Nat
/-- The SVN minimum of Scaeth firmware (R443). -/
opaque fwSvnMin : Nat
/-- What a byte of a unit not written since its zero-fill reads as, under a key slot's key (R375). -/
opaque unwritten : List Byte → Nat → Byte
/-- Whether IEEE 754's invalid operation is signalled for 0 times infinity plus a quiet NaN (R531; IEEE 754 leaves it open). -/
opaque zeroInfNanInvalid : Bool
/-- Reference signature of a Cairn block class (R477). -/
opaque cairnRef : Byte → BitVec 32
/-- MACsec protection and validation of a frame under an association key (R488). -/
opaque macsecProtect : List Byte → Nat → List Byte → List Byte
/-- Firmware version text of a version code (R504). -/
opaque fwVersion : Nat → List Byte
/-- What a boundary cell samples from its pin (R504). -/
opaque boundarySample : Nat → Bool
/-- Boundary cell of a GPIO pin, 24 * bank + pin (R504 gives no order). -/
opaque gpioCell : Nat → Nat
/-- The byte that training leaves at an address of a training area, one for each time it has written there (R308 names no pattern). -/
opaque trainPattern : Nat → Nat → Byte
/-- Hard and soft repairs that a stack reports for a PC, before any has been made (R306). -/
opaque pprHard : Nat → BitVec 4
opaque pprSoft : Nat → BitVec 4
/-- Nanoseconds that the wipe of a released cluster takes; R380 bounds it by 100,000. -/
opaque clusterWipe : Nat
/-- Centre of the passing delay steps that a sweep finds, one for each count (R308). -/
opaque eyeCentre : Nat → Nat
/-- What a FETCH of the owner port returns while no completion waits (R414 gives none). -/
opaque fetchIdle : List Byte
/-- PHASE and SQHEAD of completions on the owner port, which has no ring (R401, R414). -/
opaque ownerPhase : Bool
opaque ownerSqhead : BitVec 16
/-- The rate by which the PTP servo slews the time base, in ppm, after a Sync with an offset (R499 gives no servo law). -/
opaque servoSlew : Nat → Int → Int
/-- Microseconds that a migration takes (R470 gives only a bound), one for each count. -/
opaque migrationPause : Nat → Nat
/-- Hottest junction in °C and package power in W, as the telemetry target reads them (R504), one for each count. -/
opaque junctionTemp : Nat → BitVec 8
opaque packagePower : Nat → BitVec 16
/-- Ethernet port and sub-port of the egress of a session without a rule (R497 names none). -/
opaque egressPort : Nat → Fin 8 × Fin 4
/-- FCS of a frame (IEEE 802.3 CRC-32). -/
opaque fcs : List Byte → List Byte

/-- Where an item of the anchor blocks begins, and the root-of-trust state that they hold (R288 gives neither). -/
opaque anchorSpot : Nat → Nat
opaque rootState : List Byte
/-- The bytes of an entry of the scheduler trace (R238 gives no layout). -/
opaque traceBytes : List Nat → List Byte
/-- Nanoseconds after an island's clock starts at which time-base distribution has locked there; R32 bounds it by 10,000. -/
opaque distLock : Nat → Nat

/-- Input space of a destination port beyond one packet that firmware gives an initiator, by 4 x router + local port (R261). -/
opaque portShare : Nat → Nat → Nat

end Sys2Proof.Config
end

