-- ==== Sys2Proof/Machine/State.lean ====
section
/-! DEFINITION. The state of the block as plain data, its value after reset, and the reasons a step can stop. -/

namespace Sys2Proof.Machine

/-! ### Cells (02) -/

/-- An operation in flight (R35, R60): its issuing plane, what it captured at issue, and the advancing cycles left until
it writes. -/
structure InFlight where
  plane : Plane
  /-- Operands A and B of an accumulating operation. -/
  a : Word := 0
  b : Word := 0
  /-- Result words of the other operations. -/
  r0 : Word := 0
  r1 : Word := 0
  /-- Word address of a destination in cell memory (R55). -/
  addr : BitVec 11 := 0
  /-- Sticky bits of CEL_STAT that its computation raises. -/
  sticky : BitVec 7 := 0
  /-- Carry out of ADDW and SUBW (R67). -/
  carry : Bool := false
  left : Nat
  deriving DecidableEq, Repr

/-- One logical cell (R35). -/
structure Cell where
  c : SMap Word := []
  acc : SMap Acc := []
  mem : SMap Word := []
  /-- Latent bit errors of memory words: 1 single, 2 double (R58). -/
  bad : SMap Nat := []
  ap0 : BitVec 11 := 0
  ap1 : BitVec 11 := 0
  wp : BitVec 11 := 0
  cond : Bool := false
  flight : List InFlight := []
  /-- Output registers 0 N, 1 E, 2 S, 3 W, 4 X (R109). -/
  outs : SMap Word := []
  /-- CEL_STAT[6:1] in place (R77). -/
  stat : BitVec 7 := 0
  ueTimes : List Nat := []
  resTimes : List Nat := []
  deriving DecidableEq, Repr

/-! ### Stream queues (05) -/

/-- What a notice tells (R149, R407). -/
inductive NoticeKind where
  | high | low | stale | overrun | mover | task | lost
  deriving DecidableEq, Repr

/-- A notice with the target that stood when it was raised (R150). -/
structure Notice where
  kind : NoticeKind
  nkind : BitVec 2
  target : BitVec 16
  /-- Status of a completed descriptor (R164). -/
  status : Byte := 0
  /-- The island cycle in which a queue raised it, once that cycle has ended (R214). -/
  edge : Option Nat := none
  deriving DecidableEq, Repr

/-- One stream queue (R166). -/
structure Queue where
  en : Bool := false
  prod : BitVec 3 := 0
  cons : BitVec 2 := 0
  psrc : BitVec 6 := 0
  depth : Nat := 0
  base : Nat := 0
  hwen : Bool := false
  high : Nat := 0
  lwen : Bool := false
  low : Nat := 0
  stale : Nat := 0
  nkind : BitVec 2 := 0
  one : Bool := false
  sne : Bool := false
  lne : Bool := false
  hne : Bool := false
  target : BitVec 16 := 0
  count : Nat := 0
  wr : Nat := 0
  rd : Nat := 0
  nsat : Bool := false
  perr : Bool := false
  ovr : Bool := false
  sx : Bool := false
  lx : Bool := false
  hx : Bool := false
  ovcnt : Nat := 0
  notices : List Notice := []
  /-- The notice that has left and is not yet answered (R150). -/
  onWay : Option Notice := none
  staleFrom : Nat := 0
  staleStopped : Bool := false
  deriving DecidableEq, Repr

/-- One forward channel (R153, R167). -/
structure Fwd where
  en : Bool := false
  mover : Bool := false
  prio : Nat := 0
  sqid : Nat := 0
  target : Nat := 0
  share : Nat := 0
  cred : Nat := 0
  /-- Words of a disabled channel that its mover has not taken yet (R438). -/
  owing : Nat := 0
  packed : List (Word × BitVec 4) := []
  deriving DecidableEq, Repr

/-- A word in the ingress staging (R144): local queue, word, tag, producer kind, mover index. -/
structure Staged where
  q : Nat
  w : Word
  tag : BitVec 4
  prod : BitVec 3
  psrc : Nat := 0
  /-- The remote push that it belongs to, by packet number. -/
  push : Option Nat := none
  deriving DecidableEq, Repr

/-- A remote push whose words are in the ingress staging and which is not yet answered (R144, R152). -/
structure PushRec where
  id : Nat
  who : Nat
  tag : Nat
  gen : BitVec 2
  prio : Nat
  nowrap : Bool := false
  words : Nat
  left : Nat
  pushed : Nat := 0
  ord : Nat := 0
  deriving DecidableEq, Repr

/-- A word in flight on a link (R128). -/
structure LinkWord where
  link : Nat
  tcl : Nat
  q : Nat
  w : Word
  tag : BitVec 4
  deriving DecidableEq, Repr

/-- A request that a target has accepted and not yet answered. -/
structure Held where
  who : Nat
  tag : Nat
  gen : BitVec 2
  prio : Nat
  /-- Physical address. -/
  addr : Nat
  /-- Bytes asked for or carried. -/
  nbytes : Nat
  /-- Data of a write; none for a read. -/
  data : Option (List Byte)
  posted : Bool := false
  /-- CLASS and route flags travel back in the response (R255). -/
  nowrap : Bool := false
  /-- Ordinal of its acceptance (R268). -/
  ord : Nat := 0
  deriving DecidableEq, Repr

/-! ### Sequencer (06) -/

/-- Link of a window (R180). -/
inductive Link where
  | win (n : Nat) | spilled | root
  deriving DecidableEq, Repr

/-- A live task window. -/
structure Win where
  owner : Nat
  link : Link
  age : Nat
  deriving DecidableEq, Repr

/-- A resident task (R192). -/
structure Slot where
  task : Nat
  prio : Nat
  pc : Reg
  /-- Window of its current frame; none while that frame is spilled or not yet allocated. -/
  frame : Option Nat
  /-- The root frame is still to be allocated (R195). -/
  alloc : Bool := false
  base : Nat
  lim : Nat
  sptr : Nat
  /-- A floating-point record has been stored (R199). -/
  stored : Bool := false
  args : List Reg := []
  deriving DecidableEq, Repr

/-- A start or pre-emption from Belay. -/
structure StartMsg where
  task : Nat
  prio : Nat
  entry : BitVec 16
  args : List Reg
  base : Nat
  lim : Nat
  deriving DecidableEq, Repr

/-- One Halduk sequencer. -/
structure Seq where
  /-- Registers of the 12 windows, 16 x window + code. -/
  win : SMap Reg := []
  live : SMap (Option Win) := []
  nextAge : Nat := 0
  biv : Bool := false
  waiting : Bool := false
  slots : SMap (Option Slot) := []
  /-- Slots of the resident tasks, top of the nest first. -/
  nest : List Nat := []
  pc : Reg := 0
  /-- k1 to k7. -/
  k : SMap Reg := []
  f : SMap (BitVec 64) := []
  fpown : Option Nat := none
  evp : BitVec 9 := 0
  tpc : Reg := 0
  cause : Byte := 0
  twin : BitVec 4 := 0
  /-- Slot of the task that the handler serves; none when that task has ended. -/
  trapSlot : Option Nat := none
  imem : SMap Byte := []
  dmem : SMap Byte := []
  start : Option StartMsg := none
  /-- Queue-notice lines raised and not yet at the sequencer (R201). -/
  lines : List Nat := []
  held : Bool := false
  /-- Successor decrements held at the completion port (R228). -/
  compHeld : Bool := false
  deriving DecidableEq, Repr

/-! ### Cluster: planes, selector, routing (03, 04) -/

/-- A CTX_RUN write that has been registered (R87). -/
inductive CtxCmd where
  | start (entry : Nat) | park
  deriving DecidableEq, Repr

/-- The plane selector (R79 to R89). -/
structure Sel where
  run : Bool := false
  entry : Nat := 0
  /-- Cycles of the entry already governed before the present one. -/
  rep : Nat := 0
  plane : Nat := 0
  lc0 : Nat := 0
  lc1 : Nat := 0
  halted : Bool := false
  cmderr : Bool := false
  cmd : Option CtxCmd := none
  deriving DecidableEq, Repr

/-- A running repair of one cluster that waits for its repair tick (R104). -/
structure Repair where
  cell : Nat
  tick : Nat
  deriving DecidableEq, Repr

/-- What a load has written into a cluster's shadow besides planes, program, records and links. -/
structure Shadow where
  mask : Byte := 0
  park : Bool := false
  role : BitVec 2 := 0
  ctx : Nat
  digest : List Byte := []
  /-- Code that waits until the sequencer has no resident task (R175, R336). -/
  code : Option (SMap Byte) := none
  codeDone : Bool := false
  /-- The verified records that have been written (R337). -/
  records : List Byte := []
  deriving DecidableEq, Repr

/-- The image shadow copy of a committed cluster (R337): its verified records, and what they give the planes and instruction memory. -/
structure Copy where
  records : List Byte := []
  planes : SMap Plane := []
  code : Option (SMap Byte) := none
  deriving DecidableEq, Repr

/-- One cluster. -/
structure Cluster where
  cells : SMap Cell := []
  /-- Planes: 16 x cell + physical plane. -/
  planes : SMap Plane := []
  /-- Program entries: 128 x bank + entry. -/
  prog : SMap Entry := []
  /-- Initial-value records by cell, 0x210 bytes (R94). -/
  ivr : SMap (BitVec 4224) := []
  /-- Preload bitmap: 2,048 x cell + word. -/
  preBits : SMap Bool := []
  preBuf : SMap Word := []
  /-- Live set of the live half (CTX_LIVE). -/
  mask : Byte := 0
  startPark : Bool := false
  /-- Carry role of the live image: 0 none, 1 leader, 2 follower. -/
  role : BitVec 2 := 0
  sel : Sel := {}
  live : Bool := false
  pbank : Bool := false
  shadow : Option Shadow := none
  /-- Cycles of the commit cycle and fill pause still to come (R102); fillIdx counts the words written. -/
  fill : Nat := 0
  fillIdx : Nat := 0
  ctick : BitVec 64 := 0
  ctickLatch : Option Reg := none
  commitAt : Option Nat := none
  repair : Option Repair := none
  /-- Cycles of a repair pause still to come (R104, R105). -/
  pause : Nat := 0
  /-- Cells found failing that wait for the spare (R465, R466). -/
  failing : List Nat := []
  /-- Retired or halted: no cycle occurs. -/
  stopped : Bool := false
  /-- Express-lane pieces: 4 x lane + row or column (R115). -/
  lanes : SMap Word := []
  scause : BitVec 6 := 0
  stalls : Nat := 0
  /-- Link entries: 32 x bank + entry (R129). -/
  links : SMap Reg := []
  credits : SMap Nat := []
  linkWords : List LinkWord := []
  /-- Credits in flight to this cluster's links. -/
  linkCreds : List Nat := []
  /-- Links of the new table whose count edge has not come (R130). -/
  linkAwait : List Nat := []
  /-- Credits accrued for links of the shadow table whose count edge has come before the commit, plus 1 (R130). -/
  linkEarly : SMap Nat := []
  digest : Option (List Byte) := none
  copy : Option Copy := none
  sram : SMap Word := []
  tags : SMap (BitVec 4) := []
  queues : SMap Queue := []
  umsyn : Bool := false
  /-- Island cycles so far, by which notices of one cycle are told (R214). -/
  edges : Nat := 0
  fwds : SMap Fwd := []
  /-- Rotating pointers of the forward channels on one source queue, by queue (R25). -/
  popPtr : SMap Nat := []
  staging : List Staged := []
  pushes : List PushRec := []
  cellWait : List Held := []
  /-- Writes that have taken the write port of their cell for the coming cycle, and cells whose read port 1 is taken (R57). -/
  writing : List Held := []
  reading : List Nat := []
  dmemWait : List Held := []
  seq : Seq := {}
  deriving DecidableEq, Repr

/-! ### Stream movers (05) -/

/-- A word in a mover's input buffer with the channel that sent it, as cluster and channel. -/
structure MvWord where
  w : Word
  tag : BitVec 4
  cl : Nat
  ch : Nat
  deriving DecidableEq, Repr

/-- The running descriptor of a mover: words moved, and its status once it ends (R163). -/
structure MvRun where
  desc : BitVec 256
  moved : Nat := 0
  status : Option Byte := none
  /-- Tag of the HBM request that is on its way (R243). -/
  wait : Option Nat := none
  deriving DecidableEq, Repr

/-- One stream mover (R168). -/
structure Mover where
  mvd : SMap Reg := []
  descs : List (BitVec 256) := []
  running : Option MvRun := none
  inbuf : List MvWord := []
  /-- Credits held for the destination queue, by queue (R162). -/
  credits : SMap Nat := []
  /-- Credits on their way that belong to the time before the queue was last enabled, by queue. -/
  stale : SMap Nat := []
  lastst : Byte := 0
  err : Bool := false
  dfull : Bool := false
  mvcnt : Nat := 0
  notices : List Notice := []
  onWay : Option Notice := none
  region : Option Nat := none
  deriving DecidableEq, Repr

/-! ### Belay (07) -/

/-- Task states (R207). -/
inductive TState where
  | free | dormant | waiting | delayed | ready | resident
  deriving DecidableEq, Repr

/-- A task (R207, R209, R212, R230). -/
structure Task where
  st : TState := .free
  counter : Nat := 0
  excess : Nat := 0
  desc : BitVec 272 := 0
  qheld : Bool := false
  /-- Ordinal of its last entry into a ready list (R194, R217). -/
  entered : Nat := 0
  deriving DecidableEq, Repr

/-- Where an event comes from, for its answer (R228). -/
inductive Origin where
  | comp (c : Nat) | queue (q : Nat) | mover (m : Nat) | timer (t : Nat)
  /-- A function of a host port; whether its submission has been consumed already. -/
  | host (p f : Nat) (consumed : Bool)
  deriving DecidableEq, Repr

/-- An event of R211. -/
structure BEvent where
  src : Nat
  task : Nat
  arrival : Nat
  orig : Origin
  deriving DecidableEq, Repr

/-- A completion of a task (R226). -/
structure Comp where
  cl : Nat
  task : Nat
  status : Byte
  code : Byte
  arrival : Nat
  deriving DecidableEq, Repr

/-- What waits at Belay (R214): an event, or a completion to process. -/
inductive Work where
  | event (e : BEvent)
  | comp (c : Comp)
  deriving DecidableEq, Repr

/-- A Belay timer (R220, R239). -/
structure Timer where
  period : Nat := 0
  rgn : Byte := 0
  task : BitVec 16 := 0
  miss : Nat := 0
  due : Nat := 0
  periodNs : Nat := 0
  /-- Its event is held for quota. -/
  held : Bool := false
  deriving DecidableEq, Repr

/-- The held items of a region at a release of quota (R229): they are retried in the cycles after it. -/
structure Retry where
  /-- Device time of the release. -/
  since : Nat
  events : List BEvent := []
  tasks : List Nat := []
  deriving DecidableEq, Repr

/-- Belay's registers and counters of one region (R239). -/
structure BRegion where
  base : Nat := 0
  count : Nat := 0
  quota : Nat := 0
  /-- Units in use. -/
  used : Nat := 0
  disp : Nat := 0
  fail : Nat := 0
  qblk : Nat := 0
  drop : Nat := 0
  exsat : Bool := false
  /-- Quota-held tasks in order (R230). -/
  qheld : List Nat := []
  /-- Events held for quota (R228). -/
  held : List BEvent := []
  /-- The retries of the latest release that are still to come (R229, R230). -/
  retry : Option Retry := none
  deriving DecidableEq, Repr

/-- Belay's record of a sequencer (R223): resident tasks with priorities, top first, and a send not yet taken. -/
structure SeqRec where
  tasks : List (Nat × Nat) := []
  sent : Bool := false
  deriving DecidableEq, Repr

/-- What the scheduler trace records (R238): an event that Belay processes, a completion, a delay or timer expiry, a change of a task's state,
a start or pre-emption sent. -/
inductive Traced where
  | event (src task : Nat) (accepted : Bool)
  | completion (cl task : Nat)
  | delayExpiry (task : Nat)
  | timerExpiry (timer : Nat)
  | state (task : Nat) (st : TState)
  | send (cl task : Nat)
  deriving DecidableEq, Repr

/-- An entry's content as numbers: its kind and what it names. -/
def Traced.code : Traced → List Nat
  | .event s t a => [0, s, t, if a then 1 else 0]
  | .completion c t => [1, c, t]
  | .delayExpiry t => [2, t]
  | .timerExpiry t => [3, t]
  | .state t st => [4, t, match st with | .free => 0 | .dormant => 1 | .waiting => 2 | .delayed => 3 | .ready => 4 | .resident => 5]
  | .send c t => [5, c, t]

/-- An entry of the scheduler trace (R238), with its Belay cycle and device time. -/
structure TraceEntry where
  what : Traced
  cycle : Nat
  time : Nat
  deriving DecidableEq, Repr

/-- Belay. -/
structure Belay where
  tasks : SMap Task := []
  /-- Entries into ready lists so far. -/
  entries : Nat := 0
  /-- Ready lists by priority. -/
  ready : SMap (List Nat) := []
  /-- Delay list: (wake time, task), in order. -/
  delay : List (Nat × Nat) := []
  tick : Nat := 1000
  scheme : BitVec 2 := 0
  regions : SMap BRegion := []
  timers : SMap Timer := []
  /-- Waiting events and completions in the order of R214. -/
  work : List Work := []
  recs : SMap SeqRec := []
  /-- The Belay cycle that the counts below belong to. -/
  cycle : Nat := 0
  /-- Places taken in the cycle by lane owner, and sends by dispatch owner (R214, R224, R232, R234). -/
  taken : SMap Nat := []
  sends : SMap Nat := []
  /-- Tasks that entered a ready list in this cycle, the records that changed in it as they stood at its start, and the sequencers
  to which it has sent (R223, R224). -/
  fresh : List Nat := []
  before : SMap (Option SeqRec) := []
  sentTo : List Nat := []
  /-- Rotating pointers of dispatch (R224): 16 x owner + priority. -/
  ptr : SMap Nat := []
  laneTab : SMap Byte := []
  dispTab : SMap Byte := []
  trace : List TraceEntry := []
  deriving DecidableEq, Repr

/-! ### On-chip network (08) -/

/-- A pending change of a router (R272). -/
inductive RtrChange where
  | set (w : RtrSetting)
  | absDead (p : Nat)
  | absClear (p : Nat) (keepPc : BitVec 2)
  | pcPut (v : BitVec 2)
  /-- PCDEAD of one pseudo-channel sets or clears (R267, R269). -/
  | pcDead (k : Nat) (on : Bool)
  | fence (p : Nat)
  | unfence (p : Nat)
  /-- The firewall bit of a region at a local port (R278). -/
  | grant (p region : Nat) (on : Bool)
  | maxPrio (region prio : Nat)
  | spare (d lane : Nat)
  /-- A lane-sparing change of the link waits at the other router (R272). -/
  | peer (r d : Nat)
  deriving DecidableEq, Repr

/-- One link direction of a router (R273, R274, R278). -/
structure Lane where
  lanea : BitVec 7 := 0x7F
  laneb : BitVec 7 := 0x7F
  half : Bool := false
  used : Nat := 0
  /-- Lanes retired. -/
  gone : List Nat := []
  /-- Times of parity errors by lane. -/
  errs : List (Nat × Nat) := []
  deriving DecidableEq, Repr

/-- One router (R278). -/
structure Router where
  fwLo : SMap Reg := []
  fwHi : SMap Reg := []
  fwHub : SMap Bool := []
  abs : SMap (BitVec 2) := []
  pcdead : BitVec 2 := 0
  pmap : SMap Reg := []
  deadth : Nat := 4
  toreps : SMap Nat := []
  pend : List RtrChange := []
  lanes : SMap Lane := []
  pdrop : Nat := 0
  retry : Nat := 0
  /-- NOC_SLOT: 64 x output + slot. -/
  slots : SMap (BitVec 7) := []
  /-- Rotating pointers of VC allocation, by 16 x output + 4 x VC + priority, and of switch allocation, by 4 x output +
  priority (R25, R257). -/
  vptr : SMap Nat := []
  sptr : SMap Nat := []
  /-- NoC cycle from which an output at half width takes a flit again (R274). -/
  busy : SMap Nat := []
  deriving DecidableEq, Repr

/-- State of a tag (R265). -/
inductive TagSt where
  | free | busy | quar
  deriving DecidableEq, Repr

/-- One tag of an initiator. -/
structure Tag where
  st : TagSt := .free
  gen : BitVec 2 := 0
  owed : BitVec 4 := 0
  /-- Send time, or timeout time in quarantine. -/
  since : Nat := 0
  /-- Where its request went, as router and local port, and its priority. -/
  rtr : Nat := 0
  port : Nat := 0
  prio : Nat := 0
  addr : Nat := 0
  /-- The request is a write. -/
  write : Bool := false
  /-- NoC cycle in which the head of its request left, and the client of the initiator that sent it. -/
  head : Nat := 0
  client : Nat := 0
  /-- Its hold has ended, and no generation was free (R265). -/
  stuck : Bool := false
  deriving DecidableEq, Repr

/-- Answer that an initiator gives its client. -/
structure Answer where
  tag : Nat
  status : BitVec 4
  data : List Byte
  pushed : Nat
  deriving DecidableEq, Repr

/-- One initiator (R279). -/
structure Init where
  tous : Nat := 100
  rgn : BitVec 6 := 0
  unasg : Bool := true
  tags : SMap Tag := []
  late : Nat := 0
  stray : Nat := 0
  tocnt : Nat := 0
  req : Nat := 0
  words : Nat := 0
  lmax : Nat := 0
  hist : SMap Nat := []
  answers : List Answer := []
  deriving DecidableEq, Repr

/-- A notice for a host ring (R407). -/
structure HostNotice where
  ring : Nat
  kind : NoticeKind
  status : Byte
  code : Byte
  id : Nat
  orig : Option Origin
  deriving DecidableEq, Repr

/-- What an EVT packet carries (R248). -/
inductive EvtMsg where
  | event (e : BEvent)
  | comp (c : Comp)
  | start (cl : Nat) (m : StartMsg)
  /-- A sequencer with four resident tasks reports a refused start (R194). -/
  | refused (cl task : Nat)
  /-- A notice for a ring of a host port (R149). -/
  | notice (p : Nat) (n : HostNotice)
  deriving DecidableEq, Repr

/-- Opcodes (R248). -/
inductive Opc where
  | rd | wr | wrp | push | pushp | crd | evt | torep | rdata | ack | pushack | err
  deriving DecidableEq, Repr

/-- Where a packet begins or ends: a local port of a router, or a block of the hub die (R241). -/
inductive End where
  | array (r p : Nat)
  | hub
  deriving DecidableEq, Repr

/-- How far a packet has come: at its injection port, in the network, or wholly at its destination port. -/
inductive Transit where
  | source | moving | arrived
  deriving DecidableEq, Repr

/-- A packet on its way (R246). -/
structure Packet where
  op : Opc
  who : Nat
  tag : Nat := 0
  gen : BitVec 2 := 0
  prio : Nat := 0
  status : BitVec 4 := 0
  /-- Queue ID, mover index, channel, or address, as the opcode requires. -/
  addr : Nat := 0
  /-- Sending forward channel of a PUSHP to a mover; mover or forward channel to which a CRD returns credits. -/
  chan : Nat := 0
  toMover : Bool := false
  words : List (Word × BitVec 4) := []
  data : List Byte := []
  count : Nat := 0
  prod : BitVec 3 := 5
  evt : Option EvtMsg := none
  nowrap : Bool := false
  /-- SIZE, and the bytes that a memory request asks for or carries (R247). -/
  size : BitVec 2 := 0
  nbytes : Nat := 0
  id : Nat := 0
  spot : Transit := .arrived
  /-- The router and local port at which it enters, and those of DSTR and DPORT (R244, R247). -/
  src : Nat × Nat := (0, 0)
  dst : Nat × Nat := (0, 0)
  /-- Client of the initiator (R245). -/
  client : Nat := 0
  /-- Status with which the destination port met its head (R272). -/
  verdict : Option Nat := none
  /-- NoC cycle in which its head reached the destination port. -/
  headAt : Nat := 0
  deriving DecidableEq, Repr

/-- The buffer of one virtual channel (R252): its packet, the flits that have come and gone, and the downstream channel
that it has been granted. Packet 0: idle. -/
structure VcBuf where
  pkt : Nat := 0
  got : Nat := 0
  sent : Nat := 0
  next : Option Nat := none
  deriving DecidableEq, Repr

/-- The network. -/
structure Noc where
  routers : SMap Router := []
  inits : SMap Init := []
  /-- Packets sent and not yet taken by their receivers: those that have arrived in the order of arrival. -/
  packets : List Packet := []
  /-- NoC cycles so far, packets numbered so far, and requests accepted by targets so far. -/
  cycle : Nat := 0
  nextId : Nat := 0
  accepted : Nat := 0
  /-- Buffers by 64 x router + 4 x port + VC: ports 0 to 7 the inputs of R241, 8 to 11 the local ports outward, 12 to 15 the
  senders at the local ports. -/
  bufs : SMap VcBuf := []
  /-- Flits on links: the cycle in which each reaches a buffer. -/
  air : List (Nat × Nat) := []
  /-- Rotating pointers of the injection ports, by 32 x router + 8 x local port + 4 x class + priority (R245). -/
  iptr : SMap Nat := []
  /-- End-to-end credits in use, by 4,096 x (4 x router + local port) + initiator (R261). -/
  e2e : SMap Nat := []
  /-- Redirect table: (retired cluster, standby) (R470). -/
  redirect : List (Nat × Nat) := []
  /-- Host notices on their way, as port and notice. -/
  hostNotices : List (Nat × HostNotice) := []
  deriving DecidableEq, Repr

/-! ### HBM (09) -/

/-- Why a request stands in a PC's queue: it is the PC's own, a write forwarded by the other PC of a mirrored pair (R314), or a request
of the frozen other PC, which this one serves (R315). -/
inductive Role where
  | own | copy (home : Nat) | instead (home : Nat)
  deriving DecidableEq, Repr

/-- A request or sub-request in a PC's queue (R287, R292). -/
structure HReq where
  /-- The request that it is a part of, and its own number. -/
  rid : Nat
  sub : Nat
  h : Held
  /-- Bursts that it touches, as physical burst addresses in ascending order. -/
  bursts : List Nat
  arrive : Nat
  goal : Nat
  cls : Nat
  /-- Bursts moved; for a write, partial bursts read first (R296), and the cycle from which its writes may issue. -/
  done : Nat := 0
  rdone : Nat := 0
  hold : Nat := 0
  /-- Wrong data that reads of partial bursts returned, by burst (R304). -/
  seen : List (Nat × BitVec 256) := []
  role : Role := .own
  deriving DecidableEq, Repr

/-- A request of a PC of which sub-requests are still open, with the bytes read so far. -/
structure HOpen where
  rid : Nat
  h : Held
  left : Nat
  got : List (Nat × Byte) := []
  deriving DecidableEq, Repr

/-- An activated row (R293, R294). -/
structure Activation where
  sid : Nat
  bank : Nat
  row : Nat
  /-- Numbers of the merged requests, in arrival order. -/
  subs : List Nat
  /-- Requests join until the first column command. -/
  closed : Bool := false
  readyAt : Nat
  deriving DecidableEq, Repr

/-- An entry of the command trace (R319). -/
structure HCmd where
  stamp : Nat
  cmd : BitVec 4
  sid : Nat := 0
  bank : Nat := 0
  row : Nat := 0
  col : Nat := 0
  /-- The request that the command serves, and the burst. -/
  req : Option (Nat × Nat) := none
  deriving DecidableEq, Repr

/-- State of a PC (R319). -/
inductive PcSt where
  | out | service | frozen | retired | degraded
  deriving DecidableEq, Repr

/-- One pseudo-channel with its scheduler. -/
structure Pc where
  st : PcSt := .out
  queue : List HReq := []
  /-- Sub-requests that enter the queue one per controller cycle, and the cycle of the last entry (R287, R291). -/
  entering : List HReq := []
  inAt : Option Nat := none
  opens : List HOpen := []
  /-- Reads on their way through the encryption engine: the cycle in which the response leaves, the home PC and the request (R296). -/
  leaving : List (Nat × Nat × Nat) := []
  acts : List Activation := []
  cycle : Nat := 0
  busyUntil : Nat := 0
  lastActs : List (Nat × Nat) := []
  lastCol : Option (Nat × Nat × Bool) := none
  /-- Cycle of the last write of a bank group (R317). -/
  lastWrs : SMap (Option Nat) := []
  bankFree : SMap Nat := []
  lastReq : Nat := 0
  owed : Nat := 0
  due : Nat := 3900
  /-- In self-refresh, or entering it until a time (R302). -/
  sref : Bool := false
  srefAt : Nat := 0
  idleus : Nat := 100
  ce : Nat := 0
  ue : Nat := 0
  faddr : Nat := 0
  fsyn : Reg := 0
  capar : Bool := false
  fue : Bool := false
  /-- Delays and eyes by 2 x byte lane + direction (0 write, 1 read). -/
  delays : SMap Nat := []
  rdeye : Byte := 0
  wreye : Byte := 0
  drift : Bool := false
  stored : Bool := false
  postp : Nat := 0
  runs : Nat := 0
  /-- Repairs that the stack reports as left, and those made since manufacture or power-on (R306). -/
  hard : Nat := 0
  soft : Nat := 0
  hardUsed : Nat := 0
  softUsed : Nat := 0
  mir : Bool := false
  primary : Bool := false
  trace : List HCmd := []
  /-- The trace holds: from a freeze until RESUME (R319). -/
  held : Bool := false
  pauseOwed : Bool := false
  dqBad : SMap Nat := []
  dqUsed : Nat := 0
  corr : List (Nat × Nat) := []
  /-- How often training has written the training area (R308, R310). -/
  trained : Nat := 0
  /-- When the next retraining falls due (R311), byte lanes that training found failing (R312). -/
  trainDue : Nat := 0
  weak : List Nat := []
  /-- The stored delays have been loaded (R313); a failed PC_RESWEEP keeps the PC out (R441). -/
  loaded : Bool := false
  barred : Bool := false
  deriving DecidableEq, Repr

/-- The command bus of a channel (R295): which PC came first in the present controller cycle and whether it took the bus, and the
pointers of R25 by urgency. -/
structure CmdBus where
  turn : Option (Nat × Bool) := none
  ptr : SMap Nat := []
  deriving DecidableEq, Repr

/-- One stack (R318). -/
structure Stack where
  order : BitVec 2 := 0
  rate : Bool := false
  /-- It is moving to 9.2 Gb/s, and its PCs answer FENCED (R313). -/
  moving : Bool := false
  insvc : Bool := false
  temp : Byte := 0
  hot : Bool := false
  cls0 : Nat := 2000
  cls1 : Nat := 500
  cls2 : Nat := 125
  cls3 : Nat := 250
  ppost : Nat := 4
  deny : Nat := 0
  deriving DecidableEq, Repr

/-- The HBM stacks and their controllers. -/
structure Hbm where
  /-- All bytes written since the zero-fill of their unit, by physical address (R374, R375). -/
  mem : List Host.Cell := []
  stks : SMap Stack := []
  pcs : SMap Pc := []
  /-- Requests at the port of a channel controller, by 16 x stack + channel. -/
  ports : SMap (List Held) := []
  /-- Command buses, by the same index. -/
  buses : SMap CmdBus := []
  nextRid : Nat := 0
  /-- Training values in flash by PC, and the time of the next store (R310). -/
  store : SMap (SMap Nat) := []
  storedAt : Option Nat := none
  deriving DecidableEq, Repr

/-! ### Loader and Rope (10) -/

/-- Where an image comes from (R320). -/
inductive Path where
  | mailbox (p : Nat) | flash | stage | rope
  deriving DecidableEq, Repr

/-- Phases of a load. -/
inductive Phase where
  | header | frames | codeWait | armed | wake | ended
  deriving DecidableEq, Repr

/-- One load context (R321). -/
structure LoadCtx where
  busy : Bool := false
  issuer : Option Issuer := none
  region : Option Nat := none
  path : Path := .flash
  phase : Phase := .ended
  /-- Where its bytes begin in flash or the stage buffer; bytes that the load command gives, and those taken. -/
  base : Nat := 0
  given : Nat := 0
  taken : Nat := 0
  /-- The signed part of the header. -/
  hdr : List Byte := []
  digest : List Byte := []
  nextFrame : Nat := 0
  seg : Nat := 0
  segBuf : List Byte := []
  /-- The segment in the buffer is complete and waits for the decryption engine (R321): the index of its last frame. -/
  sealed : Option Nat := none
  /-- A carry-pair leader's plaintext that waits for its follower's segment (R334). -/
  pairHold : Option (Nat × List Byte) := none
  written : List Nat := []
  tick : Nat := 0
  step : Nat := 0
  stepFrom : Nat := 0
  /-- RELEASE_SETRESET has run (R343). -/
  released : Bool := false
  marked : Bool := false
  lst : Reg := 0
  lfrm : Reg := 0
  ltk : BitVec 64 := 0
  ltkLatch : Option Reg := none
  deriving DecidableEq, Repr

/-- The Rope receiver (R344). -/
structure Rope where
  listen : Bool := false
  lock : Bool := false
  good : Nat := 0
  /-- Validity of the last 64 sync headers, newest first. -/
  recent : List Bool := []
  inimg : Bool := false
  buf : List Byte := []
  /-- Frames of a complete image that context 4 has still to take while a next image comes (R348). -/
  old : Option (List Byte) := none
  addressed : Option Bool := none
  ended : Bool := false
  lastBlock : Nat := 0
  doneo : Bool := true
  faulto : Bool := false
  faultl : Bool := true
  donel : Bool := true
  rerr : Nat := 0
  ghi : BitVec 6 := 0
  rto : Nat := 50
  deriving DecidableEq, Repr

/-- The loader. -/
structure Loader where
  ctxs : SMap LoadCtx := []
  rope : Rope := {}
  fullCommitted : Bool := false
  /-- Clusters behind the write barrier (R342). -/
  barrier : List Nat := []
  /-- The partly-loaded pin states of the first full image have ended (R350). -/
  pinsFree : Bool := false
  firstLoad : Bool := true
  ownerClusters : List Nat := []
  /-- Rotating pointer of the decryption engine (R321). -/
  ptr : Nat := 0
  deriving DecidableEq, Repr

/-! ### Security, tenants, regions (11, 13) -/

/-- Life-cycle states (R354). -/
inductive Lcs where
  | blank | provisioned | owned | debug | retired
  deriving DecidableEq, Repr

/-- A signer: its two public keys as one blob, and its SVN minimum (R367). -/
structure Signer where
  blob : Option (List Byte) := none
  svn : Nat := 0
  deriving DecidableEq, Repr

/-- SPDM state of a host port (R361, R362). -/
structure Spdm where
  version : Bool := false
  caps : Bool := false
  algs : Bool := false
  /-- A KEY_EXCHANGE whose FINISH has not come, with the secret drawn. -/
  handshake : Option (List Byte) := none
  session : Option (List Byte) := none
  seq : Nat := 1
  /-- Updates of the session keys by KEY_UPDATE. -/
  updates : Nat := 0
  ideStreams : List (Nat × Nat) := []
  deriving DecidableEq, Repr

/-- A life-cycle transition that runs (R356). -/
structure Trans where
  dest : Lcs
  issuer : Issuer
  /-- Step 4 has written the new state, and when its completion was posted (R445). -/
  written : Bool := false
  posted : Nat
  deriving DecidableEq, Repr

/-- Why a region stops (R475, R476). -/
inductive StopCause where
  | clusterLost | pairMismatch
  deriving DecidableEq, Repr

/-- A region (R430, R431). -/
structure Region where
  ten : Nat
  x0 : Nat
  y0 : Nat
  w : Nat
  h : Nat
  maxp : Nat
  units : List Nat
  tbase : Nat
  tcount : Nat
  sbase : Nat
  scount : Nat
  patched : Bool := false
  mirrored : Bool := false
  stop : Option StopCause := none
  deriving DecidableEq, Repr

/-- The security core and the tenancy record. -/
structure Sec where
  lcs : Lcs := .blank
  /-- The RETIRED fuse (R354, R356). -/
  fused : Bool := false
  dbgcnt : Nat := 0
  trans : Option Trans := none
  ownerHash : Option (List Byte) := none
  owner : Signer := {}
  fleet : Option (List Byte) := none
  debugFleet : Option (List Byte) := none
  keys : SMap (Option (List Byte)) := []
  spdm : SMap Spdm := []
  tenants : SMap Bool := []
  signers : SMap Signer := []
  regions : SMap (Option Region) := []
  /-- Tag table: key slot of each allocated unit (R374). -/
  units : SMap (Option Nat) := []
  standby : List Nat := []
  /-- When the zero-fill of a unit ends, that of a PC's share, and the wipe of a cluster (R380 to R383). -/
  wipeUnits : SMap Nat := []
  wipePcs : SMap Nat := []
  wipeCls : SMap Nat := []
  /-- The certificates of Alias1 and Alias2 (R359, R360). -/
  cert1 : List Byte := []
  cert2 : List Byte := []
  /-- Mirror partner PCs taken from allocation (R314). -/
  mirrorPcs : List Nat := []
  deriving DecidableEq, Repr

/-! ### Host ports (12) -/

/-- A ring of a function (R393, R416). -/
structure Ring where
  base : BitVec 64 := 0
  log2 : Nat := 4
  en : Bool := false
  head : Nat := 0
  tail : Nat := 0
  phase : Bool := true
  vec : Nat := 0
  ccnt : Nat := 0
  ctime : Nat := 0
  /-- Entries not yet signalled, and the time of the first. -/
  unsig : Nat := 0
  unsigAt : Nat := 0
  deriving DecidableEq, Repr

/-- A slot of a function (R403 to R405). -/
structure HSlot where
  busy : Bool := false
  gen : Nat := 0
  marked : Bool := false
  /-- The aborts that wait for this slot's completion (R405). -/
  aborters : List Issuer := []
  deriving DecidableEq, Repr

/-- A completion that is ready (R401). -/
structure Ready where
  tag : BitVec 16
  status : Byte
  rej : Bool
  result : BitVec 128
  /-- SEQ of a session-bound command. -/
  seq : Option Nat := none
  deriving DecidableEq, Repr

/-- A function of a host port. -/
structure Func where
  sq : Ring := {}
  cq : Ring := {}
  nr : Ring := {}
  slots : SMap HSlot := []
  ready : List Ready := []
  /-- The task signal at the head of this ring stands with Belay, which has not accepted it yet (R228); Belay has accepted it, and its
  submission is not consumed yet. -/
  sigHeld : Bool := false
  sigDone : Bool := false
  /-- The command that stands for that submission (log 48); none: the ring's own. -/
  sigBy : Option Issuer := none
  rstp : Bool := false
  pwq : SMap (Option Nat) := []
  /-- MSI-X table in 32-bit words, the vector controls inverted in their mask bit; pending bits (R391). -/
  msix : SMap Reg := []
  mpend : SMap Bool := []
  nlost : Nat := 0
  lost : Nat := 0
  deriving DecidableEq, Repr

/-- A recorded violation (R411). -/
structure Viol where
  kind : Byte
  func : Nat
  tag : BitVec 16
  time : Nat
  deriving DecidableEq, Repr

/-- Violations and throttle of a port, host or owner (R411). -/
structure VState where
  windows : List Nat := []
  cur : Nat := 0
  /-- Number of the current window, in windows of 15.625 ms of device time. -/
  win : Nat := 0
  log : List Viol := []
  total : Nat := 0
  throttled : Option Nat := none
  deriving DecidableEq, Repr

/-- A host port. -/
structure Port where
  up : Bool := false
  slow : Bool := false
  perst : Bool := false
  training : Bool := false
  bar2 : Nat := 0
  bound : Option Nat := none
  /-- Unsupported Request, as the port's advanced error reporting logs it (R389). -/
  aerUr : Bool := false
  berr : Nat := 0
  funcs : SMap Func := []
  viol : VState := {}
  ptr : Nat := 0
  lastTake : Option Nat := none
  deriving DecidableEq, Repr

/-- The owner port (R414, R415). -/
structure OwnerPort where
  subs : List (List Byte) := []
  comps : List Ready := []
  slots : SMap HSlot := []
  lastRes : BitVec 3 := 0
  viol : VState := {}
  lastTake : Option Nat := none
  deriving DecidableEq, Repr

/-- A firmware command that has been consumed and has not ended (R420). -/
structure Running where
  iss : Issuer
  op : BitVec 16
  bytes : List Byte
  seq : Option Nat
  /-- The region or tenant that it names has been released or evicted before it ran (R422). -/
  released : Bool := false
  /-- It has begun and goes on over later steps: a load, a mode change, a device-wide command. -/
  began : Bool := false
  deriving DecidableEq, Repr

/-- A command that waits (R421, R422). -/
structure Wait where
  iss : Issuer
  cmd : Instr
  deriving DecidableEq, Repr

/-- Host ports, owner port and the command executive. -/
structure HostIf where
  ports : SMap Port := []
  owner : OwnerPort := {}
  running : List Running := []
  waits : List Wait := []
  /-- The device-wide command that runs (R421). -/
  wide : Option Issuer := none
  avail : Bool := false
  deriving DecidableEq, Repr

/-! ### Firmware, reliability (13, 14, 15) -/

/-- An event-log entry (R480). -/
structure LogEntry where
  time : Nat
  boot : BitVec 16
  code : BitVec 16
  data : Reg
  deriving DecidableEq, Repr

/-- Spare-map entry of a cluster (R484). -/
structure SpareEntry where
  retired : Bool := false
  standby : Bool := false
  patch : Bool := false
  spared : Bool := false
  /-- The spare's own check has failed (R468). -/
  spareBad : Bool := false
  lcell : BitVec 4 := 0
  phys : BitVec 5 := 0
  src0 : Byte := 0
  deriving DecidableEq, Repr

/-- A move that waits or runs (R469, R470): the cluster, its standby, when the retirement was declared, and whether the cluster is the
retired one or its pair partner. -/
structure Move where
  cl : Nat
  dst : Nat
  since : Nat
  lead : Bool
  deriving DecidableEq, Repr

/-- Firmware, Cairn, logs and flash. -/
structure Rel where
  /-- Stage buffer, 4 MiB (R425). -/
  stage : SMap Byte := []
  slot : Bool := false
  update : Option (Issuer × Nat) := none
  /-- Firmware version codes of the two slots. -/
  fwVer : SMap Nat := []
  /-- SVN of the firmware in a slot, once an update has written it (R360). -/
  fwSvn : SMap (Option Nat) := []
  /-- SHA-384 of the firmware that an update has written into a slot. -/
  fwHash : SMap (Option (List Byte)) := []
  log : List LogEntry := []
  second : Nat := 0
  suppressed : Nat := 0
  smap : SMap SpareEntry := []
  /-- Spares that Cairn found unusable, and blocks excluded, by block code. -/
  badBlocks : List Nat := []
  crnEn : Bool := true
  passes : Nat := 0
  notrun : Nat := 0
  fails : Nat := 0
  lastfail : Reg := 0
  busy : Nat := 0
  /-- PLL pairs of the domains, islands 0 to 63 and quadrants 64 to 67: the active one; failed ones by 2 x domain + PLL; domains
  whose standby has passed in this pass. -/
  pllActive : SMap Nat := []
  pllBad : SMap Bool := []
  pllPassed : SMap Bool := []
  /-- The second of device time in which the count of entries began (R480). -/
  secondAt : Nat := 0
  /-- Retired clusters in the order declared, each with the standby chosen for it (R469). -/
  migq : List Move := []
  deriving DecidableEq, Repr

/-- Device state (R447). -/
inductive DState where
  | bringup | service | faultSafe
  deriving DecidableEq, Repr

/-- Kind of device reset (R460). -/
inductive RKind where
  | cold | warm | lifecycle
  deriving DecidableEq, Repr

/-- A running mode change (R453). -/
structure ModeChange where
  step : Nat
  mode : Nat
  issuer : Option Issuer
  /-- 68-byte slot-table records (R455). -/
  tables : List (List Byte) := []
  /-- When its present step began. -/
  since : Nat := 0
  deriving DecidableEq, Repr

/-- Enables that wait for a disable of the same object (R459). -/
inductive PendEnable where
  | island (i : Nat) | ring (p f : Nat) (k : RingKind)
  deriving DecidableEq, Repr

/-- Fence state of an island (R270). -/
inductive Fence where
  | none | requested | acked
  deriving DecidableEq, Repr

/-- Power, modes, resets, straps. -/
structure Sys where
  off : Bool := false
  held : Option RKind := none
  dstate : DState := .bringup
  mode : Nat := 1
  full : Bool := false
  change : Option ModeChange := none
  bootMode : Nat := 1
  bring : Nat := 0
  islOn : SMap Bool := []
  islSvc : SMap Bool := []
  /-- When the clock of an island has last started (R32). -/
  clockAt : SMap Nat := []
  fence : SMap Fence := []
  idleSince : SMap Nat := []
  gidle : Nat := 1000
  rcause : RKind := .cold
  fscause : Byte := 0
  pend : List PendEnable := []
  refclkLost : Bool := false
  thermtrip : Bool := false
  /-- PE0_BIF, PE1_BIF, ROPE_GS[5:0], BOOT_SRC[1:0] from bit 0 up. -/
  straps : BitVec 10 := 0
  bootCount : BitVec 16 := 0
  vdd : Nat := 750
  /-- The latest step of the time base, from and to (R34), and the ns that steps have skipped, by which Belay cycles are counted (R238). -/
  timeStep : Option (Nat × Nat) := none
  skipped : Nat := 0
  deriving DecidableEq, Repr

/-! ### External interfaces (16) -/

/-- A MACsec association (R488). -/
structure Sa where
  tx : Bool
  an : Nat
  flags : Byte
  replay : Reg
  sci : BitVec 64
  ssci : Reg
  salt : BitVec 96
  pn : BitVec 64
  sak : List Byte
  deriving DecidableEq, Repr

/-- An egress frame that waits to depart (R497). -/
structure TxFrame where
  sess : Nat
  sub : Nat
  bytes : List Byte
  tsmode : BitVec 2
  tsoff : Nat
  udp4 : Bool
  deriving DecidableEq, Repr

/-- An Ethernet port (R507). -/
structure Eth where
  link : SMap Bool := []
  split : Nat := 0
  rxerr : Nat := 0
  noMatch : Nat := 0
  txdrop : Nat := 0
  egerr : Nat := 0
  mdrop : Nat := 0
  sas : List Sa := []
  txAn : Option Nat := none
  /-- Association settings that wait for a frame boundary (R489). -/
  newSas : Option (List Sa) := none
  out : List TxFrame := []
  /-- Pointers of the default tie rule, by sub-port (R25, R497). -/
  ptr : SMap Nat := []
  deriving DecidableEq, Repr

/-- A steering rule (R490). -/
structure Rule where
  port : Nat
  sub : Nat
  profile : Byte
  key : BitVec 256
  qid : Nat
  deriving DecidableEq, Repr

/-- A session (R490, R496, R497). -/
structure Sess where
  rule : Option Rule := none
  rate : Nat := 0
  burst : Nat := 0
  /-- Shape that takes effect at the next frame. -/
  next : Option (Nat × Nat) := none
  /-- Content of the token bucket in 1/8,000 byte. -/
  bucket : Nat := 0
  filled : Nat := 0
  egCount : Nat := 0
  /-- Words of egress frames that movers have passed. -/
  words : List (Word × BitVec 4) := []
  deriving DecidableEq, Repr

/-- PTP servo (R499). -/
structure Ptp where
  src : Option Nat := none
  locked : Bool := false
  ever : Bool := false
  good : Nat := 0
  lastSync : Nat := 0
  slew : Int := 0
  deriving DecidableEq, Repr

/-- A GPIO bank (R501, R502). -/
structure Bank where
  record : Option (BitVec 256) := none
  pins : BitVec 24 := 0
  partialSamples : List Reg := []
  scount : Byte := 0
  wait : List Word := []
  outbuf : List MvWord := []
  drop : Nat := 0
  driven : BitVec 24 := 0
  flashHold : Option Nat := none
  vlvl : BitVec 3 := 7
  deriving DecidableEq, Repr

/-- JTAG instructions (R504). -/
inductive Jtag where
  | bypass | idcode | sample | extest | highz | clamp
  /-- A debug instruction that acts, in DEBUG (R504). -/
  | debug (ir : Nat)
  deriving DecidableEq, Repr

/-- External interfaces. -/
structure Ext where
  eths : SMap Eth := []
  sessions : SMap Sess := []
  ptp : Ptp := {}
  banks : SMap Bank := []
  pmbFails : Nat := 0
  bootWidth : Bool := false
  tlmAddr : BitVec 7 := 0x4C
  i3c : Bool := false
  jtag : Jtag := .idcode
  boundary : List Bool := []
  deriving DecidableEq, Repr

/-- What leaves the device (log 11). -/
inductive Output where
  /-- Bytes written into a host's memory. -/
  | hostWrite (port addr : Nat) (bytes : List Byte)
  /-- A host memory read by the device. -/
  | hostRead (port addr nbytes : Nat)
  | msix (port func vec : Nat)
  /-- Answer to a register read, with the value; none for an error response. -/
  | regValue (v : Option (BitVec 64))
  | bar0UR | bar2UR | bar2CA
  | bar2Data (port : Nat) (bytes : List Byte)
  | spi (bytes : List Byte)
  | ownerAlert (low : Bool)
  | spdm (port : Nat) (code : Nat) (payload : List Byte)
  | frame (eth sub : Nat) (bytes : List Byte)
  | pins (bank : Nat) (v : BitVec 24) (cycles : Nat)
  | console (bytes : List Byte)
  | telemetry (v : Byte)
  | nack
  | jtag (v : Nat)
  /-- The scheduler trace, to the owner in DEBUG (R237). -/
  | trace (es : List TraceEntry)
  | thermtripLow
  deriving DecidableEq, Repr

/-- The state of the block. -/
structure State where
  /-- The commands that wait, first in, first out. -/
  pending : List Instr := []
  out : List Output := []
  /-- Counts the random draws; the model's own. -/
  entropy : Nat := 0
  time : BitVec 64 := 0
  sys : Sys := {}
  cls : SMap Cluster := []
  movers : SMap Mover := []
  belay : Belay := {}
  noc : Noc := {}
  hbm : Hbm := {}
  loader : Loader := {}
  sec : Sec := {}
  host : HostIf := {}
  rel : Rel := {}
  ext : Ext := {}
  deriving DecidableEq, Repr

/-- Why a step stops with a fault. -/
inductive Fault where
  /-- Raised by the request commands (RD, WR, WRP, PUSH, PUSHP) whose fields no packet of R246 and R247 can carry: an
  undefined SIZE, a part word with LEN above 0, data that does not fit the length, a push of no word or more than 16. The
  command is none of the part's (see WellFormed). Safe. -/
  | illFormed
  deriving DecidableEq, Repr

/-- Why a command has no meaning. -/
inductive Refusal where
  /-- Raised by an arm of exec whose command has no meaning yet. Safe. -/
  | notModelled (mnemonic : String)
  deriving DecidableEq, Repr

/-- The device right after its first cold reset, at the start of bring-up: nothing but the BOOT entry stands in its event log
(R460, R461, R481). -/
def State.reset : State := {
  sys := { bootCount := 1 }
  rel := { log := [{ time := 0, boot := 1, code := 0x62, data := 0 }], second := 1 } }

end Sys2Proof.Machine
end

