-- ==== Sys2Proof/Machine/Ops.lean ====
section
/-! DEFINITION. Named operations over stores, bytes and the parts of the state. -/

namespace Sys2Proof.Machine

open Host

/-! ### Sparse stores -/

/-- The value at a key: the default where the key is not listed. -/
def sget {α : Type} (d : α) : SMap α → Nat → α
  | [], _ => d
  | (k, v) :: m, i => if i = k then v else sget d m i

/-- Enters a value before the first greater key. -/
def sins {α : Type} : SMap α → Nat → α → SMap α
  | [], i, x => [(i, x)]
  | (k, v) :: m, i, x => if i < k then (i, x) :: (k, v) :: m else (k, v) :: sins m i x

/-- A store without a key. -/
def sdel {α : Type} (m : SMap α) (i : Nat) : SMap α := m.filter (fun p => decide (p.1 ≠ i))

/-- Writes a key and keeps the canonical form: keys rising, no entry equal to the default. -/
def sput {α : Type} [DecidableEq α] (d : α) (m : SMap α) (i : Nat) (x : α) : SMap α :=
  if x = d then sdel m i else sins (sdel m i) i x

/-- Keys strictly rising from a bound, and no entry equal to the default. -/
def swfFrom {α : Type} [DecidableEq α] (d : α) : Nat → SMap α → Bool
  | _, [] => true
  | lo, (k, v) :: m => decide (lo ≤ k) && decide (v ≠ d) && swfFrom d (k + 1) m

/-- The canonical form of a sparse store. -/
def swf {α : Type} [DecidableEq α] (d : α) (m : SMap α) : Bool := swfFrom d 0 m

/-- The entries of a store whose keys lie in a range. -/
def srange {α : Type} (m : SMap α) (lo hi : Nat) : SMap α := m.filter (fun p => decide (lo ≤ p.1) && decide (p.1 < hi))

/-- A store without the entries of a range. -/
def sclear {α : Type} (m : SMap α) (lo hi : Nat) : SMap α := m.filter (fun p => decide (p.1 < lo) || decide (hi ≤ p.1))

/-! ### HBM bytes: a canonical list of (address, byte); an unlisted byte has not been written since its zero-fill -/

/-- The byte at a physical address, if it has been written since the zero-fill of its unit. -/
def memGet : List Host.Cell → Nat → Option Byte
  | [], _ => none
  | (k, v) :: m, i => if i = k then some v else memGet m i

/-- Writes one byte. -/
def memPut : List Host.Cell → Nat → Byte → List Host.Cell
  | [], i, x => [(i, x)]
  | (k, v) :: m, i, x => if i < k then (i, x) :: (k, v) :: m else if i = k then (i, x) :: m else (k, v) :: memPut m i x

/-- Addresses strictly rising from a bound. -/
def memWfFrom : Nat → List Host.Cell → Bool
  | _, [] => true
  | lo, (k, _) :: m => decide (lo ≤ k) && memWfFrom (k + 1) m

/-- The canonical form of the HBM bytes. -/
def Memory.wf (m : List Host.Cell) : Bool := memWfFrom 0 m

/-- Writes consecutive bytes. -/
def memPuts : List Host.Cell → Nat → List Byte → List Host.Cell
  | m, _, [] => m
  | m, a, b :: bs => memPuts (memPut m a b) (a + 1) bs

/-- Zero-fills a range (R379, R380): every byte of it becomes unwritten. -/
def memErase (m : List Host.Cell) (lo hi : Nat) : List Host.Cell := m.filter (fun p => decide (p.1 < lo) || decide (hi ≤ p.1))

/-! ### Bits and bytes (R13: little-endian) -/

/-- Bits [lo + w - 1 : lo] of a number. -/
def fld (x lo w : Nat) : Nat := (x >>> lo) % 2 ^ w

/-- Bit i of a number. -/
def bit (x i : Nat) : Bool := fld x i 1 = 1

/-- A Boolean as a number. -/
def b2n (b : Bool) : Nat := if b then 1 else 0

/-- The number that bytes spell, byte 0 least significant. -/
def leNat : List Byte → Nat
  | [] => 0
  | b :: bs => b.toNat + 256 * leNat bs

/-- The n bytes of a number, byte 0 least significant. -/
def toLe : Nat → Nat → List Byte
  | 0, _ => []
  | n + 1, x => BitVec.ofNat 8 x :: toLe n (x / 256)

/-- The n bytes of a number, most significant first. -/
def toBe (n x : Nat) : List Byte := (toLe n x).reverse

/-- n bytes of a list from an offset, as a number. -/
def le (bs : List Byte) (off n : Nat) : Nat := leNat ((bs.drop off).take n)

/-- n bytes of a list from an offset. -/
def slice (bs : List Byte) (off n : Nat) : List Byte := (bs.drop off).take n

/-- The bytes of a text. -/
def ascii (t : String) : List Byte := t.toList.map (fun c => BitVec.ofNat 8 c.toNat)

/-- A number brought up to a limit and held there (counters that hold at their maximum). -/
def satAdd (x n max : Nat) : Nat := min (x + n) max

/-- A signed reading of w bits. -/
def toInt (w x : Nat) : Int := if x % 2 ^ w < 2 ^ (w - 1) then (x % 2 ^ w : Nat) else (x % 2 ^ w : Nat) - (2 ^ w : Nat)

/-- The low w bits of an integer. -/
def ofInt (w : Nat) (x : Int) : Nat := (x % (2 ^ w : Nat)).toNat

/-- The low bits [lo + w - 1 : lo] of x replaced by v. -/
def putFld (x lo w v : Nat) : Nat := x - (fld x lo w) * 2 ^ lo + (v % 2 ^ w) * 2 ^ lo

/-- n items from a function of the index. -/
def tabulate {α : Type} (n : Nat) (f : Nat → α) : List α := (List.range n).map f

/-- The bytes of a 128-bit word. -/
def wordBytes (w : Word) : List Byte := toLe 16 w.toNat

/-- A 128-bit word from bytes, zero-padded. -/
def bytesWord (bs : List Byte) : Word := BitVec.ofNat 128 (leNat (bs.take 16))

/-- Cuts bytes into 128-bit words, the last zero-padded. -/
def bytesWords : Nat → List Byte → List Word
  | 0, _ => []
  | n + 1, bs => bytesWord bs :: bytesWords n (bs.drop 16)

/-- The first index at or after p, wrapping, for which f holds (R25), among n. -/
def rrPick (n p : Nat) (f : Nat → Bool) : Option Nat :=
  ((List.range n).map (fun i => (p + i) % n)).find? f

/-- One round of CRC-32C (Castagnoli, reflected). -/
def crc32cByte (crc : Nat) (b : Byte) : Nat :=
  (List.range 8).foldl (fun c _ => if c % 2 = 1 then (c / 2) ^^^ 0x82F63B78 else c / 2) (crc ^^^ b.toNat)

/-- CRC-32C of bytes (R330, R414). -/
def crc32c (bs : List Byte) : Nat := (bs.foldl crc32cByte 0xFFFFFFFF) ^^^ 0xFFFFFFFF

/-! ### Parts of the state -/

/-- Cluster c. -/
def State.cl (s : State) (c : Nat) : Cluster := sget {} s.cls c
def State.setCl (s : State) (c : Nat) (v : Cluster) : State := { s with cls := sput {} s.cls c v }
def State.updCl (s : State) (c : Nat) (f : Cluster → Cluster) : State := s.setCl c (f (s.cl c))

/-- Cell i of a cluster. -/
def Cluster.cell (k : Cluster) (i : Nat) : Cell := sget {} k.cells i
def Cluster.setCell (k : Cluster) (i : Nat) (v : Cell) : Cluster := { k with cells := sput {} k.cells i v }

/-- Queue q of a cluster by local index. -/
def Cluster.queue (k : Cluster) (q : Nat) : Queue := sget {} k.queues q
def Cluster.setQueue (k : Cluster) (q : Nat) (v : Queue) : Cluster := { k with queues := sput {} k.queues q v }
def Cluster.fwd (k : Cluster) (i : Nat) : Fwd := sget {} k.fwds i
def Cluster.setFwd (k : Cluster) (i : Nat) (v : Fwd) : Cluster := { k with fwds := sput {} k.fwds i v }

/-- Sequencer of cluster c. -/
def State.seq (s : State) (c : Nat) : Seq := (s.cl c).seq
def State.setSeq (s : State) (c : Nat) (q : Seq) : State := s.updCl c (fun k => { k with seq := q })

/-- Queue by global ID. -/
def State.queue (s : State) (q : Nat) : Queue := (s.cl (q / 128)).queue (q % 128)
def State.setQueue (s : State) (q : Nat) (v : Queue) : State := s.updCl (q / 128) (fun k => k.setQueue (q % 128) v)

def State.mover (s : State) (m : Nat) : Mover := sget {} s.movers m
def State.setMover (s : State) (m : Nat) (v : Mover) : State := { s with movers := sput {} s.movers m v }

def State.task (s : State) (t : Nat) : Task := sget {} s.belay.tasks t
def State.setTask (s : State) (t : Nat) (v : Task) : State :=
  { s with belay := { s.belay with tasks := sput {} s.belay.tasks t v } }
def State.breg (s : State) (r : Nat) : BRegion := sget {} s.belay.regions r
def State.setBreg (s : State) (r : Nat) (v : BRegion) : State :=
  { s with belay := { s.belay with regions := sput {} s.belay.regions r v } }
def State.timer (s : State) (t : Nat) : Timer := sget {} s.belay.timers t
def State.setTimer (s : State) (t : Nat) (v : Timer) : State :=
  { s with belay := { s.belay with timers := sput {} s.belay.timers t v } }
def State.srec (s : State) (c : Nat) : SeqRec := sget {} s.belay.recs c
def State.setSrec (s : State) (c : Nat) (v : SeqRec) : State :=
  { s with belay := { s.belay with recs := sput {} s.belay.recs c v } }

def State.router (s : State) (r : Nat) : Router := sget {} s.noc.routers r
def State.setRouter (s : State) (r : Nat) (v : Router) : State :=
  { s with noc := { s.noc with routers := sput {} s.noc.routers r v } }
def State.init (s : State) (i : Nat) : Init := sget {} s.noc.inits i
def State.setInit (s : State) (i : Nat) (v : Init) : State :=
  { s with noc := { s.noc with inits := sput {} s.noc.inits i v } }

def State.stack (s : State) (i : Nat) : Stack := sget {} s.hbm.stks i
def State.setStack (s : State) (i : Nat) (v : Stack) : State := { s with hbm := { s.hbm with stks := sput {} s.hbm.stks i v } }
def State.pc (s : State) (i : Nat) : Pc := sget {} s.hbm.pcs i
def State.setPc (s : State) (i : Nat) (v : Pc) : State := { s with hbm := { s.hbm with pcs := sput {} s.hbm.pcs i v } }

/-- Bytes of a stack (R20). -/
def stackBytes : Nat := 0x900000000

/-- The anchor blocks in which firmware keeps an item: one of each of the first two stacks that have an anchor PC in service (R288). -/
def State.anchorBlocks (s : State) : List Nat :=
  ((List.range 4).filterMap (fun m => ([32 * m, 32 * m + 16].find? (fun p => decide ((s.pc p).st = .service))).map
    (fun p => m * stackBytes + 0x800000000 + p % 32 * 0x8000000))).take 2

/-- Bytes of an item of the anchor blocks are written, in both copies (R288, R337, log 26). -/
def State.anchorKeep (s : State) (item off : Nat) (bs : List Byte) : State :=
  { s with hbm := { s.hbm with mem := s.anchorBlocks.foldl (fun m b =>
      memPuts m (b + Config.anchorSpot item % 0x4000000 + off % 0x2000000) (bs.take 0x1000000)) s.hbm.mem } }

def State.ctx (s : State) (i : Nat) : LoadCtx := sget {} s.loader.ctxs i
def State.setCtx (s : State) (i : Nat) (v : LoadCtx) : State :=
  { s with loader := { s.loader with ctxs := sput {} s.loader.ctxs i v } }
def State.setRope (s : State) (v : Rope) : State := { s with loader := { s.loader with rope := v } }

def State.region (s : State) (r : Nat) : Option Region := sget none s.sec.regions r
def State.setRegion (s : State) (r : Nat) (v : Option Region) : State :=
  { s with sec := { s.sec with regions := sput none s.sec.regions r v } }
def State.spdm (s : State) (p : Nat) : Spdm := sget {} s.sec.spdm p
def State.setSpdm (s : State) (p : Nat) (v : Spdm) : State := { s with sec := { s.sec with spdm := sput {} s.sec.spdm p v } }
def State.tenant (s : State) (t : Nat) : Bool := sget false s.sec.tenants t
def State.signer (s : State) (t : Nat) : Signer := sget {} s.sec.signers t
def State.key (s : State) (k : Nat) : Option (List Byte) := sget none s.sec.keys k
/-- Whether the key table is empty and stays so: in RETIRED, and on the way there (R354, R356). -/
def State.keyless (s : State) : Bool :=
  decide (s.sec.lcs = .retired) || (match s.sec.trans with | some t => decide (t.dest = .retired) | none => false)

def State.setKey (s : State) (k : Nat) (v : Option (List Byte)) : State :=
  { s with sec := { s.sec with keys := if v.isSome && s.keyless then s.sec.keys else sput none s.sec.keys k v } }

def State.port (s : State) (p : Nat) : Port := sget {} s.host.ports p
def State.setPort (s : State) (p : Nat) (v : Port) : State := { s with host := { s.host with ports := sput {} s.host.ports p v } }
def Port.func (p : Port) (f : Nat) : Func := sget {} p.funcs f
def Port.setFunc (p : Port) (f : Nat) (v : Func) : Port := { p with funcs := sput {} p.funcs f v }
def State.func (s : State) (p f : Nat) : Func := (s.port p).func f
def State.setFunc (s : State) (p f : Nat) (v : Func) : State := s.setPort p ((s.port p).setFunc f v)

def State.smap (s : State) (c : Nat) : SpareEntry := sget {} s.rel.smap c
def State.setSmap (s : State) (c : Nat) (v : SpareEntry) : State := { s with rel := { s.rel with smap := sput {} s.rel.smap c v } }

def State.eth (s : State) (e : Nat) : Eth := sget {} s.ext.eths e
def State.setEth (s : State) (e : Nat) (v : Eth) : State := { s with ext := { s.ext with eths := sput {} s.ext.eths e v } }
def State.sess (s : State) (i : Nat) : Sess := sget {} s.ext.sessions i
def State.setSess (s : State) (i : Nat) (v : Sess) : State := { s with ext := { s.ext with sessions := sput {} s.ext.sessions i v } }
def State.bank (s : State) (b : Nat) : Bank := sget {} s.ext.banks b
def State.setBank (s : State) (b : Nat) (v : Bank) : State := { s with ext := { s.ext with banks := sput {} s.ext.banks b v } }

/-- Puts something on the device's boundary. -/
def State.emit (s : State) (o : Output) : State := { s with out := s.out ++ [o] }

/-- The device time in ns (log 86). -/
def State.now (s : State) : Nat := s.time.toNat

/-- A step of the time base forward (R31, R34). -/
def State.stepTime (s : State) (t : Nat) : State :=
  if t ≤ s.now then s
  else { s with time := BitVec.ofNat 64 t, sys := { s.sys with timeStep := some (s.now, t), skipped := s.sys.skipped + (t - s.now - 1) } }

/-- A command's effect, while the device is out of OFF and not held in reset (R447, R513); nothing happens otherwise. -/
def act (s : State) (f : State → State) : Outcome State Fault Refusal :=
  .next (if s.sys.off || s.sys.held.isSome then s else f s)

/-! ### Coordinates (R16, R18) -/

def clX (c : Nat) : Nat := c % 16
def clY (c : Nat) : Nat := c / 16
def clOf (x y : Nat) : Nat := 16 * y + x
def islandOf (c : Nat) : Nat := 8 * (clY c / 2) + clX c / 2
def dieOf (c : Nat) : Nat := clX c / 8 + 2 * (clY c / 8)
/-- The four clusters of an island. -/
def islandClusters (i : Nat) : List Nat :=
  let x := 2 * (i % 8); let y := 2 * (i / 8)
  [clOf x y, clOf (x + 1) y, clOf x (y + 1), clOf (x + 1) (y + 1)]

/-- Clusters of a rectangle. -/
def rect (x0 y0 w h : Nat) : List Nat :=
  (List.range h).flatMap (fun j => (List.range w).map (fun i => clOf (x0 + i) (y0 + j)))

/-- Clusters of a region (R430). -/
def Region.clusters (r : Region) : List Nat := rect r.x0 r.y0 r.w r.h

/-- The cluster that holds the state of cluster c: its standby once it has migrated (R470). -/
def State.redir (s : State) (c : Nat) : Nat :=
  match s.noc.redirect.find? (fun p => p.1 = c) with
  | some p => p.2
  | none => c

/-- The region that contains a cluster, in its rectangle or as a standby that has taken a place in it. -/
def State.regionOf (s : State) (c : Nat) : Option Nat :=
  (List.range 64).find? (fun r => match s.region r with
    | some g => (g.clusters.map s.redir).contains c
    | none => false)

/-- The tenant whose region contains a cluster. -/
def State.tenantOf (s : State) (c : Nat) : Option Nat := ((s.regionOf c).bind s.region).map (·.ten)

/-- Region of a task number (R206). -/
def State.regionOfTask (s : State) (t : Nat) : Option Nat :=
  (List.range 64).find? (fun r => let b := s.breg r; decide (b.base ≤ t) && decide (t < b.base + b.count))

/-! ### Initiators (R243) -/

/-- Scaeth, on which firmware runs. -/
def fwId : Nat := 0x210
def loaderId : Nat := 0x211
def belayId : Nat := 0x213
def hostInit (p : Nat) : Nat := 0x200 + p
def moverInit (m : Nat) : Nat := 0x100 + m
def isCluster (i : Nat) : Bool := decide (i < 256)
def isMover (i : Nat) : Bool := decide (0x100 ≤ i) && decide (i < 0x140)
def isHost (i : Nat) : Bool := decide (0x200 ≤ i) && decide (i < 0x204)
/-- Hub initiators with the physical address space: Scaeth, loader, security core, Belay, Cairn. -/
def isHub (i : Nat) : Bool := decide (0x210 ≤ i) && decide (i < 0x215)

/-- Tags of an initiator (R243). -/
def nTags (i : Nat) : Nat :=
  if isCluster i || isMover i then 32 else if isHost i then 256 else if i = 0x210 then 32 else if i = 0x211 then 64
  else if i = 0x212 then 32 else if i = 0x214 then 8 else 0

/-- The region of an initiator (R372): its cluster's, its mover's, or the region bound to the host port's window. -/
def State.initRegion (s : State) (i : Nat) : Option Nat :=
  if isCluster i then s.regionOf i else if isMover i then (s.mover (i - 0x100)).region
  else if isHost i then (s.port (i - 0x200)).bound else none

/-- The tenant that an initiator belongs to. -/
def State.initTenant (s : State) (i : Nat) : Option Nat :=
  if isHost i then (if s.tenant (i - 0x200) then some (i - 0x200) else none)
  else ((s.initRegion i).bind s.region).map (·.ten)

/-! ### Event log (R480, R481) -/

/-- A new second of device time begins for the event log (R480, log 83): one LOG_SUPPRESSED entry closes a second in which entries were
not written. -/
def State.rollLog (s : State) : State :=
  let k := s.now / 1000000000
  if s.rel.secondAt = k then s
  else { s with rel := { s.rel with
    secondAt := k, second := 0, suppressed := 0
    log := if s.rel.suppressed = 0 then s.rel.log
      else ({ time := s.now, boot := s.sys.bootCount, code := 0x70, data := BitVec.ofNat 32 s.rel.suppressed } :: s.rel.log).take 4096 } }

/-- Writes an event-log entry; beyond 100 in one second it is counted as suppressed. -/
def State.log (s : State) (code data : Nat) : State :=
  let s := s.rollLog
  if 100 ≤ s.rel.second then { s with rel := { s.rel with suppressed := s.rel.suppressed + 1 } }
  else { s with rel := { s.rel with
    second := s.rel.second + 1
    log := ({ time := s.now, boot := s.sys.bootCount, code := BitVec.ofNat 16 code, data := BitVec.ofNat 32 data } :: s.rel.log).take 4096 } }

/-- Bytes of an event-log entry. -/
def LogEntry.bytes (e : LogEntry) : List Byte :=
  toLe 8 e.time ++ toLe 2 e.boot.toNat ++ toLe 2 e.code.toNat ++ toLe 4 e.data.toNat

/-! ### Folding over indices -/

/-- Applies an update for each index in order. -/
def forAll (xs : List Nat) (f : State → Nat → State) (s : State) : State := xs.foldl f s

end Sys2Proof.Machine
end

