-- ==== Sys2Proof/Machine/Float.lean ====
section
/-! DEFINITION. Floating point: the formats of R39 and binary64 (R178), one rounding to nearest even, IEEE 754 flags. -/

namespace Sys2Proof.Machine

/-- A floating-point format (R39, R178): exponent bits, fraction bits, bias, and whether it has infinities. -/
structure FFmt where
  ebits : Nat
  mbits : Nat
  bias : Nat
  hasInf : Bool
  /-- Canonical quiet NaN (R49, R178). -/
  qnan : Nat
  deriving DecidableEq, Repr

def fp32 : FFmt := ⟨8, 23, 127, true, 0x7FC00000⟩
def fp16 : FFmt := ⟨5, 10, 15, true, 0x7E00⟩
def bf16 : FFmt := ⟨8, 7, 127, true, 0x7FC0⟩
def e4m3 : FFmt := ⟨4, 3, 7, false, 0x7F⟩
def e5m2 : FFmt := ⟨5, 2, 15, true, 0x7E⟩
def fp64 : FFmt := ⟨11, 52, 1023, true, 0x7FF8000000000000⟩

/-- A value: a NaN, an infinity, or a signed multiple of a power of two. -/
inductive FVal where
  | nan (signalling : Bool)
  | inf (neg : Bool)
  | fin (neg : Bool) (mant : Nat) (exp : Int)
  deriving DecidableEq, Repr

/-- Flags of an operation (IEEE 754, R531): invalid, division by zero, overflow, underflow by R531, inexact, and a
clamp to the largest magnitude (SATF). -/
structure FFlags where
  nv : Bool := false
  dz : Bool := false
  of : Bool := false
  uf : Bool := false
  nx : Bool := false
  sat : Bool := false
  deriving DecidableEq, Repr

def FFlags.or (a b : FFlags) : FFlags :=
  ⟨a.nv || b.nv, a.dz || b.dz, a.of || b.of, a.uf || b.uf, a.nx || b.nx, a.sat || b.sat⟩

/-- The value that bits spell (R39, R531); a subnormal reads as a zero of its sign under FTZ (R48). -/
def fdecode (f : FFmt) (ftz : Bool) (x : Nat) : FVal :=
  let m := fld x 0 f.mbits
  let e := fld x f.mbits f.ebits
  let neg := bit x (f.mbits + f.ebits)
  let top := 2 ^ f.ebits - 1
  if f.hasInf && decide (e = top) then
    if m = 0 then .inf neg else .nan (m < 2 ^ (f.mbits - 1))
  else if !f.hasInf && decide (e = top) && decide (m = 2 ^ f.mbits - 1) then .nan false
  else if e = 0 then .fin neg (if ftz then 0 else m) (1 - (f.bias : Int) - f.mbits)
  else .fin neg (2 ^ f.mbits + m) ((e : Int) - f.bias - f.mbits)

/-- The bits of a sign, an exponent field and a fraction. -/
def fbits (f : FFmt) (neg : Bool) (e m : Nat) : Nat := b2n neg * 2 ^ (f.ebits + f.mbits) + e * 2 ^ f.mbits + m

/-- An infinity; for a format without one, the largest magnitude under SAT (which sets SATF) or the canonical NaN (R50). -/
def finf (f : FFmt) (sat neg : Bool) : Nat × FFlags :=
  if f.hasInf then (fbits f neg (2 ^ f.ebits - 1) 0, {})
  else if sat then (fbits f neg (2 ^ f.ebits - 1) (2 ^ f.mbits - 2), { sat := true })
  else (f.qnan, {})

/-- Shifts right by n, rounding to nearest with ties to even. -/
def rneShift (m n : Nat) : Nat :=
  let q := m >>> n
  let r := m % 2 ^ n
  if 2 * r > 2 ^ n || (2 * r == 2 ^ n && decide (q % 2 = 1)) then q + 1 else q

/-- Rounds a finite value once to a format (R47, R48, R50, R531). -/
def fround (f : FFmt) (ftz sat : Bool) (neg : Bool) (mant : Nat) (exp : Int) : Nat × FFlags :=
  if mant = 0 then (fbits f neg 0 0, {}) else
  let emin : Int := 1 - (f.bias : Int) - f.mbits
  let q : Int := max ((Nat.log2 mant : Int) + exp - f.mbits) emin
  let m := if q ≤ exp then mant * 2 ^ (exp - q).toNat else rneShift mant (q - exp).toNat
  let exact := decide (q ≤ exp) || decide (mant % 2 ^ (q - exp).toNat = 0)
  let big := decide (m = 2 ^ (f.mbits + 1))
  let m := if big then 2 ^ f.mbits else m
  let q := if big then q + 1 else q
  let e := (q + f.bias + f.mbits).toNat
  let top := 2 ^ f.ebits - 1
  if 2 ^ f.mbits ≤ m then
    let ovf := if f.hasInf then decide (top ≤ e) else decide (top < e) || (decide (e = top) && decide (m = 2 ^ (f.mbits + 1) - 1))
    if ovf then
      let (b, fl) := finf f sat neg
      (b, { fl with of := true, nx := true })
    else (fbits f neg e (m - 2 ^ f.mbits), { nx := !exact })
  else if ftz || decide (m = 0) then (fbits f neg 0 0, { uf := true, nx := true })
  else (fbits f neg 0 m, { uf := true, nx := !exact })

/-- The exact sum of two finite values; an exact zero is +0 unless both are zeros of one negative sign. -/
def faddExact (n1 : Bool) (m1 : Nat) (e1 : Int) (n2 : Bool) (m2 : Nat) (e2 : Int) : Bool × Nat × Int :=
  let e := min e1 e2
  let a : Int := (m1 * 2 ^ (e1 - e).toNat : Nat)
  let b : Int := (m2 * 2 ^ (e2 - e).toNat : Nat)
  let s := (if n1 then -a else a) + (if n2 then -b else b)
  if s = 0 then (n1 && n2, 0, e) else (decide (s < 0), s.natAbs, e)

/-- Whether a value is a NaN, and a signalling one. -/
def FVal.isNan : FVal → Bool
  | .nan _ => true
  | _ => false
def FVal.isSnan : FVal → Bool
  | .nan s => s
  | _ => false
def FVal.neg : FVal → FVal
  | .nan s => .nan s
  | .inf n => .inf (!n)
  | .fin n m e => .fin (!n) m e

/-- The exact product of two values that are no NaN; none for infinity times zero. -/
def fmulExact : FVal → FVal → Option FVal
  | .fin n1 m1 e1, .fin n2 m2 e2 => some (.fin (n1 != n2) (m1 * m2) (e1 + e2))
  | .inf n1, .inf n2 => some (.inf (n1 != n2))
  | .inf n1, .fin n2 m _ => if m = 0 then none else some (.inf (n1 != n2))
  | .fin n1 m _, .inf n2 => if m = 0 then none else some (.inf (n1 != n2))
  | _, _ => none

/-- Rounds a value to a format. -/
def froundVal (f : FFmt) (ftz sat : Bool) : FVal → Nat × FFlags
  | .nan s => (f.qnan, { nv := s })
  | .inf n => finf f sat n
  | .fin n m e => fround f ftz sat n m e

/-- The rounded sum of two values that are no NaN. -/
def faddVal (f : FFmt) (ftz sat : Bool) : FVal → FVal → Nat × FFlags
  | .inf n1, .inf n2 => if n1 = n2 then finf f sat n1 else (f.qnan, { nv := true })
  | .inf n, _ => finf f sat n
  | _, .inf n => finf f sat n
  | .fin n1 m1 e1, .fin n2 m2 e2 =>
    let (n, m, e) := faddExact n1 m1 e1 n2 m2 e2
    fround f ftz sat n m e
  | _, _ => (f.qnan, {})

/-- a × b + c, rounded once (R47). Infinity times zero with a quiet NaN addend: IEEE 754 leaves open whether it is
signalled (log 15). -/
def ffma (f : FFmt) (ftz sat : Bool) (a b c : FVal) : Nat × FFlags :=
  let nan := a.isNan || b.isNan || c.isNan
  let snan := a.isSnan || b.isSnan || c.isSnan
  if nan then
    let zi := !a.isNan && !b.isNan && (fmulExact a b).isNone
    (f.qnan, { nv := snan || (zi && Config.zeroInfNanInvalid) })
  else match fmulExact a b with
    | none => (f.qnan, { nv := true })
    | some p => faddVal f ftz sat p c

/-- a × b, rounded once. -/
def fmul (f : FFmt) (ftz sat : Bool) (a b : FVal) : Nat × FFlags :=
  if a.isNan || b.isNan then (f.qnan, { nv := a.isSnan || b.isSnan })
  else match fmulExact a b with
    | none => (f.qnan, { nv := true })
    | some p => froundVal f ftz sat p

/-- a + b, rounded once. -/
def fadd (f : FFmt) (ftz sat : Bool) (a b : FVal) : Nat × FFlags :=
  if a.isNan || b.isNan then (f.qnan, { nv := a.isSnan || b.isSnan }) else faddVal f ftz sat a b

/-- a ÷ b, rounded once: the quotient with enough bits and a sticky bit. -/
def fdiv (f : FFmt) (a b : FVal) : Nat × FFlags :=
  if a.isNan || b.isNan then (f.qnan, { nv := a.isSnan || b.isSnan })
  else match a, b with
    | .inf _, .inf _ => (f.qnan, { nv := true })
    | .inf n1, .fin n2 _ _ => finf f false (n1 != n2)
    | .fin n1 _ _, .inf n2 => (fbits f (n1 != n2) 0 0, {})
    | .fin n1 m1 e1, .fin n2 m2 e2 =>
      if m2 = 0 then
        if m1 = 0 then (f.qnan, { nv := true })
        else let (x, fl) := finf f false (n1 != n2); (x, { fl with dz := true })
      else
        let k := 2 * f.mbits + 8
        let num := m1 * 2 ^ k
        let q := 2 * (num / m2) + (if num % m2 = 0 then 0 else 1)
        fround f false false (n1 != n2) q (e1 - e2 - (k : Int) - 1)
    | _, _ => (f.qnan, {})

/-- The order of two values that are no NaN: -1, 0 or 1. -/
def fcompare (a b : FVal) : Int :=
  match a, b with
  | .inf n1, .inf n2 => if n1 = n2 then 0 else if n1 then -1 else 1
  | .inf n, _ => if n then -1 else 1
  | _, .inf n => if n then 1 else -1
  | .fin n1 m1 e1, .fin n2 m2 e2 =>
    let (n, m, _) := faddExact n1 m1 e1 (!n2) m2 e2
    if m = 0 then 0 else if n then -1 else 1
  | _, _ => 0

/-- Rounds a value to an integer, with ties to even or toward zero, and says whether that was exact. -/
def ftoInt (trunc neg : Bool) (m : Nat) (e : Int) : Int × Bool :=
  let a : Nat := if 0 ≤ e then m * 2 ^ e.toNat else if trunc then m >>> (-e).toNat else rneShift m (-e).toNat
  let exact := decide (0 ≤ e) || decide (m % 2 ^ (-e).toNat = 0)
  (if neg then -(a : Int) else a, exact)

end Sys2Proof.Machine
end

