-- ==== Sys2Proof/Machine/Operands.lean ====
section
/-! DEFINITION. Operand forms: plane fields and source codes of the cells (R73, R74), lanes (R38). -/

namespace Sys2Proof.Machine

/-! ### Lanes (R38) -/

/-- Lane i of width w. -/
def lane (w x i : Nat) : Nat := fld x (w * i) w

/-- The lanes of a 128-bit word. -/
def lanes (w x : Nat) : List Nat := tabulate (128 / w) (lane w x)

/-- The number whose lanes of width w are given. -/
def ofLanes (w : Nat) : List Nat → Nat
  | [] => 0
  | v :: vs => v % 2 ^ w + 2 ^ w * ofLanes w vs

/-- Lane width of an FMT code (R73). -/
def fmtW (fmt : Nat) : Nat := if fmt = 0 then 8 else if fmt = 1 then 16 else 32

/-- A lane as an integer, signed or unsigned. -/
def laneVal (signed : Bool) (w v : Nat) : Int := if signed then toInt w v else v

/-! ### Plane fields (R73) -/

/-- Bits [lo + w - 1 : lo] of a plane. -/
def pf (p : Plane) (lo w : Nat) : Nat := fld p.toNat lo w

def pOP (p : Plane) : Nat := pf p 0 8
def pFMT (p : Plane) : Nat := pf p 8 2
def pSGNA (p : Plane) : Bool := pf p 10 1 = 1
def pSGNB (p : Plane) : Bool := pf p 11 1 = 1
def pSAT (p : Plane) : Bool := pf p 12 1 = 1
def pFTZ (p : Plane) : Bool := pf p 13 1 = 1
def pACLR (p : Plane) : Bool := pf p 14 1 = 1
def pSRCA (p : Plane) : Nat := pf p 16 6
def pSRCB (p : Plane) : Nat := pf p 22 6
def pSRCC (p : Plane) : Nat := pf p 28 6
def pDST (p : Plane) : Nat := pf p 34 6
def pCMODE (p : Plane) : Nat := pf p 40 2
def pCIN (p : Plane) : Bool := pf p 42 1 = 1
def pCOUT (p : Plane) : Bool := pf p 43 1 = 1
def pSHAMT (p : Plane) : Nat := pf p 48 5
def pAP0STEP (p : Plane) : Nat := pf p 56 8
def pAP1STEP (p : Plane) : Nat := pf p 64 8
def pWPSTEP (p : Plane) : Nat := pf p 72 8
def pCONST (p : Plane) : Nat := pf p 96 32
/-- OSELN, OSELE, OSELS, OSELW, OSELX for i from 0 to 4. -/
def pOSEL (p : Plane) (i : Nat) : Nat := pf p (128 + 4 * i) 4
def pXBSEL (p : Plane) : Nat := pf p 148 4
def pTAP0SEL (p : Plane) : Nat := pf p 152 3
def pTAP1SEL (p : Plane) : Nat := pf p 156 3
def pXEN (p : Plane) (k : Nat) : Bool := pf p (160 + k) 1 = 1
def pXSRC (p : Plane) (k : Nat) : Nat := pf p (168 + 4 * k) 4
def pQPOPEN (p : Plane) : Bool := pf p 256 1 = 1
def pQPOPID (p : Plane) : Nat := pf p 257 7
def pQPUSHEN (p : Plane) : Bool := pf p 264 1 = 1
def pQPUSHID (p : Plane) : Nat := pf p 265 7
def pQPUSHSRC (p : Plane) : Nat := pf p 272 6
def pQTAGSRC (p : Plane) : Bool := pf p 278 1 = 1
def pQTAG (p : Plane) : Nat := pf p 280 4

/-- Operations that write an accumulator (R61). -/
def isAccOp (op : Nat) : Bool := op = 0x30 || op = 0x31 || op = 0x32 || op = 0x38 || op = 0x40

/-- Operations with two result words (R40). -/
def isTwoWord (op : Nat) : Bool := op = 0x39 || op = 0x71

/-- ADDW and SUBW. -/
def isCarryOp (op : Nat) : Bool := op = 0x20 || op = 0x21

/-- Latency of an operation but ADDW and SUBW (R40). -/
def opLatency (op : Nat) : Nat :=
  if op < 0x30 then 2 else if op < 0x40 then 4 else if op < 0x50 then 5 else if op < 0x60 then 3
  else if op = 0x60 then 2 else 3

/-- Latency of ADDW and SUBW over a chain of n cells (R66). -/
def chainLatency (n : Nat) : Nat := if n ≤ 1 then 2 else 2 + (n + 3) / 4

/-! ### Source codes (R74) -/

/-- CONST broadcast to the lanes that FMT selects (code 40). -/
def constBroadcast (p : Plane) : Nat :=
  let w := fmtW (pFMT p)
  ofLanes w (List.replicate (128 / w) (pCONST p))

/-- What reaches a cell in a cycle: the words of codes 32 to 39 and its popped tag. -/
structure CellIn where
  north : Nat := 0
  east : Nat := 0
  south : Nat := 0
  west : Nat := 0
  x : Nat := 0
  tap0 : Nat := 0
  tap1 : Nat := 0
  qin : Nat := 0
  qtag : Nat := 0
  deriving DecidableEq, Repr

/-- The operand that a source code names (R74). -/
def srcOperand (k : Cell) (p : Plane) (i : CellIn) (code : Nat) : Nat :=
  if code < 16 then (sget 0 k.c code).toNat
  else if code < 32 then fld (sget 0 k.acc ((code - 16) / 4)).toNat (128 * ((code - 16) % 4)) 128
  else if code = 32 then i.north else if code = 33 then i.east else if code = 34 then i.south
  else if code = 35 then i.west else if code = 36 then i.x else if code = 37 then i.tap0
  else if code = 38 then i.tap1 else if code = 39 then i.qin
  else if code = 40 then constBroadcast p else 0

/-- Which of A, B and C an operation uses (R532). -/
def usesA (op : Nat) : Bool := !(op = 0 || op = 0x70 || op = 0x71)
def usesB (op : Nat) : Bool := usesA op && !(op = 0x14 || op = 0x18 || op = 0x51 || op = 0x60 || op = 0x61 || op = 0x62)
def usesC (op : Nat) : Bool := op = 0x13 || op = 0x39 || op = 0x41 || op = 0x42 || op = 0x43 || op = 0x52

end Sys2Proof.Machine
end

