-- ==== Sys2Proof/Machine/Flags.lean ====
section
/-! DEFINITION. Sticky bits of CEL_STAT (R77, R531) and the condition flag of a cell (R69). -/

namespace Sys2Proof.Machine

def stWCOL : BitVec 7 := 0x40
def stSATF : BitVec 7 := 0x20
def stNV : BitVec 7 := 0x10
def stOF : BitVec 7 := 0x08
def stUF : BitVec 7 := 0x04
def stMSBE : BitVec 7 := 0x02

/-- A sticky bit, if a condition holds. -/
def stIf (b : Bool) (m : BitVec 7) : BitVec 7 := if b then m else 0

/-- The sticky bits that floating-point flags raise (R531). -/
def FFlags.sticky (f : FFlags) : BitVec 7 := stIf f.sat stSATF ||| stIf f.nv stNV ||| stIf f.of stOF ||| stIf f.uf stUF

/-- The condition flag after an operation (R69): CMODE, the predicates of the result lanes, the old flag. -/
def condFlag (cmode : Nat) (preds : List Bool) (old : Bool) : Bool :=
  match cmode with
  | 0 => old
  | 1 => preds.headD old
  | 2 => preds.any id
  | _ => preds.all id

/-- Predicates of the lanes of a word (R69). -/
def lanePreds (w x : Nat) : List Bool := (lanes w x).map (fun v => decide (v ≠ 0))

end Sys2Proof.Machine
end

