-- ==== Sys2Proof/Machine/CellOps.lean ====
section
/-! DEFINITION. What each cell operation computes (R40 to R53). -/

namespace Sys2Proof.Machine

/-- Clamps to the range of a lane under SAT (setting SATF), and keeps the low bits otherwise (R41, R42, R46). -/
def fitLane (sat signed : Bool) (w : Nat) (v : Int) : Nat × BitVec 7 :=
  let lo : Int := if signed then -(2 ^ (w - 1) : Nat) else 0
  let hi : Int := if signed then (2 ^ (w - 1) : Nat) - 1 else (2 ^ w : Nat) - 1
  if sat && (decide (v < lo) || decide (hi < v)) then (ofInt w (if v < lo then lo else hi), stSATF)
  else (ofInt w v, 0)

/-- Joins lanes with their sticky bits. -/
def joinLanes (w : Nat) (ls : List (Nat × BitVec 7)) : Nat × BitVec 7 :=
  (ofLanes w (ls.map (·.1)), ls.foldl (fun s l => s ||| l.2) 0)

/-- Number of 1 bits. -/
def popcount (w x : Nat) : Nat := ((List.range w).filter (bit x)).length

/-- Carry-less product of two n-bit polynomials. -/
def clmul (n x y : Nat) : Nat := (List.range n).foldl (fun r i => if bit y i then r ^^^ (x <<< i) else r) 0

/-- A product in GF(2)[x] modulo x^8 + p(x) (R51). -/
def gfmul (x y poly : Nat) : Nat :=
  (List.range 7).foldl (fun r i => if bit r (14 - i) then r ^^^ ((256 + poly) <<< (6 - i)) else r) (clmul 8 x y)

/-- One lane of a two-operand integer operation (R40, R41): ADD, SUB, MIN, MAX, ABSD, SHL, SHR and the comparisons. -/
def binLane (op w : Nat) (sat sgn : Bool) (x y : Nat) : Nat × BitVec 7 :=
  let a := laneVal sgn w x
  let b := laneVal sgn w y
  match op with
  | 0x01 => fitLane sat sgn w (a + b)
  | 0x02 => fitLane sat sgn w (a - b)
  | 0x04 => (ofInt w (min a b), 0)
  | 0x05 => (ofInt w (max a b), 0)
  | 0x06 => (ofInt w (a - b).natAbs, 0)
  | 0x0C => (ofInt w ((x <<< (y % w) : Nat) : Int), 0)
  | 0x0D => (ofInt w (a / (2 ^ (y % w) : Nat)), 0)
  | 0x10 => (if a = b then 2 ^ w - 1 else 0, 0)
  | 0x11 => (if b < a then 2 ^ w - 1 else 0, 0)
  | _ => (if b ≤ a then 2 ^ w - 1 else 0, 0)

/-- MIN2 (R52). -/
def min2 (w : Nat) (sat : Bool) (mask x : Nat) : Nat × BitVec 7 :=
  let taken := (List.range (128 / w)).filter (bit mask)
  let cap := 2 ^ (w - 1) - 1
  let mag := fun i => let m := (toInt w (lane w x i)).natAbs; if sat && decide (cap < m) then (cap, stSATF) else (m, 0)
  let ones := 2 ^ w - 1
  let sticky := taken.foldl (fun s i => s ||| (mag i).2) (0 : BitVec 7)
  let best := taken.foldl (fun (o : Option Nat) i => match o with
    | none => some i
    | some j => if (mag i).1 < (mag j).1 then some i else some j) none
  match best with
  | none => (ofLanes 32 [ones, ones, 0xFFFFFFFF, 0], 0)
  | some j =>
    let second := (taken.filter (fun i => decide (i ≠ j))).foldl (fun (o : Option Nat) i =>
      some (match o with | none => (mag i).1 | some m => min m (mag i).1)) none
    let sign := taken.foldl (fun b i => b != bit (lane w x i) (w - 1)) false
    (ofLanes 32 [(mag j).1, second.getD ones, j, b2n sign], sticky)

/-- A complex lane of a word: real and imaginary part (R38). -/
def cplx (x k : Nat) : Int × Int := (toInt 16 (lane 16 x (2 * k)), toInt 16 (lane 16 x (2 * k + 1)))

/-- Rounding of R46: adds half and shifts right arithmetically. -/
def rndShift (n : Nat) (v : Int) : Int := if n = 0 then v else (v + (2 ^ (n - 1) : Nat)) / (2 ^ n : Nat)

/-- CBFY (R45). -/
def cbfy (sat : Bool) (shamt a b w : Nat) : Nat × Nat × BitVec 7 :=
  let part := fun (sub : Bool) (k : Nat) =>
    let (ar, ai) := cplx a k
    let (br, bi) := cplx b k
    let (wr, wi) := cplx w k
    let t := (wr * br - wi * bi, wr * bi + wi * br)
    let re := if sub then ar * 32768 - t.1 else ar * 32768 + t.1
    let im := if sub then ai * 32768 - t.2 else ai * 32768 + t.2
    [fitLane sat true 16 (rndShift (15 + shamt) re), fitLane sat true 16 (rndShift (15 + shamt) im)]
  let r0 := joinLanes 16 ((List.range 4).flatMap (part false))
  let r1 := joinLanes 16 ((List.range 4).flatMap (part true))
  (r0.1, r1.1, r0.2 ||| r1.2)

/-- Accumulator lanes that ACCRD, ACCRDF and ACCRDB read (R46, R50). -/
def accLanes (w q : Nat) : List Nat :=
  if w = 8 then List.range 16
  else if w = 16 then (if q % 2 = 0 then List.range 8 else (List.range 8).map (· + 8))
  else (List.range 4).map (· + 4 * q)

/-- ACCRD of an accumulator (R46). -/
def accrd (fmt q : Nat) (sgn sat : Bool) (shamt acc : Nat) : Nat × BitVec 7 :=
  let w := fmtW fmt
  joinLanes w ((accLanes w q).map (fun i => fitLane sat sgn w (rndShift shamt (laneVal sgn 32 (lane 32 acc i)))))

/-- Rounds one FP32 lane to a format. -/
def narrowLane (f : FFmt) (ftz sat : Bool) (v : Nat) : Nat × BitVec 7 :=
  let (r, fl) := froundVal f ftz sat (fdecode fp32 ftz v)
  (r, fl.sticky)

/-- ACCRDF and ACCRDB (R50). -/
def accrdf (bf : Bool) (fmt q : Nat) (ftz sat : Bool) (acc : Nat) : Nat × BitVec 7 :=
  let f := if bf then bf16 else if fmt = 1 then fp16 else e4m3
  let w := if fmt = 1 then 16 else 8
  joinLanes w ((accLanes w q).map (fun i => narrowLane f ftz sat (lane 32 acc i)))

/-- FMAH, FMAB, FMAS: A × B + C per lane (R47). -/
def fmaWord (f : FFmt) (w : Nat) (ftz sat : Bool) (a b c : Nat) : Nat × BitVec 7 :=
  joinLanes w ((List.range (128 / w)).map (fun i =>
    let (r, fl) := ffma f ftz sat (fdecode f ftz (lane w a i)) (fdecode f ftz (lane w b i)) (fdecode f ftz (lane w c i))
    (r, fl.sticky)))

/-- The result words and sticky bits of an operation with 128-bit results, but ADDW and SUBW: operands A, B and C, the
accumulator that SRCA names, and the memory words at ap0 and ap1. -/
def cellResult (p : Plane) (a b c acc m0 m1 : Nat) : Nat × Nat × BitVec 7 :=
  let w := fmtW (pFMT p)
  let one := fun (r : Nat × BitVec 7) => (r.1, 0, r.2)
  let q := (pSRCA p - 16) % 4
  match pOP p with
  | 0x08 => (a &&& b, 0, 0)
  | 0x09 => (a ||| b, 0, 0)
  | 0x0A => (a ^^^ b, 0, 0)
  | 0x0B => (a &&& (b ^^^ (2 ^ 128 - 1)), 0, 0)
  | 0x13 => (ofLanes w ((List.range (128 / w)).map (fun i => if lane w c i ≠ 0 then lane w a i else lane w b i)), 0, 0)
  | 0x14 => (a, 0, 0)
  | 0x18 => (ofLanes w ((lanes w a).map (popcount w)), 0, 0)
  | 0x39 => cbfy (pSAT p) (pSHAMT p) a b c
  | 0x41 => one (fmaWord fp16 16 (pFTZ p) (pSAT p) a b c)
  | 0x42 => one (fmaWord bf16 16 (pFTZ p) (pSAT p) a b c)
  | 0x43 => one (fmaWord fp32 32 (pFTZ p) (pSAT p) a b c)
  | 0x50 => (ofLanes 8 ((List.range 16).map (fun i => gfmul (lane 8 a i) (lane 8 b i) (pCONST p % 256))), 0, 0)
  | 0x51 => one (min2 w (pSAT p) (pCONST p) a)
  | 0x52 => (clmul 64 (fld a 64 64) (fld c 64 64) ^^^ clmul 64 (fld a 0 64) (fld c 0 64) ^^^ b, 0, 0)
  | 0x60 => one (accrd (pFMT p) q (pSGNA p) (pSAT p) (pSHAMT p) acc)
  | 0x61 => one (accrdf false (pFMT p) q (pFTZ p) (pSAT p) acc)
  | 0x62 => one (accrdf true (pFMT p) q (pFTZ p) (pSAT p) acc)
  | 0x70 => (m0, 0, 0)
  | 0x71 => (m0, m1, 0)
  | op => one (joinLanes w ((List.range (128 / w)).map (fun i =>
      binLane op w (pSAT p) (pSGNA p) (lane w a i) (lane w b i))))

/-- Result-lane width for the predicates of an operation (R69): four 32-bit lanes for MIN2, else the FMT width (log 90). -/
def predW (p : Plane) : Nat := if pOP p = 0x51 then 32 else fmtW (pFMT p)

/-- The products of an integer accumulating operation by accumulator lane (R42, R44). -/
def intProducts (p : Plane) (a b : Nat) : List Int :=
  match pOP p with
  | 0x30 => (List.range 16).map (fun i => laneVal (pSGNA p) 8 (lane 8 a i) * laneVal (pSGNB p) 8 (lane 8 b i))
  | 0x38 => (List.range 4).flatMap (fun k =>
      let (ar, ai) := cplx a k
      let (br, bi) := cplx b k
      [ar * br - ai * bi, ar * bi + ai * br])
  | _ => (List.range 8).map (fun i => laneVal (pSGNA p) 16 (lane 16 a i) * laneVal (pSGNB p) 16 (lane 16 b i))

/-- An accumulating operation applied to its accumulator when it completes (R42 to R44, R47, R61): the new value, the
sticky bits and the predicates of the lanes written (log 87). -/
def accApply (p : Plane) (a b acc : Nat) : Nat × BitVec 7 × List Bool :=
  let new : List (Nat × BitVec 7) :=
    if pOP p = 0x31 || pOP p = 0x32 then
      let f := if pOP p = 0x31 then e4m3 else e5m2
      (List.range 16).map (fun i =>
        let x := fdecode f (pFTZ p) (lane 8 a i)
        let y := fdecode f (pFTZ p) (lane 8 b i)
        let (r, fl) := if pACLR p then fmul fp32 (pFTZ p) (pSAT p) x y
          else ffma fp32 (pFTZ p) (pSAT p) x y (fdecode fp32 (pFTZ p) (lane 32 acc i))
        (r, fl.sticky))
    else (intProducts p a b).zipIdx.map (fun (v, i) =>
      fitLane (pSAT p) true 32 (if pACLR p then v else toInt 32 (lane 32 acc i) + v))
  let kept := (List.range 16).drop new.length |>.map (lane 32 acc)
  (ofLanes 32 (new.map (·.1) ++ kept), new.foldl (fun s l => s ||| l.2) 0, new.map (fun l => decide (l.1 ≠ 0)))

end Sys2Proof.Machine
end

