-- ==== Sys2Proof/Machine/Route.lean ====
section
/-! DEFINITION. Geometry, routes, packets and address decoding of the network (R20, R21, R240 to R248, R251, R254, R255). -/

namespace Sys2Proof.Machine

/-- Hops of one ring of 16 the shorter way round (R254). -/
def ringHops (a b : Nat) : Nat := let d := (b + 16 - a) % 16; min d (16 - d)

/-- Hops between two routers (R254). -/
def hops (a b : Nat) : Nat := ringHops (clX a) (clX b) + ringHops (clY a) (clY b)

/-- Router of channel c of stack n (R242). -/
def hbmRouter (n c : Nat) : Nat :=
  clOf (8 * (n % 2) + 2 * (c % 4) + (c / 4) % 2) (8 * (n / 2) + 2 * (c / 4))

/-- Router of stream mover m (R242). -/
def moverRouter (m : Nat) : Nat :=
  let n := m / 16; let j := m % 16
  clOf (8 * (n % 2) + 2 * (j % 4) + 1 - (j / 4) % 2) (8 * (n / 2) + 2 * (j / 4) + 1)

/-- Hub routers A and B of a die (R242). -/
def hubA (n : Nat) : Nat := clOf (8 * (n % 2) + 3) (8 * (n / 2) + 4)
def hubB (n : Nat) : Nat := clOf (8 * (n % 2) + 4) (8 * (n / 2) + 5)

/-! ### Links and routes (R240, R241, R251, R254, R255) -/

/-- The router that an output of 0 to 3 (north, east, south, west) leads to (R240). -/
def neighbour (r o : Nat) : Nat :=
  if o = 0 then clOf (clX r) ((clY r + 1) % 16) else if o = 1 then clOf ((clX r + 1) % 16) (clY r)
  else if o = 2 then clOf (clX r) ((clY r + 15) % 16) else clOf ((clX r + 15) % 16) (clY r)

/-- Whether an output is a wrap link: between coordinates 15 and 0 (R251). -/
def wraps (r o : Nat) : Bool :=
  if o = 0 then clY r = 15 else if o = 1 then clX r = 15 else if o = 2 then clY r = 0 else o = 3 && decide (clX r = 0)

/-- Whether a packet moves toward increasing coordinates in a ring: the shorter way, at a distance of 8 upward (R254), and
with NOWRAP the way without the wrap link (R255). -/
def ringUp (a b : Nat) (nowrap : Bool) : Bool := if nowrap then decide (a < b) else decide ((b + 16 - a) % 16 ≤ 8)

/-- The output at which a packet leaves a router: in X, then in Y, then at its local port (R241, R254). -/
def outPort (r : Nat) (dst : Nat × Nat) (nowrap : Bool) : Nat :=
  if clX r ≠ clX dst.1 then (if ringUp (clX r) (clX dst.1) nowrap then 1 else 3)
  else if clY r ≠ clY dst.1 then (if ringUp (clY r) (clY dst.1) nowrap then 0 else 2)
  else 4 + dst.2

/-- The virtual channel behind an output (R251): the lower one of the class until the wrap link of the dimension, the higher
one on it and after it, the lower one again after the turn from X to Y. -/
def nextVc (r input vc o : Nat) : Nat :=
  let low := vc / 2 * 2
  if o < 4 && (wraps r o || (decide (input < 4) && decide (input % 2 = o % 2) && decide (vc % 2 = 1))) then low + 1 else low

/-- Routers, outputs and downstream channels of a packet's path, of at most n hops, from an input and channel. -/
def pathFrom (dst : Nat × Nat) (nowrap : Bool) : Nat → Nat → Nat → Nat → List (Nat × Nat × Nat)
  | 0, _, _, _ => []
  | n + 1, r, input, vc =>
    let o := outPort r dst nowrap
    let v := nextVc r input vc o
    (r, o, v) :: (if o < 4 then pathFrom dst nowrap n (neighbour r o) ((o + 2) % 4) v else [])

/-- Cycles of a flit behind an output (R256): a link on one die or between dies, injection, ejection, the hub attach link. -/
def linkCycles (r o : Nat) (half : Bool) : Nat :=
  if o < 4 then (if dieOf r = dieOf (neighbour r o) then 2 else 8) + b2n half
  else if o = 7 || decide (o = 15) then 7 else 1

/-! ### Where packets enter and leave (R244) -/

/-- Where an initiator stands. -/
def initEnd (i : Nat) : End := if isCluster i then .array i 0 else if isMover i then .array (moverRouter (i - 0x100)) 2 else .hub

/-- The router and local port at which a packet enters and those at which it leaves; none inside the hub die. -/
def attach (a b : End) : Option ((Nat × Nat) × (Nat × Nat)) :=
  match a, b with
  | .array r p, .array q k => some ((r, p), (q, k))
  | .array r p, .hub => some ((r, p), (hubB (dieOf r), 3))
  | .hub, .array q k => some ((hubA (dieOf q), 3), (q, k))
  | .hub, .hub => none

/-! ### Packets (R246 to R248) -/

/-- The code of an operation (R248). -/
def Opc.code : Opc → Nat
  | .rd => 0 | .wr => 1 | .wrp => 2 | .push => 3 | .pushp => 4 | .crd => 5 | .evt => 6 | .torep => 7
  | .rdata => 8 | .ack => 9 | .pushack => 10 | .err => 11

/-- The operation of a code; 0xC to 0xF are undefined (R248). -/
def Opc.ofCode (n : Nat) : Option Opc := [Opc.rd, .wr, .wrp, .push, .pushp, .crd, .evt, .torep, .rdata, .ack, .pushack, .err][n]?

/-- CLASS (R247): a response. -/
def Opc.resp (o : Opc) : Bool := decide (8 ≤ o.code)
/-- Posted requests (R248). -/
def Opc.posted : Opc → Bool
  | .wrp | .pushp | .crd | .evt | .torep => true
  | _ => false

/-- The 128-bit words that a packet carries, with their tags (R246). -/
def Packet.body (p : Packet) : List (Word × BitVec 4) :=
  if p.op = .push || p.op = .pushp then p.words else (bytesWords ((p.data.length + 15) / 16) p.data).map (fun w => (w, 0))

/-- Flits of a packet: the head, and one for each four words (R246). -/
def Packet.flits (p : Packet) : Nat := 1 + (p.body.length + 3) / 4

/-- LEN (R247): words carried or requested, minus 1. -/
def Packet.lenField (p : Packet) : Nat := (if p.op = .rd then (p.nbytes + 15) / 16 else p.body.length) - 1

/-- The operand in ADDR (R248). -/
def Packet.addrField (p : Packet) : Nat :=
  match p.op with
  | .rd | .wr | .wrp => p.addr % 2 ^ 48
  | .push => p.addr % 2 ^ 15
  | .pushp => if p.toMover then p.addr % 2 ^ 6 + p.chan % 8 * 2 ^ 8 else p.addr % 2 ^ 15
  | .crd => (if p.toMover then 0 else p.chan % 8) + p.count % 2 ^ 9 * 2 ^ 8
  | .evt => (match p.evt with
      | some (.event e) => e.task % 2 ^ 16 + e.src % 2 ^ 11 * 2 ^ 16
      | some (.comp c) => c.task % 2 ^ 16 + c.cl * 2 ^ 16
      | some (.start _ m) => m.task % 2 ^ 16
      | some (.refused c t) => t % 2 ^ 16 + c * 2 ^ 16
      | some (.notice _ n) => n.ring % 2 ^ 16
      | none => 0)
  | .torep => p.tag % 2 ^ 8 + p.gen.toNat * 2 ^ 8
  | _ => 0

/-- TAGS (R247): the tags of pushed words, or the words pushed of a PUSHACK. -/
def Packet.tagsField (p : Packet) : Nat :=
  if p.op = .push || p.op = .pushp then (p.words.zipIdx).foldl (fun a ((_, t), i) => a + t.toNat * 16 ^ i) 0
  else if p.op = .pushack then p.count else 0

/-- The head flit (R247). -/
def Packet.head (p : Packet) : BitVec 512 :=
  BitVec.ofNat 512 (p.tagsField % 2 ^ 64 * 2 ^ 128 + p.addrField * 2 ^ 64 + p.status.toNat * 2 ^ 52 + p.lenField % 16 * 2 ^ 48 + p.size.toNat * 2 ^ 46
    + p.dst.2 % 8 * 2 ^ 40 + p.dst.1 % 256 * 2 ^ 32 + p.gen.toNat * 2 ^ 28 + p.tag % 256 * 2 ^ 20 + p.who % 4096 * 2 ^ 8 + p.op.code * 2 ^ 4
    + b2n p.nowrap * 8 + b2n p.op.resp * 4 + p.prio % 4)

/-- Flit k of a packet: the head, then four words each, word 4k + j in bits [128j + 127 : 128j] of data flit k (R246). -/
def Packet.flit (p : Packet) (k : Nat) : BitVec 512 :=
  if k = 0 then p.head
  else BitVec.ofNat 512 (((p.body.drop (4 * (k - 1))).take 4).zipIdx.foldl (fun a ((w, _), j) => a + w.toNat * 2 ^ (128 * j)) 0)

/-- The fields that a receiver reads from a head flit (R247): opcode, initiator, tag, generation, priority, router and local port. -/
structure HeadFields where
  op : Option Opc
  who : Nat
  tag : Nat
  gen : BitVec 2
  prio : Nat
  nowrap : Bool
  resp : Bool
  dst : Nat × Nat
  size : BitVec 2
  len : Nat
  status : BitVec 4
  addr : Nat
  tags : Nat
  deriving DecidableEq, Repr

def headFields (f : BitVec 512) : HeadFields :=
  let x := f.toNat
  { op := Opc.ofCode (fld x 4 4), who := fld x 8 12, tag := fld x 20 8, gen := BitVec.ofNat 2 (fld x 28 2), prio := fld x 0 2, nowrap := bit x 3
    resp := bit x 2, dst := (fld x 32 8, fld x 40 3), size := BitVec.ofNat 2 (fld x 46 2), len := fld x 48 4, status := BitVec.ofNat 4 (fld x 52 4)
    addr := fld x 64 48, tags := fld x 128 64 }

/-! ### Sending (R243, R255, R276) -/

/-- A packet enters the queue of its injection port; between two blocks of the hub die, which no router joins (place (256, 3)), it
arrives at once. -/
def State.sendFrom (s : State) (a b : End) (p : Packet) : State :=
  let id := s.noc.nextId + 1
  let p := match attach a b with
    | some (x, y) => { p with id := id, spot := .source, src := x, dst := y }
    | none => { p with id := id, spot := .arrived, src := (256, 3), dst := (256, 3), verdict := some 0 }
  { s with noc := { s.noc with nextId := id, packets := s.noc.packets ++ [p] } }

/-- Whether a request carries NOWRAP (R255): a cluster's request whose source router and DSTR both lie in the rectangle of its
region. A standby cluster lies in none. -/
def State.nowrapTo (s : State) (i : Nat) (b : End) : Bool :=
  isCluster i && (match (s.initRegion i).bind s.region, attach (initEnd i) b with
    | some g, some (x, y) => g.clusters.contains x.1 && g.clusters.contains y.1
    | _, _ => false)

/-- Statistics of a request that leaves (R276). -/
def Init.countReq (i : Init) (words : Nat) : Init :=
  { i with req := satAdd i.req 1 0xFFFFFFFF, words := satAdd i.words words 0xFFFFFFFF }

/-- A request of an initiator leaves for its target. -/
def State.sendReq (s : State) (b : End) (p : Packet) : State :=
  (s.setInit p.who ((s.init p.who).countReq p.body.length)).sendFrom (initEnd p.who) b { p with nowrap := s.nowrapTo p.who b }

/-- Bytes of all of HBM (R20). -/
def hbmBytes : Nat := 4 * stackBytes

/-- Base of the cluster windows and of hub control space (R20). -/
def winBase : Nat := 0x400000000000
def hubBase : Nat := 0x600000000000

/-- What an address of the physical map decodes to (R20): HBM, a cluster window with an offset, or a hub offset. -/
inductive Place where
  | hbm (addr : Nat)
  | win (c off : Nat)
  | hub (off : Nat)
  | nothing
  deriving DecidableEq, Repr

def place (a : Nat) : Place :=
  if a < hbmBytes then .hbm a
  else if winBase ≤ a && decide (a < winBase + 0x100000000) then .win ((a - winBase) / 0x1000000) ((a - winBase) % 0x1000000)
  else if hubBase ≤ a && decide (a < hubBase + 0x100000000) then .hub (a - hubBase)
  else .nothing

end Sys2Proof.Machine
end

