-- ==== Sys2Proof/Machine/Queues.lean ====
section
/-! DEFINITION. Stream queues: flags, pushes, pops, watermarks and notices (R135 to R150, R169, R170). -/

namespace Sys2Proof.Machine

/-- Producer kinds (R138). -/
def prodARRAY : BitVec 3 := 1
def prodLINK : BitVec 3 := 2
def prodETH : BitVec 3 := 3
def prodHOST : BitVec 3 := 4
def prodREMOTE : BitVec 3 := 5
def prodMOVER : BitVec 3 := 6
def prodGPIO : BitVec 3 := 7
/-- Consumer kinds (R138). -/
def consARRAY : BitVec 2 := 1
def consFWD : BitVec 2 := 2

/-- Whether a queue is a memory tile (R169). -/
def Cluster.isTile (k : Cluster) (q : Nat) : Bool := k.umsyn && decide (q < 8)

/-- Slots that a queue occupies (R135, R169). -/
def Cluster.qBase (k : Cluster) (q : Nat) : Nat := if k.isTile q then 8192 * q else (k.queue q).base
def Cluster.qDepth (k : Cluster) (q : Nat) : Nat := if k.isTile q then 8192 else (k.queue q).depth

/-- EMPTY (R137, R141). -/
def Cluster.qEmpty (k : Cluster) (q : Nat) : Bool := let u := k.queue q; !u.en || decide (u.count = 0)

/-- FULL (R137, R141, R170). -/
def Cluster.qFull (k : Cluster) (q : Nat) : Bool :=
  let u := k.queue q
  !u.en || (if k.isTile q then decide (8190 ≤ u.count) else decide (u.depth ≤ u.count))

/-- Level bits HL and LL (R145, R170). -/
def Cluster.qHL (k : Cluster) (q : Nat) : Bool :=
  let u := k.queue q
  u.en && (if k.isTile q then decide (4096 ≤ u.count) else u.hwen && decide (u.high ≤ u.count))
def Cluster.qLL (k : Cluster) (q : Nat) : Bool :=
  let u := k.queue q
  u.en && (if k.isTile q then decide (u.count < 4096) else u.lwen && decide (u.count ≤ u.low))

/-- Pending notices, the one on its way included (R150). -/
def Queue.npend (u : Queue) : Nat := u.notices.length + b2n u.onWay.isSome

/-- Whether a notice kind is enabled (R149). -/
def Queue.enabled (u : Queue) : NoticeKind → Bool
  | .high => u.hne
  | .low => u.lne
  | .stale => u.sne
  | .overrun => u.one
  | _ => false

/-- Raises a notice, when it is enabled and has a target; beyond 255 pending, NSAT sets instead (R149, R150). -/
def Queue.raise (u : Queue) (n : NoticeKind) : Queue :=
  if u.enabled n && decide (u.nkind ≠ 0) then
    if 255 ≤ u.npend then { u with nsat := true }
    else { u with notices := u.notices ++ [{ kind := n, nkind := u.nkind, target := u.target }] }
  else u

/-- Whether a push comes from the declared producer (R138). -/
def Queue.declared (u : Queue) (prod : BitVec 3) (psrc : Nat) : Bool :=
  decide (u.prod = prod) && (decide (prod ≠ prodMOVER) || decide (u.psrc.toNat = psrc))

/-- A push that proceeds (R139, R141): the declared producer stores the word and its tag; another sets PERR. -/
def Cluster.pushDo (k : Cluster) (now q : Nat) (prod : BitVec 3) (psrc : Nat) (w : Word) (tag : BitVec 4) : Cluster :=
  let u := k.queue q
  if u.declared prod psrc then
    let slot := k.qBase q + u.wr
    let u := if u.count = 0 then { u with staleFrom := now, staleStopped := false } else u
    let k := { k with sram := sput 0 k.sram slot w, tags := sput 0 k.tags slot (if k.isTile q then 0 else tag) }
    k.setQueue q { u with count := u.count + 1, wr := (u.wr + 1) % k.qDepth q }
  else k.setQueue q { u with perr := true }

/-- A non-blocking push (R142): at FULL it is ignored, sets OVR, adds to SQ_OVCNT and raises an overrun notice. -/
def Cluster.pushNb (k : Cluster) (now q : Nat) (prod : BitVec 3) (psrc : Nat) (w : Word) (tag : BitVec 4) : Cluster :=
  if k.qFull q then
    let u := k.queue q
    k.setQueue q ({ u with ovr := true, ovcnt := satAdd u.ovcnt 1 0xFFFF }.raise .overrun)
  else k.pushDo now q prod psrc w tag

/-- The oldest word of a queue and its tag. -/
def Cluster.qHead (k : Cluster) (q : Nat) : Word × BitVec 4 :=
  let slot := k.qBase q + (k.queue q).rd
  (sget 0 k.sram slot, if k.isTile q then 0 else sget 0 k.tags slot)

/-- A pop that proceeds (R139, R141): the declared consumer takes the oldest word; another gets zero and sets PERR. The
Boolean tells whether the queue gave up a word. -/
def Cluster.popDo (k : Cluster) (now q : Nat) (cons : BitVec 2) : (Word × BitVec 4) × Bool × Cluster :=
  let u := k.queue q
  if u.cons = cons then
    (k.qHead q, true, k.setQueue q { u with
      count := u.count - 1, rd := (u.rd + 1) % k.qDepth q, staleFrom := now, staleStopped := false })
  else ((0, 0), false, k.setQueue q { u with perr := true })

/-- End of a cycle at one queue (R146): the crossing bits that set, with their notices, from the levels of its start. -/
def qCross (hl ll : Bool) (u : Queue) : Queue :=
  let u := if hl && !u.hx then { u with hx := true }.raise .high else u
  if ll && !u.lx then { u with lx := true }.raise .low else u

/-- The queues of a cluster that are enabled. -/
def Cluster.liveQueues (k : Cluster) : List Nat := (k.queues.filter (fun p => p.2.en)).map (·.1)

/-- Enables a queue (R137). -/
def Cluster.enableQueue (k : Cluster) (q : Nat) : Cluster :=
  let u := k.queue q
  if u.en then k
  else k.setQueue q { u with en := true, count := 0, wr := 0, rd := 0, nsat := false, perr := false, ovr := false,
                             sx := false, lx := false, hx := false, ovcnt := 0, notices := [], onWay := none,
                             staleStopped := false }

/-- Disables a queue: its words and pending notices are discarded (R137). -/
def Cluster.disableQueue (k : Cluster) (q : Nat) : Cluster :=
  let u := k.queue q
  if u.en then k.setQueue q { u with en := false, count := 0, wr := 0, rd := 0, notices := [], onWay := none } else k

/-! ### Credits of links and movers (R126, R162) -/

/-- Bits of a link entry (R134). -/
def lkEN (r : Reg) : Bool := bit r.toNat 31
def lkTAG (r : Reg) : BitVec 4 := BitVec.ofNat 4 (fld r.toNat 24 4)
def lkTAGSRC (r : Reg) : Bool := bit r.toNat 23
def lkQID (r : Reg) : Nat := fld r.toNat 16 7
def lkTCL (r : Reg) : Nat := fld r.toNat 8 8
def lkDIR (r : Reg) : Bool := bit r.toNat 3
def lkDIST (r : Reg) : Nat := fld r.toNat 0 2

/-- Live link entry i of a cluster (R129). -/
def Cluster.link (k : Cluster) (i : Nat) : Reg := sget 0 k.links (32 * b2n k.pbank + i)

/-- The enabled live link whose target is a queue, as cluster and entry (R131: at most one). -/
def State.linkTo (s : State) (c q : Nat) : Option (Nat × Nat) :=
  (s.cls.map (·.1)).findSome? (fun x =>
    ((List.range 32).find? (fun i =>
      let r := (s.cl x).link i
      lkEN r && decide (s.redir (lkTCL r) = c) && decide (lkQID r = q))).map (fun i => (x, i)))

/-- The link of a shadow table whose count edge has come and whose target is a queue (R130). -/
def State.linkEarlyTo (s : State) (c q : Nat) : Option (Nat × Nat) :=
  (s.cls.map (·.1)).findSome? (fun x =>
    ((s.cl x).linkEarly.map (·.1)).findSome? (fun i =>
      let r := sget 0 (s.cl x).links (32 * b2n (!(s.cl x).pbank) + i)
      if decide (s.redir (lkTCL r) = c) && decide (lkQID r = q) then some (x, i) else none))

/-- A pop returns a credit to the link whose target the queue is (R126, R130). -/
def State.linkBack (s : State) (c q : Nat) : State :=
  match s.linkEarlyTo c q with
  | some (x, i) => s.updCl x (fun k => { k with linkEarly := sput 0 k.linkEarly i (sget 0 k.linkEarly i + 1) })
  | none =>
    match s.linkTo c q with
    | some (x, i) => if (s.cl x).linkAwait.contains i then s else s.updCl x (fun k => { k with linkCreds := k.linkCreds ++ [i] })
    | none => s

/-- A pop returns a credit to the link and to the mover that feed the queue (R126, R130, R162). -/
def State.creditBack (s : State) (c q : Nat) : State :=
  let u := (s.cl c).queue q
  let s := s.linkBack c q
  if u.prod = prodMOVER then
    s.sendReq (.array (moverRouter u.psrc.toNat) 2) { op := .crd, who := c, prio := 3, toMover := true, chan := u.psrc.toNat, addr := 128 * c + q, count := 1 }
  else s

/-- Queue-notice line ℓ of a cluster's sequencer is raised and reaches it later (R151). -/
def State.raiseLine (s : State) (c l : Nat) : State :=
  s.updCl c (fun k => { k with seq := { k.seq with lines := k.seq.lines ++ [l] } })

end Sys2Proof.Machine
end

