-- ==== Sys2Proof/Machine/Fail.lean ====
section
/-! DEFINITION. Errors and their responses: FAULT-SAFE, failing cells, retirement, region stops (R448, R464 to R475). -/

namespace Sys2Proof.Machine

/-- Parks a cluster at once (R448, R475, log 81). -/
def Cluster.park (k : Cluster) : Cluster := { k with sel := { k.sel with run := false, plane := 0, cmd := none } }

/-- Islands that are powered. -/
def State.islOn (s : State) (i : Nat) : Bool := sget false s.sys.islOn i
/-- Islands that have been released (R461). -/
def State.islSvc (s : State) (i : Nat) : Bool := sget false s.sys.islSvc i
def State.fenceOf (s : State) (i : Nat) : Fence := sget .none s.sys.fence i

/-- Adds a change that waits for a packet boundary (R272). -/
def State.pendRouter (s : State) (r : Nat) (c : RtrChange) : State :=
  let x := s.router r
  s.setRouter r { x with pend := x.pend ++ [c] }

/-- A change of the four local ports 0 of an island (R270 to R272). -/
def State.pendIsland (s : State) (i : Nat) (c : RtrChange) : State := forAll (islandClusters i) (fun s r => s.pendRouter r c) s

/-- Requests the fence of an island (R270 steps 1 and 2): each port is fenced at its packet boundary. -/
def State.requestFence (s : State) (i : Nat) : State :=
  { s with sys := { s.sys with fence := sput .none s.sys.fence i .requested } }.pendIsland i (.fence 0)

/-- Entry into FAULT-SAFE with a cause (R448): every cluster parks and every powered island is fenced; the cause is
logged. Clock gating, idle transmitters, held pins and FENCED answers of the PCs follow from the device state. -/
def State.faultSafe (s : State) (cause : Nat) : State :=
  if s.sys.dstate = .faultSafe then s
  else
    let s := { s with sys := { s.sys with dstate := .faultSafe, fscause := BitVec.ofNat 8 cause } }
    let s := forAll (List.range 256) (fun s c => s.updCl c Cluster.park) s
    let s := forAll ((List.range 64).filter s.islOn) State.requestFence s
    s.log 0x60 cause

/-- A region stops (R475). -/
def State.stopRegion (s : State) (r : Nat) (cause : StopCause) : State :=
  match s.region r with
  | none => s
  | some g =>
    if g.stop.isSome then s
    else
      let s := s.setRegion r (some { g with stop := some cause })
      let s := forAll (g.clusters.map s.redir) (fun s c => s.updCl c Cluster.park) s
      s.log 0x13 (r * 2 ^ 24 + (match cause with | .clusterLost => 1 | .pairMismatch => 2))

/-- The element of a list with the least measure, the first among equals. -/
def leastBy (f : Nat → Nat) : List Nat → Option Nat
  | [] => none
  | x :: xs => match leastBy f xs with
    | none => some x
    | some y => if f y < f x then some y else some x

/-- Standby clusters free to be chosen, in ascending order. -/
def State.standbys (s : State) : List Nat := (List.range 256).filter (fun c => s.sec.standby.contains c)

/-- The partner of a cluster that moves with it (R469): of a carry pair or, in PAIRED mode, of a lockstep pair; none for
a cluster on its own. The second component tells a vertical pair. -/
def State.pairOf (s : State) (c : Nat) : Option (Nat × Bool) :=
  if s.sys.mode = 3 then some (if clY c % 2 = 0 then c + 16 else c - 16, true)
  else if (s.cl c).role = 1 then some (c + 1, false)
  else if (s.cl c).role = 2 then some (c - 1, false)
  else none

/-- Takes clusters out of the standby set. -/
def State.useStandby (s : State) (xs : List Nat) : State :=
  let s := { s with sec := { s.sec with standby := s.sec.standby.filter (fun c => !xs.contains c) } }
  forAll xs (fun s c => s.setSmap c { s.smap c with standby := false }) s

/-- Standby clusters that were chosen return to the set. -/
def State.giveStandby (s : State) (xs : List Nat) : State :=
  let xs := xs.filter (fun b => !(s.smap b).retired)
  let s := { s with sec := { s.sec with standby := s.sec.standby ++ xs } }
  forAll xs (fun s c => s.setSmap c { s.smap c with standby := true }) s

/-- Adds a move declared now. -/
def State.addMove (s : State) (c b : Nat) (lead : Bool) : State :=
  { s with rel := { s.rel with migq := s.rel.migq ++ [⟨c, b, s.now, lead⟩] } }

/-- Chooses standby clusters for a retired cluster of a region (R469), or stops the region (R475). A cluster that is in
a carry pair and in a lockstep pair finds none (log 21). -/
def State.chooseStandby (s : State) (c r : Nat) : State :=
  match s.pairOf c with
  | none =>
    match leastBy (hops c) s.standbys with
    | some b =>
      (s.useStandby [b]).addMove c b true
    | none => s.stopRegion r .clusterLost
  | some (d, vert) =>
    let even := fun b => if vert then clY b % 2 = 0 else clX b % 2 = 0
    let step := if vert then 16 else 1
    let cands := s.standbys.filter (fun b => even b && s.sec.standby.contains (b + step))
    if vert && decide ((s.cl c).role ≠ 0) then s.stopRegion r .clusterLost
    else match leastBy (hops c) cands with
      | some b =>
        let lo := min c d
        ((s.useStandby [b, b + step]).addMove lo b (decide (lo = c))).addMove (max c d) (b + step) (decide (lo ≠ c))
      | none => s.stopRegion r .clusterLost

/-- Retirements are given their standby clusters in ascending cluster index (R469). -/
def State.chooseFor (s : State) (cs : List Nat) : State :=
  forAll ((List.range 256).filter (cs.contains ·)) (fun s c =>
    if s.rel.migq.any (fun m => decide (m.cl = c)) then s
    else match s.regionOf c with
      | some r => s.chooseStandby c r
      | none => s) s

/-- A retirement in a region is declared (R469): those of the same cycle compete in ascending cluster index, so that the choices of this
cycle are made again with it. -/
def State.declare (s : State) (c : Nat) : State :=
  if s.rel.migq.any (fun m => decide (m.cl = c)) then s
  else
    let same := s.rel.migq.filter (fun m => decide (m.since = s.now))
    let s := { s with rel := { s.rel with migq := s.rel.migq.filter (fun m => decide (m.since ≠ s.now)) } }
    (s.giveStandby (same.map (·.dst))).chooseFor (c :: (same.filter (·.lead)).map (·.cl))

/-- The standby chosen for a move is itself retired: another is chosen. -/
def State.loseStandby (s : State) (b : Nat) : State :=
  match s.rel.migq.find? (fun m => decide (m.dst = b)) with
  | none => s
  | some m =>
    let pair := m.cl :: ((s.pairOf m.cl).map (·.1)).toList
    let gone := s.rel.migq.filter (fun x => pair.contains x.cl)
    let s := { s with rel := { s.rel with migq := s.rel.migq.filter (fun x => !pair.contains x.cl) } }
    (s.giveStandby (gone.map (·.dst))).chooseFor ((gone.filter (·.lead)).map (·.cl))

/-- A cluster is retired (R466, R481): cause 1 second cell, 2 window fault, 3 PLL pair, 4 bring-up. -/
def State.retire (s : State) (c cause : Nat) : State :=
  if (s.smap c).retired then s
  else
    let s := s.setSmap c { s.smap c with retired := true, standby := false }
    let s := { s with sec := { s.sec with standby := s.sec.standby.filter (fun x => decide (x ≠ c)) } }
    let s := s.log 0x11 (c * 2 ^ 24 + cause)
    let s := (s.updCl c (fun k => { k with stopped := true })).loseStandby c
    if (s.regionOf c).isSome then s.declare c else s

/-- A failing cell (R466, R468): it waits for the unused spare, or the cluster is retired. A failure during a repair of
the cluster waits for its end. -/
def State.failCell (s : State) (c cell : Nat) : State :=
  let k := s.cl c
  if k.failing.contains cell then s
  else if k.repair.isSome || !k.failing.isEmpty then s.updCl c (fun k => { k with failing := k.failing ++ [cell] })
  else if (s.smap c).spared || (s.smap c).spareBad then s.retire c 1
  else s.updCl c (fun k => { k with failing := [cell] })

/-- Two events within 1 s (R465): the times of the last second with a new one, and whether it is the second. -/
def withinSecond (now : Nat) (ts : List Nat) : List Nat × Bool :=
  let kept := ts.filter (fun t => decide (now < t + 1000000000))
  (now :: kept, !kept.isEmpty)

/-- A residue check fires (R464, R465). -/
def State.residue (s : State) (c cell : Nat) : State :=
  let k := s.cl c
  let x := k.cell cell
  let (ts, bad) := withinSecond s.now x.resTimes
  let s := s.setCl c (k.setCell cell { x with resTimes := ts })
  let s := s.log 0x02 (c * 2 ^ 24 + cell * 2 ^ 20)
  if bad then s.failCell c cell else s

/-- An uncorrectable cell memory error has been found at a word, which reads and is rewritten as 0 (R464, R465). -/
def State.cellUE (s : State) (c cell word : Nat) : State :=
  let k := s.cl c
  let x := k.cell cell
  let (ts, bad) := withinSecond s.now x.ueTimes
  let s := s.setCl c (k.setCell cell { x with ueTimes := ts, mem := sput 0 x.mem word 0, bad := sput 0 x.bad word 0 })
  let s := s.log 0x01 (c * 2 ^ 24 + cell * 2 ^ 20 + word)
  if bad then s.failCell c cell else s

/-- An uncorrectable word of a cluster's stream SRAM, context store or sequencer memory (R464): area 0, 1 or 2. -/
def State.memUE (s : State) (c area : Nat) : State := s.log 0x03 (c * 2 ^ 24 + area)

/-- The context-halt event sets bit 8 of the sequencer's event register (R201). -/
def Cluster.haltEvent (k : Cluster) : Cluster := { k with seq := { k.seq with evp := k.seq.evp ||| 0x100 } }

end Sys2Proof.Machine
end

