-- ==== Sys2Proof/Machine/CellCycle.lean ====
section
/-! DEFINITION. One cell in one cycle: issue, results, outputs (R54 to R69, R109, R110). -/

namespace Sys2Proof.Machine

/-- A pointer after its signed 8-bit step, modulo 2,048 (R55). -/
def stepPtr (p : BitVec 11) (step : Nat) : BitVec 11 := BitVec.ofNat 11 (ofInt 11 (p.toNat + toInt 8 step))

/-- A cell memory read (R58, R464): the word, MSBE for a corrected error, and whether the word was uncorrectable, in
which case it reads as zero. -/
def Cell.readMem (x : Cell) (a : Nat) : Nat × BitVec 7 × Bool :=
  match sget 0 x.bad a with
  | 0 => ((sget 0 x.mem a).toNat, 0, false)
  | 1 => ((sget 0 x.mem a).toNat, stMSBE, false)
  | _ => (0, 0, true)

/-- A cell memory write; it ends a latent error of the word (R58). -/
def Cell.writeMem (x : Cell) (a : Nat) (w : Word) : Cell := { x with mem := sput 0 x.mem a w, bad := sput 0 x.bad a 0 }

/-- Carry of one cell of a row (R63, R66, R67): its result word, the carry out of its chain's tail and the length of its
chain. -/
structure Carry where
  res : Nat := 0
  tail : Bool := false
  len : Nat := 1
  deriving DecidableEq, Repr

/-- Sums along a row of cells, west to east: result and own carry out of each cell that issues ADDW or SUBW. -/
def rowSums : Bool → List (Plane × Nat × Nat) → List (Nat × Bool)
  | _, [] => []
  | prev, (p, a, b) :: rest =>
    if isCarryOp (pOP p) then
      let sub := decide (pOP p = 0x21)
      let cin := if pCIN p then prev else sub
      let t := a + (if sub then b ^^^ (2 ^ 128 - 1) else b) + b2n cin
      (t % 2 ^ 128, decide (2 ^ 128 ≤ t)) :: rowSums (decide (2 ^ 128 ≤ t)) rest
    else (0, false) :: rowSums false rest

/-- Distance of each cell from the head of its chain. -/
def rowStarts : Nat → List Plane → List Nat
  | _, [] => []
  | d, p :: ps => let d := if pCIN p then d + 1 else 0; d :: rowStarts d ps

/-- Distance of each cell to the tail of its chain, with the tail's carry out. -/
def rowEnds : List Plane → List Bool → List (Nat × Bool)
  | p :: ps, c :: cs =>
    let rest := rowEnds ps cs
    match pCOUT p, rest with
    | true, (d, t) :: _ => (d + 1, t) :: rest
    | _, _ => (0, c) :: rest
  | _, _ => []

/-- The carries of a row of cells. -/
def rowCarries (row : List (Plane × Nat × Nat)) : List Carry :=
  let sums := rowSums false row
  let ps := row.map (·.1)
  let ends := rowEnds ps (sums.map (·.2))
  ((sums.zip (rowStarts 0 ps)).zip ends).map (fun ((r, d), (e, t)) => ⟨r.1, t, d + e + 1⟩)

/-- Issue of the governing plane's operation (R54, R55, R59): the cell with the operation in flight and its pointers
stepped, and the memory words found uncorrectable. -/
def Cell.issue (x : Cell) (p : Plane) (i : CellIn) (cy : Carry) : Cell × List Nat :=
  let op := pOP p
  if op = 0 then (x, [])
  else
    let a := srcOperand x p i (pSRCA p)
    let b := srcOperand x p i (pSRCB p)
    let c := srcOperand x p i (pSRCC p)
    let toMem := decide (pDST p = 36)
    let addr := x.wp
    let wp := if toMem then stepPtr x.wp (pWPSTEP p) else x.wp
    if isAccOp op then
      ({ x with flight := x.flight ++ [{ plane := p, a := BitVec.ofNat 128 a, b := BitVec.ofNat 128 b, left := opLatency op }] }, [])
    else if isCarryOp op then
      ({ x with wp := wp, flight := x.flight ++ [{ plane := p, r0 := BitVec.ofNat 128 cy.res, carry := cy.tail, addr := addr,
                                                   left := chainLatency cy.len }] }, [])
    else
      let ld := decide (op = 0x70) || decide (op = 0x71)
      let ldp := decide (op = 0x71)
      let m0 := if ld then x.readMem x.ap0.toNat else (0, 0, false)
      let m1 := if ldp then x.readMem x.ap1.toNat else (0, 0, false)
      let acc := (sget 0 x.acc ((pSRCA p - 16) / 4)).toNat
      let (r0, r1, st) := cellResult p a b c acc m0.1 m1.1
      ({ x with
          ap0 := if ld then stepPtr x.ap0 (pAP0STEP p) else x.ap0
          ap1 := if ldp then stepPtr x.ap1 (pAP1STEP p) else x.ap1
          wp := wp
          stat := x.stat ||| m0.2.1 ||| m1.2.1
          flight := x.flight ++ [{ plane := p, r0 := BitVec.ofNat 128 r0, r1 := BitVec.ofNat 128 r1, sticky := st,
                                   addr := addr, left := opLatency op }] },
        (if m0.2.2 then [x.ap0.toNat] else []) ++ (if m1.2.2 then [x.ap1.toNat] else []))

/-- The operations that complete at the end of the cycle, in issue order. -/
def Cell.completing (x : Cell) : List InFlight := x.flight.filter (fun f => decide (f.left = 1))

/-- The words RES and RES2 of a cycle (R110, log 92). -/
def Cell.res (x : Cell) : Nat × Nat :=
  let done := x.completing.filter (fun f => !isAccOp (pOP f.plane))
  ((done.getLast?.map (·.r0.toNat)).getD 0,
   ((done.filter (fun f => isTwoWord (pOP f.plane))).getLast?.map (·.r1.toNat)).getD 0)

/-- The word that an output or lane code selects (R110). -/
def outWord (x : Cell) (p : Plane) (i : CellIn) (code : Nat) : Nat :=
  match code with
  | 0x0 => 0
  | 0x1 => x.res.1
  | 0x2 => x.res.2
  | 0x3 => i.qin
  | 0x4 => i.north
  | 0x5 => i.east
  | 0x6 => i.south
  | 0x7 => i.west
  | 0x8 => i.x
  | 0x9 => i.tap0
  | 0xA => i.tap1
  | 0xB => constBroadcast p
  | n => (sget 0 x.c n).toNat

/-- A write to a destination: the index of its operation in issue order, and the value. -/
abbrev DWrite := Nat × Nat

/-- The writes of completing operations to cell register r. -/
def regWrites (done : List (Nat × InFlight)) (r : Nat) : List DWrite :=
  done.flatMap (fun (n, f) =>
    let op := pOP f.plane
    let d := pDST f.plane
    if isAccOp op then [] else
    (if d = r && decide (d < 16) then [(n, f.r0.toNat)] else []) ++
    (if isTwoWord op && decide (d < 16) && decide (d + 1 = r) then [(n, f.r1.toNat)] else []))

/-- Writes every cell register that a completing operation names; the most recently issued wins and a collision sets
WCOL (R62). -/
def writeRegs (done : List (Nat × InFlight)) (x : Cell) : Cell :=
  (List.range 16).foldl (fun x r =>
    let ws := regWrites done r
    match ws.getLast? with
    | none => x
    | some (_, v) => { x with c := sput 0 x.c r (BitVec.ofNat 128 v),
                              stat := x.stat ||| stIf (decide (1 < ws.length)) stWCOL }) x

/-- The write port (R54, R62). -/
def writePort (done : List (Nat × InFlight)) (x : Cell) : Cell :=
  let ws := done.filter (fun (_, f) => decide (pDST f.plane = 36) && !isAccOp (pOP f.plane))
  match ws.getLast? with
  | none => x
  | some (_, f) => { x.writeMem f.addr.toNat f.r0 with stat := x.stat ||| stIf (decide (1 < ws.length)) stWCOL }

/-- Accumulating operations of a list applied in issue order (R61): the value, the sticky bits, and the predicates of each. -/
def accChain : Nat → List (Nat × InFlight) → Nat × BitVec 7 × List (Nat × List Bool)
  | acc, [] => (acc, 0, [])
  | acc, (n, f) :: rest =>
    let (v, st, ps) := accApply f.plane f.a.toNat f.b.toNat acc
    let (v, st', pss) := accChain v rest
    (v, st ||| st', (n, ps) :: pss)

/-- One accumulator at the end of a cycle (R61, R62): its value, sticky bits, and the predicates of the accumulating
operations. Quarter writes issued after the accumulating operations win over them; others are discarded (log 22). -/
def accWrite (done : List (Nat × InFlight)) (m acc : Nat) : Nat × BitVec 7 × List (Nat × List Bool) :=
  let group := done.filter (fun (_, f) => isAccOp (pOP f.plane) && decide (pDST f.plane = 16 + m))
  let quarters := done.filter (fun (_, f) => !isAccOp (pOP f.plane) && decide (20 + 4 * m ≤ pDST f.plane)
    && decide (pDST f.plane < 24 + 4 * m))
  let (sum, st, preds) := accChain acc group
  let last := (group.getLast?.map (fun e => e.1 + 1)).getD 0
  let winners := quarters.filter (fun e => decide (last ≤ e.1))
  let coll := (!group.isEmpty && !quarters.isEmpty) ||
    (List.range 4).any (fun q => decide (1 < (quarters.filter (fun (_, f) => decide (pDST f.plane = 20 + 4 * m + q))).length))
  let v := if winners.isEmpty then sum
    else winners.foldl (fun a (_, f) => putFld a (128 * ((pDST f.plane - 20) % 4)) 128 f.r0.toNat) acc
  (v, st ||| stIf coll stWCOL, preds)

/-- End of an advancing or parked cycle at a cell: completing operations write their destinations and the condition flag,
the others come one cycle closer (R59, R62, R69). -/
def Cell.writeback (x0 : Cell) : Cell :=
  let done := (x0.completing).zipIdx.map (fun (f, n) => (n, f))
  let x := { x0 with flight := (x0.flight.filter (fun f => decide (f.left ≠ 1))).map (fun f => { f with left := f.left - 1 }) }
  let x := writePort done (writeRegs done x)
  let accs := tabulate 4 (fun m => accWrite done m (sget 0 x0.acc m).toNat)
  let x := accs.zipIdx.foldl (fun x (r, m) => { x with acc := sput 0 x.acc m (BitVec.ofNat 512 r.1), stat := x.stat ||| r.2.1 }) x
  let accPreds := accs.flatMap (·.2.2)
  let predsOf := fun (n : Nat) (f : InFlight) =>
    if isAccOp (pOP f.plane) then ((accPreds.find? (fun e => decide (e.1 = n))).map (·.2)).getD []
    else if isCarryOp (pOP f.plane) then [f.carry]
    else lanePreds (predW f.plane) f.r0.toNat
  done.foldl (fun x (n, f) => { x with stat := x.stat ||| f.sticky, cond := condFlag (pCMODE f.plane) (predsOf n f) x.cond }) x

/-- A cell after the cycle: outputs captured and results written (R109). -/
def Cell.advance (x : Cell) (p : Plane) (i : CellIn) : Cell :=
  let outs := (List.range 5).foldl (fun (m : SMap Word) n => sput 0 m n (BitVec.ofNat 128 (outWord x p i (pOSEL p n)))) []
  { x.writeback with outs := outs }

end Sys2Proof.Machine
end

