-- ==== Sys2Proof/Machine/Cluster.lean ====
section
/-! DEFINITION. One island cycle of a cluster: selection, stalls, routing, queue actions (R78 to R92, R102, R109 to R128). -/

namespace Sys2Proof.Machine

/-! ### The plane selector -/

def enPLANE (e : Entry) : Nat := fld e.toNat 0 3
def enALT (e : Entry) : Nat := fld e.toNat 4 3
def enKIND (e : Entry) : Nat := fld e.toNat 8 4
def enCCELL (e : Entry) : Nat := fld e.toNat 12 4
def enCINV (e : Entry) : Bool := bit e.toNat 16
def enCPEER (e : Entry) : Bool := bit e.toNat 17
def enLCSEL (e : Entry) : Bool := bit e.toNat 18
def enTARGET (e : Entry) : Nat := fld e.toNat 24 7
def enREP (e : Entry) : Nat := fld e.toNat 32 16
def enLCOUNT (e : Entry) : Nat := fld e.toNat 48 16

/-- Entry of the live bank (R83). -/
def Cluster.entryAt (k : Cluster) (i : Nat) : Entry := sget 0 k.prog (128 * b2n k.pbank + i)

/-- The condition of an entry (R84, R92): k and peer as they stand at the start of the selecting cycle. -/
def selCond (k peer : Cluster) (e : Entry) : Bool :=
  ((if enCPEER e then peer else k).cell (enCCELL e)).cond != enCINV e

/-- The plane of a cycle that an entry governs (R84). -/
def selPlane (k peer : Cluster) (e : Entry) : Nat :=
  if enKIND e = 1 && !selCond k peer e then enALT e else enPLANE e

/-- The selector takes the first plane of an entry; a HALT entry parks the cluster, sets HALTED and raises the
context-halt event (R87, R89). -/
def selEnter (k peer now : Cluster) (i : Nat) : Cluster :=
  let e := k.entryAt i
  if enKIND e = 5 then
    { now with sel := { now.sel with run := false, plane := 0, entry := i, rep := 0, halted := true } }.haltEvent
  else { now with sel := { now.sel with run := true, entry := i, rep := 0, plane := selPlane k peer e } }

/-- The selection of an advancing or parked cycle (R79, R84, R85, R87): k and peer at the start of the cycle, now the
cluster to change. -/
def selNext (k peer now : Cluster) : Cluster :=
  match k.sel.cmd with
  | some (.start e) =>
    selEnter k peer { now with sel := { now.sel with cmd := none, lc0 := 0, lc1 := 0 } } e
  | some .park => { now with sel := { now.sel with cmd := none, run := false, plane := 0 } }
  | none =>
    if !k.sel.run then now
    else
      let e := k.entryAt k.sel.entry
      let inext := (k.sel.entry + 1) % 128
      if k.sel.rep < enREP e then
        { now with sel := { now.sel with rep := k.sel.rep + 1, plane := selPlane k peer e } }
      else match enKIND e with
        | 2 => selEnter k peer now (if selCond k peer e then enTARGET e else inext)
        | 3 => selEnter k peer now (enTARGET e)
        | 4 =>
          let lc := if enLCSEL e then k.sel.lc1 else k.sel.lc0
          let go := decide (lc < enLCOUNT e)
          let lc' := if go then lc + 1 else 0
          let now := if enLCSEL e then { now with sel := { now.sel with lc1 := lc' } }
            else { now with sel := { now.sel with lc0 := lc' } }
          selEnter k peer now (if go then enTARGET e else inext)
        | _ => selEnter k peer now inext

/-- The follower of a carry pair takes the leader's choice (R91); its program position, which CTX_STAT shows as PC, stays (log 82). -/
def selFollow (leader now : Cluster) : Cluster :=
  { now with sel := { now.sel with run := leader.sel.run, plane := leader.sel.plane } }

/-- A CTX_RUN write (R87, R88, R91): any write to a follower, in a commit cycle, a fill pause or a repair pause sets CMDERR; of two that wait
for one selection the later counts (log 81). -/
def Cluster.ctxRun (k : Cluster) (start park : Bool) (entry : Nat) : Cluster :=
  if (start && park) || decide (0 < k.fill) || decide (0 < k.pause) || decide (k.role = 2) then { k with sel := { k.sel with cmderr := true } }
  else if !start && !park then k
  else { k with sel := { k.sel with cmd := some (if start then .start entry else .park) } }

/-! ### Planes and inputs -/

/-- Plane of cell i that governs the present cycle (R96). -/
def Cluster.planeOf (k : Cluster) (i : Nat) : Plane := sget 0 k.planes (16 * i + 8 * b2n k.live + k.sel.plane)

/-- The piece of express lane k that a cell reads (R116). -/
def Cluster.tap (k : Cluster) (i ln : Nat) : Nat := (sget 0 k.lanes (4 * ln + (if ln < 4 then i / 4 else i % 4))).toNat

def Cluster.outOf (k : Cluster) (i o : Nat) : Nat := (sget 0 (k.cell i).outs o).toNat

/-- What reaches cell i (R112, R114, R116), with the word and tag that it pops. -/
def Cluster.inputs (k : Cluster) (i : Nat) (p : Plane) (pop : Word × BitVec 4) : CellIn :=
  { north := if i / 4 < 3 then k.outOf (i + 4) 2 else 0
    east := if i % 4 < 3 then k.outOf (i + 1) 3 else 0
    south := if 0 < i / 4 then k.outOf (i - 4) 0 else 0
    west := if 0 < i % 4 then k.outOf (i - 1) 1 else 0
    x := k.outOf (pXBSEL p) 4
    tap0 := k.tap i (pTAP0SEL p)
    tap1 := k.tap i (pTAP1SEL p)
    qin := if pQPOPEN p then pop.1.toNat else 0
    qtag := if pQPOPEN p then pop.2.toNat else 0 }

/-! ### Links (R122 to R125) -/

/-- Source of a boundary link entry: cell and output (R122). -/
def boundarySrc (l : Nat) : Nat × Nat :=
  if l < 4 then (12 + l, 0) else if l < 8 then (4 * (l - 4) + 3, 1) else if l < 12 then (l - 8, 2) else (4 * (l - 12), 3)

/-- Lane and cells of the piece that a landing entry carries (R122). -/
def landingSrc (l : Nat) : Nat × List Nat :=
  if l < 24 then (2 + (l - 16) % 2, (List.range 4).map (· + 4 * ((l - 16) / 2)))
  else (6 + (l - 24) % 2, (List.range 4).map (fun y => 4 * y + (l - 24) / 2))

/-- The cell that pushes on a link in the present cycle, with the output or lane code; none when the link is idle. -/
def Cluster.linkSrc (k : Cluster) (l : Nat) : Option (Nat × Nat) :=
  if !lkEN (k.link l) then none
  else if l < 16 then
    let (i, o) := boundarySrc l
    let code := pOSEL (k.planeOf i) o
    if code = 0 then none else some (i, code)
  else
    let (ln, cells) := landingSrc l
    (cells.find? (fun i => pXEN (k.planeOf i) ln)).map (fun i => (i, pXSRC (k.planeOf i) ln))

/-- Stall causes of the governing plane as bits of CTX_SCAUSE (R119, R134): POPE, PUSHF, BLNK, LAND. -/
def Cluster.stallCause (k : Cluster) : BitVec 6 :=
  let cells := List.range 16
  let pope := cells.any (fun i => let p := k.planeOf i; pQPOPEN p && k.qEmpty (pQPOPID p))
  let pushf := cells.any (fun i => let p := k.planeOf i; pQPUSHEN p && k.qFull (pQPUSHID p))
  let dry := fun l => (k.linkSrc l).isSome && decide (sget 0 k.credits l = 0)
  let blnk := (List.range 16).any dry
  let land := (List.range 16).any (fun l => dry (l + 16))
  BitVec.ofNat 6 (b2n pope + 2 * b2n pushf + 4 * b2n blnk + 8 * b2n land)

/-! ### Queue upkeep in every island cycle -/

/-- Whether a forward channel may pop a word (R153, R154). -/
def Fwd.mayPop (f : Fwd) : Bool := f.en && decide (f.packed.length < 16) && (!f.mover || decide (0 < f.cred))

/-- Whether a forward channel pops its source queue in a cycle, by the cluster at its start: a queue gives up one word in a cycle (R141), to
one of the channels on it in turn (R25, log 80). -/
def Cluster.popTurn (k : Cluster) (ch : Nat) : Bool :=
  let q := (k.fwd ch).sqid
  decide (rrPick 8 (sget 0 k.popPtr q) (fun j => (k.fwd j).mayPop && decide ((k.fwd j).sqid = q) && !k.qEmpty q) = some ch)

/-- One forward channel pops its source queue (R153) when it is its turn. -/
def State.fwdPop (s : State) (c ch : Nat) (turn : Bool) : State :=
  let k := s.cl c
  let f := k.fwd ch
  if turn then
    let (w, took, k) := k.popDo s.now f.sqid consFWD
    let k := { k with popPtr := sput 0 k.popPtr f.sqid ((ch + 1) % 8) }
    let k := k.setFwd ch { f with packed := f.packed ++ [w], cred := if f.mover then f.cred - 1 else f.cred }
    let s := s.setCl c k
    if took then s.creditBack c f.sqid else s
  else s

/-- The notices that a queue has raised in an island cycle belong to that cycle (R214). -/
def Queue.stamp (u : Queue) (n : Nat) : Queue := { u with notices := u.notices.map (fun x => { x with edge := some (x.edge.getD n) }) }

/-- The end of a cycle at the queues of a cluster: forward channels pop and crossing bits set (R146, R153), by the flags
and levels of the cluster as it stood at the start. -/
def State.queueUpkeep (k0 : Cluster) (s : State) (c : Nat) : State :=
  let s := forAll (List.range 8) (fun s ch => s.fwdPop c ch (k0.popTurn ch)) s
  s.updCl c (fun k =>
    let k := k0.liveQueues.foldl (fun k q => k.setQueue q ((qCross (k0.qHL q) (k0.qLL q) (k.queue q)).stamp k.edges)) k
    { k with edges := k.edges + 1 })

/-! ### Cycles -/

/-- Counts a stall (R134). -/
def Cluster.stall (k : Cluster) (cause : BitVec 6) : Cluster :=
  { k with scause := k.scause ||| cause, stalls := satAdd k.stalls 1 0xFFFFFFFF }

/-- Preload words of a cell in ascending order (R102). -/
def Cluster.preWords (k : Cluster) (cell : Nat) : List Nat :=
  (List.range 2048).filter (fun w => sget false k.preBits (2048 * cell + w))

/-- A commit cycle or a cycle of the fill pause (R102). -/
def Cluster.fillCycle (k : Cluster) : Cluster :=
  let k := if k.fillIdx = 0 then k else
    (List.range 16).foldl (fun k i => match (k.preWords i)[k.fillIdx - 1]? with
      | some w => k.setCell i ((k.cell i).writeMem w (sget 0 k.preBuf (2048 * i + w)))
      | none => k) k
  { k with fill := k.fill - 1, fillIdx := k.fillIdx + 1 }.stall 0x20

/-- The selection that ends a commit (R102, R103). -/
def Cluster.startSelection (k peer : Cluster) : Cluster := if k.startPark then k else selEnter k peer k 0

/-- A parked cycle at the cells (R82, R111). -/
def Cluster.parkedCells (k : Cluster) : Cluster :=
  { (List.range 16).foldl (fun k i => k.setCell i { (k.cell i).writeback with outs := [] }) k with lanes := [] }

/-- Words and tags popped by the cells, by cell. -/
abbrev Pops := List (Nat × (Word × BitVec 4))

def popOf (ps : Pops) (i : Nat) : Word × BitVec 4 := ((ps.find? (fun p => decide (p.1 = i))).map (·.2)).getD (0, 0)

/-- Operands of the cells of a row, west to east (R63). -/
def Cluster.rowOperands (k : Cluster) (pops : Pops) (cy : Nat) : List (Plane × Nat × Nat) :=
  (List.range 4).map (fun cx =>
    let i := 4 * cy + cx
    let p := k.planeOf i
    let inp := k.inputs i p (popOf pops i)
    (p, srcOperand (k.cell i) p inp (pSRCA p), srcOperand (k.cell i) p inp (pSRCB p)))

/-- What a cluster sends out in a cycle: queue pushes as (queue, word, tag), and link pushes. -/
structure Sent where
  pushes : List (Nat × Word × BitVec 4)
  links : List LinkWord
  deriving DecidableEq, Repr

/-- The queue pushes of the governing plane (R73, R90). -/
def Cluster.planePushes (k : Cluster) (pops : Pops) : List (Nat × Word × BitVec 4) :=
  (List.range 16).filterMap (fun i =>
    let p := k.planeOf i
    if pQPUSHEN p then
      let inp := k.inputs i p (popOf pops i)
      some (pQPUSHID p, BitVec.ofNat 128 (srcOperand (k.cell i) p inp (pQPUSHSRC p)),
        BitVec.ofNat 4 (if pQTAGSRC p then inp.qtag else pQTAG p))
    else none)

/-- The words that the links carry (R123 to R125). -/
def Cluster.planeLinks (k : Cluster) (pops : Pops) : List LinkWord :=
  (List.range 32).filterMap (fun l => (k.linkSrc l).map (fun (i, code) =>
    let p := k.planeOf i
    let inp := k.inputs i p (popOf pops i)
    let r := k.link l
    { link := l, tcl := lkTCL r, q := lkQID r, w := BitVec.ofNat 128 (outWord (k.cell i) p inp code),
      tag := if lkTAGSRC r then BitVec.ofNat 4 inp.qtag else lkTAG r }))

/-- The express-lane pieces at the end of the cycle (R115). -/
def Cluster.planeLanes (k : Cluster) (pops : Pops) : SMap Word :=
  (List.range 8).foldl (fun m ln => (List.range 4).foldl (fun m j =>
    let cells := if ln < 4 then (List.range 4).map (· + 4 * j) else (List.range 4).map (fun y => 4 * y + j)
    match cells.find? (fun i => pXEN (k.planeOf i) ln) with
    | some i =>
      let p := k.planeOf i
      sput 0 m (4 * ln + j) (BitVec.ofNat 128 (outWord (k.cell i) p (k.inputs i p (popOf pops i)) (pXSRC p ln)))
    | none => m) m) []

/-- The cells after an advancing cycle, with the memory words found uncorrectable as (cell, word). -/
def Cluster.advanceCells (k : Cluster) (pops : Pops) (carry : Nat → Carry) : Cluster × List (Nat × Nat) :=
  (List.range 16).foldl (fun (r : Cluster × List (Nat × Nat)) i =>
    let p := k.planeOf i
    let inp := k.inputs i p (popOf pops i)
    let (x, ue) := (k.cell i).issue p inp (carry i)
    (r.1.setCell i (x.advance p inp), r.2 ++ ue.map (fun w => (i, w)))) (k, [])

/-- The pops of the governing plane, performed on the queues (R141): the words by cell, and the state. -/
def State.planePops (s : State) (c : Nat) : Pops × State :=
  let k0 := s.cl c
  (List.range 16).foldl (fun (r : Pops × State) i =>
    let p := k0.planeOf i
    if pQPOPEN p then
      let (w, took, k) := (r.2.cl c).popDo s.now (pQPOPID p) consARRAY
      let s' := r.2.setCl c k
      (r.1 ++ [(i, w)], if took then s'.creditBack c (pQPOPID p) else s')
    else r) ([], s)

/-- The queue and link pushes of a cycle (R123, R126, R141). -/
def State.planeSends (s : State) (c : Nat) (out : Sent) : State :=
  s.updCl c (fun k =>
    let k := out.pushes.foldl (fun k (q, w, t) => k.pushDo s.now q prodARRAY 0 w t) k
    { k with linkWords := k.linkWords ++ out.links,
             credits := out.links.foldl (fun m l => sput 0 m l.link (sget 0 m l.link - 1)) k.credits })

/-! ### Groups of clusters that advance together (R65, R451, R452) -/

/-- Lockstep pairs exist: PAIRED mode, in a region. -/
def State.lockstep (s : State) (c : Nat) : Bool := decide (s.sys.mode = 3) && (s.regionOf c).isSome

/-- The twin of a lockstep pair. -/
def State.isTwin (s : State) (c : Nat) : Bool := s.lockstep c && decide (clY c % 2 = 1)

/-- Twin of a lead, which takes every write into the lead's window (R452). -/
def State.withTwin (s : State) (c : Nat) : List Nat := if s.lockstep c && !s.isTwin c then [c, c + 16] else [c]

/-- The cluster and, for the leader of a carry pair, its follower. -/
def State.leads (s : State) (c : Nat) : List Nat := if (s.cl c).role = 1 then [c, c + 1] else [c]

/-- Twins of these clusters. -/
def State.twinsOf (s : State) (cs : List Nat) : List Nat := cs.filterMap (fun c => if s.lockstep c then some (c + 16) else none)

/-- The cluster stays still with its partner: a follower or twin, whose leader or lead makes the cycle. -/
def State.follows (s : State) (c : Nat) : Bool := decide ((s.cl c).role = 2) || s.isTwin c

/-- An island idles when none of its clusters lies in a region, in the standby set or in the owner's configuration, or is about
to take a retired cluster's place (R450, R469). -/
def State.islandIdle (s : State) (i : Nat) : Bool :=
  (islandClusters i).all (fun c => (s.regionOf c).isNone && !s.sec.standby.contains c && !s.loader.ownerClusters.contains c
    && !s.rel.migq.any (fun m => decide (m.dst = c)))

/-- Islands that have become idle since a state count their idle time from now (R450). -/
def State.noteIdle (s old : State) : State :=
  forAll ((List.range 64).filter (fun i => !old.islandIdle i && s.islandIdle i)) (fun s i =>
    { s with sys := { s.sys with idleSince := sput 0 s.sys.idleSince i s.now } }) s

/-- Steps of a mode change in which the island clocks stand still (R453). -/
def State.clocksStopped (s : State) : Bool := match s.sys.change with
  | some ch => decide (4 = ch.step)
  | none => false

/-- Whether the clock of a cluster's island runs: it is powered, released, not idle and not gated (R448, R450, R453). -/
def State.islandRuns (s : State) (c : Nat) : Bool :=
  s.islSvc (islandOf c) && s.islOn (islandOf c) && !s.islandIdle (islandOf c) && decide (s.sys.dstate ≠ .faultSafe)
    && !s.clocksStopped

/-- Whether cluster cycles occur: the island's clock runs, the cluster is not stopped, and it has committed since its
allocation (R350). -/
def State.clocked (s : State) (c : Nat) : Bool := s.islandRuns c && !(s.cl c).stopped && (s.cl c).digest.isSome

/-- Whether the sequencer's clock runs: with the cluster's, and on in a retired cluster until its trap handler has ended
(R470 step 1). -/
def State.seqClocked (s : State) (c : Nat) : Bool :=
  s.clocked c || (s.islandRuns c && (s.cl c).digest.isSome && (s.seq c).biv && s.rel.migq.any (fun m => decide (m.cl = c)))

/-- Selections of a group of a leader and its follower, from the clusters at the start of the cycle. -/
def selGroup (old : List Cluster) (now : List Cluster) : List Cluster :=
  match old, now with
  | [k], [n] => [selNext k k n]
  | [k, f], [n, m] => let n' := selNext k f n; [n', selFollow n' m]
  | _, ns => ns

/-- Writes clusters back. -/
def State.setCls (s : State) : List (Nat × Cluster) → State
  | [] => s
  | (c, k) :: rest => (s.setCl c k).setCls rest

/-- The cells of one or two clusters in an advancing cycle, with their carry chains (R63, R64). -/
def advanceGroup (ks : List Cluster) (pops : List Pops) : List (Cluster × List (Nat × Nat)) :=
  let rows := (List.range 4).map (fun cy => rowCarries ((ks.zip pops).flatMap (fun (k, p) => k.rowOperands p cy)))
  (ks.zip pops).zipIdx.map (fun ((k, p), n) =>
    k.advanceCells p (fun i => (((rows[i / 4]?).getD [])[4 * n + i % 4]?).getD {}))

/-- A lockstep mismatch that the comparator finds (R476): the cycle's actions are suppressed and both clusters halt. -/
def State.pairMismatch (s : State) (c : Nat) (cs : List Nat) : State :=
  match s.regionOf c with
  | some r => forAll cs (fun s c => s.updCl c (fun k => { k with stopped := true }))
      ((s.log 0x15 (c * 2 ^ 24)).stopRegion r .pairMismatch)
  | none => s

/-- An advancing cycle of a group: the state before, the clusters that lead and their twins. -/
def State.advanceCycle (s0 : State) (ls ts : List Nat) : State :=
  let (pops, s) := ls.foldl (fun (r : List Pops × State) c => let (p, s) := r.2.planePops c; (r.1 ++ [p], s)) ([], s0)
  let run := fun (s : State) (cs : List Nat) =>
    let old := cs.map s0.cl
    let adv := advanceGroup old pops
    let lanes := (old.zip pops).map (fun (k, p) => k.planeLanes p)
    let now := (cs.zip (adv.zip lanes)).map (fun (c, (a, l)) => { s.cl c with cells := a.1.cells, lanes := l })
    let s := s.setCls (cs.zip (selGroup old now))
    forAll cs (fun s c => (((cs.zip adv).filter (fun e => decide (e.1 = c))).flatMap (·.2.2)).foldl
      (fun s (i, w) => s.cellUE c i w) s) s
  let sent := fun (c : Nat) (p : Pops) => (⟨(s0.cl c).planePushes p, (s0.cl c).planeLinks p⟩ : Sent)
  let same := ts.isEmpty || decide ((ls.zip pops).map (fun (c, p) => sent c p) = (ts.zip pops).map (fun (c, p) => sent c p))
  if same then
    let s := run s ls
    let s := run s ts
    (ls.zip pops).foldl (fun s (c, p) => s.planeSends c (sent c p)) s
  else s0.pairMismatch (ls.headD 0) (ls ++ ts)

/-- Whether the commit of a cluster has come: it has a shadow to commit, and its local copy of device time reads T or more (R33). -/
def Cluster.commitCome (k : Cluster) (now : Nat) : Bool :=
  k.shadow.isSome && (match k.commitAt with | some t => decide (t ≤ now) | none => false)

/-- The end of a repair pause (R104 step 5): LIVE inverts, and a failure that waited takes effect (R468). -/
def State.repairEnd (s : State) (c : Nat) : State :=
  let k := s.cl c
  let s := s.setCl c { k with live := !k.live, repair := none, pause := 0, failing := [] }
  forAll (k.failing.drop 1) (fun s i => s.failCell c i) s

/-- A cycle of a repair pause: a stall of the group (R105), which ends for a cluster with its last cycle. -/
def State.pauseCycle (s : State) (cs : List Nat) : State :=
  forAll cs (fun s c =>
    let k := s.cl c
    let s := s.setCl c ({ k with pause := k.pause - 1 }.stall 0x20)
    if k.pause = 1 then s.repairEnd c else s) s

/-- A cycle of the commit cycle or fill pause of a group (R102). -/
def State.fillCycle (s : State) (ls ts : List Nat) (last : Bool) : State :=
  let s := forAll (ls ++ ts) (fun s c => s.updCl c Cluster.fillCycle) s
  let start := fun (s : State) (g : List Nat) => match g with
    | [a] => s.setCl a ((s.cl a).startSelection (s.cl a))
    | [a, b] => let n := (s.cl a).startSelection (s.cl b); (s.setCl a n).setCl b (selFollow n (s.cl b))
    | _ => s
  if last then start (start s ls) ts else s

/-- A parked cycle of a group (R82). -/
def State.parkedCycle (s : State) (ls ts : List Nat) : State :=
  let go := fun (s : State) (g : List Nat) => s.setCls (g.zip (selGroup (g.map s.cl) ((g.map s.cl).map Cluster.parkedCells)))
  go (go s ls) ts

/-- A cycle of a running group: it advances, or stalls with the cause that arose in each cluster (R119 to R121). -/
def State.runCycle (s : State) (ls ts : List Nat) : State :=
  let causes := ls.map (fun c => ((s.cl c).stallCause))
  if causes.all (· = 0) then s.advanceCycle ls ts
  else
    let cause := fun i => let x := (causes[i]?).getD 0; if x = 0 then 0x10 else x
    let s1 := (ls.zipIdx).foldl (fun s (c, i) => s.updCl c (·.stall (cause i))) s
    (ts.zipIdx).foldl (fun s (c, i) => s.updCl c (·.stall (cause i))) s1

/-- The clusters whose cycle is one: a cluster with its carry-pair follower, and their twins (R65, R452). -/
def State.group (s : State) (c : Nat) : List Nat := s.leads c ++ s.twinsOf (s.leads c)

/-- Whether an island cycle of a cluster's group occurs. Once a commit has come, the next cycle is the commit's (R33, R101). -/
def State.cycleGoes (s : State) (c : Nat) : Bool :=
  !s.follows c && (s.group c).all s.clocked && !(s.group c).any (fun d => (s.cl d).commitCome s.now)

/-- Whether a retired cluster waits for its migration, its stop a stall (R470). -/
def State.migWaits (s : State) (c : Nat) : Bool := (s.cl c).stopped && s.rel.migq.any (fun m => decide (m.cl = c))

/-- Whether an island cycle of a group is one of the stall of a migration (R470): all of it would run but for clusters that wait to move. -/
def State.migStalls (s : State) (c : Nat) : Bool :=
  !s.follows c && (s.group c).any s.migWaits
    && (s.group c).all (fun d => s.islandRuns d && (s.cl d).digest.isSome && (!(s.cl d).stopped || s.migWaits d))

/-- A cycle of that stall: it counts in each cluster (R134), with PAIR in the carry-pair partner of the one that moves. -/
def State.migCycle (s : State) (c : Nat) : State :=
  let pair := (s.leads c).any s.migWaits
  forAll (s.group c) (fun s1 d => s1.updCl d (·.stall (if pair && (s.leads c).contains d && !s.migWaits d then 0x10 else 0))) s

/-- One island cycle of a cluster with its carry-pair follower and their twins (R119 to R121). -/
def State.cycle (s : State) (c : Nat) : State :=
  let ls := s.leads c
  let ts := s.twinsOf ls
  let k := s.cl c
  if !s.cycleGoes c then (if s.migStalls c then s.migCycle c else s)
  else
    let s1 := if (s.group c).any (fun d => decide (0 < (s.cl d).pause)) then s.pauseCycle (s.group c)
      else if 0 < k.fill then s.fillCycle ls ts (decide (k.fill = 1))
      else if !k.sel.run then s.parkedCycle ls ts
      else s.runCycle ls ts
    forAll ls (fun s1 c => s1.queueUpkeep (s.cl c) c) s1

/-- A latent error of a memory word appears (R58). -/
def State.upset (s : State) (c cell word : Nat) (double : Bool) : State :=
  let k := s.cl c
  let x := k.cell cell
  s.setCl c (k.setCell cell { x with bad := sput 0 x.bad word (if double then 2 else max 1 (sget 0 x.bad word)) })

/-- An uncorrectable word of the stream SRAM, the context store or a sequencer memory is rewritten as 0 and logged (R464). -/
def State.loseWord (s : State) (c area i : Nat) : State :=
  (s.updCl c (fun k => match area with
    | 0 => { k with sram := sput 0 k.sram i 0 }
    | 1 => if i < 256 then { k with planes := sput 0 k.planes i 0 } else { k with prog := sput 0 k.prog (i - 256) 0 }
    | _ => let zero := fun (m : SMap Byte) (a : Nat) => (List.range 4).foldl (fun m n => sput 0 m (a + n) 0) m
      if i < 16384 then { k with seq := { k.seq with imem := zero k.seq.imem (4 * i) } }
      else { k with seq := { k.seq with dmem := zero k.seq.dmem (4 * (i - 16384)) } })).memUE c area

/-- What happens physically in a cycle, before and after it (R58, R464, R476). -/
def State.cellEvent (s : State) (c : Nat) : CellEvent → State
  | .upset i w d => s.upset c i.val w.val d
  | .residue i => s.residue c i.val
  | .lost a i => s.loseWord c a.val i
  | .mismatch _ => s

end Sys2Proof.Machine
end

