-- ==== Sys2Proof/Machine/SeqOps.lean ====
section
/-! DEFINITION. The Halduk sequencer: registers, windows, traps, task ends, floating-point ownership (R171 to R205). -/

namespace Sys2Proof.Machine

/-! ### Registers and windows (R179, R180) -/

def Seq.slot (q : Seq) (i : Nat) : Option Slot := sget none q.slots i
def Seq.setSlot (q : Seq) (i : Nat) (v : Option Slot) : Seq := { q with slots := sput none q.slots i v }
def Seq.top (q : Seq) : Option Nat := q.nest.head?
def Seq.topSlot (q : Seq) : Option Slot := q.top.bind q.slot
def Seq.liveWin (q : Seq) (w : Nat) : Option Win := sget none q.live w
def Seq.setWin (q : Seq) (w : Nat) (v : Option Win) : Seq := { q with live := sput none q.live w v }

/-- Window of the current frame: 11 in the handler (R205). -/
def Seq.curWin (q : Seq) : Nat := if q.biv then 11 else (q.topSlot.bind (·.frame)).getD 0

/-- Lowest free task window (R181). -/
def Seq.freeWin (q : Seq) : Option Nat := (List.range 11).find? (fun w => (q.liveWin w).isNone)

/-- Register i of window w. -/
def Seq.winReg (q : Seq) (w i : Nat) : Reg := sget 0 q.win (16 * w + i)
def Seq.setWinReg (q : Seq) (w i : Nat) (v : Reg) : Seq := { q with win := sput 0 q.win (16 * w + i) v }

/-- Whether a register code names a register (R179). -/
def codeOk (c : RegCode) : Bool := decide (c.toNat < 24)

/-- The value of a register code (R179): k0 reads as 0. -/
def Seq.reg (q : Seq) (c : RegCode) : Reg :=
  if c.toNat < 16 then q.winReg q.curWin c.toNat else if c.toNat = 16 then 0 else sget 0 q.k (c.toNat - 16)

/-- Writes a register code (R179): k0 ignores writes. -/
def Seq.setReg (q : Seq) (c : RegCode) (v : Reg) : Seq :=
  if c.toNat < 16 then q.setWinReg q.curWin c.toNat v
  else if c.toNat = 16 then q else { q with k := sput 0 q.k (c.toNat - 16) v }

/-- The 16 registers of a new frame: p0 to p3 given, the others 0 (R181, R195). -/
def Seq.initFrame (q : Seq) (w : Nat) (p : List Reg) : Seq :=
  (List.range 16).foldl (fun q i => q.setWinReg w i (if i < 4 then (p[i]?).getD 0 else 0)) q

/-- A frame enters a window and becomes the youngest (R180). -/
def Seq.openWin (q : Seq) (w owner : Nat) (l : Link) : Seq :=
  { (q.setWin w (some ⟨owner, l, q.nextAge⟩)) with nextAge := q.nextAge + 1 }

/-- Updates the sequencer of a cluster. -/
def State.updSeq (s : State) (c : Nat) (f : Seq → Seq) : State := s.updCl c (fun k => { k with seq := f k.seq })

/-! ### Instruction addresses (R172) -/

/-- Whether the sequencer can fetch at its pc: a multiple of 4 in instruction memory, or in the trap ROM while the
bivouac window is current. -/
def Seq.fetchOk (q : Seq) : Bool :=
  decide (q.pc.toNat % 4 = 0) && (decide (q.pc.toNat < 0x10000) || (q.biv && decide (0xFFFFF000 ≤ q.pc.toNat)))

/-- Whether an instruction issues: the island is clocked, a task or the handler runs and does not wait, and its address
can be fetched. -/
def State.seqReady (s : State) (c : Nat) : Bool :=
  let q := s.seq c
  s.seqClocked c && (q.biv || !q.nest.isEmpty) && !q.waiting && q.fetchOk

def Seq.next (q : Seq) : Seq := { q with pc := q.pc + 4 }

/-! ### Traps and task ends -/

/-- Trap entry (R183): tpc, tcause, the bivouac window and the ROM entry. -/
def Seq.enterTrap (q : Seq) (cause : Nat) (win : Option Nat) : Seq :=
  { q with tpc := q.pc, cause := BitVec.ofNat 8 cause, twin := BitVec.ofNat 4 (win.getD 15), trapSlot := q.top,
           biv := true, waiting := false, pc := 0xFFFFF000 }

/-- Root-frame allocation of a task start (R195); with no free window it raises the overflow trap. -/
def Seq.allocRoot (q : Seq) (i : Nat) : Seq :=
  match q.slot i with
  | none => q
  | some sl =>
    let q := { q with pc := sl.pc }
    match q.freeWin with
    | none => q.enterTrap 1 none
    | some w => ((q.openWin w i .root).initFrame w sl.args).setSlot i (some { sl with frame := some w, alloc := false })

/-- The top of the nest goes on at its saved program counter (R187, R196): a root frame still to be allocated is
allocated, and a spilled current frame raises the trap of cause 3. -/
def Seq.resumeTop (q : Seq) (at_ : Option Reg) : Seq :=
  let q := { q with biv := false, waiting := false, trapSlot := none }
  match q.top with
  | none => q
  | some i => match q.slot i with
    | none => q
    | some sl =>
      if sl.alloc then q.allocRoot i
      else
        let q := { q with pc := at_.getD sl.pc }
        if sl.frame.isNone then q.enterTrap 3 none else q

/-- A task leaves its slot (R196, R197): its windows are freed, its floating-point ownership dropped. -/
def Seq.dropSlot (q : Seq) (i : Nat) : Seq :=
  let q := (List.range 11).foldl (fun q w => match q.liveWin w with
    | some x => if x.owner = i then q.setWin w none else q
    | none => q) q
  { (q.setSlot i none) with nest := q.nest.filter (fun j => decide (j ≠ i)),
                            fpown := if q.fpown = some i then none else q.fpown,
                            trapSlot := if q.trapSlot = some i then none else q.trapSlot }

/-- Sends Belay a completion (R196). The twin of a lockstep pair sends none (R452). -/
def State.sendComp (s : State) (c task : Nat) (status code : Nat) : State :=
  if s.isTwin c then s
  else s.sendReq .hub { op := .evt, who := c, prio := 3,
                        evt := some (.comp ⟨c, task, BitVec.ofNat 8 status, BitVec.ofNat 8 code, 0⟩) }

/-- The task in a slot ends with a status (R196, R197). -/
def State.endSlot (s : State) (c i status code : Nat) : State :=
  match (s.seq c).slot i with
  | none => s
  | some sl => (s.updSeq c (·.dropSlot i)).sendComp c sl.task status code

/-- The served or running task ends, and the next task of the nest resumes (R187, R196). -/
def State.endTask (s : State) (c status code : Nat) : State :=
  let q := s.seq c
  let s := match (if q.biv then q.trapSlot else q.top) with
    | some i => s.endSlot c i status code
    | none => s
  s.updSeq c (·.resumeTop none)

/-- A window fault (R189): the served task ends with WFAULT and the cluster is retired (R464, R466). -/
def State.windowFault (s : State) (c : Nat) : State :=
  let s := s.endTask c 0x08 0
  (s.log 0x14 (c * 2 ^ 24)).retire c 2

/-- A trap condition (R183, R189). -/
def State.trap (s : State) (c cause : Nat) : State :=
  let q := s.seq c
  if q.biv then s.windowFault c else s.updSeq c (·.enterTrap cause (q.topSlot.bind (·.frame)))

/-- An instruction of the sequencer: its effect when it issues. -/
def seqAct (c : ClId) (s : State) (f : State → State) : Host.Outcome State Fault Refusal :=
  act s fun s => if s.seqReady c.val then f s else s

/-! ### Data memory -/

/-- n bytes of data memory as a number. -/
def Seq.dmRead (q : Seq) (a n : Nat) : Nat := leNat ((List.range n).map (fun i => sget 0 q.dmem (a + i)))
def Seq.dmWrite (q : Seq) (a n v : Nat) : Seq :=
  { q with dmem := ((toLe n v).zipIdx).foldl (fun m (b, i) => sput 0 m (a + i) b) q.dmem }

/-! ### Floating-point ownership (R199) -/

def Seq.storeFp (q : Seq) (base : Nat) : Seq :=
  (List.range 16).foldl (fun q i => q.dmWrite (base + 8 * i) 8 (sget 0 q.f i).toNat) q
def Seq.loadFp (q : Seq) (base : Nat) : Seq :=
  (List.range 16).foldl (fun (r : Seq) i => { r with f := sput 0 r.f i (BitVec.ofNat 64 (q.dmRead (base + 8 * i) 8)) }) q

/-- The swap engine (R199): the owner's registers are stored, the new task's record is loaded or zeros are taken. -/
def Seq.fpSwap (q : Seq) : Seq :=
  match q.top with
  | none => q
  | some i =>
    if q.fpown = some i then q
    else
      let q := match q.fpown.bind (fun j => (q.slot j).map (fun sl => (j, sl))) with
        | some (j, sl) => (q.storeFp sl.base).setSlot j (some { sl with stored := true })
        | none => q
      let q := match q.slot i with
        | some sl => if sl.stored then q.loadFp sl.base else { q with f := [] }
        | none => q
      { q with fpown := some i }

/-! ### Control registers (R205) -/

/-- Oldest live task window other than the trapped frame's, with its owner. Before the first trap none is left out. -/
def Seq.oldest (q : Seq) : Option (Nat × Win) :=
  (List.range 11).foldl (fun (o : Option (Nat × Win)) w =>
    if decide (q.cause ≠ 0) && decide (w = q.twin.toNat) then o
    else match q.liveWin w, o with
      | none, o => o
      | some x, none => some (w, x)
      | some x, some (v, y) => if x.age < y.age then some (w, x) else some (v, y)) none

/-- The control register of an index (R205). -/
def Seq.ctl (q : Seq) (idx : Nat) : Nat :=
  if idx = 0 then b2n q.waiting + 2 * q.nest.length + 16 * q.top.getD 0 + 64 * b2n q.biv
  else if idx = 1 then q.curWin
  else if idx = 2 then (match q.freeWin with | some w => 16 + w | none => 0)
  else if idx = 3 then (match q.oldest with | some (w, x) => 64 + 16 * x.owner + w | none => 0)
  else if idx = 4 then (List.range 11).foldl (fun a w => if (q.liveWin w).isSome then a + 2 ^ w else a) 0
  else if idx = 5 then 256 * q.twin.toNat + q.cause.toNat
  else if idx = 6 then q.tpc.toNat
  else if idx = 7 then (match q.fpown with | some i => i + 4 + 8 * b2n (q.top = some i) | none => 0)
  else if idx = 8 then q.evp.toNat
  else if 0x10 ≤ idx && decide (idx < 0x14) then
    (match q.slot (idx - 0x10) with | some sl => 65536 * sl.lim + sl.base | none => 0)
  else if 0x14 ≤ idx && decide (idx < 0x18) then
    (match q.slot (idx - 0x14) with | some sl => sl.sptr | none => 0)
  else 0

/-- CTX_STAT (R108). -/
def Cluster.ctxStat (k : Cluster) : Nat :=
  b2n k.sel.run + 2 * b2n k.sel.halted + 4 * b2n k.sel.cmderr + 8 * b2n k.live + 16 * b2n k.pbank
    + 32 * b2n k.shadow.isSome + 64 * b2n (0 < k.fill) + 128 * b2n (k.role = 2)
    + 256 * k.sel.entry + 65536 * (if k.sel.run then k.sel.plane else 0)

/-! ### Starts and pre-emptions (R193 to R195) -/

/-- Whether a spill area keeps the rules of R190. -/
def spillOk (base lim : Nat) : Bool := decide (base % 64 = 0) && decide (lim % 64 = 0) && decide (base + 192 ≤ lim)

def State.setBelay (s : State) (b : Belay) : State := { s with belay := b }

/-- Starts the counts of a new Belay cycle. -/
def State.rollBelay (s : State) : State :=
  if s.belay.cycle = s.now then s
  else s.setBelay { s.belay with cycle := s.now, taken := [], sends := [], fresh := [], before := [], sentTo := [] }

/-- A change of Belay's record of a sequencer: what it sends in this cycle still goes by the record as the cycle began (R223). -/
def State.changeRec (s : State) (c : Nat) (f : SeqRec → SeqRec) : State :=
  let s := s.rollBelay
  let b := s.belay
  (s.setBelay { b with before := if (sget none b.before c).isSome then b.before else sput none b.before c (some (s.srec c)) }).setSrec c (f (s.srec c))

/-- The sequencer takes the start that waits: a fifth task is refused (R194), a bad spill area ends the task (R190),
else the task enters the lowest free slot on top of the nest and its root frame is allocated. -/
def State.takeStart (s : State) (c : Nat) : State :=
  match (s.seq c).start with
  | none => s
  | some m =>
    let s := s.updSeq c (fun q => { q with start := none })
    let s := s.changeRec c (fun r => { r with sent := false })
    let q := s.seq c
    match (List.range 4).find? (fun i => (q.slot i).isNone) with
    | none => s.sendReq .hub { op := .evt, who := c, prio := 3, evt := some (.refused c m.task) }
    | some i =>
      if !spillOk m.base m.lim then s.sendComp c m.task 0x09 0
      else s.updSeq c (fun q =>
        let q := match q.top.bind (fun j => (q.slot j).map (fun sl => (j, sl))) with
          | some (j, sl) => q.setSlot j (some { sl with pc := q.pc })
          | none => q
        let sl : Slot := { task := m.task, prio := m.prio, pc := m.entry.setWidth 32, frame := none, alloc := true,
                           base := m.base, lim := m.lim, sptr := m.base + 128, args := m.args }
        { (q.setSlot i (some sl)) with nest := i :: q.nest, waiting := false }.allocRoot i)

/-- Whether the sequencer may take a start: it is clocked, at an instruction boundary outside the handler, not held by a
load, and no successor decrement waits at its completion port (R193, R228, R336). -/
def State.mayTake (s : State) (c : Nat) : Bool :=
  let q := s.seq c
  s.clocked c && !q.biv && !q.held && !q.compHeld && q.start.isSome

end Sys2Proof.Machine
end

