-- ==== Sys2Proof/Machine/BelayOps.lean ====
section
/-! DEFINITION. Belay: descriptors, counters, lists, quota, slots and timers (R206 to R239). -/

namespace Sys2Proof.Machine

/-! ### Regions in their own coordinates (R371, R451) -/

/-- Rows of a region as its tenant counts them: lead rows in PAIRED mode (R451). -/
def State.logH (s : State) (g : Region) : Nat := if s.sys.mode = 3 then g.h / 2 else g.h

/-- The cluster of a region-relative index 16 x ry + rx (R371, R418), after a migration the standby (R470). -/
def State.relCluster (s : State) (g : Region) (idx : Nat) : Option Nat :=
  let rx := idx % 16
  let ry := idx / 16
  if rx < g.w && decide (ry < s.logH g) then some (s.redir (clOf (g.x0 + rx) (g.y0 + (if s.sys.mode = 3 then 2 * ry else ry))))
  else none

/-! ### The descriptor (R209) -/

def Task.bits (t : Task) (lo w : Nat) : Nat := fld t.desc.toNat lo w
def Task.entry (t : Task) : Nat := t.bits 128 16
def Task.spbase (t : Task) : Nat := t.bits 144 16
def Task.splim (t : Task) : Nat := t.bits 160 16
def Task.tcl (t : Task) : Nat := t.bits 176 8
def Task.prio (t : Task) : Nat := t.bits 184 4
def Task.rearm (t : Task) : Bool := bit t.desc.toNat 188
def Task.cnote (t : Task) : Nat := t.bits 189 2
def Task.initv (t : Task) : Nat := t.bits 192 16
def Task.delay (t : Task) : Nat := t.bits 208 16
def Task.succ0 (t : Task) : Nat := t.bits 224 16
def Task.succ1 (t : Task) : Nat := t.bits 240 16
def Task.sen (t : Task) : Nat := t.bits 256 2
def Task.cring (t : Task) : Nat := t.bits 264 8

/-- Target sequencer of a task (R209, R470). -/
def State.taskCluster (s : State) (t : Nat) : Option Nat :=
  ((s.regionOfTask t).bind s.region).bind (fun g => s.relCluster g (s.task t).tcl)

/-! ### Cycles, places and owners (R214, R231 to R234) -/

/-- Writes the scheduler trace, in the DEBUG life-cycle state only (R238), into the spill area of the anchor blocks; a Belay cycle is 1 ns,
and a step of the time base takes one. -/
def State.btrace (s : State) (what : Traced) : State :=
  if s.sec.lcs = .debug then
    let n := s.now - s.sys.skipped
    (s.setBelay { s.belay with trace := s.belay.trace ++ [⟨what, n, s.now⟩] }).anchorKeep 256 (64 * s.belay.trace.length)
      ((Config.traceBytes (n :: s.now :: what.code)).take 64)
  else s

/-- A task changes, its state too where the new one differs (R207, R238). -/
def State.putTask (s : State) (t : Nat) (k : Task) : State :=
  let s1 := s.setTask t k
  if (s.task t).st = k.st then s1 else s1.btrace (.state t k.st)

/-- Source group in DETERMINISTIC mode (R455). -/
def srcGroup (src : Nat) : Nat := if src < 256 then 0 else if src < 512 then 1 else if src < 576 then 2 else if src < 1600 then 3 else 4

/-- The owner of the places that an event of a source for a task uses (R232, R234). -/
def State.laneOwner (s : State) (src task : Nat) : Nat :=
  if s.belay.scheme = 1 then srcGroup src
  else if s.belay.scheme = 2 then (((s.regionOfTask task).bind s.region).map (·.ten)).getD 4
  else 0

/-- Owner of a lane in the present slot (R232, R455). -/
def State.laneSlot (s : State) (lane : Nat) : Nat :=
  let slot := s.now % 64
  let e := (sget 0xFF s.belay.laneTab (64 * lane + slot)).toNat
  if e ≠ 0xFF then e else if s.belay.scheme = 1 then (if slot < 60 then slot % 5 else 0x7F) else slot % 4

/-- Owner of a dispatch slot of the present cycle (R234, R455). -/
def State.dispSlot (s : State) (d : Nat) : Nat :=
  let slot := s.now % 64
  let e := (sget 0xFF s.belay.dispTab (64 * d + slot)).toNat
  if e ≠ 0xFF then e else slot % 4

/-- Whether the present Belay cycle is the first of its slice (R233): a slice is one delay tick, and a step of the time base may land inside
one. -/
def State.sliceStarts (s : State) : Bool :=
  decide (s.now % s.belay.tick = 0) || (match s.sys.timeStep with
    | some (a, b) => decide (b = s.now) && decide (a / s.belay.tick < b / s.belay.tick)
    | none => false)

/-- Places that an owner has in the present cycle (R214, R232, R234). -/
def State.lanePlaces (s : State) (o : Nat) : Nat :=
  if s.belay.scheme = 0 then 4 else ((List.range 4).filter (fun l => decide (s.laneSlot l = o))).length
def State.dispPlaces (s : State) (o : Nat) : Nat :=
  if s.belay.scheme = 0 then 2
  else if s.belay.scheme = 1 then (if s.sliceStarts then 2 else 0)
  else ((List.range 2).filter (fun d => decide (s.dispSlot d = o))).length

def State.laneFree (s : State) (o : Nat) : Bool := decide (sget 0 s.belay.taken o < s.lanePlaces o)
def State.takeLane (s : State) (o : Nat) : State :=
  s.setBelay { s.belay with taken := sput 0 s.belay.taken o (sget 0 s.belay.taken o + 1) }

/-! ### Lists (R217 to R219) -/

/-- Puts a task into a list by its entry ordinal. -/
def insertBy (f : Nat → Nat) (t : Nat) : List Nat → List Nat
  | [] => [t]
  | x :: xs => if f t < f x then t :: x :: xs else x :: insertBy f t xs

/-- A task enters the ready list of its priority (R217). -/
def State.makeReady (s : State) (t : Nat) : State :=
  let s := s.rollBelay
  let k := s.task t
  let s := s.putTask t { k with st := .ready, counter := 0, qheld := false, entered := s.belay.entries + 1 }
  let b := s.belay
  s.setBelay { b with entries := b.entries + 1, fresh := t :: b.fresh,
                      ready := sput [] b.ready k.prio (sget [] b.ready k.prio ++ [t]) }

/-- Puts a task into the delay list behind those with the same wake time (R219). -/
def insertDelay (w t : Nat) : List (Nat × Nat) → List (Nat × Nat)
  | [] => [(w, t)]
  | (v, u) :: xs => if w < v then (w, t) :: (v, u) :: xs else (v, u) :: insertDelay w t xs

/-- The first multiple of n at or after x. -/
def upTo (n x : Nat) : Nat := (x + n - 1) / n * n

/-- A task that holds a unit enters the delay list or its ready list (R216, R218). -/
def State.enterList (s : State) (t : Nat) : State :=
  let k := s.task t
  if k.delay = 0 then s.makeReady t
  else
    let w := upTo s.belay.tick (s.now + k.delay * s.belay.tick)
    let s := s.putTask t { k with st := .delayed, counter := 0, qheld := false }
    s.setBelay { s.belay with delay := insertDelay w t s.belay.delay }

/-! ### Quota (R228 to R230) -/

def BRegion.unitFree (b : BRegion) : Bool := decide (b.used < b.quota)

/-- A task takes a unit of its region and enters a list. -/
def State.takeUnit (s : State) (r t : Nat) : State :=
  (s.setBreg r { s.breg r with used := (s.breg r).used + 1 }).enterList t

/-- Puts an event behind those with the same or a lower source index. -/
def insertSrc (e : BEvent) : List BEvent → List BEvent
  | [] => [e]
  | x :: xs => if e.src < x.src then e :: x :: xs else x :: insertSrc e xs

/-- Held events by ascending source index, in their own order within a source (R229). -/
def heldOrder (es : List BEvent) : List BEvent := es.foldl (fun a e => insertSrc e a) []

/-- Retries of all that is held fall due in the next cycle (R229, R230, R433). -/
def State.armRetry (s : State) (r : Nat) : State :=
  let b := s.breg r
  if b.held.isEmpty && b.qheld.isEmpty then s
  else s.setBreg r { b with retry := some { since := s.now, events := heldOrder b.held, tasks := b.qheld } }

/-- What is held in the cycle of a release is retried with the rest (R229). -/
def BRegion.joinRetry (b : BRegion) (now : Nat) (es : List BEvent) (ts : List Nat) : BRegion :=
  match b.retry with
  | some y => if y.since = now then { b with retry := some { y with events := heldOrder (y.events ++ es), tasks := y.tasks ++ ts } } else b
  | none => b

/-- A counter that an arming or a reload leaves at 0 (R216, R230). -/
def State.counterZero (s : State) (r t : Nat) : State :=
  if (s.breg r).unitFree then s.takeUnit r t
  else
    let s := s.putTask t { s.task t with st := .waiting, counter := 0, qheld := true }
    s.setBreg r ({ s.breg r with qheld := (s.breg r).qheld ++ [t] }.joinRetry s.now [] [t])

/-- The pending notices of a mover leave one by one toward their targets, up to the first that waits for an answer (R150,
R164): a queue-notice line answers at once. -/
def State.moverNotices (s : State) (m : Nat) : Nat → State
  | 0 => s
  | n + 1 =>
    let s := s.moverNotices m n
    let v := s.mover m
    match v.onWay, v.notices, v.region.bind s.region with
    | none, x :: rest, some g =>
      let gone := fun (w : Option Notice) => s.setMover m { v with notices := rest, onWay := w }
      if x.nkind = 1 then
        (gone (some x)).sendReq .hub { op := .evt, who := moverInit m, prio := 3
                                       evt := some (.event ⟨512 + m, x.target.toNat, 0, .mover m⟩) }
      else if x.nkind = 2 then
        match s.relCluster g (x.target.toNat / 256) with
        | some c => forAll (s.withTwin c) (fun s c => s.raiseLine c (x.target.toNat % 8)) (gone none)
        | none => gone none
      else
        (gone (some x)).sendReq .hub { op := .evt, who := moverInit m, prio := 3,
                                       evt := some (.notice g.ten { ring := x.target.toNat, kind := .mover, status := x.status, code := 0, id := m, orig := some (.mover m) }) }
    | _, _, _ => s

/-- A mover's notice has been answered: the next leaves. -/
def State.moverAnswered (s : State) (m : Nat) : State :=
  let s := s.setMover m { s.mover m with onWay := none }
  s.moverNotices m (s.mover m).notices.length

/-- Marks the source of a held event, or frees it (R228). -/
def State.holdSource (s : State) (o : Origin) (v : Bool) : State :=
  match o with
  | .comp c => s.updSeq c (fun q => { q with compHeld := v })
  | .queue q => if v then s else s.setQueue q { s.queue q with onWay := none }
  | .mover m => if v then s else s.moverAnswered m
  | .timer t => s.setTimer t { s.timer t with held := v }
  | .host p f consumed =>
    let u := s.func p f
    s.setFunc p f { u with sigHeld := v, sigDone := !v && !consumed }

/-- A decrement (R212, R213, R216): whether it is accepted, and the state. -/
def State.decrement (s : State) (e : BEvent) : Bool × State :=
  match s.regionOfTask e.task with
  | none => (true, s)
  | some r =>
    let k := s.task e.task
    let b := s.breg r
    if k.st = .free || decide (k.st = .dormant) then (true, s.setBreg r { b with drop := satAdd b.drop 1 0xFFFF })
    else if k.counter = 0 then
      if k.excess = 65535 then (true, s.setBreg r { b with exsat := true })
      else (true, s.setTask e.task { k with excess := k.excess + 1 })
    else if 1 < k.counter then (true, s.setTask e.task { k with counter := k.counter - 1 })
    else if b.unitFree then (true, s.takeUnit r e.task)
    else (false, s.setBreg r { b with qblk := satAdd b.qblk 1 0xFFFF })

/-- Holds an event for its region (R228). -/
def State.holdEvent (s : State) (e : BEvent) : State :=
  match s.regionOfTask e.task with
  | some r => (s.setBreg r ({ s.breg r with held := (s.breg r).held ++ [e] }.joinRetry s.now [e] [])).holdSource e.orig true
  | none => s

/-- What events keep their order with (R214): a source index, for task signals the submission ring (R229). -/
def BEvent.line (e : BEvent) : Nat := match e.orig with
  | .comp c => c
  | .queue q => 256 + q / 128
  | .mover m => 512 + m
  | .timer t => 576 + t
  | .host p f _ => 1600 + 65 * p + f

/-- Whether Belay holds an event of a line (R228). -/
def State.lineHeld (s : State) (l : Nat) : Bool := s.belay.regions.any (fun r => r.2.held.any (fun e => decide (e.line = l)))

/-- Inserts waiting work in the order of R214, behind what arrived before it. -/
def workKey : Work → Nat × Nat
  | .event e => (e.arrival, e.src)
  | .comp c => (c.arrival, c.cl)

def insertWork (w : Work) : List Work → List Work
  | [] => [w]
  | x :: xs =>
    if (workKey w).1 < (workKey x).1 || (decide ((workKey w).1 = (workKey x).1) && decide ((workKey w).2 < (workKey x).2))
    then w :: x :: xs else x :: insertWork w xs

/-- An event or a completion reaches Belay. -/
def State.belayGets (s : State) (w : Work) : State := s.setBelay { s.belay with work := insertWork w s.belay.work }

/-- The retries of a region that are still to come in the present cycle, as events and quota-held tasks: of an event that follows a
held one of its line none is tried before that (R214, R229, R230). -/
def State.retries (s : State) (r : Nat) : List BEvent × List Nat :=
  match (s.breg r).retry with
  | some y => if y.since < s.now then
      (y.events.filter (fun e => (s.breg r).held.contains e && decide ((heldOrder (s.breg r).held).find? (fun x => decide (x.line = e.line)) = some e)),
       y.tasks.filter (fun t => (s.breg r).qheld.contains t))
    else ([], [])
  | none => ([], [])

/-- The owners of places that the retries of a region wait for: its events come before its quota-held tasks. -/
def State.retryOwners (s : State) (r : Nat) : List Nat :=
  match s.retries r with
  | ([], ts) => ts.map (s.laneOwner 0)
  | (es, _) => es.map (fun e => s.laneOwner e.src e.task)

/-- Whether a retry goes before the waiting events of an owner of places (R214, R229, R232). -/
def State.retriesFirst (s : State) (o : Nat) : Bool := (s.belay.regions.map (·.1)).any (fun r => (s.retryOwners r).contains o)

/-- Whether a task of the delay list is to leave it in the present cycle (R219, R234). -/
def State.wakes (s : State) (e : Nat × Nat) : Bool :=
  decide (e.1 ≤ s.now) && (decide (s.belay.scheme ≠ 2) || decide (0 < s.lanePlaces (s.laneOwner 0 e.2)))

/-- Whether delay expiries are due in the present cycle (R215). -/
def State.expiryDue (s : State) : Bool := s.belay.delay.any s.wakes

def Work.owner (s : State) : Work → Nat
  | .event e => s.laneOwner e.src e.task
  | .comp c => s.laneOwner c.cl c.task

def Work.line : Work → Nat
  | .event e => e.line
  | .comp c => c.cl

/-- The waiting item that Belay takes next: the first whose owner has a place left (R214, R232, R234) and whose source has no event held
(R228), while neither an expiry nor a retry goes before it. -/
def State.nextWork (s : State) : Option (Nat × Work) :=
  if s.expiryDue then none
  else ((s.belay.work.zipIdx).find? (fun (w, _) => s.laneFree (w.owner s) && !s.retriesFirst (w.owner s) && !s.lineHeld w.line)).map
    (fun (w, i) => (i, w))

/-- Removes a waiting item and takes its place. -/
def State.takeWork (s : State) (i : Nat) (w : Work) : State :=
  (s.setBelay { s.belay with work := s.belay.work.eraseIdx i }).takeLane (w.owner s)

/-! ### Timers (R220, R221) -/

/-- A timer's region, when its RGN names one. -/
def Timer.region (t : Timer) : Option Nat := if bit t.rgn.toNat 7 then none else some (t.rgn.toNat % 64)

/-- The due time of a timer that has come. -/
def State.timerDue (s : State) (i : Nat) : Option Nat :=
  let t := s.timer i
  if t.periodNs = 0 || decide (s.now < t.due) || t.region.isNone then none else some t.due

/-! ### Actions that a step of the time base skips (R34) -/

/-- The tick of a commit that the cluster's own edge may take now (R33, R100): it has a shadow to commit, and its clock runs. -/
def State.commitTick (s : State) (c : Nat) : Option Nat :=
  match (s.cl c).shadow, (s.cl c).commitAt with
  | some h, some t =>
    if t ≤ s.now && s.islandRuns c && (s.cl c).repair.isNone && decide (h.role ≠ 2) && !s.isTwin c then some t else none
  | _, _ => none

/-- The repair tick at which a cluster may enter its repair pause now (R104). -/
def State.repairTick (s : State) (c : Nat) : Option Nat :=
  match (s.cl c).repair with
  | some r => if r.tick ≤ s.now && s.islandRuns c && decide ((s.cl c).pause = 0) then some r.tick else none
  | none => none

/-- Ticks of the scheduled actions that can take effect now. -/
def State.dueTicks (s : State) : List Nat :=
  (s.cls.map (·.1)).filterMap s.commitTick ++ (s.cls.map (·.1)).filterMap s.repairTick ++ (s.belay.delay.filter s.wakes).map (·.1)
    ++ (s.belay.timers.map (·.1)).filterMap s.timerDue

/-- Whether an action scheduled at a tick may take effect: of those that one step of the time base has skipped, the earlier come
first (R34). -/
def State.inOrder (s : State) (t : Nat) : Bool :=
  match s.sys.timeStep with
  | some (a, b) => !(decide (a < t) && decide (t ≤ b) && s.dueTicks.any (fun u => decide (a < u) && decide (u < t)))
  | none => true

/-- A write of a timer block (R239): the PERIOD register, or the one with RGN and TASK. -/
def State.timerWrite (s : State) (i : Nat) (second : Bool) (v : Reg) : State :=
  let t := s.timer i
  let rgn := fld v.toNat 16 8
  if t.region.isSome && decide (t.period ≠ 0) && (second || decide (v ≠ 0)) then s
  else if second then
    s.setTimer i { t with rgn := if rgn < 64 || decide (128 ≤ rgn) then BitVec.ofNat 8 rgn else t.rgn,
                          task := BitVec.ofNat 16 v.toNat }
  else if v = 0 then s.setTimer i { t with period := 0, due := 0, periodNs := 0 }
  else
    let ns := v.toNat * s.belay.tick
    s.setTimer i { t with period := v.toNat, due := upTo s.belay.tick (s.now + ns), periodNs := ns }

/-! ### Task commands (R208) -/

def State.taskWrite (s : State) (t : Nat) (d : BitVec 272) : State :=
  s.putTask t { s.task t with st := .dormant, counter := 0, excess := 0, desc := d }
def State.taskArm (s : State) (t : Nat) : State :=
  let k := s.task t
  if k.initv = 0 then match s.regionOfTask t with
    | some r => s.counterZero r t
    | none => s
  else s.putTask t { k with st := .waiting, counter := k.initv }
def State.taskRemove (s : State) (t : Nat) : State :=
  let s := match s.regionOfTask t with
    | some r => s.setBreg r { s.breg r with qheld := (s.breg r).qheld.filter (fun x => decide (x ≠ t)) }
    | none => s
  s.putTask t { s.task t with st := .free, counter := 0, excess := 0, qheld := false, desc := 0 }

/-! ### Candidates (R222 to R224) -/

/-- The candidate of a sequencer at the start of the cycle. -/
def State.candidate (s : State) (c : Nat) : Option (Nat × Nat) :=
  ((List.range 16).reverse).findSome? (fun p =>
    ((sget [] s.belay.ready p).find? (fun t => !s.belay.fresh.contains t && decide (s.taskCluster t = some c))).map (fun t => (p, t)))

/-- Belay's record of a sequencer as it stood at the start of the cycle (R223). -/
def State.recAt (s : State) (c : Nat) : SeqRec := (sget none s.belay.before c).getD (s.srec c)

/-- Whether Belay may send to a sequencer a candidate of priority p (R223, R336, R453, R475). -/
def State.maySend (s : State) (c p t : Nat) : Bool :=
  let r := s.recAt c
  let top := r.tasks.head?
  let stopped := match (s.regionOfTask t).bind s.region with
    | some g => g.stop.isSome
    | none => true
  let draining := match s.sys.change with
    | some ch => decide (1 < ch.step)
    | none => false
  !s.belay.sentTo.contains c && !r.sent && !(s.seq c).held && !stopped && !draining && !s.isTwin c &&
  decide (r.tasks.length < 4) && (match top with | none => true | some (_, q) => decide (q < p))

/-- Owner of the dispatch slots that a task uses. -/
def State.dispOwner (s : State) (t : Nat) : Nat := if s.belay.scheme = 2 then s.laneOwner 0 t else 0

/-- A candidate that may be sent in the present cycle, as sequencer, priority and task. -/
def State.sendable (s : State) (c : Nat) : Option (Nat × Nat) :=
  match s.candidate c with
  | some (p, t) => if s.maySend c p t && decide (sget 0 s.belay.sends (s.dispOwner t) < s.dispPlaces (s.dispOwner t)) then some (p, t) else none
  | none => none

/-- What an owner of dispatch slots sends next: the highest priority first, then the default tie rule (R224). -/
def State.ownSend (s : State) (o : Nat) (all : List (Nat × Nat × Nat)) : Option (Nat × Nat × Nat) :=
  let best := all.foldl (fun m (_, p, _) => max m p) 0
  (rrPick 256 (sget 0 s.belay.ptr (16 * o + best)) (fun c => all.any (fun (d, p, _) => decide (d = c) && decide (p = best)))).bind
    (fun c => all.find? (fun (d, _, _) => decide (d = c)))

/-- What Belay sends next: each owner of dispatch slots sends by itself, so that no tenant's sends touch another's (R224, R234). -/
def State.nextSend (s : State) : Option (Nat × Nat × Nat) :=
  let all := (((s.belay.ready.flatMap (·.2)).filterMap s.taskCluster).eraseDups).filterMap (fun c => (s.sendable c).map (fun (p, t) => (c, p, t)))
  (List.range 5).findSome? (fun o => s.ownSend o (all.filter (fun (_, _, t) => decide (s.dispOwner t = o))))

/-- The task that a message of Belay or to Belay concerns. -/
def EvtMsg.task : EvtMsg → Option Nat
  | .event e => some e.task
  | .comp c => some c.task
  | .start _ m => some m.task
  | .refused _ t => some t
  | .notice _ _ => none

/-- Region release at Belay (R235): the tasks, their records, their lists, their events, waiting, held or on their way, and their timers. -/
def State.belayRelease (s : State) (r : Nat) : State :=
  let b := s.breg r
  let mine := fun t => decide (b.base ≤ t) && decide (t < b.base + b.count)
  let s : State := forAll ((s.belay.tasks.filter (fun p => mine p.1 && decide (p.2.st ≠ .free))).map (·.1)) (fun s t => s.btrace (.state t .free)) s
  let x := s.belay
  let lost := fun (w : Work) => match w with
    | .event e => mine e.task
    | .comp c => mine c.task
  let s : State := { s with noc := { s.noc with packets := s.noc.packets.map (fun p => if ((p.evt.bind (·.task)).map mine).getD false then { p with evt := none } else p) } }
  let s := s.setBelay { x with
    tasks := sclear x.tasks b.base (b.base + b.count)
    ready := (x.ready.map (fun (p, l) => (p, l.filter (fun t => !mine t)))).filter (fun p => !p.2.isEmpty)
    delay := x.delay.filter (fun e => !mine e.2)
    work := x.work.filter (fun w => !lost w)
    recs := x.recs.filter (fun p => !p.2.tasks.any (fun e => mine e.1))
    before := x.before.filter (fun p => !(p.2.map (fun q => q.tasks.any (fun e => mine e.1))).getD false)
    timers := (x.timers.map (fun (i, t) => (i, if t.region = some r then { rgn := 0x80, miss := t.miss } else t))).filter (fun p => decide (p.2 ≠ {})) }
  let events := b.held ++ x.work.filterMap (fun w => match w with
    | .event e => if mine e.task then some e else none
    | .comp _ => none)
  let s := events.foldl (fun s e => match e.orig with
    | .host p f _ => s.setFunc p f { s.func p f with sigHeld := false, sigBy := none }
    | _ => s) s
  s.setBreg r {}

end Sys2Proof.Machine
end

