-- ==== Sys2Proof/Machine/Belay.lean ====
section
/-! DEFINITION. The commands of Belay (R211 to R239). -/

namespace Sys2Proof.Machine

/-- The successor decrements of a completion that follow a refused one wait with it at the completion port (R228). -/
def State.holdRest (s : State) (e : BEvent) : State :=
  let rest := s.belay.work.filterMap (fun w => match w with
    | .event x => if e.src < 256 && decide (x.orig = e.orig) then some x else none
    | .comp _ => none)
  rest.foldl State.holdEvent (s.setBelay { s.belay with work := s.belay.work.filter (fun w => match w with
    | .event x => !rest.contains x
    | .comp _ => true) })

/-- An event that Belay takes: its decrement, or its hold for quota (R212, R216, R228). -/
def State.takeEvent (s : State) (e : BEvent) : State :=
  let (ok, s) := s.decrement e
  let s := s.btrace (.event e.src e.task ok)
  if ok then s.holdSource e.orig false else (s.holdEvent e).holdRest e

/-- The successor decrements that a completion applies (R226 step 3). -/
def compEvents (t : Task) (c : Comp) : List Work :=
  (if bit t.sen 0 then [.event ⟨c.cl, t.succ0, c.arrival, .comp c.cl⟩] else []) ++
  (if bit t.sen 1 then [.event ⟨c.cl, t.succ1, c.arrival, .comp c.cl⟩] else [])

/-- The completion notice of R226 step 4. -/
def State.compNotice (s : State) (r : Nat) (t : Task) (c : Comp) : State :=
  if t.cnote = 2 || (decide (t.cnote = 1) && decide (c.status ≠ 0)) then
    match s.region r with
    | some g => { s with noc := { s.noc with hostNotices := s.noc.hostNotices ++
        [(g.ten, { ring := t.cring, kind := .task, status := c.status, code := c.code, id := c.task, orig := none })] } }
    | none => s
  else s

/-- Belay's record loses a task (R223). -/
def State.dropRec (s : State) (c t : Nat) : State :=
  s.changeRec c (fun r => { r with tasks := r.tasks.filter (fun e => decide (e.1 ≠ t)) })

/-- The processing of a completion (R226); the successor decrements wait at the front. -/
def State.processComp (s : State) (c : Comp) : State :=
  let s := s.dropRec c.cl c.task
  match s.regionOfTask c.task with
  | none => s
  | some r =>
    let k := s.task c.task
    if k.st ≠ .resident then s
    else
      let b := s.breg r
      let s := s.setBreg r { b with used := b.used - 1, fail := if c.status = 0 then b.fail else satAdd b.fail 1 0xFFFFFFFF }
      let s := s.armRetry r
      let s := s.compNotice r k c
      let s := s.btrace (.completion c.cl c.task)
      let s :=
        if c.status = 0 && k.rearm then
          let d := min k.initv k.excess
          let s := s.putTask c.task { k with st := .waiting, counter := k.initv - d, excess := k.excess - d }
          if k.initv = d then s.counterZero r c.task else s
        else s.putTask c.task { k with st := .dormant, counter := 0, excess := 0 }
      if c.status = 0 then s.setBelay { s.belay with work := compEvents k c ++ s.belay.work } else s

/-- Expired tasks enter the ready lists in list order (R219). -/
def State.expire (s : State) : State :=
  let due := fun (e : Nat × Nat) => s.wakes e && s.inOrder e.1
  let ts := (s.belay.delay.filter due).map (·.2)
  forAll ts (fun s t => (s.btrace (.delayExpiry t)).makeReady t) (s.setBelay { s.belay with delay := s.belay.delay.filter (fun e => !due e) })

/-- A timer reaches its due time (R220, R221, R228). -/
def State.timerFires (s : State) (i : Nat) : State :=
  let t := s.timer i
  if (s.timerDue i).isNone || !s.inOrder t.due then s
  else
    let n := (s.now - t.due) / t.periodNs
    let t' := { t with due := t.due + (n + 1) * t.periodNs, miss := satAdd t.miss (n + b2n t.held) 0xFFFF }
    let s := (s.setTimer i t').btrace (.timerExpiry i)
    if t.held then s
    else s.belayGets (.event ⟨576 + i, t.task.toNat, s.now, .timer i⟩)

/-- An event or a task that has been retried is not tried again before the next release. -/
def BRegion.tried (b : BRegion) (e : Option BEvent) (t : Option Nat) : BRegion :=
  { b with retry := b.retry.map (fun y => { y with events := y.events.filter (fun x => decide (some x ≠ e)), tasks := y.tasks.filter (fun x => decide (some x ≠ t)) }) }

/-- A held event is retried (R229): accepted, its source goes on; refused, it stays held, and so do those of its line behind it. -/
def State.retryEvent (s : State) (r : Nat) (e : BEvent) : State :=
  let s := s.takeLane (s.laneOwner e.src e.task)
  let (ok, s) := s.decrement e
  let s := s.btrace (.event e.src e.task ok)
  let b := s.breg r
  if ok then
    let rest := b.held.erase e
    let s := s.setBreg r ({ b with held := rest }.tried (some e) none)
    if rest.any (fun x => decide (x.orig = e.orig)) then s else s.holdSource e.orig false
  else s.setBreg r { b with retry := b.retry.map (fun y => { y with events := y.events.filter (fun x => decide (x.line ≠ e.line)) }) }

/-- A quota-held task is retried (R230). -/
def State.retryTask (s : State) (r t : Nat) : State :=
  let s := s.takeLane (s.laneOwner 0 t)
  let b := (s.breg r).tried none (some t)
  if b.unitFree then (s.setBreg r { b with qheld := b.qheld.erase t }).takeUnit r t
  else s.setBreg r { b with qblk := satAdd b.qblk 1 0xFFFF }

/-- The next retry of a region (R229, R230), after the expiries of the cycle: a held event whose owner has a place, or after the events a
quota-held task. -/
def State.retryOne (s : State) (r : Nat) : State :=
  if s.expiryDue then s
  else match s.retries r with
    | ([], ts) => match ts.find? (fun t => s.laneFree (s.laneOwner 0 t)) with
      | some t => s.retryTask r t
      | none => s
    | (es, _) => match es.find? (fun e => s.laneFree (s.laneOwner e.src e.task)) with
      | some e => s.retryEvent r e
      | none => s

/-- Belay sends a start or pre-emption (R223 to R225). -/
def State.sendStart (s : State) (c p t : Nat) : State :=
  let k := s.task t
  let b := s.belay
  let o := s.dispOwner t
  let s := s.putTask t { k with st := .resident }
  let s := s.setBelay { s.belay with
    ready := sput [] b.ready p ((sget [] b.ready p).filter (fun x => decide (x ≠ t)))
    ptr := sput 0 b.ptr (16 * o + p) ((c + 1) % 256)
    sends := sput 0 b.sends o (sget 0 b.sends o + 1)
    sentTo := c :: b.sentTo }
  let s := s.changeRec c (fun r => { tasks := (t, p) :: r.tasks, sent := true })
  let s := match s.regionOfTask t with
    | some r => s.setBreg r { s.breg r with disp := satAdd (s.breg r).disp 1 0xFFFFFFFF }
    | none => s
  let m : StartMsg := { task := t, prio := p, entry := BitVec.ofNat 16 k.entry, base := k.spbase, lim := k.splim,
                        args := (List.range 4).map (fun i => BitVec.ofNat 32 (k.bits (32 * i) 32)) }
  (s.sendReq (.array c 0) { op := .evt, who := belayId, prio := 3, evt := some (.start c m) }).btrace (.send c t)

/-- A start that a full sequencer has refused returns to its list (R194). -/
def State.startRefused (s : State) (c t : Nat) : State :=
  let k := s.task t
  let s := s.dropRec c t
  if k.st ≠ .resident then s
  else
    let s := s.putTask t { k with st := .ready }
    let b := s.belay
    s.setBelay { b with ready := sput [] b.ready k.prio (insertBy (fun x => (s.task x).entered) t (sget [] b.ready k.prio)),
                        fresh := t :: b.fresh }

/-- DEPENDENCE_DECREMENT (R212). -/
def execDependenceDecrement (s : State) : Host.Outcome State Fault Refusal :=
  act s fun s =>
    let s := s.rollBelay
    match s.nextWork with
    | some (i, .event e) => (s.takeWork i (.event e)).takeEvent e
    | _ => s

/-- COMPLETION_PROCESSING (R226). -/
def execCompletionProcessing (s : State) : Host.Outcome State Fault Refusal :=
  act s fun s =>
    let s := s.rollBelay
    match s.nextWork with
    | some (i, .comp c) => (s.takeWork i (.comp c)).processComp c
    | _ => s

/-- DELAY_EXPIRY (R219). -/
def execDelayExpiry (s : State) : Host.Outcome State Fault Refusal := act s fun s => s.rollBelay.expire

/-- TIMER_EXPIRY (R220). -/
def execTimerExpiry (t : TmrId) (s : State) : Host.Outcome State Fault Refusal := act s (·.timerFires t.val)

/-- HELD_EVENT_RETRY (R229). -/
def execHeldEventRetry (r : RgId) (s : State) : Host.Outcome State Fault Refusal := act s fun s => s.rollBelay.retryOne r.val

/-- DISPATCH (R223): one send. -/
def execDispatch (s : State) : Host.Outcome State Fault Refusal :=
  act s fun s =>
    let s := s.rollBelay
    match s.nextSend with
    | some (c, p, t) => s.sendStart c p t
    | none => s

/-- BLY_TMR_WRITE (R239): firmware only. -/
def execBlyTmrWrite (who : InitId) (t : TmrId) (second : Bool) (v : Reg) (s : State) : Host.Outcome State Fault Refusal :=
  act s fun s => if who.val = fwId then s.timerWrite t.val second v else s.emit (.regValue none)

end Sys2Proof.Machine
end

