-- ==== Sys2Proof/Machine/Hbm.lean ====
section
/-! DEFINITION. HBM: address orders, access rights, keys and bytes (R280 to R290, R372 to R375). -/

namespace Sys2Proof.Machine

/-- Bytes of an allocation unit (R371). -/
def unitBytes : Nat := 0x8000000

/-- A DRAM location (R283): the PC as 32 x stack + P, SID, row, bank K and burst C. -/
structure Loc where
  pc : Nat
  sid : Nat
  row : Nat
  bank : Nat
  col : Nat
  deriving DecidableEq, Repr

/-- The location of a physical address under an address order; slice 8 is always SEQ-LOCAL (R283, R284). -/
def hbmLoc (order addr : Nat) : Loc :=
  let a := addr % stackBytes
  let h := a / 2 ^ 32
  let l := a % 2 ^ 32
  let o := if h = 8 then 0 else order
  let p := if o < 2 then fld l 27 5 else fld l 8 5
  let rl := if o < 2 then fld l 14 13 else fld l 19 13
  let k := if o = 0 then fld l 10 4 else if o = 1 then fld l 5 4 else if o = 2 then fld l 13 4
    else fld l 13 4 ^^^ fld l 19 4
  let c := if o = 0 then fld l 5 5 else if o = 1 then fld l 9 5 else 8 * fld l 17 2 + fld l 5 3
  ⟨32 * (addr / stackBytes) + p, h % 3, (h / 3) * 8192 + rl, k, c⟩

def State.hbmLoc (s : State) (addr : Nat) : Loc := Machine.hbmLoc (s.stack (addr / stackBytes)).order.toNat addr

/-- Whether an address lies in an anchor block (R288). -/
def inAnchor (addr : Nat) : Bool :=
  let b := addr % stackBytes / unitBytes
  decide (b = 256) || decide (b = 272)

/-- Whether an address lies in a training area: the last 16 KiB of a slice-8 block (R289). -/
def inTraining (addr : Nat) : Bool :=
  decide (256 ≤ addr % stackBytes / unitBytes) && decide (0x7FFC000 ≤ addr % unitBytes)

/-- The reserved area (R289). -/
def reserved (addr : Nat) : Bool := inAnchor addr || inTraining addr

/-- Anchor PCs: channel 0 PC 0 and channel 8 PC 0 of each stack (R288). -/
def anchorPc (p : Nat) : Bool := decide (p % 32 = 0) || decide (p % 32 = 16)

/-- The key slot of the unit of an address (R374); none for a free unit. -/
def State.unitTag (s : State) (addr : Nat) : Option Nat := sget none s.sec.units (addr / unitBytes)

/-- The key under which the bytes of an address are stored (R369, R374). -/
def State.unitKey (s : State) (addr : Nat) : List Byte :=
  if inAnchor addr then (s.key 7).getD []
  else match s.unitTag addr with
    | some 64 => (s.key 96).getD []
    | some k => (s.key (32 + k)).getD []
    | none => []

/-- What a byte not written reads as: what training left in a training area (R308), or the decryption of stored zeros (R375). -/
def State.hbmBlank (s : State) (a : Nat) : Byte :=
  let n := (s.pc (s.hbmLoc a).pc).trained
  if inTraining a && decide (0 < n) then Config.trainPattern n a else Config.unwritten (s.unitKey a) a

/-- The byte at a physical address. -/
def State.hbmByte (s : State) (a : Nat) : Byte := (memGet s.hbm.mem a).getD (s.hbmBlank a)

def State.hbmRead (s : State) (a n : Nat) : List Byte := (List.range n).map (fun i => s.hbmByte (a + i))
def State.hbmWrite (s : State) (a : Nat) (bs : List Byte) : State :=
  { s with hbm := { s.hbm with mem := memPuts s.hbm.mem a bs } }

/-- Zero-fills a range (R379, R380). -/
def State.hbmErase (s : State) (lo hi : Nat) : State := { s with hbm := { s.hbm with mem := memErase s.hbm.mem lo hi } }

/-- The address of the other PC of a mirrored pair that holds the copy of an address's byte (R314, log 27). -/
def mirrorAddr (a : Nat) : Nat := if a / stackBytes % 2 = 0 then a + stackBytes else a - stackBytes

/-- A byte as the other PC of a mirrored pair holds it (R314): the same stored bytes under the same key. -/
def State.mirrorByte (s : State) (a : Nat) : Byte := (memGet s.hbm.mem (mirrorAddr a)).getD (s.hbmBlank a)

/-- Status with which a controller and its encryption engine answer a request (R286, R289, R313, R374, R448): 0 where it
is performed. -/
def State.hbmStatus (s : State) (who addr n : Nat) : Nat :=
  if addr / 256 ≠ (addr + n - 1) / 256 then 3
  else if reserved addr && !(decide (who = fwId) || decide (who = loaderId) || decide (who = belayId)) then 3
  else if !reserved addr && (s.unitTag addr).isNone then 3
  else if s.sys.dstate = .faultSafe then 5
  else if (s.stack (addr / stackBytes)).moving then 5
  else match (s.pc (s.hbmLoc addr).pc).st with
    | .out => 5
    | .service | .degraded => 0
    | .frozen | .retired => 4

/-- Whether the engine counts an access as one to a free unit (R383). -/
def State.hbmDenies (s : State) (addr n : Nat) : Bool :=
  decide (addr / 256 = (addr + n - 1) / 256) && !reserved addr && (s.unitTag addr).isNone

/-- Adds a denied access to SEC_XSTAT. -/
def State.deny (s : State) (addr : Nat) : State :=
  let i := addr / stackBytes
  s.setStack i { s.stack i with deny := satAdd (s.stack i).deny 1 0xFFFF }

/-- Router of the controller of a PC, and its channel index 16 x stack + channel. -/
def pcChan (p : Nat) : Nat := p / 2
def pcRouter (p : Nat) : Nat := hbmRouter (p / 32) (p % 32 / 2)

/-- DATA of a PC's event-log entries (R481). -/
def pcData (p : Nat) : Nat := (p / 32) * 2 ^ 24 + (p % 32 / 2) * 2 ^ 16 + (p % 2) * 2 ^ 8

/-- Physical addresses of the nine blocks of a PC under SEQ-LOCAL or BANK-SPREAD (R284). -/
def pcBlocks (p : Nat) : List Nat :=
  (List.range 9).map (fun h => (p / 32) * stackBytes + h * 2 ^ 32 + (p % 32) * unitBytes)

/-- The partner of a PC in mirroring (R314). -/
def pcPartner (p : Nat) : Nat := if p / 32 % 2 = 0 then p + 32 else p - 32

/-- Copies the bytes of a PC into its partner (R314, R441). -/
def State.copyPc (s : State) (p : Nat) : State :=
  (pcBlocks p).foldl (fun s b =>
    let n := if inTraining (b + unitBytes - 1) then unitBytes - 0x4000 else unitBytes
    let mine := s.hbm.mem.filter (fun c => decide (b ≤ c.1) && decide (c.1 < b + n))
    let s := s.hbmErase (mirrorAddr b) (mirrorAddr b + n)
    mine.foldl (fun s c => s.hbmWrite (mirrorAddr c.1) [c.2]) s) s

/-! ### What a PC holds (R287 to R294, R319) -/

/-- Controller cycles of a time in tenths of ns at the clock of a stack, rounded up (R281, R317). -/
def hcyc (fast : Bool) (t : Nat) : Nat := (t * (if fast then 115 else 80) + 999) / 1000

/-- Records a command in the trace of a PC, newest first; from a freeze until RESUME the trace holds (R319). -/
def Pc.note (p : Pc) (c : HCmd) : Pc := if p.held then p else { p with trace := (c :: p.trace).take 64 }

def State.det (s : State) : Bool := decide (s.sys.mode = 2)

def Pc.reqOf (p : Pc) (n : Nat) : Option HReq := p.queue.find? (fun r => decide (r.sub = n))

/-- Requests queued for the row of a location, oldest first. -/
def State.sameRow (s : State) (p : Pc) (l : Loc) : List HReq :=
  p.queue.filter (fun r => let m := s.hbmLoc (r.bursts.headD 0); decide (m.sid = l.sid) && decide (m.bank = l.bank) && decide (m.row = l.row))

/-- The requests that an activation serves (R294): those that joined before its first column command, up to 8. -/
def State.merged (s : State) (p : Pc) (a : Activation) : List Nat :=
  if a.closed || s.det then a.subs
  else ((s.sameRow p ⟨0, a.sid, a.row, a.bank, 0⟩).map (·.sub)).take 8

/-- The PC whose port holds a request. -/
def HReq.home (r : HReq) (i : Nat) : Nat :=
  match r.role with
  | .own => i
  | .copy h => h
  | .instead h => h

/-- Precharge of a row whose activation serves nothing any more (R293). -/
def Pc.precharge (p : Pc) (fast : Bool) (a : Activation) : Pc :=
  let key := 16 * a.sid + a.bank
  { p.note { stamp := p.cycle, cmd := 6, sid := a.sid, bank := a.bank, row := a.row } with
    acts := p.acts.erase a, bankFree := sput 0 p.bankFree key (max (sget 0 p.bankFree key) (p.cycle + hcyc fast 140)) }

/-- A PC without some sub-requests; a row that serves none any more closes. -/
def State.without (s : State) (i : Nat) (f : HReq → Bool) : State :=
  let p := s.pc i
  let p := { p with queue := p.queue.filter (fun r => !f r), entering := p.entering.filter (fun r => !f r) }
  s.setPc i ((p.acts.filter (fun a => !(s.merged p a).any (fun n => (p.reqOf n).isSome))).foldl (fun p a => p.precharge (s.stack (i / 32)).rate a) p)

/-- A PC forgets its open requests, with their sub-requests here and at the other PC of its pair. -/
def State.clearPc (s : State) (i : Nat) : State :=
  let f := fun (j : Nat) (r : HReq) => decide (r.home j = i)
  ((s.setPc i { s.pc i with opens := [], leaving := (s.pc i).leaving.filter (fun e => decide (e.2.1 ≠ i)) }).without i (f i)).without (pcPartner i) (f (pcPartner i))

/-! ### Absorb mode of a PC (R267) -/

/-- Whether absorb mode answers a request to a PC as dead (R267). -/
def State.pcDead (s : State) (p : Nat) : Bool := bit (s.router (pcRouter p)).pcdead.toNat (p % 2)

/-- Sets or clears PCDEAD of a PC at a packet boundary (R267, R269, R272). -/
def State.setPcDead (s : State) (p : Nat) (v : Bool) : State := s.pendRouter (pcRouter p) (.pcDead (p % 2) v)

end Sys2Proof.Machine
end

