-- ==== Sys2Proof/Machine/Noc.lean ====
section
/-! DEFINITION. The network: initiators and tags, translation, firewall, absorb mode, responses (R240 to R279, R371). -/

namespace Sys2Proof.Machine

/-! ### Tags and timeouts (R263 to R266) -/

def Init.tagOf (i : Init) (t : Nat) : Tag := sget {} i.tags t
def Init.setTagOf (i : Init) (t : Nat) (v : Tag) : Init := { i with tags := sput {} i.tags t v }

/-- The first generation after GEN whose owed bit is 0 (R265). -/
def Tag.nextGen (t : Tag) : Option (BitVec 2) :=
  [1, 2, 3].findSome? (fun d => let g := (t.gen.toNat + d) % 4; if bit t.owed.toNat g then none else some (BitVec.ofNat 2 g))

/-- The hold of a quarantined tag ends: it returns, if a generation is free, and is held for lack of one otherwise (R265). -/
def Tag.leave (t : Tag) : Tag :=
  match t.nextGen with
  | some g => { t with st := .free, gen := g, stuck := false }
  | none => { t with stuck := true }

/-- Bin of a latency (R276). -/
def latBin (n : Nat) : Nat := if n < 64 then 0 else if 4096 ≤ n then 7 else Nat.log2 n - 5

/-- Statistics of a response that arrives for its request (R276). -/
def Init.countResp (i : Init) (lat words : Nat) : Init :=
  { i with words := satAdd i.words words 0xFFFFFFFF, lmax := max i.lmax lat,
           hist := sput 0 i.hist (latBin lat) (satAdd (sget 0 i.hist (latBin lat)) 1 0xFFFFFFFF) }

/-- The time at which a hold of TOUS microseconds that starts at a time ends, in steps of 64 ns (R263). -/
def Init.expiry (i : Init) (start : Nat) : Nat := upTo 64 (start + 1000 * i.tous)

def Init.nFree (n : Nat) (i : Init) : Nat := n - (i.tags.filter (fun p => decide (p.2.st ≠ .free))).length
def Init.nBusy (i : Init) : Nat := (i.tags.filter (fun p => decide (p.2.st = .busy))).length
def Init.nQuar (i : Init) : Nat := (i.tags.filter (fun p => decide (p.2.st = .quar))).length
def Init.nStuck (now : Nat) (i : Init) : Nat :=
  (i.tags.filter (fun p => decide (p.2.st = .quar) && p.2.nextGen.isNone && (p.2.stuck || decide (i.expiry p.2.since ≤ now)))).length

/-! ### Routers: absorb mode and changes at a packet boundary (R267 to R272) -/

def Router.absOf (r : Router) (p : Nat) : BitVec 2 := sget 0 r.abs p

/-- A posted request is discarded (R268, R270). -/
def State.pdrop (s : State) (r : Nat) : State := let x := s.router r; s.setRouter r { x with pdrop := satAdd x.pdrop 1 0xFFFF }

/-- Islands whose local ports are open. -/
def State.openCluster (s : State) (c : Nat) : Bool :=
  s.islOn (islandOf c) && s.islSvc (islandOf c) && decide (s.fenceOf (islandOf c) = .none)

/-- Whether an initiator may send new requests: it exists, its island is not fenced, no mode change drains it, and it is
no twin (R270, R452, R453). -/
def State.maySendReq (s : State) (i : Nat) : Bool :=
  let known := isCluster i || isMover i || isHost i || isHub i || (decide (0x220 ≤ i) && decide (i < 0x22C))
  let draining := match s.sys.change with
    | some ch => decide (1 < ch.step) && !isHub i
    | none => false
  known && !draining && (!isCluster i || (s.openCluster i && !s.isTwin i))

/-- A region's maximum priority by NOC_PMAP of a router (R258, R278). -/
def Router.maxPrio (x : Router) (r : Nat) : Nat := fld (sget 0xAAAAAAAA x.pmap (r / 16)).toNat (2 * (r % 16)) 2

/-- The router at which an initiator's request to a place enters: for a block of the hub, router A of the die of DSTR (R244). -/
def entryRouter (i : Nat) (b : End) : Nat :=
  match initEnd i, b with
  | .array r _, _ => r
  | .hub, .array q _ => hubA (dieOf q)
  | .hub, .hub => hubA 0

/-- The priority of a region's packet as it enters the network toward a place (R258). -/
def State.lowerTo (s : State) (i : Nat) (b : End) (prio : Nat) (region : Option Nat) : Nat :=
  match region with
  | some r => min prio ((s.router (entryRouter i b)).maxPrio r)
  | none => prio
def State.lowerPrio (s : State) (i : Nat) (b : End) (prio : Nat) : Nat := if isHub i then prio else s.lowerTo i b prio (s.initRegion i)

/-- The place that serves an address (R244, R282, R470). -/
def State.targetEnd (s : State) (addr : Nat) : End :=
  match place addr with
  | .hbm a => .array (pcRouter (s.hbmLoc a).pc) 1
  | .win c _ => .array (s.redir c) 0
  | _ => .hub

/-- The router and local port that serve an address for an initiator (R244). -/
def State.targetPort (s : State) (i addr : Nat) : Nat × Nat :=
  match attach (initEnd i) (s.targetEnd addr) with
  | some (_, y) => y
  | none => (hubB 0, 3)

/-- Whether the firewall lets an initiator address a local port (R278): by the hub bit for the hub's own blocks, Ethernet ingress and the
owner's GPIO banks, by the region that NOC_IRGN names otherwise; for a host port by any region of its tenant. -/
def State.fwPass (s : State) (i r p : Nat) : Bool :=
  let x := s.router r
  let n := s.init i
  let open_ := fun (k : Nat) => if k < 32 then bit (sget 0 x.fwLo p).toNat k else bit (sget 0 x.fwHi p).toNat (k - 32)
  if isHub i || (decide (0x220 ≤ i) && decide (i < 0x228)) || (decide (0x228 ≤ i) && decide (i < 0x22C) && n.unasg) then sget true x.fwHub p
  else if isHost i then (List.range 64).any (fun k => (match s.region k with | some g => decide (g.ten = i - 0x200) | none => false) && open_ k)
  else !n.unasg && open_ n.rgn.toNat

/-- Firmware names an initiator's region, or none (R279). -/
def State.setIrgn (s : State) (i : Nat) (r : Option Nat) : State :=
  let n := s.init i
  s.setInit i (match r with
    | some k => { n with rgn := BitVec.ofNat 6 k, unasg := false }
    | none => { n with rgn := 0, unasg := true })

/-- Sets or clears the firewall bit of a region at a local port, at a packet boundary; firmware does so as regions come and go (log 25). -/
def State.fwGrant (s : State) (r p k : Nat) (on : Bool) : State := s.pendRouter r (.grant p k on)

/-- How the destination port meets the head of a packet (R268, R270, R272, R278): 0 where it takes it. -/
def State.meet (s : State) (x : Packet) : Nat :=
  let (r, p) := x.dst
  let y := s.router r
  if x.op.resp then 0
  else if !s.fwPass x.who r p then 3
  else if y.absOf p = 1 then 4
  else if y.absOf p = 2 then 5
  else if p = 1 && s.pcDead (s.hbmLoc x.addr).pc then 4
  else if p = 0 && !s.islOn (islandOf r) then 5
  else 0

/-- The status that stood when the head was granted (R272). -/
def State.verdict (s : State) (x : Packet) : Nat := x.verdict.getD (s.meet x)

/-! ### Translation (R371, R372) -/

/-- The physical address of an address that an initiator gives; none is answered with ACCESS. -/
def State.translate (s : State) (i addr : Nat) : Option Nat :=
  if isHub i then some addr
  else match (s.initRegion i).bind s.region with
    | none => none
    | some g =>
      if addr < g.units.length * unitBytes then (g.units[addr / unitBytes]?).map (fun u => u * unitBytes + addr % unitBytes)
      else if winBase ≤ addr && decide (addr < winBase + 0x100000000) then
        (s.relCluster g ((addr - winBase) / 0x1000000)).map (fun c => winBase + c * 0x1000000 + (addr - winBase) % 0x1000000)
      else none

/-! ### Responses (R248, R264) -/

/-- A port has sent a response (R267). -/
def State.portAnswered (s : State) (r p : Nat) : State :=
  let x := s.router r
  s.setRouter r { x with toreps := sput 0 x.toreps p 0 }

/-- The response to a request: data of a read, an acknowledgement, or ERR with a status (R248, R249). -/
def State.respond (s : State) (h : Held) (status : Nat) (data : List Byte) : State :=
  if h.posted then s
  else
    let (r, p) := s.targetPort h.who h.addr
    (s.portAnswered r p).sendFrom (s.targetEnd h.addr) (initEnd h.who)
      { op := if status ≠ 0 then .err else if h.data.isNone then .rdata else .ack
        who := h.who, tag := h.tag, gen := h.gen, prio := h.prio, status := BitVec.ofNat 4 status
        data := if status = 0 then data else [], nowrap := h.nowrap, nbytes := if status = 0 then data.length else 0
        size := if status = 0 && decide (data.length = 4) then 1 else if status = 0 && decide (data.length = 8) then 2 else 0 }

/-- The lowest free tag of an initiator. -/
def State.freeTag (s : State) (i : Nat) : Option Nat :=
  (List.range (nTags i)).find? (fun t => decide (((s.init i).tagOf t).st = .free))

/-- The region of a queue ID. -/
def State.qRegion (s : State) (q : Nat) : Option Nat := if q < 32768 then s.regionOf (s.redir (q / 128)) else none

/-- A PUSH of a client leaves for its queue under a tag (R152, R243). -/
def State.sendPush (s : State) (i tag client prio q : Nat) (ws : List (Word × BitVec 4)) : State :=
  let t := (s.init i).tagOf tag
  let c := s.redir (q / 128)
  (s.setInit i ((s.init i).setTagOf tag { t with st := .busy, since := s.now, rtr := c, port := 0, prio := prio, client := client, addr := 0, write := false })).sendReq
    (.array c 0) { op := .push, who := i, tag := tag, gen := t.gen, prio := prio, addr := q, words := ws, client := client }

/-- Answers a PUSH (R152, R248). -/
def State.pushAnswer (s : State) (c : Nat) (x : PushRec) (status : Nat) : State :=
  (s.portAnswered c 0).sendFrom (.array c 0) (initEnd x.who)
    { op := if status = 0 then .pushack else .err, who := x.who, tag := x.tag, gen := x.gen, prio := x.prio
      status := BitVec.ofNat 4 status, count := if status = 0 then x.pushed else 0, nowrap := x.nowrap }

/-- A memory request as its target holds it. -/
def Packet.held (x : Packet) : Held :=
  { who := x.who, tag := x.tag, gen := x.gen, prio := x.prio, addr := x.addr, nbytes := x.nbytes
    data := if x.op = .rd then none else some x.data, posted := decide (x.op = .wrp), nowrap := x.nowrap }

/-- A remote push as its cluster holds it. -/
def Packet.pushRec (x : Packet) : PushRec :=
  { id := x.id, who := x.who, tag := x.tag, gen := x.gen, prio := x.prio, nowrap := x.nowrap, words := x.words.length, left := x.words.length }

/-- A port turns a request away with a status: an ERR, or the loss of a posted one, which DEAD and FENCED count in PDROP (R268, R270). -/
def State.turnAway (s : State) (x : Packet) (st : Nat) : State :=
  if x.op.posted then (if st = 4 || st = 5 then s.pdrop x.dst.1 else s)
  else if x.op = .push then s.pushAnswer x.dst.1 x.pushRec st
  else s.respond x.held st []

/-- What a target holds unanswered: a memory request or a remote push, with its acceptance ordinal. -/
inductive Open where
  | mem (h : Held)
  | push (x : PushRec)
  deriving DecidableEq, Repr

def Open.ord : Open → Nat
  | .mem h => h.ord
  | .push x => x.ord

/-- Inserts by acceptance ordinal. -/
def insOpen (o : Open) : List Open → List Open
  | [] => [o]
  | x :: l => if o.ord < x.ord then o :: x :: l else x :: insOpen o l

/-- Channel controllers at a router. -/
def channelsAt (r : Nat) : List Nat := (List.range 64).filter (fun ch => decide (hbmRouter (ch / 16) (ch % 16) = r))

/-- Requests of a PC that its channel has accepted and not answered: those in its queue and those that wait at the channel's port. -/
def State.openAtPc (s : State) (i : Nat) : List Held :=
  (s.pc i).opens.map (·.h) ++ (sget [] s.hbm.ports (i / 2)).filter (fun h => decide ((s.hbmLoc h.addr).pc = i))

/-- Requests accepted by a cluster's port or a channel controller and not yet answered, in acceptance order (R268). -/
def State.acceptedAt (s : State) (r p : Nat) : List Open :=
  let l := if p = 0 then ((s.cl r).cellWait ++ (s.cl r).writing ++ (s.cl r).dmemWait).map Open.mem ++ (s.cl r).pushes.map Open.push
    else if p = 1 then (channelsAt r).flatMap (fun ch => (s.openAtPc (2 * ch) ++ s.openAtPc (2 * ch + 1)).map Open.mem)
    else []
  l.foldl (fun a o => insOpen o a) []

def State.answerOpen (s : State) (r : Nat) (o : Open) (st : Nat) : State :=
  match o with
  | .mem h => s.respond h st []
  | .push x => s.pushAnswer r x st

/-- Packets that have arrived at a port and that its target has not taken. -/
def State.waitingAt (s : State) (r p : Nat) : List Packet :=
  s.noc.packets.filter (fun x => decide (x.spot = .arrived) && !x.op.resp && decide (x.dst = (r, p)))

/-- A PC's waiting requests are answered with a status and forgotten. -/
def State.dropPc (s : State) (i st : Nat) : State :=
  let hs := (s.openAtPc i).foldl (fun a h => insOpen (.mem h) a) []
  let s := hs.foldl (fun s o => s.answerOpen (pcRouter i) o st) s
  let rest := (sget [] s.hbm.ports (i / 2)).filter (fun h => decide ((s.hbmLoc h.addr).pc ≠ i))
  let s := { s with hbm := { s.hbm with ports := sput [] s.hbm.ports (i / 2) rest } }
  s.clearPc i

/-- Entry of a port into absorb mode as dead (R268): everything accepted is answered DEAD, in acceptance order. -/
def State.goDead (s : State) (r p : Nat) : State :=
  let s := (s.acceptedAt r p).foldl (fun s o => s.answerOpen r o 4) s
  let late := s.waitingAt r p
  let s := { s with noc := { s.noc with packets := s.noc.packets.filter (fun x => !late.contains x) } }
  let s := late.foldl (fun s x => s.turnAway x 4) s
  let s := if p = 0 then s.updCl r (fun k => { k with cellWait := [], writing := [], dmemWait := [], pushes := [], staging := k.staging.filter (·.push.isNone) })
    else if p = 1 then forAll (channelsAt r) (fun s ch =>
      let s := { s with hbm := { s.hbm with ports := sput [] s.hbm.ports ch [] } }
      forAll [2 * ch, 2 * ch + 1] State.clearPc s) s
    else s
  let x := s.router r
  (s.setRouter r { x with abs := sput 0 x.abs p 1 }).log 0x23 (r * 2 ^ 24 + p * 2 ^ 16)

/-- A link direction after a lane has been replaced (R274): by a spare, spare 0 before spare 1, or half width without one. -/
def Lane.spare (l : Lane) (bad0 bad1 : Bool) (lane : Nat) : Lane :=
  let l := { l with gone := lane :: l.gone }
  if l.lanea = 0x7F && !bad0 then { l with lanea := BitVec.ofNat 7 lane, used := l.used + 1 }
  else if l.laneb = 0x7F && !bad1 then { l with laneb := BitVec.ofNat 7 lane, used := l.used + 1 }
  else { l with half := true }

/-- Whether Cairn has found a spare lane of a link direction unusable (R479). -/
def State.spareBad (s : State) (r d n : Nat) : Bool := s.rel.badBlocks.contains (0x07000000 + 8 * r + 2 * d + n)

/-- One pending change of a router applies (R269, R271, R272, R274). -/
def State.applyChange (s : State) (r : Nat) (c : RtrChange) : State :=
  let x := s.router r
  let put := fun (m : SMap Reg) (p b : Nat) (on : Bool) => sput 0 m p (BitVec.ofNat 32 (putFld (sget 0 m p).toNat b 1 (b2n on)))
  match c with
  | .set (.fwLo p v) => s.setRouter r { x with fwLo := sput 0 x.fwLo p.val v }
  | .set (.fwHi p v) => s.setRouter r { x with fwHi := sput 0 x.fwHi p.val v }
  | .set (.fwHub p h) => s.setRouter r { x with fwHub := sput true x.fwHub p.val h }
  | .set (.pmap k v) => s.setRouter r { x with pmap := sput 0xAAAAAAAA x.pmap k.val v }
  | .grant p k on => s.setRouter r (if k < 32 then { x with fwLo := put x.fwLo p k on } else { x with fwHi := put x.fwHi p (k - 32) on })
  | .maxPrio k v => s.setRouter r { x with
      pmap := sput 0xAAAAAAAA x.pmap (k / 16) (BitVec.ofNat 32 (putFld (sget 0xAAAAAAAA x.pmap (k / 16)).toNat (2 * (k % 16)) 2 v)) }
  | .absDead p => if x.absOf p = 0 then s.goDead r p else s
  | .absClear p keep => s.setRouter r { x with
      abs := if x.absOf p = 1 then sput 0 x.abs p 0 else x.abs
      pcdead := if p = 1 then x.pcdead &&& keep else x.pcdead }
  | .pcPut v =>
    let s := s.setRouter r { x with pcdead := v }
    forAll ((channelsAt r).flatMap (fun ch => [2 * ch, 2 * ch + 1])) (fun s i => if bit v.toNat (i % 2) then s.dropPc i 4 else s) s
  | .pcDead k on =>
    let s := s.setRouter r { x with pcdead := BitVec.ofNat 2 (putFld x.pcdead.toNat k 1 (b2n on)) }
    if on then forAll ((channelsAt r).map (fun ch => 2 * ch + k)) (fun s i => s.dropPc i 4) s else s
  | .fence p => s.setRouter r { x with abs := sput 0 x.abs p 2 }
  | .unfence p => s.setRouter r { x with abs := if x.absOf p = 2 then sput 0 x.abs p 0 else x.abs }
  | .spare d lane => s.setRouter r { x with lanes := sput {} x.lanes d ((sget {} x.lanes d : Lane).spare (s.spareBad r d 0) (s.spareBad r d 1) lane) }
  | .peer _ _ => s

/-! ### Taking what has arrived (R250) -/

/-- Whether two packets keep their order (R250): of one initiator, to one port, of one class and priority. -/
def Packet.ordered (x y : Packet) : Bool :=
  decide (x.who = y.who) && decide (x.dst = y.dst) && decide (x.op.resp = y.op.resp) && decide (x.prio = y.prio)

/-- The first packet of a kind that has arrived, unless one that it may not overtake arrived before it (R250). -/
def State.firstPacket (s : State) (f : Packet → Bool) : Option Packet :=
  let l := s.noc.packets.filter (fun x => decide (x.spot = .arrived))
  match l.find? f with
  | none => none
  | some x => if (l.takeWhile (fun y => !f y)).any x.ordered then none else some x

/-- A receiver takes a packet; the end-to-end credit of a request returns (R261). -/
def State.dropPacket (s : State) (p : Packet) : State :=
  let k := 4096 * (4 * p.dst.1 + p.dst.2) + p.who
  { s with noc := { s.noc with packets := s.noc.packets.erase p
                               e2e := if p.op.resp then s.noc.e2e else sput 0 s.noc.e2e k (sget 0 s.noc.e2e k - 1) } }

end Sys2Proof.Machine
end

