-- ==== Sys2Proof/Machine/MoverOps.lean ====
section
/-! DEFINITION. Stream movers: posts, access rights, registers (R157 to R160, R168). -/

namespace Sys2Proof.Machine

/-! ### The descriptor (R160) -/

def dSRC (d : BitVec 256) : Nat := fld d.toNat 0 64
def dDST (d : BitVec 256) : Nat := fld d.toNat 64 64
def dLEN (d : BitVec 256) : Nat := fld d.toNat 128 24
def dKIND (d : BitVec 256) : Nat := fld d.toNat 160 4
def dNOTE (d : BitVec 256) : Bool := bit d.toNat 168
def dNTGT (d : BitVec 256) : Nat := fld d.toNat 176 16
def dNKIND (d : BitVec 256) : Nat := fld d.toNat 192 2

/-- Descriptors held: the running one and those that wait (R159, R168). -/
def Mover.dpend (m : Mover) : Nat := m.descs.length + b2n m.running.isSome

/-- A post joins the mover's descriptors, or sets DFULL (R159, R436). An unassigned mover accepts none (R157). -/
def Mover.post (m : Mover) (d : BitVec 256) : Mover :=
  if m.region.isNone then m else if 16 ≤ m.dpend then { m with dfull := true } else { m with descs := m.descs ++ [d] }

/-- The staged descriptor (R159). -/
def Mover.staged (m : Mover) : BitVec 256 := BitVec.ofNat 256 ((List.range 8).foldl (fun a k => a + (sget 0 m.mvd k).toNat * 2 ^ (32 * k)) 0)

/-- Firmware and the initiators of the assigned region may access a mover (R157). -/
def State.moverRights (s : State) (who m : Nat) : Bool :=
  decide (who = fwId) || ((s.mover m).region.isSome && decide (s.initRegion who = (s.mover m).region))

/-- A mover register read (R168): the value, or none where no register lies. -/
def Mover.readReg (m : Mover) (off : Nat) : Option Nat :=
  if off < 0x24 then some 0
  else if off = 0x24 then some (m.lastst.toNat * 2 ^ 24 + m.dpend * 2 ^ 16 + 8 * b2n m.dfull + 4 * b2n m.err + 2 * b2n m.running.isSome)
  else if off = 0x2C then some m.mvcnt
  else if off = 0x30 then some m.inbuf.length
  else none

/-- A mover register write (R168). -/
def Mover.writeReg (m : Mover) (off v : Nat) : Option Mover :=
  if off < 0x20 then some { m with mvd := sput 0 m.mvd (off / 4) (BitVec.ofNat 32 v) }
  else if off = 0x20 then some (if bit v 0 then m.post m.staged else m)
  else if off = 0x24 then some { m with dfull := m.dfull && !bit v 3, err := m.err && !bit v 2 }
  else if off = 0x2C || decide (off = 0x30) then some m
  else none

/-! ### A word that moves (R161 to R163) -/

/-- The physical queue that a descriptor names. -/
def State.moverQueue (s : State) (d : BitVec 256) : Nat := let q := dDST d % 32768; 128 * s.redir (q / 128) + q % 128

/-- A word has moved: with the last one the descriptor completes with OK. -/
def State.moverDid (s : State) (m : Nat) (x : MvRun) : State :=
  s.setMover m { s.mover m with
    running := some { x with moved := x.moved + 1, status := if x.moved + 1 = dLEN x.desc then some 0 else none } }

/-- The move fails with a status (R163). -/
def State.moverFail (s : State) (m : Nat) (x : MvRun) (status : Byte) : State :=
  s.setMover m { s.mover m with running := some { x with status := some status } }

/-- A word for a queue leaves as a posted push and takes a credit (R162). -/
def State.moverPush (s : State) (m : Nat) (x : MvRun) (w : Word) : State :=
  let q := s.moverQueue x.desc
  let v := s.mover m
  let b : End := .array (q / 128) 0
  ((s.setMover m { v with credits := sput 0 v.credits q (sget 0 v.credits q - 1) }).sendReq b
    { op := .pushp, who := moverInit m, prio := s.lowerPrio (moverInit m) b 3, prod := prodMOVER, addr := dDST x.desc % 32768, words := [(w, 0)] }).moverDid m x

/-- The answer to the mover's HBM request: the word has moved, or goes on to its queue, or the move fails with MEMERR (R163). A word whose
credit has gone with a disable of its queue is asked for again. -/
def State.moverGot (s : State) (m : Nat) (x : MvRun) (status : Nat) (data : List Byte) : State :=
  if status ≠ 0 then s.moverFail m x 3
  else if dKIND x.desc = 1 then s.moverDid m x
  else if sget 0 (s.mover m).credits (s.moverQueue x.desc) = 0 then s.setMover m { s.mover m with running := some x }
  else s.moverPush m x (bytesWord data)

/-! ### Credits of a queue that is disabled and enabled (R162) -/

/-- The mover that feeds a queue holds no credit for it, and the credits on their way are of the time before. -/
def State.moverVoid (s : State) (q : Nat) : State :=
  let m := (s.queue q).psrc.toNat
  if (s.queue q).prod = prodMOVER then
    let v := s.mover m
    let n := ((s.noc.packets.filter (fun p => decide (p.op = .crd) && p.toMover && decide (p.chan = m) && decide (p.addr = q))).map (·.count)).sum
    s.setMover m { v with credits := sput 0 v.credits q 0, stale := sput 0 v.stale q n }
  else s

/-- Words of movers on their way to a queue. -/
def State.moverFlying (s : State) (q : Nat) : Nat :=
  (s.noc.packets.filter (fun p => decide (p.op = .pushp) && decide (p.prod = prodMOVER) && !p.toMover
      && decide (128 * s.redir (p.addr / 128) + p.addr % 128 = q))).length
    + ((s.cl (q / 128)).staging.filter (fun w => decide (w.q = q % 128) && decide (w.prod = prodMOVER))).length

/-- The mover that feeds a queue holds credits for the words that the queue takes before it is FULL, less those on their way (R162, R170, log 93). -/
def State.moverCredits (s : State) (q : Nat) : State :=
  let m := (s.queue q).psrc.toNat
  let k := s.cl (q / 128)
  let s := s.moverVoid q
  if (s.queue q).prod = prodMOVER then
    let v := s.mover m
    s.setMover m { v with credits := sput 0 v.credits q ((if k.isTile (q % 128) then 8190 else k.qDepth (q % 128)) - s.moverFlying q) }
  else s

end Sys2Proof.Machine
end

