-- ==== Sys2Proof/Machine/Window.lean ====
section
/-! DEFINITION. The window of a cluster: memories, context store and control registers (R21, R77, R93, R95, R108, R134,
R158, R165 to R168, R205). -/

namespace Sys2Proof.Machine

/-- The outcome of an access: a status of R249, the data of a read, and the state. -/
structure Acc where
  status : Nat
  data : List Byte
  st : State
  deriving DecidableEq, Repr

/-! ### Bytes of wide stores -/

/-- Byte b of a bit vector. -/
def byteOf {n : Nat} (v : BitVec n) (b : Nat) : Byte := BitVec.ofNat 8 (fld v.toNat (8 * b) 8)

/-- A bit vector with byte b replaced. -/
def setByteOf {n : Nat} (v : BitVec n) (b : Nat) (x : Byte) : BitVec n := BitVec.ofNat n (putFld v.toNat (8 * b) 8 x.toNat)

/-- Byte a of a store of words of w bytes. -/
def wordByte {n : Nat} (w : Nat) (m : SMap (BitVec n)) (a : Nat) : Byte := byteOf (sget 0 m (a / w)) (a % w)

/-- Writes bytes into a store of words of w bytes. -/
def putWordBytes {n : Nat} (w : Nat) (m : SMap (BitVec n)) (a : Nat) : List Byte → SMap (BitVec n)
  | [] => m
  | b :: bs => putWordBytes w (sput 0 m (a / w) (setByteOf (sget 0 m (a / w)) (a % w) b)) (a + 1) bs

/-! ### The context store (R93, R94) -/

/-- The byte of the context store at an offset from 0x0040_0000; none where no row lies. -/
def Cluster.ctxByte (k : Cluster) (o : Nat) : Option Byte :=
  if o < 0x4000 then some (wordByte 64 k.planes o)
  else if o < 0x4800 then some (wordByte 8 k.prog (o - 0x4000))
  else if 0x8000 ≤ o && decide (o < 0xC000) then
    (if (o - 0x8000) % 0x400 < 0x210 then some (byteOf (sget 0 k.ivr ((o - 0x8000) / 0x400)) ((o - 0x8000) % 0x400)) else some 0)
  else if 0xC000 ≤ o && decide (o < 0xD000) then
    some (BitVec.ofNat 8 ((List.range 8).foldl (fun a i => a + b2n (sget false k.preBits (8 * (o - 0xC000) + i)) * 2 ^ i) 0))
  else if 0x80000 ≤ o && decide (o < 0x100000) then some (wordByte 16 k.preBuf (o - 0x80000))
  else none

/-- The loader writes a byte of the context store (R95). -/
def Cluster.putCtxByte (k : Cluster) (o : Nat) (b : Byte) : Cluster :=
  if o < 0x4000 then { k with planes := putWordBytes 64 k.planes o [b] }
  else if o < 0x4800 then { k with prog := putWordBytes 8 k.prog (o - 0x4000) [b] }
  else if o < 0xC000 then
    (if 0x8000 ≤ o && decide ((o - 0x8000) % 0x400 < 0x210) then
      { k with ivr := sput 0 k.ivr ((o - 0x8000) / 0x400) (setByteOf (sget 0 k.ivr ((o - 0x8000) / 0x400)) ((o - 0x8000) % 0x400) b) } else k)
  else if o < 0xD000 then
    { k with preBits := (List.range 8).foldl (fun m i => sput false m (8 * (o - 0xC000) + i) (bit b.toNat i)) k.preBits }
  else if 0x80000 ≤ o then { k with preBuf := putWordBytes 16 k.preBuf (o - 0x80000) [b] }
  else k

/-! ### Who may access a cluster's registers -/

/-- The initiator belongs to the tenant whose region contains the cluster. -/
def State.tenantAt (s : State) (who c : Nat) : Bool := (s.tenantOf c).isSome && decide (s.initTenant who = s.tenantOf c)

/-- The cluster's sequencer, by its own window. -/
def ownSeq (who c : Nat) : Bool := decide (who = c)

/-! ### Context control registers (R87, R108, R134) -/

/-- A CTX_RUN write (R87, R88). -/
def State.ctxRunWrite (s : State) (c v : Nat) : State :=
  forAll (s.withTwin c) (fun s c => s.updCl c (fun k => k.ctxRun (bit v 8) (bit v 9) (v % 128))) s

def Cluster.lnkz (k : Cluster) : Nat :=
  (List.range 32).foldl (fun a i => a + b2n (lkEN (k.link i) && decide (sget 0 k.credits i = 0)) * 2 ^ i) 0

/-- CTX_LINKi (R134): the fields of an enabled entry, without the reserved bits, and without DIR and DIST in a boundary link (R8). -/
def Cluster.linkWord (k : Cluster) (i : Nat) : Nat :=
  let r := k.link i
  if lkEN r then (r &&& (if i < 16 then 0x8FFFFF00 else 0x8FFFFF0B)).toNat else 0

/-- Reads of the context control block, with the cluster after the read. -/
def Cluster.ctxRead (k : Cluster) (o : Nat) : Option (Nat × Cluster) :=
  if o = 0 then some (0, k)
  else if o = 4 then some (k.ctxStat, k)
  else if o = 8 then some (k.sel.lc1 * 65536 + k.sel.lc0, k)
  else if o = 0xC then some (k.mask.toNat, k)
  else if o = 0x10 then some (fld k.ctick.toNat 0 32, { k with ctickLatch := some (BitVec.ofNat 32 (fld k.ctick.toNat 32 32)) })
  else if o = 0x14 then some ((k.ctickLatch.map (·.toNat)).getD (fld k.ctick.toNat 32 32), { k with ctickLatch := none })
  else if o = 0x18 then some (k.scause.toNat, k)
  else if o = 0x1C then some (k.stalls, { k with stalls := 0 })
  else if o = 0x20 then some (k.lnkz, k)
  else if 0x100 ≤ o && decide (o < 0x180) then some (k.linkWord ((o - 0x100) / 4), k)
  else none

/-- Writes of the context control block but CTX_RUN. -/
def Cluster.ctxWrite (k : Cluster) (o v : Nat) : Cluster :=
  if o = 4 then { k with sel := { k.sel with cmderr := k.sel.cmderr && !bit v 2, halted := k.sel.halted && !bit v 1 } }
  else if o = 0x18 then { k with scause := k.scause &&& ~~~(BitVec.ofNat 6 v) }
  else k

/-! ### Cell registers (R77) -/

def Cell.readReg (x : Cell) (o : Nat) : Option Nat :=
  if o = 0 then some ((x.stat &&& 0x7E).toNat + b2n x.cond)
  else if o = 4 then some (x.ap1.toNat * 65536 + x.ap0.toNat)
  else if o = 8 then some x.wp.toNat
  else none

def Cell.writeReg (x : Cell) (o v : Nat) : Cell := if o = 0 then { x with stat := x.stat &&& ~~~(BitVec.ofNat 7 (v % 128 / 2 * 2)) } else x

/-! ### Stream queue registers (R165 to R167) -/

/-- Reads of a queue's block. -/
def Cluster.queueRead (k : Cluster) (q o : Nat) : Option (Nat × Cluster) :=
  let u := k.queue q
  if o = 0 then some (b2n u.en * 2 ^ 31 + u.prod.toNat * 2 ^ 28 + u.cons.toNat * 2 ^ 26
    + (if u.prod = prodMOVER then u.psrc.toNat else 0) * 2 ^ 16 + u.depth, k)
  else if o = 4 then some (u.base, k)
  else if o = 8 then some (b2n u.hwen * 2 ^ 31 + u.high * 2 ^ 16 + b2n u.lwen * 2 ^ 15 + u.low, k)
  else if o = 0xC then some (u.stale, k)
  else if o = 0x10 then some (u.nkind.toNat * 2 ^ 30 + b2n u.one * 2 ^ 27 + b2n u.sne * 2 ^ 26 + b2n u.lne * 2 ^ 25
    + b2n u.hne * 2 ^ 24 + u.target.toNat, k)
  else if o = 0x14 then some (u.count * 2 ^ 16 + b2n u.nsat * 2 ^ 9 + b2n u.perr * 2 ^ 8 + b2n u.ovr * 2 ^ 7 + b2n u.sx * 2 ^ 6
    + b2n u.lx * 2 ^ 5 + b2n u.hx * 2 ^ 4 + b2n (k.qLL q) * 8 + b2n (k.qHL q) * 4 + b2n (k.qFull q) * 2 + b2n (k.qEmpty q), k)
  else if o = 0x18 then some (u.ovcnt, k.setQueue q { u with ovcnt := 0 })
  else if o = 0x1C then some (u.npend, k)
  else if o = 0x20 then some (u.wr * 2 ^ 16 + u.rd, k)
  else none

/-- A write of SQ_STALE (R148). -/
def Queue.setStale (u : Queue) (now v : Nat) : Queue := { u with stale := v % 65536, staleFrom := now, staleStopped := false }

/-- Whether a notice target lies in a region (R149, R166). -/
def State.targetOk (s : State) (r kind target : Nat) : Bool :=
  let b := s.breg r
  if kind = 1 then decide (b.base ≤ target) && decide (target < b.base + b.count)
  else if kind = 2 then decide (target < 8)
  else if kind = 3 then decide (target ≤ 64)
  else true

/-- Writes of a queue's block: the registers that software may write. -/
def State.queueWrite (s : State) (c q o v : Nat) : State :=
  let u := (s.cl c).queue q
  let set := fun (u : Queue) => s.setQueue (128 * c + q) u
  if o = 8 then
    let d := u.depth
    set { u with hwen := bit v 31, high := if fld v 16 13 ≤ d then fld v 16 13 else u.high
                 lwen := bit v 15, low := if fld v 0 13 ≤ d then fld v 0 13 else u.low }
  else if o = 0xC then set (u.setStale s.now v)
  else if o = 0x10 then
    if (match s.regionOf c with | some r => s.targetOk r (fld v 30 2) (fld v 0 16) | none => decide (fld v 30 2 = 0) || decide (fld v 30 2 = 2 ∧ fld v 0 16 < 8)) then
      set { u with nkind := BitVec.ofNat 2 (fld v 30 2), one := bit v 27, sne := bit v 26, lne := bit v 25, hne := bit v 24
                   target := BitVec.ofNat 16 v }
    else s
  else if o = 0x14 then
    set { u with nsat := u.nsat && !bit v 9, perr := u.perr && !bit v 8, ovr := u.ovr && !bit v 7, sx := u.sx && !bit v 6
                 lx := u.lx && !bit v 5, hx := u.hx && !bit v 4 }
  else s

/-- Reads of the manager and forward-channel registers (R167), at an offset from 0x00F3_0000. -/
def Cluster.fwdRead (k : Cluster) (o : Nat) : Option Nat :=
  if o = 0 then some (b2n k.umsyn)
  else if 0x100 ≤ o && decide (o < 0x180) then
    let f := k.fwd ((o - 0x100) / 16)
    if o % 16 = 0 then some (b2n f.en * 2 ^ 31 + b2n f.mover * 2 ^ 30 + f.prio * 2 ^ 28 + f.sqid * 2 ^ 16 + f.target)
    else if o % 16 = 4 then some ((if f.mover then f.share * 2 ^ 16 + f.cred else 0))
    else none
  else none

/-! ### Control registers of a cluster -/

/-- A read of a control register of a cluster's window, at an offset from 0x00F0_0000. -/
def State.clRegRead (s : State) (who c o : Nat) : Acc :=
  let k := s.cl c
  let ten := s.tenantAt who c
  let fw := decide (who = fwId)
  let own := ownSeq who c
  let ans := fun (ok : Bool) (r : Option (Nat × Cluster)) =>
    match r with
    | none => (⟨2, [], s⟩ : Acc)
    | some (v, k) => if ok then ⟨0, toLe 4 v, s.setCl c k⟩ else ⟨3, [], s⟩
  if 0x2000 ≤ o && decide (o < 0x2180) then ans (own || ten) (k.ctxRead (o - 0x2000))
  else if 0x3000 ≤ o && decide (o < 0x3400) then ans (ten || fw) (some (k.seq.ctl ((o - 0x3000) / 4), k))
  else if 0x10000 ≤ o && decide (o < 0x11000) then
    ans (ten || fw) (((k.cell ((o - 0x10000) / 256)).readReg (o % 256)).map (fun v => (v, k)))
  else if 0x30000 ≤ o && decide (o < 0x30180) then ans (own || ten || fw) ((k.fwdRead (o - 0x30000)).map (fun v => (v, k)))
  else if 0x40000 ≤ o && decide (o < 0x42000) then ans (own || ten || fw) (k.queueRead ((o - 0x40000) / 64) (o % 64))
  else if 0x60000 ≤ o && decide (o < 0x64000) then
    let m := (o - 0x60000) / 256
    match (s.mover m).readReg (o % 256) with
    | none => ⟨2, [], s⟩
    | some v => if (s.mover m).region.isSome && decide ((s.mover m).region = s.regionOf c) && (own || ten || fw) then ⟨0, toLe 4 v, s⟩ else ⟨3, [], s⟩
  else ⟨2, [], s⟩

/-- A write of a control register of a cluster's window (R77, R108, R158, R165, R168). -/
def State.clRegWrite (s : State) (who c o v : Nat) : Acc :=
  let ten := s.tenantAt who c
  let fw := decide (who = fwId)
  let own := ownSeq who c
  let ans := fun (ok decoded : Bool) (t : State) => if !decoded then (⟨2, [], s⟩ : Acc) else if ok then ⟨0, [], t⟩ else ⟨3, [], s⟩
  if 0x2000 ≤ o && decide (o < 0x2180) then
    ans (own || ten) ((s.cl c).ctxRead (o - 0x2000)).isSome
      (if o = 0x2000 then s.ctxRunWrite c v else forAll (s.withTwin c) (fun s c => s.updCl c (fun k => k.ctxWrite (o - 0x2000) v)) s)
  else if 0x3000 ≤ o && decide (o < 0x3400) then ans (ten || fw) true s
  else if 0x10000 ≤ o && decide (o < 0x11000) then
    let i := (o - 0x10000) / 256
    ans (ten || fw) (((s.cl c).cell i).readReg (o % 256)).isSome
      (forAll (s.withTwin c) (fun s c => s.updCl c (fun k => k.setCell i ((k.cell i).writeReg (o % 256) v))) s)
  else if 0x30000 ≤ o && decide (o < 0x30180) then ans (own || ten || fw) ((s.cl c).fwdRead (o - 0x30000)).isSome s
  else if 0x40000 ≤ o && decide (o < 0x42000) then
    ans (own || ten || fw) ((s.cl c).queueRead ((o - 0x40000) / 64) (o % 64)).isSome (s.queueWrite c ((o - 0x40000) / 64) (o % 64) v)
  else if 0x60000 ≤ o && decide (o < 0x64000) then
    let m := (o - 0x60000) / 256
    match (s.mover m).writeReg (o % 256) v with
    | none => ⟨2, [], s⟩
    | some x => if (s.mover m).region.isSome && decide ((s.mover m).region = s.regionOf c) && (own || ten || fw) then ⟨0, [], s.setMover m x⟩ else ⟨3, [], s⟩
  else ⟨2, [], s⟩

/-! ### Memories of a cluster -/

/-- The area of a window offset (R21): 0 cell memories, 1 stream SRAM, 2 context store, 3 instruction memory, 4 data
memory, 5 control registers. -/
def winArea (o : Nat) : Option Nat :=
  if o < 0x80000 then some 0
  else if 0x100000 ≤ o && decide (o < 0x200000) then some 1
  else if 0x400000 ≤ o && decide (o < 0x500000) then some 2
  else if 0x800000 ≤ o && decide (o < 0x810000) then some 3
  else if 0x810000 ≤ o && decide (o < 0x820000) then some 4
  else if 0xF00000 ≤ o && decide (o < 0x1000000) then some 5
  else none

/-- Reads a cell memory word from outside: corrected errors set MSBE, an uncorrectable word reads as 0 (R57, R58, R464). -/
def State.cellMemRead (s : State) (c a n : Nat) : List Byte × State :=
  let words := (List.range ((a + n - 1) / 16 - a / 16 + 1)).map (fun i => a / 16 + i)
  let s' := forAll words (fun s w =>
    let i := w / 2048
    let (_, st, ue) := ((s.cl c).cell i).readMem (w % 2048)
    let s := s.updCl c (fun k => k.setCell i { k.cell i with stat := (k.cell i).stat ||| st })
    if ue then s.cellUE c i (w % 2048) else s) s
  ((List.range n).map (fun i => wordByte 16 ((s'.cl c).cell ((a + i) / 32768)).mem ((a + i) % 32768)), s')

/-- Writes a cell memory from outside, by bytes (R57, log 88). -/
def State.cellMemWrite (s : State) (c a : Nat) (bs : List Byte) : State :=
  forAll (s.withTwin c) (fun s c => (bs.zipIdx).foldl (fun s (b, i) =>
    s.updCl c (fun k =>
      let x := k.cell ((a + i) / 32768)
      let w := (a + i) % 32768 / 16
      k.setCell ((a + i) / 32768) (x.writeMem w (setByteOf (sget 0 x.mem w) ((a + i) % 16) b)))) s) s

/-- A read of n bytes of a cluster's window by an initiator, at once. -/
def State.winRead (s : State) (who c o n : Nat) : Acc :=
  let k := s.cl c
  if winArea o ≠ winArea (o + n - 1) then ⟨2, [], s⟩
  else if s.loader.barrier.contains c && decide (who ≠ loaderId) && [some 0, some 1, some 3, some 4].contains (winArea o) then ⟨3, [], s⟩
  else match winArea o with
    | some 0 => let (bs, s) := s.cellMemRead c o n; ⟨0, bs, s⟩
    | some 1 => ⟨0, (List.range n).map (fun i => wordByte 16 k.sram (o - 0x100000 + i)), s⟩
    | some 2 =>
      let bs := (List.range n).map (fun i => k.ctxByte (o - 0x400000 + i))
      if !(bs.all (·.isSome)) then ⟨2, [], s⟩
      else if who = loaderId || s.tenantAt who c then ⟨0, bs.map (·.getD 0), s⟩ else ⟨3, [], s⟩
    | some 3 => ⟨0, (List.range n).map (fun i => sget 0 k.seq.imem (o - 0x800000 + i)), s⟩
    | some 4 => ⟨0, (List.range n).map (fun i => sget 0 k.seq.dmem (o - 0x810000 + i)), s⟩
    | some 5 => if n = 4 && decide (o % 4 = 0) then s.clRegRead who c (o - 0xF00000) else ⟨3, [], s⟩
    | _ => ⟨2, [], s⟩

/-- A write into a cluster's window by an initiator, at once. -/
def State.winWrite (s : State) (who c o : Nat) (bs : List Byte) : Acc :=
  let n := bs.length
  let cs := s.withTwin c
  if winArea o ≠ winArea (o + n - 1) then ⟨2, [], s⟩
  else if s.loader.barrier.contains c && decide (who ≠ loaderId) && [some 0, some 1, some 3, some 4].contains (winArea o) then ⟨3, [], s⟩
  else match winArea o with
    | some 0 => ⟨0, [], s.cellMemWrite c o bs⟩
    | some 1 => ⟨0, [], s.updCl c (fun k => { k with sram := putWordBytes 16 k.sram (o - 0x100000) bs })⟩
    | some 2 =>
      if (List.range n).any (fun i => ((s.cl c).ctxByte (o - 0x400000 + i)).isNone) then ⟨2, [], s⟩
      else if who = loaderId then ⟨0, [], forAll cs (fun s c => s.updCl c (fun k =>
        (bs.zipIdx).foldl (fun k (b, i) => k.putCtxByte (o - 0x400000 + i) b) k)) s⟩
      else ⟨3, [], s⟩
    | some 3 =>
      if who = loaderId && (s.seq c).nest.isEmpty then ⟨0, [], forAll cs (fun s c => s.updSeq c (fun q =>
        { q with imem := (bs.zipIdx).foldl (fun m (b, i) => sput 0 m (o - 0x800000 + i) b) q.imem })) s⟩
      else ⟨3, [], s⟩
    | some 4 => ⟨0, [], forAll cs (fun s c => s.updSeq c (fun q =>
        { q with dmem := (bs.zipIdx).foldl (fun m (b, i) => sput 0 m (o - 0x810000 + i) b) q.dmem })) s⟩
    | some 5 => if n = 4 && decide (o % 4 = 0) then s.clRegWrite who c (o - 0xF00000) (leNat bs) else ⟨3, [], s⟩
    | _ => ⟨2, [], s⟩

end Sys2Proof.Machine
end

