-- ==== Sys2Proof/Machine/ClusterCmds.lean ====
section
/-! DEFINITION. Commands at a cluster: accesses, links, staging, stale timers, notices, forward channels, repairs (R57, R87,
R104, R108, R126 to R128, R144, R148 to R156, R174). -/

namespace Sys2Proof.Machine

/-- Offset of a request in a cluster's window. -/
def Held.off (h : Held) : Nat := (h.addr - winBase) % 0x1000000

/-! ### Accesses that wait for a port (R57, R174) -/

/-- The cluster whose cycle moves a cluster: its lead, and that one's leader (R65, R452). -/
def State.leadOf (s : State) (c : Nat) : Nat :=
  let c := if s.isTwin c then c - 16 else c
  if (s.cl c).role = 2 then c - 1 else c

/-- Whether the coming cycle of a cluster advances or is parked, so that its cells use their ports: no stall of its group, no fill or repair
pause, no commit (R37, R57, R65). -/
def State.portsUsed (s : State) (c : Nat) : Bool :=
  let l := s.leadOf c
  s.cycleGoes l && (s.group l).all (fun d => decide ((s.cl d).fill = 0) && decide ((s.cl d).pause = 0))
    && (!(s.cl l).sel.run || (s.leads l).all (fun d => decide ((s.cl d).stallCause = 0)))

/-- Whether a cell uses read port 1 in the coming cycle: an LDP issues, the repair pause moves its memory, or an access has taken it. -/
def State.readPortBusy (s : State) (c i : Nat) : Bool :=
  let k := s.cl c
  (k.sel.run && s.portsUsed c && decide (pOP (k.planeOf i) = 0x71)) || decide (0 < k.pause) || k.reading.contains i

/-- Whether a cell uses its write port in the coming cycle: a result for MEM completes, a preload word is written, the repair pause moves its
memory, or an access has taken it. -/
def State.writePortBusy (s : State) (c i : Nat) : Bool :=
  let k := s.cl c
  (s.portsUsed c && (k.cell i).flight.any (fun f => decide (f.left = 1) && decide (pDST f.plane = 36) && !isAccOp (pOP f.plane)))
    || (decide (0 < k.fill) && decide (0 < k.fillIdx) && decide (k.fillIdx ≤ (k.preWords i).length))
    || decide (0 < k.pause) || k.writing.any (fun h => decide (h.off / 32768 = i))

/-- The oldest waiting access of a cell takes its port when that is free (R57): a read gets the words of the start of the cycle, a write is
made at the end of the cycle (R56), at once where no cycles occur. The write barrier of a full image stops both (R342). -/
def State.cellAccess (s : State) (c i : Nat) : State :=
  let k := s.cl c
  match k.cellWait.find? (fun h => decide (h.off / 32768 = i)) with
  | none => s
  | some h =>
    let rest := s.updCl c (fun k => { k with cellWait := k.cellWait.erase h })
    if !s.islandRuns c then s
    else if s.loader.barrier.contains c && decide (h.who ≠ loaderId) then rest.respond h 3 []
    else
      match h.data with
      | some d =>
        if s.writePortBusy c i then s
        else if s.clocked c then rest.updCl c (fun k => { k with writing := k.writing ++ [h] })
        else (rest.cellMemWrite c h.off d).respond h 0 []
      | none =>
        if s.readPortBusy c i then s
        else
          let (bs, s) := rest.cellMemRead c h.off h.nbytes
          (if s.clocked c then s.updCl c (fun k => { k with reading := k.reading ++ [i] }) else s).respond h 0 bs

/-- CELL_MEMORY_ACCESS (R57). -/
def execCellMemoryAccess (c : ClId) (cell : CellId) (s : State) : Host.Outcome State Fault Refusal :=
  act s (·.cellAccess c.val cell.val)

/-- The end of a cycle at the cell memory ports of a cluster: the writes that have taken a port are made (R56, R57). -/
def State.portsEnd (s : State) (c : Nat) : State :=
  let hs := (s.cl c).writing
  let s := s.updCl c (fun k => { k with writing := [], reading := [] })
  hs.foldl (fun s h => (s.cellMemWrite c h.off (h.data.getD [])).respond h 0 []) s

/-- CLUSTER_CYCLE (R119): an island cycle, with the physical events of it. -/
def execClusterCycle (c : ClId) (ev : List CellEvent) (s : State) : Host.Outcome State Fault Refusal :=
  act s fun s =>
    let ups := ev.filter (fun e => match e with | .upset _ _ _ => true | .lost _ _ => true | _ => false)
    let res := ev.filter (fun e => match e with | .residue _ => true | _ => false)
    let s := ups.foldl (fun s e => s.cellEvent c.val e) s
    let bad := if s.lockstep c.val && !s.follows c.val && s.clocked c.val then
        ev.findSome? (fun e => match e with | .mismatch bad => some bad | _ => none) else none
    match bad with
    | some bad => bad.foldl (fun s e => s.failCell (if e.1 then c.val + 16 else c.val) e.2.val) (s.pairMismatch c.val (s.group c.val))
    | none =>
      let t := s.cycle c.val
      let t := if s.cycleGoes c.val then forAll (s.group c.val) State.portsEnd t else t
      res.foldl (fun s e => s.cellEvent c.val e) t

/-- The oldest waiting access of a sequencer's data memory proceeds (R174). -/
def State.seqAccess (s : State) (c : Nat) : State :=
  match (s.cl c).dmemWait with
  | [] => s
  | h :: rest =>
    if !s.islandRuns c then s
    else
      let s := s.updCl c (fun k => { k with dmemWait := rest })
      let a := match h.data with
        | some d => s.winWrite h.who c h.off d
        | none => s.winRead h.who c h.off h.nbytes
      a.st.respond h a.status a.data

/-- SEQUENCER_MEMORY_ACCESS (R174). -/
def execSequencerMemoryAccess (c : ClId) (s : State) : Host.Outcome State Fault Refusal := act s (·.seqAccess c.val)

/-! ### CTX_RUN and CTX_CTICK (R87, R88, R108) -/

/-- Whether an initiator reaches the context control registers of a cluster (R108). -/
def State.ctxRights (s : State) (who c : Nat) : Bool := s.openCluster c && (ownSeq who c || s.tenantAt who c)

/-- START (R87): a CTX_RUN write with START set. -/
def execStart (who : InitId) (c : ClId) (entry : BitVec 7) (alsoPark : Bool) (s : State) : Host.Outcome State Fault Refusal :=
  act s fun s =>
    let c := s.redir c.val
    if s.ctxRights who.val c then s.ctxRunWrite c (256 + 512 * b2n alsoPark + entry.toNat) else s.emit (.regValue none)

/-- PARK (R87): a CTX_RUN write with PARK set. -/
def execPark (who : InitId) (c : ClId) (s : State) : Host.Outcome State Fault Refusal :=
  act s fun s =>
    let c := s.redir c.val
    if s.ctxRights who.val c then s.ctxRunWrite c 512 else s.emit (.regValue none)

/-- CTX_CTICK_LO_READ (R108). -/
def execCtxCtickLoRead (who : InitId) (c : ClId) (s : State) : Host.Outcome State Fault Refusal :=
  act s fun s =>
    let c := s.redir c.val
    if s.ctxRights who.val c then
      match (s.cl c).ctxRead 0x10 with
      | some (v, k) => (s.setCl c k).emit (.regValue (some (BitVec.ofNat 64 v)))
      | none => s
    else s.emit (.regValue none)

/-! ### Links (R126, R128) -/

/-- The oldest word in flight of a link lands in its queue (R128, log 85). -/
def State.linkLands (s : State) (c l : Nat) : State :=
  match (s.cl c).linkWords.find? (fun w => decide (w.link = l)) with
  | none => s
  | some w =>
    let t := s.redir w.tcl
    if !s.islandRuns t then s
    else
      let s := s.updCl c (fun k => { k with linkWords := k.linkWords.erase w })
      s.updCl t (fun k => if k.qFull w.q then k else k.pushDo s.now w.q prodLINK 0 w.w w.tag)

/-- LINK_WORD_LANDING (R128). -/
def execLinkWordLanding (c : ClId) (l : LinkId) (s : State) : Host.Outcome State Fault Refusal := act s (·.linkLands c.val l.val)

/-- A credit in flight becomes usable (R126). -/
def State.linkCredit (s : State) (c l : Nat) : State :=
  let k := s.cl c
  if k.linkCreds.contains l && s.islandRuns c then
    s.setCl c { k with linkCreds := k.linkCreds.erase l, credits := sput 0 k.credits l (sget 0 k.credits l + 1) }
  else s

/-- LINK_CREDIT_ARRIVAL (R126). -/
def execLinkCreditArrival (c : ClId) (l : LinkId) (s : State) : Host.Outcome State Fault Refusal := act s (·.linkCredit c.val l.val)

/-! ### Staging and stale timers (R144, R148) -/

/-- A word of a remote push has left the staging: the last one answers the push with the number of words that its queue took (R142, R152). -/
def State.pushLeft (s : State) (c id : Nat) (took : Bool) : State :=
  match (s.cl c).pushes.find? (fun x => decide (x.id = id)) with
  | none => s
  | some x =>
    let y := { x with left := x.left - 1, pushed := x.pushed + b2n took }
    if y.left = 0 then (s.updCl c (fun k => { k with pushes := k.pushes.erase x })).pushAnswer c y 0
    else s.updCl c (fun k => { k with pushes := k.pushes.map (fun z => if z = x then y else z) })

/-- The oldest staged word of a queue enters it (R142, R144). -/
def State.stagedEnters (s : State) (q : Nat) : State :=
  let c := q / 128
  match (s.cl c).staging.find? (fun x => decide (x.q = q % 128)) with
  | none => s
  | some x =>
    if !s.islandRuns c then s
    else
      let took := !(s.cl c).qFull x.q && ((s.cl c).queue x.q).declared x.prod x.psrc
      let s := s.updCl c (fun k => ({ k with staging := k.staging.erase x }).pushNb s.now x.q x.prod x.psrc x.w x.tag)
      match x.push with
      | some id => s.pushLeft c id took
      | none => s

/-- STAGED_WORD_ENTRY (R144). -/
def execStagedWordEntry (q : QId) (s : State) : Host.Outcome State Fault Refusal := act s (·.stagedEnters q.val)

/-- Whether a queue's stale timer has reached its timeout (R148, R170). -/
def Cluster.staleDue (k : Cluster) (now q : Nat) : Bool :=
  let u := k.queue q
  u.en && decide (u.stale ≠ 0) && decide (0 < u.count) && !u.staleStopped && !k.isTile q
    && decide (u.staleFrom + 64 * u.stale ≤ now)

/-- STALE_TIMEOUT (R148). -/
def execStaleTimeout (q : QId) (s : State) : Host.Outcome State Fault Refusal :=
  act s fun s =>
    let u := s.queue q.val
    if (s.cl (q.val / 128)).staleDue s.now (q.val % 128) && s.islandRuns (q.val / 128) then
      s.setQueue q.val ({ u with sx := true, staleStopped := true }.raise .stale)
    else s

/-- Whether an initiator reaches the queue registers of a cluster (R165). -/
def State.queueRights (s : State) (who c : Nat) : Bool :=
  s.openCluster c && (decide (who = fwId) || ownSeq who c || s.tenantAt who c)

/-- SQ_STALE_WRITE (R148). -/
def execSqStaleWrite (who : InitId) (q : QId) (v : Reg) (s : State) : Host.Outcome State Fault Refusal :=
  act s fun s =>
    let q := 128 * s.redir (q.val / 128) + q.val % 128
    if s.queueRights who.val (q / 128) then s.setQueue q ((s.queue q).setStale s.now v.toNat) else s.emit (.regValue none)

/-! ### Notices (R149 to R151, R228) -/

/-- The cluster that carried a standby's state before, or the cluster itself (R470). -/
def State.origin (s : State) (c : Nat) : Nat :=
  match s.noc.redirect.find? (fun p => decide (p.2 = c)) with
  | some p => p.1
  | none => c

/-- The global queue ID by which software knows a queue. -/
def State.qid (s : State) (q : Nat) : Nat := 128 * s.origin (q / 128) + q % 128

/-- Whether Belay holds an event of a queue of a cluster (R228). -/
def State.clusterHeld (s : State) (c : Nat) : Bool := s.lineHeld (256 + c)

/-- Whether a notice of queue q of a cluster follows those raised in its island cycle by queues of lower index that have not left yet
(R214); one to Belay that waits behind a held event keeps back only those to Belay (R228). -/
def State.noticeWaits (s : State) (q : Nat) (n : Notice) : Bool :=
  let c := q / 128
  (s.cl c).queues.any (fun (i, u) => decide (i < q % 128) && u.notices.any (fun m =>
    decide (m.edge = n.edge) && (decide (m.nkind ≠ 1) || decide (n.nkind = 1) || !s.clusterHeld c)))

/-- The head pending notice of a queue leaves toward its target (R149, R150): a line answers at once. -/
def State.noticeLeaves (s : State) (q : Nat) : State :=
  let u := s.queue q
  let c := q / 128
  match u.notices with
  | [] => s
  | n :: rest =>
    if u.onWay.isSome || !s.islandRuns c || s.noticeWaits q n then s
    else
      let gone := fun (way : Option Notice) => s.setQueue q { u with notices := rest, onWay := way }
      if n.nkind = 1 then
        if s.clusterHeld c then s
        else (gone (some n)).sendReq .hub { op := .evt, who := c, prio := 3, client := 9,
                                            evt := some (.event ⟨256 + c, n.target.toNat, 0, .queue q⟩) }
      else if n.nkind = 2 then forAll (s.withTwin c) (fun s c => s.raiseLine c (n.target.toNat % 8)) (gone none)
      else match s.tenantOf c with
        | some t => (gone (some n)).sendReq .hub { op := .evt, who := c, prio := 3, client := 9,
                                                     evt := some (.notice t { ring := n.target.toNat, kind := n.kind, status := 0, code := 0, id := s.qid q, orig := some (.queue q) }) }
        | none => gone none

/-- NOTICE_DELIVERY (R150). -/
def execNoticeDelivery (q : QId) (s : State) : Host.Outcome State Fault Refusal := act s (·.noticeLeaves q.val)

/-! ### Forward channels (R153 to R156) -/

/-- A send condition holds (R153). -/
def Cluster.fwdReady (k : Cluster) (ch : Nat) : Bool :=
  let f := k.fwd ch
  f.en && !f.packed.isEmpty && (decide (16 ≤ f.packed.length) || k.qEmpty f.sqid || (f.mover && decide (f.cred = 0)))

/-- The packed words of a channel leave as one push (R152 to R155): to a queue under a tag, to a mover as a posted push. While no tag is
free the channel waits (R245). -/
def State.fwdSend (s : State) (c ch : Nat) : State :=
  let f := (s.cl c).fwd ch
  let clear := fun (s : State) => s.updCl c (fun k => k.setFwd ch { k.fwd ch with packed := [] })
  if f.mover then
    let b : End := if 64 ≤ f.target then .hub else .array (moverRouter f.target) 2
    (clear s).sendReq b { op := .pushp, who := c, prio := s.lowerPrio c b f.prio, toMover := true, addr := f.target, chan := ch, words := f.packed, client := ch + 1 }
  else match s.freeTag c with
    | none => s
    | some t => (clear s).sendPush c t (ch + 1) (s.lowerPrio c (.array (s.redir (f.target / 128)) 0) f.prio) f.target f.packed

/-- Whether an earlier push of a channel still waits at the injection port, where the channels of a cluster meet their arbiter (R156,
R245). -/
def State.fwdQueued (s : State) (c ch : Nat) : Bool :=
  s.noc.packets.any (fun p => decide (p.spot = .source) && decide (p.who = c) && decide (p.client = ch + 1))

/-- FORWARD_CHANNEL_SEND (R153). -/
def execForwardChannelSend (c : ClId) (ch : ChId) (s : State) : Host.Outcome State Fault Refusal :=
  act s fun s =>
    let k := s.cl c.val
    if k.fwdReady ch.val && !s.fwdQueued c.val ch.val && s.maySendReq c.val && s.islandRuns c.val
        && ((k.fwd ch.val).mover || (s.freeTag c.val).isSome) then
      s.fwdSend c.val ch.val
    else s

/-! ### Repairs (R104 to R107) -/

/-- Planes of the live set regenerated into the shadow half (R104 step 2); the other planes of that half are zero. -/
def Cluster.regenerate (k : Cluster) : Cluster :=
  let src := fun (i p : Nat) => match k.copy with
    | some y => sget 0 y.planes (8 * i + p)
    | none => sget 0 k.planes (16 * i + 8 * b2n k.live + p)
  { k with planes := (List.range 16).foldl (fun m i => (List.range 8).foldl (fun m p =>
      sput 0 m (16 * i + 8 * b2n (!k.live) + p) (if bit k.mask.toNat p then src i p else 0)) m) k.planes }

/-- The spare of a cluster takes the place of a failing cell (R104 steps 1 to 3, R466, R482). -/
def State.beginRepair (s : State) (c cell : Nat) (phys : BitVec 5) : State :=
  let k := s.cl c
  let e := s.smap c
  if k.failing.head? ≠ some cell || k.repair.isSome || k.shadow.isSome || decide (0 < k.fill) || e.spared || e.spareBad
    || e.retired || !s.islandRuns c then s
  else
    let s := s.setSmap c { e with spared := true, lcell := BitVec.ofNat 4 cell, phys := phys }
    let s := s.log 0x10 (c * 2 ^ 24 + cell * 2 ^ 20 + phys.toNat)
    s.setCl c { k.regenerate with repair := some ⟨cell, upTo 1000 (s.now + 10000)⟩ }

/-- SPARE_REPAIR (R104). -/
def execSpareRepair (c : ClId) (cell : CellId) (phys : BitVec 5) (s : State) : Host.Outcome State Fault Refusal :=
  act s (·.beginRepair c.val cell.val phys)

/-- Words of a cell's memory that hold a double error (R58). -/
def Cell.lostWords (x : Cell) : List Nat := (x.bad.filter (fun e => decide (2 ≤ e.2))).map (·.1)

/-- The repair pause begins (R104 step 4, R105, R106): words of the failed cell that read as uncorrectable, those of the operand and those that
hold a double error, become 0 and are reported. The pause lasts the cycles of the operand; without any, or where no cycles occur, it ends at once. -/
def State.repairPause (s : State) (c : Nat) (bad : List Nat) (cycles : Nat) : State :=
  match (s.cl c).repair with
  | none => s
  | some r =>
    if (s.repairTick c).isNone || !s.inOrder r.tick then s
    else
      let s := forAll (bad ++ ((s.cl c).cell r.cell).lostWords).dedup (fun s w => s.cellUE c r.cell w) s
      if cycles = 0 || !s.clocked c then s.repairEnd c else s.updCl c (fun k => { k with pause := cycles })

/-- REPAIR_PAUSE (R104). -/
def execRepairPause (c : ClId) (bad : List (Fin 2048)) (cycles : Fin 2177) (s : State) : Host.Outcome State Fault Refusal :=
  act s (·.repairPause c.val (bad.map (·.val)) cycles.val)

end Sys2Proof.Machine
end

