-- ==== Sys2Proof/Machine/HbmOps.lean ====
section
/-! DEFINITION. The channel controllers: queues, schedule, refresh, freeze, repair, training (R291 to R316). -/

namespace Sys2Proof.Machine

/-- Records n refreshes that are issued back to back (R299, R300). -/
def Pc.refresh (p : Pc) (fast det : Bool) (n : Nat) : Pc :=
  let p := (List.range n).foldl (fun p _ => p.note { stamp := p.cycle, cmd := 7 }) p
  { p with owed := 0, runs := if 1 < n then satAdd p.runs 1 0xFFFF else p.runs, pauseOwed := decide (0 < n) || p.pauseOwed,
           busyUntil := max p.busyUntil p.cycle + (if det then n * 760 else n * hcyc fast 4100) }

/-- Refresh interval in ns (R299). -/
def Stack.interval (k : Stack) : Nat := if k.hot then 1950 else 3900

/-- Parts of a request by the bank that its bursts touch, in ascending address order (R286, R287). -/
def State.subRequests (s : State) (h : Held) : List (List Nat) :=
  let bs := (List.range ((h.addr + h.nbytes - 1) / 32 - h.addr / 32 + 1)).map (fun i => (h.addr / 32 + i) * 32)
  let banks := (bs.map (fun b => (s.hbmLoc b).bank)).eraseDups
  if (s.stack (h.addr / stackBytes)).order = 1 then banks.map (fun k => bs.filter (fun b => decide ((s.hbmLoc b).bank = k)))
  else [bs]

/-- Latency target of a class in controller cycles (R292). -/
def Stack.goal (k : Stack) (cls : Nat) : Nat :=
  let c := if cls = 0 then k.cls0 else if cls = 1 then k.cls1 else if cls = 2 then k.cls2 else k.cls3
  (c * 4 * (if k.rate then 115 else 80) + 99) / 100

/-- The PC that serves the requests of a PC: itself, or the other one of a mirrored pair once it is frozen (R315). -/
def State.serverOf (s : State) (i : Nat) : Nat := if (s.pc i).st = .degraded then pcPartner i else i

/-- At most one sub-request enters the queue in a controller cycle (R287, R291). -/
def Pc.enter (p : Pc) : Pc :=
  match p.entering with
  | r :: rest => if p.queue.length < 64 && decide (p.inAt ≠ some p.cycle) then { p with queue := p.queue ++ [r], entering := rest, inAt := some p.cycle } else p
  | [] => p

/-- A channel's oldest request leaves its port into its PC's queue when its entries are free (R287, R291). -/
def State.hbmEnqueue (s : State) (ch : Nat) : State :=
  match sget [] s.hbm.ports ch with
  | [] => s
  | h :: rest =>
    let i := (s.hbmLoc h.addr).pc
    let j := s.serverOf i
    let p := s.pc j
    let subs := s.subRequests h
    if p.sref || !p.entering.isEmpty || decide (p.inAt = some p.cycle) || decide (64 < p.queue.length + subs.length) || decide (p.st ≠ .service) then s
    else
      let rid := s.hbm.nextRid
      let new := subs.zipIdx.map (fun (bs, n) => ({ rid := rid, sub := 8 * rid + n, h := h, bursts := bs, arrive := p.cycle, cls := h.prio
                                                    goal := (s.stack (j / 32)).goal h.prio, role := if j = i then .own else .instead i } : HReq))
      let s := s.setPc j { ({ p with entering := new } : Pc).enter with lastReq := s.now }
      let s := s.setPc i { s.pc i with opens := (s.pc i).opens ++ [{ rid := rid, h := h, left := subs.length }] }
      { s with hbm := { s.hbm with ports := sput [] s.hbm.ports ch rest, nextRid := rid + 1 } }

/-- Urgency of a request at a cycle (R292). -/
def HReq.urgency (r : HReq) (cycle : Nat) : Nat :=
  let d := r.arrive + r.goal
  if d ≤ cycle then 3
  else
    let left := d - cycle
    if 4 * left ≤ r.goal then 2 else if 2 * left ≤ r.goal then 1 else 0

/-- Bytes of a request that lie in a burst: first offset within the request, address and length. -/
def HReq.part (r : HReq) (b : Nat) : Nat × Nat × Nat :=
  let lo := max r.h.addr b
  let hi := min (r.h.addr + r.h.nbytes) (b + 32)
  (lo - r.h.addr, lo, hi - lo)

/-- Whether a request covers a burst wholly. -/
def HReq.whole (r : HReq) (b : Nat) : Bool := decide (r.h.addr ≤ b) && decide (b + 32 ≤ r.h.addr + r.h.nbytes)

/-- What a PC can do in a cycle: the column command of an activation's next request, or an activation for a request. -/
inductive HAct where
  | col (a : Activation) (r : HReq)
  | row (r : HReq)
  deriving DecidableEq, Repr

/-- The partial burst that a write reads next (R296). -/
def HReq.readNext (r : HReq) : Option Nat := if r.h.data.isSome then (r.bursts.filter (fun b => !r.whole b))[r.rdone]? else none

/-- The burst of a request's next column command, and whether that command is a write (R296). -/
def HReq.next (r : HReq) : Nat × Bool :=
  match r.readNext with
  | some b => (b, false)
  | none => ((r.bursts[r.done]?).getD 0, r.h.data.isSome)

/-- The next request of an activation, where timing allows its column command (R293, R296, R317). -/
def State.colReady (s : State) (fast : Bool) (p : Pc) (a : Activation) : Option HReq :=
  match (s.merged p a).findSome? p.reqOf with
  | none => none
  | some r =>
    let wr := r.next.2
    let g := a.bank / 4
    let col := match p.lastCol with
      | none => true
      | some (t, k, _) => decide (t + (if k = g then 2 else 1) ≤ p.cycle)
    let turn := wr || p.lastWrs.all (fun (k, t) => match t with
      | some t => decide (t + 11 + (if k = g then hcyc fast 75 else hcyc fast 25) ≤ p.cycle)
      | none => true)
    if a.readyAt ≤ p.cycle && decide (r.arrive + 4 ≤ p.cycle) && (!wr || decide (r.hold ≤ p.cycle)) && col && turn then some r else none

/-- Whether timing allows an activation for a request (R293, R297, R317). -/
def State.rowReady (s : State) (fast : Bool) (i : Nat) (p : Pc) (r : HReq) : Bool :=
  let l := s.hbmLoc (r.bursts.headD 0)
  let inAct := p.acts.any (fun a => a.subs.contains r.sub || (decide (a.sid = l.sid) && decide (a.bank = l.bank)))
  let rrd := match p.lastActs.head? with
    | none => true
    | some (t, b) => decide (t + (if b / 4 = l.bank / 4 then hcyc fast 40 else hcyc fast 20) ≤ p.cycle)
  let faw := match p.lastActs[3]? with
    | none => true
    | some (t, _) => decide (t + hcyc fast 120 ≤ p.cycle)
  !inAct && rrd && faw && decide (r.arrive + 4 ≤ p.cycle) && decide (sget 0 p.bankFree (16 * l.sid + l.bank) ≤ p.cycle)
    && (!s.det || decide (p.cycle % 16 = 8 * (i % 2)))

/-- The command that a PC's scheduler chooses with its urgency (R293): the highest urgency of 1 or more, then column commands, then the
oldest request; in DETERMINISTIC mode strictly in arrival order (R297). -/
def State.hbmChoose (s : State) (i : Nat) (p : Pc) : Option (Nat × HAct) :=
  let fast := (s.stack (i / 32)).rate
  if p.cycle < p.busyUntil || p.sref || decide (p.st ≠ .service) then none
  else
    let cols := (if s.det then p.acts.take 1 else p.acts).filterMap (fun a => (s.colReady fast p a).map (fun r =>
      (((s.merged p a).filterMap p.reqOf).foldl (fun u x => max u (x.urgency p.cycle)) 0, true, r.sub, HAct.col a r)))
    let waiting := p.queue.filter (fun r => !p.acts.any (fun a => (s.merged p a).contains r.sub))
    let rows := ((if s.det then waiting.take 1 else waiting).filter (s.rowReady fast i p)).map (fun r =>
      (r.urgency p.cycle, false, r.sub, HAct.row r))
    let all := (cols ++ rows).map (fun x => if s.det then (0, x.2) else x)
    let better := fun (x y : Nat × Bool × Nat × HAct) =>
      if x.1 ≠ y.1 then decide (y.1 < x.1) else if x.2.1 != y.2.1 then x.2.1 else decide (x.2.2.1 < y.2.2.1)
    (all.foldl (fun (m : Option (Nat × Bool × Nat × HAct)) x => match m with
      | none => some x
      | some y => if better x y then some x else some y) none).map (fun x => (x.1, x.2.2.2))

/-! ### The command bus of a channel (R295) -/

def State.bus (s : State) (ch : Nat) : CmdBus := sget {} s.hbm.buses ch
def State.setBus (s : State) (ch : Nat) (b : CmdBus) : State := { s with hbm := { s.hbm with buses := sput {} s.hbm.buses ch b } }

/-- A PC in its next controller cycle, as its scheduler sees it. -/
def Pc.tick (p : Pc) : Pc := { p with cycle := p.cycle + 1 }

/-- Whether a PC with a command of an urgency has the channel's bus in this controller cycle (R24 to R26, R295), and the bus after it. The PC
whose cycle comes second finds the bus free where the first one left it. -/
def State.hbmGrant (s : State) (i : Nat) (urg : Option Nat) : Bool × CmdBus :=
  let b := s.bus (i / 2)
  let me := i % 2
  let other := 2 * (i / 2) + (1 - me)
  let take := fun u turn => (true, ({ turn := turn, ptr := sput 0 b.ptr u (1 - me) } : CmdBus))
  match b.turn with
  | some (w, used) =>
    if w ≠ me then
      match urg with
      | some u => if used then (false, { b with turn := none }) else take u none
      | none => (false, { b with turn := none })
    else first b me other take urg
  | none => first b me other take urg
where
  /-- The PC comes first in the cycle: it yields to a better command that the other PC has ready in the same cycle. -/
  first (b : CmdBus) (me other : Nat) (take : Nat → Option (Nat × Bool) → Bool × CmdBus) (urg : Option Nat) : Bool × CmdBus :=
    match urg, s.hbmChoose other (s.pc other).tick with
    | none, _ => (false, { b with turn := some (me, false) })
    | some u, none => take u (some (me, true))
    | some u, some (v, _) =>
      if v < u || (decide (u = v) && decide (rrPick 2 (sget 0 b.ptr u) (fun _ => true) = some me)) then take u (some (me, true))
      else (false, { b with turn := some (me, false) })

/-! ### Requests that end or move (R264, R287, R293, R296, R314, R315) -/

/-- Where a PC holds the byte of a burst that a request names. -/
def HReq.spot (r : HReq) (b : Nat) : Nat := if r.role = .own then b else mirrorAddr b

/-- A PC forgets an open request, with its sub-requests here and at the other PC of its pair. -/
def State.forget (s : State) (i rid : Nat) : State :=
  let s := s.setPc i { s.pc i with opens := (s.pc i).opens.filter (fun o => decide (o.rid ≠ rid)) }
  let f := fun (j : Nat) (r : HReq) => decide (r.rid = rid) && decide (r.home j = i)
  (s.without i (f i)).without (pcPartner i) (f (pcPartner i))

/-- Sub-requests of an open request of a PC that have not ended. -/
def State.subsOf (s : State) (i rid : Nat) : List HReq :=
  [i, pcPartner i].flatMap (fun j => ((s.pc j).queue ++ (s.pc j).entering).filter (fun r => decide (r.rid = rid) && decide (r.home j = i)))

/-- A sub-request has ended: with the last one, the request is answered (R287, R296). -/
def State.hbmDone (s : State) (i rid : Nat) : State :=
  let p := s.pc i
  match p.opens.find? (fun o => decide (o.rid = rid)) with
  | none => s
  | some o =>
    if 1 < o.left then s.setPc i { p with opens := p.opens.map (fun x => if x.rid = rid then { x with left := x.left - 1 } else x) }
    else
      let s := s.setPc i { p with opens := p.opens.filter (fun x => decide (x.rid ≠ rid)) }
      s.respond o.h 0 (if o.h.data.isSome then [] else
        (List.range o.h.nbytes).map (fun n => ((o.got.find? (fun g => decide (g.1 = n))).map (·.2)).getD 0))

/-- Whether both PCs of a mirrored pair hold the pair's bytes, seen from one (R314, R315). -/
def State.paired (s : State) (i : Nat) : Bool := (s.pc i).mir && (s.pc (pcPartner i)).mir && decide ((s.pc (pcPartner i)).st = .service)

/-- A write forwarded to the other PC of the pair (R314). -/
def State.forward (s : State) (i : Nat) (r : HReq) : State :=
  let j := pcPartner i
  let p := s.pc j
  s.setPc j { p with entering := p.entering ++ [{ r with role := .copy i, arrive := p.cycle, done := 0, rdone := 0, hold := 0, seen := []
                                                         goal := (s.stack (j / 32)).goal r.cls }], lastReq := s.now }

/-- The last column command of a sub-request has issued: a read waits for its data, and a write of a mirrored pair for its copy (R287, R296, R314). -/
def State.subDone (s : State) (i : Nat) (r : HReq) : State :=
  if r.h.data.isNone then s.setPc i { s.pc i with leaving := (s.pc i).leaving ++ [((s.pc i).cycle + 41, r.home i, r.rid)] }
  else if r.role = .own && s.paired i then s.forward i r
  else s.hbmDone (r.home i) r.rid

/-- Reads whose data has come through the encryption engine are answered: 24 cycles of read latency and 16 of the engine after the burst (R296, R374). -/
def State.leaves (s : State) (i : Nat) : State :=
  let p := s.pc i
  let (go, stay) := p.leaving.partition (fun e => decide (e.1 ≤ p.cycle))
  go.foldl (fun s e => s.hbmDone e.2.1 e.2.2) (s.setPc i { p with leaving := stay })

/-- The copies that a PC still owes to the other one of its pair count as written, as it stops (R315). -/
def State.endCopies (s : State) (i : Nat) : State :=
  let p := s.pc i
  let mine := (p.queue ++ p.entering).filter (fun r => match r.role with | .copy _ => true | _ => false)
  mine.foldl (fun s r => s.hbmDone (r.home i) r.rid) (s.without i (fun r => mine.contains r))

/-- Requests of a PC go on at the other one (R315): a write starts again, a read goes on. -/
def State.handOver (s : State) (i j : Nat) (role : Role) (f : HReq → Bool) : State :=
  let p := s.pc i
  let go := (p.queue ++ p.entering).filter f
  let s := s.without i f
  let q := s.pc j
  s.setPc j { q with entering := q.entering ++ go.map (fun r => { r with role := role, arrive := q.cycle, goal := (s.stack (j / 32)).goal r.cls
                                                                         done := if r.h.data.isSome then 0 else r.done, rdone := 0, hold := 0, seen := [] }) }

/-! ### Freeze (R304, R305, R315) -/

/-- A PC and what it holds stop: its trace holds from here (R319). -/
def State.stopPc (s : State) (i : Nat) (st : PcSt) : State := s.setPc i { s.pc i with st := st, held := true, acts := [] }

/-- Retirement of a PC (R307): absorbed as dead for good, and in the spare map. -/
def State.retirePc (s : State) (i : Nat) : State :=
  if (s.pc i).st = .retired then s
  else
    let q := pcPartner i
    let s := s.endCopies i
    let s := if (s.pc i).mir && decide ((s.pc q).st = .degraded) then ((s.stopPc q .frozen).dropPc q 4).setPcDead q true else s
    let s := s.dropPc i 4
    ((s.setPc i { s.pc i with st := .retired, sref := false }).setPcDead i true).log 0x32 (pcData i)

/-- A PC freezes (R305): owed refreshes are issued, the failure is recorded, the failing request answered DATAERR, the others DEAD, and the
PC absorbed as dead. The first PC of a mirrored pair is served by its partner instead (R315). Firmware repairs an anchor PC itself (R464), and a
freeze during a zero-fill retires the PC (R382). -/
def State.freeze (s : State) (i addr : Nat) (syn : Reg) (ue : Bool) (bad : Option (Nat × Nat)) : State :=
  let p := s.pc i
  let k := s.stack (i / 32)
  let p := if p.owed = 0 then p else p.refresh k.rate s.det p.owed
  let s := s.setPc i { p with faddr := addr, fsyn := syn, fue := ue, capar := !ue, ue := if ue then satAdd p.ue 1 0xFFFF else p.ue }
  let q := pcPartner i
  let s := s.log 0x30 (pcData i + (if ue then 1 else 2))
  if s.paired i then (((s.stopPc i .degraded).endCopies i).handOver i q (.instead i) (fun r => decide (r.role = .own)))
  else
    let s := match bad with
      | some (h, rid) => match (s.pc h).opens.find? (fun (o : HOpen) => decide (o.rid = rid)) with
        | some o => (s.forget h rid).respond o.h 6 []
        | none => s
      | none => s
    let s := ((s.stopPc i .frozen).dropPc i 4).setPcDead i true
    let s := if (s.pc i).mir then (((s.stopPc q .frozen).dropPc q 4).setPcDead q true) else s
    let s := s.log 0x23 (pcRouter i * 2 ^ 24 + 2 ^ 16 + 2 ^ (i % 2))
    if !anchorPc i then (if s.now < sget 0 s.sec.wipePcs i then s.retirePc i else s)
    else
      let p := s.pc i
      if 0 < p.soft then
        let s := s.setPc i { p with st := .service, soft := p.soft - 1, softUsed := p.softUsed + 1, fue := false, capar := false, held := false }
        ((if ue then s.hbmWrite (addr / 32 * 32) (List.replicate 32 0) else s).setPcDead i false).log 0x31 (pcData i)
      else if (List.range 4).all (fun m => [32 * m, 32 * m + 16].all (fun a => decide ((s.pc a).st ≠ .service))) then s.faultSafe 3
      else s

/-- A PC of a mirrored pair takes the bytes of the other one, which served alone, and its own requests again (R314, R315). -/
def State.resync (s : State) (i : Nat) : State :=
  let q := pcPartner i
  let s := s.copyPc q
  let s := ((s.pc q).queue ++ (s.pc q).entering).foldl (fun s r => match r.role, r.h.data with
    | .copy h, some d => if h = i then r.bursts.foldl (fun s b => let (off, lo, n) := r.part b; s.hbmWrite lo (slice d off n)) s else s
    | _, _ => s) s
  s.handOver q i Role.own (fun r => decide (r.role = .instead i))

/-- Restart of a frozen scheduler (R306, R319). -/
def State.resumePc (s : State) (i : Nat) : State :=
  let p := s.pc i
  let back := fun (s : State) => s.setPc i { s.pc i with st := .service, fue := false, capar := false, held := false }
  if p.st = .frozen then back s
  else if p.st = .degraded then (back s).resync i
  else s

/-! ### Cycles of the scheduler (R293 to R296, R304) -/

/-- The bytes of a column command that move a burst (R293, R296, R304): of a mirrored pair, where the PC holds them. -/
def State.moveBurst (s : State) (i : Nat) (r : HReq) (b : Nat) (wrong : Option (BitVec 256)) : State :=
  let (off, lo, n) := r.part b
  match r.h.data with
  | some d =>
    let s := match r.seen.find? (fun e => decide (e.1 = b)) with
      | some e => s.hbmWrite (r.spot b) (toLe 32 e.2.toNat)
      | none => s
    s.hbmWrite (r.spot lo) (slice d off n)
  | none =>
    let v := match wrong with
      | some w => slice (toLe 32 w.toNat) (lo - b) n
      | none => (List.range n).map (fun k => if r.role = Role.own then s.hbmByte (lo + k) else s.mirrorByte (lo + k))
    let h := r.home i
    let p := s.pc h
    s.setPc h { p with opens := p.opens.map (fun x => if x.rid = r.rid then { x with got := x.got ++ v.zipIdx.map (fun (y, k) => (off + k, y)) } else x) }

/-- A column command: a burst is read for a partial write or moves, the row closes behind the last one, and the request may end. -/
def State.column (s : State) (i : Nat) (a : Activation) (r : HReq) (ecc : EccEvent) : State :=
  let p := s.pc i
  let fast := (s.stack (i / 32)).rate
  let (b, wr) := r.next
  let merges := r.readNext.isSome
  let syn := match ecc with | .uncorrectable y => if wr then none else some y | _ => none
  let wrong := match ecc with | .wrong d => if wr then none else some d | _ => none
  let p := match ecc with
    | .corrected lane => if wr then p else { p with ce := satAdd p.ce 1 0xFFFF, faddr := r.spot b, corr := p.corr ++ [(s.now, lane.toNat)] }
    | _ => p
  let subs := s.merged p a
  let lastBurst := !merges && decide (r.done + 1 = r.bursts.length)
  let lastReq := decide (subs.getLast? = some r.sub) || !(subs.any (fun n => decide (n ≠ r.sub) && (p.reqOf n).isSome))
  let closes := lastBurst && lastReq
  let cmd : BitVec 4 := if wr then (if closes then 5 else 3) else (if closes then 4 else 2)
  let p := p.note { stamp := p.cycle, cmd := cmd, sid := a.sid, bank := a.bank, row := a.row, col := (s.hbmLoc b).col, req := some (r.rid, b) }
  let acts := if closes then p.acts.erase a else p.acts.map (fun x => if x = a then { a with subs := subs, closed := true } else x)
  let free := if wr then p.cycle + 11 + hcyc fast 160 + hcyc fast 140 else p.cycle + hcyc fast 50 + hcyc fast 140
  let key := 16 * a.sid + a.bank
  let r' := if merges then { r with rdone := r.rdone + 1, hold := if r.rdone = 0 then p.cycle + 36 else r.hold
                                    seen := match wrong with | some d => (b, d) :: r.seen | none => r.seen }
    else { r with done := r.done + 1 }
  let p := { p with
    acts := acts, lastCol := some (p.cycle, a.bank / 4, wr)
    lastWrs := if wr then sput none p.lastWrs (a.bank / 4) (some p.cycle) else p.lastWrs
    bankFree := if closes then sput 0 p.bankFree key (max (sget 0 p.bankFree key) free) else p.bankFree
    queue := if lastBurst && syn.isNone then p.queue.filter (fun x => decide (x.sub ≠ r.sub)) else p.queue.map (fun x => if x.sub = r.sub then (if syn.isSome then r else r') else x) }
  let s := s.setPc i p
  match syn with
  | some y => s.freeze i (r.spot b) y true (some (r.home i, r.rid))
  | none =>
    let s := if merges then s else s.moveBurst i r b wrong
    if lastBurst then s.subDone i r else s

/-- One controller cycle of a PC (R293, R295). -/
def State.hbmCycle (s : State) (i : Nat) (ecc : EccEvent) : State :=
  let p := s.pc i
  if p.sref then s
  else
    let p := { p.tick with lastReq := if p.queue.isEmpty && p.entering.isEmpty && p.leaving.isEmpty then p.lastReq else s.now }
    let act := s.hbmChoose i p
    let (mine, bus) := s.hbmGrant i (act.map (·.1))
    let s := ((s.setPc i p.enter).setBus (i / 2) bus).leaves i
    if !mine then s
    else match act with
      | none => s
      | some (_, .col a r) => s.column i a r ecc
      | some (_, .row r) =>
        let p := s.pc i
        let fast := (s.stack (i / 32)).rate
        let b := r.bursts.headD 0
        let l := s.hbmLoc b
        let subs := if s.det then [r.sub] else ((s.sameRow p l).map (·.sub)).take 8
        let a : Activation := { sid := l.sid, bank := l.bank, row := l.row, subs := subs, readyAt := p.cycle + hcyc fast 140 }
        let p := p.note { stamp := p.cycle, cmd := 1, sid := l.sid, bank := l.bank, row := l.row, req := some (r.rid, b) }
        s.setPc i { p with acts := p.acts ++ [a], lastActs := ((p.cycle, l.bank) :: p.lastActs).take 4
                           bankFree := sput 0 p.bankFree (16 * l.sid + l.bank) (p.cycle + hcyc fast 470) }

/-! ### Refresh and self-refresh (R299 to R303) -/

/-- Whether a class-2 request is queued. -/
def Pc.urgent (p : Pc) : Bool := p.queue.any (fun r => decide (r.cls = 2))

/-- A refresh falls due (R299, R300). -/
def State.refreshDue (s : State) (i : Nat) : State :=
  let p := s.pc i
  let k := s.stack (i / 32)
  if s.now < p.due || !k.insvc then s
  else
    let p := { p with due := p.due + k.interval }
    if p.sref then s.setPc i p
    else if p.urgent && !s.det && decide (p.owed < k.ppost) then
      s.setPc i { p with owed := p.owed + 1, postp := satAdd p.postp 1 0xFFFF }
    else s.setPc i (p.refresh k.rate s.det (p.owed + 1))

/-- Owed refreshes are issued back to back once no class-2 request is queued (R300). -/
def State.owedRun (s : State) (i : Nat) : State :=
  let p := s.pc i
  if p.owed = 0 || p.urgent then s else s.setPc i (p.refresh (s.stack (i / 32)).rate s.det p.owed)

/-- Requests at a channel's port for a PC. -/
def State.portHas (s : State) (i : Nat) : Bool := (sget [] s.hbm.ports (i / 2)).any (fun h => decide ((s.hbmLoc h.addr).pc = i))

/-- Self-refresh entry (R302), which takes 80 ns. -/
def State.srefEnter (s : State) (i : Nat) : State :=
  let p := s.pc i
  if s.sys.mode ≠ 5 || p.idleus = 0 || anchorPc i || decide (p.st ≠ .service) || p.sref || !p.queue.isEmpty || !p.entering.isEmpty || !p.leaving.isEmpty
    || s.portHas i || (s.stack (i / 32)).moving || decide (s.now < p.lastReq + 1000 * p.idleus) then s
  else
    let p := if p.owed = 0 then p else p.refresh (s.stack (i / 32)).rate s.det p.owed
    s.setPc i { p.note { stamp := p.cycle, cmd := 8 } with sref := true, srefAt := s.now + 80 }

/-- Self-refresh exit (R303), once entry has completed: it takes 460 ns, and due times go on from their phase. -/
def State.srefExit (s : State) (i : Nat) : State :=
  let p := s.pc i
  if !p.sref || !s.portHas i || decide (s.now < p.srefAt) then s
  else
    let k := s.stack (i / 32)
    let due := if s.now < p.due then p.due else p.due + ((s.now - p.due) / k.interval + 1) * k.interval
    s.setPc i { p.note { stamp := p.cycle, cmd := 9 } with
      sref := false, due := due, lastReq := s.now, busyUntil := max p.busyUntil p.cycle + hcyc k.rate 4600 }

/-! ### Training (R308 to R313) -/

/-- The eyes of the byte lanes in order. -/
def eyesList (e : Eyes) : List Eye := [e.lane0, e.lane1, e.lane2, e.lane3]

/-- A lane passes with both eyes at least 12 steps wide (R308). -/
def eyeOk (e : Eye) : Bool := decide (12 ≤ e.write.toNat) && decide (12 ≤ e.read.toNat)

/-- Least of a list of eyes, as a byte. -/
def leastEye (xs : List Nat) : BitVec 8 := BitVec.ofNat 8 (xs.foldl min 255)

/-- Training writes the training area of a PC (R289, R308, R310): its bytes are what the pattern leaves. -/
def State.trainWrite (s : State) (i : Nat) : State :=
  let top := (i / 32) * stackBytes + 8 * 2 ^ 32 + (i % 32 + 1) * unitBytes
  let s := s.hbmErase (top - 0x4000) top
  s.setPc i { s.pc i with trained := (s.pc i).trained + 1 }

/-- A full sweep of a PC with the eyes of its four byte lanes (R308): the pattern is written, the delays take the centres found, the eyes are
recorded, and the PC passes when every eye is at least 12 steps. -/
def State.sweepPc (s : State) (i : Nat) (eyes : Eyes) : Bool × State :=
  let s := s.trainWrite i
  let p := s.pc i
  let ls := eyesList eyes
  let delays := (List.range 8).foldl (fun m n => sput 0 m n (Config.eyeCentre (s.entropy + n) % 64)) p.delays
  let s := s.setPc i { p with delays := delays, stored := false, drift := false, weak := (List.range 4).filter (fun n => !((ls[n]?).map eyeOk).getD true)
                              wreye := leastEye (ls.map (·.write.toNat)), rdeye := leastEye (ls.map (·.read.toNat)) }
  (ls.all eyeOk, { s with entropy := s.entropy + 8 })

/-- A PC enters service: it has passed its sweep or check, and the stack reports its repairs (R306, R310). -/
def State.servePc (s : State) (i : Nat) : State :=
  let p := s.pc i
  s.setPc i { p with st := .service, due := s.now + (s.stack (i / 32)).interval, lastReq := s.now, trainDue := s.now + 16000000
                     hard := (Config.pprHard i).toNat - p.hardUsed, soft := (Config.pprSoft i).toNat - p.softUsed }

/-- A PC leaves service: what it holds is answered FENCED (R313). -/
def State.leavePc (s : State) (i : Nat) : State := (s.dropPc i 5).setPc i { (s.dropPc i 5).pc i with st := .out, sref := false }

end Sys2Proof.Machine
end

