-- ==== Sys2Proof/Machine/RegsHub.lean ====
section
/-! DEFINITION. Registers of hub control space (R168, R239, R278, R279, R318, R319, R353, R383, R463, R484, R507). -/

namespace Sys2Proof.Machine

/-- A register read: value and state after it; none where no register lies. -/
abbrev RegRd := Option (Nat × State)

/-- Index of a life-cycle state (R383). -/
def Lcs.code : Lcs → Nat
  | .blank => 0 | .provisioned => 1 | .owned => 2 | .debug => 3 | .retired => 4

/-- PWR_STATE.DSTATE (R463). -/
def DState.code : DState → Nat
  | .bringup => 1 | .service => 2 | .faultSafe => 3

def RKind.code : RKind → Nat
  | .cold => 0 | .warm => 1 | .lifecycle => 2

def PcSt.code : PcSt → Nat
  | .out => 0 | .service => 1 | .frozen => 2 | .retired => 3 | .degraded => 4

/-- Bits of a list of Booleans, first least significant. -/
def bitsOf (bs : List Bool) : Nat := bs.foldr (fun b a => b2n b + 2 * a) 0

/-! ### Belay (R239) -/

def State.blyRead (s : State) (o : Nat) : RegRd :=
  let b := s.belay
  if o = 0 then some (b.tick, s)
  else if o = 4 then some (b.scheme.toNat, s)
  else if 0x100 ≤ o && decide (o < 0x300) then
    let r := s.breg ((o - 0x100) / 8)
    some (if o % 8 = 0 then r.count % 65536 * 65536 + r.base else r.quota, s)
  else if 0x1000 ≤ o && decide (o < 0x1400) then
    let i := (o - 0x1000) / 16
    let r := s.breg i
    if o % 16 = 0 then some (r.disp, s.setBreg i { r with disp := 0 })
    else if o % 16 = 4 then some (r.fail, s.setBreg i { r with fail := 0 })
    else if o % 16 = 8 then some (r.qblk * 65536 + r.drop, s.setBreg i { r with qblk := 0, drop := 0 })
    else some (b2n r.exsat, s)
  else if 0x4000 ≤ o && decide (o < 0x8000) then
    let i := (o - 0x4000) / 16
    let t := s.timer i
    if o % 16 = 0 then some (t.period, s)
    else if o % 16 = 4 then some (t.rgn.toNat * 65536 + t.task.toNat, s)
    else if o % 16 = 8 then some (t.miss, s.setTimer i { t with miss := 0 })
    else some (0, s)
  else none

/-- A quota write; one that raises the quota retries what is held (R433). -/
def State.setQuota (s : State) (r q : Nat) : State :=
  let old := (s.breg r).quota
  let s := s.setBreg r { s.breg r with quota := q }
  if old < q then s.armRetry r else s

def State.blyWrite (s : State) (o v : Nat) : State :=
  if o = 0 then
    let n := v % 2 ^ 20
    if 250 ≤ n && decide (n ≤ 1000000) then s.setBelay { s.belay with tick := n } else s
  else if 0x100 ≤ o && decide (o < 0x300) then
    let i := (o - 0x100) / 8
    if o % 8 = 0 then s.setBreg i { s.breg i with count := v / 65536, base := v % 65536 } else s.setQuota i (v % 65536)
  else if 0x1000 ≤ o && decide (o < 0x1400) then
    let i := (o - 0x1000) / 16
    if o % 16 = 12 && bit v 0 then s.setBreg i { s.breg i with exsat := false } else s
  else if 0x4000 ≤ o && decide (o < 0x8000) && decide (o % 16 < 8) then s.timerWrite ((o - 0x4000) / 16) (o % 16 = 4) (BitVec.ofNat 32 v)
  else s

/-! ### Network (R278, R279) -/

def State.rtrRead (s : State) (r o : Nat) : RegRd :=
  let x := s.router r
  if o = 0 then some (b2n (!x.pend.isEmpty) * 256 + x.deadth * 16, s)
  else if 0x10 ≤ o && decide (o < 0x50) then
    let p := (o - 0x10) / 16
    if o % 16 = 0 then some ((sget 0 x.fwLo p).toNat, s)
    else if o % 16 = 4 then some ((sget 0 x.fwHi p).toNat, s)
    else if o % 16 = 8 then some (b2n (sget true x.fwHub p), s)
    else none
  else if 0x50 ≤ o && decide (o < 0x60) then
    let p := (o - 0x50) / 4
    some ((if p = 1 then x.pcdead.toNat * 16 else 0) + (x.absOf p).toNat, s)
  else if 0x60 ≤ o && decide (o < 0x70) then some ((sget 0xAAAAAAAA x.pmap ((o - 0x60) / 4)).toNat, s)
  else if 0x80 ≤ o && decide (o < 0x90) then
    let l := sget {} x.lanes ((o - 0x80) / 4)
    some (l.laneb.toNat * 65536 + l.lanea.toNat * 256 + b2n l.half * 4 + l.used, s)
  else if o = 0xA0 then some (x.pdrop * 65536 + x.retry, s.setRouter r { x with pdrop := 0, retry := 0 })
  else if 0x400 ≤ o && decide (o < 0xC00) && decide (o % 256 < 0x100) then
    some ((sget 0x7F x.slots (64 * ((o - 0x400) / 256) + o % 256 / 4)).toNat, s)
  else none

/-- A write of NOC_ABS (R267, R269, R271, R278). -/
def State.absWrite (s : State) (r p : Nat) (st pcd : Nat) : State :=
  let s := if st = 1 then s.pendRouter r (.absDead p)
    else if st = 0 then s.pendRouter r (.absClear p 3) else s
  if p = 1 then s.pendRouter r (.pcPut (BitVec.ofNat 2 pcd)) else s

def State.rtrWrite (s : State) (r o v : Nat) : State :=
  let x := s.router r
  if o = 0 then (if fld v 4 4 = 0 then s else s.setRouter r { x with deadth := fld v 4 4 })
  else if 0x10 ≤ o && decide (o < 0x50) then
    let p : Fin 4 := Fin.ofNat 4 ((o - 0x10) / 16)
    if o % 16 = 0 then s.pendRouter r (.set (.fwLo p (BitVec.ofNat 32 v)))
    else if o % 16 = 4 then s.pendRouter r (.set (.fwHi p (BitVec.ofNat 32 v)))
    else s.pendRouter r (.set (.fwHub p (bit v 0)))
  else if 0x50 ≤ o && decide (o < 0x60) then s.absWrite r ((o - 0x50) / 4) (v % 4) (fld v 4 2)
  else if 0x60 ≤ o && decide (o < 0x70) then s.pendRouter r (.set (.pmap (Fin.ofNat 4 ((o - 0x60) / 4)) (BitVec.ofNat 32 v)))
  else s

def State.iniRead (s : State) (i o : Nat) : RegRd :=
  let n := s.init i
  if o = 0 then some (n.tous, s)
  else if o = 4 then some (b2n (isHub i) * 128 + b2n n.unasg * 64 + n.rgn.toNat, s)
  else if o = 8 then some (n.nQuar * 2 ^ 18 + n.nBusy * 2 ^ 9 + n.nFree (nTags i), s)
  else if o = 0xC then some (n.late * 65536 + n.stray, s.setInit i { n with late := 0, stray := 0 })
  else if o = 0x10 then some (n.nStuck s.now * 65536 + n.tocnt, s.setInit i { n with tocnt := 0 })
  else if o = 0x14 then some (n.req, s.setInit i { n with req := 0 })
  else if o = 0x18 then some (n.words, s.setInit i { n with words := 0 })
  else if o = 0x1C then some (n.lmax, s.setInit i { n with lmax := 0 })
  else if 0x20 ≤ o then some (sget 0 n.hist ((o - 0x20) / 4), s.setInit i { n with hist := sput 0 n.hist ((o - 0x20) / 4) 0 })
  else none

def State.iniWrite (s : State) (i o v : Nat) : State :=
  let n := s.init i
  if o = 0 then
    let t := v % 2 ^ 20
    if 1 ≤ t && decide (t ≤ 1000000) then s.setInit i { n with tous := t } else s
  else if o = 4 then s.setInit i { n with unasg := bit v 6, rgn := BitVec.ofNat 6 v }
  else s

/-! ### HBM (R318, R319) -/

def HCmd.hi (c : HCmd) : Nat := c.cmd.toNat * 2 ^ 28 + c.sid * 2 ^ 26 + c.bank * 2 ^ 22 + c.row * 2 ^ 7 + c.col * 4

def State.pcRead (s : State) (i o : Nat) : RegRd :=
  let p := s.pc i
  if o = 0 then some (p.queue.length * 2 ^ 24 + p.owed * 256 + b2n (p.sref && decide (p.srefAt ≤ s.now)) * 8 + p.st.code, s)
  else if o = 4 then some (0, s)
  else if o = 8 then some (p.idleus, s)
  else if o = 0xC then some (p.ce * 65536 + p.ue, s.setPc i { p with ce := 0, ue := 0 })
  else if o = 0x10 then some (fld p.faddr 0 32, s)
  else if o = 0x14 then some (fld p.faddr 32 16, s)
  else if o = 0x18 then some (p.fsyn.toNat, s)
  else if o = 0x1C then some (2 * b2n p.capar + b2n p.fue, s)
  else if o = 0x20 then some (p.rdeye.toNat * 2 ^ 24 + p.wreye.toNat * 2 ^ 16 + 2 * b2n p.drift + b2n p.stored, s)
  else if o = 0x24 then some (p.postp * 65536 + p.runs, s.setPc i { p with postp := 0, runs := 0 })
  else if o = 0x28 then some (p.hard * 16 + p.soft, s)
  else if o = 0x2C then some (2 * b2n p.primary + b2n p.mir, s)
  else if 0x400 ≤ o && decide (o < 0x600) then
    match p.trace[(o - 0x400) / 8]? with
    | some c => some (if o % 8 = 0 then c.stamp % 2 ^ 32 else c.hi, s)
    | none => some (0, s)
  else none

def State.pcWrite (s : State) (i o v : Nat) : State :=
  let p := s.pc i
  if o = 4 then
    let s := if bit v 0 then s.resumePc i else s
    if bit v 1 then s.retirePc i else s
  else if o = 8 then s.setPc i { p with idleus := v % 65536 }
  else if o = 0x20 && bit v 1 then s.setPc i { p with drift := false }
  else s

def State.stackRead (s : State) (m o : Nat) : RegRd :=
  let k := s.stack m
  if o = 0 then some (b2n k.insvc * 256 + b2n k.rate * 16 + k.order.toNat, s)
  else if o = 4 then some (b2n k.hot * 256 + k.temp.toNat, s)
  else if o = 8 then some (k.cls1 * 65536 + k.cls0, s)
  else if o = 0xC then some (k.cls3 * 65536 + k.cls2, s)
  else if o = 0x10 then some (k.ppost, s)
  else none

def State.stackWrite (s : State) (m o v : Nat) : State :=
  let k := s.stack m
  if o = 0 then s.setStack m { k with order := BitVec.ofNat 2 v }
  else if o = 8 then s.setStack m { k with cls1 := fld v 16 16, cls0 := fld v 0 16 }
  else if o = 0xC then s.setStack m { k with cls3 := fld v 16 16, cls2 := fld v 0 16 }
  else if o = 0x10 && decide (v % 8 ≤ 4) then s.setStack m { k with ppost := v % 8 }
  else s

/-! ### Configuration (R353) -/

/-- Strapped group ID bits and boot source (R345, R349). -/
def Sys.gs (y : Sys) : Nat := fld y.straps.toNat 2 6
def Sys.bootSrc (y : Sys) : Nat := fld y.straps.toNat 8 2

/-- A read of CFG_LTKL, which latches CFG_LTKH (R353). -/
def LoadCtx.readLtk (x : LoadCtx) : Nat × LoadCtx :=
  (fld x.ltk.toNat 0 32, { x with ltkLatch := some (BitVec.ofNat 32 (fld x.ltk.toNat 32 32)) })

def State.cfgRead (s : State) (o : Nat) : RegRd :=
  let r := s.loader.rope
  if o = 0 then some (r.ghi.toNat * 64 + s.sys.gs, s)
  else if o = 4 then some (r.rto, s)
  else if o = 8 then some (b2n r.inimg * 32 + b2n r.faulto * 16 + b2n r.doneo * 8 + b2n (r.faultl && !r.faulto) * 4
    + b2n (r.donel && !r.doneo) * 2 + b2n r.lock, s)
  else if o = 0xC then some (r.rerr, s.setRope { r with rerr := 0 })
  else if o = 0x10 then some (s.sys.bootSrc, s)
  else if 0x100 ≤ o && decide (o < 0x1A0) then
    let i := (o - 0x100) / 32
    let x := s.ctx i
    let k := (o - 0x100) % 32
    if k = 0 then some (x.lst.toNat, s)
    else if k = 4 then some (x.lfrm.toNat, s)
    else if k = 8 then let (v, x) := x.readLtk; some (v, s.setCtx i x)
    else if k = 12 then some ((x.ltkLatch.map (·.toNat)).getD (fld x.ltk.toNat 32 32), s.setCtx i { x with ltkLatch := none })
    else if k = 16 then some (b2n x.busy, s)
    else none
  else none

def State.cfgWrite (s : State) (o v : Nat) : State :=
  let r := s.loader.rope
  if o = 0 then s.setRope { r with ghi := BitVec.ofNat 6 (fld v 6 6) }
  else if o = 4 && decide (1 ≤ v % 65536) && decide (v % 65536 ≤ 60000) then s.setRope { r with rto := v % 65536 }
  else s

/-! ### Security, power, Cairn, interfaces (R383, R463, R484, R507) -/

def State.secRead (s : State) (o : Nat) : RegRd :=
  if o = 0 then some (b2n s.sec.trans.isSome * 256 + s.sec.dbgcnt * 16 + s.sec.lcs.code, s)
  else if o = 4 then some (bitsOf ((List.range 4).map (fun p => (s.spdm p).session.isSome)), s)
  else if 0x10 ≤ o && decide (o < 0x30) then some (bitsOf ((List.range 32).map (fun i => (s.key (32 * ((o - 0x10) / 4) + i)).isSome)), s)
  else if o = 0x40 then 
    let n := (s.sec.wipeUnits.filter (fun e => decide (s.now < e.2))).length
    some (n * 65536 + 2 * b2n (decide (0 < n)) + b2n (s.sec.wipeCls.any (fun e => decide (s.now < e.2))), s)
  else if 0x80 ≤ o && decide (o < 0x90) then
    let i := (o - 0x80) / 4
    some ((s.stack i).deny, s.setStack i { s.stack i with deny := 0 })
  else none

/-- Enables that wait for a disable (R459, R463): of islands and rings, requests at a PC that enters self-refresh, and allocations that
wait for the release of their clusters or units. -/
def State.enablesWaiting (s : State) : Nat :=
  s.sys.pend.length
    + ((s.hbm.pcs.map (·.1)).filter (fun i => (s.pc i).sref && decide (s.now < (s.pc i).srefAt) && s.portHas i)).length
    + (s.host.waits.filter (fun w => match w.cmd with
        | .regionAlloc _ a => (rect a.x0.toNat a.y0.toNat a.w.toNat a.h.toNat).all (fun c => s.islOn (islandOf c))
        | .regionResize _ _ _ _ => true
        | _ => false)).length

def State.pwrRead (s : State) (o : Nat) : RegRd :=
  let y := s.sys
  let bits := fun (f : Nat → Bool) (b : Nat) => bitsOf ((List.range 32).map (fun i => f (b + i)))
  if o = 0 then some (b2n y.change.isSome * 512 + b2n y.full * 256 + y.mode * 16 + y.dstate.code, s)
  else if o = 4 then some (y.bootMode, s)
  else if o = 8 then some (bits s.islOn 0, s)
  else if o = 0xC then some (bits s.islOn 32, s)
  else if o = 0x10 then some (bits s.islSvc 0, s)
  else if o = 0x14 then some (bits s.islSvc 32, s)
  else if o = 0x18 then some (y.gidle, s)
  else if o = 0x1C then some (y.rcause.code, s)
  else if o = 0x20 then some (y.fscause.toNat, s)
  else if o = 0x24 then some (min s.enablesWaiting 255, s)
  else none

def State.pwrWrite (s : State) (o v : Nat) : State :=
  if o = 4 && decide (v % 8 ≤ 5) then { s with sys := { s.sys with bootMode := v % 8 } }
  else if o = 0x18 && decide (v % 65536 ≠ 0) then { s with sys := { s.sys with gidle := v % 65536 } }
  else s

def SpareEntry.word (e : SpareEntry) : Nat :=
  b2n e.retired * 2 ^ 31 + b2n e.standby * 2 ^ 30 + b2n e.patch * 2 ^ 29 + b2n e.spared * 2 ^ 20 + e.lcell.toNat * 2 ^ 16
    + e.phys.toNat * 2 ^ 8 + e.src0.toNat

def State.crnRead (s : State) (o : Nat) : RegRd :=
  let r := s.rel
  if o = 0 then some (b2n r.crnEn, s)
  else if o = 4 then some (r.passes, s)
  else if o = 8 then some (r.notrun, s)
  else if o = 0xC then some (r.fails, s)
  else if o = 0x10 then some (r.lastfail.toNat, s)
  else if o = 0x14 then some (r.busy, s)
  else if 0x100 ≤ o && decide (o < 0x500) then some ((s.smap ((o - 0x100) / 4)).word, s)
  else none

/-- A write of CRN_CTL (R484). -/
def State.setCrnEn (s : State) (v : Bool) : State := { s with rel := { s.rel with crnEn := v } }

def State.ethRead (s : State) (n o : Nat) : RegRd :=
  let e := s.eth n
  if o = 0 then some (bitsOf ((List.range 4).map (sget false e.link)) * 16 + e.split, s)
  else if o = 4 then some (bitsOf ((List.range 4).map (fun a => e.sas.any (fun x => !x.tx && decide (x.an = a))) ++
    (List.range 4).map (fun a => e.sas.any (fun x => x.tx && decide (x.an = a)))), s)
  else if o = 0x10 then some (e.rxerr, s.setEth n { e with rxerr := 0 })
  else if o = 0x14 then some (e.noMatch, s.setEth n { e with noMatch := 0 })
  else if o = 0x18 then some (e.txdrop, s.setEth n { e with txdrop := 0 })
  else if o = 0x1C then some (e.egerr, s.setEth n { e with egerr := 0 })
  else if o = 0x20 then some (e.mdrop, s.setEth n { e with mdrop := 0 })
  else if o = 0x24 then some (2 * b2n (s.ext.ptp.src = some n) + b2n s.ext.ptp.locked, s)
  else none

def State.gioRead (s : State) (b o : Nat) : RegRd :=
  let k := s.bank b
  if o = 0 then some (k.vlvl.toNat * 256 + b2n k.record.isSome, s)
  else if o = 4 then some (k.pins.toNat, s)
  else if o = 8 then some (k.drop, s.setBank b { k with drop := 0 })
  else none

def State.serRead (s : State) (o : Nat) : RegRd :=
  if o = 0 then some (s.ext.pmbFails, { s with ext := { s.ext with pmbFails := 0 } })
  else if o = 4 then some (b2n s.ext.bootWidth, s)
  else none

/-! ### Hub control space -/

/-- The register of hub control space at an offset, as a read. -/
def State.hubReg (s : State) (o : Nat) : RegRd :=
  if o % 4 ≠ 0 then none
  else if 0x300000 ≤ o && decide (o < 0x308000) then s.blyRead (o - 0x300000)
  else if 0x400000 ≤ o && decide (o < 0x500000) then s.rtrRead ((o - 0x400000) / 0x1000) (o % 0x1000)
  else if 0x500000 ≤ o && decide (o < 0x540000) then s.iniRead ((o - 0x500000) / 0x40) (o % 0x40)
  else if 0x600000 ≤ o && decide (o < 0x640000) then s.pcRead ((o - 0x600000) / 0x800) (o % 0x800)
  else if 0x640000 ≤ o && decide (o < 0x640400) then s.stackRead ((o - 0x640000) / 0x100) (o % 0x100)
  else if 0x700000 ≤ o && decide (o < 0x701000) then s.cfgRead (o - 0x700000)
  else if 0x800000 ≤ o && decide (o < 0x801000) then s.secRead (o - 0x800000)
  else if 0x900000 ≤ o && decide (o < 0x901000) then s.pwrRead (o - 0x900000)
  else if 0xA00000 ≤ o && decide (o < 0xA01000) then s.crnRead (o - 0xA00000)
  else if 0xB00000 ≤ o && decide (o < 0xB08000) then s.ethRead ((o - 0xB00000) / 0x1000) (o % 0x1000)
  else if 0xC00000 ≤ o && decide (o < 0xC00400) then s.gioRead ((o - 0xC00000) / 0x100) (o % 0x100)
  else if 0xD00000 ≤ o && decide (o < 0xD01000) then s.serRead (o - 0xD00000)
  else none

/-- The effect of a firmware write at an offset of hub control space. -/
def State.hubPut (s : State) (o v : Nat) : State :=
  if 0x300000 ≤ o && decide (o < 0x308000) then s.blyWrite (o - 0x300000) v
  else if 0x400000 ≤ o && decide (o < 0x500000) then s.rtrWrite ((o - 0x400000) / 0x1000) (o % 0x1000) v
  else if 0x500000 ≤ o && decide (o < 0x540000) then s.iniWrite ((o - 0x500000) / 0x40) (o % 0x40) v
  else if 0x600000 ≤ o && decide (o < 0x640000) then s.pcWrite ((o - 0x600000) / 0x800) (o % 0x800) v
  else if 0x640000 ≤ o && decide (o < 0x640400) then s.stackWrite ((o - 0x640000) / 0x100) (o % 0x100) v
  else if 0x700000 ≤ o && decide (o < 0x701000) then s.cfgWrite (o - 0x700000) v
  else if 0x900000 ≤ o && decide (o < 0x901000) then s.pwrWrite (o - 0x900000) v
  else if o = 0xA00000 then s.setCrnEn (bit v 0)
  else s

/-- A read of hub control space (R12, R22): mover registers by their rights, every other register by firmware only. -/
def State.hubRead (s : State) (who o n : Nat) : Acc :=
  if n ≠ 4 || decide (o % 4 ≠ 0) then ⟨3, [], s⟩
  else if 0x200000 ≤ o && decide (o < 0x204000) then
    let m := (o - 0x200000) / 256
    match (s.mover m).readReg (o % 256) with
    | none => ⟨2, [], s⟩
    | some v => if s.moverRights who m then ⟨0, toLe 4 v, s⟩ else ⟨3, [], s⟩
  else match s.hubReg o with
    | none => ⟨2, [], s⟩
    | some (v, t) => if who = fwId then ⟨0, toLe 4 v, t⟩ else ⟨3, [], s⟩

/-- A write of hub control space. -/
def State.hubWrite (s : State) (who o : Nat) (bs : List Byte) : Acc :=
  if bs.length ≠ 4 || decide (o % 4 ≠ 0) then ⟨3, [], s⟩
  else if 0x200000 ≤ o && decide (o < 0x204000) then
    let m := (o - 0x200000) / 256
    match (s.mover m).writeReg (o % 256) (leNat bs) with
    | none => ⟨2, [], s⟩
    | some x => if s.moverRights who m then ⟨0, [], s.setMover m x⟩ else ⟨3, [], s⟩
  else match s.hubReg o with
    | none => ⟨2, [], s⟩
    | some _ => if who = fwId then ⟨0, [], s.hubPut o (leNat bs)⟩ else ⟨3, [], s⟩

end Sys2Proof.Machine
end

