-- ==== Sys2Proof/Machine/Transit.lean ====
section
/-! DEFINITION. The network's cycles: virtual channels, arbitration, links, injection (R24 to R28, R245, R250 to R262, R272), and device
time (R30). -/

namespace Sys2Proof.Machine

/-! ### Arbitration (R24, R25) -/

/-- The winner among requesters given as (index, priority): the highest priority, then the first at or after the pointer of that
priority. Answers the index and the priority. -/
def arbitrate (n : Nat) (ptr : Nat → Nat) (rs : List (Nat × Nat)) : Option (Nat × Nat) :=
  let best := rs.foldl (fun m r => max m r.2) 0
  (rrPick n (ptr best) (fun i => rs.contains (i, best))).map (fun i => (i, best))

/-! ### Buffers (R252) -/

/-- Key of the buffer of a virtual channel: the inputs of a router are its ports 0 to 7, its local ports outward 8 to 11, and the
senders at its local ports 12 to 15. -/
def bufKey (r port vc : Nat) : Nat := 64 * r + 4 * port + vc
def keyRtr (k : Nat) : Nat := k / 64
def keyPort (k : Nat) : Nat := k / 4 % 16
def keyVc (k : Nat) : Nat := k % 4

def Noc.buf (n : Noc) (k : Nat) : VcBuf := sget {} n.bufs k
def Noc.setBuf (n : Noc) (k : Nat) (b : VcBuf) : Noc := { n with bufs := sput {} n.bufs k b }
def Noc.packet (n : Noc) (id : Nat) : Option Packet := n.packets.find? (fun p => decide (p.id = id))
def State.setNoc (s : State) (n : Noc) : State := { s with noc := n }

/-- The buffer behind output o of a router on a virtual channel. -/
def downKey (r o vc : Nat) : Nat := if o < 4 then bufKey (neighbour r o) ((o + 2) % 4) vc else bufKey r (o + 4) vc

/-- The output of a buffer's packet: its injection for a sender, else its way (R254). -/
def outOf (p : Packet) (k : Nat) : Nat := if 12 ≤ keyPort k then keyPort k else outPort (keyRtr k) p.dst p.nowrap

/-- The downstream buffer that the head of a packet asks for (R251). -/
def wantedKey (p : Packet) (k : Nat) : Nat :=
  let o := outOf p k
  downKey (keyRtr k) o (nextVc (keyRtr k) (keyPort k) (keyVc k) o)

/-- Whether the mode replaces priority by fixed slots (R259, R260): DETERMINISTIC or ISOLATED. -/
def State.slotted (s : State) : Bool := s.sys.mode = 2 || s.sys.mode = 4

/-- The priority that the network's arbiters see (R257, R259, R260). -/
def State.netPrio (s : State) (p : Packet) : Nat := if s.slotted then 0 else p.prio

/-- Whether a link direction is at half width (R274). -/
def State.halfWidth (s : State) (r o : Nat) : Bool := decide (o < 4) && ((sget {} (s.router r).lanes o) : Lane).half

/-- Whether a router holds a granted packet (R272). -/
def State.granted (s : State) (r : Nat) : Bool := s.noc.bufs.any (fun e => decide (keyRtr e.1 = r) && decide (keyPort e.1 < 8) && e.2.next.isSome)

/-! ### Arrival of flits -/

/-- A flit reaches a buffer; the last one of a packet at a local port completes it. The head of a response fixes its latency. -/
def State.flitLands (s : State) (k : Nat) : State :=
  let b := s.noc.buf k
  let b := { b with got := b.got + 1 }
  match s.noc.packet b.pkt with
  | none => s
  | some p =>
    if keyPort k < 8 then s.setNoc (s.noc.setBuf k b)
    else
      let q := if b.got = 1 then { p with headAt := s.noc.cycle } else p
      if b.got < p.flits then s.setNoc { s.noc.setBuf k b with packets := s.noc.packets.map (fun x => if x.id = p.id then q else x) }
      else s.setNoc { s.noc.setBuf k {} with packets := s.noc.packets.filter (fun x => decide (x.id ≠ p.id)) ++ [{ q with spot := .arrived }] }

/-- Flits whose time has come land. -/
def State.landFlits (s : State) : State :=
  let due := s.noc.air.filter (fun e => decide (e.1 ≤ s.noc.cycle))
  let s := s.setNoc { s.noc with air := s.noc.air.filter (fun e => decide (s.noc.cycle < e.1)) }
  due.foldl (fun s e => s.flitLands e.2) s

/-! ### Allocation of virtual channels (R252, R257, R272) -/

/-- Buffers whose head asks for a downstream buffer that is idle, at routers without a pending change. -/
def State.heads (s : State) : List (Nat × Packet) :=
  s.noc.bufs.filterMap (fun e =>
    if keyPort e.1 < 8 && decide (1 ≤ e.2.got) && e.2.next.isNone && (s.router (keyRtr e.1)).pend.isEmpty then
      match s.noc.packet e.2.pkt with
      | some p => if s.noc.buf (wantedKey p e.1) = {} then some (e.1, p) else none
      | none => none
    else none)

/-- A downstream buffer is given to one of the heads that ask for it; at a local port the packet is judged (R272). -/
def State.allocateVc (s : State) (t : Nat) (hs : List (Nat × Packet)) : State :=
  match hs with
  | [] => s
  | (k0, p0) :: _ =>
    let r := keyRtr k0
    let o := outOf p0 k0
    let x := s.router r
    let base := 16 * o + 4 * keyVc t
    match arbitrate 8 (fun l => sget 0 x.vptr (base + l)) (hs.map (fun h => (keyPort h.1, s.netPrio h.2))) with
    | none => s
    | some (i, l) => match hs.find? (fun h => decide (keyPort h.1 = i) && decide (s.netPrio h.2 = l)) with
      | none => s
      | some (k, p) =>
        let s := s.setRouter r { x with vptr := sput 0 x.vptr (base + l) ((i + 1) % 8) }
        let n := (s.noc.setBuf k { s.noc.buf k with next := some t }).setBuf t { pkt := p.id }
        let n := if 8 ≤ keyPort t then { n with packets := n.packets.map (fun y => if y.id = p.id then { y with verdict := some (s.meet y) } else y) } else n
        s.setNoc n

def State.allocateVcs (s : State) : State :=
  let hs := s.heads
  ((hs.map (fun h => wantedKey h.2 h.1)).eraseDups).foldl (fun s t => s.allocateVc t (hs.filter (fun h => decide (wantedKey h.2 h.1 = t)))) s

/-! ### Switch allocation (R257, R259, R260) -/

/-- Requester index of a buffer at an output: 4 x input + VC; of a sender, its VC. -/
def swIndex (k : Nat) : Nat := if 12 ≤ keyPort k then keyVc k else 4 * keyPort k + keyVc k

/-- The region of a packet, 64 for the hub (R260). -/
def State.packetRegion (s : State) (p : Packet) : Nat := if isHub p.who then 64 else (s.initRegion p.who).getD 64

/-- Whether the slot of an output belongs to a buffer's packet (R27, R28, R259, R260). -/
def State.slotOpen (s : State) (r o k : Nat) (p : Packet) : Bool :=
  if !s.slotted || decide (12 ≤ o) then true
  else
    let w := (sget 0x7F (s.router r).slots (64 * o + s.noc.cycle % 64)).toNat
    if s.sys.mode = 2 then decide (w = keyPort k) else decide (w = s.packetRegion p)

/-- Buffers with a flit to send at an output. -/
def State.ready (s : State) : List (Nat × Nat × Packet) :=
  s.noc.bufs.filterMap (fun e =>
    if e.2.next.isSome && decide (e.2.sent < e.2.got) then (s.noc.packet e.2.pkt).map (fun p => (64 * keyRtr e.1 + outOf p e.1, e.1, p)) else none)

/-- An output sends one flit. -/
def State.sendFlit (s : State) (ro : Nat) (cs : List (Nat × Nat × Packet)) : State :=
  let r := ro / 64
  let o := ro % 64
  let x := s.router r
  if s.noc.cycle < sget 0 x.busy o then s
  else
    let cs := cs.filter (fun c => s.slotOpen r o c.2.1 c.2.2)
    match arbitrate 32 (fun l => sget 0 x.sptr (4 * o + l)) (cs.map (fun c => (swIndex c.2.1, s.netPrio c.2.2))) with
    | none => s
    | some (i, l) => match cs.find? (fun c => decide (swIndex c.2.1 = i) && decide (s.netPrio c.2.2 = l)) with
      | none => s
      | some (_, k, p) =>
        let half := s.halfWidth r o
        let b := s.noc.buf k
        let s := s.setRouter r { x with sptr := sput 0 x.sptr (4 * o + l) ((i + 1) % 32), busy := sput 0 x.busy o (if half then s.noc.cycle + 2 else 0) }
        let n := s.noc.setBuf k (if b.sent + 1 = p.flits then {} else { b with sent := b.sent + 1 })
        s.setNoc { n with air := n.air ++ [(n.cycle + linkCycles r o half, b.next.getD 0)] }

def State.sendFlits (s : State) : State :=
  let cs := s.ready
  ((cs.map (·.1)).eraseDups).foldl (fun s ro => s.sendFlit ro (cs.filter (fun c => decide (c.1 = ro)))) s

/-! ### Injection (R245, R253, R258, R261) -/

/-- Requester index at an injection port: the client of a cluster (R245), the initiator elsewhere. -/
def Packet.requester (p : Packet) : Nat := if p.op.resp then 0 else if isCluster p.who then p.client else p.who % 64

/-- Input space of a destination port that firmware has given an initiator (R261, log 98). -/
def shareOf (i : Nat) (dst : Nat × Nat) : Nat := 1 + Config.portShare i (4 * dst.1 + dst.2)

/-- Whether a packet may enter: a request in DETERMINISTIC and ISOLATED modes with an end-to-end credit (R261), a forward channel in
these modes in its slot (R27, R156). -/
def State.mayEnter (s : State) (p : Packet) : Bool :=
  let k := 4096 * (4 * p.dst.1 + p.dst.2) + p.who
  p.op.resp || !s.slotted || (decide (sget 0 s.noc.e2e k < shareOf p.who p.dst)
    && (!isCluster p.who || decide (p.client = 0) || decide (8 < p.client) || decide (s.noc.cycle % 8 = p.client - 1)))

/-- Class of a packet at its injection port: its router and local port, and request or response. -/
def Packet.injectKey (p : Packet) : Nat := bufKey p.src.1 (12 + p.src.2) (2 * b2n p.op.resp)

/-- The packets that wait at injection ports, the oldest of each requester and priority. -/
def State.waitingPackets (s : State) : List Packet :=
  (s.noc.packets.filter (fun p => decide (p.spot = .source))).foldl (fun a p =>
    if a.any (fun q => decide (q.injectKey = p.injectKey) && decide (q.requester = p.requester) && decide (q.who = p.who) && decide (q.prio = p.prio)) then a
    else a ++ [p]) []

/-- A packet begins to enter the network. -/
def State.enterPacket (s : State) (p : Packet) : State :=
  let k := p.injectKey
  let t := bufKey p.src.1 (4 + p.src.2) (2 * b2n p.op.resp)
  let e := 4096 * (4 * p.dst.1 + p.dst.2) + p.who
  let n := (s.noc.setBuf k { pkt := p.id, got := p.flits, next := some t }).setBuf t { pkt := p.id }
  let s := s.setNoc { n with packets := n.packets.map (fun x => if x.id = p.id then { x with spot := .moving } else x)
                             e2e := if p.op.resp then n.e2e else sput 0 n.e2e e (sget 0 n.e2e e + 1) }
  if p.op.resp || p.op.posted then s
  else
    let i := s.init p.who
    s.setInit p.who (i.setTagOf p.tag { i.tagOf p.tag with head := s.noc.cycle })

/-- One packet of each class enters at an injection port whose input channel is idle. -/
def State.inject (s : State) (k : Nat) (ps : List Packet) : State :=
  if s.noc.buf k ≠ {} || decide (s.noc.buf (bufKey (keyRtr k) (keyPort k - 8) (keyVc k)) ≠ {}) then s
  else
    let ptr := fun (l : Nat) => 32 * keyRtr k + 8 * (keyPort k - 12) + 2 * keyVc k + l
    match arbitrate 64 (fun l => sget 0 s.noc.iptr (ptr l)) (ps.map (fun p => (p.requester, s.netPrio p))) with
    | none => s
    | some (i, l) => match ps.find? (fun p => decide (p.requester = i) && decide (s.netPrio p = l)) with
      | none => s
      | some p => (s.setNoc { s.noc with iptr := sput 0 s.noc.iptr (ptr l) ((i + 1) % (if isCluster p.who then 10 else 64)) }).enterPacket p

def State.injectAll (s : State) : State :=
  let ps := s.waitingPackets.filter s.mayEnter
  ((ps.map (·.injectKey)).eraseDups).foldl (fun s k => s.inject k (ps.filter (fun p => decide (p.injectKey = k)))) s

/-! ### Cycles and device time -/

/-- One NoC cycle (log 95). -/
def State.netCycle (s : State) : State :=
  let s := s.setNoc { s.noc with cycle := s.noc.cycle + 1 }
  if s.noc.packets.all (fun p => decide (p.spot = .arrived)) then s
  else s.landFlits.injectAll.allocateVcs.sendFlits

/-- The NoC clock in 100 MHz: 2.2 GHz, in ECONOMY mode and in reduced service 1.6 GHz (R449, R462); none while the quadrants relock, then
that of the new mode (R453 step 4). -/
def State.nocClock (s : State) : Nat :=
  let rate := fun (m : Nat) => if m = 5 then 16 else 22
  match s.sys.change with
  | some ch => if ch.step = 4 then 0 else if 4 < ch.step then rate ch.mode
      else if s.sys.dstate = .bringup then 16 else rate s.sys.mode
  | none => if s.sys.dstate = .bringup then 16 else rate s.sys.mode

/-- NoC cycles in the first n ns of device time. -/
def State.nocCycles (s : State) (n : Nat) : Nat := s.nocClock * n / 10

def State.netCycles (s : State) : Nat → State
  | 0 => s
  | n + 1 => s.netCycle.netCycles n

end Sys2Proof.Machine
end

