-- ==== Sys2Proof/Machine/Network.lean ====
section
/-! DEFINITION. The commands of the network (R243 to R276, R152 to R155). -/

namespace Sys2Proof.Machine

/-! ### Requests for memory and registers (R246 to R249) -/

/-- Bytes that a request asks for or carries (R247). -/
def reqBytes (r : Request) : Nat := if r.size = 0 then 16 * (r.len.val + 1) else if r.size = 1 then 4 else 8

/-- Data of a write as bytes. -/
def reqData (r : Request) : List Byte := (r.data.flatMap wordBytes).take (reqBytes r)

/-- Whether a packet can have this form (R246, R247): SIZE defined, LEN 0 with a part word, a write's words as LEN says. -/
def reqFormed (r : Request) (write : Bool) : Bool :=
  decide (r.size ≠ 3) && (decide (r.size = 0) || decide (r.len = 0)) && (!write || decide (r.data.length = r.len.val + 1))

/-- A target has accepted one more request (R268). -/
def State.noteAccept (s : State) : State := s.setNoc { s.noc with accepted := s.noc.accepted + 1 }

/-- A cluster target takes a request (R57, R174): cell memories and data memory make it wait, the rest answers at once. -/
def State.winTake (s : State) (h : Held) (c o : Nat) : State :=
  let closed := s.loader.barrier.contains c && decide (h.who ≠ loaderId)
  if winArea o = winArea (o + h.nbytes - 1) && decide (winArea o = some 0) && !closed then
    s.noteAccept.updCl c (fun k => { k with cellWait := k.cellWait ++ [{ h with ord := s.noc.accepted }] })
  else if winArea o = winArea (o + h.nbytes - 1) && decide (winArea o = some 4) && !closed then
    s.noteAccept.updCl c (fun k => { k with dmemWait := k.dmemWait ++ [{ h with ord := s.noc.accepted }] })
  else
    let a := match h.data with
      | some d => s.winWrite h.who c o d
      | none => s.winRead h.who c o h.nbytes
    a.st.respond h a.status a.data

/-- A target takes a request that its port has let in (R286, R374). -/
def State.arrive (s : State) (h : Held) : State :=
  match place h.addr with
  | .nothing => s.respond h 2 []
  | .hbm a =>
    let st := s.hbmStatus h.who a h.nbytes
    if st ≠ 0 then (if s.hbmDenies a h.nbytes then s.deny a else s).respond h st []
    else
      let ch := (s.hbmLoc a).pc / 2
      let h := { h with ord := s.noc.accepted }
      let s := s.noteAccept
      { s with hbm := { s.hbm with ports := sput [] s.hbm.ports ch (sget [] s.hbm.ports ch ++ [h]) } }
  | .win c o => s.winTake h (s.redir c) o
  | .hub o =>
    let a := match h.data with
      | some d => s.hubWrite h.who o d
      | none => s.hubRead h.who o h.nbytes
    a.st.respond h a.status a.data

/-- An initiator sends a request: a tag is taken, the address translated, the priority lowered (R243, R258, R276, R371). Nothing
happens while the initiator may not send or the tag is not free. An address that its own interface refuses is answered there. -/
def State.request (s : State) (r : Request) (op : Opc) : State :=
  let i := r.who.val
  let t := (s.init i).tagOf r.tag
  if !s.maySendReq i || (!op.posted && (decide (nTags i ≤ r.tag) || decide (t.st ≠ .free))) then s
  else
    let phys := s.translate i r.addr
    let a := phys.getD 0x800000000000
    let b := s.targetEnd a
    let prio := s.lowerPrio i b r.prio.val
    let (rt, p) := s.targetPort i a
    let s := if op.posted then s
      else s.setInit i ((s.init i).setTagOf r.tag { t with st := .busy, since := s.now, rtr := rt, port := p, prio := prio, addr := a, write := decide (op = .wr) })
    let x : Packet := { op := op, who := i, tag := r.tag, gen := t.gen, prio := prio, addr := a, size := r.size, nbytes := reqBytes r
                        data := if op = .rd then [] else reqData r }
    match phys with
    | none => (s.setInit i ((s.init i).countReq x.body.length)).turnAway { x with nowrap := false } 3
    | some _ => s.sendReq b x

/-- A memory request of an initiator's tag that has arrived meets its target (R272, R278). -/
def State.reach (s : State) (op : Opc) (i tag : Nat) : State :=
  match s.firstPacket (fun x => decide (x.op = op) && decide (x.who = i) && decide (x.tag = tag)) with
  | none => s
  | some x =>
    let st := s.verdict x
    let s := s.dropPacket x
    if st ≠ 0 then s.turnAway x st else s.arrive x.held

/-- RD (R248). -/
def execRd (r : ReqFrom) (s : State) : Host.Outcome State Fault Refusal :=
  match r with
  | .send r => if reqFormed r false then act s (·.request r .rd) else .fault .illFormed
  | .flight who tag => act s (·.reach .rd who.val tag)

/-- WR (R248). -/
def execWr (r : ReqFrom) (s : State) : Host.Outcome State Fault Refusal :=
  match r with
  | .send r => if reqFormed r true then act s (·.request r .wr) else .fault .illFormed
  | .flight who tag => act s (·.reach .wr who.val tag)

/-- WRP (R248). -/
def execWrp (r : ReqFrom) (s : State) : Host.Outcome State Fault Refusal :=
  match r with
  | .send r => if reqFormed r true then act s (·.request r .wrp) else .fault .illFormed
  | .flight who tag => act s (·.reach .wrp who.val tag)

/-! ### Pushes (R142, R144, R152, R155) -/

/-- Whether PROD = REMOTE and the queue lies in the sender's region (R152). -/
def State.pushAllowed (s : State) (i q : Nat) : Bool :=
  decide ((s.queue q).prod = prodREMOTE) && (s.regionOf (q / 128)).isSome && decide (s.regionOf (q / 128) = s.initRegion i)

/-- The physical queue of a packet's queue ID. -/
def State.pushQueue (s : State) (p : Packet) : Nat := 128 * s.redir (p.addr / 128) + p.addr % 128

/-- Whether a cluster's staging has room for the words of a push (R144). -/
def State.stageRoom (s : State) (q n : Nat) : Bool := decide ((s.cl (q / 128)).staging.length + n ≤ 64)

/-- The words of a push enter the staging of their queue's cluster (R144). -/
def State.stageWords (s : State) (who q : Nat) (prod : BitVec 3) (ws : List (Word × BitVec 4)) (push : Option Nat) : State :=
  s.updCl (q / 128) (fun k => { k with staging := k.staging ++ ws.map (fun (w, t) => ⟨q % 128, w, t, prod, if isMover who then who - 0x100 else 0, push⟩) })

/-- A remote push is accepted: its words enter the staging, and it is answered when the last of them has entered its queue (R144, R152). -/
def State.pushStage (s : State) (x : Packet) (q : Nat) : State :=
  let y := { x.pushRec with ord := s.noc.accepted }
  (s.noteAccept.stageWords x.who q prodREMOTE x.words (some x.id)).updCl (q / 128) (fun k => { k with pushes := k.pushes ++ [y] })

/-- PUSH (R152): a push of an initiator leaves for its queue, or one that has arrived is turned away, or enters the staging once that has
room for its words. -/
def execPush (p : PushFrom) (s : State) : Host.Outcome State Fault Refusal :=
  match p with
  | .flight who => act s fun s =>
      match s.firstPacket (fun x => decide (x.op = .push) && decide (x.who = who.val)) with
      | none => s
      | some x =>
        let q := s.pushQueue x
        let st := s.verdict x
        if st ≠ 0 then (s.dropPacket x).turnAway x st
        else if !s.pushAllowed x.who q then (s.dropPacket x).turnAway x 7
        else if s.stageRoom q x.words.length then (s.dropPacket x).pushStage x q
        else s
  | .direct who tag prio q ws =>
    if ws.isEmpty || decide (16 < ws.length) then .fault .illFormed
    else act s fun s =>
      let i := who.val
      let t := (s.init i).tagOf tag
      if !s.maySendReq i || decide (nTags i ≤ tag) || decide (t.st ≠ .free) then s
      else s.sendPush i tag 0 (s.lowerPrio i (.array (s.redir (q.val / 128)) 0) prio.val) q.val ws

/-- Producer kind of the posted pushes of an initiator (R138, R248). -/
def prodOf (i : Nat) : BitVec 3 :=
  if isHost i then prodHOST else if 0x220 ≤ i && decide (i < 0x228) then prodETH else if 0x228 ≤ i && decide (i < 0x22C) then prodGPIO else prodMOVER

/-- A posted push reaches a mover, or the bank 64 below its number: its words enter the input buffer together (R155, R502). -/
def State.moverTake (s : State) (m : Nat) (p : Packet) : State :=
  let v := s.mover m
  if 64 ≤ m then
    s.setBank (m - 64) { s.bank (m - 64) with outbuf := (s.bank (m - 64)).outbuf ++ p.words.map (fun (w, t) => ⟨w, t, p.who, p.chan⟩) }
  else s.setMover m { v with inbuf := v.inbuf ++ p.words.map (fun (w, t) => ⟨w, t, p.who, p.chan⟩) }

/-- PUSHP (R248): a posted push of an initiator leaves for a queue, or one that has arrived is discarded by a closed port, or enters a
mover's buffer, or the staging once that has room for its words (R144). -/
def execPushp (p : PushFrom) (s : State) : Host.Outcome State Fault Refusal :=
  match p with
  | .flight who => act s fun s =>
      match s.firstPacket (fun x => decide (x.op = .pushp) && decide (x.who = who.val)) with
      | none => s
      | some x =>
        let q := s.pushQueue x
        let st := s.verdict x
        if st ≠ 0 then (s.dropPacket x).turnAway x st
        else if x.toMover then (s.dropPacket x).moverTake x.addr x
        else if s.stageRoom q x.words.length then (s.dropPacket x).stageWords x.who q x.prod x.words none
        else s
  | .direct who _ prio q ws =>
    if ws.isEmpty || decide (16 < ws.length) then .fault .illFormed
    else act s fun s =>
      let i := who.val
      let b : End := .array (s.redir (q.val / 128)) 0
      if !s.maySendReq i || decide (prodOf i = prodMOVER) then s
      else s.sendReq b { op := .pushp, who := i, prio := s.lowerTo i b prio.val (s.qRegion q.val), addr := q.val, words := ws, prod := prodOf i }

/-! ### Credits and events (R126, R154, R162, R248) -/

/-- Credits reach a mover (R162): those that belong to the time before the queue was last enabled are void. -/
def Mover.credit (v : Mover) (q n : Nat) : Mover :=
  let old := min (sget 0 v.stale q) n
  { v with stale := sput 0 v.stale q (sget 0 v.stale q - old), credits := sput 0 v.credits q (sget 0 v.credits q + (n - old)) }

/-- Credits reach a forward channel (R154): those of words of a channel that has been disabled are void. -/
def Fwd.credit (f : Fwd) (n : Nat) : Fwd :=
  let late := min f.owing n
  { f with owing := f.owing - late, cred := if f.en && f.mover then min (f.cred + (n - late)) f.share else f.cred }

/-- CRD (R248): the first credit packet of a sender that has arrived gives its credits to its forward channel or mover; a closed port
discards it. -/
def execCrd (i : InitId) (s : State) : Host.Outcome State Fault Refusal :=
  act s fun s =>
    match s.firstPacket (fun x => decide (x.op = .crd) && decide (x.who = i.val)) with
    | none => s
    | some x =>
      let st := s.verdict x
      let s := s.dropPacket x
      if st ≠ 0 then s.turnAway x st
      else if x.toMover then s.setMover x.chan ((s.mover x.chan).credit x.addr x.count)
      else s.updCl (s.redir x.addr) (fun k => k.setFwd x.chan ((k.fwd x.chan).credit x.count))

/-- What an EVT packet does at its receiver (R193, R211, R226). -/
def State.evtArrive (s : State) (m : EvtMsg) : State :=
  match m with
  | .event e => s.belayGets (.event { e with arrival := s.now })
  | .comp c => s.belayGets (.comp { c with arrival := s.now })
  | .start c m => forAll (s.withTwin c) (fun s c => s.updSeq c (fun q => { q with start := some m })) s
  | .refused c t => s.rollBelay.startRefused c t
  | .notice p n => s.setNoc { s.noc with hostNotices := s.noc.hostNotices ++ [(p, n)] }

/-- EVT (R248): the first event packet of a sender that has arrived reaches its receiver; a closed port discards it. A sequencer whose successor decrements are held
sends nothing further (R228). -/
def execEvt (i : InitId) (s : State) : Host.Outcome State Fault Refusal :=
  act s fun s =>
    match s.firstPacket (fun x => decide (x.op = .evt) && decide (x.who = i.val)) with
    | none => s
    | some x =>
      let waits := match x.evt with
        | some (.comp c) => (s.seq c.cl).compHeld
        | _ => false
      let st := s.verdict x
      if waits then s
      else if st ≠ 0 then (s.dropPacket x).turnAway x st
      else match x.evt with
        | some m => (s.dropPacket x).evtArrive m
        | none => s.dropPacket x

/-! ### Timeouts (R263 to R266) -/

/-- Whether a held request is the one that a TOREP names. -/
def Held.named (h : Held) (p : Packet) : Bool := decide (h.who = p.who) && decide (h.tag = p.tag) && decide (h.gen = p.gen) && !h.posted

/-- A request that still waits without effect at a port is cancelled and answered TIMEOUT (R264): a push that waits for the staging or
of which no word has entered its queue, an access that waits for a port, a request of which no column command has been issued. -/
def State.cancel (s : State) (p : Packet) (r port : Nat) : State :=
  match (s.waitingAt r port).find? (fun x => decide (x.who = p.who) && decide (x.tag = p.tag) && decide (x.gen = p.gen) && !x.op.posted) with
  | some x => (s.dropPacket x).turnAway x 1
  | none =>
  if port = 0 then
    let k := s.cl r
    match (k.cellWait ++ k.dmemWait).find? (·.named p), k.pushes.find? (fun x => decide (x.who = p.who) && decide (x.tag = p.tag)
        && decide (x.gen = p.gen) && decide (x.left = x.words)) with
    | some h, _ => (s.setCl r { k with cellWait := k.cellWait.erase h, dmemWait := k.dmemWait.erase h }).respond h 1 []
    | none, some x => (s.setCl r { k with pushes := k.pushes.erase x, staging := k.staging.filter (fun w => decide (w.push ≠ some x.id)) }).pushAnswer r x 1
    | none, none => s
  else if port = 1 then
    forAll (channelsAt r) (fun s ch =>
      match (sget [] s.hbm.ports ch).find? (·.named p) with
      | some h => ({ s with hbm := { s.hbm with ports := sput [] s.hbm.ports ch ((sget [] s.hbm.ports ch).erase h) } }).respond h 1 []
      | none => forAll [2 * ch, 2 * ch + 1] (fun s i =>
          let x := s.pc i
          match x.opens.find? (fun o => o.h.named p) with
          | some o =>
            let subs := s.subsOf i o.rid
            let began := !o.got.isEmpty || subs.any (fun q => decide (q.done ≠ 0) || decide (q.rdone ≠ 0) || decide (q.role = .copy i))
              || decide (subs.length ≠ (s.subRequests o.h).length)
            if began then s else (s.forget i o.rid).respond o.h 1 []
          | none => s) s) s
  else s

/-- TOREP (R264, R267): the port counts it, and the named request is cancelled if it still waits. -/
def execTorep (i : InitId) (tag : Nat) (s : State) : Host.Outcome State Fault Refusal :=
  act s fun s =>
    match s.firstPacket (fun x => decide (x.op = .torep) && decide (x.who = i.val) && decide (x.tag = tag)) with
    | none => s
    | some x =>
      let st := s.verdict x
      let s := s.dropPacket x
      let (r, port) := x.dst
      let y := s.router r
      if st ≠ 0 then s.turnAway x st else
      let n := sget 0 y.toreps port + 1
      let s := s.setRouter r { y with toreps := sput 0 y.toreps port n }
      let s := if y.deadth ≤ n && decide (y.absOf port = 0) then s.pendRouter r (.absDead port) else s
      s.cancel x r port

/-- What a host port does with the answer to a BAR2 request (R389). -/
def State.bar2Answer (s : State) (i : Nat) (write : Bool) (status : Nat) (data : List Byte) : State :=
  if !isHost i then s
  else
    let p := i - 0x200
    if status = 0 then (if write then s else s.emit (.bar2Data p data))
    else if write then s.setPort p { s.port p with berr := satAdd (s.port p).berr 1 0xFFFF }
    else s.emit .bar2CA

/-- What a stream mover does with the answer to its HBM request (R161, R163); defined for the request on its way. -/
def State.moverAnswer (s : State) (i tag status : Nat) (data : List Byte) : State :=
  if !isMover i then s
  else
    let m := i - 0x100
    match (s.mover m).running with
    | some x => if x.wait = some tag then s.moverGot m { x with wait := none } status data else s
    | none => s

/-- The client of an initiator gets its answer. -/
def State.clientGets (s : State) (i : Nat) (write : Bool) (a : Answer) : State :=
  let n := s.init i
  ((s.setInit i { n with answers := n.answers ++ [a] }).bar2Answer i write a.status.toNat a.data).moverAnswer i a.tag a.status.toNat a.data

/-- A response reaches its initiator (R265, R266, R271, R276). The latency of one that stayed inside the hub die, whose fabric's cycles the spec
does not give, is an operand. -/
def State.deliver (s : State) (op : Opc) (i tag lat : Nat) : State :=
  match s.firstPacket (fun x => decide (x.op = op) && decide (x.who = i) && decide (x.tag = tag)) with
  | none => s
  | some x =>
    let s := s.dropPacket x
    let n := s.init i
    let t := n.tagOf tag
    if isCluster i && decide ((s.router i).absOf 0 = 2) then s.setInit i { n with stray := satAdd n.stray 1 0xFFFF }
    else if t.st = .busy && decide (x.gen = t.gen) then
      (s.setInit i ((n.countResp (if x.dst = (256, 3) then lat else x.headAt - t.head) x.body.length).setTagOf tag { t with st := .free })).clientGets i t.write ⟨tag, x.status, x.data, x.count⟩
    else if bit t.owed.toNat x.gen.toNat then
      let t := { t with owed := BitVec.ofNat 4 (putFld t.owed.toNat x.gen.toNat 1 0) }
      let t := if t.st = .quar then t.leave else t
      s.setInit i { n.setTagOf tag t with late := satAdd n.late 1 0xFFFF }
    else s.setInit i { n with stray := satAdd n.stray 1 0xFFFF }

/-- RDATA (R266). -/
def execRdata (i : InitId) (tag lat : Nat) (s : State) : Host.Outcome State Fault Refusal := act s (·.deliver .rdata i.val tag lat)

/-- ACK (R266). -/
def execAck (i : InitId) (tag lat : Nat) (s : State) : Host.Outcome State Fault Refusal := act s (·.deliver .ack i.val tag lat)

/-- PUSHACK (R266). -/
def execPushack (i : InitId) (tag lat : Nat) (s : State) : Host.Outcome State Fault Refusal := act s (·.deliver .pushack i.val tag lat)

/-- ERR (R266). -/
def execErr (i : InitId) (tag lat : Nat) (s : State) : Host.Outcome State Fault Refusal := act s (·.deliver .err i.val tag lat)

/-- The actions of a timeout (R264). -/
def State.timeOut (s : State) (i tag : Nat) : State :=
  let n := s.init i
  let t := n.tagOf tag
  let n := { n.setTagOf tag { t with st := .quar, since := s.now, owed := BitVec.ofNat 4 (putFld t.owed.toNat t.gen.toNat 1 1) } with tocnt := satAdd n.tocnt 1 0xFFFF }
  let b : End := if t.rtr = 256 || t.port = 3 then .hub else .array t.rtr t.port
  ((s.setInit i n).sendReq b { op := .torep, who := i, tag := tag, gen := t.gen, prio := t.prio, client := t.client }).clientGets i t.write ⟨tag, 1, [], 0⟩

/-- REQUEST_TIMEOUT (R264). -/
def execRequestTimeout (i : InitId) (tag : Nat) (s : State) : Host.Outcome State Fault Refusal :=
  act s fun s =>
    let n := s.init i.val
    let t := n.tagOf tag
    if t.st = .busy && decide (n.expiry t.since ≤ s.now) then s.timeOut i.val tag else s

/-- QUARANTINE_END (R265). -/
def execQuarantineEnd (i : InitId) (tag : Nat) (s : State) : Host.Outcome State Fault Refusal :=
  act s fun s =>
    let n := s.init i.val
    let t := n.tagOf tag
    if t.st = .quar && decide (n.expiry t.since ≤ s.now) then s.setInit i.val (n.setTagOf tag t.leave) else s

/-! ### Absorb mode, settings, fences, lanes (R267 to R274) -/

/-- ABSORB_SET_DEAD (R267): firmware only; it takes effect at a packet boundary. -/
def execAbsorbSetDead (who : InitId) (r : RtrId) (p : Fin 4) (s : State) : Host.Outcome State Fault Refusal :=
  act s fun s => if who.val = fwId then s.pendRouter r.val (.absDead p.val) else s.emit (.regValue none)

/-- ABSORB_CLEAR (R269): firmware only; it takes effect at a packet boundary. -/
def execAbsorbClear (who : InitId) (r : RtrId) (p : Fin 4) (keepPc : BitVec 2) (s : State) : Host.Outcome State Fault Refusal :=
  act s fun s => if who.val = fwId then s.pendRouter r.val (.absClear p.val keepPc) else s.emit (.regValue none)

/-- ROUTER_SETTING_WRITE (R272). -/
def execRouterSettingWrite (who : InitId) (r : RtrId) (w : RtrSetting) (s : State) : Host.Outcome State Fault Refusal :=
  act s fun s => if who.val = fwId then s.pendRouter r.val (.set w) else s.emit (.regValue none)

/-- Whether a router's changes can apply (R272): neither it nor the other router of a link whose lanes change holds a granted packet. -/
def State.atBoundary (s : State) (r : Nat) : Bool :=
  !s.granted r && (s.router r).pend.all (fun c => match c with
    | .spare d _ => !s.granted (neighbour r d)
    | .peer q _ => !s.granted q
    | _ => true)

/-- PACKET_BOUNDARY_CHANGE (R272): once the router holds no granted packet, every pending change applies in the order received, and PEND
clears; a lane-sparing change ends the wait of the other router too. -/
def execPacketBoundaryChange (r : RtrId) (s : State) : Host.Outcome State Fault Refusal :=
  act s fun s =>
    if !s.atBoundary r.val then s
    else
      let cs := (s.router r.val).pend
      let held := cs.filter (fun c => match c with | .peer _ _ => true | _ => false)
      let s := s.setRouter r.val { s.router r.val with pend := held }
      cs.foldl (fun s c =>
        let s := s.applyChange r.val c
        match c with
        | .spare d _ =>
          let q := neighbour r.val d
          s.setRouter q { s.router q with pend := (s.router q).pend.erase (.peer r.val d) }
        | _ => s) s

/-- FENCE_REQUEST (R270): of an island that is powered and not fenced. -/
def execFenceRequest (i : IslId) (s : State) : Host.Outcome State Fault Refusal :=
  act s fun s => if s.islOn i.val && decide (s.fenceOf i.val = .none) then s.requestFence i.val else s

/-- Whether the ports of an island are fenced and everything of its ports and initiators has completed (R270 step 3). -/
def State.fenceDrained (s : State) (i : Nat) : Bool :=
  (islandClusters i).all (fun c => decide ((s.router c).absOf 0 = 2) && (s.acceptedAt c 0).isEmpty && decide ((s.init c).nBusy = 0))

/-- FENCE_ACKNOWLEDGE (R270): then the clamps close and the domain powers off, unless FAULT-SAFE keeps it clock-gated. -/
def execFenceAcknowledge (i : IslId) (s : State) : Host.Outcome State Fault Refusal :=
  act s fun s =>
    if s.fenceOf i.val = .requested && s.fenceDrained i.val then
      let s := { s with sys := { s.sys with fence := sput .none s.sys.fence i.val .acked } }
      if s.sys.dstate = .faultSafe then s else { s with sys := { s.sys with islOn := sput false s.sys.islOn i.val false } }
    else s

/-- FLIT_CRC_FAIL (R273): the sender replays. -/
def execFlitCrcFail (r : RtrId) (_d : Fin 4) (s : State) : Host.Outcome State Fault Refusal :=
  act s fun s => let x := s.router r.val; s.setRouter r.val { x with retry := satAdd x.retry 1 0xFFFF }

/-- A lane is retired (R274): a spare takes its place at a packet boundary of both routers, then half width, then a link failure. -/
def State.retireLane (s : State) (r d lane : Nat) : State :=
  let l : Lane := sget {} (s.router r).lanes d
  let waits := (s.router r).pend.filterMap (fun c => match c with | .spare e n => if e = d then some n else none | _ => none)
  let after := waits.foldl (fun (l : Lane) n => l.spare (s.spareBad r d 0) (s.spareBad r d 1) n) l
  let data := r * 2 ^ 24 + d * 2 ^ 16
  if after.half then (s.log 0x22 data).faultSafe 3
  else
    let s := s.log 0x20 (data + lane)
    let s := (s.pendRouter r (.spare d lane)).pendRouter (neighbour r d) (.peer r d)
    if (after.spare (s.spareBad r d 0) (s.spareBad r d 1) lane).half then s.log 0x21 data else s

/-- LANE_PARITY_ERROR (R274): eight on one lane within 1 ms retire it. -/
def execLaneParityError (r : RtrId) (d : Fin 4) (lane : Fin 68) (s : State) : Host.Outcome State Fault Refusal :=
  act s fun s =>
    let x := s.router r.val
    let l := sget {} x.lanes d.val
    let errs := (lane.val, s.now) :: l.errs.filter (fun e => decide (s.now < e.2 + 1000000))
    let mine := errs.filter (fun e => decide (e.1 = lane.val))
    let gone := l.gone.contains lane.val || x.pend.any (fun c => match c with | .spare e n => decide (e = d.val) && decide (n = lane.val) | _ => false)
    if gone then s
    else if 8 ≤ mine.length then
      (s.setRouter r.val { x with lanes := sput {} x.lanes d.val { l with errs := errs.filter (fun e => decide (e.1 ≠ lane.val)) } }).retireLane r.val d.val lane.val
    else s.setRouter r.val { x with lanes := sput {} x.lanes d.val { l with errs := errs } }

end Sys2Proof.Machine
end

