-- ==== Sys2Proof/Machine/Movers.lean ====
section
/-! DEFINITION. The commands of the stream movers (R157 to R164). -/

namespace Sys2Proof.Machine

/-- SQ_MVPOST (R159): a write of the register by an initiator with rights. -/
def execSqMvpost (who : InitId) (m : MvId) (v : Reg) (s : State) : Host.Outcome State Fault Refusal :=
  act s fun s =>
    if s.moverRights who.val m.val then
      match (s.mover m.val).writeReg 0x20 v.toNat with
      | some x => s.setMover m.val x
      | none => s
    else s.emit (.regValue none)

/-! ### Checks (R163) -/

/-- Whether the notice target of a descriptor lies in the region (R160). -/
def State.moverTargetOk (s : State) (r : Nat) (g : Region) (d : BitVec 256) : Bool :=
  if dNKIND d = 2 then (s.relCluster g (dNTGT d / 256)).isSome else s.targetOk r (dNKIND d) (dNTGT d)

/-- The status of a descriptor that fails a check, in the order BADDESC, ADDR, TARGET (R163). -/
def State.moverCheck (s : State) (m r : Nat) (g : Region) (d : BitVec 256) : Option Byte :=
  let k := dKIND d
  let hbm := if k = 1 then some (dDST d) else if k = 4 then some (dSRC d) else none
  let addr := if k = 1 || decide (k = 2) then some (dDST d) else if k = 4 || decide (k = 5) then some (dSRC d) else none
  let u := s.queue (s.moverQueue d)
  if k = 0 || decide (5 < k) || decide (dLEN d = 0) || (dNOTE d && !s.moverTargetOk r g d) then some 2
  else if (match addr with | some a => decide (a % 16 ≠ 0) | none => false)
    || (match hbm with | some a => decide (g.units.length * unitBytes < a + 16 * dLEN d) | none => false) then some 1
  else if (k = 4 || decide (k = 5)) && !(decide (s.regionOf (s.moverQueue d / 128) = some r) && u.en && decide (u.prod = prodMOVER)
    && decide (u.psrc.toNat = m)) then some 5
  else if k = 3 && !(decide (g.sbase ≤ dDST d % 16384) && decide (dDST d % 16384 < g.sbase + g.scount)) then some 5
  else none

/-- Whether Belay holds an event of a mover (R228). -/
def State.moverHeld (s : State) (m : Nat) : Bool :=
  s.belay.regions.any (fun r => r.2.held.any (fun e => decide (e.orig = .mover m)))

/-- Whether a mover may start a descriptor (R228, R453, R475). -/
def State.moverMayStart (s : State) (m : Nat) (g : Region) : Bool :=
  s.maySendReq (moverInit m) && !s.moverHeld m && g.stop.isNone && (s.mover m).running.isNone

/-- A mover begins its next descriptor and checks it. -/
def State.moverStart (s : State) (m : Nat) : State :=
  let v := s.mover m
  match v.descs, v.region, v.region.bind s.region with
  | d :: rest, some r, some g =>
    if s.moverMayStart m g then s.setMover m { v with descs := rest, running := some { desc := d, status := s.moverCheck m r g d } } else s
  | _, _, _ => s

/-- MOVER_DESCRIPTOR_START (R163). -/
def execMoverDescriptorStart (m : MvId) (s : State) : Host.Outcome State Fault Refusal := act s (·.moverStart m.val)

/-! ### Words (R161, R162) -/

/-- The mover takes the next word of its input buffer and returns a credit to the channel that sent it (R154). -/
def State.moverPop (s : State) (m : Nat) : Option (MvWord × State) :=
  let v := s.mover m
  match v.inbuf with
  | [] => none
  | w :: rest => some (w, (s.setMover m { v with inbuf := rest }).sendReq (.array w.cl 0)
      { op := .crd, who := moverInit m, prio := 3, chan := w.ch, addr := s.origin w.cl, count := 1 })

/-- The mover's HBM request for one word leaves under a tag (R243, R372); an address that its own interface refuses is an error response
at once (R163). -/
def State.moverHbm (s : State) (m : Nat) (x : MvRun) (tag a : Nat) (data : Option Word) : State :=
  let i := moverInit m
  match s.translate i a with
  | none => s.moverFail m x 3
  | some p =>
    let b := s.targetEnd p
    let prio := s.lowerPrio i b 3
    let (r, port) := s.targetPort i p
    let t := (s.init i).tagOf tag
    let s := s.setInit i ((s.init i).setTagOf tag { t with st := .busy, since := s.now, rtr := r, port := port, prio := prio, addr := p, write := data.isSome })
    (s.setMover m { s.mover m with running := some { x with wait := some tag } }).sendReq b
      { op := if data.isSome then .wr else .rd, who := i, tag := tag, gen := t.gen, prio := prio, addr := p, nbytes := 16
        data := match data with | some w => wordBytes w | none => [] }

/-- One word of the running descriptor: an HBM word as a request that the mover waits for, one at a time; for a host access the operand says
what the host port gave. -/
def State.moverWord (s : State) (m : Nat) (host : Option Word) : State :=
  match (s.mover m).running, (s.mover m).region.bind s.region with
  | some x, some g =>
    let d := x.desc
    let k := dKIND d
    let off := 16 * x.moved
    let hostOk := host.isSome && (s.port g.ten).up
    let credit := decide (0 < sget 0 (s.mover m).credits (s.moverQueue d))
    let tag := s.freeTag (moverInit m)
    if x.status.isSome || x.wait.isSome || !s.maySendReq (moverInit m) || ((k = 1 || decide (k = 4)) && tag.isNone) then s
    else if k < 4 then
      match s.moverPop m with
      | none => s
      | some (w, s) =>
        if k = 1 then s.moverHbm m x (tag.getD 0) (dDST d + off) (some w.w)
        else if k = 2 then
          if hostOk then (s.emit (.hostWrite g.ten (dDST d + off) (wordBytes w.w))).moverDid m x else s.moverFail m x 4
        else
          let e := dDST d % 16384
          (s.setSess e { s.sess e with words := (s.sess e).words ++ [(w.w, w.tag)] }).moverDid m x
    else if !credit then s
    else if k = 4 then s.moverHbm m x (tag.getD 0) (dSRC d + off) none
    else
      let s := if (s.port g.ten).up then s.emit (.hostRead g.ten (dSRC d + off) 16) else s
      match hostOk, host with
      | true, some w => s.moverPush m x w
      | _, _ => s.moverFail m x 4
  | _, _ => s

/-- MOVER_WORD_TRANSFER (R161). -/
def execMoverWordTransfer (m : MvId) (host : Option Word) (s : State) : Host.Outcome State Fault Refusal :=
  act s (·.moverWord m.val host)

/-- A descriptor that has a status completes (R164). -/
def State.moverComplete (s : State) (m : Nat) : State :=
  let v := s.mover m
  match v.running with
  | none => s
  | some x => match x.status, v.region, v.region.bind s.region with
    | some st, some r, some g =>
      let d := x.desc
      let notice := dNOTE d && decide (dNKIND d ≠ 0) && s.moverTargetOk r g d
      let s := s.setMover m { v with
        running := none, lastst := st, mvcnt := x.moved, err := v.err || decide (st ≠ 0)
        notices := if notice then v.notices ++ [{ kind := .mover, nkind := BitVec.ofNat 2 (dNKIND d), target := BitVec.ofNat 16 (dNTGT d), status := st }]
          else v.notices }
      s.moverNotices m (s.mover m).notices.length
    | _, _, _ => s

/-- MOVER_COMPLETION (R164). -/
def execMoverCompletion (m : MvId) (s : State) : Host.Outcome State Fault Refusal := act s (·.moverComplete m.val)

end Sys2Proof.Machine
end

