-- ==== Sys2Proof/Machine/Exec.lean ====
section
/-! DEFINITION. How firmware commands are accepted, wait, run and complete (R395 to R425, R446). -/

namespace Sys2Proof

/-- Port, function and kind of an issuer, as numbers. -/
def Issuer.p (i : Issuer) : Nat := i.port.val
def Issuer.f (i : Issuer) : Nat := i.func.val
def Issuer.owner (i : Issuer) : Bool := decide (i.port.val = 4)

end Sys2Proof

namespace Sys2Proof.Machine

/-! ### Status codes (R446) -/

def stOK : Nat := 0x00
def stBAD_OPCODE : Nat := 0x01
def stTAG_BUSY : Nat := 0x02
def stSTALE_GEN : Nat := 0x03
def stBAD_MAC : Nat := 0x04
def stNOT_PERMITTED : Nat := 0x05
def stLIFECYCLE : Nat := 0x06
def stNO_TENANT : Nat := 0x07
def stNO_SESSION : Nat := 0x08
def stBAD_OPERAND : Nat := 0x09
def stOUT_OF_RANGE : Nat := 0x0A
def stBAD_STATE : Nat := 0x0B
def stCONFLICT : Nat := 0x0C
def stNO_RESOURCE : Nat := 0x0D
def stWONT_FIT : Nat := 0x0E
def stTIME_BACKWARD : Nat := 0x0F
def stBAD_SIGNATURE : Nat := 0x10
def stROLLBACK : Nat := 0x11
def stLOAD_FAILED : Nat := 0x12
def stNOT_FOUND : Nat := 0x13
def stABORTED : Nat := 0x14
def stRELEASED : Nat := 0x15
def stFW_RESTART : Nat := 0x16
def stHW_FAULT : Nat := 0x17
def stBUSY : Nat := 0x18

/-! ### The table of commands (R417, R419, R428 to R444) -/

/-- Who may issue a command, and whether it is session-bound. -/
structure CmdInfo where
  owner : Bool
  tenant : Bool
  session : Bool := false
  deriving DecidableEq, Repr

def cmdO : CmdInfo := { owner := true, tenant := false }
def cmdT : CmdInfo := { owner := false, tenant := true }
def cmdA : CmdInfo := { owner := true, tenant := true }

/-- The By column of a defined opcode. -/
def cmdInfo (op : Nat) : Option CmdInfo :=
  if [0x0100, 0x0101, 0x0102, 0x0104].contains op then some cmdA
  else if [0x0103, 0x0200, 0x0201].contains op then some cmdO
  else if op = 0x0305 then some cmdA
  else if op = 0x0306 || decide (op = 0x030A) then some { cmdT with session := true }
  else if op = 0x030B then some { cmdA with session := true }
  else if 0x0300 ≤ op && decide (op ≤ 0x0309) then some cmdO
  else if 0x0400 ≤ op && decide (op ≤ 0x0402) then some cmdT
  else if 0x0500 ≤ op && decide (op ≤ 0x0504) then some cmdT
  else if 0x0600 ≤ op && decide (op ≤ 0x0604) then some cmdT
  else if op = 0x0605 then some cmdO
  else if op = 0x0705 then some cmdA
  else if 0x0700 ≤ op && decide (op ≤ 0x0704) then some cmdO
  else if op = 0x0801 then some { cmdT with session := true }
  else if op = 0x0802 || decide (op = 0x0805) || decide (op = 0x0806) then some cmdT
  else if op = 0x0800 || decide (op = 0x0803) || decide (op = 0x0804) then some cmdO
  else if op = 0x0900 || decide (op = 0x0903) then some cmdA
  else if op = 0x0902 then some cmdT
  else if op = 0x0901 || decide (op = 0x0904) || decide (op = 0x0905) then some cmdO
  else if 0x0A00 ≤ op && decide (op ≤ 0x0A03) then some cmdO
  else if 0x0B00 ≤ op && decide (op ≤ 0x0B07) then some cmdO
  else none

/-- Life-cycle states that permit a command (R419, R355). -/
def cmdLcs (op : Nat) (owner : Bool) (l : Lcs) : Bool :=
  let live := l = .provisioned || l = .owned || decide (l = .debug)
  if op = 0x0100 || decide (op = 0x0101) then true
  else if op = 0x0102 || decide (op = 0x0104) then decide (l ≠ .retired)
  else if !owner then decide (l = .owned)
  else if op = 0x0B00 then decide (l = .blank)
  else if op = 0x0B01 then decide (l = .provisioned)
  else if op = 0x0B02 then decide (l = .owned)
  else if op = 0x0B03 then l = .provisioned || decide (l = .owned)
  else if op = 0x0B04 then decide (l = .debug)
  else if op = 0x0B05 then decide (l ≠ .retired)
  else if 0x0B06 ≤ op && decide (op ≤ 0x0B07) then live
  else if (0x0300 ≤ op && decide (op ≤ 0x030B)) || decide (op = 0x0605) || decide (op = 0x0800) || decide (op = 0x0704) then decide (l = .owned)
  else live

/-! ### Slots and completions (R401 to R406, R415) -/

/-- An issuer by numbers. -/
def mkIssuer (p f : Nat) (tag : BitVec 16) : Issuer := ⟨Fin.ofNat 5 p, Fin.ofNat 65 f, tag⟩

/-- Slot and generation of a TAG (R399). -/
def tagSlot (tag : Nat) : Nat := tag % 4096
def tagGen (tag : Nat) : Nat := tag / 4096

def State.setOwner (s : State) (o : OwnerPort) : State := { s with host := { s.host with owner := o } }

/-- A slot of a function; port 4 is the owner port. -/
def State.hslot (s : State) (p f n : Nat) : HSlot :=
  if p = 4 then sget {} s.host.owner.slots n else sget {} (s.func p f).slots n
def State.setHslot (s : State) (p f n : Nat) (v : HSlot) : State :=
  if p = 4 then s.setOwner { s.host.owner with slots := sput {} s.host.owner.slots n v }
  else s.setFunc p f { s.func p f with slots := sput {} (s.func p f).slots n v }

/-- Busy slots of a function, and of a port. -/
def Func.nBusy (u : Func) : Nat := (u.slots.filter (fun p => p.2.busy)).length
def State.portBusy (s : State) (p : Nat) : Nat :=
  if p = 4 then (s.host.owner.slots.filter (fun p => p.2.busy)).length else ((s.port p).funcs.map (fun x => x.2.nBusy)).sum

/-- A completion becomes ready (R396): the owner port's first 64 stand in its buffer. -/
def State.addReady (s : State) (p f : Nat) (r : Ready) : State :=
  if p = 4 then
    let s := if s.host.owner.comps.isEmpty then s.emit (.ownerAlert true) else s
    s.setOwner { s.host.owner with comps := s.host.owner.comps ++ [r] }
  else s.setFunc p f { s.func p f with ready := (s.func p f).ready ++ [r] }

/-- The slot of a completion that is written or discarded becomes free (R397, R403, R405): its generation advances when it
was marked or the completion is discarded, and the aborts that waited for it become ready. -/
def State.freeSlot (s : State) (p f : Nat) (r : Ready) (discarded : Bool) : State :=
  if r.rej then s
  else
    let n := tagSlot r.tag.toNat
    let h := s.hslot p f n
    let s := s.setHslot p f n { gen := if h.marked || discarded then (h.gen + 1) % 16 else h.gen }
    h.aborters.foldl (fun s a => s.addReady a.p a.f { tag := a.tag, status := 0, rej := false, result := 0 }) s

/-- Completions that have just entered the owner's buffer of 64: position n (R415). -/
def State.ownerWrites (s : State) (n : Nat) : State :=
  match s.host.owner.comps[n]? with
  | some r => if n < 64 then s.freeSlot 4 0 r false else s
  | none => s

/-- A completion is ready for a port. -/
def State.post (s : State) (p f : Nat) (r : Ready) : State :=
  let s := s.addReady p f r
  if p = 4 then s.ownerWrites (s.host.owner.comps.length - 1) else s

/-- Commands consumed on a function and not ended. -/
def State.runningOn (s : State) (p f : Nat) : Bool := s.host.running.any (fun r => decide (r.iss.p = p) && decide (r.iss.f = f))

/-- A function whose reset is pending ends it with its last running command (R412). -/
def State.endRstp (s : State) (p f : Nat) : State :=
  let u := s.func p f
  if p < 4 && u.rstp && !s.runningOn p f then s.setFunc p f { u with rstp := false, slots := [], ready := [] } else s

/-- The record of a command that has been consumed. -/
def State.record (s : State) (i : Issuer) : Option Running := s.host.running.find? (fun r => decide (r.iss = i))

def State.setRunning (s : State) (l : List Running) : State := { s with host := { s.host with running := l } }

/-- A command ends with a status and a result (R401, R412). -/
def State.complete (s : State) (i : Issuer) (status : Nat) (result : Nat) : State :=
  let seq := (s.record i).bind (·.seq)
  let s := s.setRunning (s.host.running.filter (fun r => decide (r.iss ≠ i)))
  let s := { s with host := { s.host with waits := s.host.waits.filter (fun w => decide (w.iss ≠ i))
                                          wide := if s.host.wide = some i then none else s.host.wide } }
  if !i.owner && (s.func i.p i.f).rstp then s.endRstp i.p i.f
  else s.post i.p i.f { tag := i.tag, status := BitVec.ofNat 8 status, rej := false, result := BitVec.ofNat 128 result, seq := seq }

/-- Result fields: a value at a completion offset (R401). -/
def resAt (off v : Nat) : Nat := v * 2 ^ (8 * (off - 8))

/-! ### Violations (R410, R411) -/

/-- The windows brought up to a device time (R411): 15.625 ms each, none skipped. -/
def VState.roll (v : VState) (now : Nat) : VState :=
  let n := now / 15625000
  if n ≤ v.win then v
  else { v with windows := (List.replicate (min 63 (n - v.win - 1)) 0 ++ v.cur :: v.windows).take 63, cur := 0, win := n }

def State.vstate (s : State) (p : Nat) : VState := (if p = 4 then s.host.owner.viol else (s.port p).viol).roll s.now
def State.setVstate (s : State) (p : Nat) (v : VState) : State :=
  if p = 4 then s.setOwner { s.host.owner with viol := v } else s.setPort p { s.port p with viol := v }

/-- Sum over the current window and the 63 before it. -/
def VState.sum (v : VState) : Nat := v.cur + (v.windows.take 63).sum

/-- A throttled second begins (R411). -/
def State.throttle (s : State) (p : Nat) : State :=
  let v := s.vstate p
  (s.setVstate p { v with throttled := some (s.now + 1000000000) }).log 0x50 (p * 2 ^ 24 + v.sum)

/-- Records a violation. -/
def State.violate (s : State) (p kind f tag : Nat) : State :=
  let v := s.vstate p
  let v := { v with cur := v.cur + 1, total := satAdd v.total 1 0xFFFF
                    log := ((⟨BitVec.ofNat 8 kind, f, BitVec.ofNat 16 tag, s.now⟩ : Viol) :: v.log).take 16 }
  let s := s.setVstate p v
  if v.throttled.isNone && decide (1024 ≤ v.sum) then s.throttle p else s

/-! ### Acceptance (R399 to R404, R417 steps 1 to 5) -/

/-- Status commands, which every state serves (R387, R447, R448). -/
def statusOp (op : Nat) (owner : Bool) : Bool := op = 0x0100 || op = 0x0101 || (owner && decide (op = 0x0904))

/-- Whether a port serves identity and status only: a slow link (R387), FAULT-SAFE (R448). -/
def State.reduced (s : State) (p : Nat) : Bool := decide (s.sys.dstate = .faultSafe) || (decide (p < 4) && (s.port p).slow)

/-- Steps 2 to 4 of R417, and step 1 of R356: the status of the first check that fails. -/
def State.authority (s : State) (p op : Nat) (c : CmdInfo) : Option Nat :=
  let owner := decide (p = 4)
  if (if owner then !c.owner else !c.tenant) || (s.reduced p && !statusOp op owner) then some stNOT_PERMITTED
  else if !owner && !s.tenant p && !(op = 0x0100 || decide (op = 0x0101)) then some stNO_TENANT
  else if !cmdLcs op owner s.sec.lcs || (s.sec.trans.isSome && !statusOp op owner) then some stLIFECYCLE
  else none

/-- The MAC of a descriptor under a port's command key (R366). -/
def State.cmdMac (s : State) (p : Nat) (b : List Byte) : List Byte := (Config.hmac384 ((s.key (12 + p)).getD []) (b.take 0x30)).take 16

/-- Step 5 of R417 for a session-bound command on a host port. -/
def State.sessionFail (s : State) (p : Nat) (b : List Byte) : Option Nat :=
  if (s.spdm p).session.isNone then some stNO_SESSION
  else if slice b 0x30 16 = s.cmdMac p b && decide (le b 4 4 = (s.spdm p).seq) then none else some stBAD_MAC

/-- A descriptor that a port consumes: tag checks, then R417 steps 1 to 5; what passes becomes a running command. In the
direct form (log 48) the MAC and SEQ are those that the device expects. -/
def State.accept (s : State) (p f : Nat) (b : List Byte) (direct : Bool) : State :=
  let op := le b 0 2
  let tag := le b 2 2
  let n := tagSlot tag
  let h := s.hslot p f n
  let rdy := fun (st : Nat) (rej : Bool) => ({ tag := BitVec.ofNat 16 tag, status := BitVec.ofNat 8 st, rej := rej, result := 0 } : Ready)
  if h.busy then (s.violate p 2 f tag).post p f (rdy stTAG_BUSY true)
  else if h.gen ≠ tagGen tag then (s.violate p 3 f tag).post p f (rdy stSTALE_GEN true)
  else
    let s := s.setHslot p f n { h with busy := true, marked := false }
    match cmdInfo op with
    | none => (s.violate p 4 f tag).post p f (rdy stBAD_OPCODE false)
    | some c => match s.authority p op c with
      | some st => s.post p f (rdy st false)
      | none =>
        let bound := c.session && decide (p < 4)
        let bad := if !bound then none else if direct then (if (s.spdm p).session.isNone then some stNO_SESSION else none) else s.sessionFail p b
        match bad with
        | some st => (if st = stBAD_MAC then s.violate p 5 f tag else s).post p f (rdy st false)
        | none =>
          let q := (s.spdm p).seq
          let s := if bound then s.setSpdm p { s.spdm p with seq := q + 1 } else s
          s.setRunning (s.host.running ++ [{ iss := mkIssuer p f (BitVec.ofNat 16 tag), op := BitVec.ofNat 16 op, bytes := b
                                             seq := if bound then some q else none }])

/-! ### Objects that a command names (R418, R420, R422) -/

/-- The region of a session. -/
def State.sessRegion (s : State) (e : Nat) : Option Nat :=
  (List.range 64).find? (fun r => match s.region r with | some g => decide (g.sbase ≤ e) && decide (e < g.sbase + g.scount) | none => false)

/-- The region of a tenant that a region-relative cluster index names: the lowest-numbered that contains it (log 49). -/
def State.clRegion (s : State) (t idx : Nat) : Option Nat :=
  (List.range 64).find? (fun r => match s.region r with | some g => decide (g.ten = t) && (s.relCluster g idx).isSome | none => false)

/-- The region that a descriptor of a port names. -/
def State.names (s : State) (p : Nat) (b : List Byte) : Option Nat :=
  let op := le b 0 2
  let r := le b 8 1
  let w := le b 8 2
  let reg := if (s.region r).isSome then some r else none
  if [0x0303, 0x0304, 0x0305, 0x0306, 0x0307, 0x0308, 0x0704, 0x0801, 0x0902].contains op then reg
  else if 0x0400 ≤ op && decide (op ≤ 0x0402) then s.sessRegion w
  else if op = 0x0500 || decide (op = 0x0501) || decide (op = 0x0502) || decide (op = 0x0503) then s.qRegion w
  else if op = 0x0802 then s.qRegion (le b 0xA 2)
  else if op = 0x0504 then s.clRegion p r
  else if 0x0600 ≤ op && decide (op ≤ 0x0604) then s.regionOfTask w
  else if op = 0x0605 then (if (s.region (le b 0xA 1)).isSome then some (le b 0xA 1) else none)
  else if op = 0x0800 then (if (s.region (le b 9 1)).isSome then some (le b 9 1) else none)
  else if op = 0x0805 || decide (op = 0x0806) then (s.mover r).region
  else none

/-- Whether a running command names a region or any object of it. -/
def State.namesRegion (s : State) (x : Running) (r : Nat) : Bool := decide (s.names x.iss.p x.bytes = some r)

/-- Whether a running command concerns a tenant: it came on its port, or names one of its regions. -/
def State.namesTenant (s : State) (x : Running) (t : Nat) : Bool :=
  decide (x.iss.p = t) || (match (s.names x.iss.p x.bytes).bind s.region with | some g => decide (g.ten = t) | none => false)

/-! ### Waits (R420 to R422) -/

/-- Device-wide commands (R421). -/
def wideOp (op : Nat) : Bool := [0x0200, 0x0A01, 0x0A02, 0x0700].contains op || (decide (0x0B00 ≤ op) && decide (op ≤ 0x0B05))

/-- Commands consumed before a command. -/
def before (i : Issuer) (l : List Running) : List Running := l.takeWhile (fun r => decide (r.iss ≠ i))

/-- Whether a command waits on a common object (R421, R422). An ABORT never waits (log 50). -/
def State.blocked (s : State) (i : Issuer) (x : Running) : Bool :=
  let op := x.op.toNat
  let ahead := (before i s.host.running).filter (fun r => decide (r.op ≠ 0x0306))
  let held := match s.host.wide with
    | some w => decide (w ≠ i) && ((before i s.host.running).any (fun r => decide (r.iss = w)) || (s.record w).isNone)
    | none => false
  if op = 0x0104 then false
  else if held then true
  else if wideOp op then !ahead.isEmpty
  else if op = 0x0304 then ahead.any (fun r => s.namesRegion r (le x.bytes 8 1))
  else if op = 0x0301 then ahead.any (fun r => s.namesTenant r (le x.bytes 8 1))
  else false

/-- An operand: offset in the descriptor, size in bytes, value. -/
abbrev Opnd := Nat × Nat × Nat

/-- The 64 bytes of a descriptor with these operands. -/
def descBytes (op tag : Nat) (ops : List Opnd) : List Byte :=
  toLe 64 (op + tag * 2 ^ 16 + (ops.map (fun (o, _, v) => v * 2 ^ (8 * o))).sum)

/-- Whether a descriptor carries these operands. -/
def opsMatch (b : List Byte) (ops : List Opnd) : Bool := ops.all (fun (o, n, v) => decide (le b o n = v % 2 ^ (8 * n)))

/-- Whether a command consumed before it from the same ring has not begun yet (R402); one that waits counts as begun. -/
def State.notFirst (s : State) (i : Issuer) (x : Running) : Bool :=
  (before i s.host.running).any (fun r => decide (r.iss.p = x.iss.p) && decide (r.iss.f = x.iss.f) && !r.began && !s.host.waits.any (fun w => decide (w.iss = r.iss)))

/-- A running command goes on: it waits, completes with RELEASED, or runs (R420 to R422); nothing of it happens while Scaeth restarts
(R236, R413), and a life-cycle transition refuses it (R356). -/
def State.go (s : State) (i : Issuer) (x : Running) (cmd : Instr) (body : State → State) : State :=
  if !s.host.avail then s
  else if x.released then s.complete i stRELEASED 0
  else if x.began || s.notFirst i x then s
  else if s.sec.trans.isSome && !statusOp x.op.toNat i.owner then s.complete i stLIFECYCLE 0
  else if s.blocked i x then
    let s := if wideOp x.op.toNat && s.host.wide.isNone then { s with host := { s.host with wide := some i } } else s
    if s.host.waits.any (fun w => decide (w.iss = i)) then s else { s with host := { s.host with waits := s.host.waits ++ [⟨i, cmd⟩] } }
  else
    let s := { s with host := { s.host with waits := s.host.waits.filter (fun w => decide (w.iss ≠ i))
                                            wide := if wideOp x.op.toNat then some i else s.host.wide } }
    body s

/-- A firmware command: the effect of a descriptor that has been consumed and carries these operands. Without a record of
its issuer, the command stands for its consumption too (log 48), while the mailboxes are available and the link is up. -/
def State.command (s : State) (i : Issuer) (op : Nat) (ops : List Opnd) (cmd : Instr) (body : State → State) : State :=
  match s.record i with
  | some x => if x.op.toNat = op && opsMatch x.bytes ops then s.go i x cmd body else s
  | none =>
    if !s.host.avail || !(i.owner || (s.port i.p).up) then s
    else
      let s := s.accept i.p i.f (descBytes op i.tag.toNat ops) true
      match s.record i with
      | some x => s.go i x cmd body
      | none => s

/-- Marks a command that goes on over later steps. -/
def State.begin (s : State) (i : Issuer) : State :=
  s.setRunning (s.host.running.map (fun r => if r.iss = i then { r with began := true } else r))

/-- Bytes of the stage buffer (R425). -/
def State.staged (s : State) (off len : Nat) : List Byte := (List.range len).map (fun k => sget 0 s.rel.stage (off + k))

/-- Whether a range lies in the stage buffer (R425). -/
def stageOk (off len : Nat) : Bool := decide (off + len ≤ 0x400000)

end Sys2Proof.Machine
end

