-- ==== Sys2Proof/Machine/LoadCheck.lean ====
section
/-! DEFINITION. What the loader reads and judges: headers, frames, records, planes, programs, links (R76, R86, R131, R324 to
R334, R340, R341). -/

namespace Sys2Proof.Machine

/-! ### The header (R324 to R327) -/

def hNSEG (h : List Byte) : Nat := le h 0x14 2
def hNWAKE (h : List Byte) : Nat := le h 0x16 1
def hNFRAME (h : List Byte) : Nat := le h 0x18 4
def hKIND (h : List Byte) : Nat := le h 6 1
def hKEYSRC (h : List Byte) : Nat := le h 7 1
def hCLASS (h : List Byte) : Nat := le h 8 4
def hSVN (h : List Byte) : Nat := le h 0x10 4
def hTCOMMIT (h : List Byte) : Nat := le h 0x20 8
def hRW (h : List Byte) : Nat := le h 0x48 1
def hRH (h : List Byte) : Nat := le h 0x49 1
def hSIGNER (h : List Byte) : List Byte := slice h 0x80 16
def hWAKE (h : List Byte) (i : Nat) : Nat := le h (0x28 + 4 * i) 4

/-- The device-class ID (R324). -/
def classId : Nat := 0x040960B0

/-- Fields of manifest entry k (R325). -/
def mOff (k : Nat) : Nat := 0x100 + 80 * k
def mHASH (h : List Byte) (k : Nat) : List Byte := slice h (mOff k) 48
def mTAG (h : List Byte) (k : Nat) : List Byte := slice h (mOff k + 0x30) 16
def mLEN (h : List Byte) (k : Nat) : Nat := le h (mOff k + 0x40) 4
def mTARGET (h : List Byte) (k : Nat) : Nat := le h (mOff k + 0x44) 1
def mAAD (h : List Byte) (k : Nat) : List Byte := slice h (mOff k + 0x40) 16

/-- Targets of all segments. -/
def hTargets (h : List Byte) : List Nat := (List.range (hNSEG h)).map (mTARGET h)

/-- The fields of R327 step 1 but the wake program: they fix the length of the header. -/
def hdrFixed (h : List Byte) : Bool :=
  decide (le h 0 4 = 0x4D49545A) && decide (le h 4 2 = 1) && (decide (hKIND h = 1) || decide (hKIND h = 2)) && decide (hKEYSRC h ≤ 1)
    && decide (1 ≤ hNSEG h) && decide (hNSEG h ≤ 256) && decide (hNWAKE h ≤ 8) && decide (1 ≤ hNFRAME h) && decide (hNFRAME h ≤ 65536)

/-- Bytes of the signed part, and of the whole header. -/
def hdrSigned (h : List Byte) : Nat := 0x100 + 80 * hNSEG h
def hdrNeed (h : List Byte) : Nat := if hdrFixed h then hdrSigned h + 96 + 4627 else 256

/-- R327 step 1: a manifest with a LEN out of range or a cluster named twice is a bad header too (R325, R328). -/
def hdrOk (h : List Byte) : Bool :=
  hdrFixed h && (List.range (hNSEG h)).all (fun k => decide (1 ≤ mLEN h k) && decide (mLEN h k ≤ 1048576))
    && decide ((hTargets h).eraseDups.length = hNSEG h)

/-- Wake steps (R340): code and operand. -/
abbrev WakeStep := Nat × Nat

/-- The wake program of a header (R341). -/
def wakeOf (h : List Byte) : List WakeStep :=
  if hNWAKE h = 0 then [(1, 1000000), (2, 0), (3, 0), (4, 0)]
  else (List.range (hNWAKE h)).map (fun i => (fld (hWAKE h i) 28 4, fld (hWAKE h i) 0 28))

/-- The rules of R341. -/
def wakeOk (w : List WakeStep) : Bool :=
  let at_ := fun (c : Nat) => w.findIdx (fun p => decide (p.1 = c))
  let count := fun (c : Nat) => (w.filter (fun p => decide (p.1 = c))).length
  w.all (fun p => decide (1 ≤ p.1) && decide (p.1 ≤ 6) && !(decide (p.1 = 5) && decide (p.2 = 0)))
    && decide (count 2 = 1) && decide (count 3 = 1) && decide (at_ 1 < at_ 3) && decide (count 4 ≤ 1)
    && (decide (count 4 = 0) || decide (at_ 3 < at_ 4))

/-- Group match of a Rope image (R345). -/
def groupMatch (h : List Byte) (id : Nat) : Bool :=
  let m := le h 0xE 2 % 4096
  decide (id &&& m = (le h 0xC 2 % 4096) &&& m)

/-! ### Key derivation (R329) -/

def kdf (key : List Byte) (label : String) (ctx : List Byte) : List Byte :=
  (Config.hmac384 key (toBe 4 1 ++ ascii label ++ [0] ++ ctx ++ toBe 4 256)).take 32

/-! ### Frames (R330) -/

def fFINDEX (f : List Byte) : Nat := le f 4 4
def fSEGIDX (f : List Byte) : Nat := le f 8 2
def fTARGET (f : List Byte) : Nat := le f 10 1
def fLAST (f : List Byte) : Bool := bit (le f 11 1) 0
def fOFFSET (f : List Byte) : Nat := le f 12 4
def fPLEN (f : List Byte) : Nat := le f 16 2
def fIMGID (f : List Byte) : List Byte := slice f 0x14 8
def fPayload (f : List Byte) : List Byte := slice f 64 (fPLEN f)

/-- Length of a frame by its header: only the header where PLEN is out of range. -/
def frameNeed (f : List Byte) : Nat := if 1 ≤ fPLEN f && decide (fPLEN f ≤ 4096) then 68 + fPLEN f else 64

/-- R331 step 1; a PLEN out of range misplaces the CRC (log 47). -/
def frameCrcOk (f : List Byte) : Bool :=
  decide (le f 0 4 = 0x4D52465A) && decide (1 ≤ fPLEN f) && decide (fPLEN f ≤ 4096) && decide (f.length = 68 + fPLEN f)
    && decide (le f (64 + fPLEN f) 4 = crc32c (f.take (64 + fPLEN f)))

/-- Whole frames at the front of a buffer. -/
def framesIn : Nat → List Byte → Nat
  | 0, _ => 0
  | n + 1, b => if 64 ≤ b.length && decide (frameNeed b ≤ b.length) then 1 + framesIn n (b.drop (frameNeed b)) else 0

/-! ### Load records (R332, R333) -/

/-- The records of a segment. -/
structure Seg where
  decl : Option (Byte × Bool × BitVec 2) := none
  planes : SMap Plane := []
  prog : SMap Entry := []
  iv : SMap (BitVec 4224) := []
  preBits : SMap Bool := []
  preBuf : SMap Word := []
  links : Option (SMap Reg) := none
  code : Option (SMap Byte) := none
  /-- Planes, entries, records and 16-byte code units given so far. -/
  gPlanes : List Nat := []
  gProg : List Nat := []
  gIv : List Nat := []
  gCode : List Nat := []

def Seg.mask (g : Seg) : Byte := (g.decl.map (·.1)).getD 0
def Seg.park (g : Seg) : Bool := (g.decl.map (·.2.1)).getD false
def Seg.role (g : Seg) : BitVec 2 := (g.decl.map (·.2.2)).getD 0

/-- The numbers of w bytes each that bytes hold. -/
def chunks (w : Nat) (d : List Byte) : List Nat := (List.range (d.length / w)).map (fun j => le d (w * j) w)

/-- Adds one record to a segment; none where it breaks R333. -/
def Seg.add (g : Seg) (ty cell idx : Nat) (d : List Byte) : Option Seg :=
  let n := d.length
  if ty = 1 then
    if g.decl.isSome || decide (cell ≠ 0) || decide (idx ≠ 0) || decide (n ≠ 8) || decide (1 < le d 1 1) || decide (2 < le d 2 1) then none
    else some { g with decl := some (BitVec.ofNat 8 (le d 0 1), decide (le d 1 1 = 1), BitVec.ofNat 2 (le d 2 1)) }
  else if ty = 2 then
    let ks := (List.range (n / 64)).map (fun j => 8 * cell + idx + j)
    if n % 64 ≠ 0 || decide (8 < idx + n / 64) || ks.any g.gPlanes.contains then none
    else some { g with gPlanes := ks ++ g.gPlanes
                       planes := (ks.zip (chunks 64 d)).foldl (fun m p => sput 0 m p.1 (BitVec.ofNat 512 p.2)) g.planes }
  else if ty = 3 then
    let ks := (List.range (n / 8)).map (fun j => idx + j)
    if cell ≠ 0 || decide (n % 8 ≠ 0) || decide (128 < idx + n / 8) || ks.any g.gProg.contains then none
    else some { g with gProg := ks ++ g.gProg
                       prog := (ks.zip (chunks 8 d)).foldl (fun m p => sput 0 m p.1 (BitVec.ofNat 64 p.2)) g.prog }
  else if ty = 4 then
    if idx ≠ 0 || decide (n ≠ 0x210) || g.gIv.contains cell then none
    else some { g with gIv := cell :: g.gIv, iv := sput 0 g.iv cell (BitVec.ofNat 4224 (leNat d)) }
  else if ty = 5 then
    let ks := (List.range (n / 16)).map (fun j => 2048 * cell + idx + j)
    if n % 16 ≠ 0 || decide (2048 < idx + n / 16) || ks.any (sget false g.preBits) then none
    else some { g with preBits := ks.foldl (fun m k => sput false m k true) g.preBits
                       preBuf := (ks.zip (chunks 16 d)).foldl (fun m p => sput 0 m p.1 (BitVec.ofNat 128 p.2)) g.preBuf }
  else if ty = 6 then
    if cell ≠ 0 || decide (idx ≠ 0) || decide (n ≠ 128) || g.links.isSome then none
    else some { g with links := some (((chunks 4 d).zipIdx).foldl (fun m p => sput 0 m p.2 (BitVec.ofNat 32 p.1)) []) }
  else if ty = 7 then
    let ks := (List.range (n / 16)).map (fun j => idx + j)
    if cell ≠ 0 || decide (n % 16 ≠ 0) || decide (4096 < idx + n / 16) || ks.any g.gCode.contains then none
    else some { g with gCode := ks ++ g.gCode
                       code := some ((d.zipIdx).foldl (fun m p => sput 0 m (16 * idx + p.2) p.1) (g.code.getD [])) }
  else none

/-- The records that a plaintext holds; none where one is invalid (R333). -/
def parseSeg : Nat → List Byte → Seg → Option Seg
  | _, [], g => if g.decl.isSome then some g else none
  | 0, _ :: _, _ => none
  | n + 1, b, g =>
    let len := le b 4 4
    if b.length < 8 || decide (b.length < 8 + len) then none
    else (g.add (le b 0 1) (le b 1 1 % 16) (le b 2 2) (slice b 8 len)).bind (parseSeg n (b.drop (8 + len)))

/-! ### Plane checks (R334) -/

/-- Defined opcodes (R40). -/
def opDefined (op : Nat) : Bool :=
  [0x00, 0x01, 0x02, 0x04, 0x05, 0x06, 0x08, 0x09, 0x0A, 0x0B, 0x0C, 0x0D, 0x10, 0x11, 0x12, 0x13, 0x14, 0x18, 0x20, 0x21, 0x30,
   0x31, 0x32, 0x38, 0x39, 0x40, 0x41, 0x42, 0x43, 0x50, 0x51, 0x52, 0x60, 0x61, 0x62, 0x70, 0x71].contains op

/-- Formats that an operation allows (R40). -/
def fmtAllowed (op fmt : Nat) : Bool :=
  if [0x30, 0x31, 0x32, 0x50].contains op then decide (fmt = 0)
  else if [0x38, 0x39, 0x40, 0x41, 0x42, 0x62].contains op then decide (fmt = 1)
  else if op = 0x43 then decide (fmt = 2)
  else if op = 0x51 || decide (op = 0x61) then decide (fmt ≤ 1)
  else decide (fmt ≤ 2)

/-- DETAIL 0x01 (R76). -/
def badCode (p : Plane) : Bool :=
  !opDefined (pOP p) || !fmtAllowed (pOP p) (pFMT p) || [pSRCA p, pSRCB p, pSRCC p, pQPUSHSRC p].any (fun c => decide (41 < c))
    || (decide (37 ≤ pDST p) && decide (pDST p ≤ 62))

/-- DETAIL 0x02 (R75, R76). -/
def badDst (p : Plane) : Bool :=
  let op := pOP p
  let d := pDST p
  let rd := op = 0x60 || op = 0x61 || op = 0x62
  let quarter := decide (16 ≤ pSRCA p) && decide (pSRCA p ≤ 31)
  if rd && !quarter then true
  else if op = 0 then false
  else if isAccOp op then !(decide (16 ≤ d) && decide (d ≤ 19))
  else if isTwoWord op && decide (d = 15) then true
  else if d ≤ 15 || decide (d = 63) then false
  else if d ≤ 19 then true
  else op = 0x39 || decide (op = 0x70) || decide (op = 0x71)

/-- The cells of one logical plane. -/
abbrev Cells := Nat → Plane

/-- The neighbour that a carry signal meets (R64): none where no carry link exists; the outer none while the pair's other
segment has not been decrypted. -/
def carryPeer (cells : Cells) (role : BitVec 2) (peer : Option Cells) (cx : Int) (cy : Nat) : Option (Option Plane) :=
  if 0 ≤ cx && decide (cx ≤ 3) then some (some (cells (4 * cy + cx.toNat)))
  else if cx = -1 && decide (role = 2) then peer.map (fun f => some (f (4 * cy + 3)))
  else if cx = 4 && decide (role = 1) then peer.map (fun f => some (f (4 * cy)))
  else some none

/-- DETAIL 0x03 (R63, R68): with the neighbour rules a chain has at most the 8 cells of a row of a carry pair. -/
def badCarry (cells : Cells) (role : BitVec 2) (peer : Option Cells) (i : Nat) : Bool :=
  let p := cells i
  let side := fun (on : Bool) (dx : Int) (need : Plane → Bool) =>
    on && (match carryPeer cells role peer ((i % 4 : Nat) + dx) (i / 4) with
      | none => false
      | some none => true
      | some (some q) => !need q || decide (pOP q ≠ pOP p))
  (pCIN p || pCOUT p) && (!isCarryOp (pOP p) || side (pCIN p) (-1) pCOUT || side (pCOUT p) 1 pCIN)

/-- DETAIL 0x04 (R113). -/
def badInput (p : Plane) (i : Nat) : Bool :=
  let out := fun (c : Nat) => (decide (c = 32) && decide (i / 4 = 3)) || (decide (c = 33) && decide (i % 4 = 3))
    || (decide (c = 34) && decide (i / 4 = 0)) || (decide (c = 35) && decide (i % 4 = 0))
  let sel := fun (c : Nat) => decide (4 ≤ c) && decide (c ≤ 7) && out (28 + c)
  (usesA (pOP p) && out (pSRCA p)) || (usesB (pOP p) && out (pSRCB p)) || (usesC (pOP p) && out (pSRCC p))
    || (pQPUSHEN p && out (pQPUSHSRC p)) || (List.range 5).any (fun o => sel (pOSEL p o))
    || (List.range 8).any (fun k => pXEN p k && sel (pXSRC p k))

/-- DETAIL 0x05 (R123). -/
def badEdge (p : Plane) (en : Nat → Bool) (i : Nat) : Bool :=
  (decide (i / 4 = 3) && decide (pOSEL p 0 ≠ 0) && !en (i % 4)) || (decide (i % 4 = 3) && decide (pOSEL p 1 ≠ 0) && !en (4 + i / 4))
    || (decide (i / 4 = 0) && decide (pOSEL p 2 ≠ 0) && !en (8 + i % 4)) || (decide (i % 4 = 0) && decide (pOSEL p 3 ≠ 0) && !en (12 + i / 4))

/-- Lane pieces that a cell drives (R117). -/
def lanePieces (p : Plane) (i : Nat) : List Nat :=
  ((List.range 8).filter (pXEN p)).map (fun k => 4 * k + (if k < 4 then i / 4 else i % 4))

/-- Queues that a cell pops and pushes (R140). -/
def queueUses (p : Plane) : List Nat := (if pQPOPEN p then [pQPOPID p] else []) ++ (if pQPUSHEN p then [128 + pQPUSHID p] else [])

/-- The first cell one of whose keys a cell of lower index has. -/
def secondUse (keys : Nat → List Nat) : Option Nat :=
  (List.range 16).find? (fun i => (keys i).any (fun k => (List.range i).any (fun j => (keys j).contains k)))

/-- The first failing plane check, as DETAIL and cell (R334). -/
def planeFail (cells : Cells) (en : Nat → Bool) (role : BitVec 2) (peer : Option Cells) : Option (Nat × Nat) :=
  let first := fun (d : Nat) (f : Nat → Bool) => ((List.range 16).find? f).map (fun i => (d, i))
  [first 1 (fun i => badCode (cells i)), first 2 (fun i => badDst (cells i)), first 3 (badCarry cells role peer),
   first 4 (fun i => badInput (cells i) i), first 5 (fun i => badEdge (cells i) en i),
   (secondUse (fun i => lanePieces (cells i) i)).map (fun i => (6, i)), (secondUse (fun i => queueUses (cells i))).map (fun i => (7, i))].findSome? id

/-- Cells of logical plane p of a segment. -/
def Seg.cells (g : Seg) (p : Nat) : Cells := fun i => sget 0 g.planes (8 * i + p)

/-- Queues that the planes of the live set push (R131). -/
def pushesOf (cells : Nat → Cells) (mask : Byte) : List Nat :=
  (List.range 8).flatMap (fun p => if bit mask.toNat p then
    (List.range 16).filterMap (fun i => if pQPUSHEN (cells p i) then some (pQPUSHID (cells p i)) else none) else [])

/-! ### Program and link checks (R86, R131) -/

/-- The first entry given that breaks R86, as DETAIL and entry. -/
def progFail (g : Seg) : Option (Nat × Nat) :=
  (List.range 128).findSome? (fun e =>
    if !g.gProg.contains e then none
    else
      let w := sget 0 g.prog e
      let dead := fun (p : Nat) => !bit g.mask.toNat p
      if 5 < enKIND w then some (1, e)
      else if (enKIND w ≠ 5 && dead (enPLANE w)) || (decide (enKIND w = 1) && dead (enALT w)) then some (2, e)
      else if enCPEER w && decide (g.role ≠ 1) then some (3, e)
      else none)

/-- Geometry of the checks of R131: the rectangle of target clusters, and the clusters from one row to the next (2 in
PAIRED mode, R451). -/
structure Geo where
  x0 : Nat
  y0 : Nat
  w : Nat
  h : Nat
  m : Nat
  deriving DecidableEq, Repr

/-- The cluster of a coded target. -/
def Geo.abs (g : Geo) (rel : Nat) : Nat := clOf (g.x0 + rel % 16) (g.y0 + g.m * (rel / 16))

/-- The target that the index of an enabled entry gives (R122). -/
def linkTarget (g : Geo) (c i : Nat) (r : Reg) : Int × Int :=
  let x : Int := clX c
  let y : Int := clY c
  let m : Int := g.m
  let d : Int := lkDIST r
  let st : Int := if lkDIR r then -d else d
  if i < 4 then (x, y + m) else if i < 8 then (x + 1, y) else if i < 12 then (x, y - m) else if i < 16 then (x - 1, y)
  else if i < 24 then (x + st, y) else (x, y + m * st)

/-- The lane of cells that a landing uses, as kind, line, lane and direction, and the cluster boundaries that it crosses. -/
def landingUse (g : Geo) (c i : Nat) (r : Reg) : Nat × List Nat :=
  let row := decide (i < 24)
  let sub := if row then i - 16 else i - 24
  let line := (if row then 4 * clY c else 4 * clX c) + sub / 2
  let pos := if row then clX c else clY c
  let d := lkDIST r * (if row then 1 else g.m)
  ((((b2n row * 64 + line) * 2 + sub % 2) * 2 + b2n (lkDIR r)),
   if lkDIR r then (List.range d).map (fun k => pos - d + k) else (List.range d).map (fun k => pos + k))

/-- A link that stands already: cluster, entry, target cluster and entry word with TCL absolute. -/
structure Claim where
  c : Nat
  i : Nat
  t : Nat
  r : Reg
  deriving DecidableEq, Repr

/-- The first condition of R131 that an entry breaks. -/
def linkFail (g : Geo) (pushed : Nat → Nat → Bool) (claims : List Claim) (c i : Nat) (r : Reg) : Option Nat :=
  let (tx, ty) := linkTarget g c i r
  let x0 : Int := g.x0
  let y0 : Int := g.y0
  let inside := decide (x0 ≤ tx) && decide (tx < x0 + g.w) && decide (y0 ≤ ty) && decide (ty < y0 + g.m * g.h)
  let t := clOf tx.toNat ty.toNat
  let sameGroup := if i < 24 then decide (tx.toNat / 4 = clX c / 4) else decide (ty.toNat / 4 = clY c / 4)
  let use := landingUse g c i r
  if !inside then some 1
  else if 16 ≤ i && (decide (lkDIST r = 0) || !sameGroup) then some 2
  else if claims.any (fun k => decide (k.t = t) && decide (lkQID k.r = lkQID r)) then some 3
  else if pushed t (lkQID r) then some 4
  else if 16 ≤ i && claims.any (fun k => decide (16 ≤ k.i) && (let u := landingUse g k.c k.i k.r; decide (u.1 = use.1) && u.2.any use.2.contains))
    then some 5
  else if g.abs (lkTCL r) ≠ t then some 6
  else none

/-- The link table of a segment with TCL absolute; entries with EN = 0 are zeros (R131, R332). -/
def absLinks (g : Geo) (m : SMap Reg) : SMap Reg :=
  (List.range 32).foldl (fun a i =>
    let r := sget 0 m i
    if lkEN r then sput 0 a i (BitVec.ofNat 32 (putFld r.toNat 8 8 (g.abs (lkTCL r)))) else a) []

/-- Claims of a table with TCL absolute. -/
def tableClaims (c : Nat) (m : Nat → Reg) : List Claim :=
  (List.range 32).filterMap (fun i => if lkEN (m i) then some ⟨c, i, lkTCL (m i), m i⟩ else none)

/-- The first failing link entry of a segment, as condition and entry; the claims grow entry by entry. -/
def linksFail (g : Geo) (pushed : Nat → Nat → Bool) (c : Nat) (m : SMap Reg) : Nat → List Claim → Option (Nat × Nat)
  | 0, _ => none
  | n + 1, claims =>
    let i := 31 - n
    let r := sget 0 m i
    if !lkEN r then linksFail g pushed c m n claims
    else match linkFail g pushed claims c i r with
      | some k => some (k, i)
      | none => linksFail g pushed c m n (claims ++ [⟨c, i, g.abs (lkTCL r), r⟩])

end Sys2Proof.Machine
end

