-- ==== Sys2Proof/Machine/Loader.lean ====
section
/-! DEFINITION. The loader: contexts, segments, aborts, arming and the commit of a cluster (R97 to R103, R129, R130, R320 to
R343). -/

namespace Sys2Proof.Machine

/-! ### Statuses (R352) -/

def lsNOT_ADDRESSED : Nat := 0x01
def lsWRONG_CLASS : Nat := 0x02
def lsBAD_HEADER : Nat := 0x03
def lsBAD_KIND : Nat := 0x04
def lsROLLBACK : Nat := 0x05
def lsBAD_SIGNATURE : Nat := 0x06
def lsKEY_UNAVAILABLE : Nat := 0x07
def lsBAD_REGION : Nat := 0x08
def lsFRAME_CRC : Nat := 0x09
def lsFRAME_ORDER : Nat := 0x0A
def lsOUT_OF_REGION : Nat := 0x0B
def lsSEGMENT_HASH : Nat := 0x0C
def lsSEGMENT_TAG : Nat := 0x0D
def lsRECORD_INVALID : Nat := 0x0E
def lsPLANE_REJECT : Nat := 0x0F
def lsPROGRAM_REJECT : Nat := 0x10
def lsLINK_REJECT : Nat := 0x11
def lsEARLY_END : Nat := 0x12
def lsROPE_LOCK : Nat := 0x13
def lsSHADOW_BUSY : Nat := 0x14
def lsLOADER_BUSY : Nat := 0x15
def lsCOMMIT_MISSED : Nat := 0x16
def lsTENANTS_PRESENT : Nat := 0x17
def lsBAD_WAKE : Nat := 0x18
def lsPEER_FAULT : Nat := 0x19
def lsWAKE_TIMEOUT : Nat := 0x1A
def lsWAKE_INCOMPLETE : Nat := 0x1B
def lsABORTED : Nat := 0x1C
def lsMODE_CHANGE : Nat := 0x1D

/-- Why a load fails: status, check code, cluster as coded in the image, cell or entry, plane (R353). -/
structure LoadErr where
  status : Nat
  detail : Nat := 0
  cluster : Nat := 0
  cell : Nat := 0
  plane : Nat := 0
  deriving DecidableEq, Repr

def LoadErr.lst (e : LoadErr) : Nat :=
  e.status * 2 ^ 24 + e.detail % 256 * 2 ^ 16 + e.cluster % 256 * 256 + e.cell % 32 * 8 + e.plane % 8

/-! ### Geometry -/

/-- Clusters from one row of a region to the next (R451). -/
def State.rowStep (s : State) : Nat := if s.sys.mode = 3 then 2 else 1

/-- Geometry of a load: its region, or the whole array for a full image. -/
def State.geo (s : State) (x : LoadCtx) : Geo :=
  match x.region.bind s.region with
  | some g => ⟨g.x0, g.y0, g.w, s.logH g, s.rowStep⟩
  | none => ⟨0, 0, 16, 16, 1⟩

/-- The clusters that hold the state of a coded target: its place after migrations, and its twin (R451, R470). -/
def State.loadTargets (s : State) (x : LoadCtx) (rel : Nat) : List Nat := s.withTwin (s.redir ((s.geo x).abs rel))

/-- Clusters over which a context's image may hold the sequencers (R336). -/
def State.loadArea (s : State) (x : LoadCtx) : List Nat :=
  match x.region.bind s.region with
  | some g => g.clusters.map s.redir
  | none => List.range 256

/-- Frees the sequencers that a load holds: those of its area without a shadow; one that has still to commit stays held (R336). -/
def State.freeHolds (s : State) (i : Nat) : State :=
  forAll (s.loadArea (s.ctx i)) (fun s c => if (s.cl c).shadow.isSome then s else s.updSeq c (fun q => { q with held := false })) s

/-! ### The Rope's lines (R346, R347) -/

/-- An addressed Rope image has failed. -/
def State.ropeFault (s : State) : State := s.setRope { s.loader.rope with faulto := true }

/-- ROPE_DONE_N outside a Rope image. -/
def State.ropeIdleLine (s : State) : State :=
  if s.loader.rope.inimg then s else s.setRope { s.loader.rope with doneo := !s.loader.fullCommitted }

/-! ### Ends of a load (R99, R336, R339, R343) -/

/-- Discards what a load has written into a cluster (R99); code that has been written is written back (R336). -/
def Cluster.dropShadow (k : Cluster) : Cluster :=
  match k.shadow with
  | none => k
  | some h =>
    let old := ((k.copy.bind (·.code)).getD [])
    { k with shadow := none, commitAt := none, linkEarly := []
             seq := { k.seq with imem := if h.codeDone then old else k.seq.imem } }

/-- Clears a load context and posts the completion of its command (R427). -/
def State.loadClose (s : State) (i lst findex tick : Nat) : State :=
  let x := s.ctx i
  let s := (s.setCtx i { lst := BitVec.ofNat 32 lst, lfrm := BitVec.ofNat 32 findex, ltk := x.ltk, ltkLatch := x.ltkLatch }).setKey (16 + i) none
  let s := if i = 4 then s.setRope { s.loader.rope with old := none } else s
  let code := lst / 2 ^ 24
  match x.issuer with
  | some a => s.complete a (if code = 0 then stOK else if code = lsABORTED then stABORTED else stLOAD_FAILED)
      (resAt 0x08 lst + resAt 0x0C findex + resAt 0x10 tick)
  | none => s

/-- A full load has ended: the barrier is lifted, and the lines and pins follow (R341, R342, R346). -/
def State.fullEnd (s : State) (pins : Bool) : State :=
  let l := s.loader
  (({ s with loader := { l with barrier := [], pinsFree := l.pinsFree || pins
                                ownerClusters := l.ownerClusters.filter (fun c => (s.cl c).digest.isSome || (s.cl c).shadow.isSome) } } : State).noteIdle s).ropeIdleLine

/-- The flash load of bring-up that follows a failed or ended one (R349): the second image, then the Rope. -/
def State.bootNext (s : State) (x : LoadCtx) (ok : Bool) : State :=
  if x.issuer.isNone && decide (x.path = .flash) then
    if !ok && decide (x.base = 0) then
      s.setCtx 4 { s.ctx 4 with busy := true, path := .flash, phase := .header, base := 0x1000000 }
    else if s.sys.bootSrc = 2 then s.setRope { s.loader.rope with listen := true } else s
  else s

/-- A load fails: everything it has written is discarded. -/
def State.loadFail (s : State) (i findex : Nat) (e : LoadErr) : State :=
  let x := s.ctx i
  let s := forAll x.written (fun s c => s.updCl c Cluster.dropShadow) s
  let s := s.freeHolds i
  let s := s.loadClose i e.lst findex 0
  if i = 4 then
    let s := if x.path = .rope then s.ropeFault else s
    (s.fullEnd false).bootNext x false
  else s

/-- A load has ended with OK (R352): a stop for a pair mismatch ends with it (R476). -/
def State.loadDone (s : State) (i : Nat) : State :=
  let x := s.ctx i
  let s := s.freeHolds i
  let s := s.loadClose i 0 0 x.tick
  if i = 4 then
    let s := { s with loader := { s.loader with firstLoad := false } }
    (s.fullEnd true).bootNext x true
  else match x.region with
    | some r => match s.region r with
      | some g => if g.stop = some .pairMismatch then s.setRegion r (some { g with stop := none }) else s
      | none => s
    | none => s

/-! ### Shadow writes (R97, R333, R335, R336) -/

/-- Writes a segment into a cluster's shadow. -/
def Cluster.takeSeg (k : Cluster) (i : Nat) (digest records : List Byte) (g : Seg) (links : SMap Reg) : Cluster :=
  let half := b2n (!k.live)
  let bank := b2n (!k.pbank)
  let now := k.seq.nest.isEmpty
  { k with
    planes := (List.range 16).foldl (fun m c => (List.range 8).foldl (fun m p =>
      sput 0 m (16 * c + 8 * half + p) (if bit g.mask.toNat p then g.cells p c else 0)) m) k.planes
    prog := (List.range 128).foldl (fun m e => sput 0 m (128 * bank + e) (sget 0 g.prog e)) k.prog
    ivr := g.iv
    preBits := g.preBits
    preBuf := g.preBuf
    links := (List.range 32).foldl (fun m e => sput 0 m (32 * bank + e) (sget 0 links e)) k.links
    seq := { k.seq with imem := if now then g.code.getD k.seq.imem else k.seq.imem }
    shadow := some { mask := g.mask, park := g.park, role := g.role, ctx := i, digest := digest
                     code := if now then none else g.code, codeDone := now && g.code.isSome, records := records } }

/-- Writes a segment of a context, as records and what they say, into its clusters. -/
def State.writeSeg (s : State) (i rel : Nat) (records : List Byte) (g : Seg) : State :=
  let x := s.ctx i
  let ts := s.loadTargets x rel
  let links := absLinks (s.geo x) (g.links.getD [])
  let s := forAll ts (fun s c => s.updCl c (fun k => k.takeSeg i x.digest records g links)) s
  s.setCtx i { s.ctx i with written := (s.ctx i).written ++ ts }

/-! ### The checks of a segment (R334) -/

/-- Cells of a half of a cluster's planes. -/
def Cluster.halfCells (k : Cluster) (half : Bool) (p : Nat) : Cells := fun c => sget 0 k.planes (16 * c + 8 * b2n half + p)

/-- Whether planes push a queue of cluster t (R131, R338): those given for t, those that the load has written there, or the
live ones of a cluster that the image does not name. -/
def State.loadPushes (s : State) (x : LoadCtx) (given : List (Nat × Seg)) (t q : Nat) : Bool :=
  let k := s.cl (s.redir t)
  match given.find? (fun e => decide (e.1 = t)) with
  | some e => (pushesOf e.2.cells e.2.mask).contains q
  | none =>
    if x.written.contains (s.redir t) then
      (pushesOf (k.halfCells (!k.live)) ((k.shadow.map (·.mask)).getD 0)).contains q
    else if ((hTargets x.hdr).map (s.geo x).abs).contains t then false
    else (pushesOf (k.halfCells k.live) k.mask).contains q

/-- The link claims that stand before a segment: of the clusters written, of a held leader, and the live tables of the
clusters that the image does not name (R131, R338). -/
def State.loadClaims (s : State) (x : LoadCtx) (held : List (Nat × Seg)) : List Claim :=
  let g := s.geo x
  let named := (hTargets x.hdr).map g.abs
  let all := (List.range g.h).flatMap (fun y => (List.range g.w).map (fun v => clOf (g.x0 + v) (g.y0 + g.m * y)))
  let old := (all.filter (fun t => !named.contains t)).flatMap (fun t => tableClaims t (s.cl (s.redir t)).link)
  let done := (named.filter (fun t => x.written.contains (s.redir t))).flatMap (fun t =>
    let k := s.cl (s.redir t)
    tableClaims t (fun e => sget 0 k.links (32 * b2n (!k.pbank) + e)))
  old ++ done ++ held.flatMap (fun (t, sg) => let m := absLinks g (sg.links.getD []); tableClaims t (fun e => sget 0 m e))

/-- The checks of R334 on the segment of cluster code rel, n its number; held is the pair's leader that waits. -/
def State.segFail (s : State) (x : LoadCtx) (n rel : Nat) (g : Seg) (held : Option (Nat × Seg)) : Option LoadErr :=
  let geo := s.geo x
  let t := geo.abs rel
  let m := g.links.getD []
  let en := fun e => lkEN (sget 0 m e)
  let pairOk := g.role = 2 && (match held with | some (r, _) => decide (r + 1 = rel) | none => false)
  let lead := if pairOk then held else none
  let plane := (List.range 8).findSome? (fun p =>
    let a := lead.bind (fun (r, l) =>
      (planeFail (l.cells p) (fun e => lkEN (sget 0 (l.links.getD []) e)) 1 (some (g.cells p))).map (fun (d, c) =>
        ({ status := lsPLANE_REJECT, detail := d, cluster := r, cell := c, plane := p } : LoadErr)))
    match a with
    | some e => some e
    | none => (planeFail (g.cells p) en g.role (lead.map (fun l => l.2.cells p))).map (fun (d, c) =>
        { status := lsPLANE_REJECT, detail := d, cluster := rel, cell := c, plane := p }))
  let next := if n + 1 < hNSEG x.hdr then some (mTARGET x.hdr (n + 1)) else none
  let badPair := (decide (g.role = 1) && (decide (clX t % 2 = 1) || decide (next ≠ some (rel + 1)) || decide (geo.w ≤ rel % 16 + 1)))
    || (decide (g.role = 2) && !pairOk) || (held.isSome && decide (g.role ≠ 2))
  match plane with
  | some e => some e
  | none =>
    if badPair then some { status := lsPROGRAM_REJECT, detail := 3, cluster := rel }
    else match progFail g with
      | some (d, e) => some { status := lsPROGRAM_REJECT, detail := d, cluster := rel, cell := e }
      | none =>
        let given := (t, g) :: (held.map (fun (r, l) => (geo.abs r, l))).toList
        let claims := s.loadClaims x (given.drop 1)
        match linksFail geo (s.loadPushes x given) t m 32 claims with
        | some (d, e) => some { status := lsLINK_REJECT, detail := d, cluster := rel, cell := e }
        | none =>
          let mine := pushesOf g.cells g.mask
          (claims.find? (fun k => decide (k.t = t) && mine.contains (lkQID k.r))).map (fun k =>
            { status := lsLINK_REJECT, detail := 4, cell := k.i
              cluster := 16 * ((clY k.c - geo.y0) / geo.m) + (clX k.c - geo.x0) })

/-! ### Arming (R100, R343) -/

/-- Every frame has been written: a region image commits at T, a full image starts its wake program. -/
def State.loadArm (s : State) (i : Nat) : State :=
  let x := s.ctx i
  if i = 4 then
    let s := s.setCtx 4 { x with phase := .wake, step := 0, stepFrom := s.now }
    if x.path = .rope then s.setRope { s.loader.rope with doneo := false } else s
  else
    let t := if hTCOMMIT x.hdr = 0 then upTo 1000 (s.now + 10000) else hTCOMMIT x.hdr
    if t < s.now + 10000 then s.loadFail i (x.nextFrame - 1) { status := lsCOMMIT_MISSED }
    else
      let s := forAll x.written (fun s c => s.updCl c (fun k => { k with commitAt := some t })) s
      s.setCtx i { x with phase := .armed, tick := t, ltk := BitVec.ofNat 64 t }

/-- Whether code of a context still waits for its sequencer. -/
def State.codeWaits (s : State) (x : LoadCtx) : Bool := x.written.any (fun c => match (s.cl c).shadow with | some h => h.code.isSome | none => false)

/-- The frames have ended. -/
def State.framesEnd (s : State) (i : Nat) : State :=
  let x := s.ctx i
  if !x.segBuf.isEmpty || decide (x.seg < hNSEG x.hdr) then s.loadFail i (x.nextFrame - 1) { status := lsFRAME_ORDER }
  else if s.codeWaits x then s.setCtx i { x with phase := .codeWait }
  else s.loadArm i

/-! ### The end of a segment (R329, R334, R335) -/

/-- The last byte of segment n has come with frame findex: it is opened, judged and written (log 91). -/
def State.endSeg (s : State) (i n findex : Nat) (cipher : List Byte) : State :=
  let x := s.ctx i
  let h := x.hdr
  let rel := mTARGET h n
  let key := (s.key (16 + i)).getD []
  let key := if n = 0 then key else kdf key "ZT-NEXT" (toLe 4 n)
  let s := s.setKey (16 + i) (if n + 1 < hNSEG h then some key else none)
  let fail := fun (s : State) (e : LoadErr) => s.loadFail i findex e
  if Config.sha384 cipher ≠ mHASH h n then fail s { status := lsSEGMENT_HASH, cluster := rel }
  else match Config.gcmOpen key (toLe 8 n ++ toLe 4 0) (mAAD h n) cipher (mTAG h n) with
    | none => fail s { status := lsSEGMENT_TAG, cluster := rel }
    | some plain => match parseSeg (plain.length + 1) plain {} with
      | none => fail s { status := lsRECORD_INVALID, cluster := rel }
      | some g =>
        let s := if g.code.isSome then forAll (s.loadTargets x rel) (fun s c => s.updSeq c (fun q => { q with held := true })) s else s
        let held := x.pairHold.bind (fun (r, b) => (parseSeg (b.length + 1) b {}).map (fun l => (r, l)))
        let lead := (x.pairHold.map (·.2)).getD []
        match s.segFail x n rel g held with
        | some e => fail s e
        | none =>
          let rels := (held.map (·.1)).toList ++ [rel]
          let busy := rels.find? (fun r => (s.loadTargets x r).any (fun c => (s.cl c).shadow.isSome))
          let x := { x with seg := n + 1, segBuf := [], sealed := none }
          if g.role = 1 then s.setCtx i { x with pairHold := some (rel, plain) }
          else match busy with
            | some r => fail s { status := lsSHADOW_BUSY, cluster := r }
            | none =>
              let s := s.setCtx i { x with pairHold := none }
              let s := match held with | some (r, l) => s.writeSeg i r lead l | none => s
              s.writeSeg i rel plain g

/-! ### The decryption engine (R321) -/

/-- Whether the clusters of a target can be written: powered, in service, not in repair, not migrating (R107, R458, R470). -/
def State.targetReady (s : State) (x : LoadCtx) (rel : Nat) : Bool :=
  (s.loadTargets x rel).all (fun c => s.openCluster c && (s.cl c).repair.isNone && !(s.rel.migq.any (fun m => decide (m.cl = c))))

/-- Whether a context requests the decryption engine: its segment is complete, and all clusters that it writes, a carry pair's leader among
them, can be written (R107). -/
def State.engineAsks (s : State) (i : Nat) : Bool :=
  let x := s.ctx i
  x.busy && decide (x.phase = .frames) && x.sealed.isSome && s.targetReady x (mTARGET x.hdr x.seg)
    && (match x.pairHold with | some (r, _) => s.targetReady x r | none => true)

/-- The context that the engine serves in the present cycle: by the default tie rule, in DETERMINISTIC and ISOLATED modes by equal fixed
slots (R25, R27, R321). -/
def State.engineNext (s : State) : Option Nat :=
  if s.sys.mode = 2 || decide (s.sys.mode = 4) then (if s.engineAsks (s.now % 5) then some (s.now % 5) else none)
  else rrPick 5 s.loader.ptr s.engineAsks

/-- The engine opens the segment of a context; the last frame may have been its last byte. -/
def State.engineServes (s : State) (i : Nat) : State :=
  let x := s.ctx i
  let s := { s with loader := { s.loader with ptr := (i + 1) % 5 } }
  let s := s.endSeg i x.seg (x.sealed.getD 0) x.segBuf
  let y := s.ctx i
  if y.busy && decide (y.phase = .frames) && decide (y.nextFrame = hNFRAME y.hdr) then s.framesEnd i else s

/-- One cycle of the loader (R26): the engine serves at most one context (log 96). -/
def State.loaderCycle (s : State) : State :=
  match s.engineNext with
  | some i => s.engineServes i
  | none => s

/-! ### Commit (R101 to R103, R129, R130, R337) -/

/-- The state that an initial-value record gives a cell (R94, R101). -/
def Cell.commitFrom (x : Cell) (v : BitVec 4224) : Cell :=
  let n := v.toNat
  { x with
    c := (List.range 16).foldl (fun m j => sput 0 m j (BitVec.ofNat 128 (fld n (128 * j) 128))) []
    acc := (List.range 4).foldl (fun m j => sput 0 m j (BitVec.ofNat 512 (fld n (2048 + 512 * j) 512))) []
    ap0 := BitVec.ofNat 11 (fld n 4096 11), ap1 := BitVec.ofNat 11 (fld n 4128 11), wp := BitVec.ofNat 11 (fld n 4160 11)
    cond := bit n 4192, flight := [], outs := [], stat := 0 }

/-- What a commit at T does inside a cluster; W is its preload count (R101 to R103, log 89). -/
def Cluster.commitAtTick (k : Cluster) (h : Shadow) (t w : Nat) (stays : Bool) : Cluster :=
  let half := b2n (!k.live)
  { k with
    cells := (List.range 16).foldl (fun m i => sput {} m i ((k.cell i).commitFrom (sget 0 k.ivr i))) k.cells
    lanes := [], live := !k.live, pbank := !k.pbank, mask := h.mask, startPark := h.park, role := h.role
    sel := { k.sel with run := false, rep := 0, plane := 0, lc0 := 0, lc1 := 0, cmd := none
                        cmderr := k.sel.cmderr || k.sel.cmd.isSome }
    shadow := none, commitAt := none, fill := w + 1, fillIdx := 0, ctick := BitVec.ofNat 64 t, digest := some h.digest
    copy := some { records := h.records
                   planes := (List.range 16).foldl (fun m c => (List.range 8).foldl (fun m p =>
                     sput 0 m (8 * c + p) (sget 0 k.planes (16 * c + 8 * half + p))) m) []
                   code := if h.codeDone then some k.seq.imem else k.copy.bind (·.code) }
    seq := { k.seq with held := false }
    stopped := k.stopped && stays }

/-- Words counted for a queue at a count edge: those in it and those that links have in flight to it (R130). -/
def State.countWords (s : State) (t q : Nat) : Nat :=
  ((s.cl t).queue q).count + (s.cls.map (fun (_, k) => (k.linkWords.filter (fun w => decide (s.redir w.tcl = t) && decide (w.q = q))).length)).sum

/-- Credits that a new link gets at its count edge (R130). -/
def State.linkStart (s : State) (t q : Nat) : Nat := (s.cl t).qDepth q - s.countWords t q

/-- The link table of a cluster takes effect with its commit (R129, R130): o is the cluster before. -/
def State.commitLinks (s : State) (c i : Nat) (o : Cluster) : State :=
  forAll (List.range 32) (fun s e =>
    let k := s.cl c
    let r := k.link e
    let old := o.link e
    let kept := lkEN r && lkEN old && decide (lkTCL r = lkTCL old) && decide (lkQID r = lkQID old)
    let t := s.redir (lkTCL r)
    if kept then s
    else
      let k := { k with credits := sput 0 k.credits e 0, linkCreds := k.linkCreds.filter (fun x => decide (x ≠ e))
                        linkAwait := k.linkAwait.filter (fun x => decide (x ≠ e)), linkEarly := sput 0 k.linkEarly e 0 }
      let s := s.setCl c k
      let early := sget 0 o.linkEarly e
      let give := fun (n : Nat) => s.setCl c { k with linkCreds := k.linkCreds ++ List.replicate n e }
      if !lkEN r then s
      else if early ≠ 0 then give (early - 1)
      else if (match (s.cl t).shadow with | some h => decide (h.ctx = i) | none => false) then s.setCl c { k with linkAwait := k.linkAwait ++ [e] }
      else give (s.linkStart t (lkQID r))) s

/-- The commit edge of cluster t is the count edge of the new links that target it from clusters of the same image (R130). -/
def State.countEdge (s : State) (t i : Nat) : State :=
  forAll (s.cls.map (·.1)) (fun s x => forAll (List.range 32) (fun s e =>
    let k := s.cl x
    match k.shadow with
    | some h =>
      let r := sget 0 k.links (32 * b2n (!k.pbank) + e)
      let old := k.link e
      let kept := lkEN old && decide (lkTCL r = lkTCL old) && decide (lkQID r = lkQID old)
      if h.ctx = i && lkEN r && !kept && decide (s.redir (lkTCL r) = t) then
        s.setCl x { k with linkEarly := sput 0 k.linkEarly e (s.linkStart t (lkQID r) + 1) }
      else s
    | none =>
      if k.linkAwait.contains e && decide (s.redir (lkTCL (k.link e)) = t) then
        s.setCl x { k with linkAwait := k.linkAwait.filter (fun y => decide (y ≠ e))
                           linkCreds := k.linkCreds ++ List.replicate (s.linkStart t (lkQID (k.link e))) e }
      else s) s) s

/-- Preload words of a cluster: the greatest count over its cells (R102). -/
def Cluster.preCount (k : Cluster) : Nat := (List.range 16).foldl (fun m i => max m (k.preWords i).length) 0

/-- One cluster commits; its verified records go into the image shadow copy in the anchor blocks (R337). -/
def State.commitOne (s : State) (c w : Nat) : State :=
  let k := s.cl c
  match k.shadow, k.commitAt with
  | some h, some t =>
    let s := (s.setCl c (k.commitAtTick h t w (s.smap c).retired)).anchorKeep c 0 h.records
    (s.commitLinks c h.ctx k).countEdge c h.ctx
  | _, _ => s

/-- The clusters that commit with a cluster: its new follower, and the twins (R101, R102, R451). -/
def State.commitGroup (s : State) (c : Nat) : List Nat :=
  let ls := match (s.cl c).shadow with
    | some h => if h.role = 1 then [c, c + 1] else [c]
    | none => [c]
  ls ++ s.twinsOf ls

/-- Whether a cluster commits now: its own edge at or after T has come (R33, R100), in the order of R34. -/
def State.commitDue (s : State) (c : Nat) : Bool := ((s.commitTick c).map s.inOrder).getD false

/-- The next wake step; the program's end ends the load (R343). -/
def State.wakeNext (s : State) : State :=
  let x := s.ctx 4
  if x.step + 1 < (wakeOf x.hdr).length then s.setCtx 4 { x with step := x.step + 1, stepFrom := s.now } else s.loadDone 4

/-- The running wake step, as code and operand. -/
def State.wakeStep (s : State) : Option WakeStep :=
  let x := s.ctx 4
  if x.busy && decide (x.phase = .wake) then (wakeOf x.hdr)[x.step]? else none

/-- Every cluster of a full image has committed: ROPE_DONE_N follows (R346), and RELEASE_SETRESET has ended (R340). -/
def State.fullIn (s : State) : State :=
  let s := ({ s with loader := { s.loader with fullCommitted := true } } : State).ropeIdleLine
  match s.wakeStep with
  | some (3, _) => if (s.ctx 4).released then s.wakeNext else s
  | _ => s

/-- The commit of a cluster and its group; the last one of a load ends it, or a full image's commit (R340, R343). -/
def State.commitCluster (s : State) (c : Nat) : State :=
  if !s.commitDue c then s
  else
    let cs := s.commitGroup c
    let i := ((s.cl c).shadow.map (·.ctx)).getD 0
    let w := cs.foldl (fun m c => max m (s.cl c).preCount) 0
    let s := forAll cs (fun s c => s.commitOne c w) s
    if s.cls.any (fun e => e.2.commitAt.isSome && decide ((e.2.shadow.map (·.ctx)) = some i)) then s
    else if i = 4 then s.fullIn
    else s.loadDone i

/-- REGION_COMMIT (R101). -/
def execRegionCommit (c : ClId) (s : State) : Host.Outcome State Fault Refusal := act s (·.commitCluster c.val)

end Sys2Proof.Machine
end

