-- ==== Sys2Proof/Machine/Spdm.lean ====
section
/-! DEFINITION. The SPDM responder of a host port and its session (R361 to R369, R376). -/

namespace Sys2Proof.Machine

/-- SPDM response codes and error codes of the published standard (R13, R361). -/
def spdmVERSION : Nat := 0x04
def spdmCAPABILITIES : Nat := 0x61
def spdmALGORITHMS : Nat := 0x63
def spdmDIGESTS : Nat := 0x01
def spdmCERTIFICATE : Nat := 0x02
def spdmCHALLENGE_AUTH : Nat := 0x03
def spdmMEASUREMENTS : Nat := 0x60
def spdmKEY_EXCHANGE_RSP : Nat := 0x64
def spdmFINISH_RSP : Nat := 0x65
def spdmHEARTBEAT_ACK : Nat := 0x68
def spdmKEY_UPDATE_ACK : Nat := 0x69
def spdmEND_SESSION_ACK : Nat := 0x6C
def spdmVENDOR : Nat := 0x7E
def spdmERROR : Nat := 0x7F
def errInvalidRequest : Byte := 0x01
def errInvalidSession : Byte := 0x02
def errUnexpectedRequest : Byte := 0x04
def errSessionLimit : Byte := 0x0A

/-- Whether a host port answers SPDM (R361, R461; no more in RETIRED, R354). -/
def State.spdmServed (s : State) (p : Nat) : Bool := (s.port p).up && decide (2 ≤ s.sys.bring) && decide (s.sec.lcs ≠ .retired)

def State.spdmError (s : State) (p : Nat) (e : Byte) : State := s.emit (.spdm p spdmERROR [e])

/-- An SPDM request, while the port answers. -/
def spdmAct (p : PortId) (s : State) (f : State → State) : Host.Outcome State Fault Refusal :=
  act s fun s => if s.spdmServed p.val then f s else s

/-- A request that needs negotiated algorithms. -/
def State.afterAlgs (s : State) (p : Nat) (f : State → State) : State :=
  if (s.spdm p).algs then f s else s.spdmError p errUnexpectedRequest

/-- A request inside a session. -/
def State.inSession (s : State) (p : Nat) (f : State → State) : State :=
  if (s.spdm p).session.isSome then f s else s.spdmError p errInvalidSession

/-- The end of a session destroys its secrets (R362, R369). -/
def State.endSession (s : State) (p : Nat) : State :=
  let s := s.setSpdm p { s.spdm p with session := none, handshake := none, updates := 0, ideStreams := [] }
  let s := (s.setKey (8 + p) none).setKey (12 + p) none
  forAll (List.range 8) (fun s k => s.setKey (128 + 8 * p + k) none) s

/-- A random draw (R362). -/
def State.draw (s : State) : List Byte × State := (Config.random s.entropy, { s with entropy := s.entropy + 1 })

/-! ### Device identity (R358, R360) -/

/-- The unique device secret (R358). -/
def uds : List Byte := Config.sha384 (Config.pufKey ++ Config.fuseSecret)

/-- The DeviceID public key (R358). -/
def deviceId : List Byte := Config.ecPublic (kdf uds "ZT-DEVID" [])

/-- The certificate chain of slot 0, from the root CA to Alias1 (R360). -/
def State.certChain (s : State) : List Byte := Config.deviceChain deviceId ++ s.sec.cert1

/-! ### Measurements (R363, R364) -/

/-- Entries of a sparse store as bytes. -/
def storeBytes {n : Nat} (m : SMap (BitVec n)) : List Byte := m.flatMap (fun (k, v) => toLe 4 k ++ toLe 8 v.toNat)

/-- What measurement 5 is taken over. -/
def State.fwConfig (s : State) : List Byte :=
  s.sec.ownerHash.getD [] ++ toLe 4 s.sec.owner.svn ++ (List.range 4).flatMap (fun t => toLe 4 (s.signer t).svn) ++ toLe 1 s.sys.mode
    ++ s.noc.routers.flatMap (fun (r, x) => toLe 2 r ++ storeBytes x.slots) ++ storeBytes s.belay.laneTab ++ storeBytes s.belay.dispTab
    ++ toLe 1 (bitsOf ((List.range 4).map s.tenant))

/-- Slots of the Belay tables that name a tenant: its ISOLATED shares (R234, R363). -/
def laneShare (tab : SMap Byte) (n t : Nat) : Nat :=
  ((List.range (64 * n)).filter (fun i => let e := (sget 0xFF tab i).toNat; decide ((if e = 0xFF then i % 4 else e) = t))).length

/-- The tenant description of measurement 6. -/
def State.tenantDesc (s : State) (t : Nat) : List Byte :=
  if !s.tenant t then []
  else
    (List.range 64).flatMap (fun r => match s.region r with
      | some g => if g.ten ≠ t then [] else
          [BitVec.ofNat 8 r, BitVec.ofNat 8 g.x0, BitVec.ofNat 8 g.y0, BitVec.ofNat 8 g.w, BitVec.ofNat 8 g.h]
          ++ toLe 2 g.units.length ++ toLe 4 (128 * g.clusters.length) ++ toLe 2 g.scount
          ++ toLe 1 ((List.range 64).filter (fun m => decide ((s.mover m).region = some r))).length ++ toLe 3 g.tcount
          ++ toLe 2 (laneShare s.belay.laneTab 4 t) ++ toLe 1 (laneShare s.belay.dispTab 2 t) ++ toLe 1 (b2n g.patched)
          ++ (g.clusters.map s.redir).flatMap (fun c => (s.cl c).digest.getD [])
      | none => [])

/-- The value of a measurement block. -/
def State.measurement (s : State) (p i : Nat) : Option (List Byte) :=
  if i = 1 then some Config.romHash
  else if i = 2 then some Config.secFwHash
  else if i = 3 then some ((sget none s.rel.fwHash (b2n s.rel.slot)).getD (Config.fwHash (b2n s.rel.slot)))
  else if i = 4 then some ([BitVec.ofNat 8 s.sec.lcs.code, BitVec.ofNat 8 s.sec.dbgcnt, 0xB0, Config.romSvn] ++ toLe 4 0)
  else if i = 5 then some (Config.sha384 s.fwConfig)
  else if i = 6 then some (Config.sha384 (s.tenantDesc p))
  else none

/-- DMTF type of a measurement (R363, log 45): 0 immutable ROM, 1 mutable firmware, 2 hardware and 3 firmware configuration; bit 7 for a raw value. -/
def dmtfType (i : Nat) : Nat := if i = 1 then 0 else if i ≤ 3 then 1 else if i = 4 then 0x82 else 3

/-- A measurement block: index, DMTF specification, size, type, size of the value, value (log 45). -/
def State.measBlock (s : State) (p i : Nat) : Option (List Byte) :=
  (s.measurement p i).map (fun v => toLe 1 i ++ toLe 1 1 ++ toLe 2 (v.length + 3) ++ toLe 1 (dmtfType i) ++ toLe 2 v.length ++ v)

/-- The blocks that a GET_MEASUREMENTS asks for: 0 asks for their number, 0xFF for all of them. -/
def State.measurements (s : State) (p i : Nat) : Option (List Byte) :=
  if i = 0 then some [6]
  else if i = 0xFF then some ((List.range 6).flatMap (fun k => (s.measBlock p (k + 1)).getD []))
  else s.measBlock p i

/-- Algorithms that the device offers (R361). -/
def algsOffered : List SpdmAlg := [.ecdsaP384, .sha384, .secp384r1, .aes256gcm]

def SpdmAlg.code : SpdmAlg → Byte
  | .ecdsaP384 => 0 | .sha384 => 1 | .secp384r1 => 2 | .aes256gcm => 3 | .other => 0xFF

/-! ### Requests -/

def execGetVersion (p : PortId) (s : State) : Host.Outcome State Fault Refusal :=
  spdmAct p s fun s => (s.setSpdm p.val { s.spdm p.val with version := true, caps := false, algs := false }).emit (.spdm p.val spdmVERSION [0x13])

def execGetCapabilities (p : PortId) (s : State) : Host.Outcome State Fault Refusal :=
  spdmAct p s fun s =>
    if (s.spdm p.val).version then (s.setSpdm p.val { s.spdm p.val with caps := true, algs := false }).emit (.spdm p.val spdmCAPABILITIES [])
    else s.spdmError p.val errUnexpectedRequest

/-- NEGOTIATE_ALGORITHMS (R361): the device chooses what it offers among what the requester offers. -/
def execNegotiateAlgorithms (p : PortId) (offer : List SpdmAlg) (s : State) : Host.Outcome State Fault Refusal :=
  spdmAct p s fun s =>
    if (s.spdm p.val).caps then
      let pick := algsOffered.filter (fun a => offer.contains a)
      (s.setSpdm p.val { s.spdm p.val with algs := decide (pick = algsOffered) }).emit (.spdm p.val spdmALGORITHMS (pick.map SpdmAlg.code))
    else s.spdmError p.val errUnexpectedRequest

def execGetDigests (p : PortId) (s : State) : Host.Outcome State Fault Refusal :=
  spdmAct p s fun s => s.afterAlgs p.val fun s => s.emit (.spdm p.val spdmDIGESTS (Config.sha384 s.certChain))

/-- GET_CERTIFICATE (R360): slot 0 holds the chain. -/
def execGetCertificate (p : PortId) (slot : Nat) (s : State) : Host.Outcome State Fault Refusal :=
  spdmAct p s fun s => s.afterAlgs p.val fun s =>
    if slot = 0 then s.emit (.spdm p.val spdmCERTIFICATE s.certChain) else s.spdmError p.val errInvalidRequest

/-- Signs with Alias1 (R359, R363). -/
def State.alias1Sign (s : State) (b : List Byte) : List Byte := Config.sign ((s.key 2).getD []) b

def execChallenge (p : PortId) (nonce : List Byte) (s : State) : Host.Outcome State Fault Refusal :=
  spdmAct p s fun s => s.afterAlgs p.val fun s =>
    let (r, s) := s.draw
    let body := Config.sha384 s.certChain ++ r
    s.emit (.spdm p.val spdmCHALLENGE_AUTH (body ++ s.alias1Sign (nonce ++ body)))

/-- GET_MEASUREMENTS (R363). -/
def execGetMeasurements (p : PortId) (index : Nat) (nonce : List Byte) (s : State) : Host.Outcome State Fault Refusal :=
  spdmAct p s fun s => s.afterAlgs p.val fun s =>
    match s.measurements p.val index with
    | some m => s.emit (.spdm p.val spdmMEASUREMENTS (m ++ s.alias1Sign (nonce ++ m)))
    | none => s.spdmError p.val errInvalidRequest

/-- KEY_EXCHANGE (R362). -/
def execKeyExchange (p : PortId) (share : List Byte) (s : State) : Host.Outcome State Fault Refusal :=
  spdmAct p s fun s => s.afterAlgs p.val fun s =>
    if (s.spdm p.val).session.isSome then s.spdmError p.val errSessionLimit
    else
      let (r, s) := s.draw
      (s.setSpdm p.val { s.spdm p.val with handshake := some (Config.dhSecret r share) }).emit
        (.spdm p.val spdmKEY_EXCHANGE_RSP (s.alias1Sign share))

/-- The requester's proof that FINISH carries, and the export master secret, under a session's secret. -/
def finishProof (secret : List Byte) : List Byte := Config.hmac384 secret (ascii "finished")
def exportSecret (secret : List Byte) : List Byte := Config.hmac384 secret (ascii "exp master")

/-- FINISH (R366, R369, R400): the session's keys are created, and the expected SEQ is 1. -/
def execFinish (p : PortId) (verify : List Byte) (s : State) : Host.Outcome State Fault Refusal :=
  spdmAct p s fun s =>
    match (s.spdm p.val).handshake with
    | none => s.spdmError p.val errUnexpectedRequest
    | some k =>
      if verify = finishProof k then
        let s := s.setSpdm p.val { s.spdm p.val with handshake := none, session := some k, seq := 1, updates := 0 }
        let s := s.setKey (8 + p.val) (some (exportSecret k))
        (s.setKey (12 + p.val) (some (kdf (exportSecret k) "ZT-CMD" (toLe 4 p.val)))).emit (.spdm p.val spdmFINISH_RSP [])
      else (s.setSpdm p.val { s.spdm p.val with handshake := none }).spdmError p.val errInvalidRequest

def execHeartbeat (p : PortId) (s : State) : Host.Outcome State Fault Refusal :=
  spdmAct p s fun s => s.inSession p.val (·.emit (.spdm p.val spdmHEARTBEAT_ACK []))

def execKeyUpdate (p : PortId) (s : State) : Host.Outcome State Fault Refusal :=
  spdmAct p s fun s => s.inSession p.val fun s =>
    (s.setSpdm p.val { s.spdm p.val with updates := (s.spdm p.val).updates + 1 }).emit (.spdm p.val spdmKEY_UPDATE_ACK [])

/-- END_SESSION (R362). -/
def execEndSession (p : PortId) (s : State) : Host.Outcome State Fault Refusal :=
  spdmAct p s fun s => s.inSession p.val fun s => (s.endSession p.val).emit (.spdm p.val spdmEND_SESSION_ACK [])

/-- IDE key management (R369, R376). -/
def execIdeKm (p : PortId) (m : IdeMsg) (s : State) : Host.Outcome State Fault Refusal :=
  spdmAct p s fun s => s.inSession p.val fun s =>
    let x := s.spdm p.val
    let slot := fun (n d : Nat) => 128 + 8 * p.val + 2 * n + d
    let s := match m with
      | .keyProg n d k => (s.setSpdm p.val { x with ideStreams := (n.val, d.val) :: x.ideStreams.filter (fun y => decide (y ≠ (n.val, d.val))) }).setKey
          (slot n.val d.val) (some k)
      | .teardown n => ((s.setSpdm p.val { x with ideStreams := x.ideStreams.filter (fun y => decide (y.1 ≠ n.val)) }).setKey
          (slot n.val 0) none).setKey (slot n.val 1) none
    s.emit (.spdm p.val spdmVENDOR [])

end Sys2Proof.Machine
end

