-- ==== Sys2Proof/Machine/Ports.lean ====
section
/-! DEFINITION. Host ports: links, BAR0 and its rings, doorbells, notices, the push window, BAR2, violations and resets
(R384 to R416). -/

namespace Sys2Proof.Machine

/-! ### Ports and functions (R384, R388) -/

/-- Whether the strapped bifurcation gives a host port. -/
def State.portExists (s : State) (p : Nat) : Bool :=
  if p = 1 then !bit s.sys.straps.toNat 0 else if p = 3 then !bit s.sys.straps.toNat 1 else true

def Func.ring (u : Func) : RingKind → Ring
  | .sq => u.sq | .cq => u.cq | .nr => u.nr

def Func.setRing (u : Func) (k : RingKind) (r : Ring) : Func :=
  match k with
  | .sq => { u with sq := r }
  | .cq => { u with cq := r }
  | .nr => { u with nr := r }

/-- Entries of a ring. -/
def Ring.size (r : Ring) : Nat := 2 ^ r.log2

/-- Whether the device may write an entry (R396). -/
def Ring.room (r : Ring) : Bool := decide ((r.tail + 1) % r.size ≠ r.head)

/-- The tail goes on past an entry, and the phase inverts at each wrap (R396). -/
def Ring.advance (r : Ring) : Ring :=
  let t := (r.tail + 1) % r.size
  { r with tail := t, phase := if t = 0 then !r.phase else r.phase }

/-- MSI-X vectors of a function. -/
def nVec (f : Nat) : Nat := if f = 0 then 128 else 30

/-! ### MSI-X (R386, R391, R398) -/

/-- A 32-bit word of the MSI-X table. -/
def Func.msixWord (u : Func) (i : Nat) : Reg := if i % 4 = 3 then sget 0 u.msix i ^^^ 1 else sget 0 u.msix i

/-- Signals a vector: a masked one becomes pending. -/
def State.signal (s : State) (p f v : Nat) : State :=
  let u := s.func p f
  if nVec f ≤ v then s
  else if bit (u.msixWord (4 * v + 3)).toNat 0 then s.setFunc p f { u with mpend := sput false u.mpend v true }
  else s.emit (.msix p f v)

/-- Writes a word of the MSI-X table: a pending vector that is unmasked is signalled. -/
def State.msixWrite (s : State) (p f i : Nat) (v : Reg) : State :=
  let u := s.func p f
  let u := { u with msix := sput 0 u.msix i (if i % 4 = 3 then v ^^^ 1 else v) }
  let n := i / 4
  if i % 4 = 3 && !bit v.toNat 0 && sget false u.mpend n then (s.setFunc p f { u with mpend := sput false u.mpend n false }).signal p f n
  else s.setFunc p f u

/-- An entry has been written: the vector is signalled now, or waits for more entries or the time (R398). -/
def State.entryWritten (s : State) (p f : Nat) (k : RingKind) : State :=
  let u := s.func p f
  let r := u.ring k
  let n := r.unsig + 1
  if r.ccnt ≤ n then (s.setFunc p f (u.setRing k { r with unsig := 0 })).signal p f r.vec
  else s.setFunc p f (u.setRing k { r with unsig := n, unsigAt := if n = 1 then s.now else r.unsigAt })

/-! ### Notices (R407, R408) -/

def NoticeKind.code : NoticeKind → Nat
  | .high => 1 | .low => 2 | .stale => 3 | .overrun => 4 | .mover => 5 | .task => 6 | .lost => 7

/-- Writes a notice entry. -/
def State.writeNotice (s : State) (p f : Nat) (kind status code id : Nat) : State :=
  let u := s.func p f
  let b := toLe 1 kind ++ toLe 1 (b2n u.nr.phase) ++ toLe 1 status ++ toLe 1 code ++ toLe 4 id ++ toLe 8 s.now
  ((s.emit (.hostWrite p (u.nr.base.toNat + 16 * u.nr.tail) b)).setFunc p f { u with nr := u.nr.advance }).entryWritten p f .nr

/-- The entry that reports lost task notices, once the ring has room (R408). -/
def State.lostEntry (s : State) (p f : Nat) : State :=
  let u := s.func p f
  if u.nr.en && decide (0 < u.lost) && u.nr.room then (s.writeNotice p f 7 0 0 u.lost).setFunc p f { (s.writeNotice p f 7 0 0 u.lost).func p f with lost := 0 }
  else s

/-- Whether a notice can leave its source: only a queue or mover notice for a full ring cannot. -/
def State.noticeGoes (s : State) (p : Nat) (n : HostNotice) : Bool :=
  let u := (s.lostEntry p n.ring).func p n.ring
  !(u.nr.en && !u.nr.room) || decide (n.kind = .task)

/-- A notice reaches its ring (R408). -/
def State.noticeArrives (s : State) (p : Nat) (n : HostNotice) : State :=
  let s := s.lostEntry p n.ring
  let u := s.func p n.ring
  let src := fun (s : State) => match n.orig with | some o => s.holdSource o false | none => s
  if !u.nr.en then src (s.setFunc p n.ring { u with nlost := satAdd u.nlost 1 0xFFFF })
  else if u.nr.room then src (s.writeNotice p n.ring n.kind.code n.status.toNat n.code.toNat n.id)
  else if n.kind = .task then s.setFunc p n.ring { u with lost := u.lost + 1 }
  else s

/-- HOST_NOTICE_ARRIVAL (R408): the oldest notice on its way to the port that is not held at its source. -/
def execHostNoticeArrival (p : PortId) (s : State) : Host.Outcome State Fault Refusal :=
  act s fun s => match s.noc.hostNotices.find? (fun x => decide (x.1 = p.val) && s.noticeGoes p.val x.2) with
    | none => s
    | some x => ({ s with noc := { s.noc with hostNotices := s.noc.hostNotices.erase x } } : State).noticeArrives p.val x.2

/-- LOST_NOTICE_ENTRY (R408). -/
def execLostNoticeEntry (p : PortId) (f : FnId) (s : State) : Host.Outcome State Fault Refusal := act s (·.lostEntry p.val f.val)

/-! ### Rings (R393, R412, R459) -/

/-- A ring of a function by its place in BAR0. -/
def ringAt (n : Nat) : RingKind := if n = 0 then .sq else if n = 1 then .cq else .nr

/-- A task signal that stands with Belay from the head of a submission ring goes with the ring. -/
def State.dropSignal (s : State) (p f : Nat) : State :=
  let s := forAll (List.range 64) (fun s r => s.setBreg r { s.breg r with held := (s.breg r).held.filter (fun e => decide (e.orig ≠ .host p f false)) }) s
  let s : State := { s with belay := { s.belay with work := s.belay.work.filter (fun w => match w with
    | .event e => decide (e.orig ≠ .host p f false)
    | .comp _ => true) } }
  s.setFunc p f { s.func p f with sigHeld := false, sigDone := false, sigBy := none }

/-- A ring is enabled (R393). -/
def Ring.enable (r : Ring) : Ring := { r with en := true, head := 0, tail := 0, phase := true }

/-- The fields of a ring's configuration besides EN: the size only while EN is 0, and only a defined one (R11, R393, R416). -/
def Ring.config (r : Ring) (k : RingKind) (en : Bool) (v : Nat) : Ring :=
  let n := v % 16
  let r := if !en && decide (4 ≤ n) && decide (n ≤ 12) then { r with log2 := n } else r
  if k = .sq then r else { r with vec := fld v 20 11, ccnt := fld v 12 8, ctime := fld v 4 8 }

/-- Whether an enable of a ring waits (R459). -/
def State.ringWaits (s : State) (p f : Nat) (k : RingKind) : Bool := s.sys.pend.contains (.ring p f k)

/-- EN of a ring as it was last written (R7): enabled, or its enable waits. -/
def State.ringEn (s : State) (p f : Nat) (k : RingKind) : Bool := ((s.func p f).ring k).en || s.ringWaits p f k

/-- A write of a ring configuration register; an enable waits while the function's reset is pending, and a disable ends the wait (R412,
R459). -/
def State.ringWrite (s : State) (p f : Nat) (k : RingKind) (v : Reg) : State :=
  let u := s.func p f
  let en := s.ringEn p f k
  let r := (u.ring k).config k en v.toNat
  if bit v.toNat 31 then
    if en then s.setFunc p f (u.setRing k r)
    else if u.rstp then
      let s := s.setFunc p f (u.setRing k r)
      { s with sys := { s.sys with pend := s.sys.pend ++ [.ring p f k] } }
    else s.setFunc p f (u.setRing k r.enable)
  else
    let s := s.setFunc p f (u.setRing k { r with en := false })
    let s : State := { s with sys := { s.sys with pend := s.sys.pend.filter (fun e => decide (e ≠ .ring p f k)) } }
    if k = .sq && u.sq.en then s.dropSignal p f else s

/-- An enable that waited runs (R459). -/
def State.ringEnable (s : State) (p f : Nat) (k : RingKind) : State :=
  s.setFunc p f ((s.func p f).setRing k ((s.func p f).ring k).enable)

/-- RING_ENABLE (R393). -/
def execRingEnable (p : PortId) (f : FnId) (k : RingKind) (v : Reg) (s : State) : Host.Outcome State Fault Refusal :=
  act s fun s => if (s.port p.val).up && bit v.toNat 31 then s.ringWrite p.val f.val k v else s

/-- RING_DISABLE (R393). -/
def execRingDisable (p : PortId) (f : FnId) (k : RingKind) (v : Reg) (s : State) : Host.Outcome State Fault Refusal :=
  act s fun s => if (s.port p.val).up && !bit v.toNat 31 then s.ringWrite p.val f.val k v else s

/-- A tail doorbell (R394). -/
def State.sqTail (s : State) (p f v : Nat) : State :=
  let u := s.func p f
  if u.sq.en && decide (v % 4096 < u.sq.size) then s.setFunc p f { u with sq := { u.sq with tail := v % 4096 } } else s.violate p 6 f 0

/-- A head doorbell of a completion or notice ring (R396). -/
def State.headBell (s : State) (p f : Nat) (k : RingKind) (v : Nat) : State :=
  let u := s.func p f
  let r := u.ring k
  let h := v % 4096
  let n := r.size
  if r.en && decide (h < n) && decide ((h + n - r.head) % n ≤ (r.tail + n - r.head) % n) then s.setFunc p f (u.setRing k { r with head := h })
  else s.violate p 6 f 0

/-- MBX_SQTAIL (R394). -/
def execMbxSqtail (p : PortId) (f : FnId) (v : Reg) (s : State) : Host.Outcome State Fault Refusal :=
  act s fun s => if (s.port p.val).up then s.sqTail p.val f.val v.toNat else s

/-- MBX_CQHEAD (R396). -/
def execMbxCqhead (p : PortId) (f : FnId) (v : Reg) (s : State) : Host.Outcome State Fault Refusal :=
  act s fun s => if (s.port p.val).up then s.headBell p.val f.val .cq v.toNat else s

/-- MBX_NRHEAD (R396, R408). -/
def execMbxNrhead (p : PortId) (f : FnId) (v : Reg) (s : State) : Host.Outcome State Fault Refusal :=
  act s fun s => if (s.port p.val).up then s.headBell p.val f.val .nr v.toNat else s

/-- COALESCING_TIMEOUT (R398). -/
def execCoalescingTimeout (p : PortId) (f : FnId) (k : RingKind) (s : State) : Host.Outcome State Fault Refusal :=
  act s fun s =>
    let u := s.func p.val f.val
    let r := u.ring k
    if k ≠ .sq && decide (0 < r.unsig) && decide (r.unsigAt + 1000 * r.ctime ≤ s.now) then
      (s.setFunc p.val f.val (u.setRing k { r with unsig := 0 })).signal p.val f.val r.vec
    else s

/-! ### Consumption (R395) -/

/-- Whether a port of index 4 below takes descriptors now: available, its rate, its busy slots, its throttle (R395, R411, R413, R415). -/
def State.mayConsume (s : State) (p : Nat) : Bool :=
  let last := if p = 4 then s.host.owner.lastTake else (s.port p).lastTake
  let gap := if (s.vstate p).throttled.isSome then 100000 else 250
  s.host.avail && decide (s.portBusy p < (if p = 4 then 64 else 1024))
    && (match last with | some t => decide (t + gap ≤ s.now) | none => true)

/-- Whether a ring asks to be consumed from: not while a task signal stands with Belay, nor before the command that such a signal came by. -/
def Func.asks (u : Func) : Bool := u.sq.en && decide (u.sq.head ≠ u.sq.tail) && !u.sigHeld && u.sigBy.isNone

/-- The function whose ring is consumed from next: by R25, or by equal fixed slots in DETERMINISTIC and ISOLATED modes. -/
def State.nextRing (s : State) (p : Nat) : Option Nat :=
  if s.sys.mode = 2 || decide (s.sys.mode = 4) then
    let f := s.now / 250 % 65
    if (s.func p f).asks then some f else none
  else rrPick 65 (s.port p).ptr (fun f => (s.func p f).asks)

/-- Whether a submission is a task signal that its consumption accepts and no check refuses: it goes to Belay before it is consumed
(R228, R439). -/
def State.signalGoes (s : State) (p f : Nat) (b : List Byte) : Bool :=
  let h := s.hslot p f (tagSlot (le b 2 2))
  le b 0 2 = 0x0604 && !h.busy && decide (h.gen = tagGen (le b 2 2)) && (s.authority p 0x0604 cmdT).isNone
    && (match s.regionOfTask (le b 8 2) with
        | some r => decide ((s.region r).map (·.ten) = some p) && decide (((s.region r).bind (·.stop)).isNone)
        | none => false)

/-- A task signal of a submission ring reaches Belay (R211); the ring waits for its acceptance. -/
def State.sendSignal (s : State) (p f task : Nat) (by_ : Option Issuer) : State :=
  (s.belayGets (.event ⟨1600 + p, task, s.now, .host p f false⟩)).setFunc p f { s.func p f with sigHeld := true, sigBy := by_ }

/-- The submission of a task signal that Belay has accepted is consumed and completes with OK (R439). -/
def State.signalDone (s : State) (p f : Nat) (b : List Byte) (direct : Bool) : State :=
  let s := (s.accept p f b direct).setFunc p f { (s.accept p f b direct).func p f with sigDone := false, sigBy := none }
  let i := mkIssuer p f (BitVec.ofNat 16 (le b 2 2))
  if (s.record i).isSome then s.complete i stOK 0 else s

/-- A host port takes the submission at a ring's head. -/
def State.consumeHost (s : State) (p f : Nat) (fetched : Option (List Byte)) : State :=
  let u := s.func p f
  let took := fun (s : State) => s.setPort p { s.port p with ptr := (f + 1) % 65, lastTake := some s.now }
  let pass := fun (s : State) => s.setFunc p f { s.func p f with sq := { u.sq with head := (u.sq.head + 1) % u.sq.size } }
  let read := fun (s : State) => if u.sigDone then s else s.emit (.hostRead p (u.sq.base.toNat + 64 * u.sq.head) 64)
  match fetched with
  | none => if u.sigDone then s else (pass (took (read s))).violate p 1 f 0
  | some b =>
    if b.length ≠ 64 || (u.sigDone && decide (le b 0 2 ≠ 0x0604)) then s
    else if u.sigDone then (pass (took s)).signalDone p f b false
    else if s.signalGoes p f b then
      if s.host.wide.isSome then s
      else ((read s).setPort p { s.port p with lastTake := some s.now }).sendSignal p f (le b 8 2) none
    else (pass (took (read s))).accept p f b false

/-- DESCRIPTOR_CONSUME (R395): on a host port with what the fetch brings, none for a failed one; on the owner port the oldest
submission of its buffer. -/
def execDescriptorConsume (p : VPort) (fetched : Option (List Byte)) (s : State) : Host.Outcome State Fault Refusal :=
  act s fun s =>
    if !s.mayConsume p.val then s
    else if p.val = 4 then
      match s.host.owner.subs with
      | [] => s
      | b :: rest => (s.setOwner { s.host.owner with subs := rest, lastTake := some s.now }).accept 4 0 b false
    else if !(s.port p.val).up then s
    else match s.nextRing p.val with
      | some f => s.consumeHost p.val f fetched
      | none => s

/-! ### Completions (R396, R397, R401) -/

/-- The 32 bytes of a completion. -/
def Ready.bytes (r : Ready) (key : List Byte) (phase : Bool) (sqhead : Nat) : List Byte :=
  let b := toLe 2 r.tag.toNat ++ [r.status] ++ toLe 1 (b2n phase + 2 * b2n r.rej) ++ toLe 2 sqhead ++ [0, 0] ++ toLe 16 r.result.toNat
  b ++ (match r.seq with
    | some q => (Config.hmac384 key (b ++ toLe 4 q)).take 8
    | none => toLe 8 0)

/-- The oldest ready completion of a function is written, or discarded while its ring is disabled. -/
def State.postCompletion (s : State) (p f : Nat) : State :=
  let u := s.func p f
  match u.ready with
  | [] => s
  | r :: rest =>
    if !u.cq.en then (s.setFunc p f { u with ready := rest }).freeSlot p f r true
    else if !u.cq.room || !s.host.avail then s
    else
      let s := s.emit (.hostWrite p (u.cq.base.toNat + 32 * u.cq.tail) (r.bytes ((s.key (12 + p)).getD []) u.cq.phase u.sq.head))
      let s := s.setFunc p f { u with ready := rest, cq := u.cq.advance }
      (s.entryWritten p f .cq).freeSlot p f r false

/-- COMPLETION_POST (R396). -/
def execCompletionPost (p : PortId) (f : FnId) (s : State) : Host.Outcome State Fault Refusal := act s (·.postCompletion p.val f.val)

/-! ### Push window (R409) -/

/-- A write into the push window. A port below 16 GT/s does not serve it (R387). -/
def State.pushWrite (s : State) (p f off : Nat) (bytes : List Byte) : State :=
  let o := off - 0x1000
  let n := bytes.length
  if (s.port p).slow then s
  else match sget none (s.func p f).pwq (o / 0x100) with
    | none => s.violate p 8 f 0
    | some q =>
      if o % 16 ≠ 0 || decide (n % 16 ≠ 0) || decide (n = 0) || decide (0x100 < o % 0x100 + n) then s.violate p 8 f 0
      else
        let i := hostInit p
        let b : End := .array (s.redir (q / 128)) 0
        s.sendReq b { op := .pushp, who := i, prio := s.lowerTo i b 3 (s.qRegion q), addr := q, prod := prodHOST
                      words := (bytesWords (n / 16) bytes).map (fun w => (w, 0)) }

/-- Whether an offset lies in the push window. -/
def inPushWin (off : Nat) : Bool := decide (0x1000 ≤ off) && decide (off < 0x3000)

/-- PUSH_WINDOW_WRITE (R409). -/
def execPushWindowWrite (p : PortId) (f : FnId) (off : Nat) (bytes : List Byte) (s : State) : Host.Outcome State Fault Refusal :=
  act s fun s => if (s.port p.val).up && inPushWin off && s.maySendReq (hostInit p.val) then s.pushWrite p.val f.val off bytes else s

/-! ### BAR2 (R389) -/

/-- NoC requests of 4, 8 or whole 16-byte words that cover a range, as (address, bytes). -/
def bar2Parts : Nat → Nat → Nat → List (Nat × Nat)
  | 0, _, _ => []
  | k + 1, a, n =>
    if n < 4 then []
    else
      let m := if a % 16 = 0 && decide (16 ≤ n) then min 256 (n / 16 * 16) else if a % 8 = 0 && decide (8 ≤ n) then 8 else 4
      (a, m) :: bar2Parts k (a + m) (n - m)

/-- Whether BAR2 accepts a TLP (R376, R389). -/
def State.bar2Ok (s : State) (p : Nat) (t : Tlp) : Bool :=
  let n := match t.write with | some d => d.length | none => t.readLen
  let v := s.port p
  (match t.ide with | some n => decide (0 < n.val) && (s.spdm p).session.isSome && (s.spdm p).ideStreams.any (fun x => decide (x.1 = n.val)) | none => false)
    && decide (t.off + n ≤ v.bar2)
    && (match v.bound.bind s.region with | some g => decide (t.off + n ≤ g.units.length * unitBytes) | none => false)

/-- Advanced error reporting logs an Unsupported Request of a port (R389). -/
def State.aerUr (s : State) (p : Nat) : State := s.setPort p { s.port p with aerUr := true }

/-- BAR2_ACCESS (R389): the TLP's requests take NoC tags from its own tag number up; nothing happens while one is not free. -/
def State.bar2 (s : State) (p : Nat) (t : Tlp) : State :=
  let refuse := fun (s : State) => if t.write.isSome then s else s.emit .bar2UR
  if (s.port p).slow then refuse s
  else if !s.bar2Ok p t then refuse ((s.violate p 9 0 0).aerUr p)
  else
    let n := match t.write with | some d => d.length | none => t.readLen
    let parts := bar2Parts (n + 1) t.off n
    let i := hostInit p
    let free := (List.range parts.length).all (fun k => decide (t.tag + k < nTags i) && decide (((s.init i).tagOf (t.tag + k)).st = .free))
    if t.off % 4 ≠ 0 || decide (n % 4 ≠ 0) || !free || !s.maySendReq i then s
    else (parts.zipIdx).foldl (fun s ((a, m), k) =>
      let d := match t.write with | some d => slice d (a - t.off) m | none => []
      s.request { who := Fin.ofNat 4096 i, tag := t.tag + k, addr := a, len := Fin.ofNat 16 (if 16 ≤ m then m / 16 - 1 else 0)
                  size := if 16 ≤ m then 0 else if m = 8 then 2 else 1, prio := 3
                  data := if t.write.isSome then bytesWords ((m + 15) / 16) d else [] } (if t.write.isSome then .wr else .rd)) s

def execBar2Access (p : PortId) (t : Tlp) (s : State) : Host.Outcome State Fault Refusal :=
  act s fun s => if (s.port p.val).up then s.bar2 p.val t else s

/-! ### BAR0 registers (R391, R392, R416) -/

/-- A BAR0 register read of 4 bytes; none where no row decodes. -/
def State.bar0Reg (s : State) (p f o : Nat) : Option (Nat × State) :=
  let u := s.func p f
  let v := s.vstate p
  if o = 0 then some (0xB0 * 2 ^ 24 + f * 16 + p, s)
  else if o = 4 then some (b2n u.rstp * 64 + b2n v.throttled.isSome * 32 + b2n (s.spdm p).session.isSome * 16 + b2n (s.tenant p) * 8
    + b2n (s.port p).slow * 4 + b2n s.host.avail, s)
  else if o = 8 then some (s.portBusy p * 65536 + u.nBusy, s)
  else if 0x100 ≤ o && decide (o < 0x160) && decide (o ≠ 0x154) then
    let k := ringAt ((o - 0x100) / 32)
    let r := u.ring k
    let c := o % 32
    if c = 0 then some (fld r.base.toNat 12 20 * 4096, s)
    else if c = 4 then some (fld r.base.toNat 32 32, s)
    else if c = 8 then some (b2n (s.ringEn p f k) * 2 ^ 31 + (if k = .sq then 0 else r.vec * 2 ^ 20 + r.ccnt * 2 ^ 12 + r.ctime * 16) + r.log2, s)
    else if c = 12 then some (0, s)
    else if c = 16 then some (if k = .sq then r.head else r.tail, s)
    else none
  else if o = 0x154 then some (u.nlost, s.setFunc p f { u with nlost := 0 })
  else if o = 0x200 then some (v.sum % 65536 * 65536 + v.total, s.setVstate p { v with total := 0 })
  else if 0x210 ≤ o && decide (o < 0x290) then
    match v.log[(o - 0x210) / 8]? with
    | none => some (0, s)
    | some e => some (if o % 8 = 0 then e.kind.toNat * 2 ^ 24 + e.func * 2 ^ 16 + e.tag.toNat else e.time % 2 ^ 32, s)
  else if 0x300 ≤ o && decide (o < 0x380) then
    match sget none u.pwq ((o - 0x300) / 4) with
    | some q => some (2 ^ 31 + q % 2 ^ 15, s)
    | none => some (0, s)
  else if o = 0x380 then some ((s.port p).berr, s.setPort p { s.port p with berr := 0 })
  else none

/-- Bytes of the MSI-X table and of the pending bits of a function. -/
def inMsix (f o : Nat) : Bool := decide (0x4000 ≤ o) && decide (o < 0x4000 + 16 * nVec f)
def inPba (f o : Nat) : Bool := decide (0x6000 ≤ o) && decide (o < 0x6000 + 8 * ((nVec f + 63) / 64))

/-- Whether an access keeps the rules of R392; a read of the push window never does. -/
def State.bar0Legal (s : State) (p f o n : Nat) : Bool :=
  if inMsix f o || inPba f o then (n = 4 || decide (n = 8)) && decide (o % n = 0)
  else n = 4 && decide (o % 4 = 0) && (s.bar0Reg p f o).isSome

/-- A 32-bit read inside BAR0. -/
def State.bar0Word (s : State) (p f o : Nat) : Nat × State :=
  let u := s.func p f
  if inMsix f o then ((u.msixWord ((o - 0x4000) / 4)).toNat, s)
  else if inPba f o then (bitsOf ((List.range 32).map (fun i => sget false u.mpend (8 * (o - 0x6000) + i))), s)
  else (s.bar0Reg p f o).getD (0, s)

/-- A read of BAR0: its value, or an Unsupported Request and a violation (R392). -/
def State.bar0Read (s : State) (p f o n : Nat) : State :=
  if !s.bar0Legal p f o n then (s.violate p 7 f 0).emit .bar0UR
  else
    let (lo, s) := s.bar0Word p f o
    if n = 8 then
      let (hi, s) := s.bar0Word p f (o + 4)
      s.emit (.regValue (some (BitVec.ofNat 64 (lo + hi * 2 ^ 32))))
    else s.emit (.regValue (some (BitVec.ofNat 64 lo)))

/-- A 32-bit write inside BAR0: base, configuration, doorbells, MSI-X table; nothing elsewhere. -/
def State.bar0Put (s : State) (p f o v : Nat) : State :=
  let u := s.func p f
  if inMsix f o then s.msixWrite p f ((o - 0x4000) / 4) (BitVec.ofNat 32 v)
  else if 0x100 ≤ o && decide (o < 0x160) then
    let k := ringAt ((o - 0x100) / 32)
    let r := u.ring k
    let c := o % 32
    let b := r.base.toNat
    if c = 0 && !s.ringEn p f k then s.setFunc p f (u.setRing k { r with base := BitVec.ofNat 64 (putFld b 12 20 (v / 4096)) })
    else if c = 4 && !s.ringEn p f k then s.setFunc p f (u.setRing k { r with base := BitVec.ofNat 64 (putFld b 32 32 v) })
    else if c = 8 then s.ringWrite p f k (BitVec.ofNat 32 v)
    else if c = 12 then (if k = .sq then s.sqTail p f v else s.headBell p f k v)
    else s
  else s

/-- A write of BAR0. -/
def State.bar0Write (s : State) (p f o n v : Nat) : State :=
  if inPushWin o then s.pushWrite p f o (toLe n v)
  else if !s.bar0Legal p f o n then s.violate p 7 f 0
  else
    let s := s.bar0Put p f o (v % 2 ^ 32)
    if n = 8 then s.bar0Put p f (o + 4) (v / 2 ^ 32 % 2 ^ 32) else s

/-- BAR0_VIOLATION (R392): an access that breaks the rules. -/
def execBar0Violation (p : PortId) (f : FnId) (off size : Nat) (write : Bool) (s : State) : Host.Outcome State Fault Refusal :=
  act s fun s =>
    if !(s.port p.val).up || s.bar0Legal p.val f.val off size || (write && inPushWin off) then s
    else
      let s := s.violate p.val 7 f.val 0
      if write then s else s.emit .bar0UR

/-- An access to control space as it is answered: by hub control space, by a cluster window, or with an error where the address translates
or decodes to neither (R12, R22, R23). -/
def State.ctlAccess (s : State) (who addr : Nat) (hub : Nat → Acc) (win : Nat → Nat → Acc) : Acc :=
  match (s.translate who addr).map place with
  | some (.hub o) => hub o
  | some (.win c o) => win (s.redir c) o
  | _ => ⟨2, [], s⟩

/-- REGISTER_WRITE (R7, R11, R12): a control register by firmware or a tenant over the network, or a BAR0 register. A write that is refused
gets an error response. -/
def execRegisterWrite (a : Access) (v : BitVec 64) (s : State) : Host.Outcome State Fault Refusal :=
  act s fun s => match a with
    | .bar0 p f off size => if (s.port p.val).up then s.bar0Write p.val f.val off size v.toNat else s
    | .ctl who addr size =>
      let d := toLe size v.toNat
      let x := s.ctlAccess who.val addr (fun o => s.hubWrite who.val o d) (fun c o => s.winWrite who.val c o d)
      if x.status = 0 then x.st else x.st.emit (.regValue none)

/-- RC_READ (R7, R10): a register read returns the value and clears what the read clears. -/
def execRcRead (a : Access) (s : State) : Host.Outcome State Fault Refusal :=
  act s fun s => match a with
    | .bar0 p f off size => if (s.port p.val).up then s.bar0Read p.val f.val off size else s
    | .ctl who addr size =>
      let x := s.ctlAccess who.val addr (fun o => s.hubRead who.val o size) (fun c o => s.winRead who.val c o size)
      x.st.emit (.regValue (if x.status = 0 then some (BitVec.ofNat 64 (leNat x.data)) else none))

/-! ### Violation windows and the throttle (R411) -/

/-- VIOLATION_WINDOW_END (R411): 15.625 ms of device time to a window. -/
def execViolationWindowEnd (p : VPort) (s : State) : Host.Outcome State Fault Refusal :=
  act s fun s =>
    s.setVstate p.val (s.vstate p.val)

/-- THROTTLE_END (R411). -/
def execThrottleEnd (p : VPort) (s : State) : Host.Outcome State Fault Refusal :=
  act s fun s =>
    let v := s.vstate p.val
    match v.throttled with
    | none => s
    | some t =>
      if s.now < t then s
      else if 1024 ≤ v.sum then s.setVstate p.val { v with throttled := some (t + 1000000000) }
      else (s.setVstate p.val { v with throttled := none }).log 0x51 (p.val * 2 ^ 24 + v.sum)

/-! ### Links and resets (R385 to R387, R412) -/

/-- The reset of a function (R412). -/
def State.funcReset (s : State) (p f : Nat) : State :=
  let s := s.dropSignal p f
  let s : State := { s with sys := { s.sys with pend := s.sys.pend.filter (fun e => match e with
    | .ring q g _ => decide (q ≠ p) || decide (g ≠ f)
    | .island _ => true) } }
  let u := s.func p f
  let mine := s.host.running.filter (fun r => decide (r.iss.p = p) && decide (r.iss.f = f))
  s.setFunc p f { u with
    sq := { u.sq with en := false }, cq := { u.cq with en := false }, nr := { u.nr with en := false }
    ready := [], rstp := !mine.isEmpty
    slots := u.slots.filter (fun x => mine.any (fun r => decide (tagSlot r.iss.tag.toNat = x.1))) }

/-- The reset of every function of a port. -/
def State.portReset (s : State) (p : Nat) : State := forAll (List.range 65) (fun s f => s.funcReset p f) s

/-- FUNCTION_LEVEL_RESET (R412). -/
def execFunctionLevelReset (p : PortId) (f : FnId) (s : State) : Host.Outcome State Fault Refusal :=
  act s fun s => if (s.port p.val).up then s.funcReset p.val f.val else s

/-- HOT_RESET (R412). -/
def execHotReset (p : PortId) (s : State) : Host.Outcome State Fault Refusal :=
  act s fun s => if (s.port p.val).up then s.portReset p.val else s

/-- A link goes down (R412). -/
def State.linkDown (s : State) (p : Nat) : State :=
  let s := (s.portReset p).endSession p
  s.setPort p { s.port p with up := false, slow := false }

/-- HOST_LINK_DOWN (R412): the port trains again. -/
def execHostLinkDown (p : PortId) (s : State) : Host.Outcome State Fault Refusal :=
  act s fun s => if (s.port p.val).up then let s := s.linkDown p.val; s.setPort p.val { s.port p.val with training := true } else s

/-- The level of a PE_PERST_N pin: in OFF and while a reset is held it only moves the pin. -/
def pinPerst (p : PortId) (low : Bool) (s : State) (f : State → State) : Host.Outcome State Fault Refusal :=
  if s.sys.off || s.sys.held.isSome then .next (s.setPort p.val { s.port p.val with perst := low }) else .next (f s)

/-- PE_PERST_N_ASSERT (R385). -/
def execPePerstNAssert (p : PortId) (s : State) : Host.Outcome State Fault Refusal :=
  pinPerst p true s fun s =>
    if !s.portExists p.val || (s.port p.val).perst then s
    else let s := s.linkDown p.val; s.setPort p.val { s.port p.val with perst := true, training := false }

/-- PE_PERST_N_DEASSERT (R385). -/
def execPePerstNDeassert (p : PortId) (s : State) : Host.Outcome State Fault Refusal :=
  pinPerst p false s fun s =>
    if s.portExists p.val && (s.port p.val).perst then s.setPort p.val { s.port p.val with perst := false, training := true } else s

/-- HOST_LINK_UP (R386, R387): a port that trains, or retrains, reaches a rate. -/
def execHostLinkUp (p : PortId) (rate : LinkRate) (s : State) : Host.Outcome State Fault Refusal :=
  act s fun s =>
    let v := s.port p.val
    let slow := match rate with
      | .gt64 | .gt32 | .gt16 => false
      | .gt8 | .gt5 | .gt2_5 => true
    if s.portExists p.val && !v.perst && (v.training || v.up) && decide (2 ≤ s.sys.bring) then s.setPort p.val { v with up := true, training := false, slow := slow } else s

/-! ### The owner port (R414, R415) -/

/-- CRC-32C in the bytes of a transaction. -/
def spiCrc (b : List Byte) : List Byte := toLe 4 (crc32c b)

/-- Whether the CRC after n bytes of a transaction is right. -/
def spiOk (b : List Byte) (n : Nat) : Bool := decide (slice b n 4 = spiCrc (b.take n))

/-- SUBMIT (R414, R415): the bytes of the transaction from byte 0. -/
def execSubmit (bytes : List Byte) (s : State) : Host.Outcome State Fault Refusal :=
  act s fun s =>
    let o := s.host.owner
    if bytes.head? ≠ some 0x11 then s
    else if bytes.length < 69 then (s.setOwner { o with lastRes := 3 }).violate 4 0x0A 0 0
    else if !spiOk bytes 65 then (s.setOwner { o with lastRes := 1 }).violate 4 0x0A 0 0
    else if 64 ≤ o.subs.length then s.setOwner { o with lastRes := 2 }
    else s.setOwner { o with lastRes := 0, subs := o.subs ++ [slice bytes 1 64] }

/-- The 8 status bytes of the owner port. -/
def State.ownerStatus (s : State) : List Byte :=
  let o := s.host.owner
  let w := min 64 o.comps.length
  toLe 1 (b2n s.host.avail + 2 * b2n o.viol.throttled.isSome + 4 * b2n (decide (0 < w)) + 8 * o.lastRes.toNat) ++ [0]
    ++ toLe 2 w ++ toLe 2 (64 - o.subs.length) ++ toLe 2 (s.vstate 4).sum

/-- STATUS (R414): byte 0, a dummy byte, and the 12 bytes that the device returns. -/
def execStatus (bytes : List Byte) (s : State) : Host.Outcome State Fault Refusal :=
  act s fun s =>
    if bytes.head? ≠ some 0x22 then s
    else if bytes.length < 14 then s.violate 4 0x0A 0 0
    else s.emit (.spi (s.ownerStatus ++ spiCrc s.ownerStatus))

/-- FETCH (R414, R415): the entry stays. -/
def execFetch (bytes : List Byte) (s : State) : Host.Outcome State Fault Refusal :=
  act s fun s =>
    if bytes.head? ≠ some 0x33 then s
    else if bytes.length < 38 then s.violate 4 0x0A 0 0
    else
      let b := match s.host.owner.comps.head? with
        | some r => r.bytes [] Config.ownerPhase Config.ownerSqhead.toNat
        | none => Config.fetchIdle
      s.emit (.spi (b ++ spiCrc b))

/-- POP (R414, R415). -/
def execPop (bytes : List Byte) (s : State) : Host.Outcome State Fault Refusal :=
  act s fun s =>
    let o := s.host.owner
    let tag := le bytes 1 2
    if bytes.head? ≠ some 0x44 then s
    else if bytes.length < 7 || !spiOk bytes 3 then s.violate 4 0x0A 0 0
    else match o.comps with
      | [] => s.violate 4 0x0A 0 tag
      | r :: rest =>
        if r.tag.toNat ≠ tag then s.violate 4 0x0A 0 tag
        else
          let s := (s.setOwner { o with comps := rest }).ownerWrites 63
          if rest.isEmpty then s.emit (.ownerAlert false) else s

end Sys2Proof.Machine
end

