-- ==== Sys2Proof/Machine/FwOps.lean ====
section
/-! DEFINITION. What firmware commands share: refusals, objects, units, allocation and release (R290, R372 to R382, R417 to
R432, R473, R475). -/

namespace Sys2Proof.Machine

/-! ### Refusals (R417) -/

/-- The status of the first check that fails. -/
def firstFail : List (Bool × Nat) → Option Nat
  | [] => none
  | (b, st) :: l => if b then some st else firstFail l

/-- A command is refused by the first check that fails, without an effect, or runs. -/
def State.judge (s : State) (i : Issuer) (fails : List (Bool × Nat)) (run : State → State) : State :=
  match firstFail fails with
  | some st => s.complete i st 0
  | none => run s

/-- A command that ends with OK and no result. -/
def State.ok (s : State) (i : Issuer) : State := s.complete i stOK 0

/-- A command goes on waiting. -/
def State.waitOn (s : State) (i : Issuer) (cmd : Instr) : State :=
  if s.host.waits.any (fun w => decide (w.iss = i)) then s else { s with host := { s.host with waits := s.host.waits ++ [⟨i, cmd⟩] } }

/-- What meets a running migration of a cluster of some regions waits until the migration has ended (R474). -/
def State.afterMoves (s : State) (rs : List Nat) (i : Issuer) (cmd : Instr) (run : State → State) : State :=
  if s.rel.migq.any (fun m => match s.regionOf m.cl with | some r => rs.contains r | none => false) then s.waitOn i cmd else run s

/-- Whether a region belongs to a port's tenant. -/
def State.owns (s : State) (p : Nat) (r : Option Nat) : Bool := decide ((r.bind s.region).map (·.ten) = some p)

/-- Whether a region is stopped (R475). -/
def State.halted (s : State) (r : Option Nat) : Bool := ((r.bind s.region).bind (·.stop)).isSome

/-- The checks of a region number: a tenant's own region, or any region for the owner (R417 steps 6 and 7, R418). -/
def State.regionFails (s : State) (i : Issuer) (r : Nat) : List (Bool × Nat) :=
  [(decide (64 ≤ r), stBAD_OPERAND), (i.owner && (s.region r).isNone, stBAD_OPERAND), (!i.owner && !s.owns i.p (some r), stOUT_OF_RANGE)]

/-- The checks of the region of an object that a tenant names: its own, and not stopped (R417, R475). -/
def State.objFails (s : State) (i : Issuer) (r : Option Nat) : List (Bool × Nat) :=
  [(!s.owns i.p r, stOUT_OF_RANGE), (s.halted r, stBAD_STATE)]

/-- The physical queue of a queue ID (R470). -/
def State.physQ (s : State) (q : Nat) : Nat := 128 * s.redir (q / 128) + q % 128

/-! ### Units (R285, R290, R373, R432) -/

/-- PCs that hold bytes of a unit. -/
def State.unitPcs (s : State) (u : Nat) : List Nat :=
  let m := u / 288
  let j := u % 288
  if (s.stack m).order.toNat < 2 || decide (256 ≤ j) then [32 * m + j % 32] else (List.range 32).map (fun k => 32 * m + k)

/-- Whether a unit can be allocated: free, no anchor block, no mirror partner's, its PCs in service. -/
def State.unitFree (s : State) (u : Nat) : Bool :=
  (sget none s.sec.units u).isNone && !inAnchor (u * unitBytes)
    && (s.unitPcs u).all (fun p => decide ((s.pc p).st = .service) && !s.sec.mirrorPcs.contains p)

/-- The nine units of a PC (R284). -/
def pcUnits (p : Nat) : List Nat := (pcBlocks p).map (· / unitBytes)

/-- Whether whole-PC ranges may use a PC (R290). -/
def State.pcWhole (s : State) (p : Nat) : Bool := !anchorPc p && decide ((s.stack (p / 32)).order.toNat < 2)

/-- Units for an allocation from the allowed stacks (R432); none when too few are free. -/
def State.pickUnits (s : State) (n stk : Nat) : Option (List Nat) :=
  let got := if s.sys.mode = 4 then
      (((List.range 128).filter (fun p => bit stk (p / 32) && s.pcWhole p && (pcUnits p).all s.unitFree)).take (n / 9)).flatMap pcUnits
    else ((List.range 1152).filter (fun u => bit stk (u / 288) && s.unitFree u)).take n
  if got.length = n then some got else none

/-- Units get a key slot, or become free (R374). -/
def State.tagUnits (s : State) (us : List Nat) (k : Option Nat) : State :=
  forAll us (fun s u => { s with sec := { s.sec with units := sput none s.sec.units u k } }) s

/-- Requests that stacks still hold for some units are answered with ACCESS (R380 step 2). -/
def State.denyUnits (s : State) (us : List Nat) : State :=
  let mine := fun (h : Held) => us.contains (h.addr / unitBytes)
  let s := forAll (s.hbm.ports.map (·.1)) (fun s k =>
    let q := sget [] s.hbm.ports k
    let s := { s with hbm := { s.hbm with ports := sput [] s.hbm.ports k (q.filter (fun h => !mine h)) } }
    (q.filter mine).foldl (fun s h => s.respond h 3 []) s) s
  forAll (s.hbm.pcs.map (·.1)) (fun s p =>
    ((s.pc p).opens.filter (fun o => mine o.h)).foldl (fun s o => (s.forget p o.rid).respond o.h 3 []) s) s

/-- Whether the wipe of a unit or a cluster is still running (R382). -/
def State.unitWiping (s : State) (u : Nat) : Bool := decide (s.now < sget 0 s.sec.wipeUnits u)
def State.clWiping (s : State) (c : Nat) : Bool := decide (s.now < sget 0 s.sec.wipeCls c)

/-- The zero-fill of units begins (R381): each PC fills its bytes of them one after the other, and all PCs in parallel (log 104). -/
def State.startWipe (s : State) (us : List Nat) : State :=
  forAll us (fun s u =>
    let ps := s.unitPcs u
    let rate := if (s.stack (u / 288)).rate then 344 else 239
    let t := ps.foldl (fun t p => max t (sget 0 s.sec.wipePcs p)) s.now + (unitBytes / ps.length * 10 + rate - 1) / rate
    { s with sec := { s.sec with wipeUnits := sput 0 s.sec.wipeUnits u t, wipePcs := ps.foldl (fun m p => sput 0 m p t) s.sec.wipePcs } }) s

/-- Units leave their region: no translation, no key, zero-filled, and back in the pool; the units of a frozen PC are
retired with it (R380, R382). -/
def State.freeUnits (s : State) (us : List Nat) : State :=
  let s := s.denyUnits us
  let s := s.tagUnits us none
  let s := (forAll us (fun s u => s.hbmErase (u * unitBytes) ((u + 1) * unitBytes)) s : State).startWipe us
  forAll (us.flatMap s.unitPcs) (fun s p => if (s.pc p).st = .frozen then s.retirePc p else s) s

/-! ### Firewalls and initiators of a region (R272, log 25) -/

/-- Opens or closes the ports of a region: its clusters', those of the channels that hold its units, and port 3 of the hub routers B, at which
its clusters and movers address the hub (R244). -/
def State.grantRegion (s : State) (r : Nat) (g : Region) (on : Bool) : State :=
  let s := forAll (g.clusters.map s.redir) (fun s c => (s.fwGrant c 0 r on).setIrgn c (if on then some r else none)) s
  let s := forAll ((g.units.flatMap s.unitPcs).map pcRouter).dedup (fun s n => s.fwGrant n 1 r on) s
  forAll (List.range 4) (fun s n => s.fwGrant (hubB n) 3 r on) s

/-! ### Clearing (R70, R235, R380) -/

/-- A cluster as its power-on clears it; what is known of its hardware stays. -/
def Cluster.cleared (k : Cluster) : Cluster := { stopped := k.stopped, failing := k.failing ++ (k.repair.map (·.cell)).toList }

def State.clearCluster (s : State) (c : Nat) : State := s.updCl c Cluster.cleared

/-- The wipe of a released cluster (R380 step 4). -/
def State.wipeCluster (s : State) (c : Nat) : State :=
  let s := s.clearCluster c
  { s with sec := { s.sec with wipeCls := sput 0 s.sec.wipeCls c (s.now + min Config.clusterWipe 100000) } }

/-- Ends the mirroring of PCs and frees their partners, which are wiped (R441). A PC that its partner served is a frozen PC from then on. -/
def State.endMirror (s : State) (ps : List Nat) : State :=
  let s := forAll (ps.map pcPartner) State.endCopies s
  let s := forAll (ps ++ ps.map pcPartner) (fun s p => if (s.pc p).st = .degraded then ((s.stopPc p .frozen).dropPc p 4).setPcDead p true else s) s
  let s := forAll ((ps.map pcPartner).flatMap pcUnits) (fun s u => s.hbmErase (u * unitBytes) ((u + 1) * unitBytes)) s
  let s := forAll (ps ++ ps.map pcPartner) (fun s p => s.setPc p { s.pc p with mir := false, primary := false }) s
  { s with sec := { s.sec with mirrorPcs := s.sec.mirrorPcs.filter (fun p => !(ps.map pcPartner).contains p) } }

/-- PCs of a region's units. -/
def State.regionPcs (s : State) (g : Region) : List Nat := (g.units.flatMap s.unitPcs).dedup

/-- Release of a region (R380): its loads, units, key, clusters, Belay state, movers, sessions, queues and bindings. -/
def State.releaseRegion (s : State) (r : Nat) : State :=
  match s.region r with
  | none => s
  | some g =>
    let s := forAll (List.range 5) (fun s x =>
      if (s.ctx x).busy && decide ((s.ctx x).region = some r) then s.loadFail x ((s.ctx x).nextFrame - 1) { status := lsABORTED } else s) s
    let cs := g.clusters.map s.redir
    let s := s.grantRegion r g false
    let s := if g.mirrored then s.endMirror (s.regionPcs g) else s
    let s := (s.freeUnits g.units).setKey (32 + r) none
    let s := forAll (g.clusters ++ cs).dedup State.wipeCluster s
    let s := s.belayRelease r
    let s := forAll ((List.range 64).filter (fun m => decide ((s.mover m).region = some r))) (fun s m =>
      ((s.setMover m {}).setIrgn (moverInit m) none).fwGrant (moverRouter m) 2 r false) s
    let s := forAll (List.range g.scount) (fun s k => s.setSess (g.sbase + k) {}) s
    let s := forAll (List.range 4) (fun s p =>
      let v := s.port p
      let s := if v.bound = some r then (s.setPort p { v with bound := none }).setIrgn (hostInit p) none else s
      forAll (v.funcs.map (·.1)) (fun s f =>
        let u := s.func p f
        s.setFunc p f { u with pwq := u.pwq.filter (fun e => match e.2 with | some q => !cs.contains (s.redir (q / 128)) | none => false) }) s) s
    let s := forAll (cs.filter (fun c => !g.clusters.contains c)) (fun s c => s.setSmap c { s.smap c with patch := false, src0 := 0 }) s
    let s := { s with noc := { s.noc with redirect := s.noc.redirect.filter (fun e => !g.clusters.contains e.1) }
                      rel := { s.rel with migq := s.rel.migq.filter (fun m => !cs.contains m.cl) } }
    s.setRegion r none

/-- Commands that wait on a region or tenant complete with RELEASED when their turn comes, and its loads are aborted (R422). -/
def State.release0 (s : State) (i : Issuer) (names : Running → Bool) : State :=
  let hit := s.host.running.filter (fun x => decide (x.iss ≠ i) && names x)
  let s := s.setRunning (s.host.running.map (fun x =>
    if x.iss ≠ i && names x && !x.began && decide (x.op ≠ 0x0306) then { x with released := true } else x))
  (hit.filter (fun x => decide (x.op = 0x0306) && !x.began)).foldl (fun s x => s.complete x.iss stABORTED (resAt 0x08 (lsABORTED * 2 ^ 24))) s

/-- Eviction of a tenant (R378). -/
def State.evict (s : State) (t : Nat) : State :=
  let s := (forAll ((List.range 64).filter (fun r => s.owns t (some r))) State.releaseRegion s).noteIdle s
  let s := s.endSession t
  { s with sec := { s.sec with signers := sput {} s.sec.signers t {}, tenants := sput false s.sec.tenants t false } }

/-! ### Priorities (R258, R272, R433) -/

/-- The maximum priority of a region in every router, at its next packet boundary (R272). -/
def State.setPmap (s : State) (r maxp : Nat) : State := forAll (List.range 256) (fun s n => s.pendRouter n (.maxPrio r maxp)) s

/-! ### Slots in ISOLATED mode (R260, R429, R431) -/

/-- Whether tables give a region a slot at every router output, and its tenant one at every Belay lane. -/
def slotsFor (slots : Nat → SMap (BitVec 7)) (lanes : SMap Byte) (r t : Nat) : Bool :=
  (List.range 256).all (fun n => (List.range 8).all (fun o => (List.range 64).any (fun k => decide ((sget 0x7F (slots n) (64 * o + k)).toNat = r))))
    && (List.range 4).all (fun l => (List.range 64).any (fun k =>
      let e := (sget 0xFF lanes (64 * l + k)).toNat
      decide ((if e = 0xFF then k % 4 else e) = t)))

/-! ### Ranges (R431) -/

/-- The lowest start of n free numbers below a limit, given the ranges taken as (start, length). -/
def lowestRange (taken : List (Nat × Nat)) (n limit : Nat) : Option Nat :=
  let ok := fun b => decide (b + n ≤ limit) && taken.all (fun (x, l) => decide (b + n ≤ x) || decide (x + l ≤ b) || decide (l = 0) || decide (n = 0))
  let starts := 0 :: taken.map (fun (x, l) => x + l)
  match starts.filter ok with
  | [] => none
  | b :: bs => some (bs.foldl min b)

/-- Regions in being. -/
def State.allRegions (s : State) : List Region := (List.range 64).filterMap s.region

end Sys2Proof.Machine
end

