-- ==== Sys2Proof/Machine/FwTenant.lean ====
section
/-! DEFINITION. Firmware commands: tenants and regions (R378, R380, R430 to R434, R451, R462). Each command has its effect
(fw…), its descriptor (c…) and its meaning. -/

namespace Sys2Proof.Machine

/-! ### TENANT_CREATE, TENANT_EVICT (R365, R378) -/

def State.fwTenantCreate (s : State) (i : Issuer) (ten : Nat) : State :=
  s.judge i [(decide (3 < ten), stBAD_OPERAND), (!s.portExists ten, stNO_TENANT), (s.tenant ten, stBAD_STATE)] fun s =>
    ({ s with sec := { s.sec with tenants := sput false s.sec.tenants ten true } } : State).ok i
def State.cTenantCreate (s : State) (i : Issuer) (ten : Byte) : State :=
  s.command i 0x0300 [(8, 1, ten.toNat)] (.tenantCreate i ten) (·.fwTenantCreate i ten.toNat)
def execTenantCreate (i : Issuer) (ten : Byte) (s : State) : Host.Outcome State Fault Refusal := act s (·.cTenantCreate i ten)

def State.fwTenantEvict (s : State) (i : Issuer) (ten : Nat) (cmd : Instr) : State :=
  s.judge i [(decide (3 < ten), stBAD_OPERAND), (!s.tenant ten, stBAD_STATE)] fun s =>
    s.afterMoves ((List.range 64).filter (fun r => s.owns ten (some r))) i cmd fun s => ((s.release0 i (fun x => s.namesTenant x ten)).evict ten).ok i
def State.cTenantEvict (s : State) (i : Issuer) (ten : Byte) : State :=
  s.command i 0x0301 [(8, 1, ten.toNat)] (.tenantEvict i ten) (·.fwTenantEvict i ten.toNat (.tenantEvict i ten))
def execTenantEvict (i : Issuer) (ten : Byte) (s : State) : Host.Outcome State Fault Refusal := act s (·.cTenantEvict i ten)

/-! ### REGION_ALLOC (R431, R432) -/

/-- Whether a cluster is of another region, in it or moved out of it, set aside, or retired. -/
def State.clTaken (s : State) (c : Nat) : Bool :=
  (s.regionOf c).isSome || s.noc.redirect.any (fun e => decide (e.1 = c)) || s.sec.standby.contains c || (s.smap c).retired || s.rel.migq.any (fun m => decide (m.dst = c))

/-- The resources of an allocation: region number, units, first task, first session. -/
def State.allocate (s : State) (a : AllocOp) : Option (Nat × List Nat × Nat × Nat) :=
  match (List.range 64).find? (fun r => (s.region r).isNone), s.pickUnits a.units.toNat a.stk.toNat,
      lowestRange (s.allRegions.map (fun g => (g.tbase, g.tcount))) a.tcount.toNat 65536,
      lowestRange (s.allRegions.map (fun g => (g.sbase, g.scount))) a.scount.toNat 16384 with
  | some r, some us, some t, some e => some (r, us, t, e)
  | _, _, _, _ => none

/-- The effect of an allocation. -/
def State.install (s : State) (i : Issuer) (a : AllocOp) (r : Nat) (us : List Nat) (t e : Nat) : State :=
  let g : Region := { ten := a.ten.toNat, x0 := a.x0.toNat, y0 := a.y0.toNat, w := a.w.toNat, h := a.h.toNat, maxp := a.maxp.toNat, units := us
                      tbase := t, tcount := a.tcount.toNat, sbase := e, scount := a.scount.toNat }
  let taken := g.clusters.filter (fun c => s.loader.ownerClusters.contains c)
  let s := forAll taken State.clearCluster s
  let s := { s with loader := { s.loader with ownerClusters := s.loader.ownerClusters.filter (fun c => !taken.contains c) } }
  let (k, s) := s.draw
  let s := (s.setKey (32 + r) (some k)).tagUnits us (some r)
  let s := s.setRegion r (some g)
  let s := (s.setBreg r { base := t, count := a.tcount.toNat, quota := a.quota.toNat }).setPmap r a.maxp.toNat
  (s.grantRegion r g true).complete i stOK (resAt 0x08 r + resAt 0x0A t + resAt 0x0C e)

def State.fwRegionAlloc (s : State) (i : Issuer) (a : AllocOp) (cmd : Instr) : State :=
  let x0 := a.x0.toNat; let y0 := a.y0.toNat; let w := a.w.toNat; let h := a.h.toNat
  let cs := rect x0 y0 w h
  let take := bit a.flags.toNat 0
  let bad := decide (3 < a.ten.toNat) || decide (3 < a.maxp.toNat) || decide (w = 0) || decide (h = 0) || decide (16 < x0 + w) || decide (16 < y0 + h)
    || (decide (s.sys.mode = 3) && (decide (y0 % 2 = 1) || decide (h % 2 = 1))) || (decide (s.sys.mode = 4) && decide (a.units.toNat % 9 ≠ 0))
  let conflict := cs.any (fun c => s.clTaken c || (!take && s.loader.ownerClusters.contains c))
  s.judge i [(bad, stBAD_OPERAND), (!s.tenant a.ten.toNat, stBAD_STATE), (conflict, stCONFLICT)] fun s =>
    let dark := ((cs.map islandOf).dedup).filter (fun n => !s.islOn n && s.islSvc n)
    if !dark.isEmpty then
      let s := { s with sys := { s.sys with pend := s.sys.pend ++ (dark.filter (fun n => !s.sys.pend.contains (.island n))).map PendEnable.island } }
      s.waitOn i cmd
    else if cs.any s.clWiping then s.waitOn i cmd
    else match s.allocate a with
      | none => s.complete i stNO_RESOURCE 0
      | some (r, us, t, e) =>
        if cs.any (fun c => !s.islSvc (islandOf c)) then s.complete i stNO_RESOURCE 0
        else if s.sys.mode = 4 && !slotsFor (fun n => (s.router n).slots) s.belay.laneTab r a.ten.toNat then s.complete i stWONT_FIT 0
        else if us.any s.unitWiping then s.waitOn i cmd
        else s.install i a r us t e

/-- Operands of REGION_ALLOC as they lie in the descriptor. -/
def allocOpnds (a : AllocOp) : List Opnd :=
  [(8, 1, a.ten.toNat), (9, 1, a.x0.toNat), (10, 1, a.y0.toNat), (11, 1, a.w.toNat), (12, 1, a.h.toNat), (13, 1, a.maxp.toNat),
   (14, 2, a.units.toNat), (16, 2, a.tcount.toNat), (18, 2, a.quota.toNat), (20, 2, a.scount.toNat), (22, 1, a.stk.toNat), (23, 1, a.flags.toNat)]
def State.cRegionAlloc (s : State) (i : Issuer) (a : AllocOp) : State :=
  s.command i 0x0302 (allocOpnds a) (.regionAlloc i a) (·.fwRegionAlloc i a (.regionAlloc i a))
def execRegionAlloc (i : Issuer) (a : AllocOp) (s : State) : Host.Outcome State Fault Refusal := act s (·.cRegionAlloc i a)

/-! ### REGION_RESIZE, REGION_RELEASE (R378, R380, R432) -/

/-- The unit list of a region changes. -/
def State.setUnits (s : State) (r : Nat) (g : Region) (us : List Nat) : State :=
  let s := s.grantRegion r g false
  let g := { g with units := us }
  (s.setRegion r (some g)).grantRegion r g true

def State.fwRegionResize (s : State) (i : Issuer) (r n stk : Nat) (cmd : Instr) : State :=
  let g := s.region r
  s.judge i (s.regionFails i r ++ [(decide (s.sys.mode = 4) && decide (n % 9 ≠ 0), stBAD_OPERAND), ((g.map (·.mirrored)).getD false, stBAD_STATE)]) fun s =>
    match g with
    | none => s
    | some g =>
      let have_ := g.units.length
      let done := fun (s : State) => s.complete i stOK (resAt 0x08 n)
      if n ≤ have_ then done ((s.setUnits r g (g.units.take n)).freeUnits (g.units.drop n))
      else match s.pickUnits (n - have_) stk with
        | none => s.complete i stNO_RESOURCE 0
        | some us => if us.any s.unitWiping then s.waitOn i cmd else done ((s.tagUnits us (some r)).setUnits r g (g.units ++ us))
def State.cRegionResize (s : State) (i : Issuer) (r : Byte) (units : BitVec 16) (stk : Byte) : State :=
  s.command i 0x0303 [(8, 1, r.toNat), (10, 2, units.toNat), (12, 1, stk.toNat)] (.regionResize i r units stk)
    (·.fwRegionResize i r.toNat units.toNat stk.toNat (.regionResize i r units stk))
def execRegionResize (i : Issuer) (r : Byte) (units : BitVec 16) (stk : Byte) (s : State) : Host.Outcome State Fault Refusal :=
  act s (·.cRegionResize i r units stk)

def State.fwRegionRelease (s : State) (i : Issuer) (r : Nat) (cmd : Instr) : State :=
  s.judge i (s.regionFails i r) fun s => s.afterMoves [r] i cmd fun s => (((s.release0 i (fun x => s.namesRegion x r)).releaseRegion r).noteIdle s).ok i
def State.cRegionRelease (s : State) (i : Issuer) (r : Byte) : State :=
  s.command i 0x0304 [(8, 1, r.toNat)] (.regionRelease i r) (·.fwRegionRelease i r.toNat (.regionRelease i r))
def execRegionRelease (i : Issuer) (r : Byte) (s : State) : Host.Outcome State Fault Refusal := act s (·.cRegionRelease i r)

/-! ### REGION_INFO (R430) -/

def State.regionInfo (s : State) (r item : Nat) : Nat :=
  match s.region r with
  | none => 0
  | some g =>
    if item = 0 then
      resAt 0x08 g.x0 + resAt 0x09 g.y0 + resAt 0x0A g.w + resAt 0x0B g.h + resAt 0x0C g.units.length + resAt 0x0E g.tbase
        + resAt 0x10 g.tcount + resAt 0x12 (s.breg r).quota + resAt 0x14 g.sbase + resAt 0x16 g.scount
    else
      resAt 0x08 g.ten + resAt 0x09 g.maxp + resAt 0x0A (b2n g.patched + 2 * b2n g.mirrored)
        + resAt 0x0C (bitsOf ((List.range 64).map (fun m => decide ((s.mover m).region = some r))))

def State.fwRegionInfo (s : State) (i : Issuer) (r item : Nat) : State :=
  s.judge i ((decide (1 < item), stBAD_OPERAND) :: s.regionFails i r) fun s => s.complete i stOK (s.regionInfo r item)
def State.cRegionInfo (s : State) (i : Issuer) (r item : Byte) : State :=
  s.command i 0x0305 [(8, 1, r.toNat), (9, 1, item.toNat)] (.regionInfo i r item) (·.fwRegionInfo i r.toNat item.toNat)
def execRegionInfo (i : Issuer) (r item : Byte) (s : State) : Host.Outcome State Fault Refusal := act s (·.cRegionInfo i r item)

/-! ### REGION_LOAD (R320, R321, R323, R427) -/

/-- A load begins in a context. -/
def State.startLoad (s : State) (i : Issuer) (x : Nat) (path : Path) (base given : Nat) (r : Option Nat) : State :=
  let c := s.ctx x
  (s.begin i).setCtx x { lst := c.lst, lfrm := c.lfrm, ltk := c.ltk, ltkLatch := c.ltkLatch, busy := true, issuer := some i, region := r
                         path := path, phase := .header, base := base, given := given }

/-- A load that finds its context busy fails at once (R352). -/
def State.loaderBusy (s : State) (i : Issuer) : State := s.complete i stLOAD_FAILED (resAt 0x08 (lsLOADER_BUSY * 2 ^ 24))

def State.fwRegionLoad (s : State) (i : Issuer) (r addr len : Nat) : State :=
  let stopped := match (s.region r).bind (·.stop) with
    | some .clusterLost => true
    | _ => false
  s.judge i (s.regionFails i r ++ [(stopped, stBAD_STATE)]) fun s =>
    if (s.ctx i.p).busy then s.loaderBusy i else s.startLoad i i.p (.mailbox i.p) addr len (some r)
def State.cRegionLoad (s : State) (i : Issuer) (r : Byte) (addr : BitVec 64) (len : Reg) : State :=
  s.command i 0x0306 [(8, 1, r.toNat), (16, 8, addr.toNat), (24, 4, len.toNat)] (.regionLoad i r addr len)
    (·.fwRegionLoad i r.toNat addr.toNat len.toNat)
def execRegionLoad (i : Issuer) (r : Byte) (addr : BitVec 64) (len : Reg) (s : State) : Host.Outcome State Fault Refusal :=
  act s (·.cRegionLoad i r addr len)

/-! ### QUOTA_SET, PRIO_SET, STANDBY_SET (R430, R433) -/

def State.fwQuotaSet (s : State) (i : Issuer) (r q : Nat) : State := s.judge i (s.regionFails i r) fun s => (s.setQuota r q).ok i
def State.cQuotaSet (s : State) (i : Issuer) (r : Byte) (quota : BitVec 16) : State :=
  s.command i 0x0307 [(8, 1, r.toNat), (10, 2, quota.toNat)] (.quotaSet i r quota) (·.fwQuotaSet i r.toNat quota.toNat)
def execQuotaSet (i : Issuer) (r : Byte) (quota : BitVec 16) (s : State) : Host.Outcome State Fault Refusal := act s (·.cQuotaSet i r quota)

def State.fwPrioSet (s : State) (i : Issuer) (r maxp : Nat) : State :=
  s.judge i (s.regionFails i r ++ [(decide (3 < maxp), stBAD_OPERAND)]) fun s =>
    let s := match s.region r with
      | some g => s.setRegion r (some { g with maxp := maxp })
      | none => s
    (s.setPmap r maxp).ok i
def State.cPrioSet (s : State) (i : Issuer) (r maxp : Byte) : State :=
  s.command i 0x0308 [(8, 1, r.toNat), (9, 1, maxp.toNat)] (.prioSet i r maxp) (·.fwPrioSet i r.toNat maxp.toNat)
def execPrioSet (i : Issuer) (r maxp : Byte) (s : State) : Host.Outcome State Fault Refusal := act s (·.cPrioSet i r maxp)

/-- STANDBY_SET: a retired cluster does not join the set (R466). -/
def State.fwStandbySet (s : State) (i : Issuer) (mask : Nat) : State :=
  let cs := (List.range 256).filter (bit mask)
  s.judge i [(decide (16 < cs.length), stBAD_OPERAND),
      (cs.any (fun c => (s.regionOf c).isSome || (s.noc.redirect ++ s.rel.migq.map (fun m => (m.cl, m.dst))).any (fun e => decide (e.1 = c) || decide (e.2 = c))), stCONFLICT)] fun s =>
    let cs := cs.filter (fun c => !(s.smap c).retired)
    let s := ({ s with sec := { s.sec with standby := cs } } : State).noteIdle s
    (forAll (List.range 256) (fun s c => s.setSmap c { s.smap c with standby := cs.contains c }) s).ok i
def State.cStandbySet (s : State) (i : Issuer) (mask : BitVec 256) : State :=
  s.command i 0x0309 [(8, 32, mask.toNat)] (.standbySet i mask) (·.fwStandbySet i mask.toNat)
def execStandbySet (i : Issuer) (mask : BitVec 256) (s : State) : Host.Outcome State Fault Refusal := act s (·.cStandbySet i mask)

/-! ### SIGNER_REG, SVN_RAISE (R367, R434) -/

/-- A blob of two well-formed public keys (R434). -/
def keysOk (b : List Byte) : Bool := decide (b.length = 2689) && Config.ecKeyOk (b.take 97) && Config.pqKeyOk (b.drop 97)

def State.setSigner (s : State) (t : Nat) (v : Signer) : State := { s with sec := { s.sec with signers := sput {} s.sec.signers t v } }

/-- SIGNER_REG: blob is what the fetch brings, none for a failed one. -/
def State.fwSignerReg (s : State) (i : Issuer) (addr len hash : Nat) (blob : Option (List Byte)) : State :=
  let got := if (s.port i.p).up then blob else none
  let b := got.getD []
  let d := Config.sha384 b
  let bad := decide (len ≠ 2689) || got.isNone || decide (leNat (d.take 24) ≠ hash) || !keysOk b
  let s := if len = 2689 then s.emit (.hostRead i.p addr len) else s
  s.judge i [(bad, stBAD_OPERAND), ((s.ctx i.p).busy, stBAD_STATE)] fun s =>
    (s.setSigner i.p { s.signer i.p with blob := some b }).complete i stOK (resAt 0x08 (leNat (d.take 16)))
def State.cSignerReg (s : State) (i : Issuer) (addr : BitVec 64) (len : Reg) (hash : BitVec 192) (blob : Option (List Byte)) : State :=
  s.command i 0x030A [(8, 8, addr.toNat), (16, 4, len.toNat), (20, 24, hash.toNat)] (.signerReg i addr len hash blob)
    (·.fwSignerReg i addr.toNat len.toNat hash.toNat blob)
def execSignerReg (i : Issuer) (addr : BitVec 64) (len : Reg) (hash : BitVec 192) (blob : Option (List Byte)) (s : State) :
    Host.Outcome State Fault Refusal := act s (·.cSignerReg i addr len hash blob)

def State.fwSvnRaise (s : State) (i : Issuer) (svn : Nat) : State :=
  let old := if i.owner then s.sec.owner.svn else (s.signer i.p).svn
  s.judge i [(decide (svn < old), stBAD_OPERAND)] fun s =>
    (if i.owner then { s with sec := { s.sec with owner := { s.sec.owner with svn := svn } } }
     else s.setSigner i.p { s.signer i.p with svn := svn } : State).ok i
def State.cSvnRaise (s : State) (i : Issuer) (svn : Reg) : State :=
  s.command i 0x030B [(8, 4, svn.toNat)] (.svnRaise i svn) (·.fwSvnRaise i svn.toNat)
def execSvnRaise (i : Issuer) (svn : Reg) (s : State) : Host.Outcome State Fault Refusal := act s (·.cSvnRaise i svn)

end Sys2Proof.Machine
end

