-- ==== Sys2Proof/Machine/FwStream.lean ====
section
/-! DEFINITION. Firmware commands: sessions, movers, windows, ports, queues and tasks (R132, R136, R137, R154, R169, R208,
R210, R435 to R439, R488 to R501). -/

namespace Sys2Proof.Machine

/-! ### SESSION_RULE, SESSION_CLEAR, SESSION_SHAPE (R435, R490, R497) -/

/-- A key as a rule matches it: the anchors and offsets of USER alone (R491). -/
def ruleKey (profile : Nat) (key : BitVec 256) : BitVec 256 := if profile % 16 = 5 then key else BitVec.ofNat 256 (key.toNat % 2 ^ 192)

def State.fwSessionRule (s : State) (i : Issuer) (e port profile q : Nat) (key : BitVec 256) : State :=
  let rule : Rule := { port := port % 8, sub := fld port 3 2, profile := BitVec.ofNat 8 profile, key := ruleKey profile key, qid := q }
  let code := profile % 16
  let same := s.ext.sessions.any (fun x => decide (x.1 ≠ e) && (match x.2.rule with
    | some y => decide (y.port = rule.port) && decide (y.sub = rule.sub) && decide (y.profile.toNat % 16 = code) && decide (y.key = rule.key)
    | none => false))
  s.judge i ([(decide (16384 ≤ e) || decide (32768 ≤ q) || decide (code = 0) || decide (5 < code), stBAD_OPERAND)]
      ++ [(!s.owns i.p (s.sessRegion e), stOUT_OF_RANGE)] ++ s.objFails i (s.qRegion q) ++ [(s.halted (s.sessRegion e), stBAD_STATE)]
      ++ [(decide ((s.queue (s.physQ q)).prod ≠ prodETH), stBAD_STATE), (same, stCONFLICT)]) fun s =>
    (s.setSess e { s.sess e with rule := some rule }).ok i
def State.cSessionRule (s : State) (i : Issuer) (sess : BitVec 16) (port profile : Byte) (qid : BitVec 16) (key : BitVec 256) : State :=
  s.command i 0x0400 [(8, 2, sess.toNat), (10, 1, port.toNat), (11, 1, profile.toNat), (12, 2, qid.toNat), (16, 32, key.toNat)]
    (.sessionRule i sess port profile qid key) (·.fwSessionRule i sess.toNat port.toNat profile.toNat qid.toNat key)
def execSessionRule (i : Issuer) (sess : BitVec 16) (port profile : Byte) (qid : BitVec 16) (key : BitVec 256) (s : State) :
    Host.Outcome State Fault Refusal := act s (·.cSessionRule i sess port profile qid key)

/-- The checks of a session number. -/
def State.sessFails (s : State) (i : Issuer) (e : Nat) : List (Bool × Nat) :=
  (decide (16384 ≤ e), stBAD_OPERAND) :: s.objFails i (s.sessRegion e)

def State.fwSessionClear (s : State) (i : Issuer) (e : Nat) : State :=
  s.judge i (s.sessFails i e) fun s => (s.setSess e { s.sess e with rule := none }).ok i
def State.cSessionClear (s : State) (i : Issuer) (sess : BitVec 16) : State :=
  s.command i 0x0401 [(8, 2, sess.toNat)] (.sessionClear i sess) (·.fwSessionClear i sess.toNat)
def execSessionClear (i : Issuer) (sess : BitVec 16) (s : State) : Host.Outcome State Fault Refusal := act s (·.cSessionClear i sess)

def State.fwSessionShape (s : State) (i : Issuer) (e rate burst : Nat) : State :=
  let bad := decide (400000 < rate) || (decide (rate ≠ 0) && (decide (burst < 9600) || decide (16777215 < burst)))
  s.judge i ((bad, stBAD_OPERAND) :: s.sessFails i e) fun s => (s.setSess e { s.sess e with next := some (rate, burst) }).ok i
def State.cSessionShape (s : State) (i : Issuer) (sess : BitVec 16) (rate burst : Reg) : State :=
  s.command i 0x0402 [(8, 2, sess.toNat), (12, 4, rate.toNat), (16, 4, burst.toNat)] (.sessionShape i sess rate burst)
    (·.fwSessionShape i sess.toNat rate.toNat burst.toNat)
def execSessionShape (i : Issuer) (sess : BitVec 16) (rate burst : Reg) (s : State) : Host.Outcome State Fault Refusal :=
  act s (·.cSessionShape i sess rate burst)

/-! ### MOVER_ASSIGN, MOVER_POST, MOVER_STATUS (R157, R435, R436) -/

def State.fwMoverAssign (s : State) (i : Issuer) (m r : Nat) : State :=
  let old := (s.mover m).region
  s.judge i [(decide (63 < m) || (decide (r ≠ 0xFF) && (s.region r).isNone), stBAD_OPERAND), (decide (0 < (s.mover m).dpend), stBAD_STATE)] fun s =>
    let new := if r = 0xFF then none else some r
    let s := match old with
      | some k => s.fwGrant (moverRouter m) 2 k false
      | none => s
    let s := match new with
      | some k => s.fwGrant (moverRouter m) 2 k true
      | none => s
    ((s.setMover m { s.mover m with region := new }).setIrgn (moverInit m) new).ok i
def State.cMoverAssign (s : State) (i : Issuer) (m r : Byte) : State :=
  s.command i 0x0800 [(8, 1, m.toNat), (9, 1, r.toNat)] (.moverAssign i m r) (·.fwMoverAssign i m.toNat r.toNat)
def execMoverAssign (i : Issuer) (m r : Byte) (s : State) : Host.Outcome State Fault Refusal := act s (·.cMoverAssign i m r)

/-- The checks of a mover that a tenant names. -/
def State.moverFails (s : State) (i : Issuer) (m : Nat) : List (Bool × Nat) :=
  (decide (63 < m), stBAD_OPERAND) :: s.objFails i (s.mover m).region

def State.fwMoverPost (s : State) (i : Issuer) (m : Nat) (d : BitVec 256) : State :=
  s.judge i (s.moverFails i m) fun s =>
    let v := s.mover m
    let s := s.setMover m (v.post d)
    if 16 ≤ v.dpend then s.complete i stBAD_STATE 0 else s.complete i stOK (resAt 0x08 (s.mover m).dpend)
def State.cMoverPost (s : State) (i : Issuer) (m : Byte) (desc : BitVec 256) : State :=
  s.command i 0x0805 [(8, 1, m.toNat), (16, 32, desc.toNat)] (.moverPost i m desc) (·.fwMoverPost i m.toNat desc)
def execMoverPost (i : Issuer) (m : Byte) (desc : BitVec 256) (s : State) : Host.Outcome State Fault Refusal := act s (·.cMoverPost i m desc)

/-- MOVER_STATUS counts among the statistics commands of a stopped region (R475). -/
def State.fwMoverStatus (s : State) (i : Issuer) (m : Nat) : State :=
  s.judge i [(decide (63 < m), stBAD_OPERAND), (!s.owns i.p (s.mover m).region, stOUT_OF_RANGE)] fun s =>
    let v := s.mover m
    (s.setMover m { v with err := false, dfull := false }).complete i stOK
      (resAt 0x08 v.lastst.toNat + resAt 0x09 v.dpend + resAt 0x0A (b2n v.running.isSome + 2 * b2n v.err + 4 * b2n v.dfull)
        + resAt 0x0C v.mvcnt + resAt 0x10 v.inbuf.length)
def State.cMoverStatus (s : State) (i : Issuer) (m : Byte) : State :=
  s.command i 0x0806 [(8, 1, m.toNat)] (.moverStatus i m) (·.fwMoverStatus i m.toNat)
def execMoverStatus (i : Issuer) (m : Byte) (s : State) : Host.Outcome State Fault Refusal := act s (·.cMoverStatus i m)

/-! ### BAR2_BIND, PUSHWIN_BIND (R389, R409, R435) -/

def State.fwBar2Bind (s : State) (i : Issuer) (r : Nat) : State :=
  let fails := if r = 0xFF then [] else (decide (64 ≤ r), stBAD_OPERAND) :: s.objFails i (some r)
  s.judge i (fails ++ [(decide ((s.port i.p).bar2 = 0), stBAD_STATE)]) fun s =>
    let b := if r = 0xFF then none else some r
    ((s.setPort i.p { s.port i.p with bound := b }).setIrgn (hostInit i.p) b).ok i
def State.cBar2Bind (s : State) (i : Issuer) (r : Byte) : State :=
  s.command i 0x0801 [(8, 1, r.toNat)] (.bar2Bind i r) (·.fwBar2Bind i r.toNat)
def execBar2Bind (i : Issuer) (r : Byte) (s : State) : Host.Outcome State Fault Refusal := act s (·.cBar2Bind i r)

/-- The checks of a queue ID that a tenant names. -/
def State.queueFails (s : State) (i : Issuer) (q : Nat) : List (Bool × Nat) := (decide (32768 ≤ q), stBAD_OPERAND) :: s.objFails i (s.qRegion q)

def State.fwPushwinBind (s : State) (i : Issuer) (slot q : Nat) : State :=
  let un := decide (q = 0xFFFF)
  s.judge i ((decide (31 < slot), stBAD_OPERAND) :: (if un then [] else s.queueFails i q
      ++ [(decide ((s.queue (s.physQ q)).prod ≠ prodHOST), stBAD_STATE)])) fun s =>
    let u := s.func i.p i.f
    (s.setFunc i.p i.f { u with pwq := sput none u.pwq slot (if un then none else some q) }).ok i
def State.cPushwinBind (s : State) (i : Issuer) (slot : Byte) (qid : BitVec 16) : State :=
  s.command i 0x0802 [(8, 1, slot.toNat), (10, 2, qid.toNat)] (.pushwinBind i slot qid) (·.fwPushwinBind i slot.toNat qid.toNat)
def execPushwinBind (i : Issuer) (slot : Byte) (qid : BitVec 16) (s : State) : Host.Outcome State Fault Refusal := act s (·.cPushwinBind i slot qid)

/-! ### PORT_CFG, PTP_SOURCE (R435, R488, R499, R501) -/

/-- A MACsec record of 80 bytes (R488); none where a field is undefined or the key does not unwrap. -/
def State.saOf (s : State) (b : List Byte) : Option Sa :=
  match Config.unwrap ((s.key 4).getD []) (slice b 0x28 40) with
  | none => none
  | some k =>
    if 1 < le b 0 1 || decide (3 < le b 1 1) || decide (2 ^ 30 < le b 4 4) then none
    else some { tx := decide (le b 0 1 = 0), an := le b 1 1, flags := BitVec.ofNat 8 (le b 2 1 % 4), replay := BitVec.ofNat 32 (le b 4 4)
                sci := BitVec.ofNat 64 (le b 8 8), ssci := BitVec.ofNat 32 (le b 0x10 4), salt := BitVec.ofNat 96 (le b 0x14 12)
                pn := BitVec.ofNat 64 (le b 0x20 8), sak := k }

/-- The associations that a run of records gives. -/
def State.sasOf (s : State) (b : List Byte) : List (Option Sa) := (List.range (b.length / 80)).map (fun k => s.saOf (slice b (80 * k) 80))

def State.fwPortEth (s : State) (i : Issuer) (n split off len : Nat) : State :=
  let e := s.eth n
  let sas := s.sasOf (s.staged off len)
  let used := s.ext.sessions.any (fun x => match x.2.rule with | some y => decide (y.port = n) | none => false)
  s.judge i [(decide (2 < split) || !stageOk off len || decide (len % 80 ≠ 0) || sas.any (·.isNone), stBAD_OPERAND),
      (decide (split ≠ e.split) && used, stBAD_STATE)] fun s =>
    (s.setEth n { e with split := split, link := if split = e.split then e.link else [], newSas := some (sas.filterMap id) }).ok i

/-- A field of a bank record (R501). -/
def recN (r : BitVec 256) (off n : Nat) : Nat := fld r.toNat (8 * off) (8 * n)

/-- Whether a queue lies where a bank record may name it: in its region, or in the owner's configuration. -/
def State.bankQueue (s : State) (rgn q : Nat) : Bool :=
  if rgn = 0xFF then decide (q < 32768) && s.loader.ownerClusters.contains (q / 128) && (s.qRegion q).isNone
  else decide (q < 32768) && decide (s.qRegion q = some rgn)

/-- Whether a bank record is defined. -/
def State.bankOk (s : State) (b : Nat) (r : BitVec 256) : Bool :=
  let rgn := recN r 0 1
  let inq := recN r 0x14 2
  let outq := recN r 0x16 2
  (decide (rgn = 0xFF) || (s.region rgn).isSome)
    && decide (recN r 1 1 ≤ 4) && decide ((s.bank b).vlvl.toNat = recN r 1 1) && decide (recN r 2 1 % 32 ≤ 24)
    && decide (recN r 3 1 ≤ 3) && decide (recN r 6 1 ≤ 2) && decide (recN r 0xC 3 &&& recN r 0x10 3 = 0)
    && (decide (inq = 0xFFFF) || (s.bankQueue rgn inq && decide ((s.queue (s.physQ inq)).prod = prodGPIO)))
    && (decide (outq = 0xFFFF) || (s.bankQueue rgn outq && decide ((s.queue (s.physQ outq)).cons = consFWD)))

/-- The forward channel of a queue's cluster that a bank uses is enabled or disabled (R502). -/
def State.bankChannel (s : State) (b : Nat) (r : BitVec 256) (on : Bool) : State :=
  let q := recN r 0x16 2
  if q = 0xFFFF then s
  else
    let pq := s.physQ q
    s.updCl (pq / 128) (fun k =>
      let f := k.fwd 7
      k.setFwd 7 (if on then { f with en := true, mover := true, prio := 3, sqid := pq % 128, target := 64 + b, share := 64, cred := 64 - f.owing }
                  else { f with en := false, owing := f.owing + (f.share - f.cred) - f.packed.length, packed := [] }))

def State.fwPortBank (s : State) (i : Issuer) (b split off len : Nat) : State :=
  let r := BitVec.ofNat 256 (leNat (s.staged off 32))
  let v := s.bank b
  let q := recN r 0x16 2
  let mine := match v.record with | some o => decide (recN o 0x16 2 = q) | none => false
  s.judge i [(decide (split ≠ 0) || !stageOk off len || decide (len ≠ 32) || !s.bankOk b r, stBAD_OPERAND),
      (decide (q ≠ 0xFFFF) && !mine && ((s.cl (s.physQ q / 128)).fwd 7).en, stBAD_STATE)] fun s =>
    let s := match v.record with
      | some o => s.bankChannel b o false
      | none => s
    let s := s.bankChannel b r true
    let rgn := recN r 0 1
    let s := s.setIrgn (0x228 + b) (if rgn = 0xFF then none else some rgn)
    (s.setBank b { s.bank b with record := some r, flashHold := some (recN r 3 1) }).ok i

def State.fwPortCfg (s : State) (i : Issuer) (port split off len : Nat) : State :=
  if port < 8 then s.fwPortEth i port split off len
  else if 0x10 ≤ port && decide (port < 0x14) then s.fwPortBank i (port - 0x10) split off len
  else s.complete i stBAD_OPERAND 0
def State.cPortCfg (s : State) (i : Issuer) (port split : Byte) (off len : Reg) : State :=
  s.command i 0x0803 [(8, 1, port.toNat), (9, 1, split.toNat), (12, 4, off.toNat), (16, 4, len.toNat)] (.portCfg i port split off len)
    (·.fwPortCfg i port.toNat split.toNat off.toNat len.toNat)
def execPortCfg (i : Issuer) (port split : Byte) (off len : Reg) (s : State) : Host.Outcome State Fault Refusal :=
  act s (·.cPortCfg i port split off len)

def State.fwPtpSource (s : State) (i : Issuer) (port : Nat) : State :=
  s.judge i [(decide (7 < port) && decide (port ≠ 0xFF), stBAD_OPERAND)] fun s =>
    let src := if port = 0xFF then none else some port
    (if s.ext.ptp.src = src then s
     else { s with ext := { s.ext with ptp := { s.ext.ptp with src := src, locked := false, good := 0, slew := 0 } } } : State).ok i
def State.cPtpSource (s : State) (i : Issuer) (port : Byte) : State :=
  s.command i 0x0804 [(8, 1, port.toNat)] (.ptpSource i port) (·.fwPtpSource i port.toNat)
def execPtpSource (i : Issuer) (port : Byte) (s : State) : Host.Outcome State Fault Refusal := act s (·.cPtpSource i port)

/-! ### QUEUE_CFG, QUEUE_ENABLE, QUEUE_DISABLE, QMODE_SET (R132, R136, R137, R169, R437) -/

def State.fwQueueCfg (s : State) (i : Issuer) (q base depth prod cons psrc : Nat) : State :=
  let pq := s.physQ q
  let k := s.cl (pq / 128)
  let u := s.queue pq
  let bad := decide (32768 ≤ q) || decide (depth < 4) || decide (4096 < depth) || decide (65536 < base + depth) || decide (7 < prod)
    || decide (2 < cons) || decide (63 < psrc)
  let linked := (s.linkTo (pq / 128) (pq % 128)).isSome && ((decide (prod ≠ 0) && decide (prod ≠ 2)) || decide (depth ≠ u.depth))
  s.judge i ((bad, stBAD_OPERAND) :: s.queueFails i q ++ [(u.en || k.umsyn, stBAD_STATE), (linked, stCONFLICT)]) fun s =>
    (s.setQueue pq { u with base := base, depth := depth, prod := BitVec.ofNat 3 prod, cons := BitVec.ofNat 2 cons, psrc := BitVec.ofNat 6 psrc }).ok i
def State.cQueueCfg (s : State) (i : Issuer) (qid base depth : BitVec 16) (prod cons psrc : Byte) : State :=
  s.command i 0x0500 [(8, 2, qid.toNat), (10, 2, base.toNat), (12, 2, depth.toNat), (14, 1, prod.toNat), (15, 1, cons.toNat), (16, 1, psrc.toNat)]
    (.queueCfg i qid base depth prod cons psrc) (·.fwQueueCfg i qid.toNat base.toNat depth.toNat prod.toNat cons.toNat psrc.toNat)
def execQueueCfg (i : Issuer) (qid base depth : BitVec 16) (prod cons psrc : Byte) (s : State) : Host.Outcome State Fault Refusal :=
  act s (·.cQueueCfg i qid base depth prod cons psrc)

/-- Whether the slots of a queue overlap those of an enabled one (R136). -/
def Cluster.overlaps (k : Cluster) (q : Nat) : Bool :=
  k.liveQueues.any (fun p => decide (p ≠ q) && decide (k.qBase p < k.qBase q + k.qDepth q) && decide (k.qBase q < k.qBase p + k.qDepth p))

def State.fwQueueEnable (s : State) (i : Issuer) (q : Nat) : State :=
  let pq := s.physQ q
  let k := s.cl (pq / 128)
  let u := s.queue pq
  let n := pq % 128
  s.judge i (s.queueFails i q) fun s =>
    if u.en then s.ok i
    else s.judge i [(decide (k.qDepth n = 0) || (k.umsyn && decide (8 ≤ n)), stBAD_STATE), (k.overlaps n, stCONFLICT)] fun s =>
      let s := s.setCl (pq / 128) ((k.enableQueue n).setQueue n { (k.enableQueue n).queue n with staleFrom := s.now })
      (s.moverCredits pq).ok i
def State.cQueueEnable (s : State) (i : Issuer) (qid : BitVec 16) : State :=
  s.command i 0x0501 [(8, 2, qid.toNat)] (.queueEnable i qid) (·.fwQueueEnable i qid.toNat)
def execQueueEnable (i : Issuer) (qid : BitVec 16) (s : State) : Host.Outcome State Fault Refusal := act s (·.cQueueEnable i qid)

/-- A queue is disabled: its words, its pending notices, those that Belay has refused among them, and its mover's credits go (R137, R150,
R162). -/
def State.queueOff (s : State) (q : Nat) : State :=
  let s := ((s.moverVoid q).updCl (q / 128) (·.disableQueue (q % 128)))
  { s with belay := { s.belay with regions := s.belay.regions.map (fun (r, b) => (r, { b with held := b.held.filter (fun e => decide (e.orig ≠ .queue q)) })) } }

def State.fwQueueDisable (s : State) (i : Issuer) (q : Nat) : State :=
  let pq := s.physQ q
  s.judge i (s.queueFails i q) fun s =>
    if !(s.queue pq).en then s.ok i
    else s.judge i [((s.linkTo (pq / 128) (pq % 128)).isSome, stCONFLICT)] fun s => (s.queueOff pq).ok i
def State.cQueueDisable (s : State) (i : Issuer) (qid : BitVec 16) : State :=
  s.command i 0x0502 [(8, 2, qid.toNat)] (.queueDisable i qid) (·.fwQueueDisable i qid.toNat)
def execQueueDisable (i : Issuer) (qid : BitVec 16) (s : State) : Host.Outcome State Fault Refusal := act s (·.cQueueDisable i qid)

/-- QMODE_SET (R169). While a link targets one of the queues whose depth it changes it gives CONFLICT (R132, log 94). -/
def State.fwQmodeSet (s : State) (i : Issuer) (cl um : Nat) : State :=
  let r := s.clRegion i.p cl
  let c := ((r.bind s.region).bind (fun g => s.relCluster g cl)).getD 0
  let linked := decide ((um = 1) ≠ ((s.cl c).umsyn = true)) && (List.range 8).any (fun q => (s.linkTo c q).isSome)
  s.judge i ((decide (1 < um), stBAD_OPERAND) :: s.objFails i r ++ [(!(s.cl c).liveQueues.isEmpty, stBAD_STATE), (linked, stCONFLICT)]) fun s =>
    (s.updCl c (fun k => { k with umsyn := decide (um = 1) })).ok i
def State.cQmodeSet (s : State) (i : Issuer) (cl um : Byte) : State :=
  s.command i 0x0504 [(8, 1, cl.toNat), (9, 1, um.toNat)] (.qmodeSet i cl um) (·.fwQmodeSet i cl.toNat um.toNat)
def execQmodeSet (i : Issuer) (cl um : Byte) (s : State) : Host.Outcome State Fault Refusal := act s (·.cQmodeSet i cl um)

/-! ### FWD_CFG (R154, R438) -/

/-- Shares of a mover's input buffer that channels hold: enabled ones, and what disabled ones still owe. -/
def State.shares (s : State) (m : Nat) : Nat :=
  (s.cls.map (fun (_, k) => (k.fwds.map (fun (_, f) => if f.mover && decide (f.target = m) then (if f.en then f.share else 0) + f.owing else 0)).sum)).sum

/-- Whether firmware holds a channel for a GPIO bank (R502). -/
def Fwd.banked (f : Fwd) : Bool := f.en && f.mover && decide (64 ≤ f.target)

def State.fwFwdCfg (s : State) (i : Issuer) (q ch en tkind prio target cred : Nat) (cmd : Instr) : State :=
  let pq := s.physQ q
  let c := pq / 128
  let f := (s.cl c).fwd ch
  let r := s.qRegion q
  let tr := if tkind = 1 then (if target < 64 then (s.mover target).region else none) else s.qRegion target
  let bad := decide (32768 ≤ q) || decide (7 < ch) || decide (1 < en)
    || (decide (en = 1) && (decide (1 < tkind) || decide (3 < prio) || (decide (tkind = 1) && (decide (cred = 0) || decide (256 < cred)))))
  s.judge i ((bad, stBAD_OPERAND) :: s.queueFails i q ++ [(decide (en = 1) && decide (tr ≠ r), stOUT_OF_RANGE), (f.banked, stBAD_STATE)]) fun s =>
    if en = 1 then
      s.judge i [(decide ((s.queue pq).cons ≠ consFWD) || f.en, stBAD_STATE),
          (decide (tkind = 1) && decide (256 < s.shares target + cred), stNO_RESOURCE)] fun s =>
        (s.updCl c (fun k => k.setFwd ch { f with en := true, mover := decide (tkind = 1), prio := prio, sqid := pq % 128, target := target
                                                  share := if tkind = 1 then cred else 0, cred := if tkind = 1 then cred else 0, packed := [] })).ok i
    else if !f.en then s.ok i
    else
      let s := if f.packed.isEmpty then s else s.fwdSend c ch
      if !((s.cl c).fwd ch).packed.isEmpty then s.waitOn i cmd
      else (s.updCl c (fun k => k.setFwd ch { k.fwd ch with en := false, owing := f.owing + (if f.mover then f.share - f.cred else 0) })).ok i
def State.cFwdCfg (s : State) (i : Issuer) (srcq : BitVec 16) (chan en tkind prio : Byte) (target cred : BitVec 16) : State :=
  s.command i 0x0503 [(8, 2, srcq.toNat), (10, 1, chan.toNat), (11, 1, en.toNat), (12, 1, tkind.toNat), (13, 1, prio.toNat), (14, 2, target.toNat), (16, 2, cred.toNat)]
    (.fwdCfg i srcq chan en tkind prio target cred)
    (·.fwFwdCfg i srcq.toNat chan.toNat en.toNat tkind.toNat prio.toNat target.toNat cred.toNat (.fwdCfg i srcq chan en tkind prio target cred))
def execFwdCfg (i : Issuer) (srcq : BitVec 16) (chan en tkind prio : Byte) (target cred : BitVec 16) (s : State) : Host.Outcome State Fault Refusal :=
  act s (·.cFwdCfg i srcq chan en tkind prio target cred)

/-! ### Tasks and timers (R208, R210, R239, R437, R439) -/

/-- The checks of a task number that a tenant names. -/
def State.taskFails (s : State) (i : Issuer) (t : Nat) : List (Bool × Nat) := s.objFails i (s.regionOfTask t)

/-- Whether a descriptor has a fault of R210 in a region. -/
def State.descFault (s : State) (r : Nat) (d : BitVec 272) : Bool :=
  let k : Task := { desc := d }
  let b := s.breg r
  let inR := fun t => decide (b.base ≤ t) && decide (t < b.base + b.count)
  (match s.region r with | some g => (s.relCluster g k.tcl).isNone | none => true)
    || decide (k.entry % 4 ≠ 0) || (bit k.sen 0 && !inR k.succ0) || (bit k.sen 1 && !inR k.succ1)
    || (decide (k.cnote ≠ 0) && decide (64 < k.cring))

def State.fwTaskWrite (s : State) (i : Issuer) (t : Nat) (d : BitVec 272) : State :=
  let st := (s.task t).st
  s.judge i ((decide (({ desc := d } : Task).cnote = 3), stBAD_OPERAND) :: s.taskFails i t
      ++ [(s.descFault ((s.regionOfTask t).getD 0) d, stBAD_OPERAND), (decide (st ≠ .free) && decide (st ≠ .dormant), stBAD_STATE)]) fun s =>
    (s.taskWrite t d).ok i
def State.cTaskWrite (s : State) (i : Issuer) (task : BitVec 16) (desc : BitVec 272) : State :=
  s.command i 0x0600 [(8, 2, task.toNat), (12, 34, desc.toNat)] (.taskWrite i task desc) (·.fwTaskWrite i task.toNat desc)
def execTaskWrite (i : Issuer) (task : BitVec 16) (desc : BitVec 272) (s : State) : Host.Outcome State Fault Refusal :=
  act s (·.cTaskWrite i task desc)

def State.fwTaskArm (s : State) (i : Issuer) (t : Nat) : State :=
  s.judge i (s.taskFails i t ++ [(decide ((s.task t).st ≠ .dormant), stBAD_STATE)]) fun s => (s.taskArm t).ok i
def State.cTaskArm (s : State) (i : Issuer) (task : BitVec 16) : State :=
  s.command i 0x0601 [(8, 2, task.toNat)] (.taskArm i task) (·.fwTaskArm i task.toNat)
def execTaskArm (i : Issuer) (task : BitVec 16) (s : State) : Host.Outcome State Fault Refusal := act s (·.cTaskArm i task)

def State.fwTaskRemove (s : State) (i : Issuer) (t : Nat) : State :=
  let st := (s.task t).st
  s.judge i (s.taskFails i t ++ [(decide (st ≠ .dormant) && decide (st ≠ .waiting), stBAD_STATE)]) fun s => (s.taskRemove t).ok i
def State.cTaskRemove (s : State) (i : Issuer) (task : BitVec 16) : State :=
  s.command i 0x0602 [(8, 2, task.toNat)] (.taskRemove i task) (·.fwTaskRemove i task.toNat)
def execTaskRemove (i : Issuer) (task : BitVec 16) (s : State) : Host.Outcome State Fault Refusal := act s (·.cTaskRemove i task)

def TState.code : TState → Nat
  | .free => 0 | .dormant => 1 | .waiting => 2 | .delayed => 3 | .ready => 4 | .resident => 5

def State.fwTaskQuery (s : State) (i : Issuer) (t : Nat) : State :=
  s.judge i (s.taskFails i t) fun s =>
    s.complete i stOK (resAt 0x08 (s.task t).st.code + resAt 0x0A (s.task t).counter + resAt 0x0C (s.task t).excess)
def State.cTaskQuery (s : State) (i : Issuer) (task : BitVec 16) : State :=
  s.command i 0x0603 [(8, 2, task.toNat)] (.taskQuery i task) (·.fwTaskQuery i task.toNat)
def execTaskQuery (i : Issuer) (task : BitVec 16) (s : State) : Host.Outcome State Fault Refusal := act s (·.cTaskQuery i task)

/-- TASK_SIGNAL: a host event of the port reaches Belay (R211, R439). -/
def State.fwTaskSignal (s : State) (i : Issuer) (t : Nat) : State :=
  s.judge i (s.taskFails i t) fun s => (s.belayGets (.event ⟨1600 + i.p, t, s.now, .host i.p i.f true⟩)).ok i
/-- TASK_SIGNAL where the command stands for its submission too (log 48): while Belay has not accepted the signal its submission stays
unconsumed, and the command, given again after that, consumes it (R228, R439). -/
def State.cTaskSignal (s : State) (i : Issuer) (task : BitVec 16) : State :=
  let b := descBytes 0x0604 i.tag.toNat [(8, 2, task.toNat)]
  let u := s.func i.p i.f
  if (s.record i).isSome || i.owner || !s.host.avail || !(s.port i.p).up || !s.signalGoes i.p i.f b then
    s.command i 0x0604 [(8, 2, task.toNat)] (.taskSignal i task) (·.fwTaskSignal i task.toNat)
  else if u.sigDone && decide (u.sigBy = some i) then s.signalDone i.p i.f b true
  else if u.sigHeld || u.sigDone || s.host.wide.isSome then s
  else s.sendSignal i.p i.f task.toNat (some i)
def execTaskSignal (i : Issuer) (task : BitVec 16) (s : State) : Host.Outcome State Fault Refusal := act s (·.cTaskSignal i task)

/-- TIMER_SET: an assigned running timer accepts only PERIOD 0 (R239). -/
def State.fwTimerSet (s : State) (i : Issuer) (t r task period : Nat) : State :=
  let k := s.timer t
  let b := s.breg r
  let un := decide (r = 0xFF)
  s.judge i [(decide (1024 ≤ t) || (!un && (decide (64 ≤ r) || (s.region r).isNone)), stBAD_OPERAND),
      (!un && !(decide (b.base ≤ task) && decide (task < b.base + b.count)), stOUT_OF_RANGE),
      (k.region.isSome && decide (k.period ≠ 0) && decide (period ≠ 0), stBAD_STATE)] fun s =>
    let s := s.timerWrite t false 0
    let s := s.timerWrite t true (BitVec.ofNat 32 (r * 65536 + task))
    (if un then s else s.timerWrite t false (BitVec.ofNat 32 period)).ok i
def State.cTimerSet (s : State) (i : Issuer) (t : BitVec 16) (r : Byte) (task : BitVec 16) (period : Reg) : State :=
  s.command i 0x0605 [(8, 2, t.toNat), (10, 1, r.toNat), (12, 2, task.toNat), (16, 4, period.toNat)] (.timerSet i t r task period)
    (·.fwTimerSet i t.toNat r.toNat task.toNat period.toNat)
def execTimerSet (i : Issuer) (t : BitVec 16) (r : Byte) (task : BitVec 16) (period : Reg) (s : State) : Host.Outcome State Fault Refusal :=
  act s (·.cTimerSet i t r task period)

end Sys2Proof.Machine
end

