-- ==== Sys2Proof/Machine/FwMem.lean ====
section
/-! DEFINITION. Firmware commands: memory, statistics and maintenance reads (R277, R285, R305 to R315, R426, R440 to R442). -/

namespace Sys2Proof.Machine

/-! ### PCs named by a command (R418) -/

def pcIdx (p : PcOp) : Nat := 32 * p.stack.toNat + 2 * p.chan.toNat + p.pc.toNat
def pcBad (p : PcOp) : Bool := decide (3 < p.stack.toNat) || decide (15 < p.chan.toNat) || decide (1 < p.pc.toNat)
def pcOpnds (p : PcOp) : List Opnd := [(8, 1, p.stack.toNat), (9, 1, p.chan.toNat), (10, 1, p.pc.toNat)]

/-! ### HBM_ORDER (R285) -/

def State.fwHbmOrder (s : State) (i : Issuer) (m order : Nat) : State :=
  let used := (List.range 256).any (fun j => (sget none s.sec.units (288 * m + j)).isSome) || s.sec.mirrorPcs.any (fun p => decide (p / 32 = m))
  s.judge i [(decide (3 < m) || decide (3 < order), stBAD_OPERAND), (used, stBAD_STATE)] fun s =>
    (s.setStack m { s.stack m with order := BitVec.ofNat 2 order }).ok i
def State.cHbmOrder (s : State) (i : Issuer) (stack order : Byte) : State :=
  s.command i 0x0700 [(8, 1, stack.toNat), (9, 1, order.toNat)] (.hbmOrder i stack order) (·.fwHbmOrder i stack.toNat order.toNat)
def execHbmOrder (i : Issuer) (stack order : Byte) (s : State) : Host.Outcome State Fault Refusal := act s (·.cHbmOrder i stack order)

/-! ### PC_REPAIR, PC_RETIRE, PC_RESWEEP (R306, R307, R440, R441) -/

/-- PC_REPAIR: ok tells whether the repair succeeds. -/
def State.fwPcRepair (s : State) (i : Issuer) (n : Nat) (bad : Bool) (hard : Nat) (ok : Bool) : State :=
  let p := s.pc n
  s.judge i [(bad || decide (1 < hard), stBAD_OPERAND), (decide (p.st ≠ .frozen) && decide (p.st ≠ .degraded), stBAD_STATE),
      (decide ((if hard = 1 then p.hard else p.soft) = 0), stNO_RESOURCE), (!ok, stHW_FAULT)] fun s =>
    let s := if p.fue then s.hbmWrite (p.faddr / 32 * 32) (List.replicate 32 0) else s
    let s := s.setPc n (if hard = 1 then { s.pc n with hard := p.hard - 1, hardUsed := p.hardUsed + 1 }
      else { s.pc n with soft := p.soft - 1, softUsed := p.softUsed + 1 })
    (((s.resumePc n).setPcDead n false).log 0x31 (pcData n + hard)).ok i
def State.cPcRepair (s : State) (i : Issuer) (pc : PcOp) (hard : Byte) (ok : Bool) : State :=
  s.command i 0x0701 (pcOpnds pc ++ [(11, 1, hard.toNat)]) (.pcRepair i pc hard ok) (·.fwPcRepair i (pcIdx pc) (pcBad pc) hard.toNat ok)
def execPcRepair (i : Issuer) (pc : PcOp) (hard : Byte) (ok : Bool) (s : State) : Host.Outcome State Fault Refusal := act s (·.cPcRepair i pc hard ok)

def State.fwPcRetire (s : State) (i : Issuer) (n : Nat) (bad : Bool) : State :=
  s.judge i [(bad, stBAD_OPERAND), (decide ((s.pc n).st = .retired), stBAD_STATE)] fun s => (s.retirePc n).ok i
def State.cPcRetire (s : State) (i : Issuer) (pc : PcOp) : State :=
  s.command i 0x0702 (pcOpnds pc) (.pcRetire i pc) (·.fwPcRetire i (pcIdx pc) (pcBad pc))
def execPcRetire (i : Issuer) (pc : PcOp) (s : State) : Host.Outcome State Fault Refusal := act s (·.cPcRetire i pc)

/-- Whether a PC holds a unit that is allocated, or mirrors one. -/
def State.pcUsed (s : State) (n : Nat) : Bool :=
  s.sec.mirrorPcs.contains n || (List.range 1152).any (fun u => (sget none s.sec.units u).isSome && (s.unitPcs u).contains n)

/-- PC_RESWEEP: lanes are the eyes that the sweep finds. A PC that fails stays out of service until one passes. -/
def State.fwPcResweep (s : State) (i : Issuer) (n : Nat) (bad : Bool) (lanes : Eyes) : State :=
  s.judge i [(bad, stBAD_OPERAND), (anchorPc n || s.pcUsed n, stBAD_STATE)] fun s =>
    let (ok, s) := s.sweepPc n lanes
    let p := s.pc n
    let s := if p.st ≠ .service && decide (p.st ≠ .out) then s
      else if !ok then (s.leavePc n).setPc n { (s.leavePc n).pc n with barred := true }
      else if p.st = .service || !(s.stack (n / 32)).insvc then s.setPc n { p with barred := false }
      else (s.setPc n { p with barred := false }).servePc n
    if ok then s.complete i stOK (resAt 0x08 p.rdeye.toNat + resAt 0x09 p.wreye.toNat) else s.complete i stHW_FAULT 0
def State.cPcResweep (s : State) (i : Issuer) (pc : PcOp) (lanes : Eyes) : State :=
  s.command i 0x0703 (pcOpnds pc) (.pcResweep i pc lanes) (·.fwPcResweep i (pcIdx pc) (pcBad pc) lanes)
def execPcResweep (i : Issuer) (pc : PcOp) (lanes : Eyes) (s : State) : Host.Outcome State Fault Refusal := act s (·.cPcResweep i pc lanes)

/-! ### MEM_MIRROR (R314, R441) -/

def State.fwMemMirror (s : State) (i : Issuer) (r en : Nat) : State :=
  let g := s.region r
  let us := (g.map (·.units)).getD []
  let ps := (us.flatMap s.unitPcs).dedup
  let whole := ps.all (fun p => s.pcWhole p && (pcUnits p).all (fun u => us.contains u))
  let free := ps.all (fun p => !ps.contains (pcPartner p) && (pcUnits (pcPartner p)).all s.unitFree)
  let on := (g.map (·.mirrored)).getD false
  s.judge i (s.regionFails i r ++ [(decide (1 < en), stBAD_OPERAND), (decide (s.sys.mode ≠ 3), stBAD_STATE),
      (decide (en = 1) && !on && !(whole && free), stCONFLICT)]) fun s =>
    match g with
    | none => s
    | some g =>
      if decide (en = 1) = on then s.ok i
      else if en = 1 then
        let s : State := forAll ps State.copyPc s
        let s := forAll ps (fun s p => (s.setPc p { s.pc p with mir := true, primary := true }).setPc (pcPartner p) { s.pc (pcPartner p) with mir := true }) s
        let s := { s with sec := { s.sec with mirrorPcs := s.sec.mirrorPcs ++ ps.map pcPartner } }
        (s.setRegion r (some { g with mirrored := true })).ok i
      else ((s.endMirror ps).setRegion r (some { g with mirrored := false })).ok i
def State.cMemMirror (s : State) (i : Issuer) (r en : Byte) : State :=
  s.command i 0x0704 [(8, 1, r.toNat), (9, 1, en.toNat)] (.memMirror i r en) (·.fwMemMirror i r.toNat en.toNat)
def execMemMirror (i : Issuer) (r en : Byte) (s : State) : Host.Outcome State Fault Refusal := act s (·.cMemMirror i r en)

/-! ### HBM_STATS (R426, R440) -/

def State.fwHbmStats (s : State) (i : Issuer) (n : Nat) (bad : Bool) : State :=
  let p := s.pc n
  let mine := (pcUnits n).all (fun u => match sget none s.sec.units u with | some r => s.owns i.p (some r) | none => false)
  s.judge i [(bad, stBAD_OPERAND), (!i.owner && !mine, stOUT_OF_RANGE)] fun s =>
    (s.setPc n { p with ce := 0, ue := 0, postp := 0, runs := 0 }).complete i stOK
      (resAt 0x08 p.ce + resAt 0x0A p.ue + resAt 0x0C p.postp + resAt 0x0E p.runs + resAt 0x10 p.rdeye.toNat + resAt 0x11 p.wreye.toNat
        + resAt 0x12 p.st.code + resAt 0x13 (b2n p.stored + 2 * b2n p.drift) + resAt 0x14 (16 * p.hard + p.soft))
def State.cHbmStats (s : State) (i : Issuer) (pc : PcOp) : State :=
  s.command i 0x0705 (pcOpnds pc) (.hbmStats i pc) (·.fwHbmStats i (pcIdx pc) (pcBad pc))
def execHbmStats (i : Issuer) (pc : PcOp) (s : State) : Host.Outcome State Fault Refusal := act s (·.cHbmStats i pc)

/-! ### NOC_STATS, NOC_TIMEOUT, ROUTER_STATS, BELAY_STATS (R277, R426, R442) -/

/-- Whether an issuer may name an initiator: a tenant those of its regions and its host port, the owner 0x210 to 0x214 (R277). -/
def State.initMine (s : State) (i : Issuer) (n : Nat) : Bool :=
  if i.owner then decide (0x210 ≤ n) && decide (n ≤ 0x214) else decide (n < 0x204) && decide (s.initTenant n = some i.p)

def State.fwNocStats (s : State) (i : Issuer) (id item : Nat) : State :=
  let n := s.init id
  let h := fun k => sget 0 n.hist k
  let clr := fun k (m : SMap Nat) => sput 0 (sput 0 (sput 0 (sput 0 m k 0) (k + 1) 0) (k + 2) 0) (k + 3) 0
  let out := fun (m : Init) v => (s.setInit id m).complete i stOK v
  s.judge i [(decide (4096 ≤ id) || decide (3 < item), stBAD_OPERAND), (!s.initMine i id, stOUT_OF_RANGE)] fun _ =>
    if item = 0 then
      out { n with req := 0, words := 0, lmax := 0, tocnt := 0 }
        (resAt 0x08 n.req + resAt 0x0C n.words + resAt 0x10 n.lmax + resAt 0x14 n.tocnt + resAt 0x16 (n.nStuck s.now))
    else if item = 1 then out { n with hist := clr 0 n.hist } (resAt 0x08 (h 0) + resAt 0x0C (h 1) + resAt 0x10 (h 2) + resAt 0x14 (h 3))
    else if item = 2 then out { n with hist := clr 4 n.hist } (resAt 0x08 (h 4) + resAt 0x0C (h 5) + resAt 0x10 (h 6) + resAt 0x14 (h 7))
    else out { n with late := 0, stray := 0 }
        (resAt 0x08 n.late + resAt 0x0A n.stray + resAt 0x0C (n.nFree (nTags id)) + resAt 0x0E n.nBusy + resAt 0x10 n.nQuar)
def State.cNocStats (s : State) (i : Issuer) (id : BitVec 16) (item : Byte) : State :=
  s.command i 0x0900 [(8, 2, id.toNat), (10, 1, item.toNat)] (.nocStats i id item) (·.fwNocStats i id.toNat item.toNat)
def execNocStats (i : Issuer) (id : BitVec 16) (item : Byte) (s : State) : Host.Outcome State Fault Refusal := act s (·.cNocStats i id item)

def State.fwRouterStats (s : State) (i : Issuer) (r : Nat) : State :=
  let x := s.router r
  let lane := fun d => let l := sget {} x.lanes d; (l.used % 4 + 4 * b2n l.half) * 2 ^ (8 * d)
  (s.setRouter r { x with pdrop := 0, retry := 0 }).complete i stOK
    (resAt 0x08 x.pdrop + resAt 0x0A x.retry + resAt 0x0C (lane 0 + lane 1 + lane 2 + lane 3))
def State.cRouterStats (s : State) (i : Issuer) (r : Byte) : State :=
  s.command i 0x0901 [(8, 1, r.toNat)] (.routerStats i r) (·.fwRouterStats i r.toNat)
def execRouterStats (i : Issuer) (r : Byte) (s : State) : Host.Outcome State Fault Refusal := act s (·.cRouterStats i r)

def State.fwBelayStats (s : State) (i : Issuer) (r : Nat) : State :=
  s.judge i (s.regionFails i r) fun s =>
    let b := s.breg r
    (s.setBreg r { b with disp := 0, fail := 0, qblk := 0, drop := 0, exsat := false }).complete i stOK
      (resAt 0x08 b.disp + resAt 0x0C b.fail + resAt 0x10 b.qblk + resAt 0x12 b.drop + resAt 0x14 (b2n b.exsat))
def State.cBelayStats (s : State) (i : Issuer) (r : Byte) : State :=
  s.command i 0x0902 [(8, 1, r.toNat)] (.belayStats i r) (·.fwBelayStats i r.toNat)
def execBelayStats (i : Issuer) (r : Byte) (s : State) : Host.Outcome State Fault Refusal := act s (·.cBelayStats i r)

def State.fwNocTimeout (s : State) (i : Issuer) (id us : Nat) : State :=
  let stopped := !i.owner && s.halted (s.initRegion id)
  s.judge i [(decide (4096 ≤ id) || decide (us = 0) || decide (1000000 < us), stBAD_OPERAND), (!s.initMine i id, stOUT_OF_RANGE), (stopped, stBAD_STATE)] fun s =>
    (s.setInit id { s.init id with tous := us }).ok i
def State.cNocTimeout (s : State) (i : Issuer) (id : BitVec 16) (tous : Reg) : State :=
  s.command i 0x0903 [(8, 2, id.toNat), (12, 4, tous.toNat)] (.nocTimeout i id tous) (·.fwNocTimeout i id.toNat tous.toNat)
def execNocTimeout (i : Issuer) (id : BitVec 16) (tous : Reg) (s : State) : Host.Outcome State Fault Refusal := act s (·.cNocTimeout i id tous)

/-! ### EVENT_LOG, CAIRN_STATUS (R442, R480) -/

def State.fwEventLog (s : State) (i : Issuer) (n : Nat) : State :=
  match s.rel.log[n]? with
  | none => s.complete i stNOT_FOUND 0
  | some e => s.complete i stOK (leNat e.bytes)
def State.cEventLog (s : State) (i : Issuer) (index : Reg) : State :=
  s.command i 0x0904 [(8, 4, index.toNat)] (.eventLog i index) (·.fwEventLog i index.toNat)
def execEventLog (i : Issuer) (index : Reg) (s : State) : Host.Outcome State Fault Refusal := act s (·.cEventLog i index)

def State.fwCairnStatus (s : State) (i : Issuer) : State :=
  let r := s.rel
  s.complete i stOK (resAt 0x08 r.passes + resAt 0x0C r.notrun + resAt 0x10 r.fails + resAt 0x14 r.lastfail.toNat)
def State.cCairnStatus (s : State) (i : Issuer) : State := s.command i 0x0905 [] (.cairnStatus i) (·.fwCairnStatus i)
def execCairnStatus (i : Issuer) (s : State) : Host.Outcome State Fault Refusal := act s (·.cCairnStatus i)

end Sys2Proof.Machine
end

