-- ==== Sys2Proof/Machine/FwDev.lean ====
section
/-! DEFINITION. Firmware commands: device, abort, stage buffer, firmware updates, full loads, life cycle (R31, R354 to R359,
R367, R368, R405, R413, R423, R425, R428, R442 to R445). -/

namespace Sys2Proof.Machine

/-! ### DEV_IDENTITY, DEV_STATUS, TIME_GET, TIME_STEP, TICK_SET (R428) -/

def State.fwDevIdentity (s : State) (i : Issuer) : State :=
  s.complete i stOK (resAt 0x08 0x040960B0 + resAt 0x0C 0xB0 + resAt 0x0D s.sec.lcs.code + resAt 0x10 (leNat ((Config.sha384 deviceId).take 8)))
def State.cDevIdentity (s : State) (i : Issuer) : State := s.command i 0x0100 [] (.devIdentity i) (·.fwDevIdentity i)
def execDevIdentity (i : Issuer) (s : State) : Host.Outcome State Fault Refusal := act s (·.cDevIdentity i)

/-- The result of DEV_STATUS. -/
def State.devStatus (s : State) : Nat :=
  resAt 0x08 s.sys.dstate.code + resAt 0x09 s.sys.mode + resAt 0x0A s.sec.lcs.code + resAt 0x0B (bitsOf ((List.range 4).map s.tenant))
    + resAt 0x0C (bitsOf ((List.range 64).map s.islSvc)) + resAt 0x14 (bitsOf ((List.range 4).map (fun m => (s.stack m).insvc && (s.stack m).rate)))
    + resAt 0x15 (b2n s.sys.full)

def State.fwDevStatus (s : State) (i : Issuer) : State := s.complete i stOK s.devStatus
def State.cDevStatus (s : State) (i : Issuer) : State := s.command i 0x0101 [] (.devStatus i) (·.fwDevStatus i)
def execDevStatus (i : Issuer) (s : State) : Host.Outcome State Fault Refusal := act s (·.cDevStatus i)

def State.fwTimeGet (s : State) (i : Issuer) : State := s.complete i stOK (resAt 0x08 s.now + resAt 0x10 (b2n s.ext.ptp.locked))
def State.cTimeGet (s : State) (i : Issuer) : State := s.command i 0x0102 [] (.timeGet i) (·.fwTimeGet i)
def execTimeGet (i : Issuer) (s : State) : Host.Outcome State Fault Refusal := act s (·.cTimeGet i)

/-- TIME_STEP (R31). -/
def State.fwTimeStep (s : State) (i : Issuer) (t : BitVec 64) : State :=
  s.judge i [(decide (t.toNat < s.now), stTIME_BACKWARD)] fun s => (s.stepTime t.toNat).ok i
def State.cTimeStep (s : State) (i : Issuer) (t : BitVec 64) : State := s.command i 0x0103 [(8, 8, t.toNat)] (.timeStep i t) (·.fwTimeStep i t)
def execTimeStep (i : Issuer) (t : BitVec 64) (s : State) : Host.Outcome State Fault Refusal := act s (·.cTimeStep i t)

def State.fwTickSet (s : State) (i : Issuer) (ns : Nat) : State :=
  s.judge i [(decide (ns < 250) || decide (1000000 < ns), stBAD_OPERAND)] fun s => (s.setBelay { s.belay with tick := ns }).ok i
def State.cTickSet (s : State) (i : Issuer) (ns : Reg) : State := s.command i 0x0201 [(8, 4, ns.toNat)] (.tickSet i ns) (·.fwTickSet i ns.toNat)
def execTickSet (i : Issuer) (ns : Reg) (s : State) : Host.Outcome State Fault Refusal := act s (·.cTickSet i ns)

/-! ### ABORT (R405, R423) -/

/-- An abort reaches a running command: a load ends with ABORTED where it can stop. -/
def State.abortRunning (s : State) (x : Running) : State :=
  if x.op = 0x0306 then
    if x.began then s.loadFail x.iss.p ((s.ctx x.iss.p).nextFrame - 1) { status := lsABORTED }
    else s.complete x.iss stABORTED (resAt 0x08 (lsABORTED * 2 ^ 24))
  else if x.op = 0x0A02 then
    if !x.began then s.complete x.iss stABORTED (resAt 0x08 (lsABORTED * 2 ^ 24))
    else if (s.ctx 4).released then s
    else s.loadFail 4 ((s.ctx 4).nextFrame - 1) { status := lsABORTED }
  else s

/-- ABORT: the completion follows that of the target. -/
def State.fwAbort (s : State) (i : Issuer) (target : Nat) : State :=
  let n := tagSlot target
  let h := s.hslot i.p i.f n
  if !h.busy || decide (h.gen ≠ tagGen target) || decide (target = i.tag.toNat) then s.complete i stNOT_FOUND 0
  else
    let s := s.setHslot i.p i.f n { h with marked := true, aborters := h.aborters ++ [i] }
    let s := s.setRunning (s.host.running.filter (fun r => decide (r.iss ≠ i)))
    match s.record (mkIssuer i.p i.f (BitVec.ofNat 16 target)) with
    | some x => s.abortRunning x
    | none => s
def State.cAbort (s : State) (i : Issuer) (target : BitVec 16) : State :=
  s.command i 0x0104 [(8, 2, target.toNat)] (.abort i target) (·.fwAbort i target.toNat)
def execAbort (i : Issuer) (target : BitVec 16) (s : State) : Host.Outcome State Fault Refusal := act s (·.cAbort i target)

/-! ### STAGE, FULL_LOAD, ROPE_CTL (R425, R442) -/

def State.fwStage (s : State) (i : Issuer) (off : Nat) (d : BitVec 256) : State :=
  s.judge i [(decide (off % 32 ≠ 0) || !stageOk off 32, stBAD_OPERAND)] fun s =>
    ({ s with rel := { s.rel with stage := (List.range 32).foldl (fun m k => sput 0 m (off + k) (BitVec.ofNat 8 (fld d.toNat (8 * k) 8))) s.rel.stage } }
      : State).ok i
def State.cStage (s : State) (i : Issuer) (off : Reg) (data : BitVec 256) : State :=
  s.command i 0x0A00 [(8, 4, off.toNat), (12, 32, data.toNat)] (.stage i off data) (·.fwStage i off.toNat data)
def execStage (i : Issuer) (off : Reg) (data : BitVec 256) (s : State) : Host.Outcome State Fault Refusal := act s (·.cStage i off data)

def State.fwFullLoad (s : State) (i : Issuer) (src off len : Nat) : State :=
  s.judge i [(decide (1 < src) || (decide (src = 1) && !stageOk off len), stBAD_OPERAND)] fun s =>
    if (s.ctx 4).busy then s.loaderBusy i else s.startLoad i 4 (if src = 0 then .flash else .stage) off len none
def State.cFullLoad (s : State) (i : Issuer) (src : Byte) (off len : Reg) : State :=
  s.command i 0x0A02 [(8, 1, src.toNat), (12, 4, off.toNat), (16, 4, len.toNat)] (.fullLoad i src off len) (·.fwFullLoad i src.toNat off.toNat len.toNat)
def execFullLoad (i : Issuer) (src : Byte) (off len : Reg) (s : State) : Host.Outcome State Fault Refusal := act s (·.cFullLoad i src off len)

/-- ROPE_CTL: the Rope is listened to only under BOOT_SRC 0b01 and 0b10 (R349). -/
def State.fwRopeCtl (s : State) (i : Issuer) (ghi action : Nat) : State :=
  s.judge i [(decide (63 < ghi) && decide (ghi ≠ 0xFF), stBAD_OPERAND)] fun s =>
    let r := s.loader.rope
    (s.setRope { r with ghi := if ghi = 0xFF then r.ghi else BitVec.ofNat 6 ghi, faulto := r.faulto && !bit action 0
                        listen := r.listen || (bit action 1 && (s.sys.bootSrc = 1 || decide (s.sys.bootSrc = 2))) }).ok i
def State.cRopeCtl (s : State) (i : Issuer) (ghi action : Byte) : State :=
  s.command i 0x0A03 [(8, 1, ghi.toNat), (9, 1, action.toNat)] (.ropeCtl i ghi action) (·.fwRopeCtl i ghi.toNat action.toNat)
def execRopeCtl (i : Issuer) (ghi action : Byte) (s : State) : Host.Outcome State Fault Refusal := act s (·.cRopeCtl i ghi action)

/-! ### Keys of the boot (R358, R359, R368, R369) -/

/-- SHA-384 of the firmware in the active slot. -/
def State.slotHash (s : State) : List Byte := (sget none s.rel.fwHash (b2n s.rel.slot)).getD (Config.fwHash (b2n s.rel.slot))
def cdi1 : List Byte := kdf uds "ZT-CDI" Config.secFwHash
def alias1 : List Byte := kdf cdi1 "ZT-ALIAS" []

/-- Security version of the firmware in the active slot. -/
def State.slotSvn (s : State) : Nat := (sget none s.rel.fwSvn (b2n s.rel.slot)).getD (Config.fwSvn (b2n s.rel.slot))

/-- Alias2 and its certificate, at boot and at each activation of a slot (R359). -/
def State.setAlias2 (s : State) : State :=
  let k := kdf (kdf cdi1 "ZT-CDI" s.slotHash) "ZT-ALIAS" []
  ({ s with sec := { s.sec with cert2 := Config.certificate alias1 (Config.ecPublic k) s.slotHash s.slotSvn } } : State).setKey 3 (some k)

/-- The key table at boot; it stays empty in RETIRED (R354). -/
def State.bootKeys (s : State) : State :=
  if s.sec.lcs = .retired then s
  else
    let dev := kdf uds "ZT-DEVID" []
    let s := { s with sec := { s.sec with cert1 := Config.certificate dev (Config.ecPublic alias1) Config.secFwHash Config.secFwSvn.toNat } }
    let s := (((s.setKey 0 (some (kdf uds "ZT-STORE" []))).setKey 1 (some dev)).setKey 2 (some alias1)).setAlias2
    let s := (s.setKey 4 (some (kdf uds "ZT-WRAP" []))).setKey 5 (if s.sec.lcs = .debug then s.sec.debugFleet else s.sec.fleet)
    forAll [6, 7, 96] (fun s k => let (r, s) := s.draw; s.setKey k (some r)) s

/-! ### Restarts of Scaeth and firmware updates (R413, R443) -/

def RestartCause.code : RestartCause → Nat
  | .mismatch => 1 | .update => 2 | .watchdog => 3

/-- Scaeth restarts: the mailboxes are unavailable and its memory, with the stage buffer, is wiped (R379, R413, R425). -/
def State.scaethRestart (s : State) (cause : Nat) : State :=
  ({ s with host := { s.host with avail := false }, rel := { s.rel with stage := [] } } : State).log 0x61 cause

/-- SCAETH_RESTART (R413). -/
def execScaethRestart (cause : RestartCause) (s : State) : Host.Outcome State Fault Refusal :=
  act s fun s => if s.host.avail then s.scaethRestart (RestartCause.code cause) else s

/-- FW_UPDATE (R443). -/
def State.fwFwUpdate (s : State) (i : Issuer) (off len : Nat) : State :=
  let img := s.staged off len
  match if stageOk off len && decide (len ≤ 0x300000) then Config.fwCheck img else some (0, 0) with
  | none => s.complete i stBAD_SIGNATURE 0
  | some (svn, ver) =>
    s.judge i [(!stageOk off len || decide (0x300000 < len), stBAD_OPERAND), (decide (svn < Config.fwSvnMin), stROLLBACK)] fun s =>
      let n := b2n (!s.rel.slot)
      let s := { s with rel := { s.rel with fwVer := sput 0 s.rel.fwVer n ver, fwSvn := sput none s.rel.fwSvn n (some svn)
                                            fwHash := sput none s.rel.fwHash n (some (Config.sha384 img))
                                            slot := !s.rel.slot, update := some (i, s.now) } }
      ((s.begin i).scaethRestart 2).setAlias2
def State.cFwUpdate (s : State) (i : Issuer) (off len : Reg) : State :=
  s.command i 0x0A01 [(12, 4, off.toNat), (16, 4, len.toNat)] (.fwUpdate i off len) (·.fwFwUpdate i off.toNat len.toNat)
def execFwUpdate (i : Issuer) (off len : Reg) (s : State) : Host.Outcome State Fault Refusal := act s (·.cFwUpdate i off len)

/-- FW_UPDATE_TIMEOUT (R443): back to the old slot. -/
def execFwUpdateTimeout (s : State) : Host.Outcome State Fault Refusal :=
  act s fun s => match s.rel.update with
    | none => s
    | some (i, t) =>
      if s.host.avail || decide (s.now < t + 50000000) then s
      else (({ s with rel := { s.rel with slot := !s.rel.slot, update := none } } : State).setAlias2).complete i stHW_FAULT 0

/-- Whether a running command is a load in its context, which a restart does not interrupt (R323). -/
def Running.loading (x : Running) : Bool := x.began && (decide (x.op = 0x0306) || decide (x.op = 0x0A02))

/-- MAILBOX_RETURN (R413, R443): the commands begun and not completed end with FW_RESTART, an update with OK. A mode change
that has not taken the new mode is given up, and a life-cycle transition before its step 4. -/
def State.mailboxReturn (s : State) : State :=
  let done := s.rel.update.map (·.1)
  let set := match s.sys.change with
    | some ch => if ch.issuer.isSome && decide (7 ≤ ch.step) then ch.issuer else none
    | none => none
  let s := { s with host := { s.host with avail := true }, rel := { s.rel with update := none }
                    sys := { s.sys with change := match s.sys.change with
                      | some ch => if ch.issuer.isSome then none else some ch
                      | none => none }
                    sec := { s.sec with trans := match s.sec.trans with
                      | some t => if t.written then some t else none
                      | none => none } }
  (s.host.running.filter (fun x => !x.loading)).foldl (fun s x =>
    s.complete x.iss (if some x.iss = done || decide (some x.iss = set) then stOK else stFW_RESTART) 0) s

def execMailboxReturn (s : State) : Host.Outcome State Fault Refusal :=
  act s fun s => if s.host.avail || decide (s.sys.bring < 2) then s else s.mailboxReturn

/-! ### Life cycle (R355 to R357, R367, R368, R444, R445) -/

/-- Steps 1 to 3 of a transition (R356): from here other commands are refused, the tenants go when it leaves OWNED, and wipe destroys the
secrets that the transition names. -/
def State.transition (s : State) (i : Issuer) (dest : Lcs) (wipe : State → State) : State :=
  let s := { s with sec := { s.sec with trans := some { dest := dest, issuer := i, posted := s.now } } }
  let s := if s.sec.lcs = .owned && decide (dest ≠ .owned) then
      ((s.release0 i (fun x => decide (x.iss.p < 4))) : State) |> forAll ((List.range 4).filter s.tenant) State.evict
    else s
  (wipe s).begin i

/-- Step 4 (R356, R445): the new state is written, for RETIRED the fuse too, and the completion is posted. -/
def State.transWrite (s : State) (t : Trans) : State :=
  let fuse := decide (t.dest = .retired)
  ({ s with sec := { s.sec with lcs := t.dest, fused := s.sec.fused || fuse, trans := some { t with written := true, posted := s.now }
                                keys := if fuse then [] else s.sec.keys } } : State).ok t.issuer

/-- A command that runs a transition: its first steps, and given again step 4. -/
def State.lcCommand (s : State) (i : Issuer) (op : Nat) (ops : List Opnd) (cmd : Instr) (body : State → State) : State :=
  match s.sec.trans, s.record i with
  | some t, some x => if t.issuer = i && !t.written && decide (x.op.toNat = op) && opsMatch x.bytes ops && s.host.avail then s.transWrite t
      else s.command i op ops cmd body
  | _, _ => s.command i op ops cmd fun s =>
    let t := body s
    if t.sec.trans.isSome then s.afterMoves (List.range 64) i cmd body else t

/-- A large operand of a life-cycle command (R425). -/
def ofsOpnds (off len : Reg) : List Opnd := [(12, 4, off.toNat), (16, 4, len.toNat)]

def State.fwLcClaim (s : State) (i : Issuer) (off len : Nat) : State :=
  let c := Config.claimCheck deviceId (s.staged off len)
  s.judge i [(!stageOk off len, stBAD_OPERAND), (c.isNone, stBAD_SIGNATURE)] fun s =>
    s.transition i .provisioned (fun s => { s with sec := { s.sec with ownerHash := c } })
def State.cLcClaim (s : State) (i : Issuer) (off len : Reg) : State :=
  s.lcCommand i 0x0B00 (ofsOpnds off len) (.lcClaim i off len) (·.fwLcClaim i off.toNat len.toNat)
def execLcClaim (i : Issuer) (off len : Reg) (s : State) : Host.Outcome State Fault Refusal := act s (·.cLcClaim i off len)

def State.fwLcSeal (s : State) (i : Issuer) : State := s.transition i .owned id
def State.cLcSeal (s : State) (i : Issuer) : State := s.lcCommand i 0x0B01 [] (.lcSeal i) (·.fwLcSeal i)
def execLcSeal (i : Issuer) (s : State) : Host.Outcome State Fault Refusal := act s (·.cLcSeal i)

def State.fwLcUnseal (s : State) (i : Issuer) : State := s.transition i .provisioned id
def State.cLcUnseal (s : State) (i : Issuer) : State := s.lcCommand i 0x0B02 [] (.lcUnseal i) (·.fwLcUnseal i)
def execLcUnseal (i : Issuer) (s : State) : Host.Outcome State Fault Refusal := act s (·.cLcUnseal i)

/-- LC_DEBUG (R355, R357): the fleet key, the owner's wrapped keys and the tenants' secrets and registrations go. -/
def State.fwLcDebug (s : State) (i : Issuer) (off len : Nat) : State :=
  let ok := decide (Config.debugCheck deviceId (s.staged off len) = some (s.sec.dbgcnt + 1))
  s.judge i [(!stageOk off len, stBAD_OPERAND), (!ok && decide (s.sec.dbgcnt ≠ 15), stBAD_SIGNATURE), (decide (15 ≤ s.sec.dbgcnt), stLIFECYCLE)] fun s =>
    s.transition i .debug (fun s =>
      let s := forAll (List.range 8) (fun s n => s.setEth n { s.eth n with sas := [], newSas := none, txAn := none }) s
      ({ s with sec := { s.sec with fleet := none, signers := [], dbgcnt := s.sec.dbgcnt + 1 } } : State).setKey 5 none)
def State.cLcDebug (s : State) (i : Issuer) (off len : Reg) : State :=
  s.lcCommand i 0x0B03 (ofsOpnds off len) (.lcDebug i off len) (·.fwLcDebug i off.toNat len.toNat)
def execLcDebug (i : Issuer) (off len : Reg) (s : State) : Host.Outcome State Fault Refusal := act s (·.cLcDebug i off len)

def State.fwLcDebugExit (s : State) (i : Issuer) : State :=
  s.transition i .provisioned (fun s => ({ s with sec := { s.sec with debugFleet := none } } : State).setKey 5 none)
def State.cLcDebugExit (s : State) (i : Issuer) : State := s.lcCommand i 0x0B04 [] (.lcDebugExit i) (·.fwLcDebugExit i)
def execLcDebugExit (i : Issuer) (s : State) : Host.Outcome State Fault Refusal := act s (·.cLcDebugExit i)

/-- LC_RETIRE (R355): every key and every wrapped key goes. -/
def State.fwLcRetire (s : State) (i : Issuer) (confirm : Nat) : State :=
  s.judge i [(decide (confirm ≠ le (Config.sha384 deviceId) 0 4), stBAD_OPERAND)] fun s =>
    s.transition i .retired (fun s =>
      let s := forAll (List.range 8) (fun s n => s.setEth n { s.eth n with sas := [], newSas := none, txAn := none }) s
      let s := forAll (List.range 4) State.endSession s
      { s with sec := { s.sec with keys := [], fleet := none, debugFleet := none, owner := {}, signers := [] } })
def State.cLcRetire (s : State) (i : Issuer) (confirm : Reg) : State :=
  s.lcCommand i 0x0B05 [(8, 4, confirm.toNat)] (.lcRetire i confirm) (·.fwLcRetire i confirm.toNat)
def execLcRetire (i : Issuer) (confirm : Reg) (s : State) : Host.Outcome State Fault Refusal := act s (·.cLcRetire i confirm)

/-- FLEET_KEY (R368): the debug fleet key in DEBUG. -/
def State.fwFleetKey (s : State) (i : Issuer) (off len : Nat) : State :=
  let k := Config.unwrap ((s.key 4).getD []) (s.staged off len)
  s.judge i [(!stageOk off len || k.isNone, stBAD_OPERAND)] fun s =>
    (({ s with sec := if s.sec.lcs = .debug then { s.sec with debugFleet := k } else { s.sec with fleet := k } } : State).setKey 5 k).ok i
def State.cFleetKey (s : State) (i : Issuer) (off len : Reg) : State :=
  s.command i 0x0B06 (ofsOpnds off len) (.fleetKey i off len) (·.fwFleetKey i off.toNat len.toNat)
def execFleetKey (i : Issuer) (off len : Reg) (s : State) : Host.Outcome State Fault Refusal := act s (·.cFleetKey i off len)

/-- OWNER_SIGNER (R367). -/
def State.fwOwnerSigner (s : State) (i : Issuer) (off len : Nat) : State :=
  let b := s.staged off len
  s.judge i [(!stageOk off len || !keysOk b || decide (s.sec.ownerHash ≠ some (Config.sha384 b)), stBAD_OPERAND)] fun s =>
    ({ s with sec := { s.sec with owner := { s.sec.owner with blob := some b } } } : State).ok i
def State.cOwnerSigner (s : State) (i : Issuer) (off len : Reg) : State :=
  s.command i 0x0B07 (ofsOpnds off len) (.ownerSigner i off len) (·.fwOwnerSigner i off.toNat len.toNat)
def execOwnerSigner (i : Issuer) (off len : Reg) (s : State) : Host.Outcome State Fault Refusal := act s (·.cOwnerSigner i off len)

end Sys2Proof.Machine
end

