-- ==== Sys2Proof/Machine/Modes.lean ====
section
/-! DEFINITION. Operating modes and the change between them (R29, R231, R234, R259, R260, R290, R316, R429, R449 to R455,
R505, R510). -/

namespace Sys2Proof.Machine

/-! ### Slot tables (R455) -/

/-- Bytes cut into records of 68. -/
def slotRecords (b : List Byte) : List (List Byte) := (List.range ((b.length + 67) / 68)).map (fun k => slice b (68 * k) 68)

def tTYPE (r : List Byte) : Nat := le r 0 1
def tOUT (r : List Byte) : Nat := le r 1 1
def tINDEX (r : List Byte) : Nat := le r 2 2
/-- Entry of a record by slot. -/
def tENTRY (r : List Byte) (k : Nat) : Nat := le r (4 + k) 1

/-- Whether a record is defined for a mode (R455). -/
def slotRecordOk (mode : Nat) (r : List Byte) : Bool :=
  let most := fun (n : Nat) => (List.range 64).all (fun k => decide (tENTRY r k ≤ n) || decide (tENTRY r k = 0x7F))
  decide (r.length = 68) &&
    (if tTYPE r = 1 then decide (tINDEX r < 256) && decide (tOUT r < 8) && most 64
     else if tTYPE r = 2 then decide (tINDEX r = 0) && decide (tOUT r < 4) && most (if mode = 4 then 3 else 4)
     else if tTYPE r = 3 then decide (tINDEX r = 0) && decide (tOUT r < 2) && most 3
     else false)

/-- Whether a run of records is defined, no two for one table. -/
def slotTablesOk (mode : Nat) (rs : List (List Byte)) : Bool :=
  rs.all (slotRecordOk mode) && decide ((rs.map (fun r => (tTYPE r, tOUT r, tINDEX r))).Nodup)

/-- The record of a table. -/
def slotRecord (rs : List (List Byte)) (type out index : Nat) : Option (List Byte) :=
  rs.find? (fun r => decide (tTYPE r = type) && decide (tOUT r = out) && decide (tINDEX r = index))

/-- Owner of a slot of a router output by default (R259, R260): inputs in DETERMINISTIC mode; in ISOLATED mode the regions
allocated and the hub in equal shares, in ascending order; none otherwise. -/
def defaultSlot (mode : Nat) (regions : List Nat) (k : Nat) : Nat :=
  if mode = 2 then k % 8
  else if mode = 4 then
    let us := regions ++ [64]
    if k < us.length * (64 / us.length) then (us[k % us.length]?).getD 0x7F else 0x7F
  else 0x7F

/-- The slot tables of a router for a mode. -/
def routerSlots (mode : Nat) (regions : List Nat) (rs : List (List Byte)) (n : Nat) : SMap (BitVec 7) :=
  (List.range 512).filterMap (fun i =>
    let v := match slotRecord rs 1 (i / 64) n with
      | some r => tENTRY r (i % 64)
      | none => defaultSlot mode regions (i % 64)
    if v = 0x7F then none else some (i, BitVec.ofNat 7 v))

/-- A Belay table of a type: the entries that records give; the others take the default of the scheme. -/
def belaySlots (rs : List (List Byte)) (type n : Nat) : SMap Byte :=
  (List.range (64 * n)).filterMap (fun i => (slotRecord rs type (i / 64) 0).map (fun r => (i, BitVec.ofNat 8 (tENTRY r (i % 64)))))

/-! ### Whether a mode fits (R290, R429, R454) -/

/-- Numbers of the regions in being, ascending. -/
def State.regionNums (s : State) : List Nat := (List.range 64).filter (fun r => (s.region r).isSome)

/-- Whether a region's HBM range consists of whole PCs (R290). -/
def State.wholePcs (s : State) (g : Region) : Bool :=
  g.units.all (fun u => (s.unitPcs u).all (fun p => s.pcWhole p && (pcUnits p).all g.units.contains))

/-- Whether the regions fit a mode with its slot tables. -/
def State.modeFits (s : State) (mode : Nat) (rs : List (List Byte)) : Bool :=
  let ns := s.regionNums
  (decide ((mode = 3) ↔ (s.sys.mode = 3)) || ns.isEmpty)
    && (decide (mode ≠ 4) || ns.all (fun r => match s.region r with
      | some g => s.wholePcs g && slotsFor (routerSlots 4 ns rs) (belaySlots rs 2 4) r g.ten
      | none => true))

/-! ### The steps (R453) -/

/-- VDD_ARR of a mode in mV (R510). -/
def vddOf (mode : Nat) : Nat := if mode = 0 then 850 else if mode = 5 then 650 else 750

/-- PMBus transactions of a step (R505): two retries, then FAULT-SAFE; the state, and whether they succeeded. -/
def State.pmBus (s : State) (p : PmBus) : Bool × State :=
  let s := { s with ext := { s.ext with pmbFails := satAdd s.ext.pmbFails (min 2 p.fails) 0xFFFF } }
  if 3 ≤ p.fails then (false, s.faultSafe 2) else (true, s)

/-- Core voltage is set (R510). -/
def State.setVdd (s : State) (mv : Nat) (p : PmBus) : State :=
  let (ok, s) := s.pmBus p
  if ok then { s with sys := { s.sys with vdd := mv } } else s

/-- The loads that a mode change aborts: those not yet committed (R351). -/
def State.abortLoads (s : State) : State :=
  forAll (List.range 5) (fun s x => if (s.ctx x).busy && ((s.ctx x).written.isEmpty || (s.ctx x).written.any (fun c => (s.cl c).shadow.isSome)) then
    s.loadFail x ((s.ctx x).nextFrame - 1) { status := lsMODE_CHANGE } else s) s

/-- Step 1 of a mode change, its checks passed. -/
def State.startChange (s : State) (mode : Nat) (i : Option Issuer) (rs : List (List Byte)) : State :=
  let s := s.abortLoads
  { s with sys := { s.sys with change := some { step := 1, mode := mode, issuer := i, tables := rs, since := s.now } } }

/-- Whether a request of an initiator that the drain holds is outstanding (R453 step 2). -/
def State.outstanding (s : State) : List (Nat × Nat) :=
  (s.noc.inits.filter (fun e => !isHub e.1)).flatMap (fun e => (e.2.tags.filter (fun t => decide (t.2.st = .busy))).map (fun t => (e.1, t.1)))

/-- An island powers on: its clusters are cleared, and its ports leave the fence at a packet boundary (R271, R458). -/
def State.powerOn (s : State) (i : Nat) : State :=
  let s := { s with sys := { s.sys with islOn := sput false s.sys.islOn i true, fence := sput .none s.sys.fence i .none
                                        clockAt := sput 0 s.sys.clockAt i s.now
                                        pend := s.sys.pend.filter (fun e => decide (e ≠ PendEnable.island i)) } }
  forAll (islandClusters i) State.clearCluster (s.pendIsland i (.unfence 0))

/-- Whether an island has been powered off by its fence (R270, R458). -/
def State.islandOff (s : State) (i : Nat) : Bool := s.islSvc i && !s.islOn i && decide (s.fenceOf i = .acked)

/-- Step 6: slot tables, Belay's scheme and the mode. -/
def State.takeMode (s : State) (mode : Nat) (rs : List (List Byte)) : State :=
  let ns := s.regionNums
  let s := forAll (List.range 256) (fun s n => s.setRouter n { s.router n with slots := routerSlots mode ns rs n }) s
  let s := s.setBelay { s.belay with scheme := if mode = 2 then 1 else if mode = 4 then 2 else 0
                                     laneTab := belaySlots rs 2 4, dispTab := belaySlots rs 3 2 }
  { s with sys := { s.sys with mode := mode } }

/-- Step 7: the drain ends. MODE_SET completes, or bring-up ends in full service (R461 step 8, R463). -/
def State.endChange (s : State) (ch : ModeChange) : State :=
  let s := { s with sys := { s.sys with change := none } }
  match ch.issuer with
  | some i => ({ s with sys := { s.sys with bootMode := ch.mode } } : State).ok i
  | none =>
    let fs := decide (s.sys.dstate = .faultSafe)
    { s with sys := { s.sys with dstate := if fs then .faultSafe else .service, full := !fs, bring := 8 }
             hbm := { s.hbm with storedAt := some (s.now + 60000000000) } }

/-- A mode change enters a step. -/
def State.toStep (s : State) (ch : ModeChange) (n : Nat) : State :=
  { s with sys := { s.sys with change := some { ch with step := n, since := s.now } } }

/-- The clocks of the islands restart at the end of step 4; time-base distribution relocks (R32, R453). -/
def State.clocksRestart (s : State) : State :=
  if s.clocksStopped then { s with sys := { s.sys with clockAt := ((List.range 64).filter s.islOn).foldl (fun m i => sput 0 m i s.now) s.sys.clockAt } } else s

/-- The next step of a mode change, once the present one has ended. -/
def State.changeStep (s : State) (p : PmBus) : State :=
  match s.sys.change with
  | none => s
  | some ch =>
    let vdd := vddOf ch.mode
    let up := decide (s.sys.vdd < vdd)
    let relock := fun (s : State) =>
      let s := s.toStep ch 4
      if ch.mode = 5 then s else forAll ((List.range 64).filter s.islandOff) State.powerOn s
    if ch.issuer.isSome && !s.host.avail then s
    else if ch.step = 1 then s.toStep ch 2
    else if ch.step = 2 then
      let open_ := s.outstanding
      if !open_.isEmpty && decide (s.now < ch.since + 1000000) then s
      else
        let s := open_.foldl (fun s (i, t) => s.timeOut i t) s
        if up then (s.toStep ch 3).setVdd vdd p else relock s
    else if ch.step = 3 then relock s
    else if ch.step = 4 && decide (vdd < s.sys.vdd) then (s.clocksRestart.toStep ch 5).setVdd vdd p
    else if ch.step = 4 || decide (ch.step = 5) then (s.clocksRestart.toStep ch 6).takeMode ch.mode ch.tables
    else s.endChange ch

/-- MODE_CHANGE_STEP (R453). -/
def execModeChangeStep (pm : PmBus) (s : State) : Host.Outcome State Fault Refusal := act s (·.changeStep pm)

/-! ### MODE_SET (R428, R429, R453 to R455) -/

/-- Whether the operands of a MODE_SET are defined, and its tables. -/
def State.modeTables (s : State) (mode off len : Nat) : Option (List (List Byte)) :=
  let rs := slotRecords (s.staged off len)
  if decide (5 < mode) || !stageOk off len || !slotTablesOk mode rs then none else some rs

def State.fwModeSet (s : State) (i : Issuer) (mode off len : Nat) (cmd : Instr) : State :=
  let rs := s.modeTables mode off len
  let mirrored := s.allRegions.any (·.mirrored)
  s.judge i [(rs.isNone, stBAD_OPERAND), (!s.sys.full || (decide (s.sys.mode = 3) && decide (mode ≠ 3) && mirrored), stBAD_STATE),
      (!s.modeFits mode (rs.getD []), stWONT_FIT)] fun s =>
    s.afterMoves (List.range 64) i cmd fun s =>
      if s.sys.change.isSome then s.complete i stBUSY 0 else (s.begin i).startChange mode (some i) (rs.getD [])

/-- Whether another MODE_SET runs when this one is consumed (R428). -/
def State.modeBusy (s : State) (i : Issuer) : Bool :=
  s.host.running.any (fun x => decide (x.op = 0x0200) && decide (x.iss ≠ i) && x.began) && !s.host.waits.any (fun w => decide (w.iss = i))

def State.cModeSet (s : State) (i : Issuer) (mode : Byte) (off len : Reg) : State :=
  let t := s.command i 0x0200 [(8, 1, mode.toNat), (12, 4, off.toNat), (16, 4, len.toNat)] (.modeSet i mode off len)
    (·.fwModeSet i mode.toNat off.toNat len.toNat (.modeSet i mode off len))
  if s.modeBusy i && t.host.waits.any (fun w => decide (w.iss = i)) then
    t.complete i (if (t.modeTables mode.toNat off.toNat len.toNat).isNone then stBAD_OPERAND else stBUSY) 0
  else t

/-- MODE_SET (R453). -/
def execModeSet (i : Issuer) (mode : Byte) (off len : Reg) (s : State) : Host.Outcome State Fault Refusal :=
  act s (·.cModeSet i mode off len)

end Sys2Proof.Machine
end

