-- ==== Sys2Proof/Machine/FwRun.lean ====
section
/-! DEFINITION. A command that waited goes on (R420 to R422). -/

namespace Sys2Proof.Machine

/-- A firmware command by its name; other commands never wait. -/
def fwRun : Instr → State → State
  | .devIdentity i, s => s.cDevIdentity i
  | .devStatus i, s => s.cDevStatus i
  | .timeGet i, s => s.cTimeGet i
  | .timeStep i t, s => s.cTimeStep i t
  | .tickSet i ns, s => s.cTickSet i ns
  | .abort i target, s => s.cAbort i target
  | .stage i off data, s => s.cStage i off data
  | .fullLoad i src off len, s => s.cFullLoad i src off len
  | .ropeCtl i ghi action, s => s.cRopeCtl i ghi action
  | .fwUpdate i off len, s => s.cFwUpdate i off len
  | .lcClaim i off len, s => s.cLcClaim i off len
  | .lcSeal i, s => s.cLcSeal i
  | .lcUnseal i, s => s.cLcUnseal i
  | .lcDebug i off len, s => s.cLcDebug i off len
  | .lcDebugExit i, s => s.cLcDebugExit i
  | .lcRetire i confirm, s => s.cLcRetire i confirm
  | .fleetKey i off len, s => s.cFleetKey i off len
  | .ownerSigner i off len, s => s.cOwnerSigner i off len
  | .hbmOrder i stack order, s => s.cHbmOrder i stack order
  | .pcRepair i pc hard ok, s => s.cPcRepair i pc hard ok
  | .pcRetire i pc, s => s.cPcRetire i pc
  | .memMirror i r en, s => s.cMemMirror i r en
  | .hbmStats i pc, s => s.cHbmStats i pc
  | .nocStats i id item, s => s.cNocStats i id item
  | .routerStats i r, s => s.cRouterStats i r
  | .belayStats i r, s => s.cBelayStats i r
  | .nocTimeout i id tous, s => s.cNocTimeout i id tous
  | .eventLog i index, s => s.cEventLog i index
  | .cairnStatus i, s => s.cCairnStatus i
  | .sessionRule i sess port profile qid key, s => s.cSessionRule i sess port profile qid key
  | .sessionClear i sess, s => s.cSessionClear i sess
  | .sessionShape i sess rate burst, s => s.cSessionShape i sess rate burst
  | .moverAssign i m r, s => s.cMoverAssign i m r
  | .moverPost i m desc, s => s.cMoverPost i m desc
  | .moverStatus i m, s => s.cMoverStatus i m
  | .bar2Bind i r, s => s.cBar2Bind i r
  | .pushwinBind i slot qid, s => s.cPushwinBind i slot qid
  | .portCfg i port split off len, s => s.cPortCfg i port split off len
  | .ptpSource i port, s => s.cPtpSource i port
  | .queueCfg i qid base depth prod cons psrc, s => s.cQueueCfg i qid base depth prod cons psrc
  | .queueEnable i qid, s => s.cQueueEnable i qid
  | .queueDisable i qid, s => s.cQueueDisable i qid
  | .qmodeSet i cl um, s => s.cQmodeSet i cl um
  | .fwdCfg i srcq chan en tkind prio target cred, s => s.cFwdCfg i srcq chan en tkind prio target cred
  | .taskWrite i task desc, s => s.cTaskWrite i task desc
  | .taskArm i task, s => s.cTaskArm i task
  | .taskRemove i task, s => s.cTaskRemove i task
  | .taskQuery i task, s => s.cTaskQuery i task
  | .taskSignal i task, s => s.cTaskSignal i task
  | .timerSet i t r task period, s => s.cTimerSet i t r task period
  | .tenantCreate i ten, s => s.cTenantCreate i ten
  | .tenantEvict i ten, s => s.cTenantEvict i ten
  | .regionAlloc i a, s => s.cRegionAlloc i a
  | .regionResize i r units stk, s => s.cRegionResize i r units stk
  | .regionRelease i r, s => s.cRegionRelease i r
  | .regionInfo i r item, s => s.cRegionInfo i r item
  | .regionLoad i r addr len, s => s.cRegionLoad i r addr len
  | .quotaSet i r quota, s => s.cQuotaSet i r quota
  | .prioSet i r maxp, s => s.cPrioSet i r maxp
  | .standbySet i mask, s => s.cStandbySet i mask
  | .svnRaise i svn, s => s.cSvnRaise i svn
  | .modeSet i mode off len, s => s.cModeSet i mode off len
  | .pcResweep i pc lanes, s => s.cPcResweep i pc lanes
  | .signerReg i addr len hash blob, s => s.cSignerReg i addr len hash blob
  | _, s => s

/-- COMMAND_WAIT_END (R422): the command of an issuer that waits runs, completes with RELEASED, or goes on waiting. -/
def execCommandWaitEnd (i : Issuer) (s : State) : Host.Outcome State Fault Refusal :=
  act s fun s => match s.host.waits.find? (fun w => decide (w.iss = i)) with
    | some w => if (s.record i).isSome then fwRun w.cmd s else s
    | none => s

end Sys2Proof.Machine
end

