-- ==== Sys2Proof/Machine/HbmCmds.lean ====
section
/-! DEFINITION. The commands of the HBM controllers (R291 to R313). -/

namespace Sys2Proof.Machine

/-- HBM_REQUEST_ENQUEUE (R291). -/
def execHbmRequestEnqueue (st : StackId) (ch : Fin 16) (s : State) : Host.Outcome State Fault Refusal :=
  act s (·.hbmEnqueue (16 * st.val + ch.val))

/-- HBM_SCHEDULE (R293): one controller cycle of a PC. -/
def execHbmSchedule (p : PcId) (ecc : EccEvent) (s : State) : Host.Outcome State Fault Refusal :=
  act s (·.hbmCycle p.val ecc)

/-- COMMAND_PARITY_ERROR (R305): a running PC freezes. The failing request is the one whose command the stack reported (log 28). -/
def execCommandParityError (p : PcId) (rep : ParityReport) (s : State) : Host.Outcome State Fault Refusal :=
  act s fun s =>
    let x := s.pc p.val
    if x.st ≠ .service then s
    else match (x.trace[rep.back.toNat]?).bind (·.req) with
      | none => s.freeze p.val x.faddr rep.syn false none
      | some (rid, b) =>
        match (x.queue.find? (fun r => decide (r.rid = rid))) with
        | some r => s.freeze p.val (r.spot b) rep.syn false (some (r.home p.val, rid))
        | none => s.freeze p.val b rep.syn false (some (p.val, rid))

/-- REFRESH_DUE (R299). -/
def execRefreshDue (p : PcId) (s : State) : Host.Outcome State Fault Refusal := act s (·.refreshDue p.val)

/-- OWED_REFRESH_RUN (R300). -/
def execOwedRefreshRun (p : PcId) (s : State) : Host.Outcome State Fault Refusal := act s (·.owedRun p.val)

/-- The byte lane of a DQ lane: four of 8 data lanes, with an ECC lane each. -/
def byteLane (dq : Nat) : Nat := if dq < 32 then dq / 8 else dq - 32

/-- RETRAINING_PAUSE (R301, R311): every 16 ms a PC in service tests one byte lane in one direction, in the pause after a refresh. In
DETERMINISTIC mode the reservation of R297 holds the pause already. -/
def execRetrainingPause (p : PcId) (lane : Fin 8) (lowOk highOk : Bool) (margin : Nat) (s : State) : Host.Outcome State Fault Refusal :=
  act s fun s =>
    let x := s.pc p.val
    if !x.pauseOwed || x.sref || decide (x.st ≠ .service) || decide (s.now < x.trainDue) then s
    else
      let d := sget 0 x.delays lane.val
      let d' := if !lowOk && highOk then min (d + 1) 63 else if lowOk && !highOk then d - 1 else d
      let low := decide (margin < 4)
      let s := s.setPc p.val { x with
        delays := sput 0 x.delays lane.val d', pauseOwed := false, drift := x.drift || low, trainDue := s.now + 16000000
        weak := if low then (lane.val / 2) :: x.weak.filter (fun n => decide (n ≠ lane.val / 2)) else x.weak
        busyUntil := if s.det then x.busyUntil else max x.busyUntil x.cycle + hcyc (s.stack (p.val / 32)).rate 2500 }
      if low && !x.drift then s.log 0x33 (pcData p.val) else s

/-- DQ_LANE_REMAP (R312, R464): a failing lane takes a spare of its channel during a retraining pause. -/
def execDqLaneRemap (p : PcId) (lane : BitVec 6) (s : State) : Host.Outcome State Fault Refusal :=
  act s fun s =>
    let x := s.pc p.val
    let ch := p.val / 2
    let used := (s.pc (2 * ch)).dqUsed + (s.pc (2 * ch + 1)).dqUsed
    let many := decide (16 ≤ (x.corr.filter (fun e => decide (e.2 = lane.toNat) && decide (s.now < e.1 + 1000000000))).length)
    let bad := fun (n : Nat) => s.rel.badBlocks.contains (0x06000000 + 64 * (ch / 16) + 2 * (ch % 16) + n)
    match ((List.range 2).filter (fun n => !bad n))[used]? with
    | none => s
    | some spare =>
      if !x.pauseOwed || decide (36 ≤ lane.toNat) || !(many || x.weak.contains (byteLane lane.toNat)) || decide (sget 0 x.dqBad lane.toNat ≠ 0) then s
      else (s.setPc p.val { x with
        dqBad := sput 0 x.dqBad lane.toNat (spare + 1), dqUsed := x.dqUsed + 1, weak := x.weak.filter (fun n => decide (n ≠ byteLane lane.toNat))
        corr := x.corr.filter (fun e => decide (e.2 ≠ lane.toNat)) }).log 0x34 (pcData p.val + lane.toNat)

/-- SELF_REFRESH_ENTRY (R302). -/
def execSelfRefreshEntry (p : PcId) (s : State) : Host.Outcome State Fault Refusal := act s (·.srefEnter p.val)

/-- SELF_REFRESH_EXIT (R303). -/
def execSelfRefreshExit (p : PcId) (s : State) : Host.Outcome State Fault Refusal := act s (·.srefExit p.val)

/-- STACK_TEMPERATURE_CHANGE (R299). -/
def execStackTemperatureChange (st : StackId) (temp : Byte) (s : State) : Host.Outcome State Fault Refusal :=
  act s fun s =>
    let k := s.stack st.val
    s.setStack st.val { k with temp := temp, hot := if 85 < temp.toNat then true else if temp.toNat ≤ 82 then false else k.hot }

/-- FULL_SWEEP (R308, R310): a PC out of service in a running stack enters service when it passes. One that a PC_RESWEEP has put out of
service waits for the next (R441). -/
def execFullSweep (p : PcId) (lanes : Eyes) (s : State) : Host.Outcome State Fault Refusal :=
  act s fun s =>
    if (s.stack (p.val / 32)).insvc && decide ((s.pc p.val).st = .out) && !(s.pc p.val).barred then
      let (ok, s) := s.sweepPc p.val lanes
      if ok then s.servePc p.val else s
    else s

/-- TRAINING_STORE (R310). -/
def execTrainingStore (s : State) : Host.Outcome State Fault Refusal :=
  act s fun s =>
    match s.hbm.storedAt with
    | some t =>
      if s.now < t then s
      else
        let ps := (List.range 128).filter (fun i => (s.pc i).st = .service || decide ((s.pc i).st = .degraded))
        { s with hbm := { s.hbm with storedAt := some (s.now + 3600000000000)
                                     store := ps.foldl (fun m i => sput [] m i (s.pc i).delays) s.hbm.store } }
    | none => s

/-- PCs of a stack. -/
def stackPcs (m : Nat) : List Nat := (List.range 32).map (32 * m + ·)

/-- A stack begins its move to 9.2 Gb/s, once every PC that has stored values has loaded them (R313): from here its PCs answer FENCED. -/
def State.rateStart (s : State) (m : Nat) : State :=
  let k := s.stack m
  let waiting := (stackPcs m).any (fun i => decide ((s.pc i).st = .out) && !anchorPc i && decide (sget [] s.hbm.store i ≠ []) && !(s.pc i).loaded)
  if !k.insvc || k.rate || k.moving || waiting then s
  else
    let s : State := forAll (stackPcs m) (fun s i => s.dropPc i 5) s
    s.setStack m { s.stack m with moving := true }

/-- The move ends (R313): the mode registers are set, the anchors are swept again and the stored values reloaded. -/
def State.rateEnd (s : State) (m : Nat) (anchors : Eyes × Eyes) : State :=
  let s := s.setStack m { s.stack m with rate := true, moving := false }
  let s : State := forAll (stackPcs m) (fun s i => s.setPc i ((s.pc i).note { stamp := (s.pc i).cycle, cmd := 0xA })) s
  let s := [(32 * m, anchors.1), (32 * m + 16, anchors.2)].foldl (fun s (i, eyes) =>
    if (s.pc i).st = .retired then s
    else
      let (ok, s) := s.sweepPc i eyes
      if ok then s else s.leavePc i) s
  forAll (stackPcs m) (fun s i =>
    let d := sget [] s.hbm.store i
    if d ≠ [] && !anchorPc i && decide ((s.pc i).st ≠ .retired) then s.setPc i { s.pc i with delays := d, stored := true } else s) s

/-- STACK_RATE_CHANGE (R313): the move begins, and given again it ends. -/
def execStackRateChange (st : StackId) (anchors : Eyes × Eyes) (s : State) : Host.Outcome State Fault Refusal :=
  act s fun s => if (s.stack st.val).moving then s.rateEnd st.val anchors else s.rateStart st.val

/-- RESUME (R306): firmware only. -/
def execResume (who : InitId) (p : PcId) (s : State) : Host.Outcome State Fault Refusal :=
  act s fun s => if who.val = fwId then s.resumePc p.val else s.emit (.regValue none)

/-- RETIRE (R307): firmware only. -/
def execRetire (who : InitId) (p : PcId) (s : State) : Host.Outcome State Fault Refusal :=
  act s fun s => if who.val = fwId then s.retirePc p.val else s.emit (.regValue none)

end Sys2Proof.Machine
end

