-- ==== Sys2Proof/Machine/Power.lean ====
section
/-! DEFINITION. Resets, bring-up, island power, FAULT-SAFE triggers (R271, R309, R310, R313, R349, R379, R445, R447, R448, R450,
R458 to R463, R467, R482, R505, R513 to R515, R518, R522). -/

namespace Sys2Proof.Machine

/-! ### Device resets (R379, R460, R482) -/

/-- What of a spare-map entry lies in flash (R482, R484). -/
def SpareEntry.flash (e : SpareEntry) : SpareEntry := { retired := e.retired, spared := e.spared, lcell := e.lcell, phys := e.phys }

/-- A store with every entry replaced. -/
def smapWith {α : Type} [DecidableEq α] (d : α) (f : α → α) (m : SMap α) : SMap α := m.foldl (fun a e => sput d a e.1 (f e.2)) []

/-- A PC across a reset: retirement, remapped DQ lanes and the hard repairs of its stack, and its soft repairs unless power was off (R306, R482). -/
def Pc.kept (cold : Bool) (p : Pc) : Pc :=
  { st := if p.st = .retired then .retired else .out, dqBad := p.dqBad, dqUsed := p.dqUsed, hardUsed := p.hardUsed, softUsed := if cold then 0 else p.softUsed }

/-- A router across a reset: its retired lanes (R482). -/
def Router.kept (x : Router) : Router :=
  { lanes := smapWith {} (fun l => { lanea := l.lanea, laneb := l.laneb, half := l.half, used := l.used, gone := l.gone }) x.lanes }

/-- PLLs that Cairn has found unusable, by 2 x domain + PLL (R466, R479, R482). -/
def badPlls (blocks : List Nat) : SMap Bool :=
  blocks.foldl (fun m w => if w / 2 ^ 24 = 1 then sput false m (w % 2 ^ 24) true else if w / 2 ^ 24 = 2 then sput false m (128 + w % 2 ^ 24) true else m) []

/-- A device reset of a kind, with the straps sampled at its release (R379, R460, R514). -/
def State.deviceReset (s : State) (k : RKind) (straps : BitVec 10) : State :=
  let t := if k = .cold then 0 else s.time
  let w := t.toNat / 15625000
  let off : State := {
    pending := s.pending
    out := s.out
    entropy := s.entropy
    time := t
    sys := { rcause := k, straps := straps, bootMode := s.sys.bootMode, bootCount := s.sys.bootCount + 1
             refclkLost := s.sys.refclkLost && decide (k ≠ .cold), thermtrip := s.sys.thermtrip && decide (k ≠ .cold) }
    cls := s.rel.smap.foldl (fun a e => sput {} a e.1 { stopped := e.2.retired }) []
    noc := { routers := smapWith {} Router.kept s.noc.routers }
    hbm := { store := s.hbm.store, pcs := smapWith {} (Pc.kept (decide (k = .cold))) s.hbm.pcs }
    sec := { lcs := if s.sec.fused then .retired else s.sec.lcs, fused := s.sec.fused, dbgcnt := s.sec.dbgcnt, ownerHash := s.sec.ownerHash, owner := s.sec.owner, fleet := s.sec.fleet
             debugFleet := s.sec.debugFleet, tenants := s.sec.tenants, signers := s.sec.signers }
    host := { ports := (List.range 4).foldl (fun m p => sput {} m p ({ perst := (s.port p).perst, bar2 := (s.port p).bar2, viol := { win := w } } : Port)) []
              owner := { viol := { win := w } } }
    rel := { slot := s.rel.slot, fwVer := s.rel.fwVer, fwSvn := s.rel.fwSvn, fwHash := s.rel.fwHash, log := s.rel.log, second := s.rel.second
             suppressed := s.rel.suppressed, secondAt := s.rel.secondAt, smap := smapWith {} SpareEntry.flash s.rel.smap, badBlocks := s.rel.badBlocks
             pllBad := badPlls s.rel.badBlocks, pllActive := (badPlls s.rel.badBlocks).foldl (fun m e => if e.1 % 2 = 0 then sput 0 m (e.1 / 2) 1 else m) [] }
    ext := { banks := smapWith {} (fun b => { flashHold := b.flashHold, vlvl := b.vlvl }) s.ext.banks, bootWidth := s.ext.bootWidth
             jtag := s.ext.jtag, boundary := s.ext.boundary } }
  let r := forAll ((s.hbm.pcs.filter (fun e => decide (e.2.st = .retired))).map (·.1)) (fun s i =>
    let x := s.router (pcRouter i)
    s.setRouter (pcRouter i) { x with pcdead := x.pcdead ||| BitVec.ofNat 2 (2 ^ (i % 2)) }) off
  r.log 0x62 k.code

/-- COLD_RESET (R460, R513): PWR_GOOD rises in OFF; while RESET_N is low the reset is held. -/
def execColdReset (resetHigh : Bool) (straps : BitVec 10) (s : State) : Host.Outcome State Fault Refusal :=
  .next (if !s.sys.off || s.sys.held.isSome then s
    else if resetHigh then s.deviceReset .cold straps
    else { s with sys := { s.sys with held := some .cold } })

/-- WARM_RESET (R460): the reset is held until RESET_N rises; a low RESET_N in OFF has no effect (R513). -/
def execWarmReset (s : State) : Host.Outcome State Fault Refusal :=
  .next (if s.sys.off || s.sys.held.isSome then s else { s with sys := { s.sys with held := some .warm } })

/-- RESET_N_RELEASE (R513, R514). -/
def execResetNRelease (straps : BitVec 10) (s : State) : Host.Outcome State Fault Refusal :=
  .next (match s.sys.held with
    | some k => s.deviceReset k straps
    | none => s)

/-- POWER_DOWN (R515): PWR_GOOD falls; THERMTRIP_N is released (R522). -/
def execPowerDown (s : State) : Host.Outcome State Fault Refusal :=
  .next { s with sys := { s.sys with off := true, held := none, thermtrip := false, refclkLost := false } }

/-- LIFECYCLE_RESET (R356 step 5, R445): after the owner's POP of the completion, or 100 ms after its posting. -/
def execLifecycleReset (s : State) : Host.Outcome State Fault Refusal :=
  act s fun s => match s.sec.trans with
    | none => s
    | some t =>
      let waits := s.host.owner.comps.any (fun r => decide (r.tag = t.issuer.tag) && !r.rej)
      if t.written && (!waits || decide (t.posted + 100000000 ≤ s.now)) then s.deviceReset .lifecycle s.sys.straps else s

/-! ### FAULT-SAFE triggers and clocks (R448, R464, R518, R522) -/

/-- TEMPERATURE_TRIP (R448). -/
def execTemperatureTrip (s : State) : Host.Outcome State Fault Refusal := act s (·.faultSafe 1)

/-- SUPPLY_FAULT (R448). -/
def execSupplyFault (s : State) : Host.Outcome State Fault Refusal := act s (·.faultSafe 2)

/-- SECURITY_CORE_SELF_CHECK_FAIL (R464). -/
def execSecurityCoreSelfCheckFail (s : State) : Host.Outcome State Fault Refusal := act s (·.faultSafe 3)

/-- THERMTRIP (R522): the pin goes low and stays low; 120 °C lies above the threshold of R448 in every ordering code. -/
def execThermtrip (s : State) : Host.Outcome State Fault Refusal :=
  act s fun s =>
    let s := if s.sys.thermtrip then s else ({ s with sys := { s.sys with thermtrip := true } } : State).emit .thermtripLow
    s.faultSafe 1

/-- SYS_REFCLK_LOSS (R518). -/
def execSysRefclkLoss (s : State) : Host.Outcome State Fault Refusal :=
  act s fun s => { s with sys := { s.sys with refclkLost := true } }

/-! ### Bring-up (R309, R310, R313, R349, R461, R462, R467, R468) -/

/-- Step 3 for a stack: its anchors are swept one after the other, and with both it comes into service (R309); they hold the root-of-trust
state (R288). -/
def State.bringStack (s : State) (m : Nat) (eyes : Eyes × Eyes) : State :=
  let ps := [32 * m, 32 * m + 16]
  let (ok, s) := [(32 * m, eyes.1), (32 * m + 16, eyes.2)].foldl (fun (r : Bool × State) (i, e) =>
    if (r.2.pc i).st = .retired then r else let (b, s) := r.2.sweepPc i e; (r.1 && b, s)) (true, s)
  if ok then
    (forAll (ps.filter (fun i => (s.pc i).st = .out)) State.servePc (s.setStack m { s.stack m with insvc := true })).anchorKeep 257 0 Config.rootState
  else s

/-- A cell that fails the known-answer check (R466, R467, R468): the spare takes its place, or the cluster is retired. -/
def State.bringCell (s : State) (c cell : Nat) (phys : BitVec 5) : State :=
  let e := s.smap c
  if !s.islSvc (islandOf c) || e.retired then s
  else if e.spared || e.spareBad then s.retire c 4
  else (s.setSmap c { e with spared := true, lcell := BitVec.ofNat 4 cell, phys := phys }).log 0x10 (c * 2 ^ 24 + cell * 2 ^ 20 + phys.toNat)

/-- Step 4 for an island: it is released, or tried again at the next reset (R467, R518). -/
def State.bringIsland (s : State) (i : Nat) (fails : Bool) : State :=
  if fails || s.sys.refclkLost then s.log 0x64 i
  else
    { s with sys := { s.sys with islOn := sput false s.sys.islOn i true, islSvc := sput false s.sys.islSvc i true
                                 idleSince := sput 0 s.sys.idleSince i s.now, clockAt := sput 0 s.sys.clockAt i s.now } }

/-- Step 5 for a PC: stored delays are loaded and checked, or it is swept (R310). -/
def State.bringPc (s : State) (i : Nat) (sweep : Option Eyes) : State :=
  let d := sget [] s.hbm.store i
  if !(s.stack (i / 32)).insvc || anchorPc i || decide ((s.pc i).st ≠ .out) then s
  else
    let s := if d = [] then s else (s.trainWrite i).setPc i { (s.trainWrite i).pc i with delays := d, stored := true, loaded := true }
    match sweep with
    | some e => let (ok, s) := s.sweepPc i e; if ok then s.servePc i else s
    | none => if d = [] then s else s.servePc i

/-- Step 6: the boot image path of R349. -/
def State.bootPath (s : State) : State :=
  let b := s.sys.bootSrc
  if b = 0 || b == 2 then s.setCtx 4 { s.ctx 4 with busy := true, path := .flash, phase := .header, base := 0 }
  else if b = 1 then s.setRope { s.loader.rope with listen := true }
  else s

/-- Step 8: the boot mode, or BALANCED where a region cannot fit it (R462). -/
def State.enterBootMode (s : State) : State :=
  let m := s.sys.bootMode
  if s.modeFits m [] then s.startChange m none [] else (s.log 0x63 m).startChange 1 none []

/-- The next step of bring-up. -/
def State.bringStep (s : State) (r : BringResult) : State :=
  let (ok, s) := s.pmBus r.pm
  let s := r.vio.foldl (fun s (b, v) => s.setBank b.val { s.bank b.val with vlvl := v }) s
  let go := fun (s : State) => ({ s with sys := { s.sys with bring := s.sys.bring + 1 } } : State)
  if !ok then s
  else match s.sys.bring with
    | 0 => go s.bootKeys
    | 1 =>
      let s := { s with host := { s.host with avail := true } }
      go (forAll (List.range 4) (fun s p => if s.portExists p && !(s.port p).perst then s.setPort p { s.port p with training := true } else s) s)
    | 2 => go (forAll (List.range 4) (fun s m => match r.anchors[m]? with | some e => s.bringStack m e | none => s) s)
    | 3 =>
      let s := forAll (List.range 64) (fun s i => s.bringIsland i (r.islandFail.any (fun x => decide (x.val = i)))) s
      let s := forAll (r.spareFail.map (·.val)) (fun s c => s.setSmap c { s.smap c with spareBad := !(s.smap c).spared }) s
      go (r.cellFail.foldl (fun s (c, cell, phys) => s.bringCell c.val cell.val phys) s)
    | 4 =>
      let s := forAll (List.range 128) (fun s i => s.bringPc i ((r.sweeps.find? (fun e => decide (e.1.val = i))).map (·.2))) s
      go (forAll (List.range 4) State.rateStart s)
    | 5 => if (List.range 4).any (fun m => (s.stack m).moving) then s else go s.bootPath
    | 6 => go s
    | 7 => if s.sys.change.isSome then s else s.enterBootMode
    | _ => s

/-- BRINGUP_STEP (R461). -/
def execBringupStep (r : BringResult) (s : State) : Host.Outcome State Fault Refusal :=
  act s fun s => if s.sys.dstate = .bringup then s.bringStep r else s

/-! ### Island power (R450, R458, R459) -/

/-- ISLAND_IDLE_TIMEOUT (R450): the power-off begins with the fence of R270. -/
def execIslandIdleTimeout (i : IslId) (s : State) : Host.Outcome State Fault Refusal :=
  act s fun s =>
    if decide (s.sys.mode = 5) && s.islOn i.val && s.islSvc i.val && s.islandIdle i.val && decide (s.fenceOf i.val = .none)
        && decide (sget 0 s.sys.idleSince i.val + 1000 * s.sys.gidle ≤ s.now) then s.requestFence i.val
    else s

/-- Whether a powered-off island is to be powered on: it is no longer idle, an allocation waits for it, or the mode does not
power islands off (R450, R453, R459). -/
def State.wantsPower (s : State) (i : Nat) : Bool :=
  !s.islandIdle i || s.sys.pend.contains (.island i) || decide (s.sys.mode ≠ 5)

/-- ISLAND_POWER_ON (R458). -/
def execIslandPowerOn (i : IslId) (s : State) : Host.Outcome State Fault Refusal :=
  act s fun s => if s.islandOff i.val && s.wantsPower i.val && decide (s.sys.dstate ≠ .faultSafe) then s.powerOn i.val else s

/-- Whether the disable that an enable waits for has ended (R459). -/
def State.enableRuns (s : State) : PendEnable → Bool
  | .island i => s.islandOff i
  | .ring p f _ => !(s.func p f).rstp

/-- PENDING_ENABLE_RUN (R459): the first enable whose disable has ended. -/
def execPendingEnableRun (s : State) : Host.Outcome State Fault Refusal :=
  act s fun s => match s.sys.pend.find? s.enableRuns with
    | none => s
    | some e =>
      let s := { s with sys := { s.sys with pend := s.sys.pend.erase e } }
      match e with
      | .island i => s.powerOn i
      | .ring p f k => s.ringEnable p f k

end Sys2Proof.Machine
end

