-- ==== Sys2Proof/Machine/Wear.lean ====
section
/-! DEFINITION. Migration to a standby cluster, the log's seconds, Cairn, PLL pairs (R456, R466, R469 to R474, R477 to R480,
R482, R484). -/

namespace Sys2Proof.Machine

/-! ### Migration (R470 to R474) -/

/-- An index whose cluster moves. -/
def movedCl (c b n : Nat) : Nat := if n = c then b else n
def movedQ (c b q : Nat) : Nat := if q / 128 = c then 128 * b + q % 128 else q

def Origin.moved (c b : Nat) : Origin → Origin
  | .comp n => .comp (movedCl c b n)
  | .queue q => .queue (movedQ c b q)
  | o => o

def BEvent.moved (c b : Nat) (e : BEvent) : BEvent := { e with orig := e.orig.moved c b }
def Comp.moved (c b : Nat) (x : Comp) : Comp := { x with cl := movedCl c b x.cl }

def Work.moved (c b : Nat) : Work → Work
  | .event e => .event (e.moved c b)
  | .comp x => .comp (x.moved c b)

def EvtMsg.moved (c b : Nat) : EvtMsg → EvtMsg
  | .event e => .event (e.moved c b)
  | .comp x => .comp (x.moved c b)
  | .start n m => .start (movedCl c b n) m
  | .refused n t => .refused (movedCl c b n) t
  | .notice p n => .notice p { n with orig := n.orig.map (Origin.moved c b) }

/-- A packet after the move: what its event names, and the queue whose credits it returns to a mover. -/
def Packet.moved (c b : Nat) (p : Packet) : Packet :=
  { p with evt := p.evt.map (EvtMsg.moved c b), addr := if p.op = .crd && p.toMover then movedQ c b p.addr else p.addr }

/-- References of Belay, the network and the movers to a cluster that moves (R470 step 4). -/
def State.moveRefs (s : State) (c b : Nat) : State :=
  let y := s.belay
  let s := s.setBelay { y with
    work := y.work.map (Work.moved c b)
    recs := sput {} (sput {} y.recs c {}) b (sget {} y.recs c)
    before := sput none (sput none y.before c none) b (sget none y.before c)
    sentTo := y.sentTo.map (movedCl c b)
    regions := smapWith {} (fun r => { r with held := r.held.map (BEvent.moved c b)
                                              retry := r.retry.map (fun t => { t with events := t.events.map (BEvent.moved c b) }) }) y.regions }
  let s := { s with
    noc := { s.noc with
      packets := s.noc.packets.map (Packet.moved c b)
      hostNotices := s.noc.hostNotices.map (fun n => (n.1, { n.2 with orig := n.2.orig.map (Origin.moved c b) }))
      redirect := if s.noc.redirect.any (fun e => decide (e.2 = c)) then s.noc.redirect.map (fun e => if e.2 = c then (e.1, b) else e)
                  else s.noc.redirect ++ [(c, b)] }
    movers := smapWith {} (fun m => { m with
      inbuf := m.inbuf.map (fun w => { w with cl := movedCl c b w.cl })
      credits := m.credits.foldl (fun a e => sput 0 a (movedQ c b e.1) e.2) []
      stale := m.stale.foldl (fun a e => sput 0 a (movedQ c b e.1) e.2) [] }) s.movers
    loader := { s.loader with ctxs := smapWith {} (fun x => { x with written := x.written.map (movedCl c b) }) s.loader.ctxs } }
  forAll (List.range 4) (fun s k => s.setBank k { s.bank k with outbuf := (s.bank k).outbuf.map (fun w => { w with cl := movedCl c b w.cl }) }) s

/-- A word that reads as uncorrectable on the way is written as 0 at its new place and logged (R470). -/
def State.migLose (s : State) (c b : Nat) (x : MigLoss) : State :=
  if x.area = 3 then
    let k := s.cl b
    let v := k.cell x.cell.val
    (s.setCl b (k.setCell x.cell.val { v with mem := sput 0 v.mem x.index 0, bad := sput 0 v.bad x.index 0 })).log 0x01
      (c * 2 ^ 24 + x.cell.val * 2 ^ 20 + x.index)
  else
    let t := s.loseWord b x.area.val x.index
    ({ s with cls := t.cls } : State).memUE c x.area.val

/-- The complete state of a retired cluster moves to its standby (R470 steps 3 to 5, R473). -/
def State.moveCluster (s : State) (c b : Nat) (bad : List MigLoss) : State :=
  let k := s.cl c
  let r := s.regionOf c
  let s := s.setCl b { k with stopped := false, failing := (s.cl b).failing, repair := none, pause := 0 }
  let s := s.setCl c { stopped := (s.smap c).retired, failing := k.failing }
  let s := bad.foldl (fun s x => s.migLose c b x) s
  let s := s.moveRefs c b
  let s := s.setSmap c { s.smap c with patch := false, src0 := 0 }
  let s := s.setSmap b { s.smap b with patch := true, src0 := BitVec.ofNat 8 c }
  let s := match r with
    | some r =>
      let s := (((s.fwGrant c 0 r false).setIrgn c none).fwGrant b 0 r true).setIrgn b (some r)
      match s.region r with
      | some g => s.setRegion r (some { g with patched := true })
      | none => s
    | none => s
  let s := { s with rel := { s.rel with migq := s.rel.migq.filter (fun m => decide (m.cl ≠ c)) }, entropy := s.entropy + 1 }
  s.log 0x12 (c * 2 ^ 24 + b * 2 ^ 16 + min 200 (Config.migrationPause s.entropy))

/-- Whether a retired cluster can move: its handler has ended, nothing is in flight on a link to it, no load holds its
shadow, and the standby is powered (R470 steps 1 and 2, R474). -/
def State.canMigrate (s : State) (c b : Nat) : Bool :=
  !(s.seq c).biv && (s.cl c).shadow.isNone && s.openCluster b
    && s.cls.all (fun e => e.2.linkWords.all (fun w => decide (s.redir w.tcl ≠ c)))

/-- Migration of a retired cluster, with its pair partner (R469, R470). -/
def State.migrate (s : State) (c : Nat) (bad : List MigLoss) : State :=
  let dest := fun (n : Nat) => (s.rel.migq.find? (fun m => decide (m.cl = n))).map (·.dst)
  let pair := (s.pairOf c).map (·.1)
  match dest c with
  | none => s
  | some b => match pair with
    | none => if s.canMigrate c b then s.moveCluster c b (bad.filter (!·.partner)) else s
    | some d => match dest d with
      | none => s
      | some e => if s.canMigrate c b && s.canMigrate d e then (s.moveCluster c b (bad.filter (!·.partner))).moveCluster d e (bad.filter (·.partner)) else s

/-- MIGRATION (R470). -/
def execMigration (c : ClId) (bad : List MigLoss) (s : State) : Host.Outcome State Fault Refusal := act s (·.migrate c.val bad)

/-! ### The event log (R480) -/

/-- LOG_SECOND_END (R480): one LOG_SUPPRESSED entry closes a second in which entries were not written. -/
def execLogSecondEnd (s : State) : Host.Outcome State Fault Refusal := act s State.rollLog

/-! ### Cairn (R477 to R479, R484) -/

/-- A domain with a PLL pair: islands 0 to 63, quadrants 64 to 67. -/
def pllNum : PllDomain → Nat
  | .island i => i.val
  | .quadrant d => 64 + d.val

def State.pllActive (s : State) (d : Nat) : Nat := sget 0 s.rel.pllActive d
def State.pllBad (s : State) (d p : Nat) : Bool := sget false s.rel.pllBad (2 * d + p)

/-- Block code of a block. -/
def blockWord (b : CairnBlock) : Nat := b.code.toNat * 2 ^ 24 + b.inst.toNat

/-- The sub-port to which a lane of an Ethernet port belongs (R485). -/
def Eth.subOf (e : Eth) (lane : Nat) : Nat := if e.split = 0 then 0 else if e.split = 1 then lane / 2 else lane

/-- The host port to which a lane of a PCIe controller belongs (R384). -/
def State.laneHost (s : State) (k lane : Nat) : Nat := if lane < 8 || !s.portExists (2 * k + 1) then 2 * k else 2 * k + 1

/-- Whether a block exists, is powered, and is a standby or idle block that is still in use (R477, R479). -/
def State.cairnIdle (s : State) (b : CairnBlock) : Bool :=
  let n := b.inst.toNat
  let lanes := fun (c u k : Nat) => !(((List.range 2).filter (fun i => !s.rel.badBlocks.contains (c + i))).take u).contains k
  !s.rel.badBlocks.contains (blockWord b) &&
  (if b.code = 1 then decide (n < 128) && s.islOn (n / 2) && decide (n % 2 ≠ s.pllActive (n / 2))
   else if b.code = 2 then decide (n < 8) && decide (n % 2 ≠ s.pllActive (64 + n / 2))
   else if b.code = 3 then decide (n < 3)
   else if b.code = 4 || b.code == 5 then true
   else if b.code = 6 then
     let ch := 16 * (n / 64) + n % 64 / 2
     decide (n < 256) && decide (n % 64 < 32) && lanes (0x06000000 + n / 2 * 2) ((s.pc (2 * ch)).dqUsed + (s.pc (2 * ch + 1)).dqUsed) (n % 2)
   else if b.code = 7 then decide (n < 2048) && lanes (0x07000000 + n / 2 * 2) (sget {} (s.router (n / 8)).lanes (n / 2 % 4)).used (n % 2)
   else if b.code = 8 then decide (n < 32) && !(s.port (s.laneHost (n / 16) (n % 16))).up
   else if b.code = 9 then decide (n < 32) && !sget false (s.eth (n / 4)).link ((s.eth (n / 4)).subOf (n % 4))
   else false)

/-- Whether a request for the block is served by a twin while the slice runs (R479). -/
def blockTwin (b : CairnBlock) : Bool := b.code = 3 || b.code == 4 || b.code == 5

/-- A block fails: it is out of use (R479, R482). -/
def State.cairnFail (s : State) (b : CairnBlock) : State :=
  let r := s.rel
  let n := b.inst.toNat
  let bad := if b.code = 1 then sput false r.pllBad n true else if b.code = 2 then sput false r.pllBad (128 + n) true else r.pllBad
  ({ s with rel := { r with fails := satAdd r.fails 1 0xFFFFFFFF, lastfail := BitVec.ofNat 32 (blockWord b), pllBad := bad
                            badBlocks := r.badBlocks ++ [(blockWord b)] } } : State).log 0x40 (blockWord b)

/-- A block passes: a standby PLL may swap its role at the end of the pass (R478). -/
def State.cairnPass (s : State) (b : CairnBlock) : State :=
  let n := b.inst.toNat
  let d := if b.code = 1 then some (n / 2) else if b.code = 2 then some (64 + n / 2) else none
  match d with
  | some d => { s with rel := { s.rel with pllPassed := sput false s.rel.pllPassed d true } }
  | none => s

/-- A slice with what its runs find: the signature of the first and of the second run, the clock and supply conditions, and a
request that arrives meanwhile (R477, R479). -/
def State.cairnSlice (s : State) (b : CairnBlock) (first second : Reg) (clockOk supplyOk request : Bool) : State :=
  let ref := Config.cairnRef b.code
  if !s.rel.crnEn || decide (s.sys.dstate ≠ .service) || !s.cairnIdle b then s
  else if !clockOk || !supplyOk || s.sys.refclkLost then { s with rel := { s.rel with notrun := satAdd s.rel.notrun 1 0xFFFFFFFF } }
  else if request && !blockTwin b then s
  else if first = ref || decide (second = ref) then s.cairnPass b
  else s.cairnFail b

/-- CAIRN_SLICE (R477). -/
def execCairnSlice (b : CairnBlock) (first second : Reg) (clockOk supplyOk request : Bool) (s : State) : Host.Outcome State Fault Refusal :=
  act s (·.cairnSlice b first second clockOk supplyOk request)

/-- CAIRN_PASS_END (R478): the PLLs of each domain whose standby passed swap their roles. -/
def execCairnPassEnd (s : State) : Host.Outcome State Fault Refusal :=
  act s fun s =>
    if s.sys.dstate ≠ .service || !s.rel.crnEn then s
    else
      let ds := (List.range 68).filter (fun d => sget false s.rel.pllPassed d && !s.pllBad d (1 - s.pllActive d))
      { s with rel := { s.rel with
          passes := satAdd s.rel.passes 1 0xFFFFFFFF, pllPassed := []
          pllActive := ds.foldl (fun m d => sput 0 m d (1 - s.pllActive d)) s.rel.pllActive } }

/-- CAIRN_DISABLE (R484): firmware only. -/
def execCairnDisable (who : InitId) (s : State) : Host.Outcome State Fault Refusal :=
  act s fun s => if who.val = fwId then s.setCrnEn false else s.emit (.regValue none)

/-- ISLAND_PLL_FAILURE (R466): the domain switches to its standby; with both gone the clusters of an island are retired. -/
def execIslandPllFailure (d : PllDomain) (s : State) : Host.Outcome State Fault Refusal :=
  act s fun s =>
    let n := pllNum d
    let a := s.pllActive n
    if s.pllBad n a || !(match d with | .island i => s.islOn i.val | .quadrant _ => true) then s
    else
      let s := { s with rel := { s.rel with pllBad := sput false s.rel.pllBad (2 * n + a) true } }
      if s.pllBad n (1 - a) then
        match d with
        | .island i => forAll (islandClusters i.val) (fun s c => s.retire c 3) s
        | .quadrant _ => s
      else { s with rel := { s.rel with pllActive := sput 0 s.rel.pllActive n (1 - a) } }

end Sys2Proof.Machine
end

