-- ==== Sys2Proof/Machine/Ether.lean ====
section
/-! DEFINITION. Ethernet ports, session steering, egress, MACsec changes, PTP (R485 to R499, R506). -/

namespace Sys2Proof.Machine

/-! ### Ports (R485, R486, R506) -/

/-- Sub-ports of a breakout. -/
def Eth.subs (e : Eth) : Nat := 2 ^ e.split

/-- Whether the first full image holds the pins (R350). -/
def State.pinsHeld (s : State) : Bool := s.loader.firstLoad && (s.ctx 4).busy && !s.loader.pinsFree

/-- Whether the Ethernet ports are active: loaded, and not in FAULT-SAFE (R461 step 7, R506). -/
def State.ethActive (s : State) : Bool := decide (7 ≤ s.sys.bring) && !s.pinsHeld && decide (s.sys.dstate ≠ .faultSafe)

def State.ethUp (s : State) (n sub : Nat) : Bool := decide (sub < (s.eth n).subs) && sget false (s.eth n).link sub

/-- Whether a lane of a sub-port has been excluded by Cairn (R479): no rate of the sub-port does without it (R485). -/
def State.laneLost (s : State) (n sub : Nat) : Bool :=
  (List.range 4).any (fun l => decide ((s.eth n).subOf l = sub) && s.rel.badBlocks.contains (0x09000000 + 4 * n + l))

/-- ETH_LINK_CHANGE (R486): the link of a sub-port goes up, once the port is active, or down. -/
def execEthLinkChange (e : EthId) (sub : SubId) (up : Bool) (s : State) : Host.Outcome State Fault Refusal :=
  act s fun s =>
    let v := s.eth e.val
    if decide (v.subs ≤ sub.val) || (up && (!s.ethActive || s.laneLost e.val sub.val)) then s else s.setEth e.val { v with link := sput false v.link sub.val up }

/-! ### The parser (R490 to R492) -/

/-- Bytes of a frame, in wire order, as a number's bytes; past the end they read as zeros. -/
def fbytes (b : List Byte) (off n : Nat) : List Byte := (List.range n).map (fun k => (b[off + k]?).getD 0)
/-- A field of a frame, most significant byte first. -/
def fbe (b : List Byte) (off n : Nat) : Nat := leNat (fbytes b off n).reverse

/-- 802.1Q tags that a frame begins with, up to two. -/
def frameTags (b : List Byte) : Nat := if fbe b 12 2 = 0x8100 then (if fbe b 16 2 = 0x8100 then 2 else 1) else 0
/-- Offset behind the EtherType and any tag. -/
def frameHead (b : List Byte) : Nat := 14 + 4 * frameTags b
def frameType (b : List Byte) : Nat := fbe b (frameHead b - 2) 2
/-- VLAN ID, 0 for an untagged frame (R490). -/
def frameVid (b : List Byte) : List Byte := if frameTags b = 0 then [0, 0] else toBe 2 (fbe b 14 2 % 4096)

/-- IPv4 without options or fragments, UDP. -/
def isUdp4 (b : List Byte) : Bool :=
  let h := frameHead b
  decide (frameType b = 0x0800) && decide (fbe b h 1 = 0x45) && decide (fbe b (h + 6) 2 % 16384 = 0) && decide (fbe b (h + 9) 1 = 17)
/-- IPv6 without extension headers, UDP. -/
def isUdp6 (b : List Byte) : Bool :=
  let h := frameHead b
  decide (frameType b = 0x86DD) && decide (fbe b h 1 / 16 = 6) && decide (fbe b (h + 6) 1 = 17)

/-- Offset behind the UDP header; none where a frame has none. -/
def udpEnd (b : List Byte) : Option Nat := if isUdp4 b then some (frameHead b + 28) else if isUdp6 b then some (frameHead b + 48) else none

/-- Bytes of a key. -/
def keyBytes (k : BitVec 256) (off n : Nat) : List Byte := toLe n (fld k.toNat (8 * off) (8 * n))

/-- A field of USER: 4 bytes at an anchor plus an offset (R491). -/
def userField (b : List Byte) (k : BitVec 256) (i : Nat) : List Byte :=
  let a := fld k.toNat (8 * (24 + 2 * i)) 8
  let o := fld k.toNat (8 * (25 + 2 * i)) 8
  if a = 0 then fbytes b o 4
  else if a = 1 then fbytes b (frameHead b + o) 4
  else if a = 2 then (match udpEnd b with | some u => fbytes b (u + o) 4 | none => [0, 0, 0, 0])
  else [0, 0, 0, 0]

/-- The match string of a profile for a frame, 24 bytes; none where the profile does not apply. The key gives the fields of USER. -/
def matchString (b : List Byte) (code : Nat) (key : BitVec 256) : Option (List Byte) :=
  let h := frameHead b
  let pad := fun (x : List Byte) => some (x ++ List.replicate (24 - x.length) 0)
  if code = 5 then some ((List.range 4).flatMap (userField b key) ++ List.replicate 8 0)
  else if frameTags b = 2 then none
  else if code = 1 then (if frameType b = 0xAEFE then pad (frameVid b ++ fbytes b (h + 1) 1 ++ fbytes b (h + 4) 2) else none)
  else if code = 2 then (if isUdp4 b then pad (frameVid b ++ fbytes b (h + 12) 8 ++ fbytes b (h + 20) 4) else none)
  else if code = 3 then (if isUdp6 b then pad (frameVid b ++ fbytes b (h + 24) 16 ++ fbytes b (h + 42) 2 ++ fbytes b (h + 40) 2) else none)
  else if code = 4 then pad (frameVid b ++ fbytes b 0 6 ++ fbytes b (h - 2) 2)
  else none

/-- Whether a rule matches a frame under a profile (R492). -/
def ruleHits (y : Rule) (n sub code : Nat) (b : List Byte) : Bool :=
  decide (y.port = n) && decide (y.sub = sub) && decide (y.profile.toNat % 16 = code)
    && decide (matchString b code y.key = some (keyBytes y.key 0 24))

/-- The first rule that matches, in ascending profile code, with its session. -/
def State.steer (s : State) (n sub : Nat) (b : List Byte) : Option (Nat × Rule) :=
  [1, 2, 3, 4, 5].findSome? (fun code => s.ext.sessions.findSome? (fun e => match e.2.rule with
    | some y => if ruleHits y n sub code b then some (e.1, y) else none
    | none => none))

/-! ### Ingress (R486, R487, R493, R494) -/

/-- Where the data of a stripped frame begins (R493). -/
def stripAt (b : List Byte) (code : Nat) : Nat :=
  if code = 1 then frameHead b + 4 else if code = 2 || code == 3 then (udpEnd b).getD (frameHead b) else frameHead b

/-- The words of a steered frame with their tags. -/
def frameWords (n sub sess now : Nat) (y : Rule) (secure : Bool) (b : List Byte) : List (Word × BitVec 4) :=
  let strip := bit y.profile.toNat 6
  let d := if strip then b.drop (stripAt b (y.profile.toNat % 16)) else b
  let k := (d.length + 15) / 16
  let ws := (bytesWords k d).zipIdx.map (fun (w, i) => (w, if i + 1 = k then (3 : BitVec 4) else 1))
  let meta_ := now % 2 ^ 64 + d.length % 65536 * 2 ^ 64 + sess * 2 ^ 80 + n * 2 ^ 94 + sub * 2 ^ 97 + k % 1024 * 2 ^ 99
    + b2n secure * 2 ^ 109 + b2n strip * 2 ^ 110
  if bit y.profile.toNat 7 then (BitVec.ofNat 128 meta_, 8) :: ws else ws

/-- Words cut into packets of up to 16 (R248). -/
def packetsOf : Nat → List (Word × BitVec 4) → List (List (Word × BitVec 4))
  | 0, _ => []
  | k + 1, ws => if ws.isEmpty then [] else ws.take 16 :: packetsOf k (ws.drop 16)

/-- An Ethernet port pushes words into a queue (R493). -/
def State.ethPush (s : State) (n q : Nat) (ws : List (Word × BitVec 4)) : State :=
  (packetsOf ws.length ws).foldl (fun s w =>
    let b : End := .array (s.redir (q / 128)) 0
    s.sendReq b { op := .pushp, who := 0x220 + n, prio := s.lowerTo (0x220 + n) b 3 (s.qRegion q), addr := q, prod := prodETH, words := w }) s

/-- Whether MACsec rejects a frame (R486, R488). -/
def Eth.rejects (e : Eth) (f : RxFrame) : Bool :=
  let rx := e.sas.filter (fun a => !a.tx)
  if f.secure then rx.isEmpty || !f.macsecOk else rx.any (fun a => bit a.flags.toNat 1)

/-- A frame arrives at an active port whose link is up. -/
def State.rxFrame (s : State) (n sub : Nat) (f : RxFrame) : State :=
  let e := s.eth n
  let len := f.bytes.length + 4
  let draining := match s.sys.change with
    | some ch => decide (2 ≤ ch.step)
    | none => false
  if draining then s.setEth n { e with mdrop := satAdd e.mdrop 1 0xFFFFFFFF }
  else if !f.fcsOk || decide (len < 64) || decide (9600 < len) || e.rejects f then s.setEth n { e with rxerr := satAdd e.rxerr 1 0xFFFFFFFF }
  else if f.pause then s
  else match s.steer n sub f.bytes with
    | none => s.setEth n { e with noMatch := satAdd e.noMatch 1 0xFFFFFFFF }
    | some (sess, y) => s.ethPush n y.qid (frameWords n sub sess s.now y f.secure f.bytes)

/-- FRAME_RECEIVE (R492). -/
def execFrameReceive (e : EthId) (sub : SubId) (f : RxFrame) (s : State) : Host.Outcome State Fault Refusal :=
  act s fun s => if s.ethActive && s.ethUp e.val sub.val then s.rxFrame e.val sub.val f else s

/-! ### Egress (R496) -/

/-- Fields of the egress metadata word. -/
def egLEN (w : Word) : Nat := fld w.toNat 0 16
def egTSMODE (w : Word) : Nat := fld w.toNat 16 2
def egTSOFF (w : Word) : Nat := fld w.toNat 18 12
def egUDP4 (w : Word) : Bool := bit w.toNat 30

/-- Whether a metadata word and its data words form a frame. -/
def egressOk (m : Word) (ws : List (Word × BitVec 4)) : Bool :=
  decide (egTSMODE m ≠ 3) && decide (60 ≤ egLEN m) && decide (egLEN m ≤ 9596) && decide (ws.length = (egLEN m + 15) / 16)

/-- Port and sub-port of a session's egress: those of its rule. -/
def State.egressAt (s : State) (e : Nat) : Nat × Nat :=
  match (s.sess e).rule with
  | some y => (y.port, y.sub)
  | none => ((Config.egressPort e).1.val, (Config.egressPort e).2.val)

/-- A count of frames that a port counts as dropped or malformed. -/
def State.egError (s : State) (n : Nat) : State := let v := s.eth n; s.setEth n { v with egerr := satAdd v.egerr 1 0xFFFFFFFF }
def State.txDrop (s : State) (n : Nat) : State := let v := s.eth n; s.setEth n { v with txdrop := satAdd v.txdrop 1 0xFFFFFFFF }

/-- The words that a session's mover has passed form its next frame, or are discarded up to the next metadata word. Nothing
happens while the frame is not complete. -/
def State.egress (s : State) (e : Nat) : State :=
  let (n, sub) := s.egressAt e
  let keep := fun (s : State) (ws : List (Word × BitVec 4)) => s.setSess e { s.sess e with words := ws }
  match (s.sess e).words with
  | [] => s
  | (m, t) :: rest =>
    if t ≠ 8 then (keep s (rest.dropWhile (fun w => decide (w.2 ≠ 8)))).egError n
    else
      let mid := rest.takeWhile (fun w => decide (w.2 = 1))
      match rest.drop mid.length with
      | [] => s
      | (w, t) :: more =>
        let ws := mid ++ [(w, t)]
        if t = 3 && egressOk m ws then
          let s := keep s more
          if !s.ethUp n sub then s.txDrop n
          else
            let f : TxFrame := { sess := e, sub := sub, bytes := (ws.flatMap (fun w => wordBytes w.1)).take (egLEN m), tsmode := BitVec.ofNat 2 (egTSMODE m)
                                 tsoff := egTSOFF m, udp4 := egUDP4 m }
            s.setEth n { s.eth n with out := (s.eth n).out ++ [f] }
        else (keep s (((w, t) :: more).dropWhile (fun w => decide (w.2 ≠ 8)))).egError n

/-- EGRESS_FRAME (R496). -/
def execEgressFrame (x : SessId) (s : State) : Host.Outcome State Fault Refusal := act s (·.egress x.val)

/-! ### Shaping and departure (R489, R497, R498) -/

/-- The token bucket of a session as its next frame finds it, in 1/8,000 byte: filled at its rate up to the burst, under the
shape that the frame takes. -/
def Sess.atFrame (x : Sess) (now : Nat) : Sess :=
  let full := x.burst * 8000
  let now_ := if x.rate = 0 then x.bucket else min full (x.bucket + (now - x.filled) * x.rate)
  let x := { x with bucket := now_, filled := now }
  match x.next with
  | none => x
  | some (r, b) => { x with rate := r, burst := b, next := none, bucket := if x.rate = 0 then b * 8000 else min now_ (b * 8000) }

/-- Whether a frame of a session may depart: no shape, or tokens for its length with FCS. -/
def Sess.may (x : Sess) (len : Nat) : Bool := decide (x.rate = 0) || decide (len * 8000 ≤ x.bucket)

/-- The first frame of each session that waits on a sub-port. -/
def firstFrames (sub : Nat) (out : List TxFrame) : List TxFrame :=
  out.foldl (fun a f => if f.sub = sub && !a.any (fun g => decide (g.sess = f.sess)) then a ++ [f] else a) []

/-- Bytes of a list replaced from an offset. -/
def patchBytes (b : List Byte) (off : Nat) (v : List Byte) : List Byte :=
  (b.take off ++ v ++ b.drop (off + v.length)).take b.length

/-- An IEEE 1588 time stamp: seconds in 6 bytes, nanoseconds in 4. -/
def ptpStamp (now : Nat) : List Byte := toBe 6 (now / 1000000000) ++ toBe 4 (now % 1000000000)

/-- One-step insertion: for PTP over Ethernet, and for IPv4 UDP with TSUDP4, whose checksum becomes 0 (R498). -/
def stamped (f : TxFrame) (now : Nat) : List Byte :=
  if f.tsmode = 1 && decide (frameType f.bytes = 0x88F7) then patchBytes f.bytes f.tsoff (ptpStamp now)
  else if f.tsmode = 1 && f.udp4 && isUdp4 f.bytes then
    patchBytes (patchBytes f.bytes f.tsoff (ptpStamp now)) (frameHead f.bytes + 26) [0, 0]
  else f.bytes

/-- The transmit association in use. -/
def Eth.txSa (e : Eth) : Option Sa := e.txAn.bind (fun a => e.sas.find? (fun x => x.tx && decide (x.an = a)))

/-- Whether that association's packet number has reached its end (R489). -/
def Eth.spent (e : Eth) : Bool := match e.txSa with
  | some a => decide (a.pn = BitVec.allOnes 64)
  | none => false

/-- A frame leaves on the wire, protected where an association is in use; an exhausted one stops the port (R489). -/
def State.transmit (s : State) (n sub : Nat) (b : List Byte) : State :=
  let v := s.eth n
  match v.txSa with
  | none => s.emit (.frame n sub (b ++ Config.fcs b))
  | some a =>
    if v.spent then s.txDrop n
    else
      let p := Config.macsecProtect a.sak a.pn.toNat b
      (s.setEth n { v with sas := v.sas.map (fun x => if x = a then { x with pn := x.pn + 1 } else x) }).emit (.frame n sub (p ++ Config.fcs p))

/-- A frame departs from a sub-port (R497, R498). -/
def State.depart (s : State) (n : Nat) (f : TxFrame) : State :=
  let v := s.eth n
  let x := (s.sess f.sess).atFrame s.now
  let count := x.egCount + 1
  let s := s.setEth n { v with out := v.out.erase f, ptr := sput 0 v.ptr f.sub ((f.sess + 1) % 16384) }
  let s := s.setSess f.sess { x with bucket := if x.rate = 0 then x.bucket else x.bucket - (f.bytes.length + 4) * 8000, egCount := count }
  if !s.ethUp n f.sub then s.txDrop n
  else
    let s := s.transmit n f.sub (stamped f s.now)
    match f.tsmode, x.rule, v.spent with
    | 2, some y, false => s.ethPush y.port y.qid [(BitVec.ofNat 128 (s.now % 2 ^ 64 + count % 65536 * 2 ^ 64), 9)]
    | _, _, _ => s

/-- The frame that departs next from a sub-port: among the sessions' first frames that may, by the default tie rule. -/
def State.nextFrame (s : State) (n sub : Nat) : Option TxFrame :=
  let v := s.eth n
  let ok := (firstFrames sub v.out).filter (fun f => ((s.sess f.sess).atFrame s.now).may (f.bytes.length + 4))
  (rrPick 16384 (sget 0 v.ptr sub) (fun e => ok.any (fun f => decide (f.sess = e)))).bind (fun e => ok.find? (fun f => decide (f.sess = e)))

/-- FRAME_DEPARTURE (R497). -/
def execFrameDeparture (e : EthId) (sub : SubId) (s : State) : Host.Outcome State Fault Refusal :=
  act s fun s => if !s.ethActive then s else match s.nextFrame e.val sub.val with
    | some f => s.depart e.val f
    | none => s

/-- MACSEC_ASSOCIATION_CHANGE (R489): the settings of the last PORT_CFG take effect; the last record with bit 0 of FLAGS names
the transmit association in use (R488). -/
def execMacsecAssociationChange (e : EthId) (s : State) : Host.Outcome State Fault Refusal :=
  act s fun s =>
    let v := s.eth e.val
    match v.newSas with
    | none => s
    | some l => s.setEth e.val { v with sas := l, newSas := none, txAn := ((l.filter (fun a => a.tx && bit a.flags.toNat 0)).getLast?).map (·.an) }

/-! ### PTP (R499) -/

def State.setPtp (s : State) (p : Ptp) : State := { s with ext := { s.ext with ptp := p } }

/-- A Sync message with the offset of the device time from the master's, in ns. -/
def State.ptpSync (s : State) (offset : Int) : State :=
  let p := { s.ext.ptp with lastSync := s.now }
  if !p.ever && decide (offset < -1000000) then
    (s.stepTime (s.now + (-offset).toNat)).setPtp { p with good := 0, lastSync := s.now + (-offset).toNat }
  else
    let near := decide (offset.natAbs ≤ 100)
    let good := if near then min 16 (p.good + 1) else 0
    let lost := decide (1000 < offset.natAbs)
    let locked := (p.locked && !lost) || decide (16 ≤ good)
    let slew := max (-200) (min 200 (Config.servoSlew s.entropy offset))
    ({ s with entropy := s.entropy + 1 } : State).setPtp { p with good := good, locked := locked, ever := p.ever || locked, slew := slew }

/-- SYNC_MESSAGE (R499): on the PTP_SOURCE port. -/
def execSyncMessage (offset : Int) (s : State) : Host.Outcome State Fault Refusal :=
  act s fun s => match s.ext.ptp.src with
    | some n => if s.ethActive && (List.range 4).any (s.ethUp n) then s.ptpSync offset else s
    | none => s

/-- PTP_SYNC_TIMEOUT (R499): 3 s without a Sync. -/
def execPtpSyncTimeout (s : State) : Host.Outcome State Fault Refusal :=
  act s fun s =>
    let p := s.ext.ptp
    if p.locked && decide (p.lastSync + 3000000000 ≤ s.now) then s.setPtp { p with locked := false, good := 0 } else s

end Sys2Proof.Machine
end

