-- ==== Sys2Proof/Machine/LoadCmds.lean ====
section
/-! DEFINITION. The commands of the loader and the Rope (R100, R327 to R353). -/

namespace Sys2Proof.Machine

/-! ### Headers (R326, R327) -/

/-- Whether both signatures of a header verify under a signer's keys (R326). -/
def sigOk (h : List Byte) (k : Signer) : Bool :=
  match k.blob with
  | none => false
  | some b =>
    let d := Config.sha384 (h.take (hdrSigned h))
    decide (hSIGNER h = (Config.sha384 b).take 16) && Config.ecdsaVerify (b.take 97) d (slice h (hdrSigned h) 96)
      && Config.mldsaVerify (b.drop 97) d (slice h (hdrSigned h + 96) 4627)

/-- The signer of a context's images: the region's tenant's, or the owner's (R326). -/
def State.loadSigner (s : State) (x : LoadCtx) : Signer :=
  match x.region.bind s.region with
  | some g => s.signer g.ten
  | none => s.sec.owner

/-- The key that KEYSRC names (R327 step 8): the fleet key, or the secret of the session of a mailbox's port. -/
def State.namedKey (s : State) (i : Nat) (h : List Byte) : Option (List Byte) :=
  if hKEYSRC h = 0 then s.key 5 else if i < 4 then s.key (8 + i) else none

/-- The root of the ratchet, while the key that KEYSRC names is there (R329): the fleet key for a full image, for a region image the
secret of the port's session (log 101). -/
def State.loadRoot (s : State) (i : Nat) (h : List Byte) : Option (List Byte) :=
  if (s.namedKey i h).isNone then none else if i = 4 then s.key 5 else s.key (8 + i)

/-- The first check of R327 that a header fails, steps 2 and 3 of the Rope apart. -/
def State.headerFail (s : State) (i : Nat) (x : LoadCtx) (h : List Byte) : Option Nat :=
  let g := x.region.bind s.region
  let min := if hKEYSRC h = 0 then s.sec.owner.svn else match g with | some r => (s.signer r.ten).svn | none => s.sec.owner.svn
  if !hdrOk h then some lsBAD_HEADER
  else if !wakeOk (wakeOf h) then some lsBAD_WAKE
  else if x.path ≠ .rope && decide (hCLASS h ≠ classId) then some lsWRONG_CLASS
  else if hKIND h ≠ (if i = 4 then 1 else 2) then some lsBAD_KIND
  else if i = 4 && (List.range 64).any (fun r => (s.region r).isSome) then some lsTENANTS_PRESENT
  else if (match g with
    | some r => decide (hRW h ≠ r.w) || decide (hRH h ≠ s.logH r) || decide (hRW h * hRH h < hNSEG h)
    | none => false) then some lsBAD_REGION
  else if hSVN h < min then some lsROLLBACK
  else if !sigOk h (s.loadSigner x) then some lsBAD_SIGNATURE
  else if (s.loadRoot i h).isNone then some lsKEY_UNAVAILABLE
  else none

/-- A header that a context has read is judged: the load fails, or its frames follow (R327, R329). -/
def State.judgeHeader (s : State) (i : Nat) (h : List Byte) : State :=
  let x := s.ctx i
  match s.headerFail i x h with
  | some st => s.loadFail i 0 { status := st }
  | none =>
    let d := Config.sha384 (h.take (hdrSigned h))
    let s := s.setKey (16 + i) (some (kdf ((s.loadRoot i h).getD []) "ZT-SEG" d))
    let s := s.setCtx i { x with phase := .frames, taken := x.taken + h.length, hdr := h.take (hdrSigned h), digest := d }
    if i = 4 then { s with loader := { s.loader with ownerClusters := (s.loader.ownerClusters ++ hTargets h).eraseDups } } else s

/-- Group ID of the device (R345). -/
def State.groupId (s : State) : Nat := s.loader.rope.ghi.toNat * 64 + s.sys.gs

/-- Whether the header at the front of the Rope's buffer addresses the device (R327 steps 2 and 3, R345). -/
def State.ropeAddressed (s : State) : Bool :=
  let b := s.loader.rope.buf
  decide (256 ≤ b.length) && decide (hCLASS b = classId) && groupMatch b s.groupId

/-- Records the status of a Rope image that has not claimed context 4 (R321). -/
def State.ropeStatus (s : State) (st : Nat) : State :=
  let x := s.ctx 4
  if x.busy then s else s.setCtx 4 { x with lst := BitVec.ofNat 32 (st * 2 ^ 24), lfrm := 0 }

/-- The Rope image's header is complete: addressing first, then context 4, then the other checks (R321, R346). -/
def State.ropeHeader (s : State) (h : List Byte) : State :=
  let r := s.loader.rope
  if !s.ropeAddressed then (s.ropeStatus lsNOT_ADDRESSED).setRope { r with addressed := some false, buf := [], doneo := false }
  else if (s.ctx 4).busy then s.setRope { r with addressed := some true, buf := [], doneo := true, faulto := true }
  else
    let s := s.setRope { r with addressed := some true, buf := r.buf.drop h.length, doneo := true }
    (s.setCtx 4 { s.ctx 4 with busy := true, path := .rope, phase := .header }).judgeHeader 4 h

/-- The port of a mailbox load. -/
def Path.port : Path → Option Nat
  | .mailbox p => some p
  | _ => none

/-- Bytes that a mailbox load may still take. -/
def LoadCtx.rest (x : LoadCtx) : Nat := x.given - x.taken

/-- Whether the link of a mailbox load is down, so that its fetch fails (R323, log 46). -/
def State.fetchFails (s : State) (x : LoadCtx) : Bool := match x.path.port with | some p => !(s.port p).up | none => false

/-- The loader reads n bytes of its source. -/
def State.loadRead (s : State) (x : LoadCtx) (n : Nat) : State :=
  match x.path.port with
  | some p => s.emit (.hostRead p (x.base + x.taken) n)
  | none => s

/-- Whether bytes are what the stage buffer holds, for a load from it. -/
def State.stageSame (s : State) (x : LoadCtx) (b : List Byte) : Bool := x.path ≠ .stage || decide (b = s.staged (x.base + x.taken) b.length)

/-- A header arrives at a context (R327, R348). -/
def State.takeHeader (s : State) (i : Nat) (b : List Byte) : State :=
  let x := s.ctx i
  if x.busy && decide (x.phase = .header) && decide (x.path ≠ .rope) then
    let mail := x.path.port.isSome
    if s.fetchFails x then s.loadFail i 0 { status := lsEARLY_END }
    else if b.length ≠ (if mail then min (hdrNeed b) x.rest else hdrNeed b) || !s.stageSame x b then s
    else if mail && decide (x.rest < hdrNeed b) then (s.loadRead x b.length).loadFail i 0 { status := lsEARLY_END }
    else (s.loadRead x b.length).judgeHeader i b
  else
    let r := s.loader.rope
    if i = 4 && r.addressed.isNone && decide (b = r.buf.take (hdrNeed r.buf)) && decide (b.length = hdrNeed r.buf) then s.ropeHeader b
    else s

/-- LOAD_HEADER (R327). -/
def execLoadHeader (x : CtxId) (bytes : List Byte) (s : State) : Host.Outcome State Fault Refusal := act s (·.takeHeader x.val bytes)

/-! ### Frames (R330, R331) -/

/-- The first failing check of a frame (R331). -/
def State.frameFail (s : State) (x : LoadCtx) (f : List Byte) : Option Nat :=
  let g := s.geo x
  let n := fSEGIDX f
  let stop := fOFFSET f + fPLEN f
  if !frameCrcOk f then some lsFRAME_CRC
  else if fFINDEX f ≠ x.nextFrame || decide (fIMGID f ≠ x.digest.take 8) then some lsFRAME_ORDER
  else if x.region.isSome && (decide (g.w ≤ fTARGET f % 16) || decide (g.h ≤ fTARGET f / 16)) then some lsOUT_OF_REGION
  else if n ≠ x.seg || decide (hNSEG x.hdr ≤ n) || decide (fOFFSET f ≠ x.segBuf.length) || decide (fTARGET f ≠ mTARGET x.hdr n)
    || decide (mLEN x.hdr n < stop) || (decide (stop = mLEN x.hdr n) != fLAST f) then some lsFRAME_ORDER
  else none

/-- A frame that is there is judged and taken; the last one of a segment leaves it to the decryption engine. -/
def State.judgeFrame (s : State) (i : Nat) (f : List Byte) : State :=
  let x := s.ctx i
  match s.frameFail x f with
  | some st => s.loadFail i (fFINDEX f) { status := st }
  | none =>
    let buf := x.segBuf ++ fPayload f
    let s := if i = 4 && decide (x.nextFrame = 0) then { s with loader := { s.loader with barrier := hTargets x.hdr } } else s
    let s := s.setCtx i { x with nextFrame := x.nextFrame + 1, taken := x.taken + f.length, segBuf := buf
                                 sealed := if fLAST f then some (fFINDEX f) else none }
    if !fLAST f && decide (x.nextFrame + 1 = hNFRAME x.hdr) then s.framesEnd i else s

/-- Image bytes of the Rope from which context 4 takes its frames. -/
def Rope.frames (r : Rope) : List Byte := r.old.getD r.buf

/-- A frame of n bytes has been taken from the Rope. -/
def Rope.take (r : Rope) (n : Nat) : Rope :=
  match r.old with
  | some b => { r with old := some (b.drop n) }
  | none => { r with buf := r.buf.drop n }

/-- A frame arrives at a context (R331, R348); it waits while the segment before it waits for the decryption engine. -/
def State.takeFrame (s : State) (i : Nat) (b : List Byte) : State :=
  let x := s.ctx i
  let r := s.loader.rope
  let need := frameNeed b
  if !x.busy || decide (x.phase ≠ .frames) || x.sealed.isSome then s
  else if x.path = .rope then
    if 64 ≤ r.frames.length && decide (b.length = frameNeed r.frames) && decide (b = r.frames.take b.length) then
      (s.setRope (r.take b.length)).judgeFrame i b
    else s
  else
    let mail := x.path.port.isSome
    if s.fetchFails x then s.loadFail i x.nextFrame { status := lsEARLY_END }
    else if b.length ≠ (if mail then min need x.rest else need) || !s.stageSame x b then s
    else if mail && (decide (x.rest < 64) || decide (x.rest < need)) then (s.loadRead x b.length).loadFail i x.nextFrame { status := lsEARLY_END }
    else (s.loadRead x b.length).judgeFrame i b

/-- FRAME (R331). -/
def execFrame (x : CtxId) (bytes : List Byte) (s : State) : Host.Outcome State Fault Refusal := act s (·.takeFrame x.val bytes)

/-- The code that waits for a cluster is written (R175, R336); with the last one the load is armed. -/
def State.codeWrite (s : State) (c : Nat) : State :=
  match (s.cl c).shadow with
  | some h => match h.code with
    | some _ =>
      if (s.seq c).nest.isEmpty && s.openCluster c then
        let s := forAll (s.withTwin c) (fun s c => s.updCl c (fun k => match k.shadow with
          | some h => { k with shadow := some { h with code := none, codeDone := true }, seq := { k.seq with imem := h.code.getD k.seq.imem } }
          | none => k)) s
        let x := s.ctx h.ctx
        if x.busy && decide (x.phase = .codeWait) && !s.codeWaits x then s.loadArm h.ctx else s
      else s
    | none => s
  | none => s

/-- CODE_WRITE (R336). -/
def execCodeWrite (c : ClId) (s : State) : Host.Outcome State Fault Refusal := act s (·.codeWrite c.val)

/-- COMMIT_DEADLINE (R100): T − 10 µs has passed and the image is not yet written and verified. -/
def execCommitDeadline (x : CtxId) (s : State) : Host.Outcome State Fault Refusal :=
  act s fun s =>
    let k := s.ctx x.val
    let t := hTCOMMIT k.hdr
    if k.busy && decide (x.val < 4) && (k.phase = .frames || decide (k.phase = .codeWait)) && decide (t ≠ 0) && decide (t < s.now + 10000) then
      s.loadFail x.val k.nextFrame { status := lsCOMMIT_MISSED }
    else s

/-! ### The wake program (R340 to R343) -/

/-- The wake program fails (R343): before RELEASE_SETRESET the load is aborted, after it the committed image stays. On the Rope,
ROPE_FAULT_N is pulled low (R352). -/
def State.wakeFail (s : State) (st : Nat) : State :=
  let x := s.ctx 4
  if x.released then
    let s := (s.freeHolds 4).loadClose 4 (lsWAKE_INCOMPLETE * 2 ^ 24) 0 x.tick
    let s := if x.path = .rope then s.ropeFault else s
    ({ s with loader := { s.loader with firstLoad := false } }.fullEnd true).bootNext x true
  else s.loadFail 4 (x.nextFrame - 1) { status := st }

/-- Whether a domain with a PLL pair, an island or a NoC quadrant, has a PLL to run on (R456, R466). -/
def State.pllLocked (s : State) (d : Nat) : Bool := !(sget false s.rel.pllBad (2 * d) && sget false s.rel.pllBad (2 * d + 1))

/-- Whether time-base distribution has locked in an island: within 10 µs of the start of its clock (R32). -/
def State.distLocked (s : State) (i : Nat) : Bool := decide (sget 0 s.sys.clockAt i + min 10000 (Config.distLock i) ≤ s.now)

/-- What WAIT_LOCK waits for (R340, R461): the islands of the covered clusters are released and their clocks and local time bases locked, and
the clocks of the NoC quadrants are. -/
def State.wakeLocked (s : State) : Bool :=
  (hTargets (s.ctx 4).hdr).all (fun c => s.openCluster c && s.pllLocked (islandOf c) && s.distLocked (islandOf c))
    && (List.range 4).all (fun q => s.pllLocked (64 + q)) && !s.clocksStopped

/-- WAIT_LOCK (R340). -/
def execWaitLock (s : State) : Host.Outcome State Fault Refusal :=
  act s fun s => match s.wakeStep with
    | some (1, _) => if s.wakeLocked then s.wakeNext else s
    | _ => s

/-- ENABLE_WRITES (R340). -/
def execEnableWrites (s : State) : Host.Outcome State Fault Refusal :=
  act s fun s => match s.wakeStep with
    | some (2, _) => { s with loader := { s.loader with barrier := [] } }.wakeNext
    | _ => s

/-- RELEASE_SETRESET (R340): it sets T from the time at which the step began; given again at T or later, the step ends. -/
def execReleaseSetreset (s : State) : Host.Outcome State Fault Refusal :=
  act s fun s => match s.wakeStep with
    | some (3, _) =>
      let x := s.ctx 4
      if x.released then (if x.tick ≤ s.now then s.wakeNext else s)
      else
        let t := upTo 1000 (x.stepFrom + 10000)
        let s := forAll x.written (fun s c => s.updCl c (fun k => { k with commitAt := some t })) s
        s.setCtx 4 { x with released := true, tick := t, ltk := BitVec.ofNat 64 t }
    | _ => s

/-- RELEASE_OUTPUTS (R340). -/
def execReleaseOutputs (s : State) : Host.Outcome State Fault Refusal :=
  act s fun s => match s.wakeStep with
    | some (4, _) => { s with loader := { s.loader with pinsFree := true } }.wakeNext
    | _ => s

/-- DELAY (R340). -/
def execDelay (s : State) : Host.Outcome State Fault Refusal :=
  act s fun s => match s.wakeStep with
    | some (5, n) => if (s.ctx 4).stepFrom + 1000 * n ≤ s.now then s.wakeNext else s
    | _ => s

/-- Whether ROPE_FAULT_N reads low: a peer or the device itself pulls it. -/
def State.faultLow (s : State) : Bool := !s.loader.rope.faultl || s.loader.rope.faulto

/-- WAIT_DONE_LINE (R340, R343): the levels of the lines as others drive them, which the device's own drivers can hold low. A step that
sees ROPE_FAULT_N low fails; else it ends once ROPE_DONE_N reads high. -/
def execWaitDoneLine (lines : RopeLines) (s : State) : Host.Outcome State Fault Refusal :=
  act s fun s =>
    let s := s.setRope { s.loader.rope with donel := lines.done, faultl := lines.fault }
    match s.wakeStep with
    | some (6, _) => if s.faultLow then s.wakeFail lsPEER_FAULT else if lines.done && !s.loader.rope.doneo then s.wakeNext else s
    | _ => s

/-- WAKE_STEP_TIMEOUT (R343). -/
def execWakeStepTimeout (s : State) : Host.Outcome State Fault Refusal :=
  act s fun s =>
    let late := fun (n : Nat) => decide ((s.ctx 4).stepFrom + 1000 * n ≤ s.now)
    match s.wakeStep with
    | some (1, n) => if late n && !s.wakeLocked then s.wakeFail lsWAKE_TIMEOUT else s
    | some (6, n) => if s.faultLow then s.wakeFail lsPEER_FAULT else if n ≠ 0 && late n then s.wakeFail lsWAKE_TIMEOUT else s
    | _ => s

/-- ROPE_FAULT_LINE_LOW (R343). -/
def execRopeFaultLineLow (s : State) : Host.Outcome State Fault Refusal :=
  act s fun s =>
    let s := s.setRope { s.loader.rope with faultl := false }
    match s.wakeStep with
    | some (6, _) => s.wakeFail lsPEER_FAULT
    | _ => s

/-! ### The Rope (R344 to R348) -/

/-- Whether a Rope image is being taken: not yet judged, or loading in context 4. -/
def State.ropeAlive (s : State) : Bool :=
  let x := s.ctx 4
  let r := s.loader.rope
  (r.addressed.isNone && r.inimg)
    || (decide (r.addressed = some true) && r.old.isNone && x.busy && decide (x.path = .rope) && (x.phase = .header || decide (x.phase = .frames)))

/-- Whether the Rope's buffer holds all that is still to come of the image. -/
def State.ropeComplete (s : State) : Bool :=
  let r := s.loader.rope
  let x := s.ctx 4
  if r.addressed.isNone then
    let n := hdrNeed r.buf
    decide (256 ≤ r.buf.length) && hdrFixed r.buf && decide (n ≤ r.buf.length) && decide (hNFRAME r.buf ≤ framesIn (hNFRAME r.buf) (r.buf.drop n))
  else
    let n := hNFRAME x.hdr - x.nextFrame
    decide (n ≤ framesIn n r.buf)

/-- A Rope image ends early with a status (R348). -/
def State.ropeEnd (s : State) (st : Nat) : State :=
  let r := s.loader.rope
  let s :=
    if r.addressed.isNone then
      if s.ropeAddressed then ((s.ropeStatus st).ropeFault).setRope { (s.ropeStatus st).ropeFault.loader.rope with addressed := some true }
      else s.setRope { r with addressed := some false }
    else s.loadFail 4 (s.ctx 4).nextFrame { status := st }
  s.setRope { s.loader.rope with buf := [] }

/-- A block with a valid sync header: lock comes after 64 in a row, and a locked receiver takes the block (R344). -/
def State.ropeBlock (s : State) (f : State → State) : State :=
  let r := s.loader.rope
  if !r.listen then s
  else
    let s := s.setRope { r with recent := (true :: r.recent).take 64, good := min 64 (r.good + 1), lock := r.lock || decide (64 ≤ r.good + 1) }
    if r.lock then f s else s

/-- A header that is complete is judged before the image ends (R327, R346). -/
def State.ropeSettle (s : State) : State :=
  let b := s.loader.rope.buf
  if s.loader.rope.addressed.isNone && decide (256 ≤ b.length) && hdrFixed b && decide (hdrNeed b ≤ b.length) then s.ropeHeader (b.take (hdrNeed b))
  else s

/-- The frames of a complete image that context 4 still has to take stay for it when a next image begins. -/
def State.ropeLeft (s : State) : Option (List Byte) :=
  let r := s.loader.rope
  let x := s.ctx 4
  if r.old.isSome then r.old
  else if r.addressed = some true && x.busy && decide (x.path = .rope) && decide (x.phase = .frames) then some r.buf else none

/-- SOI (R344, R347, R348). -/
def execSoi (s : State) : Host.Outcome State Fault Refusal :=
  act s (·.ropeBlock fun s =>
    let s := (s.setRope { s.loader.rope with faulto := false, faultl := true }).ropeSettle
    let s := if s.ropeAlive && (s.loader.rope.inimg || !s.ropeComplete) then s.ropeEnd lsEARLY_END else s
    s.setRope { s.loader.rope with inimg := true, old := s.ropeLeft, buf := [], addressed := none, ended := false, lastBlock := s.now })

/-- EOI (R344, R346, R348). -/
def execEoi (s : State) : Host.Outcome State Fault Refusal :=
  act s (·.ropeBlock fun s =>
    if !s.loader.rope.inimg then s
    else
      let s := s.ropeSettle
      let s := if s.ropeAlive && !s.ropeComplete then s.ropeEnd lsEARLY_END else s
      let x := s.ctx 4
      let r := s.loader.rope
      let mine := x.busy && decide (x.path = .rope)
      let low := if mine then decide (x.phase ≠ .wake) else if r.addressed.isNone then r.doneo else !s.loader.fullCommitted
      s.setRope { r with inimg := false, ended := true, doneo := low })

/-- IDLE (R344): a control block without image data. -/
def execIdle (s : State) : Host.Outcome State Fault Refusal := act s (·.ropeBlock id)

/-- ROPE_DATA_BLOCK (R344): 8 image bytes. -/
def execRopeDataBlock (bytes : List Byte) (s : State) : Host.Outcome State Fault Refusal :=
  act s fun s =>
    if bytes.length ≠ 8 then s
    else s.ropeBlock fun s =>
      let r := s.loader.rope
      if r.inimg then s.setRope { r with lastBlock := s.now, buf := if s.ropeAlive then r.buf ++ bytes else r.buf } else s

/-- A count in CFG_RERR. -/
def State.ropeErr (s : State) : State := s.setRope { s.loader.rope with rerr := satAdd s.loader.rope.rerr 1 0xFFFF }

/-- ROPE_UNKNOWN_CONTROL (R344): a type that the table does not define is ignored and counted. -/
def execRopeUnknownControl (type : Byte) (s : State) : Host.Outcome State Fault Refusal :=
  act s (·.ropeBlock fun s => if type = 0x1E || type == 0x78 || type == 0x87 then s else s.ropeErr)

/-- ROPE_INVALID_SYNC_HEADER (R344): counted; the loss of block lock inside an image ends it at once (R348). -/
def execRopeInvalidSyncHeader (s : State) : Host.Outcome State Fault Refusal :=
  act s fun s =>
    let r := s.loader.rope
    if !r.listen then s
    else
      let recent := (false :: r.recent).take 64
      let lost := decide (16 ≤ (recent.filter (fun v => !v)).length)
      let s := (s.setRope { r with recent := recent, good := 0, lock := r.lock && !lost }).ropeErr
      if r.lock && lost && r.inimg && s.ropeAlive then s.ropeEnd lsROPE_LOCK else s

/-- ROPE_LOCK_LOSS (R348): the receiver has lost lock inside an image, which ends. -/
def execRopeLockLoss (s : State) : Host.Outcome State Fault Refusal :=
  act s fun s => if s.loader.rope.inimg && !s.loader.rope.lock && s.ropeAlive then s.ropeEnd lsROPE_LOCK else s

/-- ROPE_IDLE_TIMEOUT (R348): an addressed image, as far as it has been judged, ends early. -/
def execRopeIdleTimeout (s : State) : Host.Outcome State Fault Refusal :=
  act s fun s =>
    let r := s.loader.rope
    if r.inimg && s.ropeAlive && decide (r.lastBlock + 1000000 * r.rto ≤ s.now) && (r.addressed = some true || s.ropeAddressed) then
      s.ropeEnd lsEARLY_END
    else s

/-- CFG_LTKL_READ (R353): firmware only. -/
def execCfgLtklRead (who : InitId) (x : CtxId) (s : State) : Host.Outcome State Fault Refusal :=
  act s fun s =>
    if who.val = fwId then
      let (v, k) := (s.ctx x.val).readLtk
      (s.setCtx x.val k).emit (.regValue (some (BitVec.ofNat 64 v)))
    else s.emit (.regValue none)

end Sys2Proof.Machine
end

