-- ==== Sys2Proof/Machine/Pins.lean ====
section
/-! DEFINITION. GPIO banks, the console, the telemetry target and JTAG (R501 to R506). -/

namespace Sys2Proof.Machine

/-! ### GPIO (R501, R502, R506) -/

/-- Whether a bank's record is in force: after loading, and not in FAULT-SAFE (R506). -/
def State.bankActive (s : State) (b : Nat) : Bool :=
  (s.bank b).record.isSome && decide (7 ≤ s.sys.bring) && !s.pinsHeld && decide (s.sys.dstate ≠ .faultSafe)

/-- The four samples of a word, sample k in bits [32k + 31:32k] (R502). -/
def sampleWord (l : List Reg) : Word := BitVec.ofNat 128 ((l.zipIdx).foldl (fun a (v, k) => a + v.toNat * 2 ^ (32 * k)) 0)

/-- A capture event at a bank with samples so far: the bank, its full word entering the store of 16 words, of which `held` wait at the NoC, or
being discarded. -/
def Bank.capture (x : Bank) (held : Nat) (pins : BitVec 24) : Bank :=
  let inq := match x.record with
    | some r => recN r 0x14 2
    | none => 0xFFFF
  let x := { x with pins := pins }
  if inq = 0xFFFF then x
  else
    let l := x.partialSamples ++ [BitVec.ofNat 32 (x.scount.toNat * 2 ^ 24 + pins.toNat)]
    let x := { x with scount := x.scount + 1 }
    if l.length < 4 then { x with partialSamples := l }
    else if 16 ≤ x.wait.length + held then { x with partialSamples := [], drop := satAdd x.drop 1 0xFFFF }
    else { x with partialSamples := [], wait := x.wait ++ [sampleWord l] }

/-- The words that wait at a bank leave for INQ while the NoC takes them. -/
def State.bankSend (s : State) (b : Nat) : State :=
  let x := s.bank b
  let i := 0x228 + b
  match x.record with
  | none => s
  | some r =>
    if !s.maySendReq i then s
    else
      let q := recN r 0x14 2
      let e : End := .array (s.redir (q / 128)) 0
      let prio := if recN r 0 1 = 0xFF then 3 else s.lowerTo i e 3 (some (recN r 0 1))
      x.wait.foldl (fun s w => s.sendReq e
        { op := .pushp, who := i, prio := prio, addr := q, prod := prodGPIO, words := [(w, 0)] }) (s.setBank b { x with wait := [] })

/-- Words of a bank that still wait for the NoC to take them (R502). -/
def State.bankHeld (s : State) (b : Nat) : Nat :=
  (s.noc.packets.filter (fun p => decide (p.who = 0x228 + b) && decide (p.op = .pushp) && decide (p.spot = .source))).length

/-- CAPTURE_EVENT (R502). -/
def execCaptureEvent (b : BankId) (pins : BitVec 24) (s : State) : Host.Outcome State Fault Refusal :=
  act s fun s => if s.bankActive b.val then (s.setBank b.val ((s.bank b.val).capture (s.bankHeld b.val) pins)).bankSend b.val else s

/-- A lane of an output word: the values of the output pins and the bank cycles that they last (R502). -/
def laneOf (w : Word) (dir l : Nat) : BitVec 24 × Nat := (BitVec.ofNat 24 (fld w.toNat (32 * l) 24 &&& dir), fld w.toNat (32 * l + 24) 8 + 1)

/-- The oldest output word drives the pins, lane 0 first, and its credit returns (R154, R502). -/
def State.bankDrive (s : State) (b : Nat) : State :=
  let x := s.bank b
  match x.outbuf, x.record with
  | w :: rest, some r =>
    let dir := recN r 8 3
    let s := (List.range 4).foldl (fun s l => s.emit (.pins b (laneOf w.w dir l).1 (laneOf w.w dir l).2)) s
    let last := (laneOf w.w dir 3).1
    (s.setBank b { x with outbuf := rest, driven := last, pins := (x.pins &&& ~~~(BitVec.ofNat 24 dir)) ||| last }).sendReq (.array w.cl 0)
      { op := .crd, who := 0x228 + b, prio := 3, chan := w.ch, addr := s.origin w.cl, count := 1 }
  | _, _ => s

/-- GPIO_OUTPUT_WORD (R502). -/
def execGpioOutputWord (b : BankId) (s : State) : Host.Outcome State Fault Refusal :=
  act s fun s => if s.bankActive b.val then s.bankDrive b.val else s

/-! ### States of the pins (R350, R500, R506) -/

/-- What a GPIO pin shows the board: high impedance, with a weak pull or none, or a driven level. -/
inductive Pad where
  | float | pullDown | pullUp | driven (high : Bool)
  deriving DecidableEq, Repr

/-- A pin under a HOLD setting (R501), with the value that HOLD 1 keeps. -/
def holdPad (hold : Nat) (last : Bool) : Pad :=
  if hold = 1 then .driven last else if hold = 2 then .driven false else if hold = 3 then .driven true else .pullDown

/-- A pin under the record of its bank in force (R501, R502). -/
def Bank.pad (x : Bank) (r : BitVec 256) (i : Nat) : Pad :=
  if bit (recN r 8 3) i then .driven (bit x.driven.toNat i)
  else if bit (recN r 0xC 3) i then .pullUp
  else if bit (recN r 0x10 3) i then .pullDown
  else .float

/-- The state of pin i of a bank (R506, R516): high impedance in OFF, the record in service, its HOLD in FAULT-SAFE, the HOLD of flash until loaded. The JTAG
instructions HIGHZ, EXTEST and CLAMP come first (R504). -/
def State.pad (s : State) (b i : Nat) : Pad :=
  let x := s.bank b
  if s.sys.off || decide (s.ext.jtag = .highz) then .float
  else if s.ext.jtag = .extest || s.ext.jtag = .clamp then .driven ((s.ext.boundary[Config.gpioCell (24 * b + i)]?).getD false)
  else if s.sys.held.isSome || decide (s.sys.bring < 7) || s.pinsHeld then holdPad (x.flashHold.getD 0) false
  else match x.record with
    | none => .pullDown
    | some r => if s.sys.dstate = .faultSafe then holdPad (recN r 3 1) (bit x.driven.toNat i) else x.pad r i

/-- Whether any link of an Ethernet port is up. -/
def State.ethLinked (s : State) (n : Nat) : Bool := (List.range 4).any (fun k => s.ethUp n k)

/-- The port whose recovered clock SYNCE_CLK carries, none while the output is low (R500, R506): output 0 the PTP source, output 1 the
lowest other port whose link is up. -/
def State.synce (s : State) (second : Bool) : Option Nat :=
  match s.ext.ptp.src with
  | none => none
  | some p =>
    if !s.ethActive then none
    else if second then (List.range 8).find? (fun n => decide (n ≠ p) && s.ethLinked n)
    else if s.ethLinked p then some p else none

/-! ### The owner console (R504) -/

/-- CONSOLE_STATUS: what DEV_STATUS returns. -/
def execConsoleStatus (s : State) : Host.Outcome State Fault Refusal := act s fun s => s.emit (.console (toLe 16 s.devStatus))

/-- CONSOLE_LOG: an event-log entry, nothing where there is none. -/
def execConsoleLog (n : Nat) (s : State) : Host.Outcome State Fault Refusal :=
  act s fun s => s.emit (.console (((s.rel.log[n]?).map LogEntry.bytes).getD []))

/-- CONSOLE_VER: the firmware versions of the two slots. -/
def execConsoleVer (s : State) : Host.Outcome State Fault Refusal :=
  act s fun s => s.emit (.console (Config.fwVersion (sget 0 s.rel.fwVer 0) ++ Config.fwVersion (sget 0 s.rel.fwVer 1)))

/-! ### The telemetry target (R504) -/

/-- A byte of the telemetry target. -/
def State.telemetry (s : State) (ptr : Nat) : Byte :=
  if ptr = 0 then 0xB0
  else if ptr = 1 then BitVec.ofNat 8 s.sys.dstate.code
  else if ptr = 2 then BitVec.ofNat 8 s.sys.mode
  else if ptr = 3 then Config.junctionTemp s.entropy
  else if ptr = 4 then BitVec.ofNat 8 (Config.packagePower s.entropy).toNat
  else if ptr = 5 then BitVec.ofNat 8 ((Config.packagePower s.entropy).toNat / 256)
  else if ptr = 6 then BitVec.ofNat 8 s.rel.fails
  else 0xFF

/-- TELEMETRY_READ. -/
def execTelemetryRead (ptr : Byte) (s : State) : Host.Outcome State Fault Refusal :=
  act s fun s =>
    let t := s.emit (.telemetry (s.telemetry ptr.toNat))
    if 3 ≤ ptr.toNat && decide (ptr.toNat ≤ 5) then { t with entropy := t.entropy + 1 } else t

/-- TELEMETRY_WRITE: written data bytes are NACKed. -/
def execTelemetryWrite (data : List Byte) (s : State) : Host.Outcome State Fault Refusal :=
  act s fun s => if data.isEmpty then s else s.emit .nack

/-- ENTDAA: a dynamic address, once. -/
def execEntdaa (addr : BitVec 7) (s : State) : Host.Outcome State Fault Refusal :=
  act s fun s => if s.ext.i3c then s else { s with ext := { s.ext with i3c := true, tlmAddr := addr } }

/-! ### JTAG (R504) -/

def State.setJtag (s : State) (j : Jtag) : State := { s with ext := { s.ext with jtag := j } }

/-- BYPASS. -/
def execBypass (s : State) : Host.Outcome State Fault Refusal := act s (·.setJtag .bypass)

/-- IDCODE: the device's code is shifted out. -/
def execIdcode (s : State) : Host.Outcome State Fault Refusal := act s fun s => (s.setJtag .idcode).emit (.jtag 0x14096A1D)

/-- SAMPLE_PRELOAD: the cells' samples are shifted out and their values loaded. -/
def execSamplePreload (cells : List Bool) (s : State) : Host.Outcome State Fault Refusal :=
  act s fun s =>
    let t := s.setJtag .sample
    ({ t with ext := { t.ext with boundary := cells }, entropy := t.entropy + 1 } : State).emit
      (.jtag (bitsOf ((List.range cells.length).map (fun k => Config.boundarySample (cells.length * s.entropy + k)))))

/-- EXTEST: the pins are driven from the boundary cells. -/
def execExtest (s : State) : Host.Outcome State Fault Refusal := act s (·.setJtag .extest)

/-- HIGHZ: the outputs are at high impedance. -/
def execHighz (s : State) : Host.Outcome State Fault Refusal := act s (·.setJtag .highz)

/-- CLAMP: the outputs are held from the boundary cells. -/
def execClamp (s : State) : Host.Outcome State Fault Refusal := act s (·.setJtag .clamp)

/-- JTAG_DEBUG_INSTRUCTION: BYPASS outside DEBUG. In DEBUG it acts, and JTAG is a way by which the owner receives the scheduler trace
(R237, R504; log 76). -/
def execJtagDebugInstruction (ir : Nat) (s : State) : Host.Outcome State Fault Refusal :=
  act s fun s => if s.sec.lcs ≠ .debug then s.setJtag .bypass else (s.setJtag (.debug ir)).emit (.trace s.belay.trace)

end Sys2Proof.Machine
end

