-- ==== Sys2Proof/Machine/SeqInt.lean ====
section
/-! DEFINITION. Integer, branch, window, event and context instructions of the sequencer (R177, R181 to R189, R202 to R204). -/

namespace Sys2Proof.Machine

/-- Whether the register of a second operand exists. -/
def srcOk : Src → Bool
  | .reg r => codeOk r
  | .imm _ => true

/-- The value of a second operand: a register, or a sign-extended immediate (R177). -/
def Seq.src (q : Seq) : Src → Reg
  | .reg r => q.reg r
  | .imm i => i.signExtend 32

/-- An integer instruction (R177): a register code above 23 raises the illegal-instruction trap. -/
def State.intOp (s : State) (c : Nat) (rd ra : RegCode) (b : Src) (f : Reg → Reg → Reg) : State :=
  if codeOk rd && codeOk ra && srcOk b then
    s.updSeq c (fun q => (q.setReg rd (f (q.reg ra) (q.src b))).next)
  else s.trap c 4

/-- QUO (R177): the quotient toward zero, the results for divisor 0 and for the overflow. -/
def quo32 (a b : Reg) : Reg :=
  if b = 0 then (if 0 ≤ a.toInt then 0x7FFFFFFF else 0x80000000)
  else if a = 0x80000000 && b == 0xFFFFFFFF then 0x7FFFFFFF
  else BitVec.ofInt 32 (a.toInt.tdiv b.toInt)

/-- REM (R177): the remainder with the sign of the dividend. -/
def rem32 (a b : Reg) : Reg :=
  if b = 0 then 0 else if a = 0x80000000 && b == 0xFFFFFFFF then 0 else BitVec.ofInt 32 (a.toInt.tmod b.toInt)

/-- A branch on a register (R177). -/
def State.branch (s : State) (c : Nat) (ra : RegCode) (off : BitVec 16) (t : Reg → Bool) : State :=
  if codeOk ra then
    s.updSeq c (fun q => if t (q.reg ra) then { q with pc := q.pc + 4 + 4 * off.signExtend 32 } else q.next)
  else s.trap c 4

/-- ADD (R177). -/
def execAdd (c : ClId) (rd ra : RegCode) (b : Src) (s : State) : Host.Outcome State Fault Refusal :=
  seqAct c s (·.intOp c.val rd ra b fun a b => a + b)

/-- SUB (R177). -/
def execSub (c : ClId) (rd ra : RegCode) (b : Src) (s : State) : Host.Outcome State Fault Refusal :=
  seqAct c s (·.intOp c.val rd ra b fun a b => a - b)

/-- AND (R177). -/
def execAnd (c : ClId) (rd ra : RegCode) (b : Src) (s : State) : Host.Outcome State Fault Refusal :=
  seqAct c s (·.intOp c.val rd ra b fun a b => a &&& b)

/-- OR (R177). -/
def execOr (c : ClId) (rd ra : RegCode) (b : Src) (s : State) : Host.Outcome State Fault Refusal :=
  seqAct c s (·.intOp c.val rd ra b fun a b => a ||| b)

/-- XOR (R177). -/
def execXor (c : ClId) (rd ra : RegCode) (b : Src) (s : State) : Host.Outcome State Fault Refusal :=
  seqAct c s (·.intOp c.val rd ra b fun a b => a ^^^ b)

/-- ANDN (R177). -/
def execAndn (c : ClId) (rd ra : RegCode) (b : Src) (s : State) : Host.Outcome State Fault Refusal :=
  seqAct c s (·.intOp c.val rd ra b fun a b => a &&& ~~~b)

/-- SHL (R177). -/
def execShl (c : ClId) (rd ra : RegCode) (b : Src) (s : State) : Host.Outcome State Fault Refusal :=
  seqAct c s (·.intOp c.val rd ra b fun a b => a <<< (b.toNat % 32))

/-- SHR (R177). -/
def execShr (c : ClId) (rd ra : RegCode) (b : Src) (s : State) : Host.Outcome State Fault Refusal :=
  seqAct c s (·.intOp c.val rd ra b fun a b => a >>> (b.toNat % 32))

/-- SHRA (R177). -/
def execShra (c : ClId) (rd ra : RegCode) (b : Src) (s : State) : Host.Outcome State Fault Refusal :=
  seqAct c s (·.intOp c.val rd ra b fun a b => a.sshiftRight (b.toNat % 32))

/-- MINS (R177). -/
def execMins (c : ClId) (rd ra : RegCode) (b : Src) (s : State) : Host.Outcome State Fault Refusal :=
  seqAct c s (·.intOp c.val rd ra b fun a b => if a.toInt ≤ b.toInt then a else b)

/-- MAXS (R177). -/
def execMaxs (c : ClId) (rd ra : RegCode) (b : Src) (s : State) : Host.Outcome State Fault Refusal :=
  seqAct c s (·.intOp c.val rd ra b fun a b => if a.toInt ≤ b.toInt then b else a)

/-- MINU (R177). -/
def execMinu (c : ClId) (rd ra : RegCode) (b : Src) (s : State) : Host.Outcome State Fault Refusal :=
  seqAct c s (·.intOp c.val rd ra b fun a b => if a.toNat ≤ b.toNat then a else b)

/-- MAXU (R177). -/
def execMaxu (c : ClId) (rd ra : RegCode) (b : Src) (s : State) : Host.Outcome State Fault Refusal :=
  seqAct c s (·.intOp c.val rd ra b fun a b => if a.toNat ≤ b.toNat then b else a)

/-- SETLT (R177). -/
def execSetlt (c : ClId) (rd ra : RegCode) (b : Src) (s : State) : Host.Outcome State Fault Refusal :=
  seqAct c s (·.intOp c.val rd ra b fun a b => if a.toInt < b.toInt then 1 else 0)

/-- SETLTU (R177). -/
def execSetltu (c : ClId) (rd ra : RegCode) (b : Src) (s : State) : Host.Outcome State Fault Refusal :=
  seqAct c s (·.intOp c.val rd ra b fun a b => if a.toNat < b.toNat then 1 else 0)

/-- MUL (R177). -/
def execMul (c : ClId) (rd ra : RegCode) (b : Src) (s : State) : Host.Outcome State Fault Refusal :=
  seqAct c s (·.intOp c.val rd ra b fun a b => a * b)

/-- MULHI (R177). -/
def execMulhi (c : ClId) (rd ra : RegCode) (b : Src) (s : State) : Host.Outcome State Fault Refusal :=
  seqAct c s (·.intOp c.val rd ra b fun a b => BitVec.ofInt 32 (a.toInt * b.toInt / 4294967296))

/-- QUO (R177). -/
def execQuo (c : ClId) (rd ra : RegCode) (b : Src) (s : State) : Host.Outcome State Fault Refusal :=
  seqAct c s (·.intOp c.val rd ra b fun a b => quo32 a b)

/-- REM (R177). -/
def execRem (c : ClId) (rd ra : RegCode) (b : Src) (s : State) : Host.Outcome State Fault Refusal :=
  seqAct c s (·.intOp c.val rd ra b fun a b => rem32 a b)

/-- BZ (R177). -/
def execBz (c : ClId) (ra : RegCode) (off : BitVec 16) (s : State) : Host.Outcome State Fault Refusal :=
  seqAct c s (·.branch c.val ra off fun v => decide (v = 0))

/-- BNZ (R177). -/
def execBnz (c : ClId) (ra : RegCode) (off : BitVec 16) (s : State) : Host.Outcome State Fault Refusal :=
  seqAct c s (·.branch c.val ra off fun v => decide (v ≠ 0))

/-- BLZ (R177). -/
def execBlz (c : ClId) (ra : RegCode) (off : BitVec 16) (s : State) : Host.Outcome State Fault Refusal :=
  seqAct c s (·.branch c.val ra off fun v => decide (v.toInt < 0))

/-- BGEZ (R177). -/
def execBgez (c : ClId) (ra : RegCode) (off : BitVec 16) (s : State) : Host.Outcome State Fault Refusal :=
  seqAct c s (·.branch c.val ra off fun v => decide (0 ≤ v.toInt))

/-- BGZ (R177). -/
def execBgz (c : ClId) (ra : RegCode) (off : BitVec 16) (s : State) : Host.Outcome State Fault Refusal :=
  seqAct c s (·.branch c.val ra off fun v => decide (0 < v.toInt))

/-- BLEZ (R177). -/
def execBlez (c : ClId) (ra : RegCode) (off : BitVec 16) (s : State) : Host.Outcome State Fault Refusal :=
  seqAct c s (·.branch c.val ra off fun v => decide (v.toInt ≤ 0))

/-- MOVH (R177): the immediate in the upper half, the lower half 0. -/
def execMovh (c : ClId) (rd : RegCode) (imm : BitVec 16) (s : State) : Host.Outcome State Fault Refusal :=
  seqAct c s fun s => if codeOk rd then s.updSeq c.val (fun q => (q.setReg rd (imm ++ (0 : BitVec 16))).next) else s.trap c.val 4

/-- JL (R177). -/
def execJl (c : ClId) (rd : RegCode) (off : BitVec 21) (s : State) : Host.Outcome State Fault Refusal :=
  seqAct c s fun s => if codeOk rd then
      s.updSeq c.val (fun q => { (q.setReg rd (q.pc + 4)) with pc := q.pc + 4 + 4 * off.signExtend 32 })
    else s.trap c.val 4

/-- JR (R177). -/
def execJr (c : ClId) (rd ra : RegCode) (s : State) : Host.Outcome State Fault Refusal :=
  seqAct c s fun s => if codeOk rd && codeOk ra then
      s.updSeq c.val (fun q => { (q.setReg rd (q.pc + 4)) with pc := q.reg ra })
    else s.trap c.val 4

/-! ### Windows and task ends -/

/-- ENTER (R181). -/
def State.enter (s : State) (c : Nat) : State :=
  let q := s.seq c
  if q.biv then s.windowFault c
  else match q.freeWin, q.top.bind (fun i => (q.slot i).map (fun sl => (i, sl))) with
    | some w, some (i, sl) =>
      let cur := q.curWin
      let args := (List.range 4).map (fun n => q.winReg cur (12 + n))
      s.updSeq c (fun q => (((q.openWin w i (.win cur)).initFrame w args).setSlot i (some { sl with frame := some w })).next)
    | _, _ => s.trap c 1

def execEnter (c : ClId) (s : State) : Host.Outcome State Fault Refusal := seqAct c s (·.enter c.val)

/-- LEAVE (R182). -/
def State.leave (s : State) (c : Nat) : State :=
  let q := s.seq c
  if q.biv then s.windowFault c
  else match q.liveWin q.curWin, q.top, q.topSlot with
    | some ⟨_, .win v, _⟩, some i, some sl =>
      let cur := q.curWin
      s.updSeq c (fun q =>
        let q := (List.range 4).foldl (fun q n => q.setWinReg v (12 + n) (q.winReg cur n)) q
        ((q.setWin cur none).setSlot i (some { sl with frame := some v })).next)
    | some ⟨_, .spilled, _⟩, _, _ => s.trap c 2
    | _, _, _ => s.endTask c 0x00 0

def execLeave (c : ClId) (s : State) : Host.Outcome State Fault Refusal := seqAct c s (·.leave c.val)

/-- DONE (R196). -/
def execDone (c : ClId) (s : State) : Host.Outcome State Fault Refusal := seqAct c s (·.endTask c.val 0x00 0)

/-- FAIL (R196): the code travels with the completion. -/
def execFail (c : ClId) (code : Byte) (s : State) : Host.Outcome State Fault Refusal :=
  seqAct c s (·.endTask c.val 0x01 code.toNat)

/-- FAILR (R196, R204): in the bivouac window the register gives the status, elsewhere the code of FAIL. -/
def State.failr (s : State) (c : Nat) (ra : RegCode) : State :=
  if codeOk ra then
    let q := s.seq c
    let v := (q.reg ra).toNat % 256
    if q.biv then s.endTask c v 0 else s.endTask c 0x01 v
  else s.trap c 4

def execFailr (c : ClId) (ra : RegCode) (s : State) : Host.Outcome State Fault Refusal := seqAct c s (·.failr c.val ra)

/-- RETT (R187). -/
def State.rett (s : State) (c : Nat) : State :=
  let q := s.seq c
  if !q.biv then s.trap c 4
  else s.updSeq c (·.resumeTop (if q.trapSlot.isSome then some q.tpc else none))

def execRett (c : ClId) (s : State) : Host.Outcome State Fault Refusal := seqAct c s (·.rett c.val)

/-- SPILLW (R185, R191). -/
def State.spillw (s : State) (c : Nat) (ra : RegCode) : State :=
  let q := s.seq c
  if !q.biv || !codeOk ra then s.trap c 4
  else
    let w := (q.reg ra).toNat % 16
    match (if w < 11 then q.liveWin w else none) with
    | none => s.windowFault c
    | some x => match q.slot x.owner with
      | none => s.windowFault c
      | some sl =>
        if sl.lim < sl.sptr + 64 then (s.endSlot c x.owner 0x09 0).updSeq c Seq.next
        else s.updSeq c (fun q =>
          let q := (List.range 16).foldl (fun q i => q.dmWrite (sl.sptr + 4 * i) 4 (q.winReg w i).toNat) q
          let q := q.setWin w none
          let q := (List.range 11).foldl (fun q v => match q.liveWin v with
            | some y => if y.owner = x.owner && y.link == .win w then q.setWin v (some { y with link := .spilled }) else q
            | none => q) q
          (q.setSlot x.owner (some { sl with sptr := sl.sptr + 64, frame := if sl.frame = some w then none else sl.frame })).next)

def execSpillw (c : ClId) (ra : RegCode) (s : State) : Host.Outcome State Fault Refusal := seqAct c s (·.spillw c.val ra)

/-- FILLW (R186). With no spilled frame it loads none (log 23). -/
def State.fillw (s : State) (c : Nat) (ra : RegCode) : State :=
  let q := s.seq c
  if !q.biv || !codeOk ra then s.trap c 4
  else match q.trapSlot.bind (fun i => (q.slot i).map (fun sl => (i, sl))) with
    | none => s.updSeq c Seq.next
    | some (i, sl) =>
      let w := (q.reg ra).toNat % 16
      if 11 ≤ w || (q.liveWin w).isSome then s.windowFault c
      else if sl.sptr ≤ sl.base + 128 then s.updSeq c Seq.next
      else s.updSeq c (fun q =>
        let a := sl.sptr - 64
        let q := (List.range 16).foldl (fun q n => q.setWinReg w n (BitVec.ofNat 32 (q.dmRead (a + 4 * n) 4))) q
        let q := q.openWin w i (if a = sl.base + 128 then .root else .spilled)
        let q := if q.cause = 2 then
            (match q.liveWin q.twin.toNat with
              | some y => q.setWin q.twin.toNat (some { y with link := .win w })
              | none => q)
          else q
        (q.setSlot i (some { sl with sptr := a, frame := if q.cause = 3 then some w else sl.frame })).next)

def execFillw (c : ClId) (ra : RegCode) (s : State) : Host.Outcome State Fault Refusal := seqAct c s (·.fillw c.val ra)

/-- RDC (R204, R205). -/
def execRdc (c : ClId) (rd : RegCode) (idx : Byte) (s : State) : Host.Outcome State Fault Refusal :=
  seqAct c s fun s => if codeOk rd then
      s.updSeq c.val (fun q => (q.setReg rd (BitVec.ofNat 32 (q.ctl idx.toNat))).next)
    else s.trap c.val 4

/-! ### Events and the context program -/

/-- WAITE (R198, R202): goes on when an event of the mask is pending, and waits otherwise; a waiting WAITE executes again. -/
def execWaite (c : ClId) (mask : BitVec 9) (s : State) : Host.Outcome State Fault Refusal :=
  act s fun s =>
    let s' := s.updSeq c.val (fun q => { q with waiting := false })
    if s'.seqReady c.val then
      s.updSeq c.val (fun q => if q.evp &&& mask ≠ 0 then { q with waiting := false }.next else { q with waiting := true })
    else s

/-- CLRE (R202). -/
def execClre (c : ClId) (mask : BitVec 9) (s : State) : Host.Outcome State Fault Refusal :=
  seqAct c s (·.updSeq c.val (fun q => { q with evp := q.evp &&& ~~~mask }.next))

/-- CSTART (R203): a CTX_RUN write with START. -/
def execCstart (c : ClId) (entry : BitVec 7) (s : State) : Host.Outcome State Fault Refusal :=
  seqAct c s fun s => (s.updCl c.val (·.ctxRun true false entry.toNat)).updSeq c.val Seq.next

/-- CPARK (R203): a CTX_RUN write with PARK. -/
def execCpark (c : ClId) (s : State) : Host.Outcome State Fault Refusal :=
  seqAct c s fun s => (s.updCl c.val (·.ctxRun false true 0)).updSeq c.val Seq.next

/-- CSTAT (R203): reads CTX_STAT. -/
def execCstat (c : ClId) (rd : RegCode) (s : State) : Host.Outcome State Fault Refusal :=
  seqAct c s fun s => if codeOk rd then
      s.updSeq c.val (fun q => (q.setReg rd (BitVec.ofNat 32 (s.cl c.val).ctxStat)).next)
    else s.trap c.val 4

/-- EVENT_LINE (R201): a raised queue-notice line reaches the sequencer and sets its event bit. -/
def execEventLine (c : ClId) (line : Fin 8) (s : State) : Host.Outcome State Fault Refusal :=
  act s fun s => if (s.seq c.val).lines.contains line.val then
      s.updSeq c.val (fun q => { q with lines := q.lines.erase line.val, evp := q.evp ||| BitVec.ofNat 9 (2 ^ line.val) })
    else s

/-- TASK_START_TAKEN (R193, R195): an idle sequencer takes a start. -/
def execTaskStartTaken (c : ClId) (s : State) : Host.Outcome State Fault Refusal :=
  act s fun s => if s.mayTake c.val && (s.seq c.val).nest.isEmpty then s.takeStart c.val else s

/-- PREEMPTION_TAKEN (R193): a sequencer with a resident task takes a start above it. -/
def execPreemptionTaken (c : ClId) (s : State) : Host.Outcome State Fault Refusal :=
  act s fun s => if s.mayTake c.val && !(s.seq c.val).nest.isEmpty then s.takeStart c.val else s

/-- ILLEGAL_INSTRUCTION (R172, R176, R183): an undefined opcode issues, or the fetch address is not in instruction memory;
a fetch address that is not a multiple of 4 raises the alignment trap. -/
def execIllegalInstruction (c : ClId) (k : IllegalKind) (s : State) : Host.Outcome State Fault Refusal :=
  act s fun s =>
    let q := s.seq c.val
    let runs := s.seqClocked c.val && (q.biv || !q.nest.isEmpty) && !q.waiting
    match k with
    | .fetch a =>
      if runs && decide (q.pc = a) && !q.fetchOk then s.trap c.val (if a.toNat % 4 ≠ 0 then 6 else 4) else s
    | _ => if runs && q.fetchOk then s.trap c.val 4 else s

end Sys2Proof.Machine
end

