-- ==== Sys2Proof/Machine/SeqFp.lean ====
section
/-! DEFINITION. Floating-point instructions of the sequencer (R178, R199, R534), but FPLD and FPST. -/

namespace Sys2Proof.Machine

/-- Whether a code names an f register (R534). -/
def fcodeOk (c : RegCode) : Bool := decide (c.toNat < 16)

/-- Format of a precision (R534): 0 binary64, 1 binary32. -/
def fpFmt (p : Bool) : FFmt := if p then fp32 else fp64

/-- The bits of an f register in a precision (R178). -/
def Seq.fbits (q : Seq) (p : Bool) (c : RegCode) : Nat :=
  let v := (sget 0 q.f c.toNat).toNat
  if p then v % 2 ^ 32 else v

def Seq.fval (q : Seq) (p : Bool) (c : RegCode) : FVal := fdecode (fpFmt p) false (q.fbits p c)

/-- Writes an f register: a binary32 value with bits [63:32] at 0 (R178). -/
def Seq.setF (q : Seq) (c : RegCode) (v : Nat) : Seq := { q with f := sput 0 q.f c.toNat (BitVec.ofNat 64 v) }

/-- A floating-point instruction: an undefined code or function traps; else the swap of R199, then the effect. -/
def State.fpOp (s : State) (c : Nat) (ok : Bool) (f : Seq → Seq) : State :=
  if ok then s.updSeq c (fun q => (f q.fpSwap).next) else s.trap c 4

/-- A two-operand instruction with an f result. -/
def State.fp2 (s : State) (c : Nat) (d a b : RegCode) (p : Bool) (f : FFmt → FVal → FVal → Nat) : State :=
  s.fpOp c (fcodeOk d && fcodeOk a && fcodeOk b) (fun q => q.setF d (f (fpFmt p) (q.fval p a) (q.fval p b)))

/-- FPADD (R534). -/
def execFpadd (c : ClId) (d a b : RegCode) (p : Bool) (s : State) : Host.Outcome State Fault Refusal :=
  seqAct c s (·.fp2 c.val d a b p fun f x y => (fadd f false false x y).1)

/-- FPSUB (R534). -/
def execFpsub (c : ClId) (d a b : RegCode) (p : Bool) (s : State) : Host.Outcome State Fault Refusal :=
  seqAct c s (·.fp2 c.val d a b p fun f x y => (fadd f false false x y.neg).1)

/-- FPMUL (R534). -/
def execFpmul (c : ClId) (d a b : RegCode) (p : Bool) (s : State) : Host.Outcome State Fault Refusal :=
  seqAct c s (·.fp2 c.val d a b p fun f x y => (fmul f false false x y).1)

/-- FPDIV (R534). -/
def execFpdiv (c : ClId) (d a b : RegCode) (p : Bool) (s : State) : Host.Outcome State Fault Refusal :=
  seqAct c s (·.fp2 c.val d a b p fun f x y => (fdiv f x y).1)

/-- FPFMA (R534): rounded once. -/
def execFpfma (c : ClId) (d a b x : RegCode) (p : Bool) (s : State) : Host.Outcome State Fault Refusal :=
  seqAct c s fun s => s.fpOp c.val (fcodeOk d && fcodeOk a && fcodeOk b && fcodeOk x)
    (fun q => q.setF d (ffma (fpFmt p) false false (q.fval p a) (q.fval p b) (q.fval p x)).1)

/-- The lesser or greater of two operands (R534): -0 counts as less than +0, a NaN gives way to the other operand. -/
def fpPick (f : FFmt) (greater : Bool) (x y : FVal) (bx bY : Nat) : Nat :=
  if x.isNan then (if y.isNan then f.qnan else bY)
  else if y.isNan then bx
  else
    let o := fcompare x y
    let less := decide (o < 0) || (decide (o = 0) && bit bx (f.ebits + f.mbits))
    if less != greater then bx else bY

/-- FPMIN (R534). -/
def execFpmin (c : ClId) (d a b : RegCode) (p : Bool) (s : State) : Host.Outcome State Fault Refusal :=
  seqAct c s fun s => s.fpOp c.val (fcodeOk d && fcodeOk a && fcodeOk b)
    (fun q => q.setF d (fpPick (fpFmt p) false (q.fval p a) (q.fval p b) (q.fbits p a) (q.fbits p b)))

/-- FPMAX (R534). -/
def execFpmax (c : ClId) (d a b : RegCode) (p : Bool) (s : State) : Host.Outcome State Fault Refusal :=
  seqAct c s fun s => s.fpOp c.val (fcodeOk d && fcodeOk a && fcodeOk b)
    (fun q => q.setF d (fpPick (fpFmt p) true (q.fval p a) (q.fval p b) (q.fbits p a) (q.fbits p b)))

/-- The relation that FN of FPCMP names (R534). -/
def fpRel (fn : Nat) (x y : FVal) : Bool :=
  let nan := x.isNan || y.isNan
  match fn with
  | 0 => !nan && decide (fcompare x y = 0)
  | 1 => !nan && decide (fcompare x y < 0)
  | 2 => !nan && decide (fcompare x y ≤ 0)
  | _ => nan

/-- FPCMP (R534). -/
def execFpcmp (c : ClId) (d a b fn : RegCode) (p : Bool) (s : State) : Host.Outcome State Fault Refusal :=
  seqAct c s fun s => s.fpOp c.val (codeOk d && fcodeOk a && fcodeOk b && decide (fn.toNat < 4))
    (fun q => q.setReg d (if fpRel fn.toNat (q.fval p a) (q.fval p b) then 1 else 0))

/-- A value converted to an integer of a range, a NaN to 0 (R534). -/
def fpToInt (trunc : Bool) (lo hi : Int) : FVal → Int
  | .nan _ => 0
  | .inf n => if n then lo else hi
  | .fin n m e => max lo (min hi (ftoInt trunc n m e).1)

/-- FPCVT (R534). -/
def State.fpcvt (s : State) (c : Nat) (d a fn : RegCode) (p : Bool) : State :=
  let f := fpFmt p
  let i32 := fun (trunc : Bool) (lo hi : Int) =>
    s.fpOp c (codeOk d && fcodeOk a) (fun q => q.setReg d (BitVec.ofInt 32 (fpToInt trunc lo hi (q.fval p a))))
  match fn.toNat with
  | 0 => s.fpOp c (fcodeOk d && fcodeOk a) (fun q => q.setF d (froundVal f false false (q.fval (!p) a)).1)
  | 1 => s.fpOp c (fcodeOk d && codeOk a) (fun q =>
      let v := (q.reg a).toInt
      q.setF d (fround f false false (decide (v < 0)) v.natAbs 0).1)
  | 2 => s.fpOp c (fcodeOk d && codeOk a) (fun q => q.setF d (fround f false false false (q.reg a).toNat 0).1)
  | 3 => i32 true (-2147483648) 2147483647
  | 4 => i32 true 0 4294967295
  | 5 => i32 false (-2147483648) 2147483647
  | _ => s.trap c 4

def execFpcvt (c : ClId) (d a fn : RegCode) (p : Bool) (s : State) : Host.Outcome State Fault Refusal :=
  seqAct c s (·.fpcvt c.val d a fn p)

/-- FPMOV (R534). Inverting or clearing the sign in binary32 writes bits [63:32] as 0 (R178; log 24). -/
def State.fpmov (s : State) (c : Nat) (d a fn : RegCode) (p : Bool) : State :=
  let sign := if p then 31 else 63
  match fn.toNat with
  | 0 => s.fpOp c (fcodeOk d && fcodeOk a) (fun q => q.setF d (sget 0 q.f a.toNat).toNat)
  | 1 => s.fpOp c (fcodeOk d && fcodeOk a) (fun q => q.setF d ((q.fbits p a) ^^^ 2 ^ sign))
  | 2 => s.fpOp c (fcodeOk d && fcodeOk a) (fun q => q.setF d ((q.fbits p a) % 2 ^ sign))
  | 3 => s.fpOp c (fcodeOk d && codeOk a) (fun q => q.setF d (q.reg a).toNat)
  | 4 => s.fpOp c (fcodeOk d && codeOk a) (fun q =>
      q.setF d ((q.reg a).toNat * 2 ^ 32 + (sget 0 q.f d.toNat).toNat % 2 ^ 32))
  | 5 => s.fpOp c (codeOk d && fcodeOk a) (fun q => q.setReg d (BitVec.ofNat 32 (sget 0 q.f a.toNat).toNat))
  | 6 => s.fpOp c (codeOk d && fcodeOk a) (fun q => q.setReg d (BitVec.ofNat 32 ((sget 0 q.f a.toNat).toNat / 2 ^ 32)))
  | _ => s.trap c 4

def execFpmov (c : ClId) (d a fn : RegCode) (p : Bool) (s : State) : Host.Outcome State Fault Refusal :=
  seqAct c s (·.fpmov c.val d a fn p)

end Sys2Proof.Machine
end

