-- ==== Sys2Proof/Machine/SeqMem.lean ====
section
/-! DEFINITION. Loads and stores of the sequencer (R172, R173, R177, R534). -/

namespace Sys2Proof.Machine

/-- What an access of the sequencer meets. -/
inductive SeqAcc where
  /-- The data of a load, and the state. -/
  | ok (data : List Byte) (s : State)
  | trap (cause : Nat)
  /-- The port of a cell memory is in use, and the instruction waits (R57, R172). -/
  | wait
  deriving DecidableEq, Repr

/-- Whether the port of a cell memory that an access of the own window needs is in use (R57). -/
def State.winBusy (s : State) (c o : Nat) (write : Bool) : Bool :=
  decide (winArea o = some 0) && (if write then s.writePortBusy c (o / 32768) else s.readPortBusy c (o / 32768))

/-- A load (no data) or store of n bytes at a sequencer address (R172, R173): alignment is judged before the address
(log 44). -/
def State.seqMem (s : State) (c : Nat) (a : Reg) (n : Nat) (data : Option (List Byte)) : SeqAcc :=
  let x := a.toNat
  if x % n ≠ 0 then .trap 6
  else if x < 0x10000 then
    match data with
    | none => .ok ((List.range n).map (fun i => sget 0 (s.seq c).dmem (x + i))) s
    | some d => .ok [] (s.updSeq c (fun q => q.dmWrite x n (leNat d)))
  else if 0x1000000 ≤ x && decide (x < 0x2000000) then
    let o := x - 0x1000000
    if s.winBusy c o data.isSome then .wait
    else
      let r := match data with
        | none => s.winRead c c o n
        | some d => s.winWrite c c o d
      if r.status = 0 then .ok r.data r.st else .trap 5
  else .trap 5

/-- The address of a load or store (R177). -/
def Seq.ea (q : Seq) (ra : RegCode) (off : Reg) : Reg := q.reg ra + off

/-- A load of n bytes into an integer register, sign-extended or not. -/
def State.seqLoad (s : State) (c : Nat) (rd ra : RegCode) (off : BitVec 16) (n : Nat) (signed : Bool) : State :=
  if codeOk rd && codeOk ra then
    match s.seqMem c ((s.seq c).ea ra (off.signExtend 32)) n none with
    | .ok d s => s.updSeq c (fun q => (q.setReg rd (if signed then BitVec.ofInt 32 (toInt (8 * n) (leNat d)) else BitVec.ofNat 32 (leNat d))).next)
    | .trap x => s.trap c x
    | .wait => s
  else s.trap c 4

/-- A store of the low n bytes of a register. -/
def State.seqStore (s : State) (c : Nat) (rs ra : RegCode) (off : BitVec 16) (n : Nat) : State :=
  if codeOk rs && codeOk ra then
    match s.seqMem c ((s.seq c).ea ra (off.signExtend 32)) n (some (toLe n ((s.seq c).reg rs).toNat)) with
    | .ok _ s => s.updSeq c Seq.next
    | .trap x => s.trap c x
    | .wait => s
  else s.trap c 4

/-- LDB (R177). -/
def execLdb (c : ClId) (rd ra : RegCode) (off : BitVec 16) (s : State) : Host.Outcome State Fault Refusal :=
  seqAct c s (·.seqLoad c.val rd ra off 1 true)

/-- LDBZ (R177). -/
def execLdbz (c : ClId) (rd ra : RegCode) (off : BitVec 16) (s : State) : Host.Outcome State Fault Refusal :=
  seqAct c s (·.seqLoad c.val rd ra off 1 false)

/-- LDH (R177). -/
def execLdh (c : ClId) (rd ra : RegCode) (off : BitVec 16) (s : State) : Host.Outcome State Fault Refusal :=
  seqAct c s (·.seqLoad c.val rd ra off 2 true)

/-- LDHZ (R177). -/
def execLdhz (c : ClId) (rd ra : RegCode) (off : BitVec 16) (s : State) : Host.Outcome State Fault Refusal :=
  seqAct c s (·.seqLoad c.val rd ra off 2 false)

/-- LDW (R177). -/
def execLdw (c : ClId) (rd ra : RegCode) (off : BitVec 16) (s : State) : Host.Outcome State Fault Refusal :=
  seqAct c s (·.seqLoad c.val rd ra off 4 false)

/-- STB (R177). -/
def execStb (c : ClId) (rs ra : RegCode) (off : BitVec 16) (s : State) : Host.Outcome State Fault Refusal :=
  seqAct c s (·.seqStore c.val rs ra off 1)

/-- STH (R177). -/
def execSth (c : ClId) (rs ra : RegCode) (off : BitVec 16) (s : State) : Host.Outcome State Fault Refusal :=
  seqAct c s (·.seqStore c.val rs ra off 2)

/-- STW (R177). -/
def execStw (c : ClId) (rs ra : RegCode) (off : BitVec 16) (s : State) : Host.Outcome State Fault Refusal :=
  seqAct c s (·.seqStore c.val rs ra off 4)

/-- Bytes of an f register access (R534). -/
def fpBytes (p : Bool) : Nat := if p then 4 else 8

/-- The sequencer's floating-point registers change hands before FPLD and FPST (R199). -/
def State.swapFp (s : State) (c : Nat) : State := s.updSeq c Seq.fpSwap

/-- FPLD in a precision (R534): the swap of R199 runs before the access, whatever becomes of that. -/
def State.fpLoad (s : State) (c : Nat) (d ra : RegCode) (p : Bool) (off : BitVec 15) : State :=
  if fcodeOk d && codeOk ra then
    let t := s.swapFp c
    match t.seqMem c ((s.seq c).ea ra (off.signExtend 32)) (fpBytes p) none with
    | .ok v s => s.updSeq c (fun q => (q.setF d (leNat v)).next)
    | .trap x => t.trap c x
    | .wait => t
  else s.trap c 4

/-- FPST in a precision (R534). -/
def State.fpStore (s : State) (c : Nat) (d ra : RegCode) (p : Bool) (off : BitVec 15) : State :=
  if fcodeOk d && codeOk ra then
    let t := s.swapFp c
    match t.seqMem c ((s.seq c).ea ra (off.signExtend 32)) (fpBytes p) (some (toLe (fpBytes p) ((t.seq c).fbits p d))) with
    | .ok _ s => s.updSeq c Seq.next
    | .trap x => t.trap c x
    | .wait => t
  else s.trap c 4

/-- FPLD (R534). -/
def execFpld (c : ClId) (d ra : RegCode) (p : Bool) (off : BitVec 15) (s : State) : Host.Outcome State Fault Refusal :=
  seqAct c s (·.fpLoad c.val d ra p off)

/-- FPST (R534). -/
def execFpst (c : ClId) (d ra : RegCode) (p : Bool) (off : BitVec 15) (s : State) : Host.Outcome State Fault Refusal :=
  seqAct c s (·.fpStore c.val d ra p off)

end Sys2Proof.Machine
end

