-- ==== Sys2Proof/Machine/Dispatch.lean ====
section
/-! DEFINITION. One arm for each command: the call of its meaning. -/

namespace Sys2Proof.Machine

def exec (i : Instr) (s : State) : Host.Outcome State Fault Refusal :=
  match i with
  | .registerWrite a v => Sys2Proof.Machine.execRegisterWrite a v s
  | .rcRead a => Sys2Proof.Machine.execRcRead a s
  | .clusterCycle c ev => Sys2Proof.Machine.execClusterCycle c ev s
  | .cellMemoryAccess c cell => Sys2Proof.Machine.execCellMemoryAccess c cell s
  | .start who c entry alsoPark => Sys2Proof.Machine.execStart who c entry alsoPark s
  | .park who c => Sys2Proof.Machine.execPark who c s
  | .ctxCtickLoRead who c => Sys2Proof.Machine.execCtxCtickLoRead who c s
  | .regionCommit c => Sys2Proof.Machine.execRegionCommit c s
  | .spareRepair c cell phys => Sys2Proof.Machine.execSpareRepair c cell phys s
  | .repairPause c bad cycles => Sys2Proof.Machine.execRepairPause c bad cycles s
  | .linkWordLanding c l => Sys2Proof.Machine.execLinkWordLanding c l s
  | .linkCreditArrival c l => Sys2Proof.Machine.execLinkCreditArrival c l s
  | .stagedWordEntry q => Sys2Proof.Machine.execStagedWordEntry q s
  | .staleTimeout q => Sys2Proof.Machine.execStaleTimeout q s
  | .sqStaleWrite who q v => Sys2Proof.Machine.execSqStaleWrite who q v s
  | .noticeDelivery q => Sys2Proof.Machine.execNoticeDelivery q s
  | .forwardChannelSend c ch => Sys2Proof.Machine.execForwardChannelSend c ch s
  | .sqMvpost who m v => Sys2Proof.Machine.execSqMvpost who m v s
  | .moverDescriptorStart m => Sys2Proof.Machine.execMoverDescriptorStart m s
  | .moverWordTransfer m host => Sys2Proof.Machine.execMoverWordTransfer m host s
  | .moverCompletion m => Sys2Proof.Machine.execMoverCompletion m s
  | .add c rd ra b => Sys2Proof.Machine.execAdd c rd ra b s
  | .sub c rd ra b => Sys2Proof.Machine.execSub c rd ra b s
  | .and c rd ra b => Sys2Proof.Machine.execAnd c rd ra b s
  | .or c rd ra b => Sys2Proof.Machine.execOr c rd ra b s
  | .xor c rd ra b => Sys2Proof.Machine.execXor c rd ra b s
  | .andn c rd ra b => Sys2Proof.Machine.execAndn c rd ra b s
  | .shl c rd ra b => Sys2Proof.Machine.execShl c rd ra b s
  | .shr c rd ra b => Sys2Proof.Machine.execShr c rd ra b s
  | .shra c rd ra b => Sys2Proof.Machine.execShra c rd ra b s
  | .mins c rd ra b => Sys2Proof.Machine.execMins c rd ra b s
  | .maxs c rd ra b => Sys2Proof.Machine.execMaxs c rd ra b s
  | .minu c rd ra b => Sys2Proof.Machine.execMinu c rd ra b s
  | .maxu c rd ra b => Sys2Proof.Machine.execMaxu c rd ra b s
  | .setlt c rd ra b => Sys2Proof.Machine.execSetlt c rd ra b s
  | .setltu c rd ra b => Sys2Proof.Machine.execSetltu c rd ra b s
  | .movh c rd imm => Sys2Proof.Machine.execMovh c rd imm s
  | .mul c rd ra b => Sys2Proof.Machine.execMul c rd ra b s
  | .mulhi c rd ra b => Sys2Proof.Machine.execMulhi c rd ra b s
  | .quo c rd ra b => Sys2Proof.Machine.execQuo c rd ra b s
  | .rem c rd ra b => Sys2Proof.Machine.execRem c rd ra b s
  | .ldb c rd ra off => Sys2Proof.Machine.execLdb c rd ra off s
  | .ldbz c rd ra off => Sys2Proof.Machine.execLdbz c rd ra off s
  | .ldh c rd ra off => Sys2Proof.Machine.execLdh c rd ra off s
  | .ldhz c rd ra off => Sys2Proof.Machine.execLdhz c rd ra off s
  | .ldw c rd ra off => Sys2Proof.Machine.execLdw c rd ra off s
  | .stb c rs ra off => Sys2Proof.Machine.execStb c rs ra off s
  | .sth c rs ra off => Sys2Proof.Machine.execSth c rs ra off s
  | .stw c rs ra off => Sys2Proof.Machine.execStw c rs ra off s
  | .bz c ra off => Sys2Proof.Machine.execBz c ra off s
  | .bnz c ra off => Sys2Proof.Machine.execBnz c ra off s
  | .blz c ra off => Sys2Proof.Machine.execBlz c ra off s
  | .bgez c ra off => Sys2Proof.Machine.execBgez c ra off s
  | .bgz c ra off => Sys2Proof.Machine.execBgz c ra off s
  | .blez c ra off => Sys2Proof.Machine.execBlez c ra off s
  | .jl c rd off => Sys2Proof.Machine.execJl c rd off s
  | .jr c rd ra => Sys2Proof.Machine.execJr c rd ra s
  | .fpadd c d a b p => Sys2Proof.Machine.execFpadd c d a b p s
  | .fpsub c d a b p => Sys2Proof.Machine.execFpsub c d a b p s
  | .fpmul c d a b p => Sys2Proof.Machine.execFpmul c d a b p s
  | .fpfma c d a b x p => Sys2Proof.Machine.execFpfma c d a b x p s
  | .fpdiv c d a b p => Sys2Proof.Machine.execFpdiv c d a b p s
  | .fpcvt c d a fn p => Sys2Proof.Machine.execFpcvt c d a fn p s
  | .fpcmp c d a b fn p => Sys2Proof.Machine.execFpcmp c d a b fn p s
  | .fpmin c d a b p => Sys2Proof.Machine.execFpmin c d a b p s
  | .fpmax c d a b p => Sys2Proof.Machine.execFpmax c d a b p s
  | .fpmov c d a fn p => Sys2Proof.Machine.execFpmov c d a fn p s
  | .fpld c d ra p off => Sys2Proof.Machine.execFpld c d ra p off s
  | .fpst c d ra p off => Sys2Proof.Machine.execFpst c d ra p off s
  | .enter c => Sys2Proof.Machine.execEnter c s
  | .leave c => Sys2Proof.Machine.execLeave c s
  | .done c => Sys2Proof.Machine.execDone c s
  | .fail c code => Sys2Proof.Machine.execFail c code s
  | .failr c ra => Sys2Proof.Machine.execFailr c ra s
  | .rett c => Sys2Proof.Machine.execRett c s
  | .spillw c ra => Sys2Proof.Machine.execSpillw c ra s
  | .fillw c ra => Sys2Proof.Machine.execFillw c ra s
  | .rdc c rd idx => Sys2Proof.Machine.execRdc c rd idx s
  | .waite c mask => Sys2Proof.Machine.execWaite c mask s
  | .clre c mask => Sys2Proof.Machine.execClre c mask s
  | .cstart c entry => Sys2Proof.Machine.execCstart c entry s
  | .cpark c => Sys2Proof.Machine.execCpark c s
  | .cstat c rd => Sys2Proof.Machine.execCstat c rd s
  | .eventLine c line => Sys2Proof.Machine.execEventLine c line s
  | .taskStartTaken c => Sys2Proof.Machine.execTaskStartTaken c s
  | .preemptionTaken c => Sys2Proof.Machine.execPreemptionTaken c s
  | .sequencerMemoryAccess c => Sys2Proof.Machine.execSequencerMemoryAccess c s
  | .dependenceDecrement => Sys2Proof.Machine.execDependenceDecrement s
  | .completionProcessing => Sys2Proof.Machine.execCompletionProcessing s
  | .delayExpiry => Sys2Proof.Machine.execDelayExpiry s
  | .timerExpiry t => Sys2Proof.Machine.execTimerExpiry t s
  | .heldEventRetry r => Sys2Proof.Machine.execHeldEventRetry r s
  | .dispatch => Sys2Proof.Machine.execDispatch s
  | .blyTmrWrite who t second v => Sys2Proof.Machine.execBlyTmrWrite who t second v s
  | .rd r => Sys2Proof.Machine.execRd r s
  | .wr r => Sys2Proof.Machine.execWr r s
  | .wrp r => Sys2Proof.Machine.execWrp r s
  | .push p => Sys2Proof.Machine.execPush p s
  | .pushp p => Sys2Proof.Machine.execPushp p s
  | .crd ix => Sys2Proof.Machine.execCrd ix s
  | .evt ix => Sys2Proof.Machine.execEvt ix s
  | .torep ix tag => Sys2Proof.Machine.execTorep ix tag s
  | .rdata ix tag lat => Sys2Proof.Machine.execRdata ix tag lat s
  | .ack ix tag lat => Sys2Proof.Machine.execAck ix tag lat s
  | .pushack ix tag lat => Sys2Proof.Machine.execPushack ix tag lat s
  | .err ix tag lat => Sys2Proof.Machine.execErr ix tag lat s
  | .requestTimeout ix tag => Sys2Proof.Machine.execRequestTimeout ix tag s
  | .quarantineEnd ix tag => Sys2Proof.Machine.execQuarantineEnd ix tag s
  | .absorbSetDead who r p => Sys2Proof.Machine.execAbsorbSetDead who r p s
  | .absorbClear who r p keepPc => Sys2Proof.Machine.execAbsorbClear who r p keepPc s
  | .routerSettingWrite who r w => Sys2Proof.Machine.execRouterSettingWrite who r w s
  | .packetBoundaryChange r => Sys2Proof.Machine.execPacketBoundaryChange r s
  | .fenceRequest ix => Sys2Proof.Machine.execFenceRequest ix s
  | .fenceAcknowledge ix => Sys2Proof.Machine.execFenceAcknowledge ix s
  | .flitCrcFail r d => Sys2Proof.Machine.execFlitCrcFail r d s
  | .laneParityError r d lane => Sys2Proof.Machine.execLaneParityError r d lane s
  | .hbmRequestEnqueue st ch => Sys2Proof.Machine.execHbmRequestEnqueue st ch s
  | .hbmSchedule p ecc => Sys2Proof.Machine.execHbmSchedule p ecc s
  | .commandParityError p syn => Sys2Proof.Machine.execCommandParityError p syn s
  | .refreshDue p => Sys2Proof.Machine.execRefreshDue p s
  | .owedRefreshRun p => Sys2Proof.Machine.execOwedRefreshRun p s
  | .retrainingPause p lane lowOk highOk margin => Sys2Proof.Machine.execRetrainingPause p lane lowOk highOk margin s
  | .dqLaneRemap p lane => Sys2Proof.Machine.execDqLaneRemap p lane s
  | .selfRefreshEntry p => Sys2Proof.Machine.execSelfRefreshEntry p s
  | .selfRefreshExit p => Sys2Proof.Machine.execSelfRefreshExit p s
  | .stackTemperatureChange st temp => Sys2Proof.Machine.execStackTemperatureChange st temp s
  | .fullSweep p lanes => Sys2Proof.Machine.execFullSweep p lanes s
  | .trainingStore => Sys2Proof.Machine.execTrainingStore s
  | .stackRateChange st anchors => Sys2Proof.Machine.execStackRateChange st anchors s
  | .resume who p => Sys2Proof.Machine.execResume who p s
  | .retire who p => Sys2Proof.Machine.execRetire who p s
  | .loadHeader x bytes => Sys2Proof.Machine.execLoadHeader x bytes s
  | .frame x bytes => Sys2Proof.Machine.execFrame x bytes s
  | .codeWrite c => Sys2Proof.Machine.execCodeWrite c s
  | .commitDeadline x => Sys2Proof.Machine.execCommitDeadline x s
  | .waitLock => Sys2Proof.Machine.execWaitLock s
  | .enableWrites => Sys2Proof.Machine.execEnableWrites s
  | .releaseSetreset => Sys2Proof.Machine.execReleaseSetreset s
  | .releaseOutputs => Sys2Proof.Machine.execReleaseOutputs s
  | .delay => Sys2Proof.Machine.execDelay s
  | .waitDoneLine lines => Sys2Proof.Machine.execWaitDoneLine lines s
  | .wakeStepTimeout => Sys2Proof.Machine.execWakeStepTimeout s
  | .soi => Sys2Proof.Machine.execSoi s
  | .eoi => Sys2Proof.Machine.execEoi s
  | .idle => Sys2Proof.Machine.execIdle s
  | .ropeDataBlock bytes => Sys2Proof.Machine.execRopeDataBlock bytes s
  | .ropeUnknownControl type => Sys2Proof.Machine.execRopeUnknownControl type s
  | .ropeLockLoss => Sys2Proof.Machine.execRopeLockLoss s
  | .ropeIdleTimeout => Sys2Proof.Machine.execRopeIdleTimeout s
  | .cfgLtklRead who x => Sys2Proof.Machine.execCfgLtklRead who x s
  | .getVersion p => Sys2Proof.Machine.execGetVersion p s
  | .getCapabilities p => Sys2Proof.Machine.execGetCapabilities p s
  | .negotiateAlgorithms p offer => Sys2Proof.Machine.execNegotiateAlgorithms p offer s
  | .getDigests p => Sys2Proof.Machine.execGetDigests p s
  | .getCertificate p slot => Sys2Proof.Machine.execGetCertificate p slot s
  | .challenge p nonce => Sys2Proof.Machine.execChallenge p nonce s
  | .getMeasurements p index nonce => Sys2Proof.Machine.execGetMeasurements p index nonce s
  | .keyExchange p share => Sys2Proof.Machine.execKeyExchange p share s
  | .finish p verify => Sys2Proof.Machine.execFinish p verify s
  | .heartbeat p => Sys2Proof.Machine.execHeartbeat p s
  | .keyUpdate p => Sys2Proof.Machine.execKeyUpdate p s
  | .endSession p => Sys2Proof.Machine.execEndSession p s
  | .ideKm p m => Sys2Proof.Machine.execIdeKm p m s
  | .pePerstNAssert p => Sys2Proof.Machine.execPePerstNAssert p s
  | .pePerstNDeassert p => Sys2Proof.Machine.execPePerstNDeassert p s
  | .hostLinkUp p rate => Sys2Proof.Machine.execHostLinkUp p rate s
  | .hostLinkDown p => Sys2Proof.Machine.execHostLinkDown p s
  | .functionLevelReset p f => Sys2Proof.Machine.execFunctionLevelReset p f s
  | .hotReset p => Sys2Proof.Machine.execHotReset p s
  | .ringEnable p f k v => Sys2Proof.Machine.execRingEnable p f k v s
  | .ringDisable p f k v => Sys2Proof.Machine.execRingDisable p f k v s
  | .mbxSqtail p f v => Sys2Proof.Machine.execMbxSqtail p f v s
  | .mbxCqhead p f v => Sys2Proof.Machine.execMbxCqhead p f v s
  | .mbxNrhead p f v => Sys2Proof.Machine.execMbxNrhead p f v s
  | .descriptorConsume p fetched => Sys2Proof.Machine.execDescriptorConsume p fetched s
  | .completionPost p f => Sys2Proof.Machine.execCompletionPost p f s
  | .coalescingTimeout p f k => Sys2Proof.Machine.execCoalescingTimeout p f k s
  | .hostNoticeArrival p => Sys2Proof.Machine.execHostNoticeArrival p s
  | .lostNoticeEntry p f => Sys2Proof.Machine.execLostNoticeEntry p f s
  | .pushWindowWrite p f off bytes => Sys2Proof.Machine.execPushWindowWrite p f off bytes s
  | .bar2Access p t => Sys2Proof.Machine.execBar2Access p t s
  | .bar0Violation p f off size write => Sys2Proof.Machine.execBar0Violation p f off size write s
  | .violationWindowEnd p => Sys2Proof.Machine.execViolationWindowEnd p s
  | .throttleEnd p => Sys2Proof.Machine.execThrottleEnd p s
  | .scaethRestart cause => Sys2Proof.Machine.execScaethRestart cause s
  | .mailboxReturn => Sys2Proof.Machine.execMailboxReturn s
  | .submit bytes => Sys2Proof.Machine.execSubmit bytes s
  | .status bytes => Sys2Proof.Machine.execStatus bytes s
  | .fetch bytes => Sys2Proof.Machine.execFetch bytes s
  | .pop bytes => Sys2Proof.Machine.execPop bytes s
  | .commandWaitEnd ix => Sys2Proof.Machine.execCommandWaitEnd ix s
  | .devIdentity ix => Sys2Proof.Machine.execDevIdentity ix s
  | .devStatus ix => Sys2Proof.Machine.execDevStatus ix s
  | .timeGet ix => Sys2Proof.Machine.execTimeGet ix s
  | .timeStep ix t => Sys2Proof.Machine.execTimeStep ix t s
  | .abort ix target => Sys2Proof.Machine.execAbort ix target s
  | .modeSet ix mode off len => Sys2Proof.Machine.execModeSet ix mode off len s
  | .modeChangeStep pm => Sys2Proof.Machine.execModeChangeStep pm s
  | .tickSet ix ns => Sys2Proof.Machine.execTickSet ix ns s
  | .tenantCreate ix ten => Sys2Proof.Machine.execTenantCreate ix ten s
  | .tenantEvict ix ten => Sys2Proof.Machine.execTenantEvict ix ten s
  | .regionAlloc ix a => Sys2Proof.Machine.execRegionAlloc ix a s
  | .regionResize ix r units stk => Sys2Proof.Machine.execRegionResize ix r units stk s
  | .regionRelease ix r => Sys2Proof.Machine.execRegionRelease ix r s
  | .regionInfo ix r item => Sys2Proof.Machine.execRegionInfo ix r item s
  | .regionLoad ix r addr len => Sys2Proof.Machine.execRegionLoad ix r addr len s
  | .quotaSet ix r quota => Sys2Proof.Machine.execQuotaSet ix r quota s
  | .prioSet ix r maxp => Sys2Proof.Machine.execPrioSet ix r maxp s
  | .standbySet ix mask => Sys2Proof.Machine.execStandbySet ix mask s
  | .signerReg ix addr len hash blob => Sys2Proof.Machine.execSignerReg ix addr len hash blob s
  | .svnRaise ix svn => Sys2Proof.Machine.execSvnRaise ix svn s
  | .sessionRule ix sess port profile qid key => Sys2Proof.Machine.execSessionRule ix sess port profile qid key s
  | .sessionClear ix sess => Sys2Proof.Machine.execSessionClear ix sess s
  | .sessionShape ix sess rate burst => Sys2Proof.Machine.execSessionShape ix sess rate burst s
  | .moverAssign ix m r => Sys2Proof.Machine.execMoverAssign ix m r s
  | .bar2Bind ix r => Sys2Proof.Machine.execBar2Bind ix r s
  | .pushwinBind ix slot qid => Sys2Proof.Machine.execPushwinBind ix slot qid s
  | .portCfg ix port split off len => Sys2Proof.Machine.execPortCfg ix port split off len s
  | .ptpSource ix port => Sys2Proof.Machine.execPtpSource ix port s
  | .moverPost ix m desc => Sys2Proof.Machine.execMoverPost ix m desc s
  | .moverStatus ix m => Sys2Proof.Machine.execMoverStatus ix m s
  | .queueCfg ix qid base depth prod cons psrc => Sys2Proof.Machine.execQueueCfg ix qid base depth prod cons psrc s
  | .queueEnable ix qid => Sys2Proof.Machine.execQueueEnable ix qid s
  | .queueDisable ix qid => Sys2Proof.Machine.execQueueDisable ix qid s
  | .fwdCfg ix srcq chan en tkind prio target cred => Sys2Proof.Machine.execFwdCfg ix srcq chan en tkind prio target cred s
  | .qmodeSet ix cl um => Sys2Proof.Machine.execQmodeSet ix cl um s
  | .taskWrite ix task desc => Sys2Proof.Machine.execTaskWrite ix task desc s
  | .taskArm ix task => Sys2Proof.Machine.execTaskArm ix task s
  | .taskRemove ix task => Sys2Proof.Machine.execTaskRemove ix task s
  | .taskQuery ix task => Sys2Proof.Machine.execTaskQuery ix task s
  | .taskSignal ix task => Sys2Proof.Machine.execTaskSignal ix task s
  | .timerSet ix t r task period => Sys2Proof.Machine.execTimerSet ix t r task period s
  | .hbmOrder ix stack order => Sys2Proof.Machine.execHbmOrder ix stack order s
  | .pcRepair ix pc hard ok => Sys2Proof.Machine.execPcRepair ix pc hard ok s
  | .pcRetire ix pc => Sys2Proof.Machine.execPcRetire ix pc s
  | .pcResweep ix pc lanes => Sys2Proof.Machine.execPcResweep ix pc lanes s
  | .memMirror ix r en => Sys2Proof.Machine.execMemMirror ix r en s
  | .hbmStats ix pc => Sys2Proof.Machine.execHbmStats ix pc s
  | .nocStats ix id item => Sys2Proof.Machine.execNocStats ix id item s
  | .routerStats ix r => Sys2Proof.Machine.execRouterStats ix r s
  | .belayStats ix r => Sys2Proof.Machine.execBelayStats ix r s
  | .nocTimeout ix id tous => Sys2Proof.Machine.execNocTimeout ix id tous s
  | .eventLog ix index => Sys2Proof.Machine.execEventLog ix index s
  | .cairnStatus ix => Sys2Proof.Machine.execCairnStatus ix s
  | .stage ix off data => Sys2Proof.Machine.execStage ix off data s
  | .fwUpdate ix off len => Sys2Proof.Machine.execFwUpdate ix off len s
  | .fwUpdateTimeout => Sys2Proof.Machine.execFwUpdateTimeout s
  | .fullLoad ix src off len => Sys2Proof.Machine.execFullLoad ix src off len s
  | .ropeCtl ix ghi act => Sys2Proof.Machine.execRopeCtl ix ghi act s
  | .lcClaim ix off len => Sys2Proof.Machine.execLcClaim ix off len s
  | .lcSeal ix => Sys2Proof.Machine.execLcSeal ix s
  | .lcUnseal ix => Sys2Proof.Machine.execLcUnseal ix s
  | .lcDebug ix off len => Sys2Proof.Machine.execLcDebug ix off len s
  | .lcDebugExit ix => Sys2Proof.Machine.execLcDebugExit ix s
  | .lcRetire ix confirm => Sys2Proof.Machine.execLcRetire ix confirm s
  | .fleetKey ix off len => Sys2Proof.Machine.execFleetKey ix off len s
  | .ownerSigner ix off len => Sys2Proof.Machine.execOwnerSigner ix off len s
  | .lifecycleReset => Sys2Proof.Machine.execLifecycleReset s
  | .temperatureTrip => Sys2Proof.Machine.execTemperatureTrip s
  | .supplyFault => Sys2Proof.Machine.execSupplyFault s
  | .islandIdleTimeout ix => Sys2Proof.Machine.execIslandIdleTimeout ix s
  | .islandPowerOn ix => Sys2Proof.Machine.execIslandPowerOn ix s
  | .pendingEnableRun => Sys2Proof.Machine.execPendingEnableRun s
  | .coldReset resetHigh straps => Sys2Proof.Machine.execColdReset resetHigh straps s
  | .warmReset => Sys2Proof.Machine.execWarmReset s
  | .bringupStep r => Sys2Proof.Machine.execBringupStep r s
  | .powerDown => Sys2Proof.Machine.execPowerDown s
  | .migration c bad => Sys2Proof.Machine.execMigration c bad s
  | .logSecondEnd => Sys2Proof.Machine.execLogSecondEnd s
  | .cairnSlice b first second clockOk supplyOk request => Sys2Proof.Machine.execCairnSlice b first second clockOk supplyOk request s
  | .cairnPassEnd => Sys2Proof.Machine.execCairnPassEnd s
  | .cairnDisable who => Sys2Proof.Machine.execCairnDisable who s
  | .frameReceive e sub f => Sys2Proof.Machine.execFrameReceive e sub f s
  | .ethLinkChange e sub up => Sys2Proof.Machine.execEthLinkChange e sub up s
  | .egressFrame st => Sys2Proof.Machine.execEgressFrame st s
  | .frameDeparture e sub => Sys2Proof.Machine.execFrameDeparture e sub s
  | .macsecAssociationChange e => Sys2Proof.Machine.execMacsecAssociationChange e s
  | .syncMessage offset => Sys2Proof.Machine.execSyncMessage offset s
  | .ptpSyncTimeout => Sys2Proof.Machine.execPtpSyncTimeout s
  | .captureEvent b pins => Sys2Proof.Machine.execCaptureEvent b pins s
  | .gpioOutputWord b => Sys2Proof.Machine.execGpioOutputWord b s
  | .consoleStatus => Sys2Proof.Machine.execConsoleStatus s
  | .consoleLog n => Sys2Proof.Machine.execConsoleLog n s
  | .consoleVer => Sys2Proof.Machine.execConsoleVer s
  | .telemetryRead ptr => Sys2Proof.Machine.execTelemetryRead ptr s
  | .telemetryWrite data => Sys2Proof.Machine.execTelemetryWrite data s
  | .bypass => Sys2Proof.Machine.execBypass s
  | .idcode => Sys2Proof.Machine.execIdcode s
  | .samplePreload cells => Sys2Proof.Machine.execSamplePreload cells s
  | .extest => Sys2Proof.Machine.execExtest s
  | .highz => Sys2Proof.Machine.execHighz s
  | .clamp => Sys2Proof.Machine.execClamp s
  | .jtagDebugInstruction ir => Sys2Proof.Machine.execJtagDebugInstruction ir s
  | .thermtrip => Sys2Proof.Machine.execThermtrip s
  | .sysRefclkLoss => Sys2Proof.Machine.execSysRefclkLoss s
  | .ropeInvalidSyncHeader => Sys2Proof.Machine.execRopeInvalidSyncHeader s
  | .ropeFaultLineLow => Sys2Proof.Machine.execRopeFaultLineLow s
  | .resetNRelease straps => Sys2Proof.Machine.execResetNRelease straps s
  | .islandPllFailure d => Sys2Proof.Machine.execIslandPllFailure d s
  | .securityCoreSelfCheckFail => Sys2Proof.Machine.execSecurityCoreSelfCheckFail s
  | .illegalInstruction c k => Sys2Proof.Machine.execIllegalInstruction c k s
  | .entdaa addr => Sys2Proof.Machine.execEntdaa addr s

end Sys2Proof.Machine
end

