-- ==== Sys2Proof/Machine/Tick.lean ====
section
/-! DEFINITION. What happens in a nanosecond of device time (R30, log 1). -/

namespace Sys2Proof.Machine

/-- Device time goes on by 1 ns (R30) with the NoC cycles and the cycle of the loader that fall into it, unless the part is in OFF; time keeps
counting while a warm reset is held (R460). -/
def State.tick (s : State) : State :=
  if s.sys.off then s
  else
    let t : State := { s with time := s.time + 1 }
    if s.sys.held.isSome then t else (t.netCycles (s.nocCycles (s.now + 1) - s.nocCycles s.now)).loaderCycle

end Sys2Proof.Machine
end

