-- ==== Sys2Proof/Laws/Store.lean ====
section
/-! SUPPORT. Laws of the sparse stores and of the HBM bytes: a read after a write, and the canonical form that every write
keeps. -/

namespace Sys2Proof.Machine

variable {α : Type}

/-! ### Sparse stores -/

/-- A deleted key reads as the default. -/
theorem sget_sdel_same (d : α) (i : Nat) : ∀ m : SMap α, sget d (sdel m i) i = d
  | [] => rfl
  | (k, v) :: m => by
    have ih := sget_sdel_same d i m
    unfold sdel at ih ⊢
    by_cases h : k = i
    · simpa [List.filter, h] using ih
    · have h' : i ≠ k := fun e => h e.symm
      simpa [List.filter, h, sget, h'] using ih

/-- A deletion leaves every other key alone. -/
theorem sget_sdel_other (d : α) {i j : Nat} (h : j ≠ i) : ∀ m : SMap α, sget d (sdel m i) j = sget d m j
  | [] => rfl
  | (k, v) :: m => by
    have ih := sget_sdel_other d h m
    unfold sdel at ih ⊢
    by_cases hk : k = i
    · simpa [List.filter, hk, sget, h] using ih
    · simp only [List.filter, hk, ne_eq, not_false_eq_true, decide_true, sget]
      rw [← ih]

/-- Entering a value leaves every other key alone. -/
theorem sget_sins_other (d : α) (x : α) {i j : Nat} (h : j ≠ i) : ∀ m : SMap α, sget d (sins m i x) j = sget d m j
  | [] => by simp [sins, sget, h]
  | (k, v) :: m => by
    unfold sins
    split
    · simp [sget, h]
    · simp [sget, sget_sins_other d x h m]

/-- A value entered at a key that is not listed is read. -/
theorem sget_sins_same (d : α) (x : α) (i : Nat) : ∀ m : SMap α, sget d (sins (sdel m i) i x) i = x
  | [] => by simp [sdel, sins, sget]
  | (k, v) :: m => by
    have ih := sget_sins_same d x i m
    unfold sdel at ih ⊢
    by_cases hk : k = i
    · simpa [List.filter, hk] using ih
    · have h' : i ≠ k := fun e => hk e.symm
      simp only [List.filter, hk, ne_eq, not_false_eq_true, decide_true]
      unfold sins
      split
      · simp [sget]
      · simp only [sget, h', if_false]
        exact ih

/-- What has been entered at a key is deleted again. -/
theorem sdel_sins (x : α) (i : Nat) : ∀ m : SMap α, sdel (sins m i x) i = sdel m i
  | [] => by simp [sdel, sins]
  | (k, v) :: m => by
    have ih := sdel_sins x i m
    unfold sdel at ih ⊢
    unfold sins
    split
    · simp [List.filter]
    · simp only [List.filter]
      split
      · rw [ih]
      · exact ih

theorem sdel_sdel (m : SMap α) (i : Nat) : sdel (sdel m i) i = sdel m i := by
  simp [sdel, List.filter_filter]

variable [DecidableEq α]

/-- A write is read back. -/
@[simp] theorem sget_sput_same (d : α) (m : SMap α) (i : Nat) (x : α) : sget d (sput d m i x) i = x := by
  unfold sput
  split
  · rename_i h
    rw [h]
    exact sget_sdel_same d i m
  · exact sget_sins_same d x i m

/-- A write leaves every other key alone. -/
theorem sget_sput_other (d : α) (m : SMap α) {i j : Nat} (x : α) (h : j ≠ i) : sget d (sput d m i x) j = sget d m j := by
  unfold sput
  split
  · exact sget_sdel_other d h m
  · rw [sget_sins_other d x h, sget_sdel_other d h]

/-- Of two writes of one key the second stands. -/
@[simp] theorem sput_sput_same (d : α) (m : SMap α) (i : Nat) (x y : α) : sput d (sput d m i x) i y = sput d m i y := by
  have h : sdel (sput d m i x) i = sdel m i := by
    unfold sput
    split
    · exact sdel_sdel m i
    · rw [sdel_sins, sdel_sdel]
  unfold sput at h ⊢
  rw [h]

/-- Entering a value that is not the default keeps the canonical form. -/
theorem sins_wfFrom (d : α) {x : α} (hx : x ≠ d) (i : Nat) : ∀ (m : SMap α) (lo : Nat), lo ≤ i → (∀ p ∈ m, p.1 ≠ i) →
    swfFrom d lo m = true → swfFrom d lo (sins m i x) = true
  | [], lo, hi, _, _ => by simp [sins, swfFrom, hi, hx]
  | (k, v) :: m, lo, hi, hn, h => by
    simp only [swfFrom, Bool.and_eq_true, decide_eq_true_eq] at h
    obtain ⟨⟨hlo, hv⟩, hm⟩ := h
    have hk : k ≠ i := hn (k, v) (by simp)
    unfold sins
    split
    · simp only [swfFrom, Bool.and_eq_true, decide_eq_true_eq]
      exact ⟨⟨hi, hx⟩, ⟨by omega, hv⟩, hm⟩
    · simp only [swfFrom, Bool.and_eq_true, decide_eq_true_eq]
      exact ⟨⟨hlo, hv⟩, sins_wfFrom d hx i m (k + 1) (by omega) (fun p hp => hn p (by simp [hp])) hm⟩

/-- A lower bound of the keys may be lowered. -/
theorem swfFrom_mono (d : α) : ∀ (m : SMap α) (a b : Nat), a ≤ b → swfFrom d b m = true → swfFrom d a m = true
  | [], _, _, _, _ => rfl
  | (k, v) :: m, a, b, hab, h => by
    simp only [swfFrom, Bool.and_eq_true, decide_eq_true_eq] at h ⊢
    exact ⟨⟨by omega, h.1.2⟩, h.2⟩

/-- A filter keeps the canonical form. -/
theorem sfilter_wfFrom (d : α) (f : Nat × α → Bool) : ∀ (m : SMap α) (lo : Nat), swfFrom d lo m = true → swfFrom d lo (m.filter f) = true
  | [], _, _ => rfl
  | (k, v) :: m, lo, h => by
    simp only [swfFrom, Bool.and_eq_true, decide_eq_true_eq] at h
    obtain ⟨⟨hlo, hv⟩, hm⟩ := h
    simp only [List.filter]
    split
    · simp only [swfFrom, Bool.and_eq_true, decide_eq_true_eq]
      exact ⟨⟨hlo, hv⟩, sfilter_wfFrom d f m (k + 1) hm⟩
    · exact swfFrom_mono d _ lo (k + 1) (by omega) (sfilter_wfFrom d f m (k + 1) hm)

/-- A write keeps the canonical form. -/
theorem sput_wf (d : α) (m : SMap α) (i : Nat) (x : α) (h : swf d m = true) : swf d (sput d m i x) = true := by
  have hd : swfFrom d 0 (sdel m i) = true := sfilter_wfFrom d _ m 0 h
  unfold sput
  split
  · exact hd
  · rename_i hx
    refine sins_wfFrom d hx i (sdel m i) 0 (Nat.zero_le _) (fun p hp => ?_) hd
    simp only [sdel, List.mem_filter, decide_eq_true_eq] at hp
    exact hp.2

/-! ### HBM bytes -/

/-- A lower bound of the addresses may be lowered. -/
theorem memWfFrom_mono : ∀ (m : List Host.Cell) (a b : Nat), a ≤ b → memWfFrom b m = true → memWfFrom a m = true
  | [], _, _, _, _ => rfl
  | (k, v) :: m, a, b, hab, h => by
    simp only [memWfFrom, Bool.and_eq_true, decide_eq_true_eq] at h ⊢
    exact ⟨by omega, h.2⟩

/-- One written byte keeps the canonical form. -/
theorem memPut_wfFrom : ∀ (m : List Host.Cell) (lo i : Nat) (x : Byte), lo ≤ i → memWfFrom lo m = true → memWfFrom lo (memPut m i x) = true
  | [], lo, i, x, hi, _ => by simp [memPut, memWfFrom, hi]
  | (k, v) :: m, lo, i, x, hi, h => by
    simp only [memWfFrom, Bool.and_eq_true, decide_eq_true_eq] at h
    obtain ⟨hlo, hm⟩ := h
    unfold memPut
    split
    · simp only [memWfFrom, Bool.and_eq_true, decide_eq_true_eq]
      exact ⟨hi, by omega, hm⟩
    · split
      · rename_i _ hik
        subst hik
        simp [memWfFrom, hi, hm]
      · simp only [memWfFrom, Bool.and_eq_true, decide_eq_true_eq]
        exact ⟨hlo, memPut_wfFrom m (k + 1) i x (by omega) hm⟩

/-- One written byte keeps the canonical form. -/
theorem memPut_wf (m : List Host.Cell) (i : Nat) (x : Byte) (h : Memory.wf m = true) : Memory.wf (memPut m i x) = true :=
  memPut_wfFrom m 0 i x (Nat.zero_le _) h

/-- Written bytes keep the canonical form. -/
theorem memPuts_wf : ∀ (bs : List Byte) (m : List Host.Cell) (a : Nat), Memory.wf m = true → Memory.wf (memPuts m a bs) = true
  | [], _, _, h => h
  | b :: bs, m, a, h => memPuts_wf bs (memPut m a b) (a + 1) (memPut_wf m a b h)

/-- A filter keeps the canonical form. -/
theorem memFilter_wfFrom (f : Host.Cell → Bool) : ∀ (m : List Host.Cell) (lo : Nat), memWfFrom lo m = true → memWfFrom lo (m.filter f) = true
  | [], _, _ => rfl
  | (k, v) :: m, lo, h => by
    simp only [memWfFrom, Bool.and_eq_true, decide_eq_true_eq] at h
    obtain ⟨hlo, hm⟩ := h
    simp only [List.filter]
    split
    · simp only [memWfFrom, Bool.and_eq_true, decide_eq_true_eq]
      exact ⟨hlo, memFilter_wfFrom f m (k + 1) hm⟩
    · exact memWfFrom_mono _ lo (k + 1) (by omega) (memFilter_wfFrom f m (k + 1) hm)

/-- A zero-fill keeps the canonical form. -/
theorem memErase_wf (m : List Host.Cell) (lo hi : Nat) (h : Memory.wf m = true) : Memory.wf (memErase m lo hi) = true :=
  memFilter_wfFrom _ m 0 h

/-- A written byte reads as written. -/
@[simp] theorem memGet_memPut_same : ∀ (m : List Host.Cell) (i : Nat) (x : Byte), memGet (memPut m i x) i = some x
  | [], i, x => by simp [memPut, memGet]
  | (k, v) :: m, i, x => by
    unfold memPut
    split
    · simp [memGet]
    · split
      · simp [memGet]
      · rename_i h2
        simp [memGet, h2, memGet_memPut_same m i x]

/-- A written byte leaves every other byte alone. -/
theorem memGet_memPut_other {i j : Nat} (h : j ≠ i) (x : Byte) : ∀ m : List Host.Cell, memGet (memPut m i x) j = memGet m j
  | [] => by simp [memPut, memGet, h]
  | (k, v) :: m => by
    unfold memPut
    split
    · simp [memGet, h]
    · split
      · rename_i hk
        simp [memGet, h, ← hk]
      · simp [memGet, memGet_memPut_other h x m]

/-- Bytes that are written read as written, and every other byte as before. -/
theorem memGet_memPuts : ∀ (bs : List Byte) (m : List Host.Cell) (a j : Nat),
    memGet (memPuts m a bs) j = if a ≤ j ∧ j < a + bs.length then bs[j - a]? else memGet m j
  | [], m, a, j => by simp [memPuts]
  | b :: bs, m, a, j => by
    rw [memPuts, memGet_memPuts bs (memPut m a b) (a + 1) j]
    by_cases h : j = a
    · subst h
      simp
    · rw [memGet_memPut_other h]
      by_cases h1 : a + 1 ≤ j ∧ j < a + 1 + bs.length
      · have h2 : a ≤ j ∧ j < a + (b :: bs).length := by simp only [List.length_cons]; omega
        have h3 : j - a = (j - (a + 1)) + 1 := by omega
        rw [if_pos h1, if_pos h2, h3, List.getElem?_cons_succ]
      · have h2 : ¬ (a ≤ j ∧ j < a + (b :: bs).length) := by simp only [List.length_cons]; omega
        rw [if_neg h1, if_neg h2]

/-- A zero-filled range reads as unwritten, and every other byte as before. -/
theorem memGet_memErase (lo hi j : Nat) : ∀ m : List Host.Cell,
    memGet (memErase m lo hi) j = if lo ≤ j ∧ j < hi then none else memGet m j
  | [] => by simp [memErase, memGet]
  | (k, v) :: m => by
    have ih := memGet_memErase lo hi j m
    unfold memErase at ih ⊢
    simp only [List.filter]
    split
    · rename_i hf
      by_cases hk : j = k
      · subst hk
        have : ¬ (lo ≤ j ∧ j < hi) := by simp at hf; omega
        simp [memGet, this]
      · simp [memGet, hk, ih]
    · rename_i hf
      rw [ih]
      by_cases hk : j = k
      · subst hk
        have : lo ≤ j ∧ j < hi := by simp at hf; omega
        simp [this]
      · simp [memGet, hk]

end Sys2Proof.Machine
end

