-- ==== Sys2Proof/Laws/State.lean ====
section
/-! SUPPORT. What each named update of the state leaves alone: one lemma for each field, true by definition. -/

namespace Sys2Proof.Machine

variable (s : State)

@[simp] theorem setCl_pending (c : Nat) (v : Cluster) : (s.setCl c v).pending = s.pending := rfl
@[simp] theorem setCl_out (c : Nat) (v : Cluster) : (s.setCl c v).out = s.out := rfl
@[simp] theorem setCl_entropy (c : Nat) (v : Cluster) : (s.setCl c v).entropy = s.entropy := rfl
@[simp] theorem setCl_time (c : Nat) (v : Cluster) : (s.setCl c v).time = s.time := rfl
@[simp] theorem setCl_sys (c : Nat) (v : Cluster) : (s.setCl c v).sys = s.sys := rfl
@[simp] theorem setCl_movers (c : Nat) (v : Cluster) : (s.setCl c v).movers = s.movers := rfl
@[simp] theorem setCl_belay (c : Nat) (v : Cluster) : (s.setCl c v).belay = s.belay := rfl
@[simp] theorem setCl_noc (c : Nat) (v : Cluster) : (s.setCl c v).noc = s.noc := rfl
@[simp] theorem setCl_hbm (c : Nat) (v : Cluster) : (s.setCl c v).hbm = s.hbm := rfl
@[simp] theorem setCl_loader (c : Nat) (v : Cluster) : (s.setCl c v).loader = s.loader := rfl
@[simp] theorem setCl_sec (c : Nat) (v : Cluster) : (s.setCl c v).sec = s.sec := rfl
@[simp] theorem setCl_host (c : Nat) (v : Cluster) : (s.setCl c v).host = s.host := rfl
@[simp] theorem setCl_rel (c : Nat) (v : Cluster) : (s.setCl c v).rel = s.rel := rfl
@[simp] theorem setCl_ext (c : Nat) (v : Cluster) : (s.setCl c v).ext = s.ext := rfl

@[simp] theorem updCl_pending (c : Nat) (f : Cluster → Cluster) : (s.updCl c f).pending = s.pending := rfl
@[simp] theorem updCl_out (c : Nat) (f : Cluster → Cluster) : (s.updCl c f).out = s.out := rfl
@[simp] theorem updCl_entropy (c : Nat) (f : Cluster → Cluster) : (s.updCl c f).entropy = s.entropy := rfl
@[simp] theorem updCl_time (c : Nat) (f : Cluster → Cluster) : (s.updCl c f).time = s.time := rfl
@[simp] theorem updCl_sys (c : Nat) (f : Cluster → Cluster) : (s.updCl c f).sys = s.sys := rfl
@[simp] theorem updCl_movers (c : Nat) (f : Cluster → Cluster) : (s.updCl c f).movers = s.movers := rfl
@[simp] theorem updCl_belay (c : Nat) (f : Cluster → Cluster) : (s.updCl c f).belay = s.belay := rfl
@[simp] theorem updCl_noc (c : Nat) (f : Cluster → Cluster) : (s.updCl c f).noc = s.noc := rfl
@[simp] theorem updCl_hbm (c : Nat) (f : Cluster → Cluster) : (s.updCl c f).hbm = s.hbm := rfl
@[simp] theorem updCl_loader (c : Nat) (f : Cluster → Cluster) : (s.updCl c f).loader = s.loader := rfl
@[simp] theorem updCl_sec (c : Nat) (f : Cluster → Cluster) : (s.updCl c f).sec = s.sec := rfl
@[simp] theorem updCl_host (c : Nat) (f : Cluster → Cluster) : (s.updCl c f).host = s.host := rfl
@[simp] theorem updCl_rel (c : Nat) (f : Cluster → Cluster) : (s.updCl c f).rel = s.rel := rfl
@[simp] theorem updCl_ext (c : Nat) (f : Cluster → Cluster) : (s.updCl c f).ext = s.ext := rfl

@[simp] theorem setSeq_pending (c : Nat) (q : Seq) : (s.setSeq c q).pending = s.pending := rfl
@[simp] theorem setSeq_out (c : Nat) (q : Seq) : (s.setSeq c q).out = s.out := rfl
@[simp] theorem setSeq_entropy (c : Nat) (q : Seq) : (s.setSeq c q).entropy = s.entropy := rfl
@[simp] theorem setSeq_time (c : Nat) (q : Seq) : (s.setSeq c q).time = s.time := rfl
@[simp] theorem setSeq_sys (c : Nat) (q : Seq) : (s.setSeq c q).sys = s.sys := rfl
@[simp] theorem setSeq_movers (c : Nat) (q : Seq) : (s.setSeq c q).movers = s.movers := rfl
@[simp] theorem setSeq_belay (c : Nat) (q : Seq) : (s.setSeq c q).belay = s.belay := rfl
@[simp] theorem setSeq_noc (c : Nat) (q : Seq) : (s.setSeq c q).noc = s.noc := rfl
@[simp] theorem setSeq_hbm (c : Nat) (q : Seq) : (s.setSeq c q).hbm = s.hbm := rfl
@[simp] theorem setSeq_loader (c : Nat) (q : Seq) : (s.setSeq c q).loader = s.loader := rfl
@[simp] theorem setSeq_sec (c : Nat) (q : Seq) : (s.setSeq c q).sec = s.sec := rfl
@[simp] theorem setSeq_host (c : Nat) (q : Seq) : (s.setSeq c q).host = s.host := rfl
@[simp] theorem setSeq_rel (c : Nat) (q : Seq) : (s.setSeq c q).rel = s.rel := rfl
@[simp] theorem setSeq_ext (c : Nat) (q : Seq) : (s.setSeq c q).ext = s.ext := rfl

@[simp] theorem setQueue_pending (n : Nat) (v : Queue) : (s.setQueue n v).pending = s.pending := rfl
@[simp] theorem setQueue_out (n : Nat) (v : Queue) : (s.setQueue n v).out = s.out := rfl
@[simp] theorem setQueue_entropy (n : Nat) (v : Queue) : (s.setQueue n v).entropy = s.entropy := rfl
@[simp] theorem setQueue_time (n : Nat) (v : Queue) : (s.setQueue n v).time = s.time := rfl
@[simp] theorem setQueue_sys (n : Nat) (v : Queue) : (s.setQueue n v).sys = s.sys := rfl
@[simp] theorem setQueue_movers (n : Nat) (v : Queue) : (s.setQueue n v).movers = s.movers := rfl
@[simp] theorem setQueue_belay (n : Nat) (v : Queue) : (s.setQueue n v).belay = s.belay := rfl
@[simp] theorem setQueue_noc (n : Nat) (v : Queue) : (s.setQueue n v).noc = s.noc := rfl
@[simp] theorem setQueue_hbm (n : Nat) (v : Queue) : (s.setQueue n v).hbm = s.hbm := rfl
@[simp] theorem setQueue_loader (n : Nat) (v : Queue) : (s.setQueue n v).loader = s.loader := rfl
@[simp] theorem setQueue_sec (n : Nat) (v : Queue) : (s.setQueue n v).sec = s.sec := rfl
@[simp] theorem setQueue_host (n : Nat) (v : Queue) : (s.setQueue n v).host = s.host := rfl
@[simp] theorem setQueue_rel (n : Nat) (v : Queue) : (s.setQueue n v).rel = s.rel := rfl
@[simp] theorem setQueue_ext (n : Nat) (v : Queue) : (s.setQueue n v).ext = s.ext := rfl

@[simp] theorem setMover_pending (m : Nat) (v : Mover) : (s.setMover m v).pending = s.pending := rfl
@[simp] theorem setMover_out (m : Nat) (v : Mover) : (s.setMover m v).out = s.out := rfl
@[simp] theorem setMover_entropy (m : Nat) (v : Mover) : (s.setMover m v).entropy = s.entropy := rfl
@[simp] theorem setMover_time (m : Nat) (v : Mover) : (s.setMover m v).time = s.time := rfl
@[simp] theorem setMover_sys (m : Nat) (v : Mover) : (s.setMover m v).sys = s.sys := rfl
@[simp] theorem setMover_cls (m : Nat) (v : Mover) : (s.setMover m v).cls = s.cls := rfl
@[simp] theorem setMover_belay (m : Nat) (v : Mover) : (s.setMover m v).belay = s.belay := rfl
@[simp] theorem setMover_noc (m : Nat) (v : Mover) : (s.setMover m v).noc = s.noc := rfl
@[simp] theorem setMover_hbm (m : Nat) (v : Mover) : (s.setMover m v).hbm = s.hbm := rfl
@[simp] theorem setMover_loader (m : Nat) (v : Mover) : (s.setMover m v).loader = s.loader := rfl
@[simp] theorem setMover_sec (m : Nat) (v : Mover) : (s.setMover m v).sec = s.sec := rfl
@[simp] theorem setMover_host (m : Nat) (v : Mover) : (s.setMover m v).host = s.host := rfl
@[simp] theorem setMover_rel (m : Nat) (v : Mover) : (s.setMover m v).rel = s.rel := rfl
@[simp] theorem setMover_ext (m : Nat) (v : Mover) : (s.setMover m v).ext = s.ext := rfl

@[simp] theorem setTask_pending (n : Nat) (v : Task) : (s.setTask n v).pending = s.pending := rfl
@[simp] theorem setTask_out (n : Nat) (v : Task) : (s.setTask n v).out = s.out := rfl
@[simp] theorem setTask_entropy (n : Nat) (v : Task) : (s.setTask n v).entropy = s.entropy := rfl
@[simp] theorem setTask_time (n : Nat) (v : Task) : (s.setTask n v).time = s.time := rfl
@[simp] theorem setTask_sys (n : Nat) (v : Task) : (s.setTask n v).sys = s.sys := rfl
@[simp] theorem setTask_cls (n : Nat) (v : Task) : (s.setTask n v).cls = s.cls := rfl
@[simp] theorem setTask_movers (n : Nat) (v : Task) : (s.setTask n v).movers = s.movers := rfl
@[simp] theorem setTask_noc (n : Nat) (v : Task) : (s.setTask n v).noc = s.noc := rfl
@[simp] theorem setTask_hbm (n : Nat) (v : Task) : (s.setTask n v).hbm = s.hbm := rfl
@[simp] theorem setTask_loader (n : Nat) (v : Task) : (s.setTask n v).loader = s.loader := rfl
@[simp] theorem setTask_sec (n : Nat) (v : Task) : (s.setTask n v).sec = s.sec := rfl
@[simp] theorem setTask_host (n : Nat) (v : Task) : (s.setTask n v).host = s.host := rfl
@[simp] theorem setTask_rel (n : Nat) (v : Task) : (s.setTask n v).rel = s.rel := rfl
@[simp] theorem setTask_ext (n : Nat) (v : Task) : (s.setTask n v).ext = s.ext := rfl

@[simp] theorem setBreg_pending (n : Nat) (v : BRegion) : (s.setBreg n v).pending = s.pending := rfl
@[simp] theorem setBreg_out (n : Nat) (v : BRegion) : (s.setBreg n v).out = s.out := rfl
@[simp] theorem setBreg_entropy (n : Nat) (v : BRegion) : (s.setBreg n v).entropy = s.entropy := rfl
@[simp] theorem setBreg_time (n : Nat) (v : BRegion) : (s.setBreg n v).time = s.time := rfl
@[simp] theorem setBreg_sys (n : Nat) (v : BRegion) : (s.setBreg n v).sys = s.sys := rfl
@[simp] theorem setBreg_cls (n : Nat) (v : BRegion) : (s.setBreg n v).cls = s.cls := rfl
@[simp] theorem setBreg_movers (n : Nat) (v : BRegion) : (s.setBreg n v).movers = s.movers := rfl
@[simp] theorem setBreg_noc (n : Nat) (v : BRegion) : (s.setBreg n v).noc = s.noc := rfl
@[simp] theorem setBreg_hbm (n : Nat) (v : BRegion) : (s.setBreg n v).hbm = s.hbm := rfl
@[simp] theorem setBreg_loader (n : Nat) (v : BRegion) : (s.setBreg n v).loader = s.loader := rfl
@[simp] theorem setBreg_sec (n : Nat) (v : BRegion) : (s.setBreg n v).sec = s.sec := rfl
@[simp] theorem setBreg_host (n : Nat) (v : BRegion) : (s.setBreg n v).host = s.host := rfl
@[simp] theorem setBreg_rel (n : Nat) (v : BRegion) : (s.setBreg n v).rel = s.rel := rfl
@[simp] theorem setBreg_ext (n : Nat) (v : BRegion) : (s.setBreg n v).ext = s.ext := rfl

@[simp] theorem setTimer_pending (n : Nat) (v : Timer) : (s.setTimer n v).pending = s.pending := rfl
@[simp] theorem setTimer_out (n : Nat) (v : Timer) : (s.setTimer n v).out = s.out := rfl
@[simp] theorem setTimer_entropy (n : Nat) (v : Timer) : (s.setTimer n v).entropy = s.entropy := rfl
@[simp] theorem setTimer_time (n : Nat) (v : Timer) : (s.setTimer n v).time = s.time := rfl
@[simp] theorem setTimer_sys (n : Nat) (v : Timer) : (s.setTimer n v).sys = s.sys := rfl
@[simp] theorem setTimer_cls (n : Nat) (v : Timer) : (s.setTimer n v).cls = s.cls := rfl
@[simp] theorem setTimer_movers (n : Nat) (v : Timer) : (s.setTimer n v).movers = s.movers := rfl
@[simp] theorem setTimer_noc (n : Nat) (v : Timer) : (s.setTimer n v).noc = s.noc := rfl
@[simp] theorem setTimer_hbm (n : Nat) (v : Timer) : (s.setTimer n v).hbm = s.hbm := rfl
@[simp] theorem setTimer_loader (n : Nat) (v : Timer) : (s.setTimer n v).loader = s.loader := rfl
@[simp] theorem setTimer_sec (n : Nat) (v : Timer) : (s.setTimer n v).sec = s.sec := rfl
@[simp] theorem setTimer_host (n : Nat) (v : Timer) : (s.setTimer n v).host = s.host := rfl
@[simp] theorem setTimer_rel (n : Nat) (v : Timer) : (s.setTimer n v).rel = s.rel := rfl
@[simp] theorem setTimer_ext (n : Nat) (v : Timer) : (s.setTimer n v).ext = s.ext := rfl

@[simp] theorem setSrec_pending (n : Nat) (v : SeqRec) : (s.setSrec n v).pending = s.pending := rfl
@[simp] theorem setSrec_out (n : Nat) (v : SeqRec) : (s.setSrec n v).out = s.out := rfl
@[simp] theorem setSrec_entropy (n : Nat) (v : SeqRec) : (s.setSrec n v).entropy = s.entropy := rfl
@[simp] theorem setSrec_time (n : Nat) (v : SeqRec) : (s.setSrec n v).time = s.time := rfl
@[simp] theorem setSrec_sys (n : Nat) (v : SeqRec) : (s.setSrec n v).sys = s.sys := rfl
@[simp] theorem setSrec_cls (n : Nat) (v : SeqRec) : (s.setSrec n v).cls = s.cls := rfl
@[simp] theorem setSrec_movers (n : Nat) (v : SeqRec) : (s.setSrec n v).movers = s.movers := rfl
@[simp] theorem setSrec_noc (n : Nat) (v : SeqRec) : (s.setSrec n v).noc = s.noc := rfl
@[simp] theorem setSrec_hbm (n : Nat) (v : SeqRec) : (s.setSrec n v).hbm = s.hbm := rfl
@[simp] theorem setSrec_loader (n : Nat) (v : SeqRec) : (s.setSrec n v).loader = s.loader := rfl
@[simp] theorem setSrec_sec (n : Nat) (v : SeqRec) : (s.setSrec n v).sec = s.sec := rfl
@[simp] theorem setSrec_host (n : Nat) (v : SeqRec) : (s.setSrec n v).host = s.host := rfl
@[simp] theorem setSrec_rel (n : Nat) (v : SeqRec) : (s.setSrec n v).rel = s.rel := rfl
@[simp] theorem setSrec_ext (n : Nat) (v : SeqRec) : (s.setSrec n v).ext = s.ext := rfl

@[simp] theorem setRouter_pending (n : Nat) (v : Router) : (s.setRouter n v).pending = s.pending := rfl
@[simp] theorem setRouter_out (n : Nat) (v : Router) : (s.setRouter n v).out = s.out := rfl
@[simp] theorem setRouter_entropy (n : Nat) (v : Router) : (s.setRouter n v).entropy = s.entropy := rfl
@[simp] theorem setRouter_time (n : Nat) (v : Router) : (s.setRouter n v).time = s.time := rfl
@[simp] theorem setRouter_sys (n : Nat) (v : Router) : (s.setRouter n v).sys = s.sys := rfl
@[simp] theorem setRouter_cls (n : Nat) (v : Router) : (s.setRouter n v).cls = s.cls := rfl
@[simp] theorem setRouter_movers (n : Nat) (v : Router) : (s.setRouter n v).movers = s.movers := rfl
@[simp] theorem setRouter_belay (n : Nat) (v : Router) : (s.setRouter n v).belay = s.belay := rfl
@[simp] theorem setRouter_hbm (n : Nat) (v : Router) : (s.setRouter n v).hbm = s.hbm := rfl
@[simp] theorem setRouter_loader (n : Nat) (v : Router) : (s.setRouter n v).loader = s.loader := rfl
@[simp] theorem setRouter_sec (n : Nat) (v : Router) : (s.setRouter n v).sec = s.sec := rfl
@[simp] theorem setRouter_host (n : Nat) (v : Router) : (s.setRouter n v).host = s.host := rfl
@[simp] theorem setRouter_rel (n : Nat) (v : Router) : (s.setRouter n v).rel = s.rel := rfl
@[simp] theorem setRouter_ext (n : Nat) (v : Router) : (s.setRouter n v).ext = s.ext := rfl

@[simp] theorem setNoc_pending (n : Noc) : (s.setNoc n).pending = s.pending := rfl
@[simp] theorem setNoc_out (n : Noc) : (s.setNoc n).out = s.out := rfl
@[simp] theorem setNoc_entropy (n : Noc) : (s.setNoc n).entropy = s.entropy := rfl
@[simp] theorem setNoc_time (n : Noc) : (s.setNoc n).time = s.time := rfl
@[simp] theorem setNoc_sys (n : Noc) : (s.setNoc n).sys = s.sys := rfl
@[simp] theorem setNoc_cls (n : Noc) : (s.setNoc n).cls = s.cls := rfl
@[simp] theorem setNoc_movers (n : Noc) : (s.setNoc n).movers = s.movers := rfl
@[simp] theorem setNoc_belay (n : Noc) : (s.setNoc n).belay = s.belay := rfl
@[simp] theorem setNoc_hbm (n : Noc) : (s.setNoc n).hbm = s.hbm := rfl
@[simp] theorem setNoc_loader (n : Noc) : (s.setNoc n).loader = s.loader := rfl
@[simp] theorem setNoc_sec (n : Noc) : (s.setNoc n).sec = s.sec := rfl
@[simp] theorem setNoc_host (n : Noc) : (s.setNoc n).host = s.host := rfl
@[simp] theorem setNoc_rel (n : Noc) : (s.setNoc n).rel = s.rel := rfl
@[simp] theorem setNoc_ext (n : Noc) : (s.setNoc n).ext = s.ext := rfl
@[simp] theorem setNoc_noc (n : Noc) : (s.setNoc n).noc = n := rfl

@[simp] theorem setInit_pending (n : Nat) (v : Init) : (s.setInit n v).pending = s.pending := rfl
@[simp] theorem setInit_out (n : Nat) (v : Init) : (s.setInit n v).out = s.out := rfl
@[simp] theorem setInit_entropy (n : Nat) (v : Init) : (s.setInit n v).entropy = s.entropy := rfl
@[simp] theorem setInit_time (n : Nat) (v : Init) : (s.setInit n v).time = s.time := rfl
@[simp] theorem setInit_sys (n : Nat) (v : Init) : (s.setInit n v).sys = s.sys := rfl
@[simp] theorem setInit_cls (n : Nat) (v : Init) : (s.setInit n v).cls = s.cls := rfl
@[simp] theorem setInit_movers (n : Nat) (v : Init) : (s.setInit n v).movers = s.movers := rfl
@[simp] theorem setInit_belay (n : Nat) (v : Init) : (s.setInit n v).belay = s.belay := rfl
@[simp] theorem setInit_hbm (n : Nat) (v : Init) : (s.setInit n v).hbm = s.hbm := rfl
@[simp] theorem setInit_loader (n : Nat) (v : Init) : (s.setInit n v).loader = s.loader := rfl
@[simp] theorem setInit_sec (n : Nat) (v : Init) : (s.setInit n v).sec = s.sec := rfl
@[simp] theorem setInit_host (n : Nat) (v : Init) : (s.setInit n v).host = s.host := rfl
@[simp] theorem setInit_rel (n : Nat) (v : Init) : (s.setInit n v).rel = s.rel := rfl
@[simp] theorem setInit_ext (n : Nat) (v : Init) : (s.setInit n v).ext = s.ext := rfl

@[simp] theorem sendFrom_pending (a b : End) (p : Packet) : (s.sendFrom a b p).pending = s.pending := rfl
@[simp] theorem sendFrom_out (a b : End) (p : Packet) : (s.sendFrom a b p).out = s.out := rfl
@[simp] theorem sendFrom_entropy (a b : End) (p : Packet) : (s.sendFrom a b p).entropy = s.entropy := rfl
@[simp] theorem sendFrom_time (a b : End) (p : Packet) : (s.sendFrom a b p).time = s.time := rfl
@[simp] theorem sendFrom_sys (a b : End) (p : Packet) : (s.sendFrom a b p).sys = s.sys := rfl
@[simp] theorem sendFrom_cls (a b : End) (p : Packet) : (s.sendFrom a b p).cls = s.cls := rfl
@[simp] theorem sendFrom_movers (a b : End) (p : Packet) : (s.sendFrom a b p).movers = s.movers := rfl
@[simp] theorem sendFrom_belay (a b : End) (p : Packet) : (s.sendFrom a b p).belay = s.belay := rfl
@[simp] theorem sendFrom_hbm (a b : End) (p : Packet) : (s.sendFrom a b p).hbm = s.hbm := rfl
@[simp] theorem sendFrom_loader (a b : End) (p : Packet) : (s.sendFrom a b p).loader = s.loader := rfl
@[simp] theorem sendFrom_sec (a b : End) (p : Packet) : (s.sendFrom a b p).sec = s.sec := rfl
@[simp] theorem sendFrom_host (a b : End) (p : Packet) : (s.sendFrom a b p).host = s.host := rfl
@[simp] theorem sendFrom_rel (a b : End) (p : Packet) : (s.sendFrom a b p).rel = s.rel := rfl
@[simp] theorem sendFrom_ext (a b : End) (p : Packet) : (s.sendFrom a b p).ext = s.ext := rfl

@[simp] theorem sendReq_pending (b : End) (p : Packet) : (s.sendReq b p).pending = s.pending := rfl
@[simp] theorem sendReq_out (b : End) (p : Packet) : (s.sendReq b p).out = s.out := rfl
@[simp] theorem sendReq_entropy (b : End) (p : Packet) : (s.sendReq b p).entropy = s.entropy := rfl
@[simp] theorem sendReq_time (b : End) (p : Packet) : (s.sendReq b p).time = s.time := rfl
@[simp] theorem sendReq_sys (b : End) (p : Packet) : (s.sendReq b p).sys = s.sys := rfl
@[simp] theorem sendReq_cls (b : End) (p : Packet) : (s.sendReq b p).cls = s.cls := rfl
@[simp] theorem sendReq_movers (b : End) (p : Packet) : (s.sendReq b p).movers = s.movers := rfl
@[simp] theorem sendReq_belay (b : End) (p : Packet) : (s.sendReq b p).belay = s.belay := rfl
@[simp] theorem sendReq_hbm (b : End) (p : Packet) : (s.sendReq b p).hbm = s.hbm := rfl
@[simp] theorem sendReq_loader (b : End) (p : Packet) : (s.sendReq b p).loader = s.loader := rfl
@[simp] theorem sendReq_sec (b : End) (p : Packet) : (s.sendReq b p).sec = s.sec := rfl
@[simp] theorem sendReq_host (b : End) (p : Packet) : (s.sendReq b p).host = s.host := rfl
@[simp] theorem sendReq_rel (b : End) (p : Packet) : (s.sendReq b p).rel = s.rel := rfl
@[simp] theorem sendReq_ext (b : End) (p : Packet) : (s.sendReq b p).ext = s.ext := rfl

@[simp] theorem setStack_pending (n : Nat) (v : Stack) : (s.setStack n v).pending = s.pending := rfl
@[simp] theorem setStack_out (n : Nat) (v : Stack) : (s.setStack n v).out = s.out := rfl
@[simp] theorem setStack_entropy (n : Nat) (v : Stack) : (s.setStack n v).entropy = s.entropy := rfl
@[simp] theorem setStack_time (n : Nat) (v : Stack) : (s.setStack n v).time = s.time := rfl
@[simp] theorem setStack_sys (n : Nat) (v : Stack) : (s.setStack n v).sys = s.sys := rfl
@[simp] theorem setStack_cls (n : Nat) (v : Stack) : (s.setStack n v).cls = s.cls := rfl
@[simp] theorem setStack_movers (n : Nat) (v : Stack) : (s.setStack n v).movers = s.movers := rfl
@[simp] theorem setStack_belay (n : Nat) (v : Stack) : (s.setStack n v).belay = s.belay := rfl
@[simp] theorem setStack_noc (n : Nat) (v : Stack) : (s.setStack n v).noc = s.noc := rfl
@[simp] theorem setStack_loader (n : Nat) (v : Stack) : (s.setStack n v).loader = s.loader := rfl
@[simp] theorem setStack_sec (n : Nat) (v : Stack) : (s.setStack n v).sec = s.sec := rfl
@[simp] theorem setStack_host (n : Nat) (v : Stack) : (s.setStack n v).host = s.host := rfl
@[simp] theorem setStack_rel (n : Nat) (v : Stack) : (s.setStack n v).rel = s.rel := rfl
@[simp] theorem setStack_ext (n : Nat) (v : Stack) : (s.setStack n v).ext = s.ext := rfl

@[simp] theorem setPc_pending (n : Nat) (v : Pc) : (s.setPc n v).pending = s.pending := rfl
@[simp] theorem setPc_out (n : Nat) (v : Pc) : (s.setPc n v).out = s.out := rfl
@[simp] theorem setPc_entropy (n : Nat) (v : Pc) : (s.setPc n v).entropy = s.entropy := rfl
@[simp] theorem setPc_time (n : Nat) (v : Pc) : (s.setPc n v).time = s.time := rfl
@[simp] theorem setPc_sys (n : Nat) (v : Pc) : (s.setPc n v).sys = s.sys := rfl
@[simp] theorem setPc_cls (n : Nat) (v : Pc) : (s.setPc n v).cls = s.cls := rfl
@[simp] theorem setPc_movers (n : Nat) (v : Pc) : (s.setPc n v).movers = s.movers := rfl
@[simp] theorem setPc_belay (n : Nat) (v : Pc) : (s.setPc n v).belay = s.belay := rfl
@[simp] theorem setPc_noc (n : Nat) (v : Pc) : (s.setPc n v).noc = s.noc := rfl
@[simp] theorem setPc_loader (n : Nat) (v : Pc) : (s.setPc n v).loader = s.loader := rfl
@[simp] theorem setPc_sec (n : Nat) (v : Pc) : (s.setPc n v).sec = s.sec := rfl
@[simp] theorem setPc_host (n : Nat) (v : Pc) : (s.setPc n v).host = s.host := rfl
@[simp] theorem setPc_rel (n : Nat) (v : Pc) : (s.setPc n v).rel = s.rel := rfl
@[simp] theorem setPc_ext (n : Nat) (v : Pc) : (s.setPc n v).ext = s.ext := rfl

@[simp] theorem setBus_pending (n : Nat) (v : CmdBus) : (s.setBus n v).pending = s.pending := rfl
@[simp] theorem setBus_out (n : Nat) (v : CmdBus) : (s.setBus n v).out = s.out := rfl
@[simp] theorem setBus_entropy (n : Nat) (v : CmdBus) : (s.setBus n v).entropy = s.entropy := rfl
@[simp] theorem setBus_time (n : Nat) (v : CmdBus) : (s.setBus n v).time = s.time := rfl
@[simp] theorem setBus_sys (n : Nat) (v : CmdBus) : (s.setBus n v).sys = s.sys := rfl
@[simp] theorem setBus_cls (n : Nat) (v : CmdBus) : (s.setBus n v).cls = s.cls := rfl
@[simp] theorem setBus_movers (n : Nat) (v : CmdBus) : (s.setBus n v).movers = s.movers := rfl
@[simp] theorem setBus_belay (n : Nat) (v : CmdBus) : (s.setBus n v).belay = s.belay := rfl
@[simp] theorem setBus_noc (n : Nat) (v : CmdBus) : (s.setBus n v).noc = s.noc := rfl
@[simp] theorem setBus_loader (n : Nat) (v : CmdBus) : (s.setBus n v).loader = s.loader := rfl
@[simp] theorem setBus_sec (n : Nat) (v : CmdBus) : (s.setBus n v).sec = s.sec := rfl
@[simp] theorem setBus_host (n : Nat) (v : CmdBus) : (s.setBus n v).host = s.host := rfl
@[simp] theorem setBus_rel (n : Nat) (v : CmdBus) : (s.setBus n v).rel = s.rel := rfl
@[simp] theorem setBus_ext (n : Nat) (v : CmdBus) : (s.setBus n v).ext = s.ext := rfl

@[simp] theorem setCtx_pending (n : Nat) (v : LoadCtx) : (s.setCtx n v).pending = s.pending := rfl
@[simp] theorem setCtx_out (n : Nat) (v : LoadCtx) : (s.setCtx n v).out = s.out := rfl
@[simp] theorem setCtx_entropy (n : Nat) (v : LoadCtx) : (s.setCtx n v).entropy = s.entropy := rfl
@[simp] theorem setCtx_time (n : Nat) (v : LoadCtx) : (s.setCtx n v).time = s.time := rfl
@[simp] theorem setCtx_sys (n : Nat) (v : LoadCtx) : (s.setCtx n v).sys = s.sys := rfl
@[simp] theorem setCtx_cls (n : Nat) (v : LoadCtx) : (s.setCtx n v).cls = s.cls := rfl
@[simp] theorem setCtx_movers (n : Nat) (v : LoadCtx) : (s.setCtx n v).movers = s.movers := rfl
@[simp] theorem setCtx_belay (n : Nat) (v : LoadCtx) : (s.setCtx n v).belay = s.belay := rfl
@[simp] theorem setCtx_noc (n : Nat) (v : LoadCtx) : (s.setCtx n v).noc = s.noc := rfl
@[simp] theorem setCtx_hbm (n : Nat) (v : LoadCtx) : (s.setCtx n v).hbm = s.hbm := rfl
@[simp] theorem setCtx_sec (n : Nat) (v : LoadCtx) : (s.setCtx n v).sec = s.sec := rfl
@[simp] theorem setCtx_host (n : Nat) (v : LoadCtx) : (s.setCtx n v).host = s.host := rfl
@[simp] theorem setCtx_rel (n : Nat) (v : LoadCtx) : (s.setCtx n v).rel = s.rel := rfl
@[simp] theorem setCtx_ext (n : Nat) (v : LoadCtx) : (s.setCtx n v).ext = s.ext := rfl

@[simp] theorem setRope_pending (v : Rope) : (s.setRope v).pending = s.pending := rfl
@[simp] theorem setRope_out (v : Rope) : (s.setRope v).out = s.out := rfl
@[simp] theorem setRope_entropy (v : Rope) : (s.setRope v).entropy = s.entropy := rfl
@[simp] theorem setRope_time (v : Rope) : (s.setRope v).time = s.time := rfl
@[simp] theorem setRope_sys (v : Rope) : (s.setRope v).sys = s.sys := rfl
@[simp] theorem setRope_cls (v : Rope) : (s.setRope v).cls = s.cls := rfl
@[simp] theorem setRope_movers (v : Rope) : (s.setRope v).movers = s.movers := rfl
@[simp] theorem setRope_belay (v : Rope) : (s.setRope v).belay = s.belay := rfl
@[simp] theorem setRope_noc (v : Rope) : (s.setRope v).noc = s.noc := rfl
@[simp] theorem setRope_hbm (v : Rope) : (s.setRope v).hbm = s.hbm := rfl
@[simp] theorem setRope_sec (v : Rope) : (s.setRope v).sec = s.sec := rfl
@[simp] theorem setRope_host (v : Rope) : (s.setRope v).host = s.host := rfl
@[simp] theorem setRope_rel (v : Rope) : (s.setRope v).rel = s.rel := rfl
@[simp] theorem setRope_ext (v : Rope) : (s.setRope v).ext = s.ext := rfl

@[simp] theorem setRegion_pending (n : Nat) (v : Option Region) : (s.setRegion n v).pending = s.pending := rfl
@[simp] theorem setRegion_out (n : Nat) (v : Option Region) : (s.setRegion n v).out = s.out := rfl
@[simp] theorem setRegion_entropy (n : Nat) (v : Option Region) : (s.setRegion n v).entropy = s.entropy := rfl
@[simp] theorem setRegion_time (n : Nat) (v : Option Region) : (s.setRegion n v).time = s.time := rfl
@[simp] theorem setRegion_sys (n : Nat) (v : Option Region) : (s.setRegion n v).sys = s.sys := rfl
@[simp] theorem setRegion_cls (n : Nat) (v : Option Region) : (s.setRegion n v).cls = s.cls := rfl
@[simp] theorem setRegion_movers (n : Nat) (v : Option Region) : (s.setRegion n v).movers = s.movers := rfl
@[simp] theorem setRegion_belay (n : Nat) (v : Option Region) : (s.setRegion n v).belay = s.belay := rfl
@[simp] theorem setRegion_noc (n : Nat) (v : Option Region) : (s.setRegion n v).noc = s.noc := rfl
@[simp] theorem setRegion_hbm (n : Nat) (v : Option Region) : (s.setRegion n v).hbm = s.hbm := rfl
@[simp] theorem setRegion_loader (n : Nat) (v : Option Region) : (s.setRegion n v).loader = s.loader := rfl
@[simp] theorem setRegion_host (n : Nat) (v : Option Region) : (s.setRegion n v).host = s.host := rfl
@[simp] theorem setRegion_rel (n : Nat) (v : Option Region) : (s.setRegion n v).rel = s.rel := rfl
@[simp] theorem setRegion_ext (n : Nat) (v : Option Region) : (s.setRegion n v).ext = s.ext := rfl

@[simp] theorem setSpdm_pending (n : Nat) (v : Spdm) : (s.setSpdm n v).pending = s.pending := rfl
@[simp] theorem setSpdm_out (n : Nat) (v : Spdm) : (s.setSpdm n v).out = s.out := rfl
@[simp] theorem setSpdm_entropy (n : Nat) (v : Spdm) : (s.setSpdm n v).entropy = s.entropy := rfl
@[simp] theorem setSpdm_time (n : Nat) (v : Spdm) : (s.setSpdm n v).time = s.time := rfl
@[simp] theorem setSpdm_sys (n : Nat) (v : Spdm) : (s.setSpdm n v).sys = s.sys := rfl
@[simp] theorem setSpdm_cls (n : Nat) (v : Spdm) : (s.setSpdm n v).cls = s.cls := rfl
@[simp] theorem setSpdm_movers (n : Nat) (v : Spdm) : (s.setSpdm n v).movers = s.movers := rfl
@[simp] theorem setSpdm_belay (n : Nat) (v : Spdm) : (s.setSpdm n v).belay = s.belay := rfl
@[simp] theorem setSpdm_noc (n : Nat) (v : Spdm) : (s.setSpdm n v).noc = s.noc := rfl
@[simp] theorem setSpdm_hbm (n : Nat) (v : Spdm) : (s.setSpdm n v).hbm = s.hbm := rfl
@[simp] theorem setSpdm_loader (n : Nat) (v : Spdm) : (s.setSpdm n v).loader = s.loader := rfl
@[simp] theorem setSpdm_host (n : Nat) (v : Spdm) : (s.setSpdm n v).host = s.host := rfl
@[simp] theorem setSpdm_rel (n : Nat) (v : Spdm) : (s.setSpdm n v).rel = s.rel := rfl
@[simp] theorem setSpdm_ext (n : Nat) (v : Spdm) : (s.setSpdm n v).ext = s.ext := rfl

@[simp] theorem setKey_pending (n : Nat) (v : Option (List Byte)) : (s.setKey n v).pending = s.pending := rfl
@[simp] theorem setKey_out (n : Nat) (v : Option (List Byte)) : (s.setKey n v).out = s.out := rfl
@[simp] theorem setKey_entropy (n : Nat) (v : Option (List Byte)) : (s.setKey n v).entropy = s.entropy := rfl
@[simp] theorem setKey_time (n : Nat) (v : Option (List Byte)) : (s.setKey n v).time = s.time := rfl
@[simp] theorem setKey_sys (n : Nat) (v : Option (List Byte)) : (s.setKey n v).sys = s.sys := rfl
@[simp] theorem setKey_cls (n : Nat) (v : Option (List Byte)) : (s.setKey n v).cls = s.cls := rfl
@[simp] theorem setKey_movers (n : Nat) (v : Option (List Byte)) : (s.setKey n v).movers = s.movers := rfl
@[simp] theorem setKey_belay (n : Nat) (v : Option (List Byte)) : (s.setKey n v).belay = s.belay := rfl
@[simp] theorem setKey_noc (n : Nat) (v : Option (List Byte)) : (s.setKey n v).noc = s.noc := rfl
@[simp] theorem setKey_hbm (n : Nat) (v : Option (List Byte)) : (s.setKey n v).hbm = s.hbm := rfl
@[simp] theorem setKey_loader (n : Nat) (v : Option (List Byte)) : (s.setKey n v).loader = s.loader := rfl
@[simp] theorem setKey_host (n : Nat) (v : Option (List Byte)) : (s.setKey n v).host = s.host := rfl
@[simp] theorem setKey_rel (n : Nat) (v : Option (List Byte)) : (s.setKey n v).rel = s.rel := rfl
@[simp] theorem setKey_ext (n : Nat) (v : Option (List Byte)) : (s.setKey n v).ext = s.ext := rfl

@[simp] theorem setSigner_pending (n : Nat) (v : Signer) : (s.setSigner n v).pending = s.pending := rfl
@[simp] theorem setSigner_out (n : Nat) (v : Signer) : (s.setSigner n v).out = s.out := rfl
@[simp] theorem setSigner_entropy (n : Nat) (v : Signer) : (s.setSigner n v).entropy = s.entropy := rfl
@[simp] theorem setSigner_time (n : Nat) (v : Signer) : (s.setSigner n v).time = s.time := rfl
@[simp] theorem setSigner_sys (n : Nat) (v : Signer) : (s.setSigner n v).sys = s.sys := rfl
@[simp] theorem setSigner_cls (n : Nat) (v : Signer) : (s.setSigner n v).cls = s.cls := rfl
@[simp] theorem setSigner_movers (n : Nat) (v : Signer) : (s.setSigner n v).movers = s.movers := rfl
@[simp] theorem setSigner_belay (n : Nat) (v : Signer) : (s.setSigner n v).belay = s.belay := rfl
@[simp] theorem setSigner_noc (n : Nat) (v : Signer) : (s.setSigner n v).noc = s.noc := rfl
@[simp] theorem setSigner_hbm (n : Nat) (v : Signer) : (s.setSigner n v).hbm = s.hbm := rfl
@[simp] theorem setSigner_loader (n : Nat) (v : Signer) : (s.setSigner n v).loader = s.loader := rfl
@[simp] theorem setSigner_host (n : Nat) (v : Signer) : (s.setSigner n v).host = s.host := rfl
@[simp] theorem setSigner_rel (n : Nat) (v : Signer) : (s.setSigner n v).rel = s.rel := rfl
@[simp] theorem setSigner_ext (n : Nat) (v : Signer) : (s.setSigner n v).ext = s.ext := rfl

@[simp] theorem setPort_pending (n : Nat) (v : Port) : (s.setPort n v).pending = s.pending := rfl
@[simp] theorem setPort_out (n : Nat) (v : Port) : (s.setPort n v).out = s.out := rfl
@[simp] theorem setPort_entropy (n : Nat) (v : Port) : (s.setPort n v).entropy = s.entropy := rfl
@[simp] theorem setPort_time (n : Nat) (v : Port) : (s.setPort n v).time = s.time := rfl
@[simp] theorem setPort_sys (n : Nat) (v : Port) : (s.setPort n v).sys = s.sys := rfl
@[simp] theorem setPort_cls (n : Nat) (v : Port) : (s.setPort n v).cls = s.cls := rfl
@[simp] theorem setPort_movers (n : Nat) (v : Port) : (s.setPort n v).movers = s.movers := rfl
@[simp] theorem setPort_belay (n : Nat) (v : Port) : (s.setPort n v).belay = s.belay := rfl
@[simp] theorem setPort_noc (n : Nat) (v : Port) : (s.setPort n v).noc = s.noc := rfl
@[simp] theorem setPort_hbm (n : Nat) (v : Port) : (s.setPort n v).hbm = s.hbm := rfl
@[simp] theorem setPort_loader (n : Nat) (v : Port) : (s.setPort n v).loader = s.loader := rfl
@[simp] theorem setPort_sec (n : Nat) (v : Port) : (s.setPort n v).sec = s.sec := rfl
@[simp] theorem setPort_rel (n : Nat) (v : Port) : (s.setPort n v).rel = s.rel := rfl
@[simp] theorem setPort_ext (n : Nat) (v : Port) : (s.setPort n v).ext = s.ext := rfl

@[simp] theorem setFunc_pending (p f : Nat) (v : Func) : (s.setFunc p f v).pending = s.pending := rfl
@[simp] theorem setFunc_out (p f : Nat) (v : Func) : (s.setFunc p f v).out = s.out := rfl
@[simp] theorem setFunc_entropy (p f : Nat) (v : Func) : (s.setFunc p f v).entropy = s.entropy := rfl
@[simp] theorem setFunc_time (p f : Nat) (v : Func) : (s.setFunc p f v).time = s.time := rfl
@[simp] theorem setFunc_sys (p f : Nat) (v : Func) : (s.setFunc p f v).sys = s.sys := rfl
@[simp] theorem setFunc_cls (p f : Nat) (v : Func) : (s.setFunc p f v).cls = s.cls := rfl
@[simp] theorem setFunc_movers (p f : Nat) (v : Func) : (s.setFunc p f v).movers = s.movers := rfl
@[simp] theorem setFunc_belay (p f : Nat) (v : Func) : (s.setFunc p f v).belay = s.belay := rfl
@[simp] theorem setFunc_noc (p f : Nat) (v : Func) : (s.setFunc p f v).noc = s.noc := rfl
@[simp] theorem setFunc_hbm (p f : Nat) (v : Func) : (s.setFunc p f v).hbm = s.hbm := rfl
@[simp] theorem setFunc_loader (p f : Nat) (v : Func) : (s.setFunc p f v).loader = s.loader := rfl
@[simp] theorem setFunc_sec (p f : Nat) (v : Func) : (s.setFunc p f v).sec = s.sec := rfl
@[simp] theorem setFunc_rel (p f : Nat) (v : Func) : (s.setFunc p f v).rel = s.rel := rfl
@[simp] theorem setFunc_ext (p f : Nat) (v : Func) : (s.setFunc p f v).ext = s.ext := rfl

@[simp] theorem setOwner_pending (v : OwnerPort) : (s.setOwner v).pending = s.pending := rfl
@[simp] theorem setOwner_out (v : OwnerPort) : (s.setOwner v).out = s.out := rfl
@[simp] theorem setOwner_entropy (v : OwnerPort) : (s.setOwner v).entropy = s.entropy := rfl
@[simp] theorem setOwner_time (v : OwnerPort) : (s.setOwner v).time = s.time := rfl
@[simp] theorem setOwner_sys (v : OwnerPort) : (s.setOwner v).sys = s.sys := rfl
@[simp] theorem setOwner_cls (v : OwnerPort) : (s.setOwner v).cls = s.cls := rfl
@[simp] theorem setOwner_movers (v : OwnerPort) : (s.setOwner v).movers = s.movers := rfl
@[simp] theorem setOwner_belay (v : OwnerPort) : (s.setOwner v).belay = s.belay := rfl
@[simp] theorem setOwner_noc (v : OwnerPort) : (s.setOwner v).noc = s.noc := rfl
@[simp] theorem setOwner_hbm (v : OwnerPort) : (s.setOwner v).hbm = s.hbm := rfl
@[simp] theorem setOwner_loader (v : OwnerPort) : (s.setOwner v).loader = s.loader := rfl
@[simp] theorem setOwner_sec (v : OwnerPort) : (s.setOwner v).sec = s.sec := rfl
@[simp] theorem setOwner_rel (v : OwnerPort) : (s.setOwner v).rel = s.rel := rfl
@[simp] theorem setOwner_ext (v : OwnerPort) : (s.setOwner v).ext = s.ext := rfl

@[simp] theorem setRunning_pending (l : List Running) : (s.setRunning l).pending = s.pending := rfl
@[simp] theorem setRunning_out (l : List Running) : (s.setRunning l).out = s.out := rfl
@[simp] theorem setRunning_entropy (l : List Running) : (s.setRunning l).entropy = s.entropy := rfl
@[simp] theorem setRunning_time (l : List Running) : (s.setRunning l).time = s.time := rfl
@[simp] theorem setRunning_sys (l : List Running) : (s.setRunning l).sys = s.sys := rfl
@[simp] theorem setRunning_cls (l : List Running) : (s.setRunning l).cls = s.cls := rfl
@[simp] theorem setRunning_movers (l : List Running) : (s.setRunning l).movers = s.movers := rfl
@[simp] theorem setRunning_belay (l : List Running) : (s.setRunning l).belay = s.belay := rfl
@[simp] theorem setRunning_noc (l : List Running) : (s.setRunning l).noc = s.noc := rfl
@[simp] theorem setRunning_hbm (l : List Running) : (s.setRunning l).hbm = s.hbm := rfl
@[simp] theorem setRunning_loader (l : List Running) : (s.setRunning l).loader = s.loader := rfl
@[simp] theorem setRunning_sec (l : List Running) : (s.setRunning l).sec = s.sec := rfl
@[simp] theorem setRunning_rel (l : List Running) : (s.setRunning l).rel = s.rel := rfl
@[simp] theorem setRunning_ext (l : List Running) : (s.setRunning l).ext = s.ext := rfl

@[simp] theorem setSmap_pending (n : Nat) (v : SpareEntry) : (s.setSmap n v).pending = s.pending := rfl
@[simp] theorem setSmap_out (n : Nat) (v : SpareEntry) : (s.setSmap n v).out = s.out := rfl
@[simp] theorem setSmap_entropy (n : Nat) (v : SpareEntry) : (s.setSmap n v).entropy = s.entropy := rfl
@[simp] theorem setSmap_time (n : Nat) (v : SpareEntry) : (s.setSmap n v).time = s.time := rfl
@[simp] theorem setSmap_sys (n : Nat) (v : SpareEntry) : (s.setSmap n v).sys = s.sys := rfl
@[simp] theorem setSmap_cls (n : Nat) (v : SpareEntry) : (s.setSmap n v).cls = s.cls := rfl
@[simp] theorem setSmap_movers (n : Nat) (v : SpareEntry) : (s.setSmap n v).movers = s.movers := rfl
@[simp] theorem setSmap_belay (n : Nat) (v : SpareEntry) : (s.setSmap n v).belay = s.belay := rfl
@[simp] theorem setSmap_noc (n : Nat) (v : SpareEntry) : (s.setSmap n v).noc = s.noc := rfl
@[simp] theorem setSmap_hbm (n : Nat) (v : SpareEntry) : (s.setSmap n v).hbm = s.hbm := rfl
@[simp] theorem setSmap_loader (n : Nat) (v : SpareEntry) : (s.setSmap n v).loader = s.loader := rfl
@[simp] theorem setSmap_sec (n : Nat) (v : SpareEntry) : (s.setSmap n v).sec = s.sec := rfl
@[simp] theorem setSmap_host (n : Nat) (v : SpareEntry) : (s.setSmap n v).host = s.host := rfl
@[simp] theorem setSmap_ext (n : Nat) (v : SpareEntry) : (s.setSmap n v).ext = s.ext := rfl

@[simp] theorem setEth_pending (n : Nat) (v : Eth) : (s.setEth n v).pending = s.pending := rfl
@[simp] theorem setEth_out (n : Nat) (v : Eth) : (s.setEth n v).out = s.out := rfl
@[simp] theorem setEth_entropy (n : Nat) (v : Eth) : (s.setEth n v).entropy = s.entropy := rfl
@[simp] theorem setEth_time (n : Nat) (v : Eth) : (s.setEth n v).time = s.time := rfl
@[simp] theorem setEth_sys (n : Nat) (v : Eth) : (s.setEth n v).sys = s.sys := rfl
@[simp] theorem setEth_cls (n : Nat) (v : Eth) : (s.setEth n v).cls = s.cls := rfl
@[simp] theorem setEth_movers (n : Nat) (v : Eth) : (s.setEth n v).movers = s.movers := rfl
@[simp] theorem setEth_belay (n : Nat) (v : Eth) : (s.setEth n v).belay = s.belay := rfl
@[simp] theorem setEth_noc (n : Nat) (v : Eth) : (s.setEth n v).noc = s.noc := rfl
@[simp] theorem setEth_hbm (n : Nat) (v : Eth) : (s.setEth n v).hbm = s.hbm := rfl
@[simp] theorem setEth_loader (n : Nat) (v : Eth) : (s.setEth n v).loader = s.loader := rfl
@[simp] theorem setEth_sec (n : Nat) (v : Eth) : (s.setEth n v).sec = s.sec := rfl
@[simp] theorem setEth_host (n : Nat) (v : Eth) : (s.setEth n v).host = s.host := rfl
@[simp] theorem setEth_rel (n : Nat) (v : Eth) : (s.setEth n v).rel = s.rel := rfl

@[simp] theorem setSess_pending (n : Nat) (v : Sess) : (s.setSess n v).pending = s.pending := rfl
@[simp] theorem setSess_out (n : Nat) (v : Sess) : (s.setSess n v).out = s.out := rfl
@[simp] theorem setSess_entropy (n : Nat) (v : Sess) : (s.setSess n v).entropy = s.entropy := rfl
@[simp] theorem setSess_time (n : Nat) (v : Sess) : (s.setSess n v).time = s.time := rfl
@[simp] theorem setSess_sys (n : Nat) (v : Sess) : (s.setSess n v).sys = s.sys := rfl
@[simp] theorem setSess_cls (n : Nat) (v : Sess) : (s.setSess n v).cls = s.cls := rfl
@[simp] theorem setSess_movers (n : Nat) (v : Sess) : (s.setSess n v).movers = s.movers := rfl
@[simp] theorem setSess_belay (n : Nat) (v : Sess) : (s.setSess n v).belay = s.belay := rfl
@[simp] theorem setSess_noc (n : Nat) (v : Sess) : (s.setSess n v).noc = s.noc := rfl
@[simp] theorem setSess_hbm (n : Nat) (v : Sess) : (s.setSess n v).hbm = s.hbm := rfl
@[simp] theorem setSess_loader (n : Nat) (v : Sess) : (s.setSess n v).loader = s.loader := rfl
@[simp] theorem setSess_sec (n : Nat) (v : Sess) : (s.setSess n v).sec = s.sec := rfl
@[simp] theorem setSess_host (n : Nat) (v : Sess) : (s.setSess n v).host = s.host := rfl
@[simp] theorem setSess_rel (n : Nat) (v : Sess) : (s.setSess n v).rel = s.rel := rfl

@[simp] theorem setBank_pending (n : Nat) (v : Bank) : (s.setBank n v).pending = s.pending := rfl
@[simp] theorem setBank_out (n : Nat) (v : Bank) : (s.setBank n v).out = s.out := rfl
@[simp] theorem setBank_entropy (n : Nat) (v : Bank) : (s.setBank n v).entropy = s.entropy := rfl
@[simp] theorem setBank_time (n : Nat) (v : Bank) : (s.setBank n v).time = s.time := rfl
@[simp] theorem setBank_sys (n : Nat) (v : Bank) : (s.setBank n v).sys = s.sys := rfl
@[simp] theorem setBank_cls (n : Nat) (v : Bank) : (s.setBank n v).cls = s.cls := rfl
@[simp] theorem setBank_movers (n : Nat) (v : Bank) : (s.setBank n v).movers = s.movers := rfl
@[simp] theorem setBank_belay (n : Nat) (v : Bank) : (s.setBank n v).belay = s.belay := rfl
@[simp] theorem setBank_noc (n : Nat) (v : Bank) : (s.setBank n v).noc = s.noc := rfl
@[simp] theorem setBank_hbm (n : Nat) (v : Bank) : (s.setBank n v).hbm = s.hbm := rfl
@[simp] theorem setBank_loader (n : Nat) (v : Bank) : (s.setBank n v).loader = s.loader := rfl
@[simp] theorem setBank_sec (n : Nat) (v : Bank) : (s.setBank n v).sec = s.sec := rfl
@[simp] theorem setBank_host (n : Nat) (v : Bank) : (s.setBank n v).host = s.host := rfl
@[simp] theorem setBank_rel (n : Nat) (v : Bank) : (s.setBank n v).rel = s.rel := rfl

@[simp] theorem emit_pending (o : Output) : (s.emit o).pending = s.pending := rfl
@[simp] theorem emit_entropy (o : Output) : (s.emit o).entropy = s.entropy := rfl
@[simp] theorem emit_time (o : Output) : (s.emit o).time = s.time := rfl
@[simp] theorem emit_sys (o : Output) : (s.emit o).sys = s.sys := rfl
@[simp] theorem emit_cls (o : Output) : (s.emit o).cls = s.cls := rfl
@[simp] theorem emit_movers (o : Output) : (s.emit o).movers = s.movers := rfl
@[simp] theorem emit_belay (o : Output) : (s.emit o).belay = s.belay := rfl
@[simp] theorem emit_noc (o : Output) : (s.emit o).noc = s.noc := rfl
@[simp] theorem emit_hbm (o : Output) : (s.emit o).hbm = s.hbm := rfl
@[simp] theorem emit_loader (o : Output) : (s.emit o).loader = s.loader := rfl
@[simp] theorem emit_sec (o : Output) : (s.emit o).sec = s.sec := rfl
@[simp] theorem emit_host (o : Output) : (s.emit o).host = s.host := rfl
@[simp] theorem emit_rel (o : Output) : (s.emit o).rel = s.rel := rfl
@[simp] theorem emit_ext (o : Output) : (s.emit o).ext = s.ext := rfl

end Sys2Proof.Machine
end

