-- ==== Sys2Proof/Laws/Get.lean ====
section
/-! SUPPORT. What is written into a part of the state is read back, and the parts of other indices stay. -/

namespace Sys2Proof.Machine

variable (s : State)

@[simp] theorem cl_setCl (i : Nat) (v : Cluster) : (s.setCl i v).cl i = v := sget_sput_same _ _ _ _
theorem cl_setCl_ne {i j : Nat} (v : Cluster) (h : j ≠ i) : (s.setCl i v).cl j = s.cl j := sget_sput_other _ _ _ h
@[simp] theorem mover_setMover (i : Nat) (v : Mover) : (s.setMover i v).mover i = v := sget_sput_same _ _ _ _
theorem mover_setMover_ne {i j : Nat} (v : Mover) (h : j ≠ i) : (s.setMover i v).mover j = s.mover j := sget_sput_other _ _ _ h
@[simp] theorem task_setTask (i : Nat) (v : Task) : (s.setTask i v).task i = v := sget_sput_same _ _ _ _
theorem task_setTask_ne {i j : Nat} (v : Task) (h : j ≠ i) : (s.setTask i v).task j = s.task j := sget_sput_other _ _ _ h
@[simp] theorem breg_setBreg (i : Nat) (v : BRegion) : (s.setBreg i v).breg i = v := sget_sput_same _ _ _ _
theorem breg_setBreg_ne {i j : Nat} (v : BRegion) (h : j ≠ i) : (s.setBreg i v).breg j = s.breg j := sget_sput_other _ _ _ h
@[simp] theorem timer_setTimer (i : Nat) (v : Timer) : (s.setTimer i v).timer i = v := sget_sput_same _ _ _ _
theorem timer_setTimer_ne {i j : Nat} (v : Timer) (h : j ≠ i) : (s.setTimer i v).timer j = s.timer j := sget_sput_other _ _ _ h
@[simp] theorem srec_setSrec (i : Nat) (v : SeqRec) : (s.setSrec i v).srec i = v := sget_sput_same _ _ _ _
theorem srec_setSrec_ne {i j : Nat} (v : SeqRec) (h : j ≠ i) : (s.setSrec i v).srec j = s.srec j := sget_sput_other _ _ _ h
@[simp] theorem router_setRouter (i : Nat) (v : Router) : (s.setRouter i v).router i = v := sget_sput_same _ _ _ _
theorem router_setRouter_ne {i j : Nat} (v : Router) (h : j ≠ i) : (s.setRouter i v).router j = s.router j := sget_sput_other _ _ _ h
@[simp] theorem init_setInit (i : Nat) (v : Init) : (s.setInit i v).init i = v := sget_sput_same _ _ _ _
theorem init_setInit_ne {i j : Nat} (v : Init) (h : j ≠ i) : (s.setInit i v).init j = s.init j := sget_sput_other _ _ _ h
@[simp] theorem stack_setStack (i : Nat) (v : Stack) : (s.setStack i v).stack i = v := sget_sput_same _ _ _ _
theorem stack_setStack_ne {i j : Nat} (v : Stack) (h : j ≠ i) : (s.setStack i v).stack j = s.stack j := sget_sput_other _ _ _ h
@[simp] theorem pc_setPc (i : Nat) (v : Pc) : (s.setPc i v).pc i = v := sget_sput_same _ _ _ _
theorem pc_setPc_ne {i j : Nat} (v : Pc) (h : j ≠ i) : (s.setPc i v).pc j = s.pc j := sget_sput_other _ _ _ h
@[simp] theorem ctx_setCtx (i : Nat) (v : LoadCtx) : (s.setCtx i v).ctx i = v := sget_sput_same _ _ _ _
theorem ctx_setCtx_ne {i j : Nat} (v : LoadCtx) (h : j ≠ i) : (s.setCtx i v).ctx j = s.ctx j := sget_sput_other _ _ _ h
@[simp] theorem region_setRegion (i : Nat) (v : Option Region) : (s.setRegion i v).region i = v := sget_sput_same _ _ _ _
theorem region_setRegion_ne {i j : Nat} (v : Option Region) (h : j ≠ i) : (s.setRegion i v).region j = s.region j := sget_sput_other _ _ _ h
@[simp] theorem spdm_setSpdm (i : Nat) (v : Spdm) : (s.setSpdm i v).spdm i = v := sget_sput_same _ _ _ _
theorem spdm_setSpdm_ne {i j : Nat} (v : Spdm) (h : j ≠ i) : (s.setSpdm i v).spdm j = s.spdm j := sget_sput_other _ _ _ h
@[simp] theorem setKey_keyless (i : Nat) (v : Option (List Byte)) : (s.setKey i v).keyless = s.keyless := rfl
/-- A key written is read back, but where no key is kept any more (R354). -/
theorem key_setKey (i : Nat) (v : Option (List Byte)) : (s.setKey i v).key i = if v.isSome && s.keyless then s.key i else v := by
  simp only [State.setKey, State.key]; split <;> simp
theorem key_setKey_ne {i j : Nat} (v : Option (List Byte)) (h : j ≠ i) : (s.setKey i v).key j = s.key j := by
  simp only [State.setKey, State.key]; split
  · rfl
  · exact sget_sput_other _ _ _ h
@[simp] theorem port_setPort (i : Nat) (v : Port) : (s.setPort i v).port i = v := sget_sput_same _ _ _ _
theorem port_setPort_ne {i j : Nat} (v : Port) (h : j ≠ i) : (s.setPort i v).port j = s.port j := sget_sput_other _ _ _ h
@[simp] theorem smap_setSmap (i : Nat) (v : SpareEntry) : (s.setSmap i v).smap i = v := sget_sput_same _ _ _ _
theorem smap_setSmap_ne {i j : Nat} (v : SpareEntry) (h : j ≠ i) : (s.setSmap i v).smap j = s.smap j := sget_sput_other _ _ _ h
@[simp] theorem eth_setEth (i : Nat) (v : Eth) : (s.setEth i v).eth i = v := sget_sput_same _ _ _ _
theorem eth_setEth_ne {i j : Nat} (v : Eth) (h : j ≠ i) : (s.setEth i v).eth j = s.eth j := sget_sput_other _ _ _ h
@[simp] theorem sess_setSess (i : Nat) (v : Sess) : (s.setSess i v).sess i = v := sget_sput_same _ _ _ _
theorem sess_setSess_ne {i j : Nat} (v : Sess) (h : j ≠ i) : (s.setSess i v).sess j = s.sess j := sget_sput_other _ _ _ h
@[simp] theorem bank_setBank (i : Nat) (v : Bank) : (s.setBank i v).bank i = v := sget_sput_same _ _ _ _
theorem bank_setBank_ne {i j : Nat} (v : Bank) (h : j ≠ i) : (s.setBank i v).bank j = s.bank j := sget_sput_other _ _ _ h
@[simp] theorem cl_updCl (i : Nat) (f : Cluster → Cluster) : (s.updCl i f).cl i = f (s.cl i) := cl_setCl s i _
theorem cl_updCl_ne {i j : Nat} (f : Cluster → Cluster) (h : j ≠ i) : (s.updCl i f).cl j = s.cl j := cl_setCl_ne s _ h
@[simp] theorem seq_setSeq (i : Nat) (v : Seq) : (s.setSeq i v).seq i = v := by simp [State.setSeq, State.seq]
theorem seq_setSeq_ne {i j : Nat} (v : Seq) (h : j ≠ i) : (s.setSeq i v).seq j = s.seq j := by
  simp [State.setSeq, State.seq, cl_updCl_ne s _ h]
@[simp] theorem cluster_queue_setQueue (k : Cluster) (i : Nat) (v : Queue) : (k.setQueue i v).queue i = v := sget_sput_same _ _ _ _
theorem cluster_queue_setQueue_ne (k : Cluster) {i j : Nat} (v : Queue) (h : j ≠ i) : (k.setQueue i v).queue j = k.queue j :=
  sget_sput_other _ _ _ h
@[simp] theorem cluster_cell_setCell (k : Cluster) (i : Nat) (v : Cell) : (k.setCell i v).cell i = v := sget_sput_same _ _ _ _
theorem cluster_cell_setCell_ne (k : Cluster) {i j : Nat} (v : Cell) (h : j ≠ i) : (k.setCell i v).cell j = k.cell j :=
  sget_sput_other _ _ _ h
@[simp] theorem cluster_fwd_setFwd (k : Cluster) (i : Nat) (v : Fwd) : (k.setFwd i v).fwd i = v := sget_sput_same _ _ _ _
theorem cluster_fwd_setFwd_ne (k : Cluster) {i j : Nat} (v : Fwd) (h : j ≠ i) : (k.setFwd i v).fwd j = k.fwd j :=
  sget_sput_other _ _ _ h
@[simp] theorem queue_setQueue (i : Nat) (v : Queue) : (s.setQueue i v).queue i = v := by simp [State.setQueue, State.queue]
theorem queue_setQueue_ne {i j : Nat} (v : Queue) (h : j ≠ i) : (s.setQueue i v).queue j = s.queue j := by
  unfold State.setQueue State.queue
  by_cases hd : j / 128 = i / 128
  · have hm : j % 128 ≠ i % 128 := by omega
    rw [hd, cl_updCl, cluster_queue_setQueue_ne _ _ hm]
  · rw [cl_updCl_ne s _ hd]
@[simp] theorem port_func_setFunc (p : Port) (i : Nat) (v : Func) : (p.setFunc i v).func i = v := sget_sput_same _ _ _ _
theorem port_func_setFunc_ne (p : Port) {i j : Nat} (v : Func) (h : j ≠ i) : (p.setFunc i v).func j = p.func j :=
  sget_sput_other _ _ _ h
@[simp] theorem func_setFunc (p f : Nat) (v : Func) : (s.setFunc p f v).func p f = v := by simp [State.setFunc, State.func]
theorem func_setFunc_ne {p f q g : Nat} (v : Func) (h : ¬ (q = p ∧ g = f)) : (s.setFunc p f v).func q g = s.func q g := by
  unfold State.setFunc State.func
  by_cases hq : q = p
  · subst hq
    rw [port_setPort, port_func_setFunc_ne _ _ (fun e => h ⟨rfl, e⟩)]
  · rw [port_setPort_ne s _ hq]

/-! ### Of two writes the second stands -/

@[simp] theorem setCl_setCl (i : Nat) (v w : Cluster) : (s.setCl i v).setCl i w = s.setCl i w := by simp [State.setCl]
@[simp] theorem setMover_setMover (i : Nat) (v w : Mover) : (s.setMover i v).setMover i w = s.setMover i w := by simp [State.setMover]
@[simp] theorem setTask_setTask (i : Nat) (v w : Task) : (s.setTask i v).setTask i w = s.setTask i w := by simp [State.setTask]
@[simp] theorem setBreg_setBreg (i : Nat) (v w : BRegion) : (s.setBreg i v).setBreg i w = s.setBreg i w := by simp [State.setBreg]
@[simp] theorem setTimer_setTimer (i : Nat) (v w : Timer) : (s.setTimer i v).setTimer i w = s.setTimer i w := by simp [State.setTimer]
@[simp] theorem setSrec_setSrec (i : Nat) (v w : SeqRec) : (s.setSrec i v).setSrec i w = s.setSrec i w := by simp [State.setSrec]
@[simp] theorem setRouter_setRouter (i : Nat) (v w : Router) : (s.setRouter i v).setRouter i w = s.setRouter i w := by simp [State.setRouter]
@[simp] theorem setInit_setInit (i : Nat) (v w : Init) : (s.setInit i v).setInit i w = s.setInit i w := by simp [State.setInit]
@[simp] theorem setStack_setStack (i : Nat) (v w : Stack) : (s.setStack i v).setStack i w = s.setStack i w := by simp [State.setStack]
@[simp] theorem setPc_setPc (i : Nat) (v w : Pc) : (s.setPc i v).setPc i w = s.setPc i w := by simp [State.setPc]
@[simp] theorem setCtx_setCtx (i : Nat) (v w : LoadCtx) : (s.setCtx i v).setCtx i w = s.setCtx i w := by simp [State.setCtx]
@[simp] theorem setRegion_setRegion (i : Nat) (v w : Option Region) : (s.setRegion i v).setRegion i w = s.setRegion i w := by simp [State.setRegion]
@[simp] theorem setSpdm_setSpdm (i : Nat) (v w : Spdm) : (s.setSpdm i v).setSpdm i w = s.setSpdm i w := by simp [State.setSpdm]
theorem setKey_setKey (i : Nat) (v w : Option (List Byte)) (h : s.keyless = false) : (s.setKey i v).setKey i w = s.setKey i w := by
  have h' : (s.setKey i v).keyless = false := h
  simp [State.setKey, State.keyless] at h h' ⊢; simp [h]
@[simp] theorem setPort_setPort (i : Nat) (v w : Port) : (s.setPort i v).setPort i w = s.setPort i w := by simp [State.setPort]
@[simp] theorem setSmap_setSmap (i : Nat) (v w : SpareEntry) : (s.setSmap i v).setSmap i w = s.setSmap i w := by simp [State.setSmap]
@[simp] theorem setEth_setEth (i : Nat) (v w : Eth) : (s.setEth i v).setEth i w = s.setEth i w := by simp [State.setEth]
@[simp] theorem setSess_setSess (i : Nat) (v w : Sess) : (s.setSess i v).setSess i w = s.setSess i w := by simp [State.setSess]
@[simp] theorem setBank_setBank (i : Nat) (v w : Bank) : (s.setBank i v).setBank i w = s.setBank i w := by simp [State.setBank]
@[simp] theorem updCl_updCl (i : Nat) (f g : Cluster → Cluster) : (s.updCl i f).updCl i g = s.updCl i (fun k => g (f k)) := by
  show (s.setCl i _).setCl i (g ((s.setCl i _).cl i)) = s.setCl i _
  rw [cl_setCl, setCl_setCl]
@[simp] theorem cluster_setQueue_setQueue (k : Cluster) (i : Nat) (v w : Queue) : (k.setQueue i v).setQueue i w = k.setQueue i w := by
  simp [Cluster.setQueue]
@[simp] theorem cluster_setCell_setCell (k : Cluster) (i : Nat) (v w : Cell) : (k.setCell i v).setCell i w = k.setCell i w := by
  simp [Cluster.setCell]
@[simp] theorem port_setFunc_setFunc (p : Port) (i : Nat) (v w : Func) : (p.setFunc i v).setFunc i w = p.setFunc i w := by
  simp [Port.setFunc]
@[simp] theorem setFunc_setFunc (p f : Nat) (v w : Func) : (s.setFunc p f v).setFunc p f w = s.setFunc p f w := by
  simp [State.setFunc]
@[simp] theorem setSeq_setSeq (i : Nat) (v w : Seq) : (s.setSeq i v).setSeq i w = s.setSeq i w := by simp [State.setSeq]
@[simp] theorem setQueue_setQueue (i : Nat) (v w : Queue) : (s.setQueue i v).setQueue i w = s.setQueue i w := by
  simp [State.setQueue]

end Sys2Proof.Machine
end

