-- ==== Sys2Proof/Machine/SeqDecode.lean ====
section
/-! DEFINITION. The encoding of sequencer instructions (R177, R204, R533, R534), the trap ROM (R188), and the fetch. The
commands of the sequencer carry their operands; this file says which word of instruction memory each command stands for. -/

namespace Sys2Proof.Machine

/-- A register code field of a word. -/
def rcode (w lo : Nat) : RegCode := BitVec.ofNat 5 (fld w lo 5)

/-- The command that an instruction word stands for on cluster c (R177, R204, R533, R534); none for the undefined opcodes
0x3E and 0x3F, whose issue is the illegal-instruction trap. -/
def seqDecode (c : ClId) (w : Nat) : Option Instr :=
  let d := rcode w 21
  let a := rcode w 16
  let b : Src := if bit w 15 then .imm (BitVec.ofNat 15 (fld w 0 15)) else .reg (rcode w 10)
  let off := BitVec.ofNat 16 (fld w 0 16)
  let off15 := BitVec.ofNat 15 (fld w 0 15)
  let p := bit w 5
  let fb := rcode w 11
  let fc := rcode w 6
  let fn := rcode w 0
  match fld w 26 6 with
  | 0x00 => some (.add c d a b)
  | 0x01 => some (.sub c d a b)
  | 0x02 => some (.and c d a b)
  | 0x03 => some (.or c d a b)
  | 0x04 => some (.xor c d a b)
  | 0x05 => some (.andn c d a b)
  | 0x06 => some (.shl c d a b)
  | 0x07 => some (.shr c d a b)
  | 0x08 => some (.shra c d a b)
  | 0x09 => some (.mins c d a b)
  | 0x0A => some (.maxs c d a b)
  | 0x0B => some (.minu c d a b)
  | 0x0C => some (.maxu c d a b)
  | 0x0D => some (.setlt c d a b)
  | 0x0E => some (.setltu c d a b)
  | 0x0F => some (.movh c d off)
  | 0x10 => some (.mul c d a b)
  | 0x11 => some (.mulhi c d a b)
  | 0x12 => some (.quo c d a b)
  | 0x13 => some (.rem c d a b)
  | 0x14 => some (.ldb c d a off)
  | 0x15 => some (.ldbz c d a off)
  | 0x16 => some (.ldh c d a off)
  | 0x17 => some (.ldhz c d a off)
  | 0x18 => some (.ldw c d a off)
  | 0x19 => some (.stb c d a off)
  | 0x1A => some (.sth c d a off)
  | 0x1B => some (.stw c d a off)
  | 0x1C => some (.bz c a off)
  | 0x1D => some (.bnz c a off)
  | 0x1E => some (.blz c a off)
  | 0x1F => some (.bgez c a off)
  | 0x20 => some (.bgz c a off)
  | 0x21 => some (.blez c a off)
  | 0x22 => some (.jl c d (BitVec.ofNat 21 (fld w 0 21)))
  | 0x23 => some (.jr c d a)
  | 0x24 => some (.fpadd c d a fb p)
  | 0x25 => some (.fpsub c d a fb p)
  | 0x26 => some (.fpmul c d a fb p)
  | 0x27 => some (.fpfma c d a fb fc p)
  | 0x28 => some (.fpdiv c d a fb p)
  | 0x29 => some (.fpcvt c d a fn p)
  | 0x2A => some (.fpcmp c d a fb fn p)
  | 0x2B => some (.fpmin c d a fb p)
  | 0x2C => some (.fpmax c d a fb p)
  | 0x2D => some (.fpmov c d a fn p)
  | 0x2E => some (.fpld c d a (bit w 15) off15)
  | 0x2F => some (.fpst c d a (bit w 15) off15)
  | 0x30 => some (.enter c)
  | 0x31 => some (.leave c)
  | 0x32 => some (.done c)
  | 0x33 => some (.fail c (BitVec.ofNat 8 (fld w 0 8)))
  | 0x34 => some (.failr c a)
  | 0x35 => some (.rett c)
  | 0x36 => some (.spillw c a)
  | 0x37 => some (.fillw c a)
  | 0x38 => some (.rdc c d (BitVec.ofNat 8 (fld w 0 8)))
  | 0x39 => some (.waite c (BitVec.ofNat 9 (fld w 0 9)))
  | 0x3A => some (.clre c (BitVec.ofNat 9 (fld w 0 9)))
  | 0x3B => some (.cstart c (BitVec.ofNat 7 (fld w 0 7)))
  | 0x3C => some (.cpark c)
  | 0x3D => some (.cstat c d)
  | _ => none

/-! ### The encoder (R177, R204, R533, R534) -/

/-- A word of an opcode, a destination code, a first operand code and its low 16 bits. -/
def seqWord (op : Nat) (d a : RegCode) (low : Nat) : Nat := op * 2 ^ 26 + d.toNat * 2 ^ 21 + a.toNat * 2 ^ 16 + low

/-- The low 16 bits of a second operand (R177). -/
def srcBits : Src → Nat
  | .reg r => r.toNat * 2 ^ 10
  | .imm i => 2 ^ 15 + i.toNat

/-- The low 16 bits of a floating-point instruction (R534): operands b and c, the precision, the function. -/
def fpBits (b x : RegCode) (p : Bool) (fn : RegCode) : Nat := b.toNat * 2 ^ 11 + x.toNat * 2 ^ 6 + b2n p * 2 ^ 5 + fn.toNat

/-- The cluster and the instruction word of a sequencer instruction, reserved bits 0; none for any other command. -/
def seqEncode : Instr → Option (ClId × Nat)
  | .add c d a b => some (c, seqWord 0x00 d a (srcBits b))
  | .sub c d a b => some (c, seqWord 0x01 d a (srcBits b))
  | .and c d a b => some (c, seqWord 0x02 d a (srcBits b))
  | .or c d a b => some (c, seqWord 0x03 d a (srcBits b))
  | .xor c d a b => some (c, seqWord 0x04 d a (srcBits b))
  | .andn c d a b => some (c, seqWord 0x05 d a (srcBits b))
  | .shl c d a b => some (c, seqWord 0x06 d a (srcBits b))
  | .shr c d a b => some (c, seqWord 0x07 d a (srcBits b))
  | .shra c d a b => some (c, seqWord 0x08 d a (srcBits b))
  | .mins c d a b => some (c, seqWord 0x09 d a (srcBits b))
  | .maxs c d a b => some (c, seqWord 0x0A d a (srcBits b))
  | .minu c d a b => some (c, seqWord 0x0B d a (srcBits b))
  | .maxu c d a b => some (c, seqWord 0x0C d a (srcBits b))
  | .setlt c d a b => some (c, seqWord 0x0D d a (srcBits b))
  | .setltu c d a b => some (c, seqWord 0x0E d a (srcBits b))
  | .movh c d i => some (c, seqWord 0x0F d 0 i.toNat)
  | .mul c d a b => some (c, seqWord 0x10 d a (srcBits b))
  | .mulhi c d a b => some (c, seqWord 0x11 d a (srcBits b))
  | .quo c d a b => some (c, seqWord 0x12 d a (srcBits b))
  | .rem c d a b => some (c, seqWord 0x13 d a (srcBits b))
  | .ldb c d a off => some (c, seqWord 0x14 d a off.toNat)
  | .ldbz c d a off => some (c, seqWord 0x15 d a off.toNat)
  | .ldh c d a off => some (c, seqWord 0x16 d a off.toNat)
  | .ldhz c d a off => some (c, seqWord 0x17 d a off.toNat)
  | .ldw c d a off => some (c, seqWord 0x18 d a off.toNat)
  | .stb c d a off => some (c, seqWord 0x19 d a off.toNat)
  | .sth c d a off => some (c, seqWord 0x1A d a off.toNat)
  | .stw c d a off => some (c, seqWord 0x1B d a off.toNat)
  | .bz c a off => some (c, seqWord 0x1C 0 a off.toNat)
  | .bnz c a off => some (c, seqWord 0x1D 0 a off.toNat)
  | .blz c a off => some (c, seqWord 0x1E 0 a off.toNat)
  | .bgez c a off => some (c, seqWord 0x1F 0 a off.toNat)
  | .bgz c a off => some (c, seqWord 0x20 0 a off.toNat)
  | .blez c a off => some (c, seqWord 0x21 0 a off.toNat)
  | .jl c d off => some (c, 0x22 * 2 ^ 26 + d.toNat * 2 ^ 21 + off.toNat)
  | .jr c d a => some (c, seqWord 0x23 d a 0)
  | .fpadd c d a b p => some (c, seqWord 0x24 d a (fpBits b 0 p 0))
  | .fpsub c d a b p => some (c, seqWord 0x25 d a (fpBits b 0 p 0))
  | .fpmul c d a b p => some (c, seqWord 0x26 d a (fpBits b 0 p 0))
  | .fpfma c d a b x p => some (c, seqWord 0x27 d a (fpBits b x p 0))
  | .fpdiv c d a b p => some (c, seqWord 0x28 d a (fpBits b 0 p 0))
  | .fpcvt c d a fn p => some (c, seqWord 0x29 d a (fpBits 0 0 p fn))
  | .fpcmp c d a b fn p => some (c, seqWord 0x2A d a (fpBits b 0 p fn))
  | .fpmin c d a b p => some (c, seqWord 0x2B d a (fpBits b 0 p 0))
  | .fpmax c d a b p => some (c, seqWord 0x2C d a (fpBits b 0 p 0))
  | .fpmov c d a fn p => some (c, seqWord 0x2D d a (fpBits 0 0 p fn))
  | .fpld c d a p off => some (c, seqWord 0x2E d a (b2n p * 2 ^ 15 + off.toNat))
  | .fpst c d a p off => some (c, seqWord 0x2F d a (b2n p * 2 ^ 15 + off.toNat))
  | .enter c => some (c, seqWord 0x30 0 0 0)
  | .leave c => some (c, seqWord 0x31 0 0 0)
  | .done c => some (c, seqWord 0x32 0 0 0)
  | .fail c code => some (c, seqWord 0x33 0 0 code.toNat)
  | .failr c a => some (c, seqWord 0x34 0 a 0)
  | .rett c => some (c, seqWord 0x35 0 0 0)
  | .spillw c a => some (c, seqWord 0x36 0 a 0)
  | .fillw c a => some (c, seqWord 0x37 0 a 0)
  | .rdc c d i => some (c, seqWord 0x38 d 0 i.toNat)
  | .waite c m => some (c, seqWord 0x39 0 0 m.toNat)
  | .clre c m => some (c, seqWord 0x3A 0 0 m.toNat)
  | .cstart c m => some (c, seqWord 0x3B 0 0 m.toNat)
  | .cpark c => some (c, seqWord 0x3C 0 0 0)
  | .cstat c d => some (c, seqWord 0x3D d 0 0)
  | _ => none

/-- The trap ROM (R188) as commands, in address order from 0xFFFF_F000. -/
def trapRom (c : ClId) : List Instr :=
  [ .rdc c 4 0x05, .and c 4 4 (.imm 0xFF), .add c 5 4 (.imm (-1)), .bz c 5 5, .add c 5 4 (.imm (-2)), .bz c 5 6,
    .add c 5 4 (.imm (-3)), .bz c 5 4, .failr c 4,
    .rdc c 6 0x03, .spillw c 6, .rett c,
    .rdc c 6 0x02, .and c 7 6 (.imm 0x10), .bnz c 7 3, .rdc c 8 0x03, .spillw c 8, .rdc c 6 0x02,
    .fillw c 6, .rett c ]

/-- The command that the sequencer of a cluster issues next by its memories (R172): in the trap ROM while the bivouac
window is current, else the word of instruction memory; none where the issue or the fetch is
an illegal-instruction trap. -/
def State.seqFetch (s : State) (c : ClId) : Option Instr :=
  let q := s.seq c.val
  let a := q.pc.toNat
  if !q.fetchOk then none
  else if a < 0x10000 then seqDecode c (leNat ((List.range 4).map (fun i => sget 0 q.imem (a + i))))
  else ((trapRom c)[(a - 0xFFFFF000) / 4]?)

end Sys2Proof.Machine
end

