-- ==== Sys2Proof/WellFormed.lean ====
section
/-! DEFINITION. Which terms are commands: the relations between operands that their types do not carry. A command that this
check refuses stands for nothing that can reach the part. -/

namespace Sys2Proof

/-- The form of a request (R246, R247): SIZE defined, LEN 0 with a part word, one data word for each word of a write, none for a
read, a part word within one word. -/
def Request.wf (r : Request) (write : Bool) : Bool :=
  decide (r.size ≠ 3) && (decide (r.size = 0) || decide (r.len = 0))
    && decide (r.data.length = if write then r.len.val + 1 else 0)

/-- A request that is sent has the form; one in flight had it when it was sent. -/
def ReqFrom.wf (r : ReqFrom) (write : Bool) : Bool :=
  match r with
  | .send r => r.wf write
  | .flight _ _ => true

/-- A push carries 1 to 16 words (R152, R246). -/
def PushFrom.wf : PushFrom → Bool
  | .flight _ => true
  | .direct _ _ _ _ ws => decide (1 ≤ ws.length) && decide (ws.length ≤ 16)

/-- A transaction of whole dwords, with data or with a length (log 37). -/
def Tlp.wf (t : Tlp) : Bool :=
  decide (t.off % 4 = 0) && (match t.write with
    | some b => decide (0 < b.length) && decide (b.length % 4 = 0) && decide (t.readLen = 0)
    | none => decide (0 < t.readLen) && decide (t.readLen % 4 = 0))

/-- The findings of a bring-up step name each stack, and each PC, island and bank once (R309, R310, R467, R507). -/
def BringResult.wf (r : BringResult) : Bool :=
  decide (r.anchors.length ≤ 4) && decide (r.islandFail.Nodup) && decide ((r.sweeps.map (·.1)).Nodup) && decide ((r.vio.map (·.1)).Nodup)
    && r.cellFail.all (fun e => decide (e.2.2.toNat ≤ 16))

/-- A received frame has its two MAC addresses and its EtherType (R486). -/
def RxFrame.wf (f : RxFrame) : Bool := decide (14 ≤ f.bytes.length)

/-- Whether a term is a command. Commands without a line of their own have operands of every value. -/
def Instr.wf : Instr → Bool
  | .rd r => r.wf false
  | .wr r => r.wf true
  | .wrp r => r.wf true
  | .push p => p.wf
  | .pushp p => p.wf
  | .ringEnable _ _ _ v => v.getLsbD 31
  | .ringDisable _ _ _ v => !v.getLsbD 31
  | .descriptorConsume _ (some b) => decide (b.length = 64)
  | .submit b => decide (0 < b.length)
  | .ropeDataBlock b => decide (b.length = 8)
  | .bar2Access _ t => t.wf
  | .pushWindowWrite _ _ _ b => decide (0 < b.length)
  | .spareRepair _ _ phys => decide (phys.toNat ≤ 16)
  | .bringupStep r => r.wf
  | .frameReceive _ _ f => f.wf
  | .telemetryWrite d => decide (0 < d.length)
  | _ => true

end Sys2Proof
end

