-- ==== Sys2Proof/Safety.lean ====
section
/-! DEFINITION. What counts as a safe run, and the terms in which the statements speak: when a command acts, when a sequencer
instruction issues, when a firmware command is due, and what an answered command leaves. -/

namespace Sys2Proof.Machine

/-- A step that goes on. -/
def Safe (o : Host.Outcome State Fault Refusal) : Bool :=
  match o with
  | .next _ => true
  | .fault _ => false
  | .refused _ => false

/-- The part takes commands: it is out of OFF and not held in reset (R447, R513). -/
def State.live (s : State) : Bool := !s.sys.off && s.sys.held.isNone

/-- An instruction of the sequencer of cluster c issues (R172). -/
def State.issues (s : State) (c : ClId) : Bool := s.live && s.seqReady c.val

/-- A firmware command has been consumed with these operands and runs now: firmware serves the mailboxes, no command of its ring comes
before it, no life-cycle transition refuses it, it waits on nothing and has not begun (R356, R395, R402, R413, R420 to R422). -/
def State.due (s : State) (i : Issuer) (op : Nat) (ops : List Opnd) : Bool :=
  s.live && (match s.record i with
    | some x => decide (x.op.toNat = op) && opsMatch x.bytes ops && !x.released && !x.began && !s.blocked i x
        && s.host.avail && !s.notFirst i x && (s.sec.trans.isNone || statusOp op i.owner) && (i.owner || !(s.func i.p i.f).rstp)
    | none => false)

/-- A completion of an issuer with a status and a result is ready on its port (R396, R401). -/
def State.answered (s : State) (i : Issuer) (status result : Nat) : Bool :=
  (if i.owner then s.host.owner.comps else (s.func i.p i.f).ready).any (fun r =>
    decide (r.tag = i.tag) && decide (r.status = BitVec.ofNat 8 status) && !r.rej && decide (r.result = BitVec.ofNat 128 result))

/-- A state but for the host ports, where a command's completion stands, and the device's outputs. -/
def State.upToHost (t s : State) : State := { t with host := s.host, out := s.out }

/-- A command ends with a status and a result: it is answered and no longer runs, and but for the host ports the state is e. -/
def Answers (c : Instr) (s : State) (i : Issuer) (status result : Nat) (e : State) : Prop :=
  ∃ t, exec c s = .next t ∧ t.answered i status result = true ∧ t.record i = none ∧ t.upToHost s = e

end Sys2Proof.Machine
end

