-- ==== Sys2Proof/Laws/Firmware.lean ====
section
/-! SUPPORT. What the operations that firmware commands share can do: acting, running when due, refusing, completing. -/

namespace Sys2Proof.Machine

/-- A live part acts. -/
theorem act_live {s : State} (h : s.live = true) (f : State → State) : act s f = .next (f s) := by
  have h1 : s.sys.off = false := by simp_all [State.live]
  have h2 : s.sys.held.isSome = false := by
    cases hh : s.sys.held <;> simp_all [State.live]
  simp [act, h1, h2]

/-- A part in OFF or held in reset does not act. -/
theorem act_idle {s : State} (h : s.live = false) (f : State → State) : act s f = .next s := by
  have : (s.sys.off || s.sys.held.isSome) = true := by
    cases h1 : s.sys.off <;> cases h2 : s.sys.held <;> simp_all [State.live]
  simp [act, this]

/-- A command that acts always answers a next state. -/
theorem act_next (s : State) (f : State → State) : ∃ t, act s f = .next t := ⟨_, rfl⟩

/-- The state in which the body of a due command runs: its wait has ended, and a device-wide command holds the device. -/
def State.runsNow (s : State) (i : Issuer) (op : Nat) : State :=
  { s with host := { s.host with waits := s.host.waits.filter (fun w => decide (w.iss ≠ i))
                                 wide := if wideOp op then some i else s.host.wide } }

/-- A due command runs its body. -/
theorem command_due {s : State} {i : Issuer} {op : Nat} {ops : List Opnd} (h : s.due i op ops = true) (cmd : Instr)
    (body : State → State) : s.command i op ops cmd body = body (s.runsNow i op) := by
  unfold State.due at h
  simp only [Bool.and_eq_true] at h
  obtain ⟨-, h⟩ := h
  cases hr : s.record i with
  | none => simp [hr] at h
  | some x =>
    simp only [hr, Bool.and_eq_true, decide_eq_true_eq, Bool.not_eq_true'] at h
    obtain ⟨⟨⟨⟨⟨⟨⟨⟨h1, h2⟩, h3⟩, h4⟩, h5⟩, h6⟩, h7⟩, h8⟩, -⟩ := h
    have h8 : (s.sec.trans.isSome && !statusOp op i.owner) = false := by
      cases ht : s.sec.trans <;> simp_all
    simp [State.command, hr, h1, h2, h3, h4, h5, h6, h7, h8, State.go, State.runsNow]

theorem due_live {s : State} {i : Issuer} {op : Nat} {ops : List Opnd} (h : s.due i op ops = true) : s.live = true := by
  unfold State.due at h
  simp only [Bool.and_eq_true] at h
  exact h.1

/-- The part that a due command leaves to its completion. -/
theorem due_rstp {s : State} {i : Issuer} {op : Nat} {ops : List Opnd} (h : s.due i op ops = true) :
    (!i.owner && (s.func i.p i.f).rstp) = false := by
  unfold State.due at h
  simp only [Bool.and_eq_true] at h
  obtain ⟨-, h⟩ := h
  cases hr : s.record i with
  | none => simp [hr] at h
  | some x =>
    simp only [hr, Bool.and_eq_true] at h
    have := h.2
    cases h1 : i.owner <;> cases h2 : (s.func i.p i.f).rstp <;> simp_all

@[simp] theorem addReady_upToHost (s t : State) (p f : Nat) (r : Ready) : (s.addReady p f r).upToHost t = s.upToHost t := by
  unfold State.addReady
  split
  · dsimp only
    split <;> rfl
  · rfl

@[simp] theorem setHslot_upToHost (s t : State) (p f n : Nat) (v : HSlot) : (s.setHslot p f n v).upToHost t = s.upToHost t := by
  unfold State.setHslot
  split <;> rfl

theorem foldReady_upToHost (t : State) (as : List Issuer) : ∀ s : State,
    (as.foldl (fun s a => s.addReady a.p a.f { tag := a.tag, status := 0, rej := false, result := 0 }) s).upToHost t = s.upToHost t := by
  induction as with
  | nil => intro s; rfl
  | cons a as ih => intro s; rw [List.foldl_cons, ih, addReady_upToHost]

@[simp] theorem freeSlot_upToHost (s t : State) (p f : Nat) (r : Ready) (d : Bool) : (s.freeSlot p f r d).upToHost t = s.upToHost t := by
  unfold State.freeSlot
  split
  · rfl
  · dsimp only
    rw [foldReady_upToHost, setHslot_upToHost]

@[simp] theorem ownerWrites_upToHost (s t : State) (n : Nat) : (s.ownerWrites n).upToHost t = s.upToHost t := by
  unfold State.ownerWrites
  split
  · split <;> simp
  · rfl

@[simp] theorem post_upToHost (s t : State) (p f : Nat) (r : Ready) : (s.post p f r).upToHost t = s.upToHost t := by
  unfold State.post
  dsimp only
  split <;> simp

@[simp] theorem endRstp_upToHost (s t : State) (p f : Nat) : (s.endRstp p f).upToHost t = s.upToHost t := by
  unfold State.endRstp
  dsimp only
  split <;> rfl

theorem ite_upToHost (b : Bool) (x y t : State) :
    (if b = true then x else y).upToHost t = if b = true then x.upToHost t else y.upToHost t := by
  cases b <;> rfl

/-- A completion changes only the host ports and the outputs. -/
@[simp] theorem complete_upToHost (s t : State) (i : Issuer) (st r : Nat) : (s.complete i st r).upToHost t = s.upToHost t := by
  unfold State.complete
  dsimp only
  rw [ite_upToHost, endRstp_upToHost, post_upToHost, ite_self]
  rfl

@[simp] theorem runsNow_upToHost (s t : State) (i : Issuer) (op : Nat) : (s.runsNow i op).upToHost t = s.upToHost t := rfl

/-! ### Completions stand -/

/-- Reads the completions that stand ready for a function, or in the owner's buffer. -/
def State.readyAt (s : State) (p f : Nat) : List Ready := if p = 4 then s.host.owner.comps else (s.func p f).ready

/-- A completion that becomes ready stands ready on its port. -/
theorem addReady_mem (s : State) (p f : Nat) (r : Ready) : r ∈ (s.addReady p f r).readyAt p f := by
  unfold State.addReady State.readyAt
  by_cases hp : p = 4
  · simp only [hp, if_true]
    simp [State.setOwner]
  · simp only [hp, if_false]
    simp

/-- What waits in the owner's buffer goes on waiting while completions become ready. -/
theorem addReady_comps (s : State) (p f : Nat) (r x : Ready) (h : x ∈ s.host.owner.comps) : x ∈ (s.addReady p f r).host.owner.comps := by
  unfold State.addReady
  split
  · dsimp only
    split <;> simp_all [State.setOwner, State.emit]
  · exact h

theorem foldReady_comps (x : Ready) (as : List Issuer) : ∀ s : State, x ∈ s.host.owner.comps →
    x ∈ (as.foldl (fun s a => s.addReady a.p a.f { tag := a.tag, status := 0, rej := false, result := 0 }) s).host.owner.comps := by
  induction as with
  | nil => intro s h; exact h
  | cons a as ih => intro s h; exact ih _ (addReady_comps s _ _ _ x h)

theorem freeSlot_comps (s : State) (r x : Ready) (d : Bool) (h : x ∈ s.host.owner.comps) : x ∈ (s.freeSlot 4 0 r d).host.owner.comps := by
  unfold State.freeSlot
  split
  · exact h
  · exact foldReady_comps x _ _ h

/-- A completion that is posted stands ready on its port. -/
theorem post_mem (s : State) (p f : Nat) (r : Ready) : r ∈ (s.post p f r).readyAt p f := by
  unfold State.post
  by_cases hp : p = 4
  · subst hp
    have h : r ∈ (s.addReady 4 f r).host.owner.comps := by simpa [State.readyAt] using addReady_mem s 4 f r
    simp only [if_true, State.readyAt]
    unfold State.ownerWrites
    split
    · split
      · exact freeSlot_comps _ _ _ _ h
      · exact h
    · exact h
  · simp only [hp, if_false]
    exact addReady_mem s p f r

@[simp] theorem addReady_running (s : State) (p f : Nat) (r : Ready) : (s.addReady p f r).host.running = s.host.running := by
  unfold State.addReady
  split
  · dsimp only
    split <;> rfl
  · rfl

theorem foldReady_running (as : List Issuer) : ∀ s : State,
    (as.foldl (fun s a => s.addReady a.p a.f { tag := a.tag, status := 0, rej := false, result := 0 }) s).host.running = s.host.running := by
  induction as with
  | nil => intro s; rfl
  | cons a as ih => intro s; rw [List.foldl_cons, ih, addReady_running]

@[simp] theorem freeSlot_running (s : State) (p f : Nat) (r : Ready) (d : Bool) : (s.freeSlot p f r d).host.running = s.host.running := by
  unfold State.freeSlot
  split
  · rfl
  · dsimp only
    rw [foldReady_running]
    unfold State.setHslot
    split <;> rfl

@[simp] theorem post_running (s : State) (p f : Nat) (r : Ready) : (s.post p f r).host.running = s.host.running := by
  unfold State.post State.ownerWrites
  dsimp only
  split
  · split
    · split <;> simp
    · simp
  · simp

/-- The state in which a command's completion is posted: the command no longer runs or waits. -/
def State.unrun (s : State) (i : Issuer) : State :=
  { s with host := { s.host with running := s.host.running.filter (fun r => decide (r.iss ≠ i))
                                 waits := s.host.waits.filter (fun w => decide (w.iss ≠ i))
                                 wide := if s.host.wide = some i then none else s.host.wide } }

/-- The completion that a command posts. -/
def State.completionOf (s : State) (i : Issuer) (st r : Nat) : Ready :=
  { tag := i.tag, status := BitVec.ofNat 8 st, rej := false, result := BitVec.ofNat 128 r, seq := (s.record i).bind (·.seq) }

theorem complete_post {s : State} {i : Issuer} (st r : Nat) (h : (!i.owner && (s.func i.p i.f).rstp) = false) :
    s.complete i st r = (s.unrun i).post i.p i.f (s.completionOf i st r) := by
  show (if (!i.owner && ((s.unrun i).func i.p i.f).rstp) = true then _ else _) = _
  have h' : ((s.unrun i).func i.p i.f).rstp = (s.func i.p i.f).rstp := rfl
  rw [h', h]
  rfl

/-- A function with a running reset apart, a completion leaves its command answered and no longer running (R401). -/
theorem complete_answered (s : State) (i : Issuer) (st r : Nat) (h : (!i.owner && (s.func i.p i.f).rstp) = false) :
    (s.complete i st r).answered i st r = true ∧ (s.complete i st r).record i = none := by
  rw [complete_post st r h]
  constructor
  · have hm := post_mem (s.unrun i) i.p i.f (s.completionOf i st r)
    unfold State.answered
    rw [List.any_eq_true]
    refine ⟨s.completionOf i st r, ?_, ?_⟩
    · unfold State.readyAt at hm
      by_cases hp : i.p = 4
      · have ho : i.owner = true := decide_eq_true hp
        rw [if_pos hp] at hm
        rw [if_pos ho]
        exact hm
      · have ho : ¬ i.owner = true := by simpa [Issuer.owner, Issuer.p] using hp
        rw [if_neg hp] at hm
        rw [if_neg ho]
        exact hm
    · simp [State.completionOf]
  · unfold State.record
    rw [post_running, List.find?_eq_none]
    intro x hx
    simp [State.unrun] at hx
    simp [hx.2]

/-- A due command that ends with a completion answers, and but for the host ports only its effect has happened. -/
theorem answers_of_due {c : Instr} {s : State} {i : Issuer} {op : Nat} {ops : List Opnd} {st r : Nat} {e : State}
    (h : s.due i op ops = true) (he : exec c s = .next (e.complete i st r)) (hf : (e.func i.p i.f).rstp = (s.func i.p i.f).rstp) :
    Answers c s i st r (e.upToHost s) := by
  have hr := due_rstp h
  rw [← hf] at hr
  obtain ⟨h1, h2⟩ := complete_answered e i st r hr
  exact ⟨_, he, h1, h2, complete_upToHost e s i st r⟩

end Sys2Proof.Machine
end

