-- ==== Sys2Proof/Laws/Seq.lean ====
section
/-! SUPPORT. What the shared operations of the sequencers do: issuing, updating one sequencer, writing a register. -/

namespace Sys2Proof.Machine

/-- An instruction that issues has its effect. -/
theorem seqAct_issues {s : State} {c : ClId} (h : s.issues c = true) (f : State → State) : seqAct c s f = .next (f s) := by
  have h1 : s.live = true := by simp_all [State.issues]
  have h2 : s.seqReady c = true := by simp_all [State.issues]
  have h3 : s.sys.off = false := by simp_all [State.live]
  have h4 : s.sys.held.isSome = false := by cases h : s.sys.held <;> simp_all [State.live]
  simp [seqAct, act, h2, h3, h4]

@[simp] theorem seq_updSeq (s : State) (c : Nat) (f : Seq → Seq) : (s.updSeq c f).seq c = f (s.seq c) := by
  simp [State.updSeq, State.seq]

theorem seq_updSeq_ne (s : State) {c d : Nat} (f : Seq → Seq) (h : d ≠ c) : (s.updSeq c f).seq d = s.seq d := by
  simp [State.updSeq, State.seq, cl_updCl_ne s _ h]

@[simp] theorem updSeq_updSeq (s : State) (c : Nat) (f g : Seq → Seq) : (s.updSeq c f).updSeq c g = s.updSeq c (fun q => g (f q)) := by
  simp [State.updSeq]

/-- An update of a sequencer depends only on what it gives for that sequencer. -/
theorem updSeq_congr (s : State) (c : Nat) {f g : Seq → Seq} (h : f (s.seq c) = g (s.seq c)) : s.updSeq c f = s.updSeq c g := by
  show s.setCl c _ = s.setCl c _
  unfold State.seq at h
  simp only [h]

@[simp] theorem setReg_curWin (q : Seq) (rd : RegCode) (v : Reg) : (q.setReg rd v).curWin = q.curWin := by
  unfold Seq.setReg
  split
  · rfl
  · split <;> rfl

@[simp] theorem winReg_setWinReg (q : Seq) (w i : Nat) (v : Reg) : (q.setWinReg w i v).winReg w i = v := sget_sput_same _ _ _ _

theorem winReg_setWinReg_ne (q : Seq) {w i u j : Nat} (v : Reg) (h : ¬ (u = w ∧ j = i)) (hi : i < 16) (hj : j < 16) :
    (q.setWinReg w i v).winReg u j = q.winReg u j := sget_sput_other _ _ _ (by omega)

@[simp] theorem liveWin_setWin (q : Seq) (w : Nat) (v : Option Win) : (q.setWin w v).liveWin w = v := sget_sput_same _ _ _ _

theorem liveWin_setWin_ne (q : Seq) {w u : Nat} (v : Option Win) (h : u ≠ w) : (q.setWin w v).liveWin u = q.liveWin u :=
  sget_sput_other _ _ _ h

@[simp] theorem slot_setSlot (q : Seq) (i : Nat) (v : Option Slot) : (q.setSlot i v).slot i = v := sget_sput_same _ _ _ _

theorem slot_setSlot_ne (q : Seq) {i j : Nat} (v : Option Slot) (h : j ≠ i) : (q.setSlot i v).slot j = q.slot j :=
  sget_sput_other _ _ _ h

/-- Outside the handler a trap condition enters the trap (R183). -/
theorem trap_outside {s : State} {c cause : Nat} (h : (s.seq c).biv = false) :
    s.trap c cause = s.updSeq c (·.enterTrap cause ((s.seq c).topSlot.bind (·.frame))) := by
  simp [State.trap, h]

/-- In the handler a trap condition is a window fault (R189). -/
theorem trap_inside {s : State} {c cause : Nat} (h : (s.seq c).biv = true) : s.trap c cause = s.windowFault c := by
  simp [State.trap, h]

end Sys2Proof.Machine
end

