-- ==== Sys2Proof/Certificates/Slice0/Obligations.lean ====
section
/-! DEFINITION. The statements for the provers. Every clause about a command names the states and operands in which it runs and
the state that its own effect leaves; a state written as an update of s says at once that nothing else changes. -/

open Sys2Proof Sys2Proof.Machine

/-! ### The queue of commands -/

/-- A step runs the command at the front of the queue on the state with the queue's rest.
On an empty queue device time goes on by 1 ns (R30; log 1 is the model's choice of when), unless the part is in OFF: with it go the NoC
cycles that end in that nanosecond and a cycle of the loader, unless a warm reset is held. Where no packet is on its way and no load
waits for the decryption engine, nothing but the time and the count of NoC cycles changes. -/
def Obligations.StepRunsFront : Prop :=
  (∀ (s : State) (c : Instr) (rest : List Instr), s.pending = c :: rest → step s = exec c { s with pending := rest }) ∧
  (∀ s : State, s.pending = [] →
      let n := s.nocCycles (s.now + 1) - s.nocCycles s.now
      let t : State := { s with time := s.time + 1 }
      step s = .next (if s.sys.off then s else if s.sys.held.isSome then t else (t.netCycles n).loaderCycle) ∧
      (s.sys.off = false → s.sys.held = none → (∀ p ∈ s.noc.packets, p.spot = .arrived) → (∀ x ∈ s.loader.ctxs, x.2.sealed = none) →
        step s = .next { t with noc := { s.noc with cycle := s.noc.cycle + n } }))

/-! ### Halduk sequencers: encoding -/

/-- The decoder reads every encoded sequencer instruction back, with every operand at every value its field admits, and the
encoder covers every instruction that the decoder knows (R177, R204, R533, R534). -/
def Obligations.SequencerDecodeOfEncode : Prop :=
  (∀ (i : Instr) (c : ClId) (w : Nat), seqEncode i = some (c, w) → w < 2 ^ 32 ∧ seqDecode c w = some i) ∧
  (∀ (i : Instr) (c : ClId) (w : Nat), seqDecode c w = some i → ∃ v, seqEncode i = some (c, v))

/-- Words written out from the encoding tables decode to the instructions that they stand for: one or more of each class
(R177, R204, R533, R534). -/
def Obligations.SequencerWords : Prop :=
  ∀ c : ClId,
  seqDecode c 0b000000_00011_00100_0_00101_0000000000 = some (.add c 3 4 (.reg 5)) ∧
  seqDecode c 0b000001_10001_00001_1_111111111111111 = some (.sub c 17 1 (.imm (-1))) ∧
  seqDecode c 0b001111_00010_00000_1010101111001101 = some (.movh c 2 0xABCD) ∧
  seqDecode c 0b010010_00001_00010_0_00011_0000000000 = some (.quo c 1 2 (.reg 3)) ∧
  seqDecode c 0b011000_00001_00010_1111111111111100 = some (.ldw c 1 2 0xFFFC) ∧
  seqDecode c 0b011011_00110_00111_0000000000001000 = some (.stw c 6 7 8) ∧
  seqDecode c 0b011101_00000_00100_1111111111111110 = some (.bnz c 4 0xFFFE) ∧
  seqDecode c 0b100010_01111_111111111111111111111 = some (.jl c 15 0x1FFFFF) ∧
  seqDecode c 0b100111_00001_00010_00011_00100_1_00000 = some (.fpfma c 1 2 3 4 true) ∧
  seqDecode c 0b101010_00101_00001_00010_00000_0_00010 = some (.fpcmp c 5 1 2 2 false) ∧
  seqDecode c 0b101110_00001_00010_1_000000000001000 = some (.fpld c 1 2 true 8) ∧
  seqDecode c 0b110011_00000_00000_0000000000101010 = some (.fail c 42) ∧
  seqDecode c 0b111000_00110_00000_0000000000000011 = some (.rdc c 6 3) ∧
  seqDecode c 0b111001_00000_00000_0000000100000001 = some (.waite c 0x101) ∧
  seqDecode c 0b111011_00000_00000_0000000000000101 = some (.cstart c 5) ∧
  seqDecode c 0b111110_00000_00000_0000000000000000 = none ∧
  seqDecode c 0b111111_00000_00000_0000000000000000 = none

/-! ### Halduk sequencers: integer instructions, branches, memory -/

/-- Every integer instruction that issues with existing register codes writes its result to rd and moves to the next word,
and changes nothing else (R177). The results are written as arithmetic on integers. -/
def Obligations.IntegerResults : Prop :=
  ∀ (s : State) (c : ClId) (rd ra : RegCode) (b : Src) (imm : BitVec 16),
    s.issues c = true → codeOk rd = true → codeOk ra = true → srcOk b = true →
    let x := (s.seq c).reg ra
    let y := (s.seq c).src b
    let gives := fun (v : Reg) => s.updSeq c fun q => (q.setReg rd v).next
    exec (.add c rd ra b) s = .next (gives (BitVec.ofInt 32 (x.toInt + y.toInt))) ∧
    exec (.sub c rd ra b) s = .next (gives (BitVec.ofInt 32 (x.toInt - y.toInt))) ∧
    exec (.and c rd ra b) s = .next (gives (x &&& y)) ∧
    exec (.or c rd ra b) s = .next (gives (x ||| y)) ∧
    exec (.xor c rd ra b) s = .next (gives (x ^^^ y)) ∧
    exec (.andn c rd ra b) s = .next (gives (x &&& ~~~y)) ∧
    exec (.shl c rd ra b) s = .next (gives (BitVec.ofNat 32 (x.toNat * 2 ^ (y.toNat % 32)))) ∧
    exec (.shr c rd ra b) s = .next (gives (BitVec.ofNat 32 (x.toNat / 2 ^ (y.toNat % 32)))) ∧
    exec (.shra c rd ra b) s = .next (gives (BitVec.ofInt 32 (x.toInt / (2 : Int) ^ (y.toNat % 32)))) ∧
    exec (.mins c rd ra b) s = .next (gives (BitVec.ofInt 32 (min x.toInt y.toInt))) ∧
    exec (.maxs c rd ra b) s = .next (gives (BitVec.ofInt 32 (max x.toInt y.toInt))) ∧
    exec (.minu c rd ra b) s = .next (gives (BitVec.ofNat 32 (min x.toNat y.toNat))) ∧
    exec (.maxu c rd ra b) s = .next (gives (BitVec.ofNat 32 (max x.toNat y.toNat))) ∧
    exec (.setlt c rd ra b) s = .next (gives (if x.toInt < y.toInt then 1 else 0)) ∧
    exec (.setltu c rd ra b) s = .next (gives (if x.toNat < y.toNat then 1 else 0)) ∧
    exec (.movh c rd imm) s = .next (gives (BitVec.ofNat 32 (imm.toNat * 2 ^ 16))) ∧
    exec (.mul c rd ra b) s = .next (gives (BitVec.ofInt 32 (x.toInt * y.toInt))) ∧
    exec (.mulhi c rd ra b) s = .next (gives (BitVec.ofInt 32 (x.toInt * y.toInt / (2 : Int) ^ 32))) ∧
    exec (.quo c rd ra b) s = .next (gives (if y = 0 then (if 0 ≤ x.toInt then 0x7FFFFFFF else 0x80000000)
      else if x.toInt = -2147483648 ∧ y.toInt = -1 then 0x7FFFFFFF else BitVec.ofInt 32 (x.toInt.tdiv y.toInt))) ∧
    exec (.rem c rd ra b) s = .next (gives (if y = 0 then 0 else BitVec.ofInt 32 (x.toInt.tmod y.toInt)))

/-- What a register write does (R179): the register of the code reads as the value, but code 16, k0, which reads as 0 and
takes no write; every other existing code keeps its value; the window of another frame keeps all its registers.
Data memory is little-endian bytes (R13, R172): what a store of n bytes has written reads back, and every byte outside
those n reads as before. -/
def Obligations.RegisterWritesAndStores : Prop :=
  (∀ (q : Seq) (rd r : RegCode) (v : Reg) (w n : Nat), codeOk rd = true → codeOk r = true →
      (q.setReg rd v).reg rd = (if rd = 16 then 0 else v) ∧
      (r ≠ rd → (q.setReg rd v).reg r = q.reg r) ∧
      (n < 16 → w ≠ q.curWin → (q.setReg rd v).winReg w n = q.winReg w n) ∧
      (q.setReg rd v).dmem = q.dmem ∧ (q.setReg rd v).imem = q.imem ∧ (q.setReg rd v).f = q.f ∧ (q.setReg rd v).pc = q.pc) ∧
  (∀ (q : Seq) (a n v b m : Nat),
      (q.dmWrite a n v).dmRead a n = v % 2 ^ (8 * n) ∧
      (b + m ≤ a ∨ a + n ≤ b → (q.dmWrite a n v).dmRead b m = q.dmRead b m) ∧
      (∀ i, i < n → (q.dmWrite a n v).dmRead (a + i) 1 = v / 2 ^ (8 * i) % 256))

/-- Branches go to the word after the branch plus 4 times the signed offset when their condition on ra holds, and to the next
word otherwise; JL and JR write the return address, and JR goes to ra (R177). -/
def Obligations.BranchesAndJumps : Prop :=
  ∀ (s : State) (c : ClId) (rd ra : RegCode) (off : BitVec 16) (far : BitVec 21),
    s.issues c = true → codeOk rd = true → codeOk ra = true →
    let x := ((s.seq c).reg ra).toInt
    let pc := (s.seq c).pc
    let goes := fun (dest : Reg) => s.updSeq c fun q => { q with pc := dest }
    let near := BitVec.ofInt 32 ((pc.toNat : Int) + 4 + 4 * off.toInt)
    exec (.bz c ra off) s = .next (goes (if x = 0 then near else pc + 4)) ∧
    exec (.bnz c ra off) s = .next (goes (if x ≠ 0 then near else pc + 4)) ∧
    exec (.blz c ra off) s = .next (goes (if x < 0 then near else pc + 4)) ∧
    exec (.bgez c ra off) s = .next (goes (if x ≥ 0 then near else pc + 4)) ∧
    exec (.bgz c ra off) s = .next (goes (if x > 0 then near else pc + 4)) ∧
    exec (.blez c ra off) s = .next (goes (if x ≤ 0 then near else pc + 4)) ∧
    exec (.jl c rd far) s = .next (s.updSeq c fun q =>
      { (q.setReg rd (pc + 4)) with pc := BitVec.ofInt 32 ((pc.toNat : Int) + 4 + 4 * far.toInt) }) ∧
    exec (.jr c rd ra) s = .next (s.updSeq c fun q => { (q.setReg rd (pc + 4)) with pc := (s.seq c).reg ra })

/-- Loads and stores at an aligned address of data memory (R172, R177): a load writes rd with the bytes, sign- or
zero-extended; a store writes the low bytes of rs; nothing else changes. -/
def Obligations.DataMemoryInstructions : Prop :=
  ∀ (s : State) (c : ClId) (rd ra : RegCode) (off : BitVec 16),
    s.issues c = true → codeOk rd = true → codeOk ra = true →
    let q := s.seq c
    let a := (q.reg ra + off.signExtend 32).toNat
    a < 0x10000 →
    let gives := fun (v : Reg) => s.updSeq c fun q => (q.setReg rd v).next
    let puts := fun (n : Nat) => s.updSeq c fun r => (r.dmWrite a n ((q.reg rd).toNat % 2 ^ (8 * n))).next
    exec (.ldb c rd ra off) s = .next (gives ((BitVec.ofNat 8 (q.dmRead a 1)).signExtend 32)) ∧
    exec (.ldbz c rd ra off) s = .next (gives ((BitVec.ofNat 8 (q.dmRead a 1)).setWidth 32)) ∧
    (a % 2 = 0 → exec (.ldh c rd ra off) s = .next (gives ((BitVec.ofNat 16 (q.dmRead a 2)).signExtend 32)) ∧
      exec (.ldhz c rd ra off) s = .next (gives ((BitVec.ofNat 16 (q.dmRead a 2)).setWidth 32))) ∧
    (a % 4 = 0 → exec (.ldw c rd ra off) s = .next (gives (BitVec.ofNat 32 (q.dmRead a 4)))) ∧
    exec (.stb c rd ra off) s = .next (puts 1) ∧
    (a % 2 = 0 → exec (.sth c rd ra off) s = .next (puts 2)) ∧
    (a % 4 = 0 → exec (.stw c rd ra off) s = .next (puts 4))

/-- Where the sequencer traps on its operands (R176, R177, R183): an integer register code above 23 is an illegal
instruction, a misaligned address comes before an address outside data memory and the window of cell memories, and the trap
saves the pc and the frame, makes the bivouac window current and goes to the ROM.
A fetch that finds no instruction traps (R172, R183): with cause 6 where the address is not a multiple of 4, else with
cause 4. -/
def Obligations.SequencerTraps : Prop :=
  (∀ (s : State) (c : ClId) (rd ra : RegCode) (b : Src) (off : BitVec 16),
      s.issues c = true → (s.seq c).biv = false →
      let traps := fun (cause : Byte) => s.updSeq c fun q =>
        { q with tpc := q.pc, cause := cause, twin := BitVec.ofNat 4 ((q.topSlot.bind (·.frame)).getD 15), trapSlot := q.top,
                 biv := true, waiting := false, pc := 0xFFFFF000 }
      let a := ((s.seq c).reg ra + off.signExtend 32).toNat
      (¬ (codeOk rd = true ∧ codeOk ra = true ∧ srcOk b = true) →
        exec (.add c rd ra b) s = .next (traps 4) ∧ exec (.mul c rd ra b) s = .next (traps 4) ∧ exec (.quo c rd ra b) s = .next (traps 4)) ∧
      (¬ (codeOk rd = true ∧ codeOk ra = true) →
        exec (.ldw c rd ra off) s = .next (traps 4) ∧ exec (.stw c rd ra off) s = .next (traps 4) ∧ exec (.jr c rd ra) s = .next (traps 4)) ∧
      (codeOk ra = false → exec (.bz c ra off) s = .next (traps 4) ∧ exec (.failr c ra) s = .next (traps 4)) ∧
      (codeOk rd = true → codeOk ra = true →
        (a % 4 ≠ 0 → exec (.ldw c rd ra off) s = .next (traps 6) ∧ exec (.stw c rd ra off) s = .next (traps 6)) ∧
        (a % 2 ≠ 0 → exec (.ldh c rd ra off) s = .next (traps 6) ∧ exec (.ldhz c rd ra off) s = .next (traps 6) ∧ exec (.sth c rd ra off) s = .next (traps 6)) ∧
        (a % 4 = 0 → 0x10000 ≤ a → ¬ (0x1000000 ≤ a ∧ a < 0x2000000) →
          exec (.ldw c rd ra off) s = .next (traps 5) ∧ exec (.stw c rd ra off) s = .next (traps 5))) ∧
      exec (.rett c) s = .next (traps 4) ∧ exec (.spillw c ra) s = .next (traps 4) ∧ exec (.fillw c ra) s = .next (traps 4) ∧
      exec (.illegalInstruction c .opcode3E) s = .next (traps 4) ∧ exec (.illegalInstruction c .opcode3F) s = .next (traps 4)) ∧
  (∀ (s : State) (c : ClId), s.live = true → s.seqClocked c = true → (s.seq c).biv = false → (s.seq c).nest ≠ [] →
      (s.seq c).waiting = false → ((s.seq c).pc.toNat % 4 ≠ 0 ∨ 0x10000 ≤ (s.seq c).pc.toNat) →
      exec (.illegalInstruction c (.fetch (s.seq c).pc)) s = .next (s.updSeq c fun q =>
        { q with tpc := q.pc, cause := if q.pc.toNat % 4 ≠ 0 then 6 else 4
                 twin := BitVec.ofNat 4 ((q.topSlot.bind (·.frame)).getD 15), trapSlot := q.top,
                 biv := true, waiting := false, pc := 0xFFFFF000 }))

/-! ### Halduk sequencers: floating point -/

/-- A value of binary32 or binary64 that is converted to its own format stays as it is (R178, R534). -/
def Obligations.FloatRoundTrip : Prop :=
  ∀ (f : FFmt) (x : Nat), f = fp32 ∨ f = fp64 → x < 2 ^ (1 + f.ebits + f.mbits) →
    (∀ b, fdecode f false x ≠ .nan b) → (froundVal f false false (fdecode f false x)).1 = x

/-- Every floating-point instruction that issues with existing codes takes the registers over for the running task, writes its
result and moves to the next word (R178, R199, R534): arithmetic rounds the exact result once to the precision; minimum,
maximum and comparison follow the order of the values, a NaN apart. -/
def Obligations.FloatingPointResults : Prop :=
  ∀ (s : State) (c : ClId) (d a b x : RegCode) (p : Bool), s.issues c = true →
    fcodeOk d = true → fcodeOk a = true → fcodeOk b = true → fcodeOk x = true →
    let q := (s.seq c).fpSwap
    let gives := fun (v : Nat) => s.updSeq c fun _ => (q.setF d v).next
    let sets := fun (v : Reg) => s.updSeq c fun _ => (q.setReg d v).next
    let f := fpFmt p
    let va := q.fval p a
    let vb := q.fval p b
    let ordered := ¬ (va.isNan = true ∨ vb.isNan = true)
    exec (.fpadd c d a b p) s = .next (gives (fadd f false false va vb).1) ∧
    exec (.fpsub c d a b p) s = .next (gives (fadd f false false va vb.neg).1) ∧
    exec (.fpmul c d a b p) s = .next (gives (fmul f false false va vb).1) ∧
    exec (.fpdiv c d a b p) s = .next (gives (fdiv f va vb).1) ∧
    exec (.fpfma c d a b x p) s = .next (gives (ffma f false false va vb (q.fval p x)).1) ∧
    (¬ ordered → exec (.fpadd c d a b p) s = .next (gives f.qnan) ∧ exec (.fpmul c d a b p) s = .next (gives f.qnan) ∧
      exec (.fpdiv c d a b p) s = .next (gives f.qnan)) ∧
    (ordered → fcompare va vb < 0 → exec (.fpmin c d a b p) s = .next (gives (q.fbits p a)) ∧
      exec (.fpmax c d a b p) s = .next (gives (q.fbits p b))) ∧
    (ordered → fcompare va vb > 0 → exec (.fpmin c d a b p) s = .next (gives (q.fbits p b)) ∧
      exec (.fpmax c d a b p) s = .next (gives (q.fbits p a))) ∧
    (va.isNan = true → vb.isNan = false → exec (.fpmin c d a b p) s = .next (gives (q.fbits p b)) ∧
      exec (.fpmax c d a b p) s = .next (gives (q.fbits p b))) ∧
    (va.isNan = true → vb.isNan = true → exec (.fpmin c d a b p) s = .next (gives f.qnan) ∧
      exec (.fpmax c d a b p) s = .next (gives f.qnan)) ∧
    exec (.fpcmp c d a b 0 p) s = .next (sets (if ordered ∧ fcompare va vb = 0 then 1 else 0)) ∧
    exec (.fpcmp c d a b 1 p) s = .next (sets (if ordered ∧ fcompare va vb < 0 then 1 else 0)) ∧
    exec (.fpcmp c d a b 2 p) s = .next (sets (if ordered ∧ fcompare va vb ≤ 0 then 1 else 0)) ∧
    exec (.fpcmp c d a b 3 p) s = .next (sets (if ordered then 0 else 1))

/-- FPCVT and FPMOV (R178, R534): conversions between the precisions and with 32-bit integers, an integer result that saturates
and takes a NaN to 0; moves, the sign inverted or cleared, and moves of 32-bit halves. Clearing and inverting the sign in binary32
leaves bits [63:32] at 0 (log 24 is the model's reading). -/
def Obligations.FloatingPointConversions : Prop :=
  ∀ (s : State) (c : ClId) (d a : RegCode) (r : RegCode) (p : Bool), s.issues c = true →
    fcodeOk d = true → fcodeOk a = true → codeOk r = true →
    let q := (s.seq c).fpSwap
    let gives := fun (v : Nat) => s.updSeq c fun _ => (q.setF d v).next
    let sets := fun (v : Reg) => s.updSeq c fun _ => (q.setReg r v).next
    let f := fpFmt p
    let bits := (sget 0 q.f a.toNat).toNat
    let sign := if p then 2 ^ 31 else 2 ^ 63
    exec (.fpcvt c d a 0 p) s = .next (gives (froundVal f false false (q.fval (!p) a)).1) ∧
    exec (.fpcvt c d r 1 p) s = .next (gives (fround f false false ((q.reg r).toInt < 0) (q.reg r).toInt.natAbs 0).1) ∧
    exec (.fpcvt c d r 2 p) s = .next (gives (fround f false false false (q.reg r).toNat 0).1) ∧
    ((q.fval p a).isNan = true → exec (.fpcvt c r a 3 p) s = .next (sets 0) ∧ exec (.fpcvt c r a 4 p) s = .next (sets 0) ∧
      exec (.fpcvt c r a 5 p) s = .next (sets 0)) ∧
    (∀ (n : Bool) (m : Nat) (e : Int), q.fval p a = .fin n m e →
      exec (.fpcvt c r a 3 p) s = .next (sets (BitVec.ofInt 32 (max (-2147483648) (min 2147483647 (ftoInt true n m e).1)))) ∧
      exec (.fpcvt c r a 4 p) s = .next (sets (BitVec.ofInt 32 (max 0 (min 4294967295 (ftoInt true n m e).1)))) ∧
      exec (.fpcvt c r a 5 p) s = .next (sets (BitVec.ofInt 32 (max (-2147483648) (min 2147483647 (ftoInt false n m e).1))))) ∧
    exec (.fpmov c d a 0 p) s = .next (gives bits) ∧
    exec (.fpmov c d a 1 p) s = .next (gives (if q.fbits p a < sign then q.fbits p a + sign else q.fbits p a - sign)) ∧
    exec (.fpmov c d a 2 p) s = .next (gives (q.fbits p a % sign)) ∧
    exec (.fpmov c d r 3 p) s = .next (gives (q.reg r).toNat) ∧
    exec (.fpmov c d r 4 p) s = .next (gives ((q.reg r).toNat * 2 ^ 32 + (sget 0 q.f d.toNat).toNat % 2 ^ 32)) ∧
    exec (.fpmov c r a 5 p) s = .next (sets (BitVec.ofNat 32 bits)) ∧
    exec (.fpmov c r a 6 p) s = .next (sets (BitVec.ofNat 32 (bits / 2 ^ 32)))

/-- FPLD and FPST at an aligned address of data memory (R172, R534): the registers belong to the running task (R199), a load
fills the register from 8 bytes, or in binary32 from 4 with the upper half 0, and a store writes as many.
The floating-point registers change hands (R199): the running task owns them afterwards; what a task that owned them before
held is stored in its record and marked, and the new owner has what its own record holds, or zeros where it has stored none. -/
def Obligations.FloatingPointMemoryAndSwap : Prop :=
  (∀ (s : State) (c : ClId) (d ra : RegCode) (p : Bool) (off : BitVec 15), s.issues c = true →
      fcodeOk d = true → codeOk ra = true →
      let n := if p then 4 else 8
      let q := (s.seq c).fpSwap
      let a := ((s.seq c).reg ra + off.signExtend 32).toNat
      a < 0x10000 → a % n = 0 →
      exec (.fpld c d ra p off) s = .next (s.updSeq c fun _ => (q.setF d (q.dmRead a n)).next) ∧
      exec (.fpst c d ra p off) s = .next (s.updSeq c fun _ => (q.dmWrite a n ((sget 0 q.f d.toNat).toNat % 2 ^ (8 * n))).next)) ∧
  (∀ (q : Seq) (i j : Nat) (sl so : Slot), q.top = some i → q.slot i = some sl →
      (q.fpown = some i → q.fpSwap = q) ∧
      (q.fpown = none → sl.stored = false → q.fpSwap = { q with f := [], fpown := some i }) ∧
      (q.fpown = some j → j ≠ i → q.slot j = some so → sl.stored = false →
        q.fpSwap.fpown = some i ∧ q.fpSwap.f = [] ∧ q.fpSwap.slot j = some { so with stored := true } ∧
        (∀ n, n < 16 → q.fpSwap.dmRead (so.base + 8 * n) 8 = (sget 0 q.f n).toNat) ∧
        (∀ b m, b + m ≤ so.base ∨ so.base + 128 ≤ b → q.fpSwap.dmRead b m = q.dmRead b m)) ∧
      (q.fpown = none → sl.stored = true →
        q.fpSwap.fpown = some i ∧ q.fpSwap.dmem = q.dmem ∧
        (∀ n, n < 16 → (sget 0 q.fpSwap.f n).toNat = q.dmRead (sl.base + 8 * n) 8)))

/-! ### Halduk sequencers: windows, task ends, events, starts -/

/-- ENTER with a free window, and LEAVE to a live one (R180 to R182): the new frame takes p0 to p3 from r12 to r15 of its caller
and zeros elsewhere, and the return brings r0 to r3 back into r12 to r15; no other register of any window changes. With no free
window ENTER traps with cause 1, and LEAVE to a spilled frame traps with cause 2. -/
def Obligations.WindowInstructions : Prop :=
  ∀ (s : State) (c : ClId) (i : Nat) (sl : Slot), s.issues c = true → (s.seq c).biv = false →
    (s.seq c).top = some i → (s.seq c).slot i = some sl →
    let q := s.seq c
    let cur := q.curWin
    let traps := fun (cause : Byte) => s.updSeq c fun q =>
      { q with tpc := q.pc, cause := cause, twin := BitVec.ofNat 4 (sl.frame.getD 15), trapSlot := q.top, biv := true,
               waiting := false, pc := 0xFFFFF000 }
    (∀ w, q.freeWin = some w → ∃ q' : Machine.Seq,
      exec (.enter c) s = .next (s.updSeq c fun _ => q') ∧
      q' = { q with win := q'.win, live := q'.live, slots := q'.slots, nextAge := q.nextAge + 1, pc := q.pc + 4 } ∧
      q'.curWin = w ∧ q'.liveWin w = some ⟨i, .win cur, q.nextAge⟩ ∧
      (∀ n, n < 4 → q'.winReg w n = q.winReg cur (12 + n)) ∧ (∀ n, 4 ≤ n → n < 16 → q'.winReg w n = 0) ∧
      (∀ v n, v ≠ w → n < 16 → q'.winReg v n = q.winReg v n) ∧ (∀ v, v ≠ w → q'.liveWin v = q.liveWin v) ∧
      (∀ j, j ≠ i → q'.slot j = q.slot j)) ∧
    (q.freeWin = none → exec (.enter c) s = .next (traps 1)) ∧
    (∀ o v a, q.liveWin cur = some ⟨o, .win v, a⟩ → ∃ q' : Machine.Seq,
      exec (.leave c) s = .next (s.updSeq c fun _ => q') ∧
      q' = { q with win := q'.win, live := q'.live, slots := q'.slots, pc := q.pc + 4 } ∧
      q'.curWin = v ∧ q'.liveWin cur = none ∧
      (∀ n, n < 4 → q'.winReg v (12 + n) = q.winReg cur n) ∧ (∀ n, n < 12 → q'.winReg v n = q.winReg v n) ∧
      (∀ u n, u ≠ v → n < 16 → q'.winReg u n = q.winReg u n) ∧ (∀ u, u ≠ cur → q'.liveWin u = q.liveWin u) ∧
      (∀ j, j ≠ i → q'.slot j = q.slot j)) ∧
    (∀ o a, q.liveWin cur = some ⟨o, .spilled, a⟩ → exec (.leave c) s = .next (traps 2))

/-- How a task ends (R182, R196, R197): LEAVE of a root frame and DONE complete it with status 0, FAIL and FAILR with status 1
and their code, and FAILR in the handler with the register's status; the completion goes to Belay at priority 3, and the task
leaves its slot and the nest and no longer owns the floating-point registers. The packet enters the network as sendReq puts it there
(what that does is stated with the requests, MemoryRequests). -/
def Obligations.TaskEnds : Prop :=
  ∀ (s : State) (c : ClId) (i : Nat) (sl : Slot) (code : Byte) (ra : RegCode), s.issues c = true → codeOk ra = true →
    (if (s.seq c).biv then (s.seq c).trapSlot else (s.seq c).top) = some i → (s.seq c).slot i = some sl → s.isTwin c = false →
    let q := s.seq c
    let ends := fun (status : Byte) (code : Byte) (t : State) =>
      t = (s.updSeq c (fun _ => t.seq c)).sendReq .hub
        { op := .evt, who := c, prio := 3, evt := some (.comp ⟨c, sl.task, status, code, 0⟩) } ∧
      (t.seq c).nest = q.nest.filter (fun j => decide (j ≠ i)) ∧ (t.seq c).fpown ≠ some i ∧
      (q.nest = [i] → (t.seq c).biv = false ∧ (t.seq c).waiting = false ∧ (t.seq c).slot i = none)
    (∃ t, exec (.done c) s = .next t ∧ ends 0 0 t) ∧
    (∃ t, exec (.fail c code) s = .next t ∧ ends 1 code t) ∧
    (∃ t, exec (.failr c ra) s = .next t ∧
      (if q.biv then ends (BitVec.ofNat 8 (q.reg ra).toNat) 0 t else ends 1 (BitVec.ofNat 8 (q.reg ra).toNat) t)) ∧
    (∀ o a, q.biv = false → q.liveWin q.curWin = some ⟨o, .root, a⟩ → ∃ t, exec (.leave c) s = .next t ∧ ends 0 0 t)

/-- The trap handler's instructions (R185 to R187, R190): SPILLW stores a window's registers at the spill pointer and frees
the window, FILLW loads the frame below the pointer into a free window, RETT goes back to the trapped task.
Context, event and control-register instructions (R198, R202 to R205): RDC and CSTAT read into rd, WAITE goes on with a
pending event of its mask and waits without one, CLRE clears pending events, CSTART and CPARK register their request, or set
CMDERR while a fill or repair pause runs or on a follower; a notice line that reaches the sequencer sets its event bit. -/
def Obligations.HandlersAndEvents : Prop :=
  (∀ (s : State) (c : ClId) (ra : RegCode) (i : Nat) (sl : Slot), s.issues c = true → (s.seq c).biv = true → codeOk ra = true →
      (s.seq c).slot i = some sl →
      let q := s.seq c
      let w := (q.reg ra).toNat % 16
      w < 11 →
      (∀ x, q.liveWin w = some x → x.owner = i → sl.sptr + 64 ≤ sl.lim → ∃ q' : Machine.Seq,
        exec (.spillw c ra) s = .next (s.updSeq c fun _ => q') ∧
        q' = { q with dmem := q'.dmem, live := q'.live, slots := q'.slots, pc := q.pc + 4 } ∧
        (∀ n, n < 16 → q'.dmRead (sl.sptr + 4 * n) 4 = (q.winReg w n).toNat) ∧
        (∀ b m, b + m ≤ sl.sptr ∨ sl.sptr + 64 ≤ b → q'.dmRead b m = q.dmRead b m) ∧
        q'.liveWin w = none ∧
        q'.slot i = some { sl with sptr := sl.sptr + 64, frame := if sl.frame = some w then none else sl.frame } ∧
        (∀ j, j ≠ i → q'.slot j = q.slot j)) ∧
      (q.trapSlot = some i → q.liveWin w = none → sl.base + 128 < sl.sptr → q.cause ≠ 2 → ∃ q' : Machine.Seq,
        exec (.fillw c ra) s = .next (s.updSeq c fun _ => q') ∧
        q' = { q with win := q'.win, live := q'.live, slots := q'.slots, nextAge := q.nextAge + 1, pc := q.pc + 4 } ∧
        (∀ n, n < 16 → q'.winReg w n = BitVec.ofNat 32 (q.dmRead (sl.sptr - 64 + 4 * n) 4)) ∧
        (∀ v n, v ≠ w → n < 16 → q'.winReg v n = q.winReg v n) ∧
        q'.liveWin w = some ⟨i, if sl.sptr - 64 = sl.base + 128 then .root else .spilled, q.nextAge⟩ ∧
        (∀ v, v ≠ w → q'.liveWin v = q.liveWin v) ∧
        q'.slot i = some { sl with sptr := sl.sptr - 64, frame := if q.cause = 3 then some w else sl.frame }) ∧
      (∀ v, q.trapSlot = some i → q.top = some i → sl.alloc = false → sl.frame = some v →
        exec (.rett c) s = .next (s.updSeq c fun q => { q with biv := false, waiting := false, trapSlot := none, pc := q.tpc }))) ∧
  (∀ (s : State) (c : ClId) (rd : RegCode) (idx : Byte) (mask : BitVec 9) (entry : BitVec 7), s.issues c = true →
      codeOk rd = true →
      let q := s.seq c
      let k := s.cl c
      let gives := fun (v : Reg) => s.updSeq c fun q => (q.setReg rd v).next
      exec (.rdc c rd idx) s = .next (gives (BitVec.ofNat 32 (q.ctl idx.toNat))) ∧
      (exec (.rdc c rd 5) s = .next (gives (BitVec.ofNat 32 (256 * q.twin.toNat + q.cause.toNat))) ∧
        exec (.rdc c rd 6) s = .next (gives q.tpc) ∧ exec (.rdc c rd 8) s = .next (gives (q.evp.setWidth 32)) ∧
        (0x18 ≤ idx.toNat → exec (.rdc c rd idx) s = .next (gives 0))) ∧
      exec (.cstat c rd) s = .next (gives (BitVec.ofNat 32 k.ctxStat)) ∧
      (q.evp &&& mask ≠ 0 → exec (.waite c mask) s = .next (s.updSeq c fun q => { q with pc := q.pc + 4 })) ∧
      (q.evp &&& mask = 0 → exec (.waite c mask) s = .next (s.updSeq c fun q => { q with waiting := true })) ∧
      exec (.clre c mask) s = .next (s.updSeq c fun q => { q with evp := q.evp &&& ~~~mask, pc := q.pc + 4 }) ∧
      (k.fill = 0 → k.pause = 0 → k.role ≠ 2 →
        exec (.cstart c entry) s = .next (s.updCl c fun k =>
          { k with sel := { k.sel with cmd := some (.start entry.toNat) }, seq := { k.seq with pc := q.pc + 4 } }) ∧
        exec (.cpark c) s = .next (s.updCl c fun k =>
          { k with sel := { k.sel with cmd := some .park }, seq := { k.seq with pc := q.pc + 4 } })) ∧
      (0 < k.fill ∨ 0 < k.pause ∨ k.role = 2 →
        exec (.cstart c entry) s = .next (s.updCl c fun k =>
          { k with sel := { k.sel with cmderr := true }, seq := { k.seq with pc := q.pc + 4 } }) ∧
        exec (.cpark c) s = .next (s.updCl c fun k =>
          { k with sel := { k.sel with cmderr := true }, seq := { k.seq with pc := q.pc + 4 } })) ∧
      (∀ line : Fin 8, line.val ∈ q.lines → exec (.eventLine c line) s = .next (s.updSeq c fun q =>
        { q with lines := q.lines.erase line.val, evp := q.evp ||| BitVec.ofNat 9 (2 ^ line.val) })))

/-- A sequencer takes a start (R190, R193 to R195): an idle one by TASK_START_TAKEN, one with tasks by PREEMPTION_TAKEN. The
task enters the lowest free slot on top of the nest, its root frame takes the lowest free window with the arguments in r0 to
r3, the pre-empted task keeps its pc; a fifth task is refused to Belay and a bad spill area ends the task with status 9. Belay may send
to the sequencer again, but not in this cycle, whose sends go by the record as the cycle began (R223). -/
def Obligations.StartsAndPreemptions : Prop :=
  ∀ (s : State) (c : ClId) (m : StartMsg), s.live = true → s.mayTake c = true → (s.seq c).start = some m →
    let q := s.seq c
    let cmd : Instr := if q.nest = [] then .taskStartTaken c else .preemptionTaken c
    let record := fun (t : State) => t = { s.updSeq c (fun _ => t.seq c) with belay := t.belay, noc := t.noc } ∧
      t.belay = (s.changeRec c fun r => { r with sent := false }).belay ∧
      t.srec c = { s.srec c with sent := false } ∧ t.recAt c = s.rollBelay.recAt c
    (∀ i w, (List.range 4).find? (fun i => (q.slot i).isNone) = some i → spillOk m.base m.lim = true → q.freeWin = some w →
      ∃ t, exec cmd s = .next t ∧ record t ∧ t.noc = s.noc ∧
        (t.seq c).nest = i :: q.nest ∧ (t.seq c).pc = m.entry.setWidth 32 ∧ (t.seq c).start = none ∧
        (t.seq c).waiting = false ∧ (t.seq c).curWin = w ∧ (t.seq c).liveWin w = some ⟨i, .root, q.nextAge⟩ ∧
        (t.seq c).slot i = some { task := m.task, prio := m.prio, pc := m.entry.setWidth 32, frame := some w, alloc := false,
                                  base := m.base, lim := m.lim, sptr := m.base + 128, args := m.args } ∧
        (∀ n, n < 4 → (t.seq c).winReg w n = (m.args[n]?).getD 0) ∧
        (∀ n, 4 ≤ n → n < 16 → (t.seq c).winReg w n = 0) ∧
        (∀ v n, v ≠ w → n < 16 → (t.seq c).winReg v n = q.winReg v n) ∧
        (∀ j sj, q.top = some j → q.slot j = some sj → (t.seq c).slot j = some { sj with pc := q.pc })) ∧
    ((List.range 4).find? (fun i => (q.slot i).isNone) = none →
      ∃ t, exec cmd s = .next t ∧ record t ∧ t.seq c = { q with start := none } ∧
        t.noc = (s.sendReq .hub { op := .evt, who := c, prio := 3, evt := some (.refused c m.task) }).noc) ∧
    (∀ i, (List.range 4).find? (fun i => (q.slot i).isNone) = some i → spillOk m.base m.lim = false → s.isTwin c = false →
      ∃ t, exec cmd s = .next t ∧ record t ∧ t.seq c = { q with start := none } ∧
        t.noc = (s.sendReq .hub { op := .evt, who := c, prio := 3, evt := some (.comp ⟨c, m.task, 9, 0, 0⟩) }).noc)

/-! ### Belay -/

/-- The task commands of a tenant (R208, R210, R437, R439), each consumed and due, on a task of a region of its own that is not
stopped: TASK_WRITE makes a FREE or DORMANT task DORMANT with the descriptor, TASK_ARM loads the counter of a DORMANT one from INIT
or, with INIT 0, takes a unit of quota and enters a list or is held for quota, TASK_REMOVE frees it, TASK_QUERY returns it, and
TASK_SIGNAL sends a host event to Belay. putTask writes the task and, in DEBUG alone, records the change (R238). -/
def Obligations.TaskCommands : Prop :=
  (∀ (s : State) (n : Nat) (k : Task), s.sec.lcs ≠ .debug ∨ (s.task n).st = k.st → s.putTask n k = s.setTask n k) ∧
  (∀ (s : State) (i : Issuer) (task : BitVec 16) (desc : BitVec 272) (r : Nat) (g : Region),
    s.regionOfTask task.toNat = some r → s.region r = some g → g.ten = i.p → g.stop = none →
    let n := task.toNat
    let k := s.task n
    let b := s.breg r
    (s.due i 0x0600 [(8, 2, n), (12, 34, desc.toNat)] = true → fld desc.toNat 189 2 ≠ 3 → s.descFault r desc = false →
      (k.st = .free ∨ k.st = .dormant) →
      Answers (.taskWrite i task desc) s i stOK 0 (s.putTask n { k with st := .dormant, counter := 0, excess := 0, desc := desc })) ∧
    (s.due i 0x0601 [(8, 2, n)] = true → k.st = .dormant → k.initv ≠ 0 →
      Answers (.taskArm i task) s i stOK 0 (s.putTask n { k with st := .waiting, counter := k.initv })) ∧
    (s.due i 0x0601 [(8, 2, n)] = true → k.st = .dormant → k.initv = 0 → b.quota ≤ b.used →
      Answers (.taskArm i task) s i stOK 0
        ((s.putTask n { k with st := .waiting, counter := 0, qheld := true }).setBreg r
          ({ b with qheld := b.qheld ++ [n] }.joinRetry s.now [] [n]))) ∧
    (s.due i 0x0601 [(8, 2, n)] = true → k.st = .dormant → k.initv = 0 → b.used < b.quota → 0 < s.belay.tick → ∃ e : State,
      Answers (.taskArm i task) s i stOK 0 e ∧ e.breg r = { b with used := b.used + 1 } ∧ (e.task n).counter = 0 ∧
      (if k.delay = 0 then (e.task n).st = .ready ∧ n ∈ sget [] e.belay.ready k.prio
       else (e.task n).st = .delayed ∧ ∃ w, (w, n) ∈ e.belay.delay ∧ s.now + k.delay * s.belay.tick ≤ w)) ∧
    (s.due i 0x0602 [(8, 2, n)] = true → (k.st = .dormant ∨ k.st = .waiting) →
      Answers (.taskRemove i task) s i stOK 0
        ((s.setBreg r { b with qheld := b.qheld.filter (fun x => decide (x ≠ n)) }).putTask n
          { k with st := .free, counter := 0, excess := 0, qheld := false, desc := 0 })) ∧
    (s.due i 0x0603 [(8, 2, n)] = true →
      Answers (.taskQuery i task) s i stOK (k.st.code + k.counter * 2 ^ 16 + k.excess * 2 ^ 32) s) ∧
    (s.due i 0x0604 [(8, 2, n)] = true →
      Answers (.taskSignal i task) s i stOK 0
        { s with belay := { s.belay with work := insertWork (.event ⟨1600 + i.p, n, s.now, .host i.p i.f true⟩) s.belay.work } }))

/-- Belay's timers (R220, R221, R239): TIMER_SET gives a timer that does not run a region, a task of it and a period, whose first
expiry is the first tick at or after one period; firmware writes the same registers by BLY_TMR_WRITE, and another initiator
gets an error. An expiry moves the due time past the present by whole periods, counts the missed ones and, unless its event
is held, sends one event.
DELAY_EXPIRY (R218, R219), outside ISOLATED mode: every task whose wake time has come leaves the delay list and is READY in
the list of its priority; every other task and the rest of the list stay.
Both take effect where no action that is due at an earlier tick of the same step of the time base is still to come (R34).
The scheduler trace records in DEBUG and stays empty of new entries elsewhere (R238). -/
def Obligations.TimersAndDelays : Prop :=
  (∀ (s : State) (i : Issuer) (t : BitVec 16) (r : Byte) (task : BitVec 16) (period v : Reg) (m : TmrId) (who : InitId) (second : Bool),
      s.live = true →
      let k := s.timer t.toNat
      let x := s.timer m
      let b := s.breg r.toNat
      (s.due i 0x0605 [(8, 2, t.toNat), (10, 1, r.toNat), (12, 2, task.toNat), (16, 4, period.toNat)] = true → t.toNat < 1024 →
        r.toNat < 64 → (s.region r.toNat).isSome = true → b.base ≤ task.toNat → task.toNat < b.base + b.count →
        (k.region = none ∨ k.period = 0) →
        Answers (.timerSet i t r task period) s i stOK 0 (s.setTimer t.toNat { k with
          rgn := r, task := task, period := period.toNat, periodNs := period.toNat * s.belay.tick
          due := if period = 0 then 0 else upTo s.belay.tick (s.now + period.toNat * s.belay.tick) })) ∧
      (who.val ≠ fwId → exec (.blyTmrWrite who m second v) s = .next (s.emit (.regValue none))) ∧
      (who.val = fwId → x.region = none ∨ x.period = 0 →
        exec (.blyTmrWrite who m false v) s = .next (s.setTimer m { x with
          period := v.toNat, periodNs := v.toNat * s.belay.tick
          due := if v = 0 then 0 else upTo s.belay.tick (s.now + v.toNat * s.belay.tick) })) ∧
      (who.val = fwId → x.region = none ∨ x.period = 0 → fld v.toNat 16 8 < 64 →
        exec (.blyTmrWrite who m true v) s = .next (s.setTimer m { x with
          rgn := BitVec.ofNat 8 (v.toNat / 65536), task := BitVec.ofNat 16 v.toNat })) ∧
      (x.region.isSome = true → x.periodNs ≠ 0 → x.due ≤ s.now → s.inOrder x.due = true →
        ∃ n, (x.due + n * x.periodNs ≤ s.now ∧ s.now < x.due + (n + 1) * x.periodNs) ∧
          exec (.timerExpiry m) s = .next
            (let y := (s.setTimer m { x with due := x.due + (n + 1) * x.periodNs, miss := min (x.miss + (n + if x.held then 1 else 0)) 65535 }).btrace
               (.timerExpiry m)
             if x.held then y
             else { y with belay := { y.belay with work := insertWork (.event ⟨576 + m.val, x.task.toNat, s.now, .timer m⟩) y.belay.work } }))) ∧
  (∀ s : State, s.live = true → s.belay.scheme ≠ 2 → (∀ e ∈ s.belay.delay, e.1 ≤ s.now → s.inOrder e.1 = true) →
      ∃ t, exec .delayExpiry s = .next t ∧
      t.belay.delay = s.belay.delay.filter (fun e => decide (s.now < e.1)) ∧
      (∀ w n, (w, n) ∈ s.belay.delay → w ≤ s.now →
        (t.task n).st = .ready ∧ (t.task n).counter = 0 ∧ n ∈ sget [] t.belay.ready (s.task n).prio) ∧
      (∀ n, (∀ w, (w, n) ∈ s.belay.delay → s.now < w) → t.task n = s.task n) ∧
      t = { s with belay := t.belay, hbm := t.hbm } ∧ (s.sec.lcs ≠ .debug → t.hbm = s.hbm)) ∧
  (∀ (s : State) (w : Traced), (s.sec.lcs ≠ .debug → s.btrace w = s) ∧
      (s.sec.lcs = .debug → (s.btrace w).belay.trace = s.belay.trace ++ [⟨w, s.now - s.sys.skipped, s.now⟩]))

/-- A decrement that Belay takes (R212, R213, R216, R228): a FREE or DORMANT task drops it, a counter at 0 counts it as an
excess, a counter above 1 goes down by one, and the last decrement takes a unit of quota and enters a list, or is held, and with it
the successor decrements of the same completion that follow.
A completion that Belay processes (R226, R229): the task leaves the record of its sequencer and gives its unit back; it
becomes DORMANT, or after success with REARM waits again with INIT less the excess; its successors' decrements wait in front. -/
def Obligations.DependencesAndCompletions : Prop :=
  (∀ (s : State) (j : Nat) (e : BEvent) (r : Nat), s.live = true → s.rollBelay.nextWork = some (j, .event e) →
      s.regionOfTask e.task = some r →
      let k := s.task e.task
      let b := s.breg r
      let left := s.belay.work.eraseIdx j
      let refused := k.st ≠ .free ∧ k.st ≠ .dormant ∧ k.counter = 1 ∧ b.quota ≤ b.used
      ∃ t, exec .dependenceDecrement s = .next t ∧ (¬ refused → t.belay.work = left) ∧
        ((k.st = .free ∨ k.st = .dormant) → t.task e.task = k ∧ t.breg r = { b with drop := min (b.drop + 1) 65535 }) ∧
        (k.st ≠ .free → k.st ≠ .dormant →
          (k.counter = 0 → k.excess < 65535 → t.task e.task = { k with excess := k.excess + 1 } ∧ t.breg r = b) ∧
          (1 < k.counter → t.task e.task = { k with counter := k.counter - 1 } ∧ t.breg r = b) ∧
          (k.counter = 1 → b.used < b.quota → t.breg r = { b with used := b.used + 1 } ∧ (t.task e.task).counter = 0 ∧
            (t.task e.task).st = (if k.delay = 0 then .ready else .delayed)) ∧
          (k.counter = 1 → b.quota ≤ b.used → t.task e.task = k ∧ e ∈ (t.breg r).held ∧ (t.breg r).used = b.used ∧
            ((256 ≤ e.src ∨ ∀ x, Work.event x ∈ left → x.orig ≠ e.orig) → t.belay.work = left ∧
              t.breg r = { b with held := b.held ++ [e], qblk := min (b.qblk + 1) 65535 }.joinRetry s.now [e] []) ∧
            (∀ x rx, Work.event x ∈ left → e.src < 256 → x.orig = e.orig → s.regionOfTask x.task = some rx →
              Work.event x ∉ t.belay.work ∧ x ∈ (t.breg rx).held)))) ∧
  (∀ (s : State) (j : Nat) (c : Comp) (r : Nat), s.live = true → s.rollBelay.nextWork = some (j, .comp c) →
      s.regionOfTask c.task = some r → (s.task c.task).st = .resident →
      let k := s.task c.task
      let b := s.breg r
      ∃ t, exec .completionProcessing s = .next t ∧
        (t.srec c.cl).tasks = (s.srec c.cl).tasks.filter (fun e => decide (e.1 ≠ c.task)) ∧
        (c.status ≠ 0 → t.belay.work = s.belay.work.eraseIdx j ∧ (t.breg r).fail = min (b.fail + 1) 0xFFFFFFFF) ∧
        (c.status = 0 → t.belay.work =
          (if bit k.sen 0 then [Work.event ⟨c.cl, k.succ0, c.arrival, .comp c.cl⟩] else []) ++
          (if bit k.sen 1 then [Work.event ⟨c.cl, k.succ1, c.arrival, .comp c.cl⟩] else []) ++ s.belay.work.eraseIdx j) ∧
        (¬ (c.status = 0 ∧ k.rearm = true) → t.task c.task = { k with st := .dormant, counter := 0, excess := 0 } ∧
          (t.breg r).used = b.used - 1) ∧
        (c.status = 0 → k.rearm = true → k.excess < k.initv →
          t.task c.task = { k with st := .waiting, counter := k.initv - k.excess, excess := 0 } ∧ (t.breg r).used = b.used - 1))

/-- DISPATCH (R222 to R225, R234): Belay sends the candidate of highest priority among the sequencers that may take one, of an owner of
dispatch slots; the task becomes RESIDENT, leaves its ready list and heads the record of the sequencer, and the start goes out with its descriptor's
entry, spill area and arguments.
HELD_EVENT_RETRY (R215, R229, R230), after a release and with no delay expiry due: with one held event whose last decrement finds a unit
the event is no longer held, its task has taken a unit and entered a list. With none held, the first task held for quota takes one. -/
def Obligations.DispatchAndRetries : Prop :=
  (∀ (s : State) (c p n r : Nat), s.live = true → s.rollBelay.nextSend = some (c, p, n) → s.regionOfTask n = some r →
      let k := s.task n
      s.rollBelay.sendable c = some (p, n) ∧
      (∀ d q u, s.rollBelay.sendable d = some (q, u) → s.dispOwner u = s.dispOwner n → q ≤ p) ∧
      ∃ t, exec .dispatch s = .next t ∧
        t.task n = { k with st := .resident } ∧ n ∉ sget [] t.belay.ready p ∧
        t.srec c = { tasks := (n, p) :: (s.srec c).tasks, sent := true } ∧
        t.breg r = { s.breg r with disp := min ((s.breg r).disp + 1) 0xFFFFFFFF } ∧
        t.noc = (s.sendReq (.array c 0) { op := .evt, who := 0x213, prio := 3, evt := some (.start c
          { task := n, prio := p, entry := BitVec.ofNat 16 k.entry, base := k.spbase, lim := k.splim,
            args := [BitVec.ofNat 32 (k.bits 0 32), BitVec.ofNat 32 (k.bits 32 32), BitVec.ofNat 32 (k.bits 64 32), BitVec.ofNat 32 (k.bits 96 32)] }) }).noc ∧
        t = { s with belay := t.belay, noc := t.noc, hbm := t.hbm } ∧ (s.sec.lcs ≠ .debug → t.hbm = s.hbm) ∧ (∀ m, m ≠ n → t.task m = s.task m)) ∧
  (∀ (s : State) (r : RgId) (y : Retry), s.live = true → s.expiryDue = false →
      let b := s.breg r
      b.retry = some y → y.since < s.now → b.used < b.quota →
      (∀ e, b.held = [e] → e ∈ y.events → s.regionOfTask e.task = some r.val → (s.task e.task).st = .waiting → (s.task e.task).counter = 1 →
        s.rollBelay.laneFree (s.laneOwner e.src e.task) = true →
        ∃ t, exec (.heldEventRetry r) s = .next t ∧ (t.breg r).held = [] ∧ (t.breg r).used = b.used + 1 ∧
          (t.task e.task).counter = 0 ∧ (t.task e.task).st = (if (s.task e.task).delay = 0 then .ready else .delayed)) ∧
      (∀ n rest, b.held = [] → b.qheld = n :: rest → y.tasks.head? = some n → s.rollBelay.laneFree (s.laneOwner 0 n) = true →
        ∃ t, exec (.heldEventRetry r) s = .next t ∧ (t.breg r).qheld = rest ∧ (t.breg r).used = b.used + 1 ∧
          (t.task n).counter = 0 ∧ (t.task n).qheld = false ∧
          (t.task n).st = (if (s.task n).delay = 0 then .ready else .delayed)))

/-! ### Stream queues, movers, sessions and ports as firmware configures them -/

/-- The queue commands of a tenant (R132, R136, R137, R169, R437), due on a queue or cluster of a region of its own that is not
stopped: QUEUE_CFG writes the configuration of a disabled queue that no link feeds, QUEUE_ENABLE starts it empty with all sticky
bits and notices clear and gives a MOVER producer credits for its depth, less its words on their way, QUEUE_DISABLE discards its words
and pending notices, those that Belay holds among them, and its mover's credits (credits on their way then count for nothing), both
leave a queue alone that is already so, and QMODE_SET turns the memory tiles of a cluster without enabled queues on or off, unless
that changes the depth of a queue that a link feeds.
FWD_CFG (R154, R438), due on a queue of a region of the tenant's own: a disabled channel of a FWD queue is enabled toward a
queue of the same region, or toward one of its movers with a share of the mover's buffer that fits; an enabled channel
without collected words is disabled and owes the credits of its words that the mover has not taken. -/
def Obligations.QueueCommands : Prop :=
  (∀ (s : State) (i : Issuer) (qid base depth : BitVec 16) (prod cons psrc cl um : Byte) (r : Nat) (g : Region),
      s.region r = some g → g.ten = i.p → g.stop = none →
      let q := qid.toNat
      let pq := s.physQ q
      let k := s.cl (pq / 128)
      let u := s.queue pq
      let v := s.mover u.psrc.toNat
      let coming := ((s.noc.packets.filter fun p => decide (p.op = .crd) && p.toMover && decide (p.chan = u.psrc.toNat) && decide (p.addr = pq)).map
        (·.count)).sum
      (s.qRegion q = some r → q < 32768 →
        (s.due i 0x0500 [(8, 2, q), (10, 2, base.toNat), (12, 2, depth.toNat), (14, 1, prod.toNat), (15, 1, cons.toNat),
            (16, 1, psrc.toNat)] = true →
          4 ≤ depth.toNat → depth.toNat ≤ 4096 → base.toNat + depth.toNat ≤ 65536 → prod.toNat ≤ 7 → cons.toNat ≤ 2 → psrc.toNat ≤ 63 →
          u.en = false → k.umsyn = false → s.linkTo (pq / 128) (pq % 128) = none →
          Answers (.queueCfg i qid base depth prod cons psrc) s i stOK 0 (s.setQueue pq { u with
            base := base.toNat, depth := depth.toNat, prod := prod.setWidth 3, cons := cons.setWidth 2, psrc := psrc.setWidth 6 })) ∧
        (s.due i 0x0501 [(8, 2, q)] = true → u.en = false → k.umsyn = false → u.depth ≠ 0 → k.overlaps (pq % 128) = false →
          let e := s.setQueue pq { u with
            en := true, count := 0, wr := 0, rd := 0, nsat := false, perr := false, ovr := false, sx := false, lx := false, hx := false
            ovcnt := 0, notices := [], onWay := none, staleStopped := false, staleFrom := s.now }
          Answers (.queueEnable i qid) s i stOK 0 (if u.prod = 6 then e.setMover u.psrc.toNat { v with
            credits := sput 0 v.credits pq (u.depth - s.moverFlying pq), stale := sput 0 v.stale pq coming } else e)) ∧
        (s.due i 0x0502 [(8, 2, q)] = true → u.en = true → s.linkTo (pq / 128) (pq % 128) = none →
          let e := s.setQueue pq { u with en := false, count := 0, wr := 0, rd := 0, notices := [], onWay := none }
          let e := if u.prod = 6 then e.setMover u.psrc.toNat { v with credits := sput 0 v.credits pq 0, stale := sput 0 v.stale pq coming } else e
          Answers (.queueDisable i qid) s i stOK 0 { e with belay := { s.belay with
            regions := s.belay.regions.map fun x => (x.1, { x.2 with held := x.2.held.filter fun e => decide (e.orig ≠ .queue pq) }) } }) ∧
        (s.due i 0x0501 [(8, 2, q)] = true → u.en = true → Answers (.queueEnable i qid) s i stOK 0 s) ∧
        (s.due i 0x0502 [(8, 2, q)] = true → u.en = false → Answers (.queueDisable i qid) s i stOK 0 s)) ∧
      (∀ c, s.due i 0x0504 [(8, 1, cl.toNat), (9, 1, um.toNat)] = true → s.clRegion i.p cl.toNat = some r →
        s.relCluster g cl.toNat = some c → (s.cl c).liveQueues = [] → um.toNat ≤ 1 →
        ((um = 1 ↔ (s.cl c).umsyn = true) ∨ ∀ x, x < 8 → s.linkTo c x = none) →
        Answers (.qmodeSet i cl um) s i stOK 0 (s.updCl c fun k => { k with umsyn := um = 1 }))) ∧
  (∀ (s : State) (i : Issuer) (srcq : BitVec 16) (chan tkind prio : Byte) (target cred : BitVec 16) (en : Byte) (r : Nat) (g : Region),
      s.region r = some g → g.ten = i.p → g.stop = none → s.qRegion srcq.toNat = some r → srcq.toNat < 32768 → chan.toNat ≤ 7 →
      s.due i 0x0503 [(8, 2, srcq.toNat), (10, 1, chan.toNat), (11, 1, en.toNat), (12, 1, tkind.toNat), (13, 1, prio.toNat),
        (14, 2, target.toNat), (16, 2, cred.toNat)] = true →
      let pq := s.physQ srcq.toNat
      let f := (s.cl (pq / 128)).fwd chan.toNat
      (en = 1 → f.en = false → (s.queue pq).cons = 2 → prio.toNat ≤ 3 → tkind = 0 → s.qRegion target.toNat = some r →
        Answers (.fwdCfg i srcq chan en tkind prio target cred) s i stOK 0 (s.updCl (pq / 128) fun k => k.setFwd chan.toNat
          { f with en := true, mover := false, prio := prio.toNat, sqid := pq % 128, target := target.toNat, share := 0, cred := 0,
                   packed := [] })) ∧
      (en = 1 → f.en = false → (s.queue pq).cons = 2 → prio.toNat ≤ 3 → tkind = 1 → target.toNat < 64 →
        (s.mover target.toNat).region = some r → 1 ≤ cred.toNat → s.shares target.toNat + cred.toNat ≤ 256 →
        Answers (.fwdCfg i srcq chan en tkind prio target cred) s i stOK 0 (s.updCl (pq / 128) fun k => k.setFwd chan.toNat
          { f with en := true, mover := true, prio := prio.toNat, sqid := pq % 128, target := target.toNat, share := cred.toNat,
                   cred := cred.toNat, packed := [] })) ∧
      (en = 0 → f.en = true → f.packed = [] → f.banked = false →
        Answers (.fwdCfg i srcq chan en tkind prio target cred) s i stOK 0 (s.updCl (pq / 128) fun k => k.setFwd chan.toNat
          { f with en := false, owing := f.owing + (if f.mover then f.share - f.cred else 0) })))

/-- The session commands of a tenant (R435, R490, R497), due on sessions and a queue of its own: SESSION_RULE installs a rule
that no other session has for an ETH queue, SESSION_CLEAR removes it, SESSION_SHAPE gives a shape for the next frame.
The mover commands (R157, R159, R435, R436): the owner assigns an idle unassigned mover to a region, or takes it away, and
with it the firewall bit and the region number of its initiator; a tenant posts a descriptor to a mover of its own, or sets
DFULL at the sixteenth, and reads its status, which clears ERR and DFULL. -/
def Obligations.SessionAndMoverCommands : Prop :=
  (∀ (s : State) (i : Issuer) (sess qid : BitVec 16) (port profile : Byte) (key : BitVec 256) (rate burst : Reg) (r r' : Nat) (g g' : Region),
      sess.toNat < 16384 → s.sessRegion sess.toNat = some r → s.region r = some g → g.ten = i.p → g.stop = none →
      let n := sess.toNat
      let k := s.sess n
      (s.due i 0x0400 [(8, 2, n), (10, 1, port.toNat), (11, 1, profile.toNat), (12, 2, qid.toNat), (16, 32, key.toNat)] = true →
        qid.toNat < 32768 → s.qRegion qid.toNat = some r' → s.region r' = some g' → g'.ten = i.p → g'.stop = none →
        (s.queue (s.physQ qid.toNat)).prod = 3 → 1 ≤ profile.toNat % 16 → profile.toNat % 16 ≤ 5 →
        let rule : Rule := { port := port.toNat % 8, sub := port.toNat / 8 % 4, profile := profile, qid := qid.toNat
                             key := if profile.toNat % 16 = 5 then key else BitVec.ofNat 256 (key.toNat % 2 ^ 192) }
        (∀ x ∈ s.ext.sessions, x.1 ≠ n → ∀ y, x.2.rule = some y →
          ¬ (y.port = rule.port ∧ y.sub = rule.sub ∧ y.profile.toNat % 16 = profile.toNat % 16 ∧ y.key = rule.key)) →
        Answers (.sessionRule i sess port profile qid key) s i stOK 0 (s.setSess n { k with rule := some rule })) ∧
      (s.due i 0x0401 [(8, 2, n)] = true → Answers (.sessionClear i sess) s i stOK 0 (s.setSess n { k with rule := none })) ∧
      (s.due i 0x0402 [(8, 2, n), (12, 4, rate.toNat), (16, 4, burst.toNat)] = true → rate.toNat ≤ 400000 →
        (rate = 0 ∨ 9600 ≤ burst.toNat ∧ burst.toNat ≤ 16777215) →
        Answers (.sessionShape i sess rate burst) s i stOK 0 (s.setSess n { k with next := some (rate.toNat, burst.toNat) }))) ∧
  (∀ (s : State) (i : Issuer) (m r : Byte) (desc : BitVec 256),
      m.toNat ≤ 63 →
      let n := m.toNat
      let v := s.mover n
      (s.due i 0x0800 [(8, 1, n), (9, 1, r.toNat)] = true → v.descs = [] → v.running = none →
        (v.region = none → r ≠ 0xFF → (s.region r.toNat).isSome = true →
          Answers (.moverAssign i m r) s i stOK 0
            (((s.fwGrant (moverRouter n) 2 r.toNat true).setMover n { v with region := some r.toNat }).setIrgn (0x100 + n) (some r.toNat))) ∧
        (∀ k, v.region = some k → r = 0xFF →
          Answers (.moverAssign i m r) s i stOK 0
            (((s.fwGrant (moverRouter n) 2 k false).setMover n { v with region := none }).setIrgn (0x100 + n) none))) ∧
      (∀ k g, v.region = some k → s.region k = some g → g.ten = i.p →
        (s.due i 0x0805 [(8, 1, n), (16, 32, desc.toNat)] = true → g.stop = none →
          (v.dpend < 16 → Answers (.moverPost i m desc) s i stOK (v.dpend + 1) (s.setMover n { v with descs := v.descs ++ [desc] })) ∧
          (16 ≤ v.dpend → Answers (.moverPost i m desc) s i stBAD_STATE 0 (s.setMover n { v with dfull := true }))) ∧
        (s.due i 0x0806 [(8, 1, n)] = true →
          Answers (.moverStatus i m) s i stOK
            (v.lastst.toNat + v.dpend * 2 ^ 8
              + ((if v.running.isSome then 1 else 0) + 2 * (if v.err then 1 else 0) + 4 * (if v.dfull then 1 else 0)) * 2 ^ 16
              + v.mvcnt * 2 ^ 32 + v.inbuf.length * 2 ^ 64)
            (s.setMover n { v with err := false, dfull := false }))))

/-- The commands of ports and windows (R389, R409, R435, R488, R499): BAR2_BIND binds the window of a port that has one, and the
port's initiator, to a region of the tenant's own, or unbinds it; PUSHWIN_BIND binds a slot of the issuing function to a HOST
queue, or unbinds it; PORT_CFG gives an Ethernet port its breakout and its associations for the next frame boundary;
PTP_SOURCE chooses a source, which loses the lock. -/
def Obligations.PortCommands : Prop :=
  ∀ (s : State) (i : Issuer) (r slot port split : Byte) (qid : BitVec 16) (off len : Reg) (g : Region) (rq : Nat) (gq : Region) (sas : List Sa),
    (s.due i 0x0801 [(8, 1, r.toNat)] = true → (s.port i.p).bar2 ≠ 0 →
      (r.toNat < 64 → s.region r.toNat = some g → g.ten = i.p → g.stop = none → ∃ t, exec (.bar2Bind i r) s = .next t ∧
        t.answered i stOK 0 = true ∧ t.record i = none ∧ t.upToHost s = s.setIrgn (0x200 + i.p) (some r.toNat) ∧
        (t.port i.p).bound = some r.toNat) ∧
      (r = 0xFF → ∃ t, exec (.bar2Bind i r) s = .next t ∧ t.answered i stOK 0 = true ∧ t.record i = none ∧
        t.upToHost s = s.setIrgn (0x200 + i.p) none ∧ (t.port i.p).bound = none)) ∧
    (s.due i 0x0802 [(8, 1, slot.toNat), (10, 2, qid.toNat)] = true → slot.toNat ≤ 31 → i.p < 4 →
      (qid.toNat < 32768 → s.qRegion qid.toNat = some rq → s.region rq = some gq → gq.ten = i.p → gq.stop = none →
        (s.queue (s.physQ qid.toNat)).prod = 4 → ∃ t, exec (.pushwinBind i slot qid) s = .next t ∧
          t.answered i stOK 0 = true ∧ t.record i = none ∧ t.upToHost s = s ∧
          sget none (t.func i.p i.f).pwq slot.toNat = some qid.toNat) ∧
      (qid = 0xFFFF → ∃ t, exec (.pushwinBind i slot qid) s = .next t ∧ t.answered i stOK 0 = true ∧ t.record i = none ∧
        t.upToHost s = s ∧ sget none (t.func i.p i.f).pwq slot.toNat = none)) ∧
    (s.due i 0x0803 [(8, 1, port.toNat), (9, 1, split.toNat), (12, 4, off.toNat), (16, 4, len.toNat)] = true → port.toNat < 8 →
      split.toNat ≤ 2 → off.toNat + len.toNat ≤ 0x400000 → len.toNat % 80 = 0 →
      s.sasOf (s.staged off.toNat len.toNat) = sas.map some →
      (split.toNat = (s.eth port.toNat).split ∨ ∀ x ∈ s.ext.sessions, ∀ y, x.2.rule = some y → y.port ≠ port.toNat) →
      Answers (.portCfg i port split off len) s i stOK 0 (s.setEth port.toNat { s.eth port.toNat with
        split := split.toNat, newSas := some sas
        link := if split.toNat = (s.eth port.toNat).split then (s.eth port.toNat).link else [] })) ∧
    (s.due i 0x0804 [(8, 1, port.toNat)] = true → (port.toNat ≤ 7 ∨ port = 0xFF) →
      let src := if port = 0xFF then none else some port.toNat
      Answers (.ptpSource i port) s i stOK 0 (if s.ext.ptp.src = src then s
        else { s with ext := { s.ext with ptp := { s.ext.ptp with src := src, locked := false, good := 0, slew := 0 } } }))

/-! ### Firmware commands: device, time, stage buffer -/

/-- Identity, status, time and maintenance commands (R31, R218, R405, R425, R428, R442, R480), each due: the results that the
completion carries, a time step forward and never back, the Belay tick within its range, 32 staged bytes, the Rope settings (listened to
only under the boot sources that name the Rope, R349),
event-log entries newest first, and an abort of an idle or another generation's slot, which finds nothing.
An ABORT that finds its target running (R405, R423): the slot is marked, the abort waits for the target's completion, and a
target other than a load goes on. -/
def Obligations.DeviceCommands : Prop :=
  (∀ (s : State) (i : Issuer) (t : BitVec 64) (ns off index : Reg) (data : BitVec 256) (ghi action : Byte) (target : BitVec 16),
      (s.due i 0x0100 [] = true → Answers (.devIdentity i) s i stOK
        (0x040960B0 + 0xB0 * 2 ^ 32 + s.sec.lcs.code * 2 ^ 40 + leNat ((Config.sha384 deviceId).take 8) * 2 ^ 64) s) ∧
      (s.due i 0x0101 [] = true → Answers (.devStatus i) s i stOK
        (s.sys.dstate.code + s.sys.mode * 2 ^ 8 + s.sec.lcs.code * 2 ^ 16 + bitsOf ((List.range 4).map s.tenant) * 2 ^ 24
          + bitsOf ((List.range 64).map s.islSvc) * 2 ^ 32
          + bitsOf ((List.range 4).map (fun m => (s.stack m).insvc && (s.stack m).rate)) * 2 ^ 96
          + (if s.sys.full then 1 else 0) * 2 ^ 104) s) ∧
      (s.due i 0x0102 [] = true → Answers (.timeGet i) s i stOK (s.time.toNat + (if s.ext.ptp.locked then 1 else 0) * 2 ^ 64) s) ∧
      (s.due i 0x0103 [(8, 8, t.toNat)] = true →
        (s.time ≤ t → Answers (.timeStep i t) s i stOK 0 (if t = s.time then s else { s with
          time := t, sys := { s.sys with timeStep := some (s.now, t.toNat), skipped := s.sys.skipped + (t.toNat - s.now - 1) } })) ∧
        (t < s.time → Answers (.timeStep i t) s i stTIME_BACKWARD 0 s)) ∧
      (s.due i 0x0201 [(8, 4, ns.toNat)] = true →
        (250 ≤ ns.toNat ∧ ns.toNat ≤ 1000000 → Answers (.tickSet i ns) s i stOK 0 { s with belay := { s.belay with tick := ns.toNat } }) ∧
        (ns.toNat < 250 ∨ 1000000 < ns.toNat → Answers (.tickSet i ns) s i stBAD_OPERAND 0 s)) ∧
      (s.due i 0x0A00 [(8, 4, off.toNat), (12, 32, data.toNat)] = true → off.toNat % 32 = 0 → off.toNat + 32 ≤ 0x400000 → ∃ m : SMap Byte,
        Answers (.stage i off data) s i stOK 0 { s with rel := { s.rel with stage := m } } ∧
        ∀ a, sget 0 m a = if off.toNat ≤ a ∧ a < off.toNat + 32 then BitVec.ofNat 8 (data.toNat / 2 ^ (8 * (a - off.toNat)))
          else sget 0 s.rel.stage a) ∧
      (s.due i 0x0A03 [(8, 1, ghi.toNat), (9, 1, action.toNat)] = true → (ghi.toNat ≤ 63 ∨ ghi = 0xFF) →
        Answers (.ropeCtl i ghi action) s i stOK 0 (s.setRope { s.loader.rope with
          ghi := if ghi = 0xFF then s.loader.rope.ghi else ghi.setWidth 6
          faulto := if action.getLsbD 0 then false else s.loader.rope.faulto
          listen := if action.getLsbD 1 && (s.sys.bootSrc = 1 || s.sys.bootSrc = 2) then true else s.loader.rope.listen })) ∧
      (s.due i 0x0904 [(8, 4, index.toNat)] = true →
        (∀ e, s.rel.log[index.toNat]? = some e → Answers (.eventLog i index) s i stOK
          (e.time % 2 ^ 64 + e.boot.toNat * 2 ^ 64 + e.code.toNat * 2 ^ 80 + e.data.toNat * 2 ^ 96) s) ∧
        (s.rel.log.length ≤ index.toNat → Answers (.eventLog i index) s i stNOT_FOUND 0 s)) ∧
      (s.due i 0x0905 [] = true → Answers (.cairnStatus i) s i stOK
        (s.rel.passes + s.rel.notrun * 2 ^ 32 + s.rel.fails * 2 ^ 64 + s.rel.lastfail.toNat * 2 ^ 96) s) ∧
      (s.due i 0x0104 [(8, 2, target.toNat)] = true →
        let h := s.hslot i.p i.f (target.toNat % 4096)
        h.busy = false ∨ h.gen ≠ target.toNat / 4096 ∨ target = i.tag → Answers (.abort i target) s i stNOT_FOUND 0 s)) ∧
  (∀ (s : State) (i : Issuer) (target : BitVec 16) (x : Running), s.due i 0x0104 [(8, 2, target.toNat)] = true →
      let n := target.toNat % 4096
      let h := s.hslot i.p i.f n
      h.busy = true → h.gen = target.toNat / 4096 → target ≠ i.tag →
      s.record ⟨i.port, i.func, target⟩ = some x → x.op ≠ 0x0306 → x.op ≠ 0x0A02 →
      ∃ t, exec (.abort i target) s = .next t ∧ t.hslot i.p i.f n = { h with marked := true, aborters := h.aborters ++ [i] } ∧
        t.record i = none ∧ t.record ⟨i.port, i.func, target⟩ = some x ∧ t.upToHost s = s ∧ t.out = s.out)

/-- Loads that a command begins (R320, R321, R352): REGION_LOAD takes the context of the tenant's port and FULL_LOAD context 4,
and the command goes on running; with the context busy it ends at once with LOAD_FAILED and LOADER_BUSY. -/
def Obligations.LoadCommands : Prop :=
  ∀ (s : State) (i : Issuer) (r : Byte) (addr : BitVec 64) (src : Byte) (off len : Reg) (g : Region),
    let busyResult := 0x15 * 2 ^ 24
    (s.due i 0x0306 [(8, 1, r.toNat), (16, 8, addr.toNat), (24, 4, len.toNat)] = true → i.p < 4 → r.toNat < 64 →
      s.region r.toNat = some g → g.ten = i.p → g.stop ≠ some .clusterLost →
      ((s.ctx i.p).busy = true → Answers (.regionLoad i r addr len) s i stLOAD_FAILED busyResult s) ∧
      ((s.ctx i.p).busy = false → ∃ t, exec (.regionLoad i r addr len) s = .next t ∧
        t.ctx i.p = { lst := (s.ctx i.p).lst, lfrm := (s.ctx i.p).lfrm, ltk := (s.ctx i.p).ltk, ltkLatch := (s.ctx i.p).ltkLatch
                      busy := true, issuer := some i, region := some r.toNat, path := .mailbox i.p, phase := .header
                      base := addr.toNat, given := len.toNat } ∧
        (∃ x, t.record i = some x ∧ x.began = true) ∧ t.upToHost s = { s with loader := t.loader } ∧ t.out = s.out)) ∧
    (s.due i 0x0A02 [(8, 1, src.toNat), (12, 4, off.toNat), (16, 4, len.toNat)] = true →
      (src = 0 ∨ src = 1 ∧ off.toNat + len.toNat ≤ 0x400000) →
      ((s.ctx 4).busy = true → Answers (.fullLoad i src off len) s i stLOAD_FAILED busyResult s) ∧
      ((s.ctx 4).busy = false → ∃ t, exec (.fullLoad i src off len) s = .next t ∧
        t.ctx 4 = { lst := (s.ctx 4).lst, lfrm := (s.ctx 4).lfrm, ltk := (s.ctx 4).ltk, ltkLatch := (s.ctx 4).ltkLatch
                    busy := true, issuer := some i, region := none, path := if src = 0 then .flash else .stage, phase := .header
                    base := off.toNat, given := len.toNat } ∧
        (∃ x, t.record i = some x ∧ x.began = true) ∧ t.upToHost s = { s with loader := t.loader } ∧ t.out = s.out))

/-! ### Firmware commands: life cycle, keys, firmware -/

/-- Life-cycle transitions that the owner's commands begin while the part is not OWNED and no migration of a region's cluster runs (R354 to
R357, R474): the transition runs for its command, and the secrets named by the transition are gone. Where the claim, the authorisation or
the confirmation does not hold, nothing happens. LC_UNSEAL of a part without tenants keeps the secrets (R355, R356).
Step 4 of a transition (R356, R445; the command given again, log 84): the new state is written, for RETIRED with the fuse and an empty key
table, and the command is answered with OK. -/
def Obligations.LifeCycleCommands : Prop :=
  (∀ (s : State) (i : Issuer) (off len confirm : Reg), i.owner = true → s.sec.lcs ≠ .owned →
      (∀ m ∈ s.rel.migq, s.regionOf m.cl = none) →
      let large : List Opnd := [(12, 4, off.toNat), (16, 4, len.toNat)]
      let blob := s.staged off.toNat len.toNat
      let trans := fun (d : Lcs) => some ({ dest := d, issuer := i, posted := s.now } : Trans)
      let begins := fun (c : Instr) (e : State → Prop) => ∃ t, exec c s = .next t ∧ (∃ x, t.record i = some x ∧ x.began = true) ∧
        e (t.upToHost s) ∧ t.out = s.out ∧ t.sec.lcs = s.sec.lcs
      let staged := off.toNat + len.toNat ≤ 0x400000
      (s.due i 0x0B00 large = true → staged →
        (∀ h, Config.claimCheck deviceId blob = some h → begins (.lcClaim i off len)
          (fun e => e = { s with sec := { s.sec with ownerHash := some h, trans := trans .provisioned } })) ∧
        (Config.claimCheck deviceId blob = none → Answers (.lcClaim i off len) s i stBAD_SIGNATURE 0 s)) ∧
      (s.due i 0x0B01 [] = true → begins (.lcSeal i) (fun e => e = { s with sec := { s.sec with trans := trans .owned } })) ∧
      (s.due i 0x0B03 large = true → staged → s.sec.dbgcnt < 15 → Config.debugCheck deviceId blob = some (s.sec.dbgcnt + 1) →
        begins (.lcDebug i off len) (fun e => e.sec.dbgcnt = s.sec.dbgcnt + 1 ∧ e.sec.fleet = none ∧
          e.sec.signers = [] ∧ e.key 5 = none ∧ (∀ n, n < 8 → (e.eth n).sas = [] ∧ (e.eth n).newSas = none ∧ (e.eth n).txAn = none) ∧
          e.sec.trans = trans .debug ∧ e = { s with sec := e.sec, ext := e.ext })) ∧
      (s.due i 0x0B03 large = true → staged → s.sec.dbgcnt < 15 → Config.debugCheck deviceId blob ≠ some (s.sec.dbgcnt + 1) →
        Answers (.lcDebug i off len) s i stBAD_SIGNATURE 0 s) ∧
      (s.due i 0x0B03 large = true → staged → s.sec.dbgcnt = 15 → Answers (.lcDebug i off len) s i stLIFECYCLE 0 s) ∧
      (s.due i 0x0B04 [] = true → begins (.lcDebugExit i) (fun e =>
        e = { s with sec := { s.sec with debugFleet := none, keys := sput none s.sec.keys 5 none, trans := trans .provisioned } })) ∧
      (s.due i 0x0B05 [(8, 4, confirm.toNat)] = true →
        (confirm.toNat = le (Config.sha384 deviceId) 0 4 → begins (.lcRetire i confirm) (fun e =>
          e.sec.keys = [] ∧ e.sec.fleet = none ∧ e.sec.debugFleet = none ∧ e.sec.owner = {} ∧ e.sec.signers = [] ∧
          e.sec.trans = trans .retired ∧ (∀ n, n < 8 → (e.eth n).sas = [] ∧ (e.eth n).newSas = none ∧ (e.eth n).txAn = none) ∧
          (∀ p, p < 4 → (e.spdm p).session = none) ∧ e = { s with sec := e.sec, ext := e.ext })) ∧
        (confirm.toNat ≠ le (Config.sha384 deviceId) 0 4 → Answers (.lcRetire i confirm) s i stBAD_OPERAND 0 s))) ∧
  (∀ (s : State) (i : Issuer), i.owner = true → s.due i 0x0B02 [] = true → (∀ t, t < 4 → s.tenant t = false) →
      (∀ m ∈ s.rel.migq, s.regionOf m.cl = none) →
      ∃ t, exec (.lcUnseal i) s = .next t ∧ (∃ x, t.record i = some x ∧ x.began = true) ∧ t.out = s.out ∧ t.upToHost s =
        { s with sec := { s.sec with trans := some { dest := .provisioned, issuer := i, posted := s.now } } }) ∧
  (∀ (s : State) (i : Issuer) (x : Trans) (y : Running) (off len confirm : Reg), s.live = true → i.owner = true → s.host.avail = true →
      s.sec.trans = some x → x.issuer = i → x.written = false → s.record i = some y →
      let large : List Opnd := [(12, 4, off.toNat), (16, 4, len.toNat)]
      let e := { s with sec := { s.sec with
        lcs := x.dest, trans := some { x with written := true, posted := s.now }
        fused := s.sec.fused || decide (x.dest = .retired), keys := if x.dest = .retired then [] else s.sec.keys } }
      (y.op = 0x0B00 → opsMatch y.bytes large = true → Answers (.lcClaim i off len) s i stOK 0 e) ∧
      (y.op = 0x0B01 → Answers (.lcSeal i) s i stOK 0 e) ∧
      (y.op = 0x0B02 → Answers (.lcUnseal i) s i stOK 0 e) ∧
      (y.op = 0x0B03 → opsMatch y.bytes large = true → Answers (.lcDebug i off len) s i stOK 0 e) ∧
      (y.op = 0x0B04 → Answers (.lcDebugExit i) s i stOK 0 e) ∧
      (y.op = 0x0B05 → opsMatch y.bytes [(8, 4, confirm.toNat)] = true → Answers (.lcRetire i confirm) s i stOK 0 e))

/-- Keys and signers (R367, R368, R434): FLEET_KEY unwraps the fleet key, in DEBUG the debug one, into key slot 5; OWNER_SIGNER
takes the keys that hash to the value of the claim; SIGNER_REG takes keys whose digest begins as the command says; SVN_RAISE
only raises.
Firmware updates and restarts (R413, R443): an update with a valid signature and SVN goes into the other slot, which becomes
active, and Scaeth restarts with the stage buffer wiped; if the mailboxes have not returned after 50 ms the old slot is active
again and the update ends with HW_FAULT; when they return, the update ends with OK. -/
def Obligations.KeysAndUpdates : Prop :=
  (∀ (s : State) (i : Issuer) (off len svn : Reg) (addr : BitVec 64) (hash : BitVec 192) (blob : List Byte),
      let large : List Opnd := [(12, 4, off.toNat), (16, 4, len.toNat)]
      let st := s.staged off.toNat len.toNat
      (s.due i 0x0B06 large = true → off.toNat + len.toNat ≤ 0x400000 →
        (∀ k, Config.unwrap ((s.key 4).getD []) st = some k → Answers (.fleetKey i off len) s i stOK 0
          { s with sec := { (if s.sec.lcs = .debug then { s.sec with debugFleet := some k } else { s.sec with fleet := some k }) with
            keys := if s.sec.lcs = .retired then s.sec.keys else sput none s.sec.keys 5 (some k) } }) ∧
        (Config.unwrap ((s.key 4).getD []) st = none → Answers (.fleetKey i off len) s i stBAD_OPERAND 0 s)) ∧
      (s.due i 0x0B07 large = true → off.toNat + len.toNat ≤ 0x400000 →
        (keysOk st = true → s.sec.ownerHash = some (Config.sha384 st) → Answers (.ownerSigner i off len) s i stOK 0
          { s with sec := { s.sec with owner := { s.sec.owner with blob := some st } } }) ∧
        (s.sec.ownerHash ≠ some (Config.sha384 st) → Answers (.ownerSigner i off len) s i stBAD_OPERAND 0 s)) ∧
      (s.due i 0x030A [(8, 8, addr.toNat), (16, 4, len.toNat), (20, 24, hash.toNat)] = true → len = 2689 → (s.port i.p).up = true →
        keysOk blob = true → leNat ((Config.sha384 blob).take 24) = hash.toNat → (s.ctx i.p).busy = false →
        Answers (.signerReg i addr len hash (some blob)) s i stOK (leNat ((Config.sha384 blob).take 16))
          (s.setSigner i.p { s.signer i.p with blob := some blob })) ∧
      (s.due i 0x030B [(8, 4, svn.toNat)] = true →
        (i.owner = true → s.sec.owner.svn ≤ svn.toNat → Answers (.svnRaise i svn) s i stOK 0
          { s with sec := { s.sec with owner := { s.sec.owner with svn := svn.toNat } } }) ∧
        (i.owner = false → (s.signer i.p).svn ≤ svn.toNat → Answers (.svnRaise i svn) s i stOK 0
          (s.setSigner i.p { s.signer i.p with svn := svn.toNat })) ∧
        (i.owner = false → svn.toNat < (s.signer i.p).svn → Answers (.svnRaise i svn) s i stBAD_OPERAND 0 s))) ∧
  (∀ (s : State) (i : Issuer) (off len : Reg) (svn ver : Nat) (cause : RestartCause), s.live = true →
      let large : List Opnd := [(12, 4, off.toNat), (16, 4, len.toNat)]
      let img := s.staged off.toNat len.toNat
      (s.due i 0x0A01 large = true → off.toNat + len.toNat ≤ 0x400000 → len.toNat ≤ 0x300000 →
        (Config.fwCheck img = none → Answers (.fwUpdate i off len) s i stBAD_SIGNATURE 0 s) ∧
        (Config.fwCheck img = some (svn, ver) → svn < Config.fwSvnMin → Answers (.fwUpdate i off len) s i stROLLBACK 0 s) ∧
        (Config.fwCheck img = some (svn, ver) → Config.fwSvnMin ≤ svn → ∃ t, exec (.fwUpdate i off len) s = .next t ∧
          t.rel.slot = !s.rel.slot ∧ t.rel.update = some (i, s.now) ∧ t.rel.stage = [] ∧ t.host.avail = false ∧
          sget 0 t.rel.fwVer (if s.rel.slot then 0 else 1) = ver ∧ ∃ x, t.record i = some x ∧ x.began = true)) ∧
      (s.host.avail = true → exec (.scaethRestart cause) s = .next
        (({ s with host := { s.host with avail := false }, rel := { s.rel with stage := [] } } : State).log 0x61
          (match cause with | .mismatch => 1 | .update => 2 | .watchdog => 3))) ∧
      (∀ at_, s.rel.update = some (i, at_) → s.host.avail = false → at_ + 50000000 ≤ s.now → i.owner = true →
        ∃ t, exec .fwUpdateTimeout s = .next t ∧ t.rel.slot = !s.rel.slot ∧ t.rel.update = none ∧
          t.answered i stHW_FAULT 0 = true ∧ t.record i = none) ∧
      (∀ x, s.host.avail = false → 2 ≤ s.sys.bring → s.sys.change = none → s.host.running = [x] → x.loading = false → x.iss.owner = true →
        ∃ t, exec .mailboxReturn s = .next t ∧ t.host.avail = true ∧ t.rel.update = none ∧ t.record x.iss = none ∧
          t.answered x.iss (if (s.rel.update.map (·.1)) = some x.iss then stOK else stFW_RESTART) 0 = true))

/-! ### Firmware commands: tenants and regions -/

/-- Tenants and what a region is given (R206, R365, R430, R433, R466): creation on an existing port, the answer of REGION_INFO,
the quota, whose rise retries held items from the next cycle, the priority, and the standby set.
TENANT_EVICT (R378, R379), while no migration of a cluster of its regions runs (R474): the tenant is gone with its signer, its session
keys and its session. -/
def Obligations.TenantCommands : Prop :=
  (∀ (s : State) (i : Issuer) (ten r item maxp : Byte) (quota : BitVec 16) (mask : BitVec 256) (g : Region), i.owner = true →
      let b := s.breg r.toNat
      (s.due i 0x0300 [(8, 1, ten.toNat)] = true → ten.toNat ≤ 3 → s.portExists ten.toNat = true → s.tenant ten.toNat = false → ∃ e,
        Answers (.tenantCreate i ten) s i stOK 0 e ∧ e.tenant ten.toNat = true ∧ (∀ t, t ≠ ten.toNat → e.tenant t = s.tenant t) ∧
        e = { s with sec := { s.sec with tenants := e.sec.tenants } }) ∧
      (r.toNat < 64 → s.region r.toNat = some g →
        (s.due i 0x0305 [(8, 1, r.toNat), (9, 1, item.toNat)] = true →
          (item = 0 → Answers (.regionInfo i r item) s i stOK
            (g.x0 + g.y0 * 2 ^ 8 + g.w * 2 ^ 16 + g.h * 2 ^ 24 + g.units.length * 2 ^ 32 + g.tbase * 2 ^ 48 + g.tcount * 2 ^ 64
              + b.quota * 2 ^ 80 + g.sbase * 2 ^ 96 + g.scount * 2 ^ 112) s) ∧
          (item = 1 → Answers (.regionInfo i r item) s i stOK
            (g.ten + g.maxp * 2 ^ 8 + ((if g.patched then 1 else 0) + 2 * (if g.mirrored then 1 else 0)) * 2 ^ 16
              + bitsOf ((List.range 64).map (fun m => decide ((s.mover m).region = some r.toNat))) * 2 ^ 32) s) ∧
          (1 < item.toNat → Answers (.regionInfo i r item) s i stBAD_OPERAND 0 s)) ∧
        (s.due i 0x0307 [(8, 1, r.toNat), (10, 2, quota.toNat)] = true →
          Answers (.quotaSet i r quota) s i stOK 0 (s.setBreg r.toNat { b with
            quota := quota.toNat
            retry := if b.quota < quota.toNat ∧ (b.held ≠ [] ∨ b.qheld ≠ []) then
              some { since := s.now, events := heldOrder b.held, tasks := b.qheld } else b.retry })) ∧
        (s.due i 0x0308 [(8, 1, r.toNat), (9, 1, maxp.toNat)] = true → maxp.toNat ≤ 3 → ∃ e,
          Answers (.prioSet i r maxp) s i stOK 0 e ∧ e.region r.toNat = some { g with maxp := maxp.toNat } ∧
          (∀ k, k ≠ r.toNat → e.region k = s.region k) ∧ e.belay = s.belay ∧ e.cls = s.cls ∧ e.hbm = s.hbm ∧
          (∀ n, n < 256 → (e.router n).pend = (s.router n).pend ++ [RtrChange.maxPrio r.toNat maxp.toNat]))) ∧
      (let cs := (List.range 256).filter (fun c => mask.getLsbD c)
       s.due i 0x0309 [(8, 32, mask.toNat)] = true → cs.length ≤ 16 →
        (∀ c ∈ cs, s.regionOf c = none ∧ (∀ e ∈ s.noc.redirect, e.1 ≠ c ∧ e.2 ≠ c) ∧ ∀ m ∈ s.rel.migq, m.cl ≠ c ∧ m.dst ≠ c) → ∃ e,
        Answers (.standbySet i mask) s i stOK 0 e ∧ e.sec.standby = cs.filter (fun c => !(s.smap c).retired) ∧
        (∀ c, c < 256 → e.smap c = { s.smap c with standby := decide (c ∈ cs) && !(s.smap c).retired }) ∧
        e.cls = s.cls ∧ e.belay = s.belay ∧ e.hbm = s.hbm)) ∧
  (∀ (s : State) (i : Issuer) (ten : Byte), i.owner = true → s.due i 0x0301 [(8, 1, ten.toNat)] = true → ten.toNat ≤ 3 →
      s.tenant ten.toNat = true → (∀ m ∈ s.rel.migq, s.regionOf m.cl = none) → ∃ x, Answers (.tenantEvict i ten) s i stOK 0 x ∧ x.tenant ten.toNat = false ∧
        x.signer ten.toNat = {} ∧ x.key (8 + ten.toNat) = none ∧ x.key (12 + ten.toNat) = none ∧ (x.spdm ten.toNat).session = none)

/-- REGION_ALLOC (R371, R374, R430, R431) of free clusters whose islands are in service, with the resources that the search
finds, none of them still being wiped (R382), outside ISOLATED mode: the lowest free region number, its rectangle, units, tasks, sessions and quota, a fresh key, and
each unit tagged with the region; the completion carries the region, its first task and its first session.
What leaves with a region or a part of it (R374, R379 to R382, R432): REGION_RELEASE, outside DEBUG and while no migration of a cluster of
the region runs (R419, R474), frees the number, destroys the key, clears
the clusters and Belay's registers, unassigns the movers, and frees and zero-fills the units; REGION_RESIZE to fewer units frees
and zero-fills those at the end of the list, and to more appends units that it tags, once none of them is being wiped. -/
def Obligations.RegionCommands : Prop :=
  (∀ (s : State) (i : Issuer) (a : AllocOp) (r : Nat) (us : List Nat) (t e : Nat), i.owner = true →
      s.due i 0x0302 (allocOpnds a) = true → a.ten.toNat ≤ 3 → a.maxp.toNat ≤ 3 → a.w ≠ 0 → a.h ≠ 0 → a.x0.toNat + a.w.toNat ≤ 16 →
      a.y0.toNat + a.h.toNat ≤ 16 → (s.sys.mode = 3 → a.y0.toNat % 2 = 0 ∧ a.h.toNat % 2 = 0) → s.sys.mode ≠ 4 → s.tenant a.ten.toNat = true →
      (∀ c ∈ rect a.x0.toNat a.y0.toNat a.w.toNat a.h.toNat,
        s.clTaken c = false ∧ c ∉ s.loader.ownerClusters ∧ s.islOn (islandOf c) = true ∧ s.islSvc (islandOf c) = true ∧ s.clWiping c = false) →
      s.allocate a = some (r, us, t, e) → (∀ u ∈ us, s.unitWiping u = false) → s.sec.lcs ≠ .retired →
      (s.region r = none ∧ ∀ k, k < r → s.region k ≠ none) ∧
      ∃ x, Answers (.regionAlloc i a) s i stOK (r + t * 2 ^ 16 + e * 2 ^ 32) x ∧
        x.region r = some { ten := a.ten.toNat, x0 := a.x0.toNat, y0 := a.y0.toNat, w := a.w.toNat, h := a.h.toNat, maxp := a.maxp.toNat
                            units := us, tbase := t, tcount := a.tcount.toNat, sbase := e, scount := a.scount.toNat } ∧
        (∀ k, k ≠ r → x.region k = s.region k) ∧ x.breg r = { base := t, count := a.tcount.toNat, quota := a.quota.toNat } ∧
        x.key (32 + r) = some (Config.random s.entropy) ∧ x.entropy = s.entropy + 1 ∧
        (∀ u ∈ us, sget none x.sec.units u = some r) ∧ (∀ u, u ∉ us → sget none x.sec.units u = sget none s.sec.units u) ∧
        x.cls = s.cls ∧ x.hbm = s.hbm) ∧
  (∀ (s : State) (i : Issuer) (r stk : Byte) (units : BitVec 16) (g : Region), i.owner = true → r.toNat < 64 →
      s.region r.toNat = some g →
      let n := r.toNat
      let wiped := fun (x : State) (u : Nat) => sget none x.sec.units u = none ∧
        ∀ a, u * 0x8000000 ≤ a → a < (u + 1) * 0x8000000 → memGet x.hbm.mem a = none
      (s.due i 0x0304 [(8, 1, n)] = true → s.sec.lcs ≠ .debug → (∀ m ∈ s.rel.migq, s.regionOf m.cl ≠ some n) → ∃ x, Answers (.regionRelease i r) s i stOK 0 x ∧
        x.region n = none ∧ x.key (32 + n) = none ∧ x.breg n = {} ∧ (∀ m, m < 64 → (x.mover m).region ≠ some n) ∧
        (∀ u ∈ g.units, wiped x u) ∧
        (∀ c ∈ g.clusters, (x.cl c).planes = [] ∧ (x.cl c).queues = [] ∧ (x.cl c).sram = [] ∧ (x.cl c).digest = none)) ∧
      (s.due i 0x0303 [(8, 1, n), (10, 2, units.toNat), (12, 1, stk.toNat)] = true → s.sys.mode ≠ 4 → g.mirrored = false →
        (units.toNat ≤ g.units.length → ∃ x, Answers (.regionResize i r units stk) s i stOK units.toNat x ∧
          x.region n = some { g with units := g.units.take units.toNat } ∧ (∀ u ∈ g.units.drop units.toNat, wiped x u)) ∧
        (∀ us, g.units.length < units.toNat → s.pickUnits (units.toNat - g.units.length) stk.toNat = some us →
          (∀ u ∈ us, s.unitWiping u = false) → ∃ x, Answers (.regionResize i r units stk) s i stOK units.toNat x ∧
            x.region n = some { g with units := g.units ++ us } ∧ (∀ u ∈ us, sget none x.sec.units u = some n)) ∧
        (g.units.length < units.toNat → s.pickUnits (units.toNat - g.units.length) stk.toNat = none →
          Answers (.regionResize i r units stk) s i stNO_RESOURCE 0 s)))

/-! ### Firmware commands: memory and statistics -/

/-- The memory commands (R285, R305 to R308, R314, R440, R441), each due: the order of a stack without allocated units or mirror partners,
the repair of a frozen PC, which writes zeros over an uncorrectable burst, goes back into service and loses a repair of its kind (the
absorb mode ends at a packet boundary, R269, R272), that of the frozen PC of a mirrored pair, retirement, a sweep that passes or fails on
the eyes of its four byte lanes, and mirroring, which begins on whole PCs whose partners are free and whose switch as it already stands
changes nothing.
The statistics (R277, R426, R440, R442), each due for the owner: every item is returned and the counters returned are
cleared; NOC_TIMEOUT sets an initiator's timeout. -/
def Obligations.MemoryCommands : Prop :=
  (∀ (s : State) (i : Issuer) (stack order hard r en : Byte) (pc : PcOp) (lanes : Eyes) (g : Region),
      i.owner = true → pc.stack.toNat ≤ 3 → pc.chan.toNat ≤ 15 → pc.pc.toNat ≤ 1 →
      let n := 32 * pc.stack.toNat + 2 * pc.chan.toNat + pc.pc.toNat
      let p := s.pc n
      let named : List Opnd := [(8, 1, pc.stack.toNat), (9, 1, pc.chan.toNat), (10, 1, pc.pc.toNat)]
      let es := [lanes.lane0, lanes.lane1, lanes.lane2, lanes.lane3]
      let passes := ∀ e ∈ es, 12 ≤ e.write.toNat ∧ 12 ≤ e.read.toNat
      let least := fun (f : Eye → BitVec 7) => min (min (f lanes.lane0).toNat (f lanes.lane1).toNat) (min (f lanes.lane2).toNat (f lanes.lane3).toNat)
      (s.due i 0x0700 [(8, 1, stack.toNat), (9, 1, order.toNat)] = true → stack.toNat ≤ 3 → order.toNat ≤ 3 →
        (∀ j, j < 256 → sget none s.sec.units (288 * stack.toNat + j) = none) → (∀ q ∈ s.sec.mirrorPcs, q / 32 ≠ stack.toNat) →
        Answers (.hbmOrder i stack order) s i stOK 0 (s.setStack stack.toNat { s.stack stack.toNat with order := order.setWidth 2 })) ∧
      (s.due i 0x0701 (named ++ [(11, 1, hard.toNat)]) = true → hard.toNat ≤ 1 → (hard = 1 → p.hard ≠ 0) → (hard = 0 → p.soft ≠ 0) →
        (p.st = .frozen → Answers (.pcRepair i pc hard true) s i stOK 0
          (((((if p.fue then s.hbmWrite (p.faddr / 32 * 32) (List.replicate 32 0) else s).setPc n { p with
              st := .service, fue := false, capar := false, held := false
              hard := if hard = 1 then p.hard - 1 else p.hard, hardUsed := if hard = 1 then p.hardUsed + 1 else p.hardUsed
              soft := if hard = 1 then p.soft else p.soft - 1, softUsed := if hard = 1 then p.softUsed else p.softUsed + 1 } : State)).setPcDead
            n false).log 0x31 (pcData n + hard.toNat))) ∧
        (p.st = .degraded → ∃ x, Answers (.pcRepair i pc hard true) s i stOK 0 x ∧ (x.pc n).st = .service) ∧
        (p.st = .frozen ∨ p.st = .degraded → Answers (.pcRepair i pc hard false) s i stHW_FAULT 0 s)) ∧
      (s.due i 0x0702 named = true → p.st ≠ .retired → ∃ x l, Answers (.pcRetire i pc) s i stOK 0 x ∧
        (x.pc n).st = .retired ∧ (x.pc n).opens = [] ∧ (x.pc n).sref = false ∧
        (x.router (pcRouter n)).pend = l ++ [RtrChange.pcDead (n % 2) true]) ∧
      (s.due i 0x0703 named = true → anchorPc n = false → s.pcUsed n = false → p.st = .service →
        (passes → ∃ x, Answers (.pcResweep i pc lanes) s i stOK (least (·.read) + least (·.write) * 2 ^ 8) x ∧ (x.pc n).st = .service ∧
          (x.pc n).rdeye.toNat = least (·.read) ∧ (x.pc n).wreye.toNat = least (·.write)) ∧
        (¬ passes → ∃ x, Answers (.pcResweep i pc lanes) s i stHW_FAULT 0 x ∧ (x.pc n).st = .out ∧ (x.pc n).barred = true)) ∧
      (s.due i 0x0704 [(8, 1, r.toNat), (9, 1, en.toNat)] = true → r.toNat < 64 → s.region r.toNat = some g → s.sys.mode = 3 →
        en.toNat ≤ 1 →
        ((en = 1 ↔ g.mirrored = true) → Answers (.memMirror i r en) s i stOK 0 s) ∧
        (en = 1 → g.mirrored = false → (∀ q ∈ s.regionPcs g, s.pcWhole q = true ∧ (∀ u ∈ pcUnits q, u ∈ g.units) ∧
            pcPartner q ∉ s.regionPcs g ∧ ∀ u ∈ pcUnits (pcPartner q), s.unitFree u = true) →
          ∃ x, Answers (.memMirror i r en) s i stOK 0 x ∧ x.region r.toNat = some { g with mirrored := true } ∧
          ∀ q ∈ s.regionPcs g, (x.pc q).mir = true ∧ (x.pc q).primary = true ∧ (x.pc (pcPartner q)).mir = true ∧
            pcPartner q ∈ x.sec.mirrorPcs) ∧
        (en = 0 → g.mirrored = true → ∃ x, Answers (.memMirror i r en) s i stOK 0 x ∧
          x.region r.toNat = some { g with mirrored := false } ∧
          ∀ q ∈ s.regionPcs g, (x.pc q).mir = false ∧ pcPartner q ∉ x.sec.mirrorPcs))) ∧
  (∀ (s : State) (i : Issuer) (pc : PcOp) (id : BitVec 16) (item r : Byte) (tous : Reg) (g : Region),
      i.owner = true → pc.stack.toNat ≤ 3 → pc.chan.toNat ≤ 15 → pc.pc.toNat ≤ 1 → 0x210 ≤ id.toNat → id.toNat ≤ 0x214 →
      let n := 32 * pc.stack.toNat + 2 * pc.chan.toNat + pc.pc.toNat
      let p := s.pc n
      let k := s.init id.toNat
      let x := s.router r.toNat
      let b := s.breg r.toNat
      let h := fun j => sget 0 k.hist j
      let half := fun d => let l := sget {} x.lanes d; (l.used % 4 + 4 * (if l.half then 1 else 0)) * 2 ^ (8 * d)
      (s.due i 0x0705 [(8, 1, pc.stack.toNat), (9, 1, pc.chan.toNat), (10, 1, pc.pc.toNat)] = true →
        Answers (.hbmStats i pc) s i stOK
          (p.ce + p.ue * 2 ^ 16 + p.postp * 2 ^ 32 + p.runs * 2 ^ 48 + p.rdeye.toNat * 2 ^ 64 + p.wreye.toNat * 2 ^ 72 + p.st.code * 2 ^ 80
            + ((if p.stored then 1 else 0) + 2 * (if p.drift then 1 else 0)) * 2 ^ 88 + (16 * p.hard + p.soft) * 2 ^ 96)
          (s.setPc n { p with ce := 0, ue := 0, postp := 0, runs := 0 })) ∧
      (s.due i 0x0900 [(8, 2, id.toNat), (10, 1, item.toNat)] = true →
        (item = 0 → Answers (.nocStats i id item) s i stOK
          (k.req + k.words * 2 ^ 32 + k.lmax * 2 ^ 64 + k.tocnt * 2 ^ 96 + k.nStuck s.now * 2 ^ 112)
          (s.setInit id.toNat { k with req := 0, words := 0, lmax := 0, tocnt := 0 })) ∧
        (item = 1 → ∃ m, Answers (.nocStats i id item) s i stOK (h 0 + h 1 * 2 ^ 32 + h 2 * 2 ^ 64 + h 3 * 2 ^ 96)
          (s.setInit id.toNat { k with hist := m }) ∧ ∀ j, sget 0 m j = if j < 4 then 0 else h j) ∧
        (item = 2 → ∃ m, Answers (.nocStats i id item) s i stOK (h 4 + h 5 * 2 ^ 32 + h 6 * 2 ^ 64 + h 7 * 2 ^ 96)
          (s.setInit id.toNat { k with hist := m }) ∧ ∀ j, sget 0 m j = if 4 ≤ j ∧ j < 8 then 0 else h j) ∧
        (item = 3 → Answers (.nocStats i id item) s i stOK
          (k.late + k.stray * 2 ^ 16 + k.nFree (nTags id.toNat) * 2 ^ 32 + k.nBusy * 2 ^ 48 + k.nQuar * 2 ^ 64)
          (s.setInit id.toNat { k with late := 0, stray := 0 }))) ∧
      (s.due i 0x0901 [(8, 1, r.toNat)] = true →
        Answers (.routerStats i r) s i stOK (x.pdrop + x.retry * 2 ^ 16 + (half 0 + half 1 + half 2 + half 3) * 2 ^ 32)
          (s.setRouter r.toNat { x with pdrop := 0, retry := 0 })) ∧
      (s.due i 0x0902 [(8, 1, r.toNat)] = true → r.toNat < 64 → s.region r.toNat = some g →
        Answers (.belayStats i r) s i stOK (b.disp + b.fail * 2 ^ 32 + b.qblk * 2 ^ 64 + b.drop * 2 ^ 80 + (if b.exsat then 1 else 0) * 2 ^ 96)
          (s.setBreg r.toNat { b with disp := 0, fail := 0, qblk := 0, drop := 0, exsat := false })) ∧
      (s.due i 0x0903 [(8, 2, id.toNat), (12, 4, tous.toNat)] = true → 1 ≤ tous.toNat → tous.toNat ≤ 1000000 →
        Answers (.nocTimeout i id tous) s i stOK 0 (s.setInit id.toNat { k with tous := tous.toNat })))

/-! ### Firmware commands: modes, waits, refusals -/

/-- The operating modes and the change between them (R428, R429, R449, R453 to R455, R510): MODE_SET with defined tables in full
service, no load, no migration of a region's cluster and no other change running, begins a change and goes on running; each step follows the one before: the drain begins, a voltage that
must rise rises before the clocks relock and one that must fall falls after, the islands' clocks restart then, the new mode takes its tables and Belay's
scheme, and the change ends with the command's completion and the mode kept for the next boot. -/
def Obligations.ModeChanges : Prop :=
  ∀ (s : State) (i : Issuer) (mode : Byte) (off len : Reg) (pm : PmBus) (rs : List (List Byte)) (ch : ModeChange), i.owner = true →
    s.live = true →
    let at_ := fun (n : Nat) => some { ch with step := n, since := s.now }
    let restarted := ((List.range 64).filter s.islOn).foldl (fun m k => sput 0 m k s.now) s.sys.clockAt
    (s.due i 0x0200 [(8, 1, mode.toNat), (12, 4, off.toNat), (16, 4, len.toNat)] = true → s.modeBusy i = false →
      s.modeTables mode.toNat off.toNat len.toNat = some rs → s.sys.full = true → (s.sys.mode = 3 → mode = 3) →
      s.modeFits mode.toNat rs = true → (∀ x, x < 5 → (s.ctx x).busy = false) → (∀ m ∈ s.rel.migq, s.regionOf m.cl = none) →
      s.sys.change = none →
      ∃ t, exec (.modeSet i mode off len) s = .next t ∧ (∃ x, t.record i = some x ∧ x.began = true) ∧
        t.upToHost s = { s with sys := { s.sys with
          change := some { step := 1, mode := mode.toNat, issuer := some i, tables := rs, since := s.now } } }) ∧
    (s.sys.change = some ch → s.host.avail = true →
      (ch.step = 1 → exec (.modeChangeStep pm) s = .next { s with sys := { s.sys with change := at_ 2 } }) ∧
      (ch.step = 2 → s.outstanding = [] → s.sys.vdd < vddOf ch.mode → pm.fails = 0 →
        exec (.modeChangeStep pm) s = .next { s with
          sys := { s.sys with change := at_ 3, vdd := vddOf ch.mode }
          ext := { s.ext with pmbFails := min s.ext.pmbFails 0xFFFF } }) ∧
      (ch.step = 4 → vddOf ch.mode < s.sys.vdd → pm.fails = 0 →
        exec (.modeChangeStep pm) s = .next { s with
          sys := { s.sys with change := at_ 5, vdd := vddOf ch.mode, clockAt := restarted }
          ext := { s.ext with pmbFails := min s.ext.pmbFails 0xFFFF } }) ∧
      (ch.step = 3 → ch.mode = 5 → exec (.modeChangeStep pm) s = .next { s with sys := { s.sys with change := at_ 4 } }) ∧
      (ch.step = 4 → s.sys.vdd ≤ vddOf ch.mode → ∃ t, exec (.modeChangeStep pm) s = .next t ∧
        t.sys = { s.sys with change := at_ 6, mode := ch.mode, clockAt := restarted }) ∧
      (ch.step = 5 → ∃ t, exec (.modeChangeStep pm) s = .next t ∧ t.sys = { s.sys with change := at_ 6, mode := ch.mode } ∧
        t.belay.scheme = (if ch.mode = 2 then 1 else if ch.mode = 4 then 2 else 0) ∧
        (∀ n, n < 256 → (t.router n).slots = routerSlots ch.mode s.regionNums ch.tables n) ∧ t.cls = s.cls ∧ t.hbm = s.hbm) ∧
      (ch.step = 6 → ch.issuer = some i → ∃ t, exec (.modeChangeStep pm) s = .next t ∧ t.answered i stOK 0 = true ∧ t.record i = none ∧
        t.upToHost s = { s with sys := { s.sys with change := none, bootMode := ch.mode } }) ∧
      (ch.step = 6 → ch.issuer = none → s.sys.dstate ≠ .faultSafe →
        exec (.modeChangeStep pm) s = .next { s with
          sys := { s.sys with change := none, dstate := .service, full := true, bring := 8 }
          hbm := { s.hbm with storedAt := some (s.now + 60000000000) } }))

/-- The first check that fails refuses a command, which then changes nothing (R417, R419, R446, R475): an operand out of its
range, a region that does not exist or is another tenant's, an object whose state forbids the command, a stopped region.
COMMAND_WAIT_END (R420 to R422): a waiting command that names a released object completes with RELEASED and no effect; a
waiting command that nothing blocks any longer does what its own command does, so an HBM_ORDER that is now due sets the order. -/
def Obligations.RefusalsAndWaits : Prop :=
  (∀ (s : State) (i : Issuer) (r : Byte) (quota task qid base depth : BitVec 16) (prod cons psrc : Byte) (k : Nat) (g : Region),
      (s.due i 0x0307 [(8, 1, r.toNat), (10, 2, quota.toNat)] = true →
        (64 ≤ r.toNat → Answers (.quotaSet i r quota) s i stBAD_OPERAND 0 s) ∧
        (r.toNat < 64 → i.owner = true → s.region r.toNat = none → Answers (.quotaSet i r quota) s i stBAD_OPERAND 0 s) ∧
        (r.toNat < 64 → i.owner = false → (∀ g, s.region r.toNat = some g → g.ten ≠ i.p) →
          Answers (.quotaSet i r quota) s i stOUT_OF_RANGE 0 s)) ∧
      (s.due i 0x0601 [(8, 2, task.toNat)] = true →
        (s.regionOfTask task.toNat = none → Answers (.taskArm i task) s i stOUT_OF_RANGE 0 s) ∧
        (s.regionOfTask task.toNat = some k → s.region k = some g →
          (g.ten ≠ i.p → Answers (.taskArm i task) s i stOUT_OF_RANGE 0 s) ∧
          (g.ten = i.p → g.stop ≠ none → Answers (.taskArm i task) s i stBAD_STATE 0 s) ∧
          (g.ten = i.p → g.stop = none → (s.task task.toNat).st ≠ .dormant → Answers (.taskArm i task) s i stBAD_STATE 0 s))) ∧
      (s.due i 0x0500 [(8, 2, qid.toNat), (10, 2, base.toNat), (12, 2, depth.toNat), (14, 1, prod.toNat), (15, 1, cons.toNat),
          (16, 1, psrc.toNat)] = true →
        (depth.toNat < 4 ∨ 4096 < depth.toNat ∨ 65536 < base.toNat + depth.toNat ∨ 7 < prod.toNat ∨ 2 < cons.toNat ∨ 63 < psrc.toNat →
          Answers (.queueCfg i qid base depth prod cons psrc) s i stBAD_OPERAND 0 s))) ∧
  (∀ (s : State) (i : Issuer) (cmd : Instr) (r ten stack order : Byte) (x : Running), s.live = true →
      s.host.waits.find? (fun w => decide (w.iss = i)) = some ⟨i, cmd⟩ → s.record i = some x →
      (cmd = .regionRelease i r ∨ cmd = .tenantEvict i ten ∨ cmd = .hbmOrder i stack order ∨ cmd = .lcSeal i ∨ cmd = .lcUnseal i →
        exec (.commandWaitEnd i) s = exec cmd s) ∧
      (cmd = .hbmOrder i stack order → s.due i 0x0700 [(8, 1, stack.toNat), (9, 1, order.toNat)] = true → stack.toNat ≤ 3 → order.toNat ≤ 3 →
        (∀ j, j < 256 → sget none s.sec.units (288 * stack.toNat + j) = none) → (∀ q ∈ s.sec.mirrorPcs, q / 32 ≠ stack.toNat) →
        Answers (.commandWaitEnd i) s i stOK 0 (s.setStack stack.toNat { s.stack stack.toNat with order := order.setWidth 2 })) ∧
      (cmd = .regionRelease i r → x.op = 0x0304 → le x.bytes 8 1 = r.toNat → x.released = true → i.owner = true → s.host.avail = true →
        Answers (.commandWaitEnd i) s i stRELEASED 0 s))

/-! ### Clusters -/

/-- A cycle of a cluster without a partner and without physical events, no commit due and no write at a cell memory port (R82, R85 to R87,
R102, R104, R105, R119, R134): a cycle of a repair pause counts down and as a stall, and the last one inverts LIVE; a fill cycle counts
down; a stall changes no cell, lane or selection and is counted with its causes; a parked cluster's outputs and lanes are 0
and its operations go on; an advancing cycle repeats the entry's plane REP times, and then goes where its KIND says, or parks at a
HALT entry with the context-halt event; a START or PARK that waits is taken first. Nothing else but queues and links moves. -/
def Obligations.ClusterCycles : Prop :=
  ∀ (s : State) (c : ClId), s.live = true → s.sys.mode ≠ 3 → (s.cl c).role = 0 → s.clocked c = true → (s.cl c).commitCome s.now = false →
    (s.cl c).writing = [] → ((s.cl c).pause = 1 → (s.cl c).failing.length ≤ 1) → (∀ i w, i < 16 → sget 0 ((s.cl c).cell i).bad w < 2) →
    let k := s.cl c
    let e := k.entryAt k.sel.entry
    let inext := (k.sel.entry + 1) % 128
    let cond := (k.cell (enCCELL e)).cond != enCINV e
    let plane := fun (x : Entry) => if enKIND x = 1 ∧ ((k.cell (enCCELL x)).cond != enCINV x) = false then enALT x else enPLANE x
    let enters := fun (t : State) (sel : Sel) (i : Nat) => if enKIND (k.entryAt i) = 5
      then (t.cl c).sel = { sel with run := false, plane := 0, entry := i, rep := 0, halted := true } ∧ bit (t.seq c).evp.toNat 8 = true
      else (t.cl c).sel = { sel with run := true, plane := plane (k.entryAt i), entry := i, rep := 0 }
    ∃ t, exec (.clusterCycle c []) s = .next t ∧ t = { s with cls := t.cls, noc := t.noc } ∧ 
      t.noc = { s.noc with packets := t.noc.packets, nextId := t.noc.nextId, inits := t.noc.inits } ∧
      (0 < k.pause → (t.cl c).cells = k.cells ∧ (t.cl c).sel = k.sel ∧ (t.cl c).stalls = min (k.stalls + 1) 0xFFFFFFFF ∧
        (t.cl c).scause = k.scause ||| 0x20 ∧ (t.cl c).pause = k.pause - 1 ∧ (t.cl c).live = (if k.pause = 1 then !k.live else k.live)) ∧
      (k.pause = 0 → 0 < k.fill → (t.cl c).fill = k.fill - 1 ∧ (t.cl c).stalls = min (k.stalls + 1) 0xFFFFFFFF ∧ (t.cl c).scause = k.scause ||| 0x20) ∧
      (k.pause = 0 → k.fill = 0 → k.sel.run = true → k.stallCause ≠ 0 → (t.cl c).cells = k.cells ∧ (t.cl c).lanes = k.lanes ∧ (t.cl c).sel = k.sel ∧
        (t.cl c).stalls = min (k.stalls + 1) 0xFFFFFFFF ∧ (t.cl c).scause = k.scause ||| k.stallCause) ∧
      (k.pause = 0 → k.fill = 0 → k.sel.run = false → (t.cl c).lanes = [] ∧ (∀ i, i < 16 → (t.cl c).cell i = { (k.cell i).writeback with outs := [] }) ∧
        (k.sel.cmd = none → (t.cl c).sel = k.sel)) ∧
      (k.pause = 0 → k.fill = 0 → (k.sel.run = true → k.stallCause = 0) →
        (k.sel.cmd = some .park → (t.cl c).sel = { k.sel with cmd := none, run := false, plane := 0 }) ∧
        (∀ i, k.sel.cmd = some (.start i) → enters t { k.sel with cmd := none, lc0 := 0, lc1 := 0 } i) ∧
        (k.sel.cmd = none → k.sel.run = true →
          (k.sel.rep < enREP e → (t.cl c).sel = { k.sel with rep := k.sel.rep + 1, plane := plane e }) ∧
          (enREP e ≤ k.sel.rep → (enKIND e ≤ 1 → enters t k.sel inext) ∧
            (enKIND e = 2 → enters t k.sel (if cond then enTARGET e else inext)) ∧ (enKIND e = 3 → enters t k.sel (enTARGET e)) ∧
            (enKIND e = 4 → enLCSEL e = false →
              (k.sel.lc0 < enLCOUNT e → enters t { k.sel with lc0 := k.sel.lc0 + 1 } (enTARGET e)) ∧
              (enLCOUNT e ≤ k.sel.lc0 → enters t { k.sel with lc0 := 0 } inext)) ∧
            (enKIND e = 4 → enLCSEL e = true →
              (k.sel.lc1 < enLCOUNT e → enters t { k.sel with lc1 := k.sel.lc1 + 1 } (enTARGET e)) ∧
              (enLCOUNT e ≤ k.sel.lc1 → enters t { k.sel with lc1 := 0 } inext)))))

/-- Accesses of initiators to a cluster's memories, and its context control (R56 to R58, R87, R88, R108, R174, R342): the oldest access
that waits at a cell, once its port is free, or at the data memory, moves its bytes and no others and is answered; in a cluster whose
cycles occur it takes the port, and a write is made, and answered, at the end of the cycle; the write barrier of a full image turns it
away; START and PARK of an initiator with rights register their request, or set CMDERR; a read of CTX_CTICK_LO latches the high half. The
answer is `State.respond`, whose packet MemoryRequests states. -/
def Obligations.ClusterAccesses : Prop :=
  ∀ (s : State) (c : ClId) (cell : CellId) (who : InitId) (h : Held) (rest : List Held) (d : List Byte) (entry : BitVec 7) (both : Bool),
    s.live = true → s.sys.mode ≠ 3 →
    let k := s.cl c
    let byte := fun (t : State) (a : Nat) => wordByte 16 ((t.cl c).cell (a / 32768)).mem (a % 32768)
    let dbyte := fun (t : State) (a : Nat) => sget 0 (t.seq c).dmem a
    let m := s.redir c
    (k.cellWait.find? (fun x => decide (x.off / 32768 = cell.val)) = some h → s.islandRuns c = true →
      (s.loader.barrier.contains c.val = true → h.who ≠ loaderId →
        exec (.cellMemoryAccess c cell) s = .next ((s.updCl c fun k => { k with cellWait := k.cellWait.erase h }).respond h 3 [])) ∧
      (s.loader.barrier.contains c.val = false ∨ h.who = loaderId → h.data = some d → s.writePortBusy c cell = false → s.clocked c = true →
        exec (.cellMemoryAccess c cell) s =
          .next (s.updCl c fun k => { k with cellWait := k.cellWait.erase h, writing := k.writing ++ [h] })) ∧
      (s.loader.barrier.contains c.val = false ∨ h.who = loaderId → h.data = some d → h.off + d.length ≤ 0x80000 →
        s.writePortBusy c cell = false → s.clocked c = false →
        ∃ t, exec (.cellMemoryAccess c cell) s = .next t ∧ t.noc = (s.respond h 0 []).noc ∧ (t.cl c).cellWait = k.cellWait.erase h ∧
          t.seq c = s.seq c ∧ ∀ a, a < 0x80000 → byte t a = if h.off ≤ a ∧ a < h.off + d.length then (d[a - h.off]?).getD 0 else byte s a) ∧
      (s.loader.barrier.contains c.val = false ∨ h.who = loaderId → h.data = none → 1 ≤ h.nbytes → h.off + h.nbytes ≤ 0x80000 →
        (∀ i w, sget 0 (k.cell i).bad w < 2) → s.readPortBusy c cell = false →
        ∃ t, exec (.cellMemoryAccess c cell) s = .next t ∧
          t.noc = (s.respond h 0 ((List.range h.nbytes).map (fun i => byte s (h.off + i)))).noc ∧
          (t.cl c).cellWait = k.cellWait.erase h ∧ (t.cl c).reading = (if s.clocked c then k.reading ++ [cell.val] else k.reading) ∧
          ∀ a, byte t a = byte s a)) ∧
    (k.writing = [h] → h.data = some d → h.off + d.length ≤ 0x80000 →
      let t := s.portsEnd c
      t.noc = (s.respond h 0 []).noc ∧ (t.cl c).writing = [] ∧ (t.cl c).reading = [] ∧
        ∀ a, a < 0x80000 → byte t a = if h.off ≤ a ∧ a < h.off + d.length then (d[a - h.off]?).getD 0 else byte s a) ∧
    (k.role = 0 → s.cycleGoes c = true → exec (.clusterCycle c []) s = .next ((s.cycle c).portsEnd c)) ∧
    (k.dmemWait = h :: rest → s.islandRuns c = true → 0x810000 ≤ h.off → s.loader.barrier.contains c.val = false →
      (h.data = some d → 1 ≤ d.length → h.off + d.length ≤ 0x820000 → ∃ t, exec (.sequencerMemoryAccess c) s = .next t ∧
        t.noc = (s.respond h 0 []).noc ∧ (t.cl c).dmemWait = rest ∧ t.seq c = { s.seq c with dmem := (t.seq c).dmem } ∧
        ∀ a, dbyte t a = if h.off ≤ 0x810000 + a ∧ 0x810000 + a < h.off + d.length then (d[0x810000 + a - h.off]?).getD 0 else dbyte s a) ∧
      (h.data = none → 1 ≤ h.nbytes → h.off + h.nbytes ≤ 0x820000 → ∃ t, exec (.sequencerMemoryAccess c) s = .next t ∧
        t.noc = (s.respond h 0 ((List.range h.nbytes).map (fun i => dbyte s (h.off - 0x810000 + i)))).noc ∧ t.cl c = { k with dmemWait := rest })) ∧
    (s.ctxRights who m = true →
      let asks := fun (x : CtxCmd) => s.updCl m fun k => { k with sel := { k.sel with cmd := some x } }
      let refuses := s.updCl m fun k => { k with sel := { k.sel with cmderr := true } }
      ((s.cl m).fill = 0 → (s.cl m).pause = 0 → (s.cl m).role ≠ 2 → exec (.start who c entry false) s = .next (asks (.start entry.toNat)) ∧
        exec (.park who c) s = .next (asks .park)) ∧
      (0 < (s.cl m).fill ∨ 0 < (s.cl m).pause ∨ (s.cl m).role = 2 ∨ both = true → exec (.start who c entry both) s = .next refuses) ∧
      (0 < (s.cl m).fill ∨ 0 < (s.cl m).pause ∨ (s.cl m).role = 2 → exec (.park who c) s = .next refuses) ∧
      exec (.ctxCtickLoRead who c) s = .next ((s.updCl m fun k => { k with
        ctickLatch := some (BitVec.ofNat 32 (k.ctick.toNat / 2 ^ 32)) }).emit (.regValue (some (BitVec.ofNat 64 ((s.cl m).ctick.toNat % 2 ^ 32)))))) ∧
    (s.ctxRights who m = false → exec (.start who c entry both) s = .next (s.emit (.regValue none)) ∧
      exec (.park who c) s = .next (s.emit (.regValue none)) ∧ exec (.ctxCtickLoRead who c) s = .next (s.emit (.regValue none)))

/-- REGION_COMMIT of a cluster without a partner at its own edge (R101 to R103): the shadow half and bank become live and the
other live one is given up, the cells take their initial values with all flags clear and nothing in flight, selection starts
anew, and the cluster fills for the greatest preload count of its cells and one cycle more.
The repair of a cell (R104 to R106): the spare of a running cluster takes the place of the failing cell, is noted in the spare
map and logged, and the pause follows at a tick of 1 µs at least 10 µs later, its commit or repair tick in the order of R34; the pause
stands as many cycles as it needs (ClusterCycles counts them), and where no cycles occur LIVE inverts at once. -/
def Obligations.CommitsAndRepairs : Prop :=
  (∀ (s : State) (c : ClId) (h : Shadow) (at_ : Nat), s.live = true → s.sys.mode ≠ 3 →
      let k := s.cl c
      k.shadow = some h → h.role = 0 → k.commitAt = some at_ → at_ ≤ s.now → s.islandRuns c = true → k.repair = none → s.inOrder at_ = true →
      ∃ t, exec (.regionCommit c) s = .next t ∧
        let n := t.cl c
        n.live = !k.live ∧ n.pbank = !k.pbank ∧ n.mask = h.mask ∧ n.role = 0 ∧ n.startPark = h.park ∧ n.digest = some h.digest ∧
        n.shadow = none ∧ n.commitAt = none ∧ n.lanes = [] ∧ n.ctick = BitVec.ofNat 64 at_ ∧ n.planes = k.planes ∧ n.prog = k.prog ∧
        n.sel = { k.sel with run := false, rep := 0, plane := 0, lc0 := 0, lc1 := 0, cmd := none, cmderr := k.sel.cmderr || k.sel.cmd.isSome } ∧
        n.fill = k.preCount + 1 ∧ (∀ i, i < 16 → (k.preWords i).length ≤ k.preCount) ∧ n.queues = k.queues ∧ n.sram = k.sram ∧
        (∀ i, i < 16 →
          let x := n.cell i
          let v := (sget 0 k.ivr i).toNat
          (∀ j, j < 16 → sget 0 x.c j = BitVec.ofNat 128 (v / 2 ^ (128 * j))) ∧
          (∀ j, j < 4 → sget 0 x.acc j = BitVec.ofNat 512 (v / 2 ^ (2048 + 512 * j))) ∧
          x.ap0 = BitVec.ofNat 11 (v / 2 ^ 4096) ∧ x.ap1 = BitVec.ofNat 11 (v / 2 ^ 4128) ∧ x.wp = BitVec.ofNat 11 (v / 2 ^ 4160) ∧
          x.cond = decide (v / 2 ^ 4192 % 2 = 1) ∧ x.stat = 0 ∧ x.flight = [] ∧ x.outs = [] ∧ x.mem = (k.cell i).mem)) ∧
  (∀ (s : State) (c : ClId) (cell : CellId) (phys : BitVec 5) (cycles : Fin 2177) (r : Repair), s.live = true →
      let k := s.cl c
      let e := s.smap c
      (k.failing = [cell.val] → k.repair = none → k.shadow = none → k.fill = 0 → e.spared = false → e.spareBad = false → e.retired = false →
        s.islandRuns c = true → ∃ t at_, exec (.spareRepair c cell phys) s = .next t ∧
          t.smap c = { e with spared := true, lcell := BitVec.ofNat 4 cell.val, phys := phys } ∧
          (t.cl c).repair = some ⟨cell.val, at_⟩ ∧ s.now + 10000 ≤ at_ ∧ at_ < s.now + 11000 ∧ at_ % 1000 = 0 ∧
          (∀ i p, i < 16 → p < 8 → sget 0 (t.cl c).planes (16 * i + 8 * (if k.live then 1 else 0) + p) =
            sget 0 k.planes (16 * i + 8 * (if k.live then 1 else 0) + p)) ∧
          (k.copy = none → ∀ i p, i < 16 → p < 8 → sget 0 (t.cl c).planes (16 * i + 8 * (if k.live then 0 else 1) + p) =
            if k.mask.getLsbD p then sget 0 k.planes (16 * i + 8 * (if k.live then 1 else 0) + p) else 0)) ∧
      (k.repair = some r → r.tick ≤ s.now → s.inOrder r.tick = true → s.islandRuns c = true → k.pause = 0 → k.failing = [r.cell] →
        (k.cell r.cell).lostWords = [] → exec (.repairPause c [] cycles) s = .next (s.setCl c
          (if cycles.val = 0 ∨ s.clocked c = false then { k with live := !k.live, repair := none, failing := [] } else { k with pause := cycles.val }))))

/-- Words and credits between clusters (R126, R128, R139, R142, R144, R148, R165): a link's word that lands, or a staged word, enters a
queue of its producer with its tag behind the words that are there; from another producer it sets PERR; a full queue ignores a
staged word and counts it, and a link's word that meets one is lost (log 85); the last word of a remote push to leave the staging answers
it with the number of words taken; a credit counts, a stale timer that has run out sets SX with its notice and stops.
What a cluster sends (R149 to R155, R214, R228): the head notice of a queue leaves toward its task, its sequencer's line or its tenant's
ring, one on its way at a time, once no notice raised before it waits; a forward channel sends what it has packed, to a queue under a
free tag, to a mover posted. What `State.sendReq` does to a packet MemoryRequests states. -/
def Obligations.ClusterTraffic : Prop :=
  (∀ (s : State) (c : ClId) (l : LinkId) (q : QId) (who : InitId) (v : Reg) (w : LinkWord) (x : Staged), s.live = true →
      let k := s.cl c
      let d := s.redir w.tcl
      let n := q.val / 128
      let j := q.val % 128
      let u := s.queue q
      let m := s.redir n
      let enters := fun (old new : Cluster) (j : Nat) (w : Word) (tag : BitVec 4) =>
        let u := old.queue j
        let slot := old.qBase j + u.wr
        new.queue j = { u with count := u.count + 1, wr := (u.wr + 1) % old.qDepth j
                               staleFrom := if u.count = 0 then s.now else u.staleFrom
                               staleStopped := if u.count = 0 then false else u.staleStopped } ∧
        sget 0 new.sram slot = w ∧ (∀ a, a ≠ slot → sget 0 new.sram a = sget 0 old.sram a) ∧
        sget 0 new.tags slot = (if old.isTile j then 0 else tag) ∧ (∀ i, i ≠ j → new.queue i = old.queue i)
      (k.linkWords.find? (fun y => decide (y.link = l.val)) = some w → s.islandRuns d = true → (s.cl d).qFull w.q = false →
        ∃ t, exec (.linkWordLanding c l) s = .next t ∧ (t.cl c).linkWords = k.linkWords.erase w ∧
          (∀ e, e ≠ c.val → e ≠ d → t.cl e = s.cl e) ∧
          (((s.cl d).queue w.q).prod = prodLINK → enters (s.cl d) (t.cl d) w.q w.w w.tag) ∧
          (((s.cl d).queue w.q).prod ≠ prodLINK → (t.cl d).queue w.q = { (s.cl d).queue w.q with perr := true } ∧ (t.cl d).sram = (s.cl d).sram)) ∧
      (k.linkWords.find? (fun y => decide (y.link = l.val)) = some w → s.islandRuns d = true → (s.cl d).qFull w.q = true →
        exec (.linkWordLanding c l) s = .next (s.setCl c { k with linkWords := k.linkWords.erase w })) ∧
      (l.val ∈ k.linkCreds → s.islandRuns c = true → ∃ m, exec (.linkCreditArrival c l) s = .next
        (s.setCl c { k with linkCreds := k.linkCreds.erase l.val, credits := m }) ∧
        ∀ i, sget 0 m i = if i = l.val then sget 0 k.credits i + 1 else sget 0 k.credits i) ∧
      ((s.cl n).staging.find? (fun y => decide (y.q = j)) = some x → s.islandRuns n = true →
        ∃ t, exec (.stagedWordEntry q) s = .next t ∧ (t.cl n).staging = (s.cl n).staging.erase x ∧ (∀ e, e ≠ n → t.cl e = s.cl e) ∧
          (x.push = none → t.noc = s.noc ∧ (t.cl n).pushes = (s.cl n).pushes) ∧
          (∀ id y, x.push = some id → (s.cl n).pushes.find? (fun z => decide (z.id = id)) = some y →
            let took := !(s.cl n).qFull j && decide (u.prod = x.prod) && (decide (x.prod ≠ prodMOVER) || decide (u.psrc.toNat = x.psrc))
            let z := { y with left := y.left - 1, pushed := y.pushed + if took then 1 else 0 }
            (y.left ≠ 1 → y.left ≠ 0 → t.noc = s.noc ∧ (t.cl n).pushes = (s.cl n).pushes.map (fun v => if v = y then z else v)) ∧
            (y.left = 1 → t.noc = (s.pushAnswer n z 0).noc ∧ (t.cl n).pushes = (s.cl n).pushes.erase y)) ∧
          ((s.cl n).qFull j = false → u.prod = x.prod → (x.prod = prodMOVER → u.psrc.toNat = x.psrc) → enters (s.cl n) (t.cl n) j x.w x.tag) ∧
          ((s.cl n).qFull j = false → u.prod ≠ x.prod → t.queue q = { u with perr := true }) ∧
          ((s.cl n).qFull j = true → u.nkind = 0 → t.queue q = { u with ovr := true, ovcnt := min (u.ovcnt + 1) 0xFFFF } ∧
            (t.cl n).sram = (s.cl n).sram)) ∧
      (u.en = true → u.stale ≠ 0 → 0 < u.count → u.staleStopped = false → (s.cl n).isTile j = false → u.staleFrom + 64 * u.stale ≤ s.now →
        s.islandRuns n = true → exec (.staleTimeout q) s = .next (s.setQueue q
          (let y := { u with sx := true, staleStopped := true }
           if u.sne = true ∧ u.nkind ≠ 0 then
             (if u.npend < 255 then { y with notices := u.notices ++ [{ kind := .stale, nkind := u.nkind, target := u.target }] } else { y with nsat := true })
           else y))) ∧
      (s.queueRights who m = true → exec (.sqStaleWrite who q v) s = .next (s.setQueue (128 * m + j)
        { s.queue (128 * m + j) with stale := v.toNat % 65536, staleFrom := s.now, staleStopped := false })) ∧
      (s.queueRights who m = false → exec (.sqStaleWrite who q v) s = .next (s.emit (.regValue none)))) ∧
  (∀ (s : State) (c : ClId) (ch : ChId) (q : QId) (n : Notice) (rest : List Notice) (ten tag : Nat), s.live = true →
      let d := q.val / 128
      let u := s.queue q
      let k := s.cl c
      let f := k.fwd ch
      let i := s.init c
      let g := i.tagOf tag
      (u.notices = n :: rest → u.onWay = none → s.islandRuns d = true → s.noticeWaits q n = false →
        (n.nkind = 1 → s.clusterHeld d = false → exec (.noticeDelivery q) s = .next ((s.setQueue q { u with notices := rest, onWay := some n }).sendReq
          .hub { op := .evt, who := d, prio := 3, client := 9, evt := some (.event ⟨256 + d, n.target.toNat, 0, .queue q⟩) })) ∧
        (n.nkind = 2 → s.lockstep d = false → exec (.noticeDelivery q) s = .next
          ((s.setQueue q { u with notices := rest, onWay := none }).updSeq d fun z => { z with lines := z.lines ++ [n.target.toNat % 8] })) ∧
        (n.nkind ≠ 1 → n.nkind ≠ 2 → s.tenantOf d = some ten → exec (.noticeDelivery q) s = .next
          ((s.setQueue q { u with notices := rest, onWay := some n }).sendReq .hub
            { op := .evt, who := d, prio := 3, client := 9
              evt := some (.notice ten { ring := n.target.toNat, kind := n.kind, status := 0, code := 0, id := s.qid q, orig := some (.queue q) }) }))) ∧
      (k.fwdReady ch = true → s.fwdQueued c ch = false → s.maySendReq c = true → s.islandRuns c = true →
        (f.mover = true →
          let b : End := if 64 ≤ f.target then .hub else .array (moverRouter f.target) 2
          exec (.forwardChannelSend c ch) s = .next ((s.updCl c fun k => k.setFwd ch { f with packed := [] }).sendReq b
            { op := .pushp, who := c, prio := s.lowerPrio c b f.prio, toMover := true, addr := f.target, chan := ch, words := f.packed,
              client := ch + 1 })) ∧
        (f.mover = false → s.freeTag c = some tag → g.st = .free ∧ (∀ j, j < tag → (i.tagOf j).st ≠ .free) ∧
          let e := s.redir (f.target / 128)
          let prio := s.lowerPrio c (.array e 0) f.prio
          exec (.forwardChannelSend c ch) s = .next (((s.updCl c fun k => k.setFwd ch { f with packed := [] }).setInit c (i.setTagOf tag
              { g with st := .busy, since := s.now, rtr := e, port := 0, prio := prio, client := ch + 1, addr := 0, write := false })).sendReq
            (.array e 0) { op := .push, who := c, tag := tag, gen := g.gen, prio := prio, addr := f.target, words := f.packed, client := ch + 1 }))))

/-! ### Movers and the network -/

/-- A mover's work (R154, R159 to R164, R243): a post of the staged descriptor waits, or sets DFULL; a start checks it in the order
BADDESC, ADDR, TARGET; a word for HBM, a host or a session leaves the input buffer with a credit for its sender; a word for or from HBM is
a request under a tag whose answer the mover awaits, and an error answer is MEMERR; a word for a queue takes a credit; the last word ends
the descriptor, a denied or failed access ends it with its status, and the completion records it. -/
def Obligations.MoverMoves : Prop :=
  ∀ (s : State) (m : MvId) (who : InitId) (v : Reg) (d : BitVec 256) (ds : List (BitVec 256)) (r : Nat) (g : Region) (x : MvRun)
    (w : MvWord) (ws : List MvWord) (a tag status : Nat) (data : List Byte) (hw : Word) (host : Option Word) (st : Byte), s.live = true →
    let u := s.mover m
    let i := moverInit m
    let staged := BitVec.ofNat 256 ((List.range 8).foldl (fun b k => b + (sget 0 u.mvd k).toNat * 2 ^ (32 * k)) 0)
    let moved : MvRun := { x with moved := x.moved + 1, status := if x.moved + 1 = dLEN x.desc then some 0 else none }
    let q := s.moverQueue x.desc
    let pops := fun (y : MvRun) => (s.setMover m { u with inbuf := ws, running := some y }).sendReq (.array w.cl 0)
      { op := .crd, who := i, prio := 3, chan := w.ch, addr := s.origin w.cl, count := 1 }
    let asks := fun (t : State) (a : Nat) (word : Option Word) =>
      let b := s.targetEnd a
      let prio := s.lowerPrio i b 3
      (t.setInit i ((t.init i).setTagOf tag { (s.init i).tagOf tag with
        st := .busy, since := s.now, rtr := (s.targetPort i a).1, port := (s.targetPort i a).2, prio := prio, addr := a, write := word.isSome })).sendReq b
        { op := if word.isSome then .wr else .rd, who := i, tag := tag, gen := ((s.init i).tagOf tag).gen, prio := prio, addr := a, nbytes := 16
          data := match word with | some w => wordBytes w | none => [] }
    let pushes := fun (t : State) (w : Word) (y : MvRun) =>
      (t.setMover m { u with credits := sput 0 u.credits q (sget 0 u.credits q - 1), running := some y }).sendReq (.array (q / 128) 0)
        { op := .pushp, who := i, prio := s.lowerPrio i (.array (q / 128) 0) 3, prod := prodMOVER, addr := dDST x.desc % 32768, words := [(w, 0)] }
    (s.moverRights who m = true → u.region = some r →
      (v.toNat % 2 = 1 → u.dpend < 16 → exec (.sqMvpost who m v) s = .next (s.setMover m { u with descs := u.descs ++ [staged] })) ∧
      (v.toNat % 2 = 1 → 16 ≤ u.dpend → exec (.sqMvpost who m v) s = .next (s.setMover m { u with dfull := true }))) ∧
    (s.moverRights who m = false → exec (.sqMvpost who m v) s = .next (s.emit (.regValue none))) ∧
    (u.region = some r → s.region r = some g →
      (u.descs = d :: ds → s.moverMayStart m g = true → ∃ st, exec (.moverDescriptorStart m) s = .next
          (s.setMover m { u with descs := ds, running := some { desc := d, status := st } }) ∧
        (dKIND d = 0 ∨ 5 < dKIND d ∨ dLEN d = 0 → st = some 2) ∧
        (dKIND d = 1 → dLEN d ≠ 0 → dNOTE d = false → (dDST d % 16 ≠ 0 ∨ g.units.length * unitBytes < dDST d + 16 * dLEN d) → st = some 1) ∧
        (dKIND d = 1 → dLEN d ≠ 0 → dNOTE d = false → dDST d % 16 = 0 → dDST d + 16 * dLEN d ≤ g.units.length * unitBytes → st = none)) ∧
      (u.running = some x → x.status = none → x.wait = none → s.maySendReq i = true →
        (u.inbuf = w :: ws →
          (dKIND x.desc = 1 → s.freeTag i = some tag → s.translate i (dDST x.desc + 16 * x.moved) = some a →
            exec (.moverWordTransfer m host) s = .next (asks (pops { x with wait := some tag }) a (some w.w))) ∧
          (dKIND x.desc = 1 → s.freeTag i = some tag → s.translate i (dDST x.desc + 16 * x.moved) = none →
            exec (.moverWordTransfer m host) s = .next (pops { x with status := some 3 })) ∧
          (dKIND x.desc = 2 → host.isSome = true → (s.port g.ten).up = true → exec (.moverWordTransfer m host) s = .next
            ((pops moved).emit (.hostWrite g.ten (dDST x.desc + 16 * x.moved) (wordBytes w.w)))) ∧
          (dKIND x.desc = 2 → host.isSome = false ∨ (s.port g.ten).up = false →
            exec (.moverWordTransfer m host) s = .next (pops { x with status := some 4 })) ∧
          (dKIND x.desc = 3 → let e := dDST x.desc % 16384
            exec (.moverWordTransfer m host) s = .next
            ((pops moved).setSess e { s.sess e with words := (s.sess e).words ++ [(w.w, w.tag)] }))) ∧
        (0 < sget 0 u.credits q →
          (dKIND x.desc = 4 → s.freeTag i = some tag → s.translate i (dSRC x.desc + 16 * x.moved) = some a →
            exec (.moverWordTransfer m host) s = .next (asks (s.setMover m { u with running := some { x with wait := some tag } }) a none)) ∧
          (dKIND x.desc = 5 → host = some hw → (s.port g.ten).up = true → exec (.moverWordTransfer m host) s = .next
            (pushes (s.emit (.hostRead g.ten (dSRC x.desc + 16 * x.moved) 16)) hw moved)))) ∧
      (u.running = some x → x.status = some st → dNOTE x.desc = false → u.notices = [] → exec (.moverCompletion m) s = .next
        (s.setMover m { u with running := none, lastst := st, mvcnt := x.moved, err := u.err || decide (st ≠ 0) }))) ∧
    (u.running = some x → x.status = none → x.wait = some tag →
      (status ≠ 0 → s.moverAnswer i tag status data = s.setMover m { u with running := some { x with wait := none, status := some 3 } }) ∧
      (status = 0 → dKIND x.desc = 1 → s.moverAnswer i tag status data = s.setMover m { u with running := some { moved with wait := none } }) ∧
      (status = 0 → dKIND x.desc = 4 → 0 < sget 0 u.credits q →
        s.moverAnswer i tag status data = pushes s (bytesWord data) { moved with wait := none }))

/-- Memory requests (R243, R244, R246 to R249, R255, R258, R263, R268, R276, R278, R374). A formed request whose tag is free takes the tag,
or none when it is posted, and leaves for the place that serves its address; an address that its initiator has not been given is answered
ACCESS by its own interface; a request that no packet can carry is not performed. `State.sendReq` gives a packet its place of entry and
that of its target, counts it, and puts it behind the packets that are there; between two blocks of the hub it is there at once.
`State.respond` answers a request that is not posted from the place of its target. A request that has arrived is turned away with the status
with which its port met it, ACCESS, DEAD or FENCED, or waits at the controller of its channel or at the memory of its cluster. -/
def Obligations.MemoryRequests : Prop :=
  (∀ (s : State) (r : Request), s.live = true →
    let i := r.who.val
    let n := s.init i
    let g := n.tagOf r.tag
    let cmds : List (Instr × Opc × Bool) := [(.rd (.send r), .rd, false), (.wr (.send r), .wr, true), (.wrp (.send r), .wrp, true)]
    ∀ e ∈ cmds,
    let (c, op, write) := e
    let prio := fun (a : Nat) => s.lowerPrio i (s.targetEnd a) r.prio.val
    let takes := fun (a : Nat) => if op = .wrp then s else s.setInit i (n.setTagOf r.tag { g with
      st := .busy, since := s.now, rtr := (s.targetPort i a).1, port := (s.targetPort i a).2, prio := prio a, addr := a, write := decide (op = .wr) })
    let packet := fun (a : Nat) => ({ op := op, who := i, tag := r.tag, gen := g.gen, prio := prio a, addr := a, size := r.size, nbytes := reqBytes r
                                      data := if write then reqData r else [] } : Packet)
    (reqFormed r write = false → exec c s = .fault .illFormed) ∧
    (reqFormed r write = true → s.maySendReq i = true → op ≠ .wrp → nTags i ≤ r.tag ∨ g.st ≠ .free → exec c s = .next s) ∧
    (reqFormed r write = true → s.maySendReq i = true → (op ≠ .wrp → r.tag < nTags i ∧ g.st = .free) →
      (∀ a, s.translate i r.addr = some a → exec c s = .next ((takes a).sendReq (s.targetEnd a) (packet a))) ∧
      (s.translate i r.addr = none →
        let a := 0x800000000000
        let t := (takes a).setInit i (((takes a).init i).countReq (packet a).body.length)
        exec c s = .next (if op = .wrp then t else t.respond (packet a).held 3 [])))) ∧
  (∀ (s : State) (b : End) (p : Packet),
    let t := s.sendReq b p
    let n := s.init p.who
    let y := { p with nowrap := s.nowrapTo p.who b, id := s.noc.nextId + 1 }
    t = { s with noc := t.noc } ∧ t.noc = { s.noc with packets := t.noc.packets, nextId := s.noc.nextId + 1, inits := t.noc.inits } ∧
    t.init p.who = { n with req := min (n.req + 1) 0xFFFFFFFF, words := min (n.words + p.body.length) 0xFFFFFFFF } ∧
    (∀ j, j ≠ p.who → t.init j = s.init j) ∧
    t.noc.packets = s.noc.packets ++ [match initEnd p.who, b with
      | .array r k, .array q l => { y with spot := .source, src := (r, k), dst := (q, l) }
      | .array r k, .hub => { y with spot := .source, src := (r, k), dst := (hubB (dieOf r), 3) }
      | .hub, .array q l => { y with spot := .source, src := (hubA (dieOf q), 3), dst := (q, l) }
      | .hub, .hub => { y with spot := .arrived, src := (256, 3), dst := (256, 3), verdict := some 0 }]) ∧
  (∀ (s : State) (h : Held) (st : Nat) (data : List Byte),
    let t := s.respond h st data
    let (r, p) := s.targetPort h.who h.addr
    (h.posted = true → t = s) ∧
    (h.posted = false → ∃ z, t = { s with noc := t.noc } ∧
      t.noc = { s.noc with packets := s.noc.packets ++ [z], nextId := s.noc.nextId + 1, routers := t.noc.routers } ∧
      t.router r = { s.router r with toreps := (t.router r).toreps } ∧ sget 0 (t.router r).toreps p = 0 ∧
      z.op = (if st ≠ 0 then .err else if h.data.isNone then .rdata else .ack) ∧ z.who = h.who ∧ z.tag = h.tag ∧ z.gen = h.gen ∧ z.prio = h.prio ∧
      z.nowrap = h.nowrap ∧ z.status = BitVec.ofNat 4 st ∧ z.data = (if st = 0 then data else []) ∧ z.id = s.noc.nextId + 1 ∧
      (s.targetEnd h.addr = .hub → initEnd h.who = .hub → z.spot = .arrived) ∧
      (∀ x y, attach (s.targetEnd h.addr) (initEnd h.who) = some (x, y) → z.spot = .source ∧ z.src = x ∧ z.dst = y))) ∧
  (∀ (s : State) (who : InitId) (tag : Nat) (x : Packet), s.live = true →
    let cmds : List (Instr × Opc) := [(.rd (.flight who tag), .rd), (.wr (.flight who tag), .wr), (.wrp (.flight who tag), .wrp)]
    ∀ e ∈ cmds,
    let (c, op) := e
    let d := s.dropPacket x
    let st := s.verdict x
    let h := { x.held with ord := s.noc.accepted }
    let accepts : State := { d with noc := { d.noc with accepted := d.noc.accepted + 1 } }
    let y := s.router x.dst.1
    s.firstPacket (fun y => decide (y.op = op) && decide (y.who = who.val) && decide (y.tag = tag)) = some x →
      d.noc.packets = s.noc.packets.erase x ∧
      (∀ v, x.verdict = some v → st = v) ∧
      (x.verdict = none → (s.fwPass x.who x.dst.1 x.dst.2 = false → st = 3) ∧
        (s.fwPass x.who x.dst.1 x.dst.2 = true → y.absOf x.dst.2 = 1 → st = 4) ∧ (s.fwPass x.who x.dst.1 x.dst.2 = true → y.absOf x.dst.2 = 2 → st = 5)) ∧
      (st ≠ 0 → op ≠ .wrp → exec c s = .next (d.respond x.held st [])) ∧
      (st ≠ 0 → op = .wrp → exec c s = .next (if st = 4 ∨ st = 5 then d.setRouter x.dst.1 { y with pdrop := min (y.pdrop + 1) 0xFFFF } else d)) ∧
      (st = 0 → x.addr < hbmBytes → s.hbmStatus x.who x.addr x.nbytes = 0 →
        let ch := (s.hbmLoc x.addr).pc / 2
        exec c s = .next { accepts with hbm := { s.hbm with ports := sput [] s.hbm.ports ch (sget [] s.hbm.ports ch ++ [h]) } }) ∧
      (st = 0 → x.addr < hbmBytes → s.hbmStatus x.who x.addr x.nbytes ≠ 0 → s.hbmDenies x.addr x.nbytes = false →
        exec c s = .next (d.respond x.held (s.hbmStatus x.who x.addr x.nbytes) [])) ∧
      (∀ e o, st = 0 → place x.addr = .win e o → s.loader.barrier.contains (s.redir e) = false →
        (winArea o = some 0 → winArea (o + x.nbytes - 1) = some 0 →
          exec c s = .next (accepts.updCl (s.redir e) fun k => { k with cellWait := k.cellWait ++ [h] })) ∧
        (winArea o = some 4 → winArea (o + x.nbytes - 1) = some 4 →
          exec c s = .next (accepts.updCl (s.redir e) fun k => { k with dmemWait := k.dmemWait ++ [h] }))))

/-- Pushes, credits and events (R126, R142, R144, R152 to R155, R162, R193, R211, R243, R258): a push leaves for its queue under a free tag, a
posted one without; a remote push that has arrived is turned away when its queue is not REMOTE or of another region, and enters the
staging, to be answered with the last of its words (ClusterTraffic), once that has room for them; a posted push enters the staging, a
mover's buffer or a bank's; credits, but for those of the time before a queue or channel was last enabled, and events reach their owners. -/
def Obligations.PushesAndEvents : Prop :=
  ∀ (s : State) (who : InitId) (tag : Nat) (prio : Fin 4) (q : QId) (ws : List (Word × BitVec 4)) (x : Packet), s.live = true →
    let i := who.val
    let n := s.init i
    let g := n.tagOf tag
    let e := s.redir (q.val / 128)
    let low := s.lowerPrio i (.array e 0) prio.val
    let first := fun (op : Opc) => s.firstPacket (fun y => decide (y.op = op) && decide (y.who = i)) = some x
    let d := s.dropPacket x
    let c := s.redir (x.addr / 128)
    let j := x.addr % 128
    let room := (s.cl c).staging.length + x.words.length ≤ 64
    let src := if isMover i then i - 0x100 else 0
    (ws = [] ∨ 16 < ws.length → exec (.push (.direct who tag prio q ws)) s = .fault .illFormed ∧
      exec (.pushp (.direct who tag prio q ws)) s = .fault .illFormed) ∧
    (1 ≤ ws.length → ws.length ≤ 16 → s.maySendReq i = true →
      (tag < nTags i → g.st = .free → exec (.push (.direct who tag prio q ws)) s = .next
        ((s.setInit i (n.setTagOf tag { g with st := .busy, since := s.now, rtr := e, port := 0, prio := low, client := 0, addr := 0, write := false })).sendReq
          (.array e 0) { op := .push, who := i, tag := tag, gen := g.gen, prio := low, addr := q.val, words := ws })) ∧
      (nTags i ≤ tag ∨ g.st ≠ .free → exec (.push (.direct who tag prio q ws)) s = .next s) ∧
      (∀ prod, (isHost i = true ∧ prod = prodHOST) ∨ (0x220 ≤ i ∧ i < 0x228 ∧ prod = prodETH) ∨ (0x228 ≤ i ∧ i < 0x22C ∧ prod = prodGPIO) →
        exec (.pushp (.direct who tag prio q ws)) s = .next (s.sendReq (.array e 0)
          { op := .pushp, who := i, prio := s.lowerTo i (.array e 0) prio.val (s.qRegion q.val), addr := q.val, words := ws, prod := prod }))) ∧
    (first .push →
      (s.verdict x ≠ 0 → exec (.push (.flight who)) s = .next (d.pushAnswer x.dst.1 x.pushRec (s.verdict x))) ∧
      (s.verdict x = 0 → s.pushAllowed i (128 * c + j) = false → exec (.push (.flight who)) s = .next (d.pushAnswer x.dst.1 x.pushRec 7)) ∧
      (s.verdict x = 0 → s.pushAllowed i (128 * c + j) = true → room → exec (.push (.flight who)) s = .next
        (({ d with noc := { d.noc with accepted := d.noc.accepted + 1 } } : State).updCl c fun k => { k with
          staging := k.staging ++ x.words.map (fun y => ⟨j, y.1, y.2, prodREMOTE, src, some x.id⟩)
          pushes := k.pushes ++ [{ id := x.id, who := i, tag := x.tag, gen := x.gen, prio := x.prio, nowrap := x.nowrap, words := x.words.length
                                   left := x.words.length, ord := s.noc.accepted }] })) ∧
      (s.verdict x = 0 → s.pushAllowed i (128 * c + j) = true → ¬ room → exec (.push (.flight who)) s = .next s)) ∧
    (∀ (t : State) (c st : Nat) (y : PushRec), ∃ z, (t.pushAnswer c y st).noc.packets = t.noc.packets ++ [z] ∧
      z.op = (if st = 0 then .pushack else .err) ∧ z.who = y.who ∧ z.tag = y.tag ∧ z.gen = y.gen ∧ z.prio = y.prio ∧ z.status = BitVec.ofNat 4 st ∧
      z.count = (if st = 0 then y.pushed else 0) ∧ z.src = (c, 0) ∧ z.spot = .source ∧
      sget 0 ((t.pushAnswer c y st).router c).toreps 0 = 0) ∧
    (first .pushp →
      (s.verdict x = 0 → x.toMover = true → x.addr < 64 → exec (.pushp (.flight who)) s = .next (d.setMover x.addr { s.mover x.addr with
        inbuf := (s.mover x.addr).inbuf ++ x.words.map (fun y => ⟨y.1, y.2, i, x.chan⟩) })) ∧
      (s.verdict x = 0 → x.toMover = true → 64 ≤ x.addr → exec (.pushp (.flight who)) s = .next (d.setBank (x.addr - 64) { s.bank (x.addr - 64) with
        outbuf := (s.bank (x.addr - 64)).outbuf ++ x.words.map (fun y => ⟨y.1, y.2, i, x.chan⟩) })) ∧
      (s.verdict x = 0 → x.toMover = false → room → exec (.pushp (.flight who)) s = .next (d.updCl c fun k => { k with
        staging := k.staging ++ x.words.map (fun y => ⟨j, y.1, y.2, x.prod, src, none⟩) })) ∧
      (s.verdict x = 4 ∨ s.verdict x = 5 → exec (.pushp (.flight who)) s = .next (d.setRouter x.dst.1 { s.router x.dst.1 with
        pdrop := min ((s.router x.dst.1).pdrop + 1) 0xFFFF })) ∧
      (s.verdict x = 3 → exec (.pushp (.flight who)) s = .next d)) ∧
    (first .crd → s.verdict x = 0 → x.toMover = true → let old := min (sget 0 (s.mover x.chan).stale x.addr) x.count
      ∃ t, exec (.crd who) s = .next t ∧ t.noc = d.noc ∧
      (∀ z, sget 0 (t.mover x.chan).credits z = if z = x.addr then sget 0 (s.mover x.chan).credits z + (x.count - old) else sget 0 (s.mover x.chan).credits z) ∧
      sget 0 (t.mover x.chan).stale x.addr = sget 0 (s.mover x.chan).stale x.addr - old) ∧
    (first .crd → s.verdict x = 0 → x.toMover = false → let f := (s.cl (s.redir x.addr)).fwd x.chan
      let late := min f.owing x.count
      f.en = true → f.mover = true → f.cred + (x.count - late) ≤ f.share →
      exec (.crd who) s = .next (d.updCl (s.redir x.addr) fun k => k.setFwd x.chan { f with owing := f.owing - late, cred := f.cred + (x.count - late) })) ∧
    (first .evt → s.verdict x = 0 →
      (∀ e, x.evt = some (.event e) → exec (.evt who) s = .next
        (d.setBelay { d.belay with work := insertWork (.event { e with arrival := s.now }) d.belay.work })) ∧
      (∀ e, x.evt = some (.comp e) → (s.seq e.cl).compHeld = false → exec (.evt who) s = .next
        (d.setBelay { d.belay with work := insertWork (.comp { e with arrival := s.now }) d.belay.work })) ∧
      (∀ c e, x.evt = some (.start c e) → s.lockstep c = false → exec (.evt who) s = .next (d.updSeq c fun q => { q with start := some e })) ∧
      (∀ p e, x.evt = some (.notice p e) → exec (.evt who) s = .next { d with noc := { d.noc with hostNotices := d.noc.hostNotices ++ [(p, e)] } }))

/-- Responses and timeouts (R263 to R267, R276): a response of the tag's generation frees it, counts in the statistics with its latency in NoC
cycles (that of one inside the hub die is an operand) and reaches the client, a response that its tag is owed is late, another is stray; a
request that waits past its timeout, which ends at a step of 64 ns, is quarantined, its client is told TIMEOUT and a report goes to the port,
which counts reports, dies at its threshold and cancels the named request if that still waits; a quarantined tag returns with the next
generation that owes nothing, or is held for want of one. -/
def Obligations.ResponsesAndTimeouts : Prop :=
  ∀ (s : State) (i : InitId) (tag lat : Nat) (op : Opc) (c : Instr) (x : Packet), s.live = true →
    (op, c) ∈ [(Opc.rdata, Instr.rdata i tag lat), (.ack, .ack i tag lat), (.pushack, .pushack i tag lat), (.err, .err i tag lat)] →
    let n := s.init i
    let g := n.tagOf tag
    let d := s.dropPacket x
    let words := x.body.length
    let cycles := if x.dst = (256, 3) then lat else x.headAt - g.head
    let ends := upTo 64 (g.since + 1000 * n.tous)
    let first := fun (op : Opc) => s.firstPacket (fun y => decide (y.op = op) && decide (y.who = i.val) && decide (y.tag = tag)) = some x
    let gets := fun (v : Init) (t : State) (a : Answer) =>
      ((t.setInit i { v with answers := v.answers ++ [a] }).bar2Answer i g.write a.status.toNat a.data).moverAnswer i tag a.status.toNat a.data
    (first op → ¬ (i.val < 256 ∧ (s.router i).absOf 0 = 2) →
      (g.st = .busy → x.gen = g.gen → ∃ v : Init, exec c s = .next (gets v d ⟨tag, x.status, x.data, x.count⟩) ∧
        v.tagOf tag = { g with st := .free } ∧ (∀ j, j ≠ tag → v.tagOf j = n.tagOf j) ∧ v.answers = n.answers ∧
        v = { n with tags := v.tags, hist := v.hist, lmax := max n.lmax cycles, words := min (n.words + words) 0xFFFFFFFF } ∧
        ((cycles < 64 → sget 0 v.hist 0 = min (sget 0 n.hist 0 + 1) 0xFFFFFFFF) ∧
         (4096 ≤ cycles → sget 0 v.hist 7 = min (sget 0 n.hist 7 + 1) 0xFFFFFFFF) ∧
         ∀ b, 6 ≤ b → b < 12 → 2 ^ b ≤ cycles → cycles < 2 ^ (b + 1) → sget 0 v.hist (b - 5) = min (sget 0 n.hist (b - 5) + 1) 0xFFFFFFFF)) ∧
      (¬ (g.st = .busy ∧ x.gen = g.gen) → bit g.owed.toNat x.gen.toNat = true → g.st ≠ .quar →
        ∃ t, exec c s = .next t ∧ t = d.setInit i (t.init i) ∧ (t.init i).late = min (n.late + 1) 0xFFFF ∧
        bit ((t.init i).tagOf tag).owed.toNat x.gen.toNat = false ∧ ((t.init i).tagOf tag).st = g.st ∧ (t.init i).answers = n.answers) ∧
      (¬ (g.st = .busy ∧ x.gen = g.gen) → bit g.owed.toNat x.gen.toNat = false →
        exec c s = .next (d.setInit i { n with stray := min (n.stray + 1) 0xFFFF }))) ∧
    (first op → i.val < 256 → (s.router i).absOf 0 = 2 → exec c s = .next (d.setInit i { n with stray := min (n.stray + 1) 0xFFFF })) ∧
    (isHost i = false → ∀ (t : State) (b : Bool) (st : Nat) (data : List Byte), t.bar2Answer i b st data = t) ∧
    (isMover i = false → ∀ (t : State) (st : Nat) (data : List Byte), t.moverAnswer i tag st data = t) ∧
    (g.st = .busy → ends ≤ s.now → ∃ v,
      let w := { n.setTagOf tag { g with st := .quar, since := s.now, owed := v } with tocnt := min (n.tocnt + 1) 0xFFFF }
      let t := (s.setInit i w).sendReq (if g.rtr = 256 ∨ g.port = 3 then .hub else .array g.rtr g.port)
        { op := .torep, who := i, tag := tag, gen := g.gen, prio := g.prio, client := g.client }
      exec (.requestTimeout i tag) s = .next (gets (t.init i) t ⟨tag, 1, [], 0⟩) ∧ ∀ j, j < 4 → v.getLsbD j = (g.owed.getLsbD j || decide (j = g.gen.toNat))) ∧
    (g.st = .busy → s.now < ends → exec (.requestTimeout i tag) s = .next s) ∧
    (g.st = .quar → ends ≤ s.now → g.owed ≠ 0xF → g.owed.getLsbD g.gen.toNat = true → ∃ v, exec (.quarantineEnd i tag) s = .next
      (s.setInit i (n.setTagOf tag { g with st := .free, gen := v, stuck := false })) ∧ v ≠ g.gen ∧ g.owed.getLsbD v.toNat = false) ∧
    (g.st = .quar → ends ≤ s.now → g.owed = 0xF → exec (.quarantineEnd i tag) s = .next (s.setInit i (n.setTagOf tag { g with stuck := true }))) ∧
    (g.st = .quar → s.now < ends → exec (.quarantineEnd i tag) s = .next s) ∧
    (first .torep →
      let y := s.router x.dst.1
      let k := sget 0 y.toreps x.dst.2 + 1
      (s.verdict x = 0 → exec (.torep i tag) s = .next ((d.setRouter x.dst.1 { y with
        toreps := sput 0 y.toreps x.dst.2 k
        pend := if y.deadth ≤ k ∧ y.absOf x.dst.2 = 0 then y.pend ++ [.absDead x.dst.2] else y.pend }).cancel x x.dst.1 x.dst.2)) ∧
      (s.verdict x = 4 ∨ s.verdict x = 5 → exec (.torep i tag) s = .next
        (d.setRouter x.dst.1 { y with pdrop := min (y.pdrop + 1) 0xFFFF }))) ∧
    (∀ (t : State) (r : Nat) (h : Held),
      let waits := (t.waitingAt r 0).find? (fun y => decide (y.who = x.who) && decide (y.tag = x.tag) && decide (y.gen = x.gen) && !y.op.posted)
      let k := t.cl r
      (waits = none → (k.cellWait ++ k.dmemWait).find? (·.named x) = some h →
        t.cancel x r 0 = (t.setCl r { k with cellWait := k.cellWait.erase h, dmemWait := k.dmemWait.erase h }).respond h 1 []) ∧
      (∀ y, waits = some y → t.cancel x r 0 = (t.dropPacket y).turnAway y 1))

/-- Routers, fences and lanes (R240, R251, R254, R255, R267 to R274): a route goes the shorter way in each ring, and without a wrap link under
NOWRAP; firmware's changes wait for a packet boundary, where all of them apply in order; a request that waits at a port that becomes dead
is answered DEAD; an island's fence closes its four ports, and when everything has completed its domain powers off; a failed flit is
counted, and the eighth parity error of a lane within 1 ms retires it at both ends of its link: spare 0, then spare 1 take its place, then
the link runs at half width, then it fails. -/
def Obligations.RoutersAndFences : Prop :=
  (∀ a b k : Nat, a < 256 → b < 256 → k < 4 →
    (pathFrom (b, k) false 17 a 8 0).length = hops a b + 1 ∧ ((pathFrom (b, k) false 17 a 8 0).getLast?).map (fun e => (e.1, e.2.1)) = some (b, 4 + k) ∧
    ((pathFrom (b, k) true 31 a 8 0).getLast?).map (fun e => (e.1, e.2.1)) = some (b, 4 + k) ∧
    ∀ e ∈ pathFrom (b, k) true 31 a 8 0, wraps e.1 e.2.1 = false) ∧
  ∀ (s : State) (who : InitId) (r : RtrId) (p : Fin 4) (keep : BitVec 2) (w : RtrSetting) (v : Reg) (i : IslId) (d : Fin 4) (lane : Fin 68),
    s.live = true →
    let x := s.router r
    let l := sget {} x.lanes d.val
    let pends := fun (c : RtrChange) => s.setRouter r { x with pend := x.pend ++ [c] }
    let none_ := s.emit (.regValue none)
    (who.val = fwId → exec (.absorbSetDead who r p) s = .next (pends (.absDead p)) ∧
      exec (.absorbClear who r p keep) s = .next (pends (.absClear p keep)) ∧ exec (.routerSettingWrite who r w) s = .next (pends (.set w))) ∧
    (who.val ≠ fwId → exec (.absorbSetDead who r p) s = .next none_ ∧ exec (.absorbClear who r p keep) s = .next none_ ∧
      exec (.routerSettingWrite who r w) s = .next none_) ∧
    (s.atBoundary r = false → exec (.packetBoundaryChange r) s = .next s) ∧
    (x.pend = [] → exec (.packetBoundaryChange r) s = .next s) ∧
    (s.atBoundary r = true → x.pend = [.set (.fwLo p v)] → ∃ m, exec (.packetBoundaryChange r) s = .next (s.setRouter r { x with pend := [], fwLo := m }) ∧
      ∀ z, sget 0 m z = if z = p.val then v else sget 0 x.fwLo z) ∧
    (∀ k on, s.atBoundary r = true → x.pend = [.grant p k on] → k < 64 → ∃ t, exec (.packetBoundaryChange r) s = .next t ∧ t = s.setRouter r (t.router r) ∧
      let mask := fun (y : Router) (j : Nat) => if j < 32 then bit (sget 0 y.fwLo p).toNat j else bit (sget 0 y.fwHi p).toNat (j - 32)
      ∀ j, j < 64 → mask (t.router r) j = if j = k then on else mask x j) ∧
    (s.atBoundary r = true → x.pend = [.fence p] → ∃ t, exec (.packetBoundaryChange r) s = .next t ∧ t = s.setRouter r (t.router r) ∧
      (t.router r).pend = [] ∧ ∀ z, (t.router r).absOf z = if z = p.val then 2 else x.absOf z) ∧
    (s.atBoundary r = true → x.pend = [.unfence p] → x.absOf p = 2 → ∃ t, exec (.packetBoundaryChange r) s = .next t ∧ t = s.setRouter r (t.router r) ∧
      (t.router r).pend = [] ∧ ∀ z, (t.router r).absOf z = if z = p.val then 0 else x.absOf z) ∧
    (s.atBoundary r = true → x.pend = [.absClear p keep] → ∃ m, exec (.packetBoundaryChange r) s = .next (s.setRouter r { x with
        pend := [], abs := m, pcdead := if p = 1 then x.pcdead &&& keep else x.pcdead }) ∧
      ∀ z, sget 0 m z = if z = p.val ∧ x.absOf p = 1 then 0 else x.absOf z) ∧
    (s.atBoundary r = true → x.pend = [.absDead 0] → x.absOf 0 = 0 → ∃ t, exec (.packetBoundaryChange r) s = .next t ∧ (t.router r).absOf 0 = 1 ∧
      (t.router r).pend = [] ∧ (t.cl r).cellWait = [] ∧ (t.cl r).writing = [] ∧ (t.cl r).dmemWait = [] ∧ (t.cl r).pushes = [] ∧
      t.waitingAt r 0 = [] ∧
      let dead := fun (who tag : Nat) (gen : BitVec 2) => ∃ y ∈ t.noc.packets, y.op = .err ∧ y.who = who ∧ y.tag = tag ∧ y.gen = gen ∧ y.status = 4
      (∀ h ∈ (s.cl r).cellWait ++ (s.cl r).writing ++ (s.cl r).dmemWait, h.posted = false → dead h.who h.tag h.gen) ∧
      (∀ y ∈ (s.cl r).pushes, dead y.who y.tag y.gen) ∧
      (∀ y ∈ s.waitingAt r 0, y.op.posted = false → dead y.who y.tag y.gen)) ∧
    (s.islOn i = true → s.fenceOf i = .none → ∃ t, exec (.fenceRequest i) s = .next t ∧ t.fenceOf i = .requested ∧
      (∀ c ∈ islandClusters i, t.router c = { s.router c with pend := (s.router c).pend ++ [.fence 0] }) ∧ (∀ c, c ∉ islandClusters i → t.router c = s.router c) ∧
      (∀ j, j ≠ i.val → t.fenceOf j = s.fenceOf j) ∧ t.cls = s.cls) ∧
    (s.fenceOf i = .requested → s.fenceDrained i = true → ∃ t, exec (.fenceAcknowledge i) s = .next t ∧ t.fenceOf i = .acked ∧
      (s.sys.dstate ≠ .faultSafe → t.islOn i = false) ∧ (s.sys.dstate = .faultSafe → t.islOn i = s.islOn i) ∧
      ∀ j, j ≠ i.val → t.islOn j = s.islOn j) ∧
    (s.fenceOf i = .requested → s.fenceDrained i = false → exec (.fenceAcknowledge i) s = .next s) ∧
    exec (.flitCrcFail r d) s = .next (s.setRouter r { x with retry := min (x.retry + 1) 0xFFFF }) ∧
    (s.atBoundary r = true → x.pend = [.spare d lane] → ∃ t, exec (.packetBoundaryChange r) s = .next t ∧
      let m := sget {} (t.router r).lanes d.val
      let gone := lane.val :: l.gone
      (t.router r).pend = [] ∧ (t.router (neighbour r d)).pend = (s.router (neighbour r d)).pend.erase (.peer r d) ∧
      (l.lanea = 0x7F → s.spareBad r d 0 = false → m = { l with gone := gone, lanea := BitVec.ofNat 7 lane, used := l.used + 1 }) ∧
      (l.lanea ≠ 0x7F ∨ s.spareBad r d 0 = true → l.laneb = 0x7F → s.spareBad r d 1 = false →
        m = { l with gone := gone, laneb := BitVec.ofNat 7 lane, used := l.used + 1 }) ∧
      (l.lanea ≠ 0x7F ∨ s.spareBad r d 0 = true → l.laneb ≠ 0x7F ∨ s.spareBad r d 1 = true → m = { l with gone := gone, half := true })) ∧
    (lane.val ∉ l.gone → (∀ n, RtrChange.spare d n ∉ x.pend) →
      let mine := l.errs.filter (fun e => decide (e.1 = lane.val) && decide (s.now < e.2 + 1000000))
      (mine.length < 7 → ∃ t, exec (.laneParityError r d lane) s = .next t ∧ t = s.setRouter r (t.router r) ∧
        (t.router r).pend = x.pend ∧ (lane.val, s.now) ∈ (sget {} (t.router r).lanes d.val).errs) ∧
      (7 ≤ mine.length → l.half = false → ∃ t, exec (.laneParityError r d lane) s = .next t ∧
        (t.router r).pend = x.pend ++ [.spare d lane] ∧
        (t.router (neighbour r d)).pend = (s.router (neighbour r d)).pend ++ [.peer r d] ∧ (∀ e ∈ (sget {} (t.router r).lanes d.val).errs, e.1 ≠ lane.val)) ∧
      (7 ≤ mine.length → l.half = true → s.sys.dstate ≠ .faultSafe → ∃ t, exec (.laneParityError r d lane) s = .next t ∧
        t.sys.dstate = .faultSafe ∧ t.sys.fscause = 3))

/-! ### HBM controllers -/

/-- Requests at a channel controller (R283, R287, R291 to R296, R304, R305): the oldest one at a channel's port enters the queue of its
PC while entries are free, one sub-request in a cycle; of the two PCs of a channel that have a command in one cycle the more urgent one,
then the one whose turn it is, has the command bus, and a cycle without it counts; a request whose row is closed activates it; the last
column command closes the row: a write moves its bytes and is acknowledged, a read is answered 41 cycles later with what it read; an
uncorrectable read freezes the PC, which answers DATAERR and DEAD to all others, and is absorbed as dead from the next packet boundary.
Refresh, self-refresh, training and maintenance (R299 to R313): a due refresh is postponed for a class-2 request or issued with all
that are owed; the temperature halves the interval; self-refresh begins after the idle time of an ECONOMY PC and ends with a request
for it, its phase kept; every 16 ms a pause moves one lane's delays; remap, sweep, store, the two steps of a rate change, between which
the stack answers FENCED, parity error, RESUME and RETIRE. -/
def Obligations.HbmControllers : Prop :=
  (∀ (s : State) (st : StackId) (ch : Fin 16) (i : PcId) (h : Held) (rest : List Held) (r : HReq) (a : Activation) (b : Nat) (ecc : EccEvent)
      (o : HOpen) (d : List Byte) (syn : Reg) (act : HAct) (u v m : Nat), s.live = true →
      let p := s.pc i
      let n := p.cycle + 1
      let fast := (s.stack (i / 32)).rate
      let l := s.hbmLoc (r.bursts.headD 0)
      let c := i.val / 2
      let other := 2 * c + (1 - i % 2)
      let bursts := (List.range ((h.addr + h.nbytes - 1) / 32 - h.addr / 32 + 1)).map (fun j => (h.addr / 32 + j) * 32)
      let has := fun (e : Bool) => ∀ u, (s.hbmGrant i (some u)).1 = e
      (sget [] s.hbm.ports (16 * st + ch) = h :: rest →
        let j := (s.hbmLoc h.addr).pc
        let q := s.pc j
        let k := s.stack (j / 32)
        (q.st = .service → q.sref = true ∨ 64 ≤ q.queue.length ∨ q.entering ≠ [] ∨ q.inAt = some q.cycle →
          (s.stack (h.addr / stackBytes)).order ≠ 1 → exec (.hbmRequestEnqueue st ch) s = .next s) ∧
        (q.st ≠ .service → q.st ≠ .degraded → exec (.hbmRequestEnqueue st ch) s = .next s) ∧
        (q.sref = false → q.queue.length < 64 → q.entering = [] → q.inAt ≠ some q.cycle → q.st = .service →
          (s.stack (h.addr / stackBytes)).order ≠ 1 →
          ∃ t, exec (.hbmRequestEnqueue st ch) s = .next t ∧ sget [] t.hbm.ports (16 * st + ch) = rest ∧ t = { s with hbm := t.hbm } ∧
            t.hbm.mem = s.hbm.mem ∧ t.hbm.nextRid = s.hbm.nextRid + 1 ∧ t.pc j = { q with
              queue := q.queue ++ [{ rid := s.hbm.nextRid, sub := 8 * s.hbm.nextRid, h := h, bursts := bursts, arrive := q.cycle
                                     goal := k.goal h.prio, cls := h.prio }]
              opens := q.opens ++ [{ rid := s.hbm.nextRid, h := h, left := 1 }], inAt := some q.cycle, lastReq := s.now })) ∧
      ((s.bus c).turn = none → s.hbmChoose other (s.pc other).tick = some (v, act) →
        (v < u → (s.hbmGrant i (some u)).1 = true) ∧ (u < v → (s.hbmGrant i (some u)).1 = false) ∧
        (u = v → sget 0 (s.bus c).ptr u < 2 → (s.hbmGrant i (some u)).1 = decide (sget 0 (s.bus c).ptr u = i.val % 2))) ∧
      (p.sref = true → exec (.hbmSchedule i ecc) s = .next s) ∧
      (p.sref = false → p.entering = [] → p.leaving = [] →
        (p.queue = [] → p.acts = [] → ∃ e, exec (.hbmSchedule i ecc) s = .next ((s.setPc i { p with cycle := n }).setBus c e)) ∧
        (p.queue = [r] → has false → ∃ e, exec (.hbmSchedule i ecc) s = .next ((s.setPc i { p with cycle := n, lastReq := s.now }).setBus c e))) ∧
      (p.sref = false → p.entering = [] → p.queue = [] → p.acts = [] → p.leaving = [(m, i.val, r.rid)] → p.opens = [o] → o.rid = r.rid → o.left = 1 →
        (n < m → ∃ e, exec (.hbmSchedule i ecc) s = .next ((s.setPc i { p with cycle := n, lastReq := s.now }).setBus c e)) ∧
        (m ≤ n → o.h.data = none → o.h.nbytes = d.length → o.got = d.zipIdx.map (fun e => (e.2, e.1)) → ∃ e, exec (.hbmSchedule i ecc) s = .next
          (((s.setPc i { p with cycle := n, lastReq := s.now, leaving := [], opens := [] }).setBus c e).respond o.h 0 d))) ∧
      (p.sref = false → p.st = .service → s.sys.mode ≠ 2 → p.busyUntil ≤ n → p.entering = [] → p.leaving = [] → p.held = false → has true →
        p.queue = [r] → r.arrive + 4 ≤ n →
        (p.acts = [] → p.lastActs = [] → sget 0 p.bankFree (16 * l.sid + l.bank) ≤ n → ∃ m e,
          exec (.hbmSchedule i ecc) s = .next ((s.setPc i { p with
            cycle := n, lastReq := s.now, lastActs := [(n, l.bank)], bankFree := m
            acts := [{ sid := l.sid, bank := l.bank, row := l.row, subs := [r.sub], readyAt := n + hcyc fast 140 }]
            trace := ({ stamp := n, cmd := 1, sid := l.sid, bank := l.bank, row := l.row, req := some (r.rid, r.bursts.headD 0) } :: p.trace).take 64
            }).setBus c e) ∧
          ∀ z, sget 0 m z = if z = 16 * l.sid + l.bank then n + hcyc fast 470 else sget 0 p.bankFree z) ∧
        (p.acts = [a] → a.closed = true → a.subs = [r.sub] → a.readyAt ≤ n → p.lastCol = none → p.lastWrs = [] → r.bursts = [b] → r.done = 0 →
          r.hold = 0 → r.seen = [] → r.role = .own → p.opens = [{ rid := r.rid, h := r.h, left := 1 }] → r.h.addr = b → r.h.nbytes = 32 →
          r.h.posted = false →
          (r.h.data = none → ecc = .clean → ∃ t, exec (.hbmSchedule i ecc) s = .next t ∧ t = { s with hbm := t.hbm } ∧ t.hbm.mem = s.hbm.mem ∧
            (t.pc i).queue = [] ∧ (t.pc i).acts = [] ∧ (t.pc i).leaving = [(n + 41, i.val, r.rid)] ∧
            (t.pc i).opens = [{ rid := r.rid, h := r.h, left := 1, got := (List.range 32).map (fun j => (j, s.hbmByte (b + j))) }] ∧
            (t.pc i).lastCol = some (n, a.bank / 4, false) ∧
            (t.pc i).trace = ({ stamp := n, cmd := 4, sid := a.sid, bank := a.bank, row := a.row, col := (s.hbmLoc b).col
                                req := some (r.rid, b) } :: p.trace).take 64) ∧
          (r.h.data = some d → d.length = 32 → ecc = .clean → p.mir = false → ∃ t, exec (.hbmSchedule i ecc) s = .next t ∧
            t.noc = (s.respond r.h 0 []).noc ∧
            (∀ z, memGet t.hbm.mem z = if b ≤ z ∧ z < b + 32 then some ((d[z - b]?).getD 0) else memGet s.hbm.mem z) ∧
            (t.pc i).queue = [] ∧ (t.pc i).acts = [] ∧ (t.pc i).opens = [] ∧ (t.pc i).lastCol = some (n, a.bank / 4, true)) ∧
          (r.h.data = none → ecc = .uncorrectable syn → p.mir = false → anchorPc i = false → sget [] s.hbm.ports c = [] →
            sget 0 s.sec.wipePcs i ≤ s.now → ∃ t, exec (.hbmSchedule i ecc) s = .next t ∧
            t.noc.packets = (s.respond r.h 6 []).noc.packets ∧ (t.pc i).st = .frozen ∧ (t.pc i).queue = [] ∧ (t.pc i).opens = [] ∧
            (t.pc i).held = true ∧ (t.pc i).fue = true ∧ (t.pc i).fsyn = syn ∧ (t.pc i).faddr = b ∧ (t.pc i).ue = min (p.ue + 1) 0xFFFF ∧
            (t.router (pcRouter i)).pend = (s.router (pcRouter i)).pend ++ [.pcDead (i % 2) true] ∧ t.hbm.mem = s.hbm.mem)))) ∧
  (∀ (s : State) (i : PcId) (st : StackId) (lane : Fin 8) (dq : BitVec 6) (lo hi : Bool) (margin : Nat) (temp : Byte) (who : InitId)
      (eyes eyes2 : Eyes) (rep : ParityReport) (o : HOpen) (b : Nat) (at_ : Nat), s.live = true →
      let p := s.pc i
      let k := s.stack (i / 32)
      let u := s.stack st
      let gap := if k.hot then 1950 else 3900
      let wide := fun (e : Eyes) => ∀ x ∈ [e.lane0, e.lane1, e.lane2, e.lane3], 12 ≤ x.write.toNat ∧ 12 ≤ x.read.toNat
      let dead := (s.router (pcRouter i)).pend ++ [.pcDead (i % 2) true]
      let answered := fun (t : State) (j st : Nat) => ∀ h ∈ s.openAtPc j, h.posted = false →
        ∃ y ∈ t.noc.packets, y.op = .err ∧ y.who = h.who ∧ y.tag = h.tag ∧ y.gen = h.gen ∧ y.status = BitVec.ofNat 4 st
      let refreshed := fun (x : Pc) (m : Nat) => x.owed = 0 ∧ x.pauseOwed = true ∧ x.runs = (if 1 < m then min (p.runs + 1) 0xFFFF else p.runs) ∧
        x.busyUntil = max p.busyUntil p.cycle + (if s.sys.mode = 2 then m * 760 else m * hcyc k.rate 4100) ∧
        (p.held = false → x.trace = (List.replicate m ({ stamp := p.cycle, cmd := 7 } : HCmd) ++ p.trace).take 64)
      (s.now < p.due ∨ k.insvc = false → exec (.refreshDue i) s = .next s) ∧
      (p.due ≤ s.now → k.insvc = true →
        (p.sref = true → exec (.refreshDue i) s = .next (s.setPc i { p with due := p.due + gap })) ∧
        (p.sref = false → p.urgent = true → s.sys.mode ≠ 2 → p.owed < k.ppost → exec (.refreshDue i) s = .next (s.setPc i { p with
          due := p.due + gap, owed := p.owed + 1, postp := min (p.postp + 1) 0xFFFF })) ∧
        (p.sref = false → (p.urgent = false ∨ s.sys.mode = 2 ∨ k.ppost ≤ p.owed) → ∃ t, exec (.refreshDue i) s = .next t ∧
          t = s.setPc i (t.pc i) ∧ (t.pc i).due = p.due + gap ∧ refreshed (t.pc i) (p.owed + 1))) ∧
      (0 < p.owed → p.urgent = false → ∃ t, exec (.owedRefreshRun i) s = .next t ∧ t = s.setPc i (t.pc i) ∧ refreshed (t.pc i) p.owed) ∧
      (p.owed = 0 ∨ p.urgent = true → exec (.owedRefreshRun i) s = .next s) ∧
      (s.now < p.trainDue → exec (.retrainingPause i lane lo hi margin) s = .next s) ∧
      (p.pauseOwed = true → p.sref = false → p.st = .service → p.trainDue ≤ s.now → ∃ t, exec (.retrainingPause i lane lo hi margin) s = .next t ∧
        (t.pc i).pauseOwed = false ∧ (t.pc i).trainDue = s.now + 16000000 ∧ (t.pc i).drift = (p.drift || decide (margin < 4)) ∧
        (∀ z, sget 0 (t.pc i).delays z = if z = lane.val then
          (if lo = false ∧ hi = true then min (sget 0 p.delays z + 1) 63 else if lo = true ∧ hi = false then sget 0 p.delays z - 1 else sget 0 p.delays z)
          else sget 0 p.delays z)) ∧
      (p.pauseOwed = true → dq.toNat < 36 → (if dq.toNat < 32 then dq.toNat / 8 else dq.toNat - 32) ∈ p.weak → sget 0 p.dqBad dq.toNat = 0 →
        (s.pc (2 * (i / 2))).dqUsed = 0 → (s.pc (2 * (i / 2) + 1)).dqUsed = 0 →
        s.rel.badBlocks = [] → ∃ t, exec (.dqLaneRemap i dq) s = .next t ∧ sget 0 (t.pc i).dqBad dq.toNat = 1 ∧ (t.pc i).dqUsed = 1 ∧
          ∀ e ∈ (t.pc i).corr, e.2 ≠ dq.toNat) ∧
      (s.sys.mode = 5 → p.idleus ≠ 0 → anchorPc i = false → p.st = .service → p.sref = false → p.queue = [] → p.entering = [] → p.leaving = [] →
        s.portHas i = false → k.moving = false → p.held = false →
        p.lastReq + 1000 * p.idleus ≤ s.now → p.owed = 0 → exec (.selfRefreshEntry i) s = .next (s.setPc i { p with
          sref := true, srefAt := s.now + 80, trace := ({ stamp := p.cycle, cmd := 8 } :: p.trace).take 64 })) ∧
      (p.sref = true → s.now < p.srefAt → exec (.selfRefreshExit i) s = .next s) ∧
      (p.sref = true → s.portHas i = true → p.held = false → p.srefAt ≤ s.now → ∃ m, exec (.selfRefreshExit i) s = .next (s.setPc i { p with
          sref := false, due := p.due + m * gap, lastReq := s.now, busyUntil := max p.busyUntil p.cycle + hcyc k.rate 4600
          trace := ({ stamp := p.cycle, cmd := 9 } :: p.trace).take 64 }) ∧
        s.now < p.due + m * gap ∧ (p.due ≤ s.now → p.due + m * gap ≤ s.now + gap)) ∧
      exec (.stackTemperatureChange st temp) s = .next (s.setStack st { u with
        temp := temp, hot := if 85 < temp.toNat then true else if temp.toNat ≤ 82 then false else u.hot }) ∧
      (k.insvc = true → p.st = .out → p.barred = false → ∃ t, exec (.fullSweep i eyes) s = .next t ∧ (t.pc i).trained = p.trained + 1 ∧
        (wide eyes → (t.pc i).st = .service ∧ (t.pc i).due = s.now + gap ∧ (t.pc i).trainDue = s.now + 16000000) ∧ (¬ wide eyes → (t.pc i).st = .out) ∧
          ∀ e ∈ [eyes.lane0, eyes.lane1, eyes.lane2, eyes.lane3], (t.pc i).wreye.toNat ≤ e.write.toNat ∧ (t.pc i).rdeye.toNat ≤ e.read.toNat) ∧
      (s.hbm.storedAt = some at_ → at_ ≤ s.now → ∃ m, exec (.trainingStore) s = .next
          { s with hbm := { s.hbm with store := m, storedAt := some (s.now + 3600000000000) } } ∧
        ∀ z, z < 128 → sget [] m z = if (s.pc z).st = .service ∨ (s.pc z).st = .degraded then (s.pc z).delays else sget [] s.hbm.store z) ∧
      (u.insvc = true → u.rate = false → u.moving = false → (∀ j, j < 32 → (s.pc (32 * st + j)).st = .out → sget [] s.hbm.store (32 * st + j) = []) →
        ∃ t, exec (.stackRateChange st (eyes, eyes2)) s = .next t ∧ t.stack st = { u with moving := true } ∧
          ∀ j, j < 32 → t.openAtPc (32 * st + j) = [] ∧ answered t (32 * st + j) 5) ∧
      (u.moving = true → ∃ t, exec (.stackRateChange st (eyes, eyes2)) s = .next t ∧ t.stack st = { u with rate := true, moving := false } ∧
        (∀ j, j < 32 → let z := 32 * st.val + j
          anchorPc z = false → (t.pc z).st = (s.pc z).st ∧
            (t.pc z).delays = (if sget [] s.hbm.store z ≠ [] ∧ (s.pc z).st ≠ .retired then sget [] s.hbm.store z else (s.pc z).delays)) ∧
        (∀ e ∈ [(32 * st.val, eyes), (32 * st.val + 16, eyes2)], (s.pc e.1).st ≠ .retired →
          (t.pc e.1).st = if wide e.2 then (s.pc e.1).st else .out)) ∧
      (p.st = .service → p.mir = false → anchorPc i = false → p.queue = [] → p.entering = [] → p.acts = [] → sget 0 s.sec.wipePcs i ≤ s.now →
        sget [] s.hbm.ports (i / 2) = [] →
        (p.opens = [] → p.trace = [] → ∃ t, exec (.commandParityError i rep) s = .next t ∧ (t.pc i).st = .frozen ∧ (t.pc i).capar = true ∧
          (t.pc i).fsyn = rep.syn ∧ (t.pc i).ue = p.ue ∧ (t.router (pcRouter i)).pend = dead ∧ t.noc.packets = s.noc.packets) ∧
        (p.opens = [o] → (p.trace[rep.back.toNat]?).bind (·.req) = some (o.rid, b) → ∃ t, exec (.commandParityError i rep) s = .next t ∧
          (t.pc i).st = .frozen ∧ (t.pc i).capar = true ∧ (t.pc i).fsyn = rep.syn ∧ (t.pc i).faddr = b ∧ (t.pc i).opens = [] ∧
          (t.router (pcRouter i)).pend = dead ∧ t.noc.packets = (s.respond o.h 6 []).noc.packets)) ∧
      (who.val = fwId →
        (p.st = .frozen → exec (.resume who i) s = .next (s.setPc i { p with st := .service, fue := false, capar := false, held := false })) ∧
        (p.st = .degraded → ∃ t, exec (.resume who i) s = .next t ∧
          (t.pc i).st = .service ∧ (t.pc i).fue = false ∧ (t.pc i).capar = false ∧ (t.pc i).held = false) ∧
        (p.st ≠ .retired → p.mir = false → (∀ r ∈ p.queue ++ p.entering, r.role = .own) → ∃ t, exec (.retire who i) s = .next t ∧ (t.pc i).st = .retired ∧ (t.pc i).opens = [] ∧
          (∀ r ∈ (t.pc i).queue, r.home i ≠ i.val) ∧ (t.pc i).sref = false ∧ (t.router (pcRouter i)).pend = dead ∧ answered t i 4)) ∧
      (who.val ≠ fwId → exec (.resume who i) s = .next (s.emit (.regValue none)) ∧ exec (.retire who i) s = .next (s.emit (.regValue none))))

/-! ### Loads, wake program, Rope, sessions -/

/-- Steps of a load (R100, R321, R323, R327, R330, R331, R334 to R336, R353): a header of a mailbox load that no check fails is followed by its
frames under the derived key; a frame that follows adds its payload to the segment, and the last one of a segment leaves it to the
decryption engine, which fails a segment of another digest; a failing header or frame ends the load with its status; code that waited is written when the sequencer has no task, and with the last of it the image is armed for a tick at
least 10 µs later; a deadline that has passed ends the load; a read of CFG_LTKL latches the high half.
The wake program (R340 to R343) of the full load in context 4: each step ends as R340 says and the next begins; the release
sets the tick for every covered cluster; a step that is late, or a peer's fault line, fails the load, after the release with
WAKE_INCOMPLETE; WAKE_INCOMPLETE; with its last step the load has ended with OK. Its operands in WAIT_DONE_LINE are the levels that others drive. -/
def Obligations.LoadsAndWakeProgram : Prop :=
  (∀ (s : State) (i : CtxId) (b : List Byte) (p : Nat) (c : ClId) (h : Shadow) (code : SMap Byte) (who : InitId) (st : Nat), s.live = true → i.val < 4 →
      let x := s.ctx i
      let fails := fun (t : State) (n : Nat) => (t.ctx i).busy = false ∧ (t.ctx i).lst = BitVec.ofNat 32 (n * 2 ^ 24) ∧ t.key (16 + i) = none ∧
        ∀ d ∈ x.written, (t.cl d).shadow = none
      let reads := fun (t : State) => t.out = s.out ++ [.hostRead p (x.base + x.taken) b.length]
      (x.busy = true → x.path = .mailbox p → (s.port p).up = true →
        (x.phase = .header → b.length = hdrNeed b → hdrNeed b ≤ x.rest →
          (s.headerFail i x b = none →
            let d := Config.sha384 (b.take (hdrSigned b))
            ∃ t, exec (.loadHeader i b) s = .next t ∧ reads t ∧
              t.ctx i = { x with phase := .frames, taken := x.taken + b.length, hdr := b.take (hdrSigned b), digest := d } ∧
              t.key (16 + i) = some (kdf ((s.loadRoot i b).getD []) "ZT-SEG" d)) ∧
          (s.headerFail i x b = some st → ∃ t, exec (.loadHeader i b) s = .next t ∧ fails t st)) ∧
        (x.phase = .frames → x.sealed = none → b.length = frameNeed b → frameNeed b ≤ x.rest → 64 ≤ x.rest →
          (s.frameFail x b = none → fLAST b = true ∨ x.nextFrame + 1 < hNFRAME x.hdr → ∃ t, exec (.frame i b) s = .next t ∧ reads t ∧
            t.ctx i = { x with nextFrame := x.nextFrame + 1, taken := x.taken + b.length, segBuf := x.segBuf ++ fPayload b
                               sealed := if fLAST b then some (fFINDEX b) else none } ∧ t.cls = s.cls) ∧
          (s.frameFail x b = some st → ∃ t, exec (.frame i b) s = .next t ∧ fails t st))) ∧
      (x.busy = true → x.path = .mailbox p → (s.port p).up = false →
        (x.phase = .header → ∃ t, exec (.loadHeader i b) s = .next t ∧ fails t 0x12) ∧
        (x.phase = .frames → x.sealed = none → ∃ t, exec (.frame i b) s = .next t ∧ fails t 0x12)) ∧
      (x.phase = .frames → x.sealed.isSome = true → exec (.frame i b) s = .next s) ∧
      (s.engineNext = some i.val → x.phase = .frames → Config.sha384 x.segBuf ≠ mHASH x.hdr x.seg →
        let t := s.loaderCycle
        (t.ctx i).busy = false ∧ (t.ctx i).lst = BitVec.ofNat 32 (0x0C * 2 ^ 24 + 256 * mTARGET x.hdr x.seg) ∧ t.key (16 + i) = none ∧
          ∀ d ∈ x.written, (t.cl d).shadow = none) ∧
      (x.busy = true → (x.phase = .frames ∨ x.phase = .codeWait) → hTCOMMIT x.hdr ≠ 0 → hTCOMMIT x.hdr < s.now + 10000 →
        ∃ t, exec (.commitDeadline i) s = .next t ∧ fails t 0x16) ∧
      (hTCOMMIT x.hdr = 0 → exec (.commitDeadline i) s = .next s) ∧
      ((s.cl c).shadow = some h → h.code = some code → h.ctx = i → (s.seq c).nest = [] → s.openCluster c = true → s.sys.mode ≠ 3 →
        (x.phase ≠ .codeWait → exec (.codeWrite c) s = .next (s.updCl c fun k => { k with
          shadow := some { h with code := none, codeDone := true }, seq := { k.seq with imem := code } })) ∧
        (x.busy = true → x.phase = .codeWait → x.written = [c.val] → hTCOMMIT x.hdr = 0 → ∃ t at_, exec (.codeWrite c) s = .next t ∧
          (t.cl c).commitAt = some at_ ∧ t.ctx i = { x with phase := .armed, tick := at_, ltk := BitVec.ofNat 64 at_ } ∧
          s.now + 10000 ≤ at_ ∧ at_ < s.now + 11000 ∧ at_ % 1000 = 0 ∧ (t.seq c).imem = code)) ∧
      (who.val = fwId → exec (.cfgLtklRead who i) s = .next ((s.setCtx i { x with ltkLatch := some (BitVec.ofNat 32 (x.ltk.toNat / 2 ^ 32)) }).emit
        (.regValue (some (BitVec.ofNat 64 (x.ltk.toNat % 2 ^ 32)))))) ∧
      (who.val ≠ fwId → exec (.cfgLtklRead who i) s = .next (s.emit (.regValue none)))) ∧
  (∀ (s : State) (n : Nat) (a : Issuer) (lines : RopeLines), s.live = true → (s.ctx 4).issuer = some a → (s.ctx 4).path ≠ .rope →
      let x := s.ctx 4
      let r := s.loader.rope
      let more := x.step + 1 < (wakeOf x.hdr).length
      let nexts := fun (t : State) => t.setCtx 4 { x with step := x.step + 1, stepFrom := s.now }
      let ends := fun (t : State) (lst : Nat) => (t.ctx 4).busy = false ∧ (t.ctx 4).lst = BitVec.ofNat 32 (lst * 2 ^ 24) ∧ t.loader.barrier = []
      let late := x.stepFrom + 1000 * n ≤ s.now
      (s.wakeStep = some (1, n) →
        (s.wakeLocked = true → more → exec .waitLock s = .next (nexts s)) ∧ (s.wakeLocked = false → exec .waitLock s = .next s) ∧
        (late → s.wakeLocked = false → ∃ t, exec .wakeStepTimeout s = .next t ∧ ends t (if x.released then 0x1B else 0x1A)) ∧
        (¬ late → exec .wakeStepTimeout s = .next s)) ∧
      (s.wakeStep = some (2, n) → more → exec .enableWrites s = .next (nexts { s with loader := { s.loader with barrier := [] } })) ∧
      (s.wakeStep = some (3, n) → x.released = false → ∃ t at_, exec .releaseSetreset s = .next t ∧
        t.ctx 4 = { x with released := true, tick := at_, ltk := BitVec.ofNat 64 at_ } ∧ x.stepFrom + 10000 ≤ at_ ∧ at_ < x.stepFrom + 11000 ∧
        at_ % 1000 = 0 ∧ ∀ c, (t.cl c).commitAt = (if c ∈ x.written then some at_ else (s.cl c).commitAt)) ∧
      (s.wakeStep = some (3, n) → x.released = true → (s.now < x.tick → exec .releaseSetreset s = .next s) ∧
        (x.tick ≤ s.now → more → exec .releaseSetreset s = .next (nexts s))) ∧
      (s.wakeStep = some (4, n) → (more → exec .releaseOutputs s = .next (nexts { s with loader := { s.loader with pinsFree := true } })) ∧
        (¬ more → ∃ t, exec .releaseOutputs s = .next t ∧ ends t 0 ∧ t.loader.pinsFree = true ∧ t.loader.firstLoad = false)) ∧
      (s.wakeStep = some (5, n) → (late → more → exec .delay s = .next (nexts s)) ∧ (¬ late → exec .delay s = .next s)) ∧
      (s.wakeStep = some (6, n) →
        (lines.fault = true → r.faulto = false → lines.done = true → r.doneo = false → more → exec (.waitDoneLine lines) s =
          .next (nexts (s.setRope { r with donel := true, faultl := true }))) ∧
        (lines.fault = true → r.faulto = false → lines.done = false ∨ r.doneo = true → exec (.waitDoneLine lines) s =
          .next (s.setRope { r with donel := lines.done, faultl := true })) ∧
        (lines.fault = false ∨ r.faulto = true → ∃ t, exec (.waitDoneLine lines) s = .next t ∧ ends t (if x.released then 0x1B else 0x19)) ∧
        (s.faultLow = true → ∃ t, exec .wakeStepTimeout s = .next t ∧ ends t (if x.released then 0x1B else 0x19)) ∧
        (s.faultLow = false → n ≠ 0 → late → ∃ t, exec .wakeStepTimeout s = .next t ∧ ends t (if x.released then 0x1B else 0x1A)) ∧
        (∃ t, exec .ropeFaultLineLow s = .next t ∧ t.loader.rope.faultl = false ∧ ends t (if x.released then 0x1B else 0x19))) ∧
      (s.wakeStep = none → exec (.waitDoneLine lines) s = .next (s.setRope { r with donel := lines.done, faultl := lines.fault }) ∧
        exec .ropeFaultLineLow s = .next (s.setRope { r with faultl := false })))

/-- The Rope receiver (R344, R347, R348): 64 valid sync headers in a row give lock, 16 invalid ones among 64 take it; a locked receiver
begins an image with SOI, keeps the data of a live one, ends it with EOI and counts unknown control blocks; an image that loses
lock or falls silent is given up, with its status when it is addressed. -/
def Obligations.RopeReceiver : Prop :=
  ∀ (s : State) (bytes : List Byte) (type : Byte), s.live = true → bytes.length = 8 →
    let r := s.loader.rope
    let x := s.ctx 4
    let sync := { r with recent := (true :: r.recent).take 64, good := min 64 (r.good + 1), lock := r.lock || decide (64 ≤ r.good + 1) }
    let bad := (false :: r.recent).take 64
    let ends := fun (t : State) (st : Nat) => (t.ctx 4).busy = false ∧ (t.ctx 4).lst = BitVec.ofNat 32 (st * 2 ^ 24) ∧ t.loader.rope.buf = [] ∧
      t.loader.rope.faulto = true
    let mine := r.addressed = some true ∧ r.old = none ∧ x.busy = true ∧ x.path = .rope ∧ x.phase = .frames
    (r.listen = false → exec .soi s = .next s ∧ exec .eoi s = .next s ∧ exec .idle s = .next s ∧ exec (.ropeDataBlock bytes) s = .next s ∧
      exec (.ropeUnknownControl type) s = .next s ∧ exec .ropeInvalidSyncHeader s = .next s) ∧
    (r.listen = true → exec .idle s = .next (s.setRope sync) ∧
      (r.lock = false ∨ r.inimg = false ∨ s.ropeAlive = false ∨ (bad.filter (fun v => !v)).length < 16 →
        exec .ropeInvalidSyncHeader s = .next (s.setRope { r with
          recent := bad, good := 0, rerr := min (r.rerr + 1) 0xFFFF, lock := r.lock && decide ((bad.filter (fun v => !v)).length < 16) })) ∧
      (r.lock = true → r.inimg = true → mine → 16 ≤ (bad.filter (fun v => !v)).length →
        ∃ t, exec .ropeInvalidSyncHeader s = .next t ∧ ends t 0x13 ∧ t.loader.rope.lock = false)) ∧
    (r.listen = true → r.lock = false → exec .soi s = .next (s.setRope sync) ∧ exec .eoi s = .next (s.setRope sync) ∧
      exec (.ropeDataBlock bytes) s = .next (s.setRope sync) ∧ exec (.ropeUnknownControl type) s = .next (s.setRope sync)) ∧
    (r.listen = true → r.lock = true →
      (r.inimg = true → mine → ∃ t, exec .soi s = .next t ∧ ends t 0x12 ∧ t.loader.rope.inimg = true ∧ t.loader.rope.addressed = none) ∧
      (s.ropeAlive = false → r.addressed ≠ none ∨ r.buf.length < 256 → exec .soi s = .next (s.setRope { sync with
        inimg := true, buf := [], addressed := none, ended := false, lastBlock := s.now, faulto := false, faultl := true })) ∧
      (r.inimg = true → s.ropeAlive = true → exec (.ropeDataBlock bytes) s = .next (s.setRope { sync with
        lastBlock := s.now, buf := r.buf ++ bytes })) ∧
      (r.inimg = true → s.ropeAlive = false → exec (.ropeDataBlock bytes) s = .next (s.setRope { sync with lastBlock := s.now })) ∧
      (r.inimg = false → exec (.ropeDataBlock bytes) s = .next (s.setRope sync) ∧ exec .eoi s = .next (s.setRope sync)) ∧
      (r.inimg = true → s.ropeComplete = true → mine → exec .eoi s = .next (s.setRope { sync with inimg := false, ended := true, doneo := true })) ∧
      (type ≠ 0x1E → type ≠ 0x78 → type ≠ 0x87 →
        exec (.ropeUnknownControl type) s = .next (s.setRope { sync with rerr := min (r.rerr + 1) 0xFFFF }))) ∧
    (r.inimg = true → mine → (r.lock = false → ∃ t, exec .ropeLockLoss s = .next t ∧ ends t 0x13) ∧
      (r.lastBlock + 1000000 * r.rto ≤ s.now → ∃ t, exec .ropeIdleTimeout s = .next t ∧ ends t 0x12) ∧
      (s.now < r.lastBlock + 1000000 * r.rto → exec .ropeIdleTimeout s = .next s)) ∧
    (r.inimg = true → r.addressed = none → s.ropeAddressed = false → r.lock = false → exec .ropeLockLoss s = .next
      (s.setRope { r with addressed := some false, buf := [] })) ∧
    (r.inimg = false → exec .ropeLockLoss s = .next s ∧ exec .ropeIdleTimeout s = .next s)

/-- The SPDM responder of a port that answers (R361 to R363, R366, R369, R376): the version, capabilities and algorithms come first and in
order, signatures are Alias1's, a proof that holds creates the session with its two keys and SEQ 1, what belongs to a session is
refused outside it, and its end destroys its secrets; a port that does not answer does nothing. The certificate chain is the one from the
root CA to Alias1 (R360), its certificates opaque. -/
def Obligations.SpdmMessages : Prop :=
  ∀ (s : State) (p : PortId) (offer : List SpdmAlg) (nonce share verify key : List Byte) (k : List Byte) (n : Fin 4) (d : Fin 2) (j : Nat) (m : List Byte),
    s.live = true →
    let v := s.spdm p
    let tells := fun (t : State) (code : Nat) (b : List Byte) => t.emit (.spdm p code b)
    let error := fun (e : Byte) => Host.Outcome.next (tells s 0x7F [e])
    let signed := fun (b : List Byte) => Config.sign ((s.key 2).getD []) b
    let full : List SpdmAlg := [.ecdsaP384, .sha384, .secp384r1, .aes256gcm]
    let random := Config.random s.entropy
    let drawn := { s with entropy := s.entropy + 1 }
    let cmds : List Instr := [.getVersion p, .getCapabilities p, .negotiateAlgorithms p offer, .getDigests p, .getCertificate p 0, .challenge p nonce,
      .getMeasurements p 1 nonce, .keyExchange p share, .finish p verify, .heartbeat p, .keyUpdate p, .endSession p, .ideKm p (.teardown n)]
    (s.spdmServed p = false → ∀ c ∈ cmds, exec c s = .next s) ∧
    (s.spdmServed p = true →
      exec (.getVersion p) s = .next (tells (s.setSpdm p { v with version := true, caps := false, algs := false }) 0x04 [0x13]) ∧
      (v.version = true → exec (.getCapabilities p) s = .next (tells (s.setSpdm p { v with caps := true, algs := false }) 0x61 [])) ∧
      (v.version = false → exec (.getCapabilities p) s = error 0x04) ∧
      (v.caps = true → (∀ a ∈ full, a ∈ offer) → exec (.negotiateAlgorithms p offer) s = .next (tells (s.setSpdm p { v with algs := true }) 0x63 [0, 1, 2, 3])) ∧
      (v.caps = true → (∃ a ∈ full, a ∉ offer) → ∃ b, exec (.negotiateAlgorithms p offer) s = .next (tells (s.setSpdm p { v with algs := false }) 0x63 b)) ∧
      (v.caps = false → exec (.negotiateAlgorithms p offer) s = error 0x04) ∧
      (v.algs = true →
        exec (.getDigests p) s = .next (tells s 0x01 (Config.sha384 s.certChain)) ∧
        exec (.getCertificate p 0) s = .next (tells s 0x02 s.certChain) ∧ (j ≠ 0 → exec (.getCertificate p j) s = error 0x01) ∧
        exec (.challenge p nonce) s = .next (tells drawn 0x03 (Config.sha384 s.certChain ++ random ++
          signed (nonce ++ (Config.sha384 s.certChain ++ random)))) ∧
        (s.measurements p j = some m → exec (.getMeasurements p j nonce) s = .next (tells s 0x60 (m ++ signed (nonce ++ m)))) ∧
        (s.measurements p j = none → exec (.getMeasurements p j nonce) s = error 0x01) ∧
        (v.session.isSome = true → exec (.keyExchange p share) s = error 0x0A) ∧
        (v.session = none → exec (.keyExchange p share) s = .next (tells (drawn.setSpdm p { v with handshake := some (Config.dhSecret random share) })
          0x64 (signed share)))) ∧
      (v.algs = false → exec (.getDigests p) s = error 0x04 ∧ exec (.challenge p nonce) s = error 0x04 ∧ exec (.keyExchange p share) s = error 0x04) ∧
      (v.handshake = none → exec (.finish p verify) s = error 0x04) ∧
      (v.handshake = some k → verify = finishProof k → ∃ t, exec (.finish p verify) s = .next t ∧
        t.spdm p = { v with handshake := none, session := some k, seq := 1, updates := 0 } ∧ t.key (8 + p) = some (exportSecret k) ∧
        t.key (12 + p) = some (kdf (exportSecret k) "ZT-CMD" (toLe 4 p.val)) ∧ t.out = s.out ++ [.spdm p 0x65 []]) ∧
      (v.handshake = some k → verify ≠ finishProof k → exec (.finish p verify) s = .next (tells (s.setSpdm p { v with handshake := none }) 0x7F [0x01])) ∧
      (v.session = none → exec (.heartbeat p) s = error 0x02 ∧ exec (.keyUpdate p) s = error 0x02 ∧ exec (.endSession p) s = error 0x02 ∧
        exec (.ideKm p (.keyProg n d key)) s = error 0x02) ∧
      (v.session.isSome = true → exec (.heartbeat p) s = .next (tells s 0x68 []) ∧
        exec (.keyUpdate p) s = .next (tells (s.setSpdm p { v with updates := v.updates + 1 }) 0x69 []) ∧
        (∃ t, exec (.endSession p) s = .next t ∧ t.spdm p = { v with session := none, handshake := none, updates := 0, ideStreams := [] } ∧
          t.key (8 + p) = none ∧ t.key (12 + p) = none ∧ (∀ z, z < 8 → t.key (128 + 8 * p + z) = none) ∧ t.out = s.out ++ [.spdm p 0x6C []]) ∧
        (∃ t, exec (.ideKm p (.keyProg n d key)) s = .next t ∧ t.key (128 + 8 * p + 2 * n + d) = some key ∧
          (n.val, d.val) ∈ (t.spdm p).ideStreams ∧ t.out = s.out ++ [.spdm p 0x7E []]) ∧
        (∃ t, exec (.ideKm p (.teardown n)) s = .next t ∧ t.key (128 + 8 * p + 2 * n) = none ∧ t.key (128 + 8 * p + 2 * n + 1) = none ∧
          ∀ z ∈ (t.spdm p).ideStreams, z.1 ≠ n.val)))

/-! ### Host ports, owner port, registers -/

/-- Links and resets of a host port (R385 to R387, R411, R412): PE_PERST_N and the link, with the end of the session and the reset of
every function when it goes down; a function-level reset disables the rings, discards completions and frees the slots of commands that
do not run; a slow link is noted; violation windows of 15.625 ms follow device time, and a throttle ends with its second, or goes on.
Rings, doorbells and BAR0 accesses (R7, R392 to R396, R398, R410, R412, R416, R459): an enable empties a ring, a defined size counts only
while EN is 0, an enable during a pending reset waits, and a disable ends the wait; a doorbell within the ring moves its index and any other is a violation; entries
that have waited long enough are signalled; an access that breaks the rules is a violation, and reads an Unsupported Request. -/
def Obligations.HostLinksAndRings : Prop :=
  (∀ (s : State) (p : PortId) (f : FnId) (rate : LinkRate) (q : VPort) (end_ : Nat),
      let v := s.port p
      let w := s.vstate q
      let raw := if q.val = 4 then s.host.owner.viol else (s.port q).viol
      let slot := s.now / 15625000
      let runs := fun (f : Nat) (tag : Nat) => s.host.running.any (fun r => decide (r.iss.p = p) && decide (r.iss.f = f) && decide (r.iss.tag.toNat % 4096 = tag))
      let reset := fun (t : State) (f : Nat) => let n := t.func p f
        n.sq.en = false ∧ n.cq.en = false ∧ n.nr.en = false ∧ n.ready = [] ∧ n.sigHeld = false ∧
        n.rstp = s.host.running.any (fun r => decide (r.iss.p = p) && decide (r.iss.f = f)) ∧ n.msix = (s.func p f).msix ∧ n.pwq = (s.func p f).pwq ∧
        (∀ k, runs f k = false → sget {} n.slots k = {}) ∧ (∀ k, runs f k = true → sget {} n.slots k = sget {} (s.func p f).slots k)
      let down := fun (t : State) => (t.port p).up = false ∧ (∀ f, f < 65 → reset t f) ∧ (t.spdm p).session = none ∧
        t.key (8 + p) = none ∧ t.key (12 + p) = none ∧ (∀ k, k < 4 → k ≠ p.val → t.port k = s.port k) ∧ t.host.running = s.host.running
      (s.sys.off = true → exec (.pePerstNAssert p) s = .next (s.setPort p { v with perst := true }) ∧
        exec (.pePerstNDeassert p) s = .next (s.setPort p { v with perst := false })) ∧
      (s.live = true →
        (s.portExists p = true → v.perst = false → ∃ t, exec (.pePerstNAssert p) s = .next t ∧ down t ∧ (t.port p).perst = true ∧ (t.port p).training = false) ∧
        (s.portExists p = true → v.perst = true → exec (.pePerstNDeassert p) s = .next (s.setPort p { v with perst := false, training := true })) ∧
        (s.portExists p = true → v.perst = false → v.training = true → 2 ≤ s.sys.bring → exec (.hostLinkUp p rate) s = .next (s.setPort p { v with
          up := true, training := false, slow := decide (rate = .gt8 ∨ rate = .gt5 ∨ rate = .gt2_5) })) ∧
        (s.portExists p = false ∨ v.perst = true ∨ s.sys.bring < 2 → exec (.hostLinkUp p rate) s = .next s) ∧
        (v.up = true → (∃ t, exec (.hostLinkDown p) s = .next t ∧ down t ∧ (t.port p).training = true ∧ (t.port p).slow = false) ∧
          (∃ t, exec (.functionLevelReset p f) s = .next t ∧ reset t f ∧ (∀ k, k ≠ f.val → t.func p k = s.func p k) ∧ (t.port p).up = true) ∧
          (∃ t, exec (.hotReset p) s = .next t ∧ (∀ k, k < 65 → reset t k) ∧ (t.port p).up = true ∧ t.sec = s.sec)) ∧
        (v.up = false → exec (.hostLinkDown p) s = .next s ∧ exec (.functionLevelReset p f) s = .next s ∧ exec (.hotReset p) s = .next s) ∧
        (raw.win < slot → exec (.violationWindowEnd q) s = .next (s.setVstate q { raw with
          windows := (List.replicate (min 63 (slot - raw.win - 1)) 0 ++ raw.cur :: raw.windows).take 63, cur := 0, win := slot })) ∧
        (slot ≤ raw.win → exec (.violationWindowEnd q) s = .next (s.setVstate q raw)) ∧
        (w.throttled = some end_ → (s.now < end_ → exec (.throttleEnd q) s = .next s) ∧
          (end_ ≤ s.now → 1024 ≤ w.sum → exec (.throttleEnd q) s = .next (s.setVstate q { w with throttled := some (end_ + 1000000000) })) ∧
          (end_ ≤ s.now → w.sum < 1024 → exec (.throttleEnd q) s = .next
            ((s.setVstate q { w with throttled := none }).log 0x51 (q.val * 2 ^ 24 + w.sum)))))) ∧
  (∀ (s : State) (p : PortId) (f : FnId) (k : RingKind) (v : Reg) (off size : Nat) (write : Bool), s.live = true → (s.port p).up = true →
      let u := s.func p f
      let r := u.ring k
      let n := v.toNat % 16
      let w := s.vstate p
      let en := r.en || decide (PendEnable.ring p f k ∈ s.sys.pend)
      let pends := fun (t : State) (l : List PendEnable) => { t with sys := { t.sys with pend := l } }
      let ring := fun (on : Bool) (x : Ring) => x.en = on ∧ x.base = r.base ∧ x.log2 = (if en = false ∧ 4 ≤ n ∧ n ≤ 12 then n else r.log2) ∧
        (k ≠ .sq → x.vec = v.toNat / 2 ^ 20 % 2 ^ 11 ∧ x.ccnt = v.toNat / 2 ^ 12 % 2 ^ 8 ∧ x.ctime = v.toNat / 2 ^ 4 % 2 ^ 8)
      let violates := fun (kind : Byte) => s.setVstate p { w with
        cur := w.cur + 1, total := min (w.total + 1) 0xFFFF, log := (⟨kind, f, 0, s.now⟩ :: w.log).take 16 }
      let quiet := w.sum + 1 < 1024 ∨ w.throttled.isSome = true
      let head := v.toNat % 4096
      (v.toNat / 2 ^ 31 = 1 →
        (en = false → u.rstp = false → ∃ x, exec (.ringEnable p f k v) s = .next (s.setFunc p f (u.setRing k x)) ∧ ring true x ∧
          x.head = 0 ∧ x.tail = 0 ∧ x.phase = true) ∧
        (r.en = true → ∃ x, exec (.ringEnable p f k v) s = .next (s.setFunc p f (u.setRing k x)) ∧ ring true x ∧ x.head = r.head ∧ x.tail = r.tail) ∧
        (r.en = false → en = true → ∃ x, exec (.ringEnable p f k v) s = .next (s.setFunc p f (u.setRing k x)) ∧ ring false x) ∧
        (en = false → u.rstp = true → ∃ x, exec (.ringEnable p f k v) s =
          .next (pends (s.setFunc p f (u.setRing k x)) (s.sys.pend ++ [.ring p f k])) ∧ ring false x)) ∧
      (v.toNat / 2 ^ 31 = 0 → (k ≠ .sq ∨ r.en = false) → ∃ x, exec (.ringDisable p f k v) s =
          .next (pends (s.setFunc p f (u.setRing k x)) (s.sys.pend.filter (fun e => decide (e ≠ .ring p f k)))) ∧
        ring false x ∧ x.head = r.head ∧ x.tail = r.tail) ∧
      (v.toNat / 2 ^ 31 = 0 → u.sq.en = true → ∃ t, exec (.ringDisable p f .sq v) s = .next t ∧ (t.func p f).sq.en = false ∧
        (t.func p f).sigHeld = false ∧ (t.func p f).cq = u.cq ∧ (t.func p f).nr = u.nr ∧ (t.func p f).slots = u.slots ∧
        .ring p f .sq ∉ t.sys.pend) ∧
      (u.sq.en = true → head < 2 ^ u.sq.log2 → exec (.mbxSqtail p f v) s = .next (s.setFunc p f { u with sq := { u.sq with tail := head } })) ∧
      (u.sq.en = false ∨ 2 ^ u.sq.log2 ≤ head → quiet → exec (.mbxSqtail p f v) s = .next (violates 6)) ∧
      (u.cq.en = true → u.cq.head ≤ head → head ≤ u.cq.tail → u.cq.tail < 2 ^ u.cq.log2 →
        exec (.mbxCqhead p f v) s = .next (s.setFunc p f { u with cq := { u.cq with head := head } })) ∧
      (u.cq.en = false ∨ 2 ^ u.cq.log2 ≤ head → quiet → exec (.mbxCqhead p f v) s = .next (violates 6)) ∧
      (u.nr.en = true → u.nr.head ≤ head → head ≤ u.nr.tail → u.nr.tail < 2 ^ u.nr.log2 →
        exec (.mbxNrhead p f v) s = .next (s.setFunc p f { u with nr := { u.nr with head := head } })) ∧
      (u.nr.en = false ∨ 2 ^ u.nr.log2 ≤ head → quiet → exec (.mbxNrhead p f v) s = .next (violates 6)) ∧
      (k ≠ .sq → 0 < r.unsig → r.unsigAt + 1000 * r.ctime ≤ s.now → r.vec < nVec f →
        (bit (u.msixWord (4 * r.vec + 3)).toNat 0 = false → exec (.coalescingTimeout p f k) s = .next
          ((s.setFunc p f (u.setRing k { r with unsig := 0 })).emit (.msix p f r.vec))) ∧
        (bit (u.msixWord (4 * r.vec + 3)).toNat 0 = true → ∃ m, exec (.coalescingTimeout p f k) s = .next
          (s.setFunc p f { u.setRing k { r with unsig := 0 } with mpend := m }) ∧ sget false m r.vec = true)) ∧
      (r.unsig = 0 ∨ s.now < r.unsigAt + 1000 * r.ctime → exec (.coalescingTimeout p f k) s = .next s) ∧
      (s.bar0Legal p f off size = true → exec (.bar0Violation p f off size write) s = .next s) ∧
      (s.bar0Legal p f off size = false → quiet →
        exec (.bar0Violation p f off size false) s = .next ((violates 7).emit .bar0UR) ∧
        (¬ (0x1000 ≤ off ∧ off < 0x3000) → exec (.bar0Violation p f off size true) s = .next (violates 7))))

/-- Consumption, completions and notices (R228, R376, R389, R395 to R397, R399, R403, R407 to R409): a port takes the descriptor at the head
of a ring, or of the owner's buffer, and a command whose TAG is free and that its port may give runs with its slot busy; a task signal
goes to Belay first and stays at the head; a completion is written at the tail and frees its slot; a notice is written when the ring has
room, and is counted as lost while it is disabled; a write into a bound slot of the push window becomes a posted push. A BAR2 access in a
selective IDE stream of the session that the aperture and the bound region cover becomes requests that cover its bytes, under the tags
from its own up, and their answers reach the host; another is refused, counted and logged. -/
def Obligations.HostTraffic : Prop :=
  ∀ (s : State) (p : PortId) (f : FnId) (b : List Byte) (c : CmdInfo) (rest : List (List Byte)) (r : Ready) (rs : List Ready) (n : HostNotice)
    (t0 : Tlp) (q off : Nat), s.live = true →
    let u := s.func p f
    let tag := le b 2 2
    let i := fun (p f : Nat) => mkIssuer p f (BitVec.ofNat 16 tag)
    let runs := fun (t : State) (p f : Nat) => t.hslot p f (tag % 4096) = { s.hslot p f (tag % 4096) with busy := true, marked := false } ∧
      t.host.running = s.host.running ++ [{ iss := i p f, op := BitVec.ofNat 16 (le b 0 2), bytes := b, seq := none }]
    let w := s.vstate p
    (s.mayConsume p = true → (s.port p).up = true → s.nextRing p = some f.val → b.length = 64 → u.sigDone = false → s.signalGoes p f b = false →
      (s.hslot p f (tag % 4096)).busy = false → (s.hslot p f (tag % 4096)).gen = tag / 4096 → cmdInfo (le b 0 2) = some c → c.session = false →
      s.authority p (le b 0 2) c = none → ∃ t, exec (.descriptorConsume p.castSucc (some b)) s = .next t ∧ runs t p f ∧
        (t.func p f).sq = { u.sq with head := (u.sq.head + 1) % 2 ^ u.sq.log2 } ∧ (t.port p).lastTake = some s.now ∧
        (t.port p).ptr = (f.val + 1) % 65 ∧ t.out = s.out ++ [.hostRead p (u.sq.base.toNat + 64 * u.sq.head) 64]) ∧
    (s.mayConsume p = true → (s.port p).up = true → s.nextRing p = some f.val → b.length = 64 → u.sigDone = false → s.signalGoes p f b = true →
      s.host.wide = none → ∃ t, exec (.descriptorConsume p.castSucc (some b)) s = .next t ∧
        t.func p f = { u with sigHeld := true, sigBy := none } ∧ t.host.running = s.host.running ∧
        t.belay = { s.belay with work := insertWork (.event ⟨1600 + p, le b 8 2, s.now, .host p f false⟩) s.belay.work }) ∧
    (s.mayConsume 4 = true → s.host.owner.subs = b :: rest → (s.hslot 4 0 (tag % 4096)).busy = false → (s.hslot 4 0 (tag % 4096)).gen = tag / 4096 →
      cmdInfo (le b 0 2) = some c → s.authority 4 (le b 0 2) c = none → ∃ t, exec (.descriptorConsume 4 none) s = .next t ∧ runs t 4 0 ∧
        t.host.owner.subs = rest ∧ t.host.owner.lastTake = some s.now) ∧
    (s.mayConsume p = false → exec (.descriptorConsume p.castSucc (some b)) s = .next s) ∧
    (u.ready = r :: rs → r.rej = false → (s.hslot p f (r.tag.toNat % 4096)).aborters = [] →
      let h := s.hslot p f (r.tag.toNat % 4096)
      (u.cq.en = true → u.cq.room = true → s.host.avail = true → u.cq.unsig + 1 < u.cq.ccnt → ∃ t, exec (.completionPost p f) s = .next t ∧
        t.out = s.out ++ [.hostWrite p (u.cq.base.toNat + 32 * u.cq.tail) (r.bytes ((s.key (12 + p)).getD []) u.cq.phase u.sq.head)] ∧
        (t.func p f).ready = rs ∧ (t.func p f).cq.tail = (u.cq.tail + 1) % 2 ^ u.cq.log2 ∧
        (t.func p f).cq.phase = (if (u.cq.tail + 1) % 2 ^ u.cq.log2 = 0 then !u.cq.phase else u.cq.phase) ∧
        (t.func p f).cq.unsig = u.cq.unsig + 1 ∧
        t.hslot p f (r.tag.toNat % 4096) = { gen := if h.marked then (h.gen + 1) % 16 else h.gen }) ∧
      (u.cq.en = false → ∃ t, exec (.completionPost p f) s = .next t ∧ t.out = s.out ∧ (t.func p f).ready = rs ∧
        t.hslot p f (r.tag.toNat % 4096) = { gen := (h.gen + 1) % 16 }) ∧
      (u.cq.en = true → u.cq.room = false → exec (.completionPost p f) s = .next s)) ∧
    (s.noc.hostNotices = [(p.val, n)] → n.ring = f.val → n.orig = none → u.lost = 0 →
      (u.nr.en = true → u.nr.room = true → u.nr.unsig + 1 < u.nr.ccnt → ∃ t, exec (.hostNoticeArrival p) s = .next t ∧ t.noc.hostNotices = [] ∧
        t.out = s.out ++ [.hostWrite p (u.nr.base.toNat + 16 * u.nr.tail) (toLe 1 n.kind.code ++ toLe 1 (if u.nr.phase then 1 else 0) ++
          toLe 1 n.status.toNat ++ toLe 1 n.code.toNat ++ toLe 4 n.id ++ toLe 8 s.now)] ∧
        (t.func p f).nr.tail = (u.nr.tail + 1) % 2 ^ u.nr.log2) ∧
      (u.nr.en = false → ∃ t, exec (.hostNoticeArrival p) s = .next t ∧ t.noc.hostNotices = [] ∧ (t.func p f).nlost = min (u.nlost + 1) 0xFFFF ∧
        t.out = s.out) ∧
      (u.nr.en = true → u.nr.room = false → n.kind ≠ .task → exec (.hostNoticeArrival p) s = .next s)) ∧
    (u.nr.en = true → 0 < u.lost → u.nr.room = true → u.nr.unsig + 1 < u.nr.ccnt → ∃ t, exec (.lostNoticeEntry p f) s = .next t ∧
      (t.func p f).lost = 0 ∧ t.out = s.out ++ [.hostWrite p (u.nr.base.toNat + 16 * u.nr.tail) (toLe 1 7 ++ toLe 1 (if u.nr.phase then 1 else 0) ++
        [0, 0] ++ toLe 4 u.lost ++ toLe 8 s.now)]) ∧
    (u.lost = 0 ∨ u.nr.en = false ∨ u.nr.room = false → exec (.lostNoticeEntry p f) s = .next s) ∧
    ((s.port p).up = true → (s.port p).slow = false → 0x1000 ≤ off → off + 16 ≤ 0x3000 → off % 16 = 0 → s.maySendReq (hostInit p) = true → b.length = 16 →
      sget none u.pwq ((off - 0x1000) / 0x100) = some q →
      let e : End := .array (s.redir (q / 128)) 0
      exec (.pushWindowWrite p f off b) s = .next (s.sendReq e { op := .pushp, who := hostInit p, prio := s.lowerTo (hostInit p) e 3 (s.qRegion q)
                                                                 addr := q, prod := prodHOST, words := [(bytesWord b, 0)] })) ∧
    ((s.port p).up = true → (s.port p).slow = false → s.bar2Ok p t0 = true → s.maySendReq (hostInit p) = true →
      let len := match t0.write with | some d => d.length | none => t0.readLen
      let parts := bar2Parts (len + 1) t0.off len
      let req := fun (k a m : Nat) => ({
        who := Fin.ofNat 4096 (hostInit p), tag := t0.tag + k, addr := a, len := Fin.ofNat 16 (if 16 ≤ m then m / 16 - 1 else 0), prio := 3
        size := if 16 ≤ m then 0 else if m = 8 then 2 else 1
        data := match t0.write with | some d => bytesWords ((m + 15) / 16) (slice d (a - t0.off) m) | none => [] } : Request)
      t0.off % 4 = 0 → len % 4 = 0 →
      (parts.map (·.2)).sum = len ∧ (∀ x ∈ parts, x.2 = 4 ∨ x.2 = 8 ∨ (x.2 % 16 = 0 ∧ 16 ≤ x.2 ∧ x.2 ≤ 256)) ∧ (∀ x ∈ parts.head?, x.1 = t0.off) ∧
      ((∀ k, k < parts.length → t0.tag + k < 256 ∧ ((s.init (hostInit p)).tagOf (t0.tag + k)).st = .free) →
        exec (.bar2Access p t0) s = .next (parts.zipIdx.foldl (fun s x => s.request (req x.2 x.1.1 x.1.2) (if t0.write.isSome then .wr else .rd)) s))) ∧
    (let i := hostInit p;
      s.bar2Answer i false 0 b = s.emit (.bar2Data p b) ∧ s.bar2Answer i true 0 b = s ∧
      (off ≠ 0 → s.bar2Answer i false off b = s.emit .bar2CA ∧
        s.bar2Answer i true off b = s.setPort p { s.port p with berr := min ((s.port p).berr + 1) 0xFFFF })) ∧
    ((s.port p).up = true → (s.port p).slow = true → exec (.bar2Access p { t0 with write := none }) s = .next (s.emit .bar2UR)) ∧
    ((s.port p).up = true → (s.port p).slow = true → exec (.bar2Access p { t0 with write := some b }) s = .next s) ∧
    ((s.port p).up = true → (s.port p).slow = false → (s.port p).bound = none ∨ t0.ide = none ∨ t0.ide = some 0 → (w.sum + 1 < 1024 ∨ w.throttled.isSome = true) →
      let x := (s.setVstate p { w with cur := w.cur + 1, total := min (w.total + 1) 0xFFFF, log := (⟨9, 0, 0, s.now⟩ :: w.log).take 16 }).aerUr p
      exec (.bar2Access p { t0 with write := none }) s = .next (x.emit .bar2UR) ∧ exec (.bar2Access p { t0 with write := some b }) s = .next x)

/-- The owner port (R414, R415): a whole SUBMIT with its CRC enters the buffer of 64, another is counted as a violation or refused as
full; STATUS and FETCH return their bytes with their CRC; POP with the tag of the first completion takes it, and the last one releases the
alert. -/
def Obligations.OwnerPortMessages : Prop :=
  ∀ (s : State) (b : List Byte) (r : Ready) (rs : List Ready), s.live = true →
    let o := s.host.owner
    let w := s.vstate 4
    let quiet := w.sum + 1 < 1024 ∨ w.throttled.isSome = true
    let crc := fun (x : List Byte) => toLe 4 (crc32c x)
    let violates := fun (o : OwnerPort) (tag : Nat) => s.setOwner { o with viol := { w with
      cur := w.cur + 1, total := min (w.total + 1) 0xFFFF, log := (⟨0x0A, 0, BitVec.ofNat 16 tag, s.now⟩ :: w.log).take 16 } }
    let good := slice b 65 4 = crc (b.take 65)
    let popOk := 7 ≤ b.length ∧ slice b 3 4 = crc (b.take 3)
    let tag := le b 1 2
    (b.head? = some 0x11 →
      (69 ≤ b.length → good → o.subs.length < 64 → exec (.submit b) s = .next (s.setOwner { o with lastRes := 0, subs := o.subs ++ [slice b 1 64] })) ∧
      (69 ≤ b.length → good → 64 ≤ o.subs.length → exec (.submit b) s = .next (s.setOwner { o with lastRes := 2 })) ∧
      (69 ≤ b.length → ¬ good → quiet → exec (.submit b) s = .next (violates { o with lastRes := 1 } 0)) ∧
      (b.length < 69 → quiet → exec (.submit b) s = .next (violates { o with lastRes := 3 } 0))) ∧
    (b.head? = some 0x22 → 14 ≤ b.length →
      let first := (if s.host.avail then 1 else 0) + (if w.throttled.isSome then 2 else 0) + (if o.comps ≠ [] then 4 else 0) + 8 * o.lastRes.toNat
      let st := toLe 1 first ++ [0] ++ toLe 2 (min 64 o.comps.length) ++ toLe 2 (64 - o.subs.length) ++ toLe 2 w.sum
      exec (.status b) s = .next (s.emit (.spi (st ++ crc st)))) ∧
    (b.head? = some 0x22 → b.length < 14 → quiet → exec (.status b) s = .next (violates o 0)) ∧
    (b.head? = some 0x33 → 38 ≤ b.length → o.comps = r :: rs → r.seq = none → ∃ e, exec (.fetch b) s = .next (s.emit (.spi (e ++ crc e))) ∧
      slice e 0 2 = toLe 2 r.tag.toNat ∧ slice e 2 1 = [r.status] ∧ slice e 8 16 = toLe 16 r.result.toNat ∧ e.length = 32) ∧
    (b.head? = some 0x33 → 38 ≤ b.length → o.comps = [] → exec (.fetch b) s = .next (s.emit (.spi (Config.fetchIdle ++ crc Config.fetchIdle)))) ∧
    (b.head? = some 0x44 → popOk → o.comps = r :: rs →
      (r.tag.toNat = tag → rs = [] → exec (.pop b) s = .next ((s.setOwner { o with comps := [] }).emit (.ownerAlert false))) ∧
      (r.tag.toNat = tag → rs ≠ [] → rs.length < 64 → exec (.pop b) s = .next (s.setOwner { o with comps := rs })) ∧
      (r.tag.toNat ≠ tag → quiet → exec (.pop b) s = .next (violates o tag))) ∧
    (b.head? = some 0x44 → ¬ popOk → quiet → exec (.pop b) s = .next (violates o 0)) ∧
    (b.head? ≠ some 0x11 → exec (.submit b) s = .next s) ∧ (b.head? ≠ some 0x44 → exec (.pop b) s = .next s)

/-- Register accesses (R7, R10 to R12, R101, R134, R148, R165, R166, R392): a read of a read-to-clear register returns its value and clears
it, a write of 1 clears a sticky bit and a write of 0 leaves it, a size field takes only a defined encoding, and an access without
rights is answered with an error and changes nothing. -/
def Obligations.RegisterAccesses : Prop :=
  ∀ (s : State) (c : ClId) (q : Fin 128) (p : PortId) (f : FnId) (v : BitVec 64) (who : InitId), s.live = true → s.sys.mode ≠ 3 →
    s.redir c = c → v.toNat < 2 ^ 32 → fwId < 4096 →
    let fw : InitId := Fin.ofNat 4096 fwId
    let reg := fun (o : Nat) => winBase + c.val * 0x1000000 + 0xF00000 + o
    let sq := fun (o : Nat) => reg (0x40000 + 64 * q + o)
    let u := (s.cl c).queue q
    let id := 128 * c.val + q
    let value := fun (t : State) (n : Nat) => t.emit (.regValue (some (BitVec.ofNat 64 n)))
    let x := s.func p f
    let keep := fun (i : Nat) (old : Bool) => old && !bit v.toNat i
    (u.ovcnt < 2 ^ 16 → exec (.rcRead (.ctl fw (sq 0x18) 4)) s = .next (value (s.setQueue id { u with ovcnt := 0 }) u.ovcnt)) ∧
    (u.stale < 2 ^ 16 → exec (.rcRead (.ctl fw (sq 0x0C) 4)) s = .next (value (s.setCl c (s.cl c)) u.stale)) ∧
    exec (.registerWrite (.ctl fw (sq 0x14) 4) v) s = .next (s.setQueue id { u with
      nsat := keep 9 u.nsat, perr := keep 8 u.perr, ovr := keep 7 u.ovr, sx := keep 6 u.sx, lx := keep 5 u.lx, hx := keep 4 u.hx }) ∧
    exec (.registerWrite (.ctl fw (sq 0x0C) 4) v) s = .next (s.setQueue id { u with stale := v.toNat % 65536, staleFrom := s.now, staleStopped := false }) ∧
    (s.tenantAt who c = true → isHub who = false → s.translate who (reg 0x2018) = some (reg 0x2018) → exec (.registerWrite (.ctl who (reg 0x2018) 4) v) s =
      .next (s.updCl c fun k => { k with scause := k.scause &&& ~~~(BitVec.ofNat 6 v.toNat) })) ∧
    (who.val ≠ fwId → who.val ≠ c.val → s.tenantAt who c = false → s.translate who (sq 0x18) = some (sq 0x18) →
      exec (.rcRead (.ctl who (sq 0x18) 4)) s = .next (s.emit (.regValue none)) ∧
      exec (.registerWrite (.ctl who (sq 0x0C) 4) v) s = .next (s.emit (.regValue none))) ∧
    ((s.port p).up = true →
      (x.nlost < 2 ^ 16 → exec (.rcRead (.bar0 p f 0x154 4)) s = .next (value (s.setFunc p f { x with nlost := 0 }) x.nlost)) ∧
      (s.ringEn p f .sq = false → exec (.registerWrite (.bar0 p f 0x104 4) v) s = .next (s.setFunc p f { x with sq := { x.sq with
        base := BitVec.ofNat 64 (x.sq.base.toNat % 2 ^ 32 + v.toNat * 2 ^ 32) } })) ∧
      (s.ringEn p f .sq = true → exec (.registerWrite (.bar0 p f 0x104 4) v) s = .next s))

/-! ### Resets, reliability, Ethernet, pins -/

/-- Resets and power (R270, R271, R309, R356, R445, R447, R448, R450, R458 to R461, R513 to R515, R518, R522): a reset ends the present
run, keeps the life cycle, the owner and the tenants' records, samples the straps and counts itself; a temperature, supply or self-check trip enters FAULT-SAFE with its cause once; bring-up goes step by step; an idle
island is to be fenced at a packet boundary in ECONOMY mode, and is powered on, cleared, when it is wanted, its fence to go at a packet
boundary; an enable of a ring that waited for the reset of its function runs once the reset has ended. -/
def Obligations.PowerAndResets : Prop :=
  ∀ (s : State) (high : Bool) (straps : BitVec 10) (k : RKind) (tr : Trans) (e : IslId) (r : BringResult) (p f : Nat) (g : RingKind),
    let boots := fun (t : State) (k : RKind) (straps : BitVec 10) =>
      t.sys.off = false ∧ t.sys.held = none ∧ t.sys.dstate = .bringup ∧ t.sys.mode = 1 ∧ t.sys.bring = 0 ∧ t.sys.rcause = k ∧ t.sys.straps = straps ∧
      t.sys.bootCount = s.sys.bootCount + 1 ∧ t.time = (if k = .cold then 0 else s.time) ∧ t.pending = s.pending ∧ t.out = s.out ∧
      t.hbm.mem = [] ∧ t.sec.regions = [] ∧ t.sec.keys = [] ∧ t.noc.packets = [] ∧ t.movers = [] ∧ t.sec.fused = s.sec.fused ∧
      t.sec.lcs = (if s.sec.fused then .retired else s.sec.lcs) ∧
      t.sec.ownerHash = s.sec.ownerHash ∧ t.sec.tenants = s.sec.tenants ∧ t.host.owner.subs = [] ∧ t.host.running = [] ∧ t.host.avail = false ∧
      (∀ q, q < 4 → (t.port q).perst = (s.port q).perst ∧ (t.port q).up = false) ∧
      (s.rel.second < 100 → t.rel.log.head? = some { time := t.now, boot := s.sys.bootCount + 1, code := 0x62, data := BitVec.ofNat 32 k.code })
    let trips := fun (t : State) (n : Nat) => t.sys.dstate = .faultSafe ∧ t.sys.fscause = BitVec.ofNat 8 n ∧ t.hbm = s.hbm ∧ t.sec = s.sec ∧
      t.host = s.host ∧ (∀ i, i < 64 → s.islOn i = true → t.fenceOf i = .requested) ∧ ∀ c, c < 256 → t.cl c = (s.cl c).park
    (s.sys.off = true → s.sys.held = none → (∃ t, exec (.coldReset true straps) s = .next t ∧ boots t .cold straps) ∧
      exec (.coldReset false straps) s = .next { s with sys := { s.sys with held := some .cold } }) ∧
    (s.sys.off = false → exec (.coldReset high straps) s = .next s) ∧
    (s.sys.off = false → s.sys.held = none → exec .warmReset s = .next { s with sys := { s.sys with held := some .warm } }) ∧
    (s.sys.off = true → exec .warmReset s = .next s) ∧
    (s.sys.held = some k → ∃ t, exec (.resetNRelease straps) s = .next t ∧ boots t k straps) ∧
    (s.sys.held = none → exec (.resetNRelease straps) s = .next s) ∧
    (exec .powerDown s = .next { s with sys := { s.sys with off := true, held := none, thermtrip := false, refclkLost := false } }) ∧
    (s.live = true →
      (s.sec.trans = some tr → tr.written = true → (tr.posted + 100000000 ≤ s.now ∨ ∀ x ∈ s.host.owner.comps, x.tag ≠ tr.issuer.tag) →
        ∃ t, exec .lifecycleReset s = .next t ∧ boots t .lifecycle s.sys.straps) ∧
      (s.sec.trans = some tr → tr.written = false → exec .lifecycleReset s = .next s) ∧
      (s.sec.trans = none → exec .lifecycleReset s = .next s) ∧
      (s.sys.dstate ≠ .faultSafe → (∃ t, exec .temperatureTrip s = .next t ∧ trips t 1) ∧ (∃ t, exec .supplyFault s = .next t ∧ trips t 2) ∧
        (∃ t, exec .securityCoreSelfCheckFail s = .next t ∧ trips t 3) ∧
        (s.sys.thermtrip = false → ∃ t, exec .thermtrip s = .next t ∧ trips t 1 ∧ t.sys.thermtrip = true ∧ t.out = s.out ++ [.thermtripLow])) ∧
      (s.sys.dstate = .faultSafe → exec .temperatureTrip s = .next s ∧ exec .supplyFault s = .next s ∧ exec .securityCoreSelfCheckFail s = .next s) ∧
      exec .sysRefclkLoss s = .next { s with sys := { s.sys with refclkLost := true } } ∧
      (s.sys.dstate ≠ .bringup → exec (.bringupStep r) s = .next s) ∧
      (s.sys.dstate = .bringup → r.pm.fails = 0 → r.vio = [] →
        let n := { s with ext := { s.ext with pmbFails := min s.ext.pmbFails 0xFFFF } }
        (s.sys.bring = 1 → ∃ t, exec (.bringupStep r) s = .next t ∧ t.host.avail = true ∧ t.sys = { s.sys with bring := 2 } ∧
          ∀ q, q < 4 → (t.port q).training = ((s.port q).training || (s.portExists q && !(s.port q).perst))) ∧
        (s.sys.bring = 6 → exec (.bringupStep r) s = .next { n with sys := { s.sys with bring := 7 } }) ∧
        (s.sys.bring = 7 → s.sys.change = none → s.modeFits s.sys.bootMode [] = true → (∀ x, x < 5 → (s.ctx x).busy = false) →
          exec (.bringupStep r) s = .next { n with sys := { s.sys with
            change := some { step := 1, mode := s.sys.bootMode, issuer := none, tables := [], since := s.now } } })) ∧
      (s.sys.mode = 5 → s.islOn e = true → s.islSvc e = true → s.islandIdle e = true → s.fenceOf e = .none →
        (sget 0 s.sys.idleSince e + 1000 * s.sys.gidle ≤ s.now → ∃ t, exec (.islandIdleTimeout e) s = .next t ∧ t.fenceOf e = .requested ∧
          (∀ c ∈ islandClusters e, (t.router c).pend = (s.router c).pend ++ [.fence 0]) ∧ t.cls = s.cls) ∧
        (s.now < sget 0 s.sys.idleSince e + 1000 * s.sys.gidle → exec (.islandIdleTimeout e) s = .next s)) ∧
      (s.sys.mode ≠ 5 → exec (.islandIdleTimeout e) s = .next s) ∧
      (s.islandOff e = true → s.wantsPower e = true → s.sys.dstate ≠ .faultSafe → ∃ t, exec (.islandPowerOn e) s = .next t ∧
        t.islOn e = true ∧ t.fenceOf e = .none ∧ (∀ c ∈ islandClusters e, (t.router c).pend = (s.router c).pend ++ [.unfence 0] ∧
          t.cl c = (s.cl c).cleared) ∧ .island e.val ∉ t.sys.pend) ∧
      (s.islandOff e = false ∨ s.wantsPower e = false → exec (.islandPowerOn e) s = .next s) ∧
      (s.sys.pend = [.ring p f g] → (s.func p f).rstp = false → let r := (s.func p f).ring g
        exec .pendingEnableRun s = .next (({ s with sys := { s.sys with pend := [] } } : State).setFunc p f
          ((s.func p f).setRing g { r with en := true, head := 0, tail := 0, phase := true }))) ∧
      ((∀ y ∈ s.sys.pend, s.enableRuns y = false) → exec .pendingEnableRun s = .next s))

/-- Migration, the log's seconds, Cairn and PLL pairs (R466, R470, R473, R477 to R480, R484): the state of a retired cluster moves whole
to its standby, which has its patch entry then; a new second of device time closes one with suppressed entries with one entry that counts them; a Cairn slice
tests an idle block and fails it only when both runs differ from the reference; a pass ends with the PLLs that passed swapping roles;
a failed PLL hands over to its standby, and a pair that has none left retires its island's clusters. -/
def Obligations.Reliability : Prop :=
  ∀ (s : State) (c d : ClId) (at_ : Nat) (lead : Bool) (b : CairnBlock) (one two : Reg) (i : IslId) (q : Fin 4) (who : InitId), s.live = true →
    let second := s.now / 1000000000
    let ref := Config.cairnRef b.code
    let runs := s.rel.crnEn = true ∧ s.sys.dstate = .service ∧ s.cairnIdle b = true ∧ s.sys.refclkLost = false
    let word := b.code.toNat * 2 ^ 24 + b.inst.toNat
    let a := s.pllActive i
    let bad := sput false s.rel.pllBad (2 * i + a) true
    (s.rel.migq = [⟨c.val, d.val, at_, lead⟩] → s.pairOf c = none → c ≠ d → s.canMigrate c d = true →
      ∃ t, exec (.migration c []) s = .next t ∧
        t.cl d = { s.cl c with stopped := false, failing := (s.cl d).failing, repair := none, pause := 0 } ∧ t.seq d = s.seq c ∧
        t.cl c = { stopped := (s.smap c).retired, failing := (s.cl c).failing } ∧ (t.smap d).patch = true ∧ (t.smap d).src0 = BitVec.ofNat 8 c ∧
        (t.smap c).patch = false ∧ t.rel.migq = [] ∧ t.hbm = s.hbm) ∧
    ((∀ y ∈ s.rel.migq, y.cl ≠ c.val) → exec (.migration c []) s = .next s) ∧
    (s.rel.secondAt = second → exec .logSecondEnd s = .next s) ∧
    (s.rel.secondAt ≠ second → s.rel.suppressed = 0 → exec .logSecondEnd s = .next { s with rel := { s.rel with
      secondAt := second, second := 0, suppressed := 0 } }) ∧
    (s.rel.secondAt ≠ second → s.rel.suppressed ≠ 0 → exec .logSecondEnd s = .next { s with rel := { s.rel with
      secondAt := second, second := 0, suppressed := 0
      log := ({ time := s.now, boot := s.sys.bootCount, code := 0x70, data := BitVec.ofNat 32 s.rel.suppressed } :: s.rel.log).take 4096 } }) ∧
    (runs →
      (one = ref ∨ two = ref → b.code ≠ 1 → b.code ≠ 2 → exec (.cairnSlice b one two true true false) s = .next s) ∧
      (one ≠ ref → two ≠ ref → ∃ t, exec (.cairnSlice b one two true true false) s = .next t ∧
        t.rel.fails = min (s.rel.fails + 1) 0xFFFFFFFF ∧ t.rel.lastfail = BitVec.ofNat 32 word ∧ word ∈ t.rel.badBlocks ∧ t.sys = s.sys ∧
        t.cls = s.cls ∧ t.ext = s.ext) ∧
      (blockTwin b = false → exec (.cairnSlice b one two true true true) s = .next s) ∧
      exec (.cairnSlice b one two false true false) s = .next { s with rel := { s.rel with notrun := min (s.rel.notrun + 1) 0xFFFFFFFF } } ∧
      exec (.cairnSlice b one two true false false) s = .next { s with rel := { s.rel with notrun := min (s.rel.notrun + 1) 0xFFFFFFFF } }) ∧
    (s.rel.crnEn = false ∨ s.sys.dstate ≠ .service → exec (.cairnSlice b one two true true false) s = .next s ∧ exec .cairnPassEnd s = .next s) ∧
    (s.rel.crnEn = true → s.sys.dstate = .service → ∃ t, exec .cairnPassEnd s = .next t ∧ t.rel.passes = min (s.rel.passes + 1) 0xFFFFFFFF ∧
      t.rel.pllPassed = [] ∧ t.rel.pllBad = s.rel.pllBad ∧ ∀ n, n < 68 → t.pllActive n =
        (if sget false s.rel.pllPassed n = true ∧ s.pllBad n (1 - s.pllActive n) = false then 1 - s.pllActive n else s.pllActive n)) ∧
    (who.val = fwId → exec (.cairnDisable who) s = .next (s.setCrnEn false)) ∧
    (who.val ≠ fwId → exec (.cairnDisable who) s = .next (s.emit (.regValue none))) ∧
    (a < 2 → s.pllBad i a = false → s.islOn i = true →
      (s.pllBad i (1 - a) = false → exec (.islandPllFailure (.island i)) s = .next { s with rel := { s.rel with
        pllBad := bad, pllActive := sput 0 s.rel.pllActive i (1 - a) } }) ∧
      (s.pllBad i (1 - a) = true → ∃ t, exec (.islandPllFailure (.island i)) s = .next t ∧ ∀ c ∈ islandClusters i, (t.smap c).retired = true)) ∧
    (s.pllBad (64 + q) (s.pllActive (64 + q)) = true → exec (.islandPllFailure (.quadrant q)) s = .next s)

/-- Ethernet (R486, R487, R489, R492 to R499): a frame of an active sub-port that is bad is counted, one that no rule matches is
counted and discarded, one that a rule matches is pushed into the rule's queue, its words tagged; the words of a session form a
frame only with a valid metadata word and their full number; a frame departs when its session's tokens cover it; new associations
take effect at a frame boundary; a source that falls silent for 3 s loses the lock. -/
def Obligations.EthernetTraffic : Prop :=
  ∀ (s : State) (e : EthId) (sub : SubId) (f : RxFrame) (y : Rule) (n : Nat) (x : SessId) (m w : Word) (g : TxFrame) (l : List Sa) (offset : Int),
    s.live = true →
    let v := s.eth e
    let set := fun (v : Eth) => s.setEth e v
    let good := f.fcsOk = true ∧ 60 ≤ f.bytes.length ∧ f.bytes.length ≤ 9596 ∧ v.rejects f = false
    let tx := s.sess x
    let port := s.egressAt x
    let p := s.ext.ptp
    (sub.val < v.subs → exec (.ethLinkChange e sub false) s = .next (set { v with link := sput false v.link sub false }) ∧
      (s.ethActive = true → s.laneLost e sub = false → exec (.ethLinkChange e sub true) s = .next (set { v with link := sput false v.link sub true })) ∧
      (s.ethActive = false ∨ s.laneLost e sub = true → exec (.ethLinkChange e sub true) s = .next s)) ∧
    (v.subs ≤ sub.val → exec (.ethLinkChange e sub true) s = .next s ∧ exec (.ethLinkChange e sub false) s = .next s) ∧
    (s.ethActive = true → s.ethUp e sub = true → s.sys.change = none →
      (¬ good → exec (.frameReceive e sub f) s = .next (set { v with rxerr := min (v.rxerr + 1) 0xFFFFFFFF })) ∧
      (good → f.pause = true → exec (.frameReceive e sub f) s = .next s) ∧
      (good → f.pause = false → s.steer e sub f.bytes = none →
        exec (.frameReceive e sub f) s = .next (set { v with noMatch := min (v.noMatch + 1) 0xFFFFFFFF })) ∧
      (good → f.pause = false → s.steer e sub f.bytes = some (n, y) → ∃ t, exec (.frameReceive e sub f) s = .next t ∧
        (t.noc.packets.drop s.noc.packets.length).flatMap (fun k => k.words) = frameWords e sub n s.now y f.secure f.bytes ∧
        (∀ k ∈ t.noc.packets.drop s.noc.packets.length, k.op = .pushp ∧ k.addr = y.qid ∧ k.prod = prodETH ∧ k.words.length ≤ 16) ∧
        t.ext = s.ext ∧ t.belay = s.belay)) ∧
    (s.ethActive = false ∨ s.ethUp e sub = false → exec (.frameReceive e sub f) s = .next s) ∧
    (tx.words = [] → exec (.egressFrame x) s = .next s) ∧
    (tx.words = [(m, 8), (w, 3)] → exec (.egressFrame x) s = .next ((s.setSess x { tx with words := [] }).egError port.1)) ∧
    (∀ ws : List (Word × BitVec 4), tx.words = (m, 8) :: (ws ++ [(w, 3)]) → (∀ z ∈ ws, z.2 = 1) → egTSMODE m ≠ 3 → 60 ≤ egLEN m →
      egLEN m ≤ 9596 → ws.length + 1 = (egLEN m + 15) / 16 →
      (s.ethUp port.1 port.2 = false → exec (.egressFrame x) s = .next ((s.setSess x { tx with words := [] }).txDrop port.1)) ∧
      (s.ethUp port.1 port.2 = true → exec (.egressFrame x) s = .next
        ((s.setSess x { tx with words := [] }).setEth port.1 { s.eth port.1 with out := (s.eth port.1).out ++
          [⟨x, port.2, ((ws ++ [(w, 3)]).flatMap (fun z : Word × BitVec 4 => wordBytes z.1)).take (egLEN m), BitVec.ofNat 2 (egTSMODE m), egTSOFF m, egUDP4 m⟩] }))) ∧
    (s.ethActive = true → v.out = [g] → g.sub = sub.val → g.sess = x.val →
      (tx.rate = 0 → tx.next = none → g.tsmode = 0 → s.ethUp e sub = true → v.txSa = none → ∃ t, exec (.frameDeparture e sub) s = .next t ∧
        t.out = s.out ++ [.frame e sub (g.bytes ++ Config.fcs g.bytes)] ∧ (t.eth e).out = [] ∧ (t.sess x).egCount = tx.egCount + 1) ∧
      (tx.rate ≠ 0 → tx.next = none → min (tx.burst * 8000) (tx.bucket + (s.now - tx.filled) * tx.rate) < (g.bytes.length + 4) * 8000 →
        exec (.frameDeparture e sub) s = .next s)) ∧
    (v.out = [] → exec (.frameDeparture e sub) s = .next s) ∧
    (v.newSas = none → exec (.macsecAssociationChange e) s = .next s) ∧
    (v.newSas = some l → exec (.macsecAssociationChange e) s = .next (set { v with
      sas := l, newSas := none, txAn := ((l.filter (fun a => a.tx && bit a.flags.toNat 0)).getLast?).map (·.an) })) ∧
    (s.ext.ptp.src = none → exec (.syncMessage offset) s = .next s) ∧
    (p.src = some e.val → s.ethActive = true → s.ethUp e sub = true → sub.val < 4 → p.ever = true → ∃ t, exec (.syncMessage offset) s = .next t ∧
      t.time = s.time ∧ t.ext.ptp.lastSync = s.now ∧ t.ext.ptp.good = (if offset.natAbs ≤ 100 then min 16 (p.good + 1) else 0) ∧
      t.ext.ptp.locked = ((p.locked && decide (offset.natAbs ≤ 1000)) || (decide (offset.natAbs ≤ 100) && decide (15 ≤ p.good))) ∧
      -200 ≤ t.ext.ptp.slew ∧ t.ext.ptp.slew ≤ 200 ∧ t.out = s.out) ∧
    (p.locked = true → p.lastSync + 3000000000 ≤ s.now → exec .ptpSyncTimeout s = .next (s.setPtp { p with locked := false, good := 0 })) ∧
    (p.locked = false ∨ s.now < p.lastSync + 3000000000 → exec .ptpSyncTimeout s = .next s)

/-- GPIO, the console, the telemetry target and JTAG (R502, R504, R506): a capture event samples the pins, and four samples make a word;
an output word drives the output pins lane by lane and returns its credit, and outside JTAG's pin instructions an output pin shows the
last value driven, while a bank without a record is pulled down and FAULT-SAFE applies the record's HOLD; the console reads the status, the log and the versions;
the telemetry target answers its bytes and NACKs a write; a JTAG instruction of R504 is in force, another one is BYPASS outside DEBUG,
and in DEBUG it hands out the scheduler trace (R237; log 76 is the model's choice of what it does). -/
def Obligations.PinsAndConsole : Prop :=
  ∀ (s : State) (b : BankId) (pins : BitVec 24) (rec : BitVec 256) (w : MvWord) (rest : List MvWord) (n : Nat) (ptr : Byte) (data : List Byte)
    (addr : BitVec 7) (cells : List Bool) (ir : Nat), s.live = true →
    let x := s.bank b
    let tells := fun (b : Byte) => s.emit (.telemetry b)
    let jtag := fun (j : Jtag) => Host.Outcome.next (s.setJtag j)
    let sample := BitVec.ofNat 32 (x.scount.toNat * 2 ^ 24 + pins.toNat)
    (s.bankActive b = false → exec (.captureEvent b pins) s = .next s ∧ exec (.gpioOutputWord b) s = .next s) ∧
    (s.bankActive b = true → x.record = some rec →
      (recN rec 0x14 2 = 0xFFFF → s.maySendReq (0x228 + b) = false →
        exec (.captureEvent b pins) s = .next (s.setBank b { x with pins := pins })) ∧
      (recN rec 0x14 2 ≠ 0xFFFF → s.maySendReq (0x228 + b) = false →
        (x.partialSamples.length < 3 → exec (.captureEvent b pins) s = .next (s.setBank b { x with
          pins := pins, scount := x.scount + 1, partialSamples := x.partialSamples ++ [sample] })) ∧
        (x.partialSamples.length = 3 → x.wait.length + s.bankHeld b < 16 → exec (.captureEvent b pins) s = .next (s.setBank b { x with
          pins := pins, scount := x.scount + 1, partialSamples := [], wait := x.wait ++ [sampleWord (x.partialSamples ++ [sample])] })) ∧
        (x.partialSamples.length = 3 → 16 ≤ x.wait.length + s.bankHeld b → exec (.captureEvent b pins) s = .next (s.setBank b { x with
          pins := pins, scount := x.scount + 1, partialSamples := [], drop := min (x.drop + 1) 0xFFFF }))) ∧
      (recN rec 0x14 2 ≠ 0xFFFF → s.maySendReq (0x228 + b) = true → x.partialSamples.length = 3 → x.wait = [] → s.bankHeld b < 16 →
        let to_ : End := .array (s.redir (recN rec 0x14 2 / 128)) 0
        exec (.captureEvent b pins) s = .next ((s.setBank b { x with pins := pins, scount := x.scount + 1, partialSamples := [] }).sendReq to_
          { op := .pushp, who := 0x228 + b, prio := if recN rec 0 1 = 0xFF then 3 else s.lowerTo (0x228 + b) to_ 3 (some (recN rec 0 1))
            addr := recN rec 0x14 2, prod := prodGPIO, words := [(sampleWord (x.partialSamples ++ [sample]), 0)] })) ∧
      (x.outbuf = [] → exec (.gpioOutputWord b) s = .next s) ∧
      (x.outbuf = w :: rest → ∃ t, exec (.gpioOutputWord b) s = .next t ∧
        t.out = s.out ++ (List.range 4).map (fun l => .pins b (laneOf w.w (recN rec 8 3) l).1 (laneOf w.w (recN rec 8 3) l).2) ∧
        t.bank b = { x with outbuf := rest, driven := (laneOf w.w (recN rec 8 3) 3).1
                            pins := (x.pins &&& ~~~(BitVec.ofNat 24 (recN rec 8 3))) ||| (laneOf w.w (recN rec 8 3) 3).1 } ∧
        t.noc = (s.sendReq (.array w.cl 0) { op := .crd, who := 0x228 + b, prio := 3, chan := w.ch, addr := s.origin w.cl, count := 1 }).noc)) ∧
    (s.ext.jtag = .idcode ∨ s.ext.jtag = .bypass ∨ s.ext.jtag = .sample ∨ s.ext.jtag = .debug ir → 7 ≤ s.sys.bring → s.pinsHeld = false →
      (x.record = none → s.pad b n = .pullDown) ∧
      (x.record = some rec → bit (recN rec 8 3) n = true → s.sys.dstate ≠ .faultSafe → s.pad b n = .driven (bit x.driven.toNat n)) ∧
      (x.record = some rec → s.sys.dstate = .faultSafe → s.pad b n = (match recN rec 3 1 with
        | 1 => .driven (bit x.driven.toNat n) | 2 => .driven false | 3 => .driven true | _ => .pullDown))) ∧
    (exec .consoleStatus s = .next (s.emit (.console (toLe 16 s.devStatus)))) ∧
    (exec (.consoleLog n) s = .next (s.emit (.console (((s.rel.log[n]?).map LogEntry.bytes).getD [])))) ∧
    (exec .consoleVer s = .next (s.emit (.console (Config.fwVersion (sget 0 s.rel.fwVer 0) ++ Config.fwVersion (sget 0 s.rel.fwVer 1))))) ∧
    (exec (.telemetryRead 0) s = .next (tells 0xB0) ∧ exec (.telemetryRead 1) s = .next (tells (BitVec.ofNat 8 s.sys.dstate.code)) ∧
      exec (.telemetryRead 2) s = .next (tells (BitVec.ofNat 8 s.sys.mode)) ∧ exec (.telemetryRead 6) s = .next (tells (BitVec.ofNat 8 s.rel.fails)) ∧
      (6 < ptr.toNat → exec (.telemetryRead ptr) s = .next (tells 0xFF)) ∧
      (3 ≤ ptr.toNat → ptr.toNat ≤ 5 → ∃ v, exec (.telemetryRead ptr) s = .next { tells v with entropy := s.entropy + 1 })) ∧
    (data ≠ [] → exec (.telemetryWrite data) s = .next (s.emit .nack)) ∧ (exec (.telemetryWrite []) s = .next s) ∧
    (s.ext.i3c = false → exec (.entdaa addr) s = .next { s with ext := { s.ext with i3c := true, tlmAddr := addr } }) ∧
    (s.ext.i3c = true → exec (.entdaa addr) s = .next s) ∧
    (exec .bypass s = jtag .bypass ∧ exec .extest s = jtag .extest ∧ exec .highz s = jtag .highz ∧ exec .clamp s = jtag .clamp ∧
      exec .idcode s = .next ((s.setJtag .idcode).emit (.jtag 0x14096A1D)) ∧
      (∃ t z, exec (.samplePreload cells) s = .next t ∧ t.ext = { s.ext with jtag := .sample, boundary := cells } ∧ t.out = s.out ++ [.jtag z])) ∧
    (s.sec.lcs ≠ .debug → exec (.jtagDebugInstruction ir) s = jtag .bypass) ∧
    (s.sec.lcs = .debug → exec (.jtagDebugInstruction ir) s = .next ((s.setJtag (.debug ir)).emit (.trace s.belay.trace)))

/-! ### Reset and memory -/

/-- What the spec gives at the end of a first cold reset (R460, R461): bring-up begins with no step done, time is 0, nothing is in
service, no region exists, every queue and buffer is empty, and the event log holds the BOOT entry. The life cycle BLANK, the
default boot mode and the values of the registers that have no reset value in the spec are the model's choices (logs 7 and 20). -/
def Obligations.ResetState : Prop :=
  let s := State.reset
  s.sys.dstate = .bringup ∧ s.sys.bring = 0 ∧ s.sys.rcause = .cold ∧ s.time = 0 ∧ s.pending = [] ∧ s.out = [] ∧ s.hbm.mem = [] ∧
    (∀ r, s.region r = none) ∧ (∀ i, s.islOn i = false ∧ s.islSvc i = false) ∧ s.noc.packets = [] ∧ s.host.avail = false ∧
    (∀ p, (s.port p).up = false) ∧ (∀ k, s.key k = none) ∧ s.host.owner.subs = [] ∧ s.host.owner.comps = [] ∧
    s.rel.log = [{ time := 0, boot := 1, code := 0x62, data := 0 }]

/-- The HBM contents right after reset have the canonical form. -/
def Obligations.ResetMemoryForm : Prop :=
  Memory.wf State.reset.hbm.mem = true

/-- The HBM contents keep their canonical form: every step that goes on, whatever the command and from whatever state, leaves
addresses strictly rising with no cell twice. -/
def Obligations.StepKeepsMemoryForm : Prop :=
  ∀ s t : State, Memory.wf s.hbm.mem = true → step s = .next t → Memory.wf t.hbm.mem = true

/-! ### Rules stated whole -/

/-- R213: a decrement that Belay takes, aimed at a FREE or DORMANT task, is discarded (no task changes) and adds 1 to DROP of the
region, a counter that holds at 65,535. -/
def Obligations.DiscardedDecrement : Prop :=
  ∀ (s : State) (j : Nat) (e : BEvent) (r : Nat), s.live = true → s.rollBelay.nextWork = some (j, .event e) →
    s.regionOfTask e.task = some r →
    ((s.task e.task).st = .free ∨ (s.task e.task).st = .dormant) →
    ∃ t, exec .dependenceDecrement s = .next t ∧ (∀ n, t.task n = s.task n) ∧
      t.breg r = { s.breg r with drop := min ((s.breg r).drop + 1) 65535 } ∧ t.belay.ready = s.belay.ready ∧ t.belay.delay = s.belay.delay

/-- R397: a completion whose completion ring is disabled is discarded: nothing is written to the host and it stands ready no longer; its
slot becomes free and the slot's generation advances by 1 modulo 16, whether or not the command was marked by an ABORT. -/
def Obligations.DiscardedCompletion : Prop :=
  ∀ (s : State) (p : PortId) (f : FnId) (r : Ready) (rest : List Ready), s.live = true → (s.func p f).ready = r :: rest →
    (s.func p f).cq.en = false → r.rej = false →
    ∃ t, exec (.completionPost p f) s = .next t ∧ (∀ q a b, .hostWrite q a b ∉ t.out.drop s.out.length) ∧
      (∃ as, (t.func p f).ready = rest ++ as ∧ ∀ x ∈ as, ∃ i ∈ (s.hslot p f (r.tag.toNat % 4096)).aborters, x.tag = i.tag) ∧
      (t.hslot p f (r.tag.toNat % 4096)).busy = false ∧
      (t.hslot p f (r.tag.toNat % 4096)).gen = ((s.hslot p f (r.tag.toNat % 4096)).gen + 1) % 16

/-- R316: a mode change away from PAIRED is rejected while any mirrored range exists: it completes with a status other than OK and
changes nothing. -/
def Obligations.MirroredRangeHoldsPaired : Prop :=
  ∀ (s : State) (i : Issuer) (mode : Byte) (off len : Reg) (g : Region),
    s.due i 0x0200 [(8, 1, mode.toNat), (12, 4, off.toNat), (16, 4, len.toNat)] = true → s.sys.mode = 3 → mode.toNat ≠ 3 →
    g ∈ s.allRegions → g.mirrored = true → ∃ st, st ≠ stOK ∧ Answers (.modeSet i mode off len) s i st 0 s

/-- R284: slice 8 of a stack, offsets 0x8_0000_0000 to 0x8_FFFF_FFFF, is decoded in SEQ-LOCAL (order 0) whatever order the stack
has, and the stack's order applies to slices 0 to 7. -/
def Obligations.SliceEightOrder : Prop :=
  ∀ (s : State) (a : Nat),
    (0x800000000 ≤ a % 0x900000000 → s.hbmLoc a = hbmLoc 0 a) ∧
    (a % 0x900000000 < 0x800000000 → s.hbmLoc a = hbmLoc (s.stack (a / 0x900000000)).order.toNat a)
end

