-- ==== Sys2Proof/Tests/Slice0.lean ====
section
/-! SUPPORT. Tests of the model: ill-formed terms that are refused, states that meet the hypotheses of the statements, and
results taken from the tables and rules of the spec. A hypothesis that fixes a value of an uninterpreted constant of Config (a
signature that verifies, a proof of SPDM, an eye centre, a Cairn reference) has no witness here, since nothing evaluates it. -/

namespace Sys2Proof.Tests

set_option Elab.async false

open Sys2Proof Sys2Proof.Machine

/-! ### Helpers -/

/-- The state that a command leaves. -/
def after (c : Instr) (s : State) : State := match exec c s with | .next t => t | _ => s

/-- Whether a command is refused as ill-formed. -/
def ill (c : Instr) (s : State) : Bool := match exec c s with | .fault .illFormed => true | _ => false

/-- A part in full service at 4 s, its first island released, host port 0 up and its tenant created. -/
def up : State := { State.reset with
  time := 4000000000
  sys := { bootCount := 1, dstate := .service, bring := 8, full := true, islOn := [(0, true)], islSvc := [(0, true)] }
  sec := { tenants := [(0, true)], lcs := .owned }
  host := { avail := true, ports := [(0, { up := true })] } }

/-- Region 0 of tenant 0: the four clusters of island 0, one unit, 16 tasks and 4 sessions. -/
def reg0 : Region := { ten := 0, x0 := 0, y0 := 0, w := 2, h := 2, maxp := 3, units := [0], tbase := 0, tcount := 16, sbase := 0, scount := 4 }

/-- The part with that region, its cluster 0 committed. -/
def rgn : State := { up with
  sec := { up.sec with regions := [(0, some reg0)], units := [(0, some 0)], keys := [(32, some [7])] }
  belay := { regions := [(0, { base := 0, count := 16, quota := 1 })] }
  cls := [(0, { digest := some [] })] }

/-- A resident task in slot 0 with its root frame in window 0. -/
def slot0 : Slot := { task := 1, prio := 2, pc := 0, frame := some 0, base := 0, lim := 0x400, sptr := 0x80 }
def seq0 : Machine.Seq := { live := [(0, some ⟨0, .root, 0⟩)], nextAge := 1, slots := [(0, some slot0)], nest := [0], pc := 8 }

/-- The region with a sequencer. -/
def withSeq (q : Machine.Seq) : State := rgn.updSeq 0 fun _ => q

/-! ### Which terms are commands -/

def req (size : BitVec 2) (len : Fin 16) (data : List Word) : Request := ⟨0, 0, 0, len, size, 0, data⟩
def bring : BringResult := ⟨[], [], [], [], [], ⟨0⟩, []⟩

theorem test_wf_requests :
    (Instr.rd (.send (req 0 0 []))).wf ∧ ¬ (Instr.rd (.send (req 3 0 []))).wf ∧ ¬ (Instr.rd (.send (req 0 0 [1]))).wf ∧
    ¬ (Instr.rd (.send (req 1 1 []))).wf ∧ (Instr.rd (.flight 0 31)).wf ∧
    (Instr.wr (.send (req 0 1 [1, 2]))).wf ∧ ¬ (Instr.wr (.send (req 0 1 [1]))).wf ∧ ¬ (Instr.wrp (.send (req 0 0 []))).wf := by decide
theorem test_wf_pushes :
    ¬ (Instr.push (.direct 0 0 0 0 [])).wf ∧ (Instr.push (.direct 0 0 0 0 [(1, 0)])).wf ∧
    ¬ (Instr.pushp (.direct 0 0 0 0 (List.replicate 17 (1, 0)))).wf := by decide
theorem test_wf_rings : ¬ (Instr.ringEnable 0 0 .sq 0).wf ∧ (Instr.ringDisable 0 0 .sq 0).wf ∧ ¬ (Instr.ringDisable 0 0 .sq 0x80000000).wf := by decide
theorem test_wf_bytes : ¬ (Instr.descriptorConsume 0 (some [1])).wf ∧ (Instr.descriptorConsume 4 none).wf ∧ ¬ (Instr.submit []).wf ∧
    ¬ (Instr.ropeDataBlock [1]).wf ∧ ¬ (Instr.pushWindowWrite 0 0 0x1000 []).wf ∧ ¬ (Instr.telemetryWrite []).wf ∧
    ¬ (Instr.frameReceive 0 0 ⟨[1], true, true, false, false⟩).wf := by decide
theorem test_wf_bar2 : ¬ (Instr.bar2Access 0 ⟨2, none, none, 4, 0⟩).wf ∧ (Instr.bar2Access 0 ⟨4, none, none, 4, 0⟩).wf ∧
    ¬ (Instr.bar2Access 0 ⟨4, some 1, some [1, 2], 0, 0⟩).wf := by decide
theorem test_wf_findings : (Instr.bringupStep bring).wf ∧ ¬ (Instr.bringupStep { bring with islandFail := [1, 1] }).wf ∧
    ¬ (Instr.bringupStep { bring with cellFail := [(0, 0, 17)] }).wf ∧ ¬ (Instr.spareRepair 0 0 17).wf := by decide

/-! ### The queue -/

theorem test_step_front : (match step { up with pending := [.devStatus ⟨4, 0, 0⟩, .idle] } with | .next t => t.pending | _ => []) = [.idle] := by
  decide +kernel
theorem test_step_idle : (match step up with | .next t => t.time | _ => 0) = 4000000001 := by decide +kernel
theorem test_withFetchWord : Sys2Proof.decodeTableWord 32 5 = none ∧ State.reset.withFetchWord 32 5 = State.reset := by decide +kernel

/-! ### Sequencers: states that meet the hypotheses, and results from the tables of R177 -/

theorem test_seq_issues : (withSeq seq0).issues 0 = true ∧ codeOk 23 = true ∧ codeOk 24 = false ∧ fcodeOk 15 = true ∧ srcOk (.imm 0) = true ∧
    srcOk (.reg 31) = false := by decide +kernel
theorem test_add_wraps : ((after (.add 0 0 17 (.imm 0x7FFF)) (withSeq { seq0 with k := [(1, 1)] })).seq 0).winReg 0 0 = 0 := by decide +kernel
theorem test_sub_borrows : ((after (.sub 0 1 16 (.imm 1)) (withSeq seq0)).seq 0).winReg 0 1 = 0xFFFFFFFF := by decide +kernel
theorem test_shra_sign : ((after (.shra 0 1 17 (.imm 31)) (withSeq { seq0 with k := [(1, 0x80000000)] })).seq 0).winReg 0 1 = 0xFFFFFFFF := by decide +kernel
theorem test_quo_corners :
    ((after (.quo 0 1 17 (.reg 16)) (withSeq { seq0 with k := [(1, 0x80000000)] })).seq 0).winReg 0 1 = 0x80000000 ∧
    ((after (.quo 0 1 17 (.imm 0x7FFF)) (withSeq { seq0 with k := [(1, 0x80000000)] })).seq 0).winReg 0 1 = 0x7FFFFFFF ∧
    ((after (.rem 0 1 17 (.imm 2)) (withSeq { seq0 with k := [(1, 0xFFFFFFF9)] })).seq 0).winReg 0 1 = 0xFFFFFFFF := by decide +kernel
theorem test_k0_reads_zero : ((after (.movh 0 16 0xFFFF) (withSeq seq0)).seq 0).reg 16 = 0 ∧
    ((after (.movh 0 23 0xFFFF) (withSeq seq0)).seq 0).reg 23 = 0xFFFF0000 := by decide +kernel
theorem test_branch : ((after (.bz 0 16 0xFFFE) (withSeq seq0)).seq 0).pc = 4 ∧ ((after (.bnz 0 16 0xFFFE) (withSeq seq0)).seq 0).pc = 12 ∧
    ((after (.jl 0 15 0x1FFFFF) (withSeq seq0)).seq 0).pc = 8 := by decide +kernel
theorem test_memory_edges :
    (let q := ((after (.stw 0 17 16 0xFFFC) (withSeq { seq0 with k := [(1, 0x12345678)] })).seq 0); q.cause = 5 ∧ q.biv = true) ∧
    (let q := ((after (.stw 0 17 16 0x7FFC) (withSeq { seq0 with k := [(1, 0x12345678)] })).seq 0); q.dmRead 0x7FFC 4 = 0x12345678 ∧ q.pc = 12) ∧
    (let q := ((after (.ldb 0 1 16 3) (withSeq { seq0 with dmem := [(3, 0x80)] })).seq 0); q.winReg 0 1 = 0xFFFFFF80) := by decide +kernel
theorem test_traps :
    ((after (.ldw 0 1 16 2) (withSeq seq0)).seq 0).cause = 6 ∧ ((after (.add 0 24 0 (.reg 0)) (withSeq seq0)).seq 0).cause = 4 ∧
    ((after (.rett 0) (withSeq seq0)).seq 0).cause = 4 ∧
    ((after (.illegalInstruction 0 (.fetch 0x10000)) (withSeq { seq0 with pc := 0x10000 })).seq 0).cause = 4 ∧
    ((after (.illegalInstruction 0 (.fetch 6)) (withSeq { seq0 with pc := 6 })).seq 0).cause = 6 := by decide +kernel
theorem test_fetch_witness : (withSeq { seq0 with pc := 0x10000 }).seqClocked 0 = true ∧ (withSeq { seq0 with pc := 0x10000 }).live = true ∧
    ((withSeq { seq0 with pc := 0x10000 }).seq 0).nest ≠ [] := by decide +kernel
theorem test_float_values : fdecode fp32 false 0x3F800000 = .fin false 0x800000 (-23) ∧
    (froundVal fp64 false false (fdecode fp64 false 0x7FEFFFFFFFFFFFFF)).1 = 0x7FEFFFFFFFFFFFFF ∧
    (froundVal fp32 false false (fdecode fp32 false 0x80000001)).1 = 0x80000001 := by decide +kernel
/-- f0 = 1.0, f1 = -2.0, f2 a quiet NaN in binary64, owned by the task in slot 0. -/
def fseq : Machine.Seq := { seq0 with f := [(0, 0x3FF0000000000000), (1, 0xC000000000000000), (2, 0x7FF8000000000000)], fpown := some 0 }
theorem test_fp_add : (sget 0 ((after (.fpadd 0 3 0 1 false) (withSeq fseq)).seq 0).f 3).toNat = 0xBFF0000000000000 := by decide +kernel
theorem test_fp_orders :
    (fseq.fval false 0).isNan = false ∧ fcompare (fseq.fval false 1) (fseq.fval false 0) < 0 ∧ fcompare (fseq.fval false 0) (fseq.fval false 1) > 0 ∧
    (fseq.fval false 2).isNan = true ∧ (sget 0 ((after (.fpmin 0 3 0 1 false) (withSeq fseq)).seq 0).f 3).toNat = 0xC000000000000000 ∧
    (sget 0 ((after (.fpmax 0 3 2 1 false) (withSeq fseq)).seq 0).f 3).toNat = 0xC000000000000000 := by decide +kernel
theorem test_fp_convert :
    ((after (.fpcvt 0 1 1 3 false) (withSeq fseq)).seq 0).winReg 0 1 = 0xFFFFFFFE ∧ ((after (.fpcvt 0 1 2 3 false) (withSeq fseq)).seq 0).winReg 0 1 = 0 ∧
    ((after (.fpcvt 0 1 1 4 false) (withSeq fseq)).seq 0).winReg 0 1 = 0 ∧
    fseq.fval false 1 = .fin true 0x10000000000000 (-51) := by decide +kernel
theorem test_fp_memory :
    (sget 0 ((after (.fpld 0 4 16 true 8) (withSeq { fseq with dmem := [(8, 1), (12, 5)] })).seq 0).f 4).toNat = 1 ∧
    ((after (.fpst 0 0 16 false 0) (withSeq fseq)).seq 0).dmRead 0 8 = 0x3FF0000000000000 := by decide +kernel
/-- The floating-point registers owned by another task, by none with a record, and by none. -/
def owned1 : Machine.Seq := { fseq with fpown := some 1, slots := [(0, some slot0), (1, some { slot0 with task := 2, base := 0x400, lim := 0x800 })] }
theorem test_fp_swap :
    owned1.top = some 0 ∧ owned1.slot 1 = some { slot0 with task := 2, base := 0x400, lim := 0x800 } ∧ slot0.stored = false ∧
    owned1.fpSwap.dmRead 0x408 8 = 0xC000000000000000 ∧ owned1.fpSwap.fpown = some 0 ∧
    (let q := { fseq with fpown := none, slots := [(0, some { slot0 with stored := true })], dmem := [(0x78, 9)] }
     (q.slot 0).map (·.stored) = some true ∧ (sget 0 q.fpSwap.f 15).toNat = 9) := by decide +kernel
/-! ### Sequencers: windows, ends, handler, events, starts -/

/-- Window 0 called window 3; r12 of the caller is 7. -/
def called : Machine.Seq := { seq0 with
  win := [(12, 7), (48, 5)], live := [(0, some ⟨0, .root, 0⟩), (3, some ⟨0, .win 0, 1⟩)], nextAge := 2, slots := [(0, some { slot0 with frame := some 3 })] }
theorem test_enter : (withSeq { seq0 with win := [(12, 7)] }).issues 0 = true ∧ seq0.top = some 0 ∧ seq0.slot 0 = some slot0 ∧ seq0.freeWin = some 1 ∧
    (let q := (after (.enter 0) (withSeq { seq0 with win := [(12, 7)] })).seq 0; q.curWin = 1 ∧ q.winReg 1 0 = 7 ∧ q.pc = 12) := by decide +kernel
theorem test_enter_full : let q := { seq0 with live := (List.range 11).map (fun w => (w, some ⟨0, .root, 0⟩)) }
    q.freeWin = none ∧ ((after (.enter 0) (withSeq q)).seq 0).cause = 1 := by decide +kernel
theorem test_leave : called.liveWin called.curWin = some ⟨0, .win 0, 1⟩ ∧
    (let q := (after (.leave 0) (withSeq called)).seq 0; q.curWin = 0 ∧ q.winReg 0 12 = 5 ∧ q.liveWin 3 = none) ∧
    (let q := { seq0 with live := [(0, some ⟨0, .spilled, 0⟩)] }; q.liveWin q.curWin = some ⟨0, .spilled, 0⟩ ∧
      ((after (.leave 0) (withSeq q)).seq 0).cause = 2) := by decide +kernel
/-- In the handler for the task in slot 0. -/
def biv : Machine.Seq := { called with biv := true, trapSlot := some 0, pc := 0xFFFFF000, tpc := 8, cause := 1, twin := 3 }
theorem test_task_ends : (withSeq seq0).isTwin 0 = false ∧ seq0.liveWin seq0.curWin = some ⟨0, .root, 0⟩ ∧
    (after (.fail 0 42) (withSeq seq0)).noc.packets.map (·.evt) = [some (.comp ⟨0, 1, 1, 42, 0⟩)] ∧
    (after (.leave 0) (withSeq seq0)).noc.packets.map (·.evt) = [some (.comp ⟨0, 1, 0, 0, 0⟩)] ∧
    (after (.failr 0 17) (withSeq { biv with k := [(1, 6)] })).noc.packets.map (·.evt) = [some (.comp ⟨0, 1, 6, 0, 0⟩)] ∧
    ((after (.done 0) (withSeq seq0)).seq 0).nest = [] := by decide +kernel
theorem test_spill : (withSeq biv).issues 0 = true ∧ biv.liveWin 0 = some ⟨0, .root, 0⟩ ∧ slot0.sptr + 64 ≤ slot0.lim ∧
    (let q := (after (.spillw 0 16) (withSeq biv)).seq 0; q.dmRead 0xB0 4 = 7 ∧ q.liveWin 0 = none ∧ (q.slot 0).map (·.sptr) = some 0xC0) := by decide +kernel
theorem test_fill : let q := { biv with cause := 3, live := [(3, some ⟨0, .spilled, 1⟩)], slots := [(0, some { slot0 with frame := some 3, sptr := 0xC0 })], dmem := [(0x80, 9)] }
    q.liveWin 0 = none ∧ slot0.base + 128 < 0xC0 ∧ q.cause ≠ 2 ∧ ((after (.fillw 0 16) (withSeq q)).seq 0).winReg 0 0 = 9 := by decide +kernel
theorem test_rett : biv.top = some 0 ∧ slot0.alloc = false ∧ (let q := (after (.rett 0) (withSeq biv)).seq 0; q.pc = 8 ∧ q.biv = false) := by decide +kernel
theorem test_control : ((after (.rdc 0 1 5) (withSeq { seq0 with twin := 2, cause := 4 })).seq 0).winReg 0 1 = 0x204 ∧
    ((after (.rdc 0 1 0x18) (withSeq seq0)).seq 0).winReg 0 1 = 0 ∧ ((after (.waite 0 1) (withSeq { seq0 with evp := 3 })).seq 0).pc = 12 ∧
    ((after (.waite 0 4) (withSeq { seq0 with evp := 3 })).seq 0).waiting = true ∧ ((after (.clre 0 1) (withSeq { seq0 with evp := 3 })).seq 0).evp = 2 := by
  decide +kernel
theorem test_context_requests : ((withSeq seq0).cl 0).fill = 0 ∧ ((withSeq seq0).cl 0).role ≠ 2 ∧
    ((after (.cstart 0 5) (withSeq seq0)).cl 0).sel.cmd = some (.start 5) ∧
    (let s := (withSeq seq0).updCl 0 fun k => { k with fill := 1 }; s.issues 0 = true ∧ ((after (.cpark 0) s).cl 0).sel.cmderr = true) ∧
    (let s := (withSeq seq0).updCl 0 fun k => { k with role := 2 }; s.issues 0 = true ∧ ((after (.cstart 0 5) s).cl 0).sel.cmderr = true) ∧
    ((after (.eventLine 0 7) (withSeq { seq0 with lines := [7] })).seq 0).evp = 0x80 := by decide +kernel
/-- A start that waits. -/
def start1 : StartMsg := { task := 3, prio := 5, entry := 0x100, args := [11], base := 0x1000, lim := 0x10C0 }
def full4 : Machine.Seq := { seq0 with slots := (List.range 4).map (fun i => (i, some slot0)), nest := [3, 2, 1, 0], start := some start1 }
theorem test_start : let s := withSeq { start := some start1 }
    s.live = true ∧ s.mayTake 0 = true ∧ spillOk start1.base start1.lim = true ∧ (s.seq 0).freeWin = some 0 ∧
    (let q := (after (.taskStartTaken 0) s).seq 0; q.pc = 0x100 ∧ q.winReg 0 0 = 11 ∧ q.nest = [0]) := by decide +kernel
theorem test_preemption : let s := withSeq { seq0 with start := some start1 }
    s.mayTake 0 = true ∧ (let q := (after (.preemptionTaken 0) s).seq 0; q.nest = [1, 0] ∧ (q.slot 0).map (·.pc) = some 8 ∧ q.curWin = 1) := by
  decide +kernel
theorem test_start_refused : (withSeq full4).mayTake 0 = true ∧ (List.range 4).find? (fun i => (full4.slot i).isNone) = none ∧
    (after (.preemptionTaken 0) (withSeq full4)).noc.packets.map (·.evt) = [some (.refused 0 3)] ∧
    spillOk 0x1000 0x1080 = false ∧
    (after (.taskStartTaken 0) (withSeq { start := some { start1 with lim := 0x1080 } })).noc.packets.map (·.evt) = [some (.comp ⟨0, 3, 9, 0, 0⟩)] := by
  decide +kernel

/-! ### Belay -/

/-- Issuers: the owner, and host port 0. -/
def own : Issuer := ⟨4, 0, 0⟩
def h0 : Issuer := ⟨0, 0, 0⟩
/-- A state in which a command of an issuer has been consumed with its operands. -/
def asked (s : State) (i : Issuer) (op : Nat) (ops : List Opnd) : State :=
  { s with host := { s.host with running := [{ iss := i, op := BitVec.ofNat 16 op, bytes := descBytes op 0 ops, seq := none }] } }
/-- It is due there. -/
def dueIn (s : State) (i : Issuer) (op : Nat) (ops : List Opnd) : Bool := (asked s i op ops).due i op ops
/-- What the command leaves, with the status of its completion. -/
def ends (s : State) (i : Issuer) (op : Nat) (ops : List Opnd) (c : Instr) : State := after c (asked s i op ops)
def status (s : State) (i : Issuer) : Option Byte := ((if i.owner then s.host.owner.comps else (s.func i.p i.f).ready).head?).map (·.status)

/-- Descriptor of a task of cluster 0: INIT 1. -/
def taskState (st : TState) (counter initv : Nat) : State :=
  rgn.setTask 1 { st := st, counter := counter, desc := BitVec.ofNat 272 (initv * 2 ^ 192) }
theorem test_task_fields : ((taskState .dormant 0 2).task 1).initv = 2 ∧ rgn.regionOfTask 1 = some 0 ∧ rgn.region 0 = some reg0 ∧ h0.p = 0 := by decide +kernel
theorem test_task_commands :
    dueIn (taskState .dormant 0 2) h0 0x0601 [(8, 2, 1)] = true ∧
    ((ends (taskState .dormant 0 2) h0 0x0601 [(8, 2, 1)] (.taskArm h0 1)).task 1).counter = 2 ∧
    dueIn (taskState .waiting 1 1) h0 0x0602 [(8, 2, 1)] = true ∧
    ((ends (taskState .waiting 1 1) h0 0x0602 [(8, 2, 1)] (.taskRemove h0 1)).task 1).st = .free ∧
    dueIn rgn h0 0x0603 [(8, 2, 1)] = true ∧ dueIn rgn h0 0x0604 [(8, 2, 1)] = true ∧
    (ends rgn h0 0x0604 [(8, 2, 1)] (.taskSignal h0 1)).belay.work = [.event ⟨1600, 1, 4000000000, .host 0 0 true⟩] := by decide +kernel
theorem test_task_quota :
    (rgn.breg 0).used < (rgn.breg 0).quota ∧ 0 < rgn.belay.tick ∧ dueIn (taskState .dormant 0 0) h0 0x0601 [(8, 2, 1)] = true ∧
    ((ends (taskState .dormant 0 0) h0 0x0601 [(8, 2, 1)] (.taskArm h0 1)).task 1).st = .ready ∧
    (let s := (taskState .dormant 0 0).setBreg 0 { base := 0, count := 16, quota := 1, used := 1 }
     ((ends s h0 0x0601 [(8, 2, 1)] (.taskArm h0 1)).breg 0).qheld = [1] ∧ dueIn s h0 0x0601 [(8, 2, 1)] = true) := by decide +kernel
theorem test_task_write : let d : BitVec 272 := BitVec.ofNat 272 (0x100 * 2 ^ 128)
    fld d.toNat 189 2 ≠ 3 ∧ rgn.descFault 0 d = false ∧ dueIn rgn h0 0x0600 [(8, 2, 1), (12, 34, d.toNat)] = true ∧
    ((ends rgn h0 0x0600 [(8, 2, 1), (12, 34, d.toNat)] (.taskWrite h0 1 d)).task 1).st = .dormant ∧ dueIn rgn h0 0x0603 [(8, 2, 1)] = true ∧
    status (ends rgn h0 0x0603 [(8, 2, 1)] (.taskQuery h0 1)) h0 = some 0 := by decide +kernel
theorem test_timers :
    dueIn rgn own 0x0605 [(8, 2, 1023), (10, 1, 0), (12, 2, 15), (16, 4, 3)] = true ∧ (rgn.timer 1023).period = 0 ∧
    ((ends rgn own 0x0605 [(8, 2, 1023), (10, 1, 0), (12, 2, 15), (16, 4, 3)] (.timerSet own 1023 0 15 3)).timer 1023).due = 4000003000 ∧
    ((after (.blyTmrWrite 0x210 1 false 2) rgn).timer 1).due = 4000002000 ∧ (after (.blyTmrWrite 0x210 1 true 0x3F0005) rgn).timer 1 ≠ {} ∧
    (after (.blyTmrWrite 5 1 false 2) rgn).out = [.regValue none] := by decide +kernel
theorem test_timer_expiry : let s := rgn.setTimer 1 { rgn := 0, task := 1, period := 1, due := 3999998500, periodNs := 1000 }
    (s.timer 1).region.isSome = true ∧ (s.timer 1).due ≤ s.now ∧ ((after (.timerExpiry 1) s).timer 1).due = 4000000500 ∧
    ((after (.timerExpiry 1) s).timer 1).miss = 1 := by decide +kernel
theorem test_delay_expiry : let s := { taskState .delayed 0 1 with belay := { (taskState .delayed 0 1).belay with delay := [(4000000000, 1), (4000000001, 2)] } }
    s.belay.scheme ≠ 2 ∧ (after .delayExpiry s).belay.delay = [(4000000001, 2)] ∧ ((after .delayExpiry s).task 1).st = .ready := by decide +kernel
/-- An event for task 1 waits at Belay. -/
def withEvent (s : State) : State := { s with belay := { s.belay with work := [.event ⟨1600, 1, 0, .host 0 0 true⟩] } }
theorem test_decrements : (withEvent (taskState .waiting 1 1)).rollBelay.nextWork = some (0, .event ⟨1600, 1, 0, .host 0 0 true⟩) ∧
    ((after .dependenceDecrement (withEvent (taskState .free 0 1))).breg 0).drop = 1 ∧
    ((after .dependenceDecrement (withEvent (taskState .ready 0 1))).task 1).excess = 1 ∧
    ((after .dependenceDecrement (withEvent (taskState .waiting 2 2))).task 1).counter = 1 ∧
    ((after .dependenceDecrement (withEvent (taskState .waiting 1 1))).task 1).st = .ready ∧
    ((after .dependenceDecrement (withEvent ((taskState .waiting 1 1).setBreg 0 { base := 0, count := 16 }))).breg 0).qblk = 1 := by decide +kernel
def withComp (status : Byte) (s : State) : State := { s with belay := { s.belay with work := [.comp ⟨0, 1, status, 0, 0⟩] } }
theorem test_completions : (withComp 0 (taskState .resident 0 2)).rollBelay.nextWork = some (0, .comp ⟨0, 1, 0, 0, 0⟩) ∧
    ((after .completionProcessing (withComp 0 (taskState .resident 0 2))).task 1).st = .dormant ∧
    ((after .completionProcessing (withComp 1 (taskState .resident 0 2))).breg 0).fail = 1 ∧
    (let s := (rgn.setTask 1 { st := .resident, excess := 1, desc := BitVec.ofNat 272 (3 * 2 ^ 192 + 2 ^ 188) })
     (s.task 1).rearm = true ∧ ((after .completionProcessing (withComp 0 s)).task 1).counter = 2) := by decide +kernel
theorem test_dispatch : let s := { taskState .ready 0 1 with belay := { (taskState .ready 0 1).belay with ready := [(0, [1])] } }
    s.rollBelay.nextSend = some (0, 0, 1) ∧ ((after .dispatch s).task 1).st = .resident ∧ (after .dispatch s).noc.packets.length = 1 := by decide +kernel
theorem test_retry : let s := (taskState .waiting 1 1).setBreg 0 { base := 0, count := 16, quota := 1, retry := some { since := 0, events := [⟨1600, 1, 0, .host 0 0 true⟩] }, held := [⟨1600, 1, 0, .host 0 0 true⟩] }
    s.rollBelay.laneFree (s.laneOwner 1600 1) = true ∧ ((after (.heldEventRetry 0) s).breg 0).held = [] ∧
    ((after (.heldEventRetry 0) s).task 1).st = .ready := by decide +kernel
theorem test_retry_quota : let s := ((taskState .waiting 0 0).setBreg 0 { base := 0, count := 16, quota := 1, retry := some { since := 0, tasks := [1] }, qheld := [1] })
    s.rollBelay.laneFree (s.laneOwner 0 1) = true ∧ ((after (.heldEventRetry 0) s).breg 0).qheld = [] := by decide +kernel

/-! ### Queues, sessions, movers, ports as firmware configures them -/

def cfgOps (depth base : Nat) : List Opnd := [(8, 2, 5), (10, 2, base), (12, 2, depth), (14, 1, 7), (15, 1, 2), (16, 1, 63)]
/-- Queue 5 of cluster 0. -/
def withQueue (u : Queue) : State := rgn.setQueue 5 u
def q16 : Queue := { depth := 16, prod := 6, cons := 2 }
theorem test_queue_cfg : rgn.qRegion 5 = some 0 ∧ rgn.linkTo 0 5 = none ∧ (rgn.queue (rgn.physQ 5)).en = false ∧
    dueIn rgn h0 0x0500 (cfgOps 4096 61440) = true ∧
    ((ends rgn h0 0x0500 (cfgOps 4096 61440) (.queueCfg h0 5 61440 4096 7 2 63)).queue 5).depth = 4096 ∧
    status (ends rgn h0 0x0500 (cfgOps 3 0) (.queueCfg h0 5 0 3 7 2 63)) h0 = some 9 := by decide +kernel
theorem test_queue_enable : let s := withQueue q16
    (s.cl 0).overlaps 5 = false ∧ dueIn s h0 0x0501 [(8, 2, 5)] = true ∧
    ((ends s h0 0x0501 [(8, 2, 5)] (.queueEnable h0 5)).queue 5).en = true ∧
    sget 0 ((ends s h0 0x0501 [(8, 2, 5)] (.queueEnable h0 5)).mover 0).credits 5 = 16 ∧
    (let t := withQueue { q16 with en := true, count := 3 }
     ((ends t h0 0x0502 [(8, 2, 5)] (.queueDisable h0 5)).queue 5).count = 0 ∧ dueIn t h0 0x0502 [(8, 2, 5)] = true ∧
     ends t h0 0x0501 [(8, 2, 5)] (.queueEnable h0 5) ≠ t) := by decide +kernel
theorem test_qmode : rgn.clRegion 0 0 = some 0 ∧ rgn.relCluster reg0 0 = some 0 ∧ (rgn.cl 0).liveQueues = [] ∧
    dueIn rgn h0 0x0504 [(8, 1, 0), (9, 1, 1)] = true ∧ ((ends rgn h0 0x0504 [(8, 1, 0), (9, 1, 1)] (.qmodeSet h0 0 1)).cl 0).umsyn = true := by
  decide +kernel
def fwdOps (en kind target cred : Nat) : List Opnd := [(8, 2, 5), (10, 1, 7), (11, 1, en), (12, 1, kind), (13, 1, 3), (14, 2, target), (16, 2, cred)]
theorem test_fwd_cfg : let s := (withQueue q16).setMover 63 { region := some 0 }
    s.shares 63 + 256 ≤ 256 ∧ dueIn s h0 0x0503 (fwdOps 1 1 63 256) = true ∧
    (((ends s h0 0x0503 (fwdOps 1 1 63 256) (.fwdCfg h0 5 7 1 1 3 63 256)).cl 0).fwd 7).share = 256 ∧
    (((ends s h0 0x0503 (fwdOps 1 0 6 0) (.fwdCfg h0 5 7 1 0 3 6 0)).cl 0).fwd 7).en = true ∧
    (let t := s.updCl 0 fun k => k.setFwd 7 { en := true, mover := true, share := 9, cred := 2 }
     (((ends t h0 0x0503 (fwdOps 0 0 6 0) (.fwdCfg h0 5 7 0 0 3 6 0)).cl 0).fwd 7).owing = 7) := by decide +kernel
def ruleOps (key : Nat) : List Opnd := [(8, 2, 3), (10, 1, 9), (11, 1, 4), (12, 2, 5), (16, 32, key)]
theorem test_session_rule : let s := withQueue { q16 with prod := 3 }
    s.sessRegion 3 = some 0 ∧ (s.queue (s.physQ 5)).prod = 3 ∧ dueIn s h0 0x0400 (ruleOps (2 ^ 192 + 7)) = true ∧
    ((ends s h0 0x0400 (ruleOps (2 ^ 192 + 7)) (.sessionRule h0 3 9 4 5 (2 ^ 192 + 7))).sess 3).rule = some ⟨1, 1, 4, 7, 5⟩ ∧
    dueIn s h0 0x0401 [(8, 2, 3)] = true := by decide +kernel
theorem test_session_shape : dueIn rgn h0 0x0402 [(8, 2, 3), (12, 4, 400000), (16, 4, 9600)] = true ∧
    ((ends rgn h0 0x0402 [(8, 2, 3), (12, 4, 400000), (16, 4, 9600)] (.sessionShape h0 3 400000 9600)).sess 3).next = some (400000, 9600) ∧
    status (ends rgn h0 0x0402 [(8, 2, 3), (12, 4, 1), (16, 4, 9599)] (.sessionShape h0 3 1 9599)) h0 = some 9 := by decide +kernel
theorem test_mover_assign : dueIn rgn own 0x0800 [(8, 1, 63), (9, 1, 0)] = true ∧
    ((ends rgn own 0x0800 [(8, 1, 63), (9, 1, 0)] (.moverAssign own 63 0)).mover 63).region = some 0 ∧
    (let s := rgn.setMover 63 { region := some 0 }
     ((ends s own 0x0800 [(8, 1, 63), (9, 1, 0xFF)] (.moverAssign own 63 0xFF)).mover 63).region = none ∧
     dueIn s own 0x0800 [(8, 1, 63), (9, 1, 0xFF)] = true) := by decide +kernel
theorem test_mover_post : let s := rgn.setMover 1 { region := some 0, dfull := true }
    dueIn s h0 0x0805 [(8, 1, 1), (16, 32, 5)] = true ∧ ((ends s h0 0x0805 [(8, 1, 1), (16, 32, 5)] (.moverPost h0 1 5)).mover 1).descs = [5] ∧
    ((ends s h0 0x0806 [(8, 1, 1)] (.moverStatus h0 1)).mover 1).dfull = false ∧ dueIn s h0 0x0806 [(8, 1, 1)] = true ∧
    (let t := rgn.setMover 1 { region := some 0, descs := List.replicate 16 0 }
     16 ≤ (t.mover 1).dpend ∧ ((ends t h0 0x0805 [(8, 1, 1), (16, 32, 5)] (.moverPost h0 1 5)).mover 1).dfull = true) := by decide +kernel
theorem test_ports : let s := (withQueue { q16 with prod := 4 }).setPort 0 { up := true, bar2 := 1 }
    dueIn s h0 0x0801 [(8, 1, 0)] = true ∧ ((ends s h0 0x0801 [(8, 1, 0)] (.bar2Bind h0 0)).port 0).bound = some 0 ∧
    dueIn s h0 0x0801 [(8, 1, 0xFF)] = true ∧ ((ends s h0 0x0801 [(8, 1, 0xFF)] (.bar2Bind h0 0xFF)).port 0).bound = none ∧
    dueIn s h0 0x0802 [(8, 1, 31), (10, 2, 5)] = true ∧
    sget none ((ends s h0 0x0802 [(8, 1, 31), (10, 2, 5)] (.pushwinBind h0 31 5)).func 0 0).pwq 31 = some 5 ∧
    dueIn s h0 0x0802 [(8, 1, 31), (10, 2, 0xFFFF)] = true := by decide +kernel
theorem test_port_cfg : dueIn rgn own 0x0803 [(8, 1, 7), (9, 1, 2), (12, 4, 0), (16, 4, 0)] = true ∧ rgn.sasOf (rgn.staged 0 0) = [].map some ∧
    ((ends rgn own 0x0803 [(8, 1, 7), (9, 1, 2), (12, 4, 0), (16, 4, 0)] (.portCfg own 7 2 0 0)).eth 7).newSas = some [] ∧
    ((ends rgn own 0x0803 [(8, 1, 7), (9, 1, 2), (12, 4, 0), (16, 4, 0)] (.portCfg own 7 2 0 0)).eth 7).split = 2 ∧
    dueIn rgn own 0x0804 [(8, 1, 7)] = true ∧ (ends rgn own 0x0804 [(8, 1, 7)] (.ptpSource own 7)).ext.ptp.src = some 7 ∧
    dueIn rgn own 0x0804 [(8, 1, 0xFF)] = true := by decide +kernel

/-! ### Device, loads, life cycle -/

theorem test_device_due : ∀ op ∈ [(0x0100 : Nat), 0x0101, 0x0102, 0x0905, 0x0B01, 0x0B04], dueIn up own op [] = true := by decide +kernel
theorem test_time_step : dueIn up own 0x0103 [(8, 8, 4000000000)] = true ∧
    (ends up own 0x0103 [(8, 8, 4000000007)] (.timeStep own 4000000007)).time = 4000000007 ∧
    status (ends up own 0x0103 [(8, 8, 3999999999)] (.timeStep own 3999999999)) own = some 0x0F := by decide +kernel
theorem test_tick_set : dueIn up own 0x0201 [(8, 4, 250)] = true ∧ (ends up own 0x0201 [(8, 4, 250)] (.tickSet own 250)).belay.tick = 250 ∧
    status (ends up own 0x0201 [(8, 4, 249)] (.tickSet own 249)) own = some 9 ∧
    status (ends up own 0x0201 [(8, 4, 1000001)] (.tickSet own 1000001)) own = some 9 := by decide +kernel
theorem test_stage : dueIn up own 0x0A00 [(8, 4, 0x3FFFE0), (12, 32, 5)] = true ∧
    sget 0 (ends up own 0x0A00 [(8, 4, 0x3FFFE0), (12, 32, 5)] (.stage own 0x3FFFE0 5)).rel.stage 0x3FFFE0 = 5 ∧
    dueIn up own 0x0A03 [(8, 1, 63), (9, 1, 2)] = true ∧ (ends up own 0x0A03 [(8, 1, 63), (9, 1, 2)] (.ropeCtl own 63 2)).loader.rope.listen = false ∧
    (let s := { up with sys := { up.sys with straps := 0x100 } }
     s.sys.bootSrc = 1 ∧ (ends s own 0x0A03 [(8, 1, 63), (9, 1, 2)] (.ropeCtl own 63 2)).loader.rope.listen = true) := by decide +kernel
theorem test_event_log : dueIn up own 0x0904 [(8, 4, 0)] = true ∧ (up.rel.log[0]?).isSome = true ∧ up.rel.log.length ≤ 1 ∧
    (ends up own 0x0904 [(8, 4, 0)] (.eventLog own 0)).host.owner.comps.map (·.result) = [0x00620001 * 2 ^ 64] ∧
    status (ends up own 0x0904 [(8, 4, 1)] (.eventLog own 1)) own = some 0x13 := by decide +kernel
theorem test_abort : let s := { asked up own 0x0104 [(8, 2, 7)] with host := { (asked up own 0x0104 [(8, 2, 7)]).host with
      running := (asked up own 0x0104 [(8, 2, 7)]).host.running ++ [{ iss := ⟨4, 0, 7⟩, op := 0x0305, bytes := [], seq := none }]
      owner := { slots := [(7, { busy := true })] } } }
    s.due own 0x0104 [(8, 2, 7)] = true ∧ (s.hslot 4 0 7).busy = true ∧ ((after (.abort own 7) s).hslot 4 0 7).aborters = [own] ∧
    status (ends up own 0x0104 [(8, 2, 7)] (.abort own 7)) own = some 0x13 := by decide +kernel
theorem test_loads : dueIn rgn h0 0x0306 [(8, 1, 0), (16, 8, 64), (24, 4, 9)] = true ∧ (rgn.ctx 0).busy = false ∧
    ((ends rgn h0 0x0306 [(8, 1, 0), (16, 8, 64), (24, 4, 9)] (.regionLoad h0 0 64 9)).ctx 0).base = 64 ∧
    (let s := rgn.setCtx 0 { busy := true }
     status (ends s h0 0x0306 [(8, 1, 0), (16, 8, 64), (24, 4, 9)] (.regionLoad h0 0 64 9)) h0 = some 0x12 ∧
     dueIn s h0 0x0306 [(8, 1, 0), (16, 8, 64), (24, 4, 9)] = true) := by decide +kernel
theorem test_full_load : dueIn up own 0x0A02 [(8, 1, 1), (12, 4, 0), (16, 4, 0x400000)] = true ∧
    ((ends up own 0x0A02 [(8, 1, 1), (12, 4, 0), (16, 4, 0x400000)] (.fullLoad own 1 0 0x400000)).ctx 4).busy = true ∧
    dueIn up own 0x0A02 [(8, 1, 0), (12, 4, 0), (16, 4, 8)] = true := by decide +kernel
/-- The part in another life-cycle state, without tenants. -/
def inLcs (l : Lcs) (n : Nat) : State := { up with sec := { lcs := l, dbgcnt := n } }
theorem test_life_cycle : dueIn (inLcs .blank 0) own 0x0B00 [(12, 4, 0), (16, 4, 4)] = true ∧ dueIn (inLcs .provisioned 0) own 0x0B01 [] = true ∧
    (let s := ends (inLcs .provisioned 0) own 0x0B01 [] (.lcSeal own)
     s.sec.trans = some { dest := .owned, issuer := own, posted := 4000000000 } ∧ s.sec.lcs = .provisioned ∧ (s.record own).isSome = true ∧
     (after (.lcSeal own) s).sec.lcs = .owned ∧ status (after (.lcSeal own) s) own = some 0) ∧
    dueIn (inLcs .provisioned 14) own 0x0B03 [(12, 4, 0), (16, 4, 4)] = true ∧
    (inLcs .provisioned 14).sec.dbgcnt < 15 ∧ dueIn (inLcs .provisioned 15) own 0x0B03 [(12, 4, 0), (16, 4, 4)] = true ∧
    (ends (inLcs .debug 1) own 0x0B04 [] (.lcDebugExit own)).sec.trans.map (·.dest) = some .provisioned ∧ dueIn (inLcs .provisioned 0) own 0x0B05 [(8, 4, 1)] = true ∧
    dueIn (inLcs .owned 0) own 0x0B02 [] = true ∧ (∀ t, t < 4 → (inLcs .owned 0).tenant t = false) ∧
    (ends (inLcs .owned 0) own 0x0B02 [] (.lcUnseal own)).sec.trans.map (·.dest) = some .provisioned := by decide +kernel
theorem test_keys_due : dueIn (inLcs .debug 0) own 0x0B06 [(12, 4, 0), (16, 4, 4)] = true ∧ dueIn (inLcs .provisioned 0) own 0x0B07 [(12, 4, 0), (16, 4, 4)] = true ∧
    dueIn rgn h0 0x030A [(8, 8, 64), (16, 4, 2689), (20, 24, 5)] = true ∧ (rgn.port 0).up = true ∧ dueIn up own 0x0A01 [(12, 4, 0), (16, 4, 4)] = true := by
  decide +kernel
theorem test_svn : dueIn up own 0x030B [(8, 4, 3)] = true ∧ (ends up own 0x030B [(8, 4, 3)] (.svnRaise own 3)).sec.owner.svn = 3 ∧
    dueIn rgn h0 0x030B [(8, 4, 3)] = true ∧ ((ends rgn h0 0x030B [(8, 4, 3)] (.svnRaise h0 3)).signer 0).svn = 3 ∧
    (let s := rgn.setSigner 0 { svn := 4 }; status (ends s h0 0x030B [(8, 4, 3)] (.svnRaise h0 3)) h0 = some 9) := by decide +kernel
theorem test_restart : (after (.scaethRestart .watchdog) up).host.avail = false ∧
    (let s := { up with host := { up.host with avail := false }, rel := { up.rel with update := some (own, 3950000000) } }
     3950000000 + 50000000 ≤ s.now ∧ (after .fwUpdateTimeout s).rel.update = none ∧ (after .fwUpdateTimeout s).rel.slot = !s.rel.slot) ∧
    (let s := asked { up with host := { up.host with avail := false } } own 0x0A01 []
     (∀ x ∈ s.host.running, x.loading = false) ∧ s.sys.change = none ∧ (after .mailboxReturn s).host.avail = true ∧
     status (after .mailboxReturn s) own = some 0x16) := by decide +kernel
theorem test_tenants : dueIn (inLcs .owned 0) own 0x0300 [(8, 1, 0)] = true ∧ (inLcs .owned 0).portExists 0 = true ∧
    (ends (inLcs .owned 0) own 0x0300 [(8, 1, 0)] (.tenantCreate own 0)).tenant 0 = true ∧ dueIn up own 0x0301 [(8, 1, 0)] = true ∧
    (ends up own 0x0301 [(8, 1, 0)] (.tenantEvict own 0)).tenant 0 = false := by decide +kernel
theorem test_region_settings : dueIn rgn own 0x0305 [(8, 1, 0), (9, 1, 1)] = true ∧ dueIn rgn own 0x0307 [(8, 1, 0), (10, 2, 9)] = true ∧
    ((ends rgn own 0x0307 [(8, 1, 0), (10, 2, 9)] (.quotaSet own 0 9)).breg 0).quota = 9 ∧ dueIn rgn own 0x0308 [(8, 1, 0), (9, 1, 3)] = true ∧
    status (ends rgn own 0x0305 [(8, 1, 0), (9, 1, 2)] (.regionInfo own 0 2)) own = some 9 ∧
    status (ends rgn own 0x0307 [(8, 1, 64), (10, 2, 9)] (.quotaSet own 64 9)) own = some 9 := by decide +kernel
def mask255 : BitVec 256 := BitVec.ofNat 256 (2 ^ 255)
theorem test_standby : let m := mask255.toNat
    (List.range 256).filter (fun c => mask255.getLsbD c) = [255] ∧ rgn.regionOf 255 = none ∧ dueIn rgn own 0x0309 [(8, 32, m)] = true ∧
    (ends rgn own 0x0309 [(8, 32, m)] (.standbySet own mask255)).sec.standby = [255] := by decide +kernel
/-- Stack M0 in service. -/
def hbm0 : Hbm := { stks := [(0, { insvc := true })], pcs := (List.range 32).map (fun i => (i, { st := .service })) }
def rgnHbm : State := { rgn with hbm := hbm0 }
def upHbm : State := { up with hbm := hbm0 }
def alloc1 : AllocOp := ⟨0, 0, 0, 1, 1, 3, 1, 4, 2, 1, 1, 0⟩
theorem test_alloc : dueIn upHbm own 0x0302 (allocOpnds alloc1) = true ∧ (upHbm.allocate alloc1).isSome = true ∧
    (∀ c ∈ rect 0 0 1 1, upHbm.clTaken c = false ∧ c ∉ upHbm.loader.ownerClusters ∧ upHbm.islOn (islandOf c) = true ∧ upHbm.islSvc (islandOf c) = true) ∧
    ((ends upHbm own 0x0302 (allocOpnds alloc1) (.regionAlloc own alloc1)).region 0).map (·.tcount) = some 4 := by decide +kernel
theorem test_release : dueIn rgn own 0x0304 [(8, 1, 0)] = true ∧
    (let s := { rgn with hbm := { mem := [(0x7FFFFFF, 5), (0x8000000, 6)] } }
     (ends s own 0x0304 [(8, 1, 0)] (.regionRelease own 0)).hbm.mem = [(0x8000000, 6)] ∧
     (ends s own 0x0304 [(8, 1, 0)] (.regionRelease own 0)).region 0 = none) := by decide +kernel
def sizeOps (n : Nat) : List Opnd := [(8, 1, 0), (10, 2, n), (12, 1, 1)]
theorem test_resize : dueIn rgn own 0x0303 (sizeOps 0) = true ∧ ((ends rgn own 0x0303 (sizeOps 0) (.regionResize own 0 0 1)).region 0).map (·.units) = some [] ∧
    dueIn rgn own 0x0303 (sizeOps 2) = true ∧ (rgnHbm.pickUnits 1 1).isSome = true ∧
    ((ends rgnHbm own 0x0303 (sizeOps 2) (.regionResize own 0 2 1)).region 0).map (·.units.length) = some 2 ∧ rgn.pickUnits 5000 1 = none ∧
    status (ends rgn own 0x0303 (sizeOps 5001) (.regionResize own 0 5001 1)) own = some 0x0D := by decide +kernel
def pc3 : PcOp := ⟨3, 15, 1⟩
def pcOps : List Opnd := [(8, 1, 3), (9, 1, 15), (10, 1, 1)]
theorem test_pc_commands : dueIn up own 0x0702 pcOps = true ∧ ((ends up own 0x0702 pcOps (.pcRetire own pc3)).pc 127).st = .retired ∧
    (let s := up.setPc 127 { st := .frozen, hard := 1, soft := 1 }
     dueIn s own 0x0701 (pcOps ++ [(11, 1, 1)]) = true ∧ ((ends s own 0x0701 (pcOps ++ [(11, 1, 1)]) (.pcRepair own pc3 1 true)).pc 127).hard = 0 ∧
     dueIn s own 0x0701 (pcOps ++ [(11, 1, 0)]) = true ∧ dueIn s own 0x0705 pcOps = true) ∧
    (let s := up.setPc 127 { st := .service }
     anchorPc 127 = false ∧ s.pcUsed 127 = false ∧ dueIn s own 0x0703 pcOps = true ∧
     status (ends s own 0x0703 pcOps (.pcResweep own pc3 ⟨⟨11, 64⟩, ⟨64, 64⟩, ⟨64, 64⟩, ⟨64, 64⟩⟩)) own = some 0x17 ∧
     ((ends s own 0x0703 pcOps (.pcResweep own pc3 ⟨⟨12, 64⟩, ⟨64, 64⟩, ⟨64, 64⟩, ⟨64, 64⟩⟩)).pc 127).st = .service) := by decide +kernel
theorem test_hbm_order : dueIn up own 0x0700 [(8, 1, 3), (9, 1, 3)] = true ∧ (∀ j, j < 256 → sget none up.sec.units (864 + j) = none) ∧
    ((ends up own 0x0700 [(8, 1, 3), (9, 1, 3)] (.hbmOrder own 3 3)).stack 3).order = 3 := by decide +kernel
/-- The region in PAIRED mode, mirrored or not. -/
def paired (mir : Bool) : State := { rgn with sys := { rgn.sys with mode := 3 }, sec := { rgn.sec with regions := [(0, some { reg0 with mirrored := mir })] } }
theorem test_mirror : dueIn (paired true) own 0x0704 [(8, 1, 0), (9, 1, 1)] = true ∧
    status (ends (paired true) own 0x0704 [(8, 1, 0), (9, 1, 1)] (.memMirror own 0 1)) own = some 0 ∧
    ((ends (paired true) own 0x0704 [(8, 1, 0), (9, 1, 0)] (.memMirror own 0 0)).region 0).map (·.mirrored) = some false ∧
    dueIn (paired true) own 0x0200 [(8, 1, 1), (12, 4, 0), (16, 4, 0)] = true ∧ { reg0 with mirrored := true } ∈ (paired true).allRegions ∧
    status (ends (paired true) own 0x0200 [(8, 1, 1), (12, 4, 0), (16, 4, 0)] (.modeSet own 1 0 0)) own = some 0x0B := by decide +kernel
theorem test_statistics : (∀ k ∈ [0, 1, 2, 3], dueIn up own 0x0900 [(8, 2, 0x214), (10, 1, k)] = true) ∧ dueIn up own 0x0901 [(8, 1, 255)] = true ∧
    dueIn rgn own 0x0902 [(8, 1, 0)] = true ∧ dueIn up own 0x0903 [(8, 2, 0x210), (12, 4, 1000000)] = true ∧
    (let s := up.setInit 0x214 { req := 5 }; ((ends s own 0x0900 [(8, 2, 0x214), (10, 1, 0)] (.nocStats own 0x214 0)).init 0x214).req = 0 ∧
     (ends s own 0x0900 [(8, 2, 0x214), (10, 1, 0)] (.nocStats own 0x214 0)).host.owner.comps.map (·.result) = [5]) := by decide +kernel
theorem test_mode_set : dueIn up own 0x0200 [(8, 1, 5), (12, 4, 0), (16, 4, 0)] = true ∧ up.modeTables 5 0 0 = some [] ∧
    (asked up own 0x0200 [(8, 1, 5), (12, 4, 0), (16, 4, 0)]).modeBusy own = false ∧ up.modeFits 5 [] = true ∧
    (ends up own 0x0200 [(8, 1, 5), (12, 4, 0), (16, 4, 0)] (.modeSet own 5 0 0)).sys.change.map (·.step) = some 1 := by decide +kernel
/-- A mode change at a step. -/
def changing (step mode : Nat) : State := { up with sys := { up.sys with change := some ⟨step, mode, none, [], 0⟩ } }
theorem test_mode_steps : up.sys.vdd = 750 ∧ vddOf 0 = 850 ∧ vddOf 5 = 650 ∧ (changing 2 0).outstanding = [] ∧
    (after (.modeChangeStep ⟨0⟩) (changing 2 0)).sys.vdd = 850 ∧ (after (.modeChangeStep ⟨0⟩) (changing 4 5)).sys.vdd = 650 ∧
    (after (.modeChangeStep ⟨0⟩) (changing 6 5)).sys.change = none ∧ (after (.modeChangeStep ⟨0⟩) (changing 3 5)).sys.change.map (·.step) = some 4 := by
  decide +kernel
theorem test_refused : rgn.regionOfTask 16 = none ∧ status (ends rgn h0 0x0601 [(8, 2, 16)] (.taskArm h0 16)) h0 = some 0x0A ∧
    rgn.region 1 = none ∧ status (ends rgn own 0x0307 [(8, 1, 1), (10, 2, 9)] (.quotaSet own 1 9)) own = some 9 ∧
    status (ends rgn h0 0x0601 [(8, 2, 1)] (.taskArm h0 1)) h0 = some 0x0B ∧
    (let s := { rgn with sec := { rgn.sec with regions := [(0, some { reg0 with stop := some .clusterLost })] } }
     status (ends s h0 0x0601 [(8, 2, 1)] (.taskArm h0 1)) h0 = some 0x0B) ∧
    (let s := { rgn with sec := { rgn.sec with regions := [(0, some { reg0 with ten := 1 })] } }
     status (ends s h0 0x0601 [(8, 2, 1)] (.taskArm h0 1)) h0 = some 0x0A) := by decide +kernel
theorem test_wait_end : let s := asked rgn own 0x0304 [(8, 1, 0)]
    let t := { s with host := { s.host with waits := [⟨own, .regionRelease own 0⟩], running := s.host.running.map (fun x => { x with released := true }) } }
    (t.record own).map (·.released) = some true ∧ status (after (.commandWaitEnd own) t) own = some 0x15 := by decide +kernel
/-! ### Cluster cycles -/

/-- The region with its cluster 0 as given. -/
def withCl (k : Cluster) : State := { rgn with cls := [(0, { k with digest := some [] })] }
/-- A running cluster at entry 127, whose program entries are given by number. -/
def runAt (e : Entry) (sel : Sel) (ps : List (Nat × Entry)) : State := withCl { prog := ps ++ [(127, e)], sel := { sel with run := true, entry := 127 } }
/-- Its selector after a cycle. -/
def selAfter (s : State) : Sel := ((after (.clusterCycle 0 []) s).cl 0).sel
/-- An entry of kind k for plane 1, with repeat count r, loop count n and target 5. -/
def ent (k r n : Nat) : Entry := BitVec.ofNat 64 (1 + k * 256 + 5 * 2 ^ 24 + r * 2 ^ 32 + n * 2 ^ 48)
/-- Entry 0 governs plane 3, entry 5 halts. -/
def tail : List (Nat × Entry) := [(0, 3), (5, ent 5 0 0)]
theorem test_cycle_hypotheses : (runAt 1 {} tail).live = true ∧ (runAt 1 {} tail).clocked 0 = true ∧ ((runAt 1 {} tail).cl 0).role = 0 ∧
    (∀ i, i < 16 → (((runAt 1 {} tail).cl 0).cell i).bad = []) ∧ ((runAt 1 {} tail).cl 0).stallCause = 0 := by decide +kernel
theorem test_cycle_next : selAfter (runAt (ent 0 0 0) {} tail) = { run := true, entry := 0, plane := 3 } ∧
    selAfter (runAt (ent 0 2 0) { rep := 1 } tail) = { run := true, entry := 127, rep := 2, plane := 1 } ∧
    selAfter (runAt (ent 2 0 0) {} tail) = { run := true, entry := 0, plane := 3 } ∧
    selAfter (runAt (ent 2 0 0 ||| 0x10000) {} tail) = { entry := 5, halted := true } ∧
    selAfter (runAt (ent 3 0 0) {} tail) = { entry := 5, halted := true } := by decide +kernel
theorem test_cycle_loops : selAfter (runAt (ent 4 0 2) { lc0 := 1 } tail) = { entry := 5, lc0 := 2, halted := true } ∧
    selAfter (runAt (ent 4 0 2) { lc0 := 2 } tail) = { run := true, entry := 0, plane := 3 } ∧
    selAfter (runAt (ent 4 0 2 ||| 0x40000) { lc1 := 1 } tail) = { entry := 5, lc1 := 2, halted := true } ∧
    selAfter (runAt (ent 4 0 2 ||| 0x40000) { lc1 := 2 } tail) = { run := true, entry := 0, plane := 3 } := by decide +kernel
theorem test_cycle_commands : selAfter (runAt (ent 0 0 0) { cmd := some .park } tail) = { entry := 127 } ∧
    selAfter (runAt (ent 0 0 0) { cmd := some (.start 0), lc0 := 3 } tail) = { run := true, plane := 3 } ∧
    selAfter (withCl { prog := tail, sel := { cmd := some (.start 5) } }) = { entry := 5, halted := true } ∧
    bit ((after (.clusterCycle 0 []) (withCl { prog := tail, sel := { cmd := some (.start 5) } })).seq 0).evp.toNat 8 = true := by decide +kernel
/-- Cell 0 reads an empty stream queue in plane 0, or the cluster fills. -/
theorem test_cycle_pauses : (let k := (after (.clusterCycle 0 []) (withCl { fill := 1, stalls := 0xFFFFFFFF })).cl 0
     k.fill = 0 ∧ k.stalls = 0xFFFFFFFF ∧ k.scause = 0x20) ∧
    (let k := (after (.clusterCycle 0 []) (withCl { cells := [(0, { flight := [{ plane := 0, left := 1 }], outs := [(0, 7)] })], lanes := [(0, 9)] })).cl 0
     k.lanes = [] ∧ (k.cell 0).outs = [] ∧ k.sel = {}) := by decide +kernel
theorem test_cycle_stalls : (let k := (runAt 1 {} []).cl 0
    let s := withCl { k with planes := [(1, BitVec.ofNat 512 (2 ^ 512 - 1))], sel := { k.sel with plane := 1 } }
    (s.cl 0).stallCause ≠ 0 ∧ ((after (.clusterCycle 0 []) s).cl 0).stalls = 1 ∧ ((after (.clusterCycle 0 []) s).cl 0).sel = (s.cl 0).sel) := by decide +kernel

/-! ### Accesses, commits, repairs and traffic of clusters -/

/-- An access of cluster 1 at an offset of cluster 0's window. -/
def held (off n : Nat) (d : Option (List Byte)) : Held := { who := 1, tag := 0, gen := 0, prio := 1, addr := winBase + off, nbytes := n, data := d }
def ctxBits (s : State) : List (Option CtxCmd × Bool) := [((s.cl 0).sel.cmd, (s.cl 0).sel.cmderr)]
theorem test_cell_access :
    (let s := withCl { cellWait := [held 0x7FFFF 1 (some [9])] }
     (s.cl 0).cellWait.find? (fun x => decide (x.off / 32768 = 15)) = some (held 0x7FFFF 1 (some [9])) ∧ s.islandRuns 0 = true ∧ s.writePortBusy 0 15 = false ∧
     s.clocked 0 = true ∧ (let t := after (.cellMemoryAccess 0 15) s
       (t.cl 0).cellWait = [] ∧ (t.cl 0).writing = [held 0x7FFFF 1 (some [9])] ∧ t.noc.packets = [] ∧ t.cycleGoes 0 = true ∧
       wordByte 16 ((((after (.clusterCycle 0 []) t).cl 0).cell 15)).mem 0x7FFF = 9 ∧ (after (.clusterCycle 0 []) t).noc.packets.map (·.op) = [.ack])) ∧
    (let s := { rgn with cls := [(0, { cellWait := [held 0x7FFFF 1 (some [9])] })], loader := { barrier := [0] } }
     s.clocked 0 = false ∧ (after (.cellMemoryAccess 0 15) s).noc.packets.map (fun p => (p.op, p.status)) = [(.err, 3)] ∧
     (after (.cellMemoryAccess 0 15) { s with loader := {} }).noc.packets.map (·.op) = [.ack]) ∧
    (let s := withCl { cells := [(15, { mem := [(2047, 9 * 2 ^ 120)] })], cellWait := [held 0x7FFFF 1 none] }
     s.readPortBusy 0 15 = false ∧ (after (.cellMemoryAccess 0 15) s).noc.packets.map (fun p => (p.op, p.data)) = [(.rdata, [9])]) := by decide +kernel
theorem test_dmem_access :
    (let s := withCl { dmemWait := [held 0x81FFFE 2 (some [7, 8])] }
     s.loader.barrier.contains 0 = false ∧ sget 0 ((after (.sequencerMemoryAccess 0) s).seq 0).dmem 0xFFFF = 8) ∧
    (let s := withCl { dmemWait := [held 0x810000 2 none], seq := { dmem := [(0, 3)] } }
     (after (.sequencerMemoryAccess 0) s).noc.packets.map (fun p => (p.op, p.data)) = [(.rdata, [3, 0])]) := by decide +kernel
theorem test_context_access : (withCl {}).ctxRights 0 0 = true ∧ (withCl {}).ctxRights 5 0 = false ∧
    ctxBits (after (.start 0 0 127 false) (withCl {})) = [(some (.start 127), false)] ∧ ctxBits (after (.park 0 0) (withCl {})) = [(some .park, false)] ∧
    ctxBits (after (.start 0 0 127 true) (withCl {})) = [(none, true)] ∧ ctxBits (after (.park 0 0) (withCl { fill := 1 })) = [(none, true)] ∧
    (after (.ctxCtickLoRead 0 0) (withCl { ctick := 0x100000002 })).out = [.regValue (some 2)] ∧
    ((after (.ctxCtickLoRead 0 0) (withCl { ctick := 0x100000002 })).cl 0).ctickLatch = some 1 := by decide +kernel
theorem test_commit : let s := withCl { shadow := some { mask := 5, park := true, ctx := 0, digest := [4] }, commitAt := some 4000000000,
                                        ivr := [(15, BitVec.ofNat 4224 (2 ^ 4192 + 3 * 2 ^ 4096 + 7))], preBits := [(2048, true)], cells := [(15, { stat := 2, outs := [(0, 1)] })] }
    s.islandRuns 0 = true ∧ (s.cl 0).repair = none ∧ (let n := (after (.regionCommit 0) s).cl 0
     n.live = true ∧ n.mask = 5 ∧ n.digest = some [4] ∧ n.fill = 2 ∧ n.ctick = 4000000000 ∧ n.shadow = none ∧ n.commitAt = none ∧
     n.cell 15 = { c := [(0, 7)], ap0 := 3, cond := true }) := by decide +kernel
theorem test_spare : let s := withCl { failing := [3], planes := [(48, 6)], mask := 1 }
    (s.smap 0).spared = false ∧ (let t := after (.spareRepair 0 3 16) s
     (t.cl 0).repair = some ⟨3, 4000010000⟩ ∧ sget 0 (t.cl 0).planes 56 = 6 ∧ (t.smap 0).phys = 16 ∧ (t.smap 0).lcell = 3) := by decide +kernel
theorem test_repair_pause : let s := withCl { failing := [3], repair := some ⟨3, 4000000000⟩ }
    s.inOrder 4000000000 = true ∧ ((s.cl 0).cell 3).lostWords = [] ∧ ((after (.repairPause 0 [] 0) s).cl 0).live = true ∧
    (let t := after (.repairPause 0 [] 1) s
     (t.cl 0).pause = 1 ∧ (t.cl 0).live = false ∧ (let k := (after (.clusterCycle 0 []) t).cl 0; k.live = true ∧ k.stalls = 1 ∧ k.scause = 0x20 ∧ k.repair = none)) ∧
    (let s := withCl { failing := [3], repair := some ⟨3, 4000000000⟩, cells := [(3, { mem := [(9, 7)], bad := [(9, 2)] })] }
     (((after (.repairPause 0 [] 0) s).cl 0).cell 3).mem = [] ∧ (after (.repairPause 0 [] 0) s).rel.log.map (·.code) = [0x01, 0x62]) := by decide +kernel
def lq (prod : BitVec 3) : Queue := { en := true, depth := 4, wr := 3, prod := prod, psrc := 2 }
theorem test_link_word : let w : LinkWord := ⟨31, 0, 5, 77, 3⟩
    (let s := withCl { linkWords := [w], queues := [(5, lq prodLINK)] }
     (s.cl 0).linkWords.find? (fun y => decide (y.link = 31)) = some w ∧ (s.cl 0).qFull 5 = false ∧ s.redir 0 = 0 ∧
     (let k := (after (.linkWordLanding 0 31) s).cl 0; k.linkWords = [] ∧ k.sram = [(3, 77)] ∧ (k.queue 5).count = 1 ∧ (k.queue 5).wr = 0)) ∧
    (let s := withCl { linkWords := [w], queues := [(5, lq prodHOST)] }
     ((after (.linkWordLanding 0 31) s).cl 0).queue 5 = { lq prodHOST with perr := true }) ∧
    (let s := withCl { linkCreds := [31] }; sget 0 ((after (.linkCreditArrival 0 31) s).cl 0).credits 31 = 1) := by decide +kernel
theorem test_staged : let x : Staged := ⟨127, 9, 1, prodMOVER, 2, none⟩
    (let s := withCl { staging := [x], queues := [(127, lq prodMOVER)] }
     (s.cl 0).staging.find? (fun y => decide (y.q = 127)) = some x ∧ ((after (.stagedWordEntry 127) s).cl 0).sram = [(3, 9)]) ∧
    (let s := withCl { staging := [x], queues := [(127, lq prodGPIO)] }; ((after (.stagedWordEntry 127) s).queue 127).perr = true) ∧
    (let s := withCl { staging := [x], queues := [(127, { lq prodMOVER with count := 4, ovcnt := 0xFFFF })] }
     (s.cl 0).qFull 127 = true ∧ ((after (.stagedWordEntry 127) s).queue 127).ovr = true ∧ ((after (.stagedWordEntry 127) s).queue 127).ovcnt = 0xFFFF) := by
  decide +kernel
theorem test_stale : let s := withCl { queues := [(127, { lq prodLINK with stale := 10, count := 1, staleFrom := 3999999360, sne := true, nkind := 2 })] }
    (s.cl 0).isTile 127 = false ∧ (s.queue 127).staleFrom + 640 = s.now ∧ ((after (.staleTimeout 127) s).queue 127).notices.map (·.kind) = [.stale] ∧
    s.queueRights 0 0 = true ∧ s.queueRights 5 0 = false ∧ ((after (.sqStaleWrite 0 127 0x1FFFF) s).queue 127).stale = 0xFFFF ∧
    (after (.sqStaleWrite 5 127 0) s).out = [.regValue none] := by decide +kernel
def noteTo (k : BitVec 2) : State := withCl { queues := [(5, { lq prodLINK with notices := [⟨.high, k, 9, 0, none⟩] })] }
theorem test_notice : (noteTo 1).clusterHeld 0 = false ∧ (noteTo 2).lockstep 0 = false ∧ (noteTo 3).tenantOf 0 = some 0 ∧
    (noteTo 1).noticeWaits 5 ⟨.high, 1, 9, 0, none⟩ = false ∧
    (after (.noticeDelivery 5) (noteTo 1)).noc.packets.map (·.evt) = [some (.event ⟨256, 9, 0, .queue 5⟩)] ∧
    ((after (.noticeDelivery 5) (noteTo 2)).seq 0).lines = [1] ∧
    (after (.noticeDelivery 5) (noteTo 3)).noc.packets.map (·.evt) =
      [some (.notice 0 { ring := 9, kind := .high, status := 0, code := 0, id := 5, orig := some (.queue 5) })] := by decide +kernel
def fw (mover : Bool) : Fwd := { en := true, mover := mover, target := 5, packed := [(3, 1)] }
theorem test_forward_send :
    (let s := withCl { fwds := [(7, fw true)] }
     (s.cl 0).fwdReady 7 = true ∧ s.fwdQueued 0 7 = false ∧ s.maySendReq 0 = true ∧
     (after (.forwardChannelSend 0 7) s).noc.packets.map (fun p => (p.op, p.toMover, p.addr)) = [(.pushp, true, 5)] ∧
     ((after (.forwardChannelSend 0 7) s).init 0).words = 1) ∧
    (let s := withCl { fwds := [(7, fw false)] }
     s.freeTag 0 = some 0 ∧ (after (.forwardChannelSend 0 7) s).noc.packets.map (fun p => (p.op, p.tag, p.addr)) = [(.push, 0, 5)] ∧
     (((after (.forwardChannelSend 0 7) s).init 0).tagOf 0).st = .busy) := by decide +kernel
/-! ### The network, movers and requests -/

/-- The region with a mover and host port 0 bound, its initiators assigned and its ports open. -/
def net : State := { rgnHbm with
  movers := [(0, { region := some 0 })]
  host := { rgnHbm.host with ports := [(0, { up := true, bound := some 0 })] }
  noc := { inits := [(0, { unasg := false }), (0x100, { unasg := false }), (0x200, { unasg := false })], routers := [(0, { fwLo := [(0, 1), (1, 1)] })] } }
/-- A descriptor: kind, source, destination and length. -/
def dsc (k src dst len : Nat) : BitVec 256 := BitVec.ofNat 256 (src + dst * 2 ^ 64 + len * 2 ^ 128 + k * 2 ^ 160)
def withMv (u : Mover) : State := { net with movers := [(0, { u with region := some 0 })] }
def mvRuns (d : BitVec 256) : Mover := { running := some { desc := d }, inbuf := [⟨0x0201, 1, 0, 7⟩], credits := [(5, 1)] }
theorem test_mover_post_register : net.moverRights 0 0 = true ∧ net.moverRights 5 0 = false ∧
    ((after (.sqMvpost 0 0 1) (withMv { mvd := [(7, 9)] })).mover 0).descs = [BitVec.ofNat 256 (9 * 2 ^ 224)] ∧
    ((after (.sqMvpost 0 0 1) (withMv { descs := List.replicate 16 0 })).mover 0).dfull = true ∧
    (after (.sqMvpost 5 0 1) net).out = [.regValue none] := by decide +kernel
def startSt (d : BitVec 256) : Option (Option Byte) := ((after (.moverDescriptorStart 0) (withMv { descs := [d] })).mover 0).running.map (·.status)
theorem test_mover_start : (withMv { descs := [0] }).moverMayStart 0 reg0 = true ∧ startSt (dsc 0 0 0 1) = some (some 2) ∧ startSt (dsc 6 0 0 1) = some (some 2) ∧
    startSt (dsc 1 0 0 0) = some (some 2) ∧ startSt (dsc 1 0 8 1) = some (some 1) ∧ startSt (dsc 1 0 (unitBytes - 16) 2) = some (some 1) ∧
    startSt (dsc 1 0 (unitBytes - 16) 1) = some none := by decide +kernel
theorem test_mover_words :
    (let s := withMv (mvRuns (dsc 1 0 16 2))
     s.maySendReq (moverInit 0) = true ∧ s.freeTag (moverInit 0) = some 0 ∧ s.translate (moverInit 0) 16 = some 16 ∧
     (let t := after (.moverWordTransfer 0 none) s
      (t.mover 0).running = some { desc := dsc 1 0 16 2, wait := some 0 } ∧ (t.mover 0).inbuf = [] ∧
      t.noc.packets.map (fun p => (p.op, p.chan, p.addr, p.data.take 2)) = [(.crd, 7, 0, []), (.wr, 0, 16, [1, 2])] ∧
      ((t.moverAnswer 0x100 0 0 []).mover 0).running = some { desc := dsc 1 0 16 2, moved := 1 } ∧
      ((t.moverAnswer 0x100 0 6 []).mover 0).running = some { desc := dsc 1 0 16 2, status := some 3 })) ∧
    (let s := withMv (mvRuns (dsc 1 0 unitBytes 1))
     s.translate (moverInit 0) unitBytes = none ∧ ((after (.moverWordTransfer 0 none) s).mover 0).running = some { desc := dsc 1 0 unitBytes 1, status := some 3 }) ∧
    (let s := withMv (mvRuns (dsc 2 0 64 1))
     (s.port reg0.ten).up = true ∧ (after (.moverWordTransfer 0 (some 0)) s).out.length = 1 ∧
     ((after (.moverWordTransfer 0 (some 0)) s).mover 0).running = some { desc := dsc 2 0 64 1, moved := 1, status := some 0 }) ∧
    (let s := withMv (mvRuns (dsc 3 0 3 1)); ((after (.moverWordTransfer 0 none) s).sess 3).words = [(0x0201, 1)]) := by decide +kernel
theorem test_mover_reads :
    (let s := withMv (mvRuns (dsc 4 0 5 1))
     s.moverQueue (dsc 4 0 5 1) = 5 ∧ (after (.moverWordTransfer 0 none) s).noc.packets.map (fun p => (p.op, p.addr, p.nbytes)) = [(.rd, 0, 16)] ∧
     ((after (.moverWordTransfer 0 none) s).mover 0).running = some { desc := dsc 4 0 5 1, wait := some 0 } ∧
     (let t := (withMv { mvRuns (dsc 4 0 5 1) with running := some { desc := dsc 4 0 5 1, wait := some 0 } }).moverAnswer 0x100 0 0 ((List.range 16).map (BitVec.ofNat 8))
      t.noc.packets.map (fun p => (p.op, p.addr)) = [(.pushp, 5)] ∧ t.noc.packets.flatMap (·.words) = [(0x0F0E0D0C0B0A09080706050403020100, 0)] ∧
      sget 0 (t.mover 0).credits 5 = 0 ∧ (t.mover 0).running = some { desc := dsc 4 0 5 1, moved := 1, status := some 0 })) ∧
    (let s := withMv (mvRuns (dsc 5 64 5 1))
     (after (.moverWordTransfer 0 (some 7)) s).out = [.hostRead 0 64 16] ∧ (after (.moverWordTransfer 0 (some 7)) s).noc.packets.flatMap (·.words) = [(7, 0)]) := by
  decide +kernel
theorem test_mover_done : (let u := (after (.moverCompletion 0) (withMv { running := some { desc := dsc 1 0 0 1, moved := 1, status := some 3 } })).mover 0
    u.running = none ∧ u.lastst = 3 ∧ u.mvcnt = 1 ∧ u.err = true) := by decide +kernel

def rq (a : Nat) (d : List Word) : Request := ⟨0, 31, a, 0, 0, 3, d⟩
theorem test_requests : net.maySendReq 0 = true ∧ 31 < nTags 0 ∧ ((net.init 0).tagOf 31).st = .free ∧ net.translate 0 unitBytes = none ∧ net.translate 0 16 = some 16 ∧
    net.targetPort 0 16 = (0, 1) ∧ net.fwPass 0 0 1 = true ∧ net.hbmStatus 0 16 16 = 0 ∧ reqBytes (rq 16 []) = 16 ∧ reqFormed (rq 16 []) false = true ∧
    reqFormed { rq 16 [] with size := 3 } false = false ∧ ill (.rd (.send { rq 16 [] with size := 3 })) net = true ∧
    (after (.rd (.send (rq 16 []))) net).noc.packets.map (fun p => (p.spot, p.src, p.dst, p.nowrap)) = [(.source, (0, 0), (0, 1), true)] ∧
    (after (.rd (.send (rq unitBytes []))) net).noc.packets.map (fun p => (p.op, p.status)) = [(.err, 3)] ∧
    (((after (.wr (.send (rq 16 [1]))) net).init 0).tagOf 31).st = .busy ∧ ((after (.wr (.send (rq 16 [1]))) net).init 0).words = 1 ∧
    (((after (.wrp (.send (rq 16 [1]))) net).init 0).tagOf 31).st = .free := by decide +kernel
/-- A request of cluster 0 under tag 31 that has arrived at the memory port of router 0. -/
def arrived (op : Opc) (a : Nat) (s : State) : State := { s with noc := { s.noc with packets :=
  [{ op := op, who := 0, tag := 31, prio := 3, addr := a, nbytes := 16, data := if op = .rd then [] else List.replicate 16 1, src := (0, 0), dst := s.targetPort 0 a }] } }
theorem test_arrivals :
    (arrived .rd 16 net).firstPacket (fun y => decide (y.op = .rd) && decide (y.who = 0) && decide (y.tag = 31)) = (arrived .rd 16 net).noc.packets.head? ∧
    (after (.rd (.flight 0 31)) (arrived .rd 16 net)).hbm.ports.map (fun p => p.2.map (fun h => (h.addr, h.nbytes, h.data))) = [[(16, 16, none)]] ∧
    (after (.wrp (.flight 0 31)) (arrived .wrp 16 net)).hbm.ports.map (fun p => p.2.map (·.posted)) = [[true]] ∧
    ((after (.rd (.flight 0 31)) (arrived .rd winBase net)).cl 0).cellWait.map (·.nbytes) = [16] ∧
    ((after (.rd (.flight 0 31)) (arrived .rd (winBase + 0x810000) net)).cl 0).dmemWait.map (·.nbytes) = [16] := by decide +kernel
theorem test_arrivals_closed :
    (let s := arrived .rd 16 (net.setRouter 0 {}); s.fwPass 0 0 1 = false ∧ (after (.rd (.flight 0 31)) s).noc.packets.map (fun p => (p.op, p.status)) = [(.err, 3)]) ∧
    (let s := net.setRouter 0 { fwLo := [(1, 1)], abs := [(1, 2)] }
     (after (.wr (.flight 0 31)) (arrived .wr 16 s)).noc.packets.map (·.status) = [5] ∧ (after (.wrp (.flight 0 31)) (arrived .wrp 16 s)).noc.packets = [] ∧
     ((after (.wrp (.flight 0 31)) (arrived .wrp 16 s)).router 0).pdrop = 1) ∧
    (let s := net.setRouter 0 { fwLo := [(1, 1)], pcdead := 1 }; (after (.rd (.flight 0 31)) (arrived .rd 16 s)).noc.packets.map (·.status) = [4]) := by decide +kernel
/-- The worked example of R256: cluster (14, 2) to cluster (1, 13) takes 30 NoC cycles, and a push of 16 words 4 more. -/
def example256 : State := net.sendFrom (.array 46 0) (.array 209 0) { op := .pushp, who := 46, words := List.replicate 16 (0, 0) }
theorem test_path : hops 46 209 = 8 ∧ (example256.netCycles 34).noc.packets.map (·.spot) = [.moving] ∧
    (example256.netCycles 35).noc.packets.map (fun p => (p.spot, p.headAt)) = [(.arrived, 31)] := by decide +kernel
/-- The head flit of R247. -/
theorem test_head_flit : (let p : Packet := { op := .push, who := 0x2E, tag := 5, gen := 2, prio := 1, addr := 26757, words := [(0, 3), (0, 1)], dst := (209, 0) }
    p.flits = 2 ∧ p.head = BitVec.ofNat 512 (0x13 * 2 ^ 128 + 26757 * 2 ^ 64 + 1 * 2 ^ 48 + 209 * 2 ^ 32 + 2 * 2 ^ 28 + 5 * 2 ^ 20 + 0x2E * 2 ^ 8 + 3 * 2 ^ 4 + 1)) := by
  decide +kernel
/-- Queue 5 takes remote pushes, one place free. -/
def rmt : State := { net with cls := [(0, { digest := some [], queues := [(5, { lq prodREMOTE with count := 3 })] })] }
theorem test_push : rmt.redir 0 = 0 ∧ rmt.fwPass 0 0 0 = true ∧ (rmt.router 0).absOf 0 = 0 ∧ rmt.islOn 0 = true ∧ rmt.pushAllowed 0 5 = true ∧
    (after (.push (.direct 0 31 0 5 [(8, 0), (9, 0)])) rmt).noc.packets.map (fun p => (p.op, p.tag, p.addr, p.words)) = [(.push, 31, 5, [(8, 0), (9, 0)])] ∧
    ill (.push (.direct 0 31 0 5 [])) rmt = true ∧ ill (.pushp (.direct 0x200 31 0 5 [])) rmt = true := by decide +kernel
/-- A push of cluster 0 for a queue of its own cluster that has arrived, its words staged one by one. -/
def pushed (op : Opc) (q : Nat) (s : State) : State :=
  { s with noc := { s.noc with packets := [{ op := op, who := 0, tag := 31, addr := q, id := 9, words := [(8, 0), (9, 0)], prod := prodREMOTE }] } }
theorem test_push_staged : let s := after (.push (.flight 0)) (pushed .push 5 rmt)
    let t := after (.stagedWordEntry 5) s
    let u := after (.stagedWordEntry 5) t
    (rmt.verdict { op := .push, who := 0 } = 0 ∧ (s.cl 0).staging = [⟨5, 8, 0, prodREMOTE, 0, some 9⟩, ⟨5, 9, 0, prodREMOTE, 0, some 9⟩]) ∧
    ((t.cl 0).sram = [(3, 8)] ∧ t.noc.packets = [] ∧ (t.cl 0).pushes.map (fun p => (p.left, p.pushed)) = [(1, 1)]) ∧
    ((u.queue 5).ovcnt = 1 ∧ u.noc.packets.map (fun p => (p.op, p.status, p.count)) = [(.pushack, 0, 1)] ∧ (u.cl 0).pushes = []) := by decide +kernel
theorem test_push_refused : rmt.pushAllowed 0 6 = false ∧ (after (.push (.flight 0)) (pushed .push 6 rmt)).noc.packets.map (fun p => (p.op, p.status)) = [(.err, 7)] ∧
    (let x : Packet := { op := .push, who := 0, addr := 5, words := [(8, 0)] }
     let s := { rgnHbm with noc := { packets := [x] } }
     s.firstPacket (fun y => decide (y.op = .push) && decide (y.who = 0)) = some x ∧ s.verdict x = 3 ∧
     (after (.push (.flight 0)) s).noc.packets.map (fun p => (p.op, p.status)) = [(.err, 3)]) ∧
    (let s := { rmt with cls := [(0, { (rmt.cl 0) with staging := List.replicate 63 ⟨9, 0, 0, prodREMOTE, 0, none⟩ })] }
     after (.push (.flight 0)) (pushed .push 5 s) = pushed .push 5 s ∧ after (.pushp (.flight 0)) (pushed .pushp 5 s) = pushed .pushp 5 s) := by decide +kernel
theorem test_pushp : isHost 0x200 = true ∧ (after (.pushp (.direct 0x200 0 0 5 [(8, 2)])) rmt).noc.packets.map (fun p => (p.op, p.prod, p.src, p.dst)) =
      [(.pushp, prodHOST, (hubA 0, 3), (0, 0))] ∧
    ((after (.pushp (.flight 0)) (pushed .pushp 5 rmt)).cl 0).staging.map (fun w => (w.w, w.push)) = [(8, none), (9, none)] ∧
    (let s := { net with noc := { net.noc with packets := [{ op := .pushp, who := 0, toMover := true, addr := 63, chan := 7, words := [(8, 2)] }] } }
     s.verdict { op := .pushp, who := 0, toMover := true, addr := 63, chan := 7, words := [(8, 2)] } = 0 ∧ ((after (.pushp (.flight 0)) s).mover 63).inbuf = [⟨8, 2, 0, 7⟩]) ∧
    (let s := pushed .pushp 5 (rmt.setRouter 0 { fwLo := [(0, 1)], abs := [(0, 1)] })
     ((after (.pushp (.flight 0)) s).router 0).pdrop = 1 ∧ (after (.pushp (.flight 0)) s).noc.packets = []) := by decide +kernel
def flying (p : Packet) (k : Cluster) : State := { withCl k with noc := { packets := [{ p with verdict := some 0 }] } }
theorem test_credit : sget 0 ((after (.crd 0) (flying { op := .crd, who := 0, toMover := true, chan := 63, addr := 5, count := 2 } {})).mover 63).credits 5 = 2 ∧
    (let s := flying { op := .crd, who := 0, chan := 7, addr := 0, count := 2 } { fwds := [(7, { fw true with share := 3, cred := 1 })] }
     s.redir 0 = 0 ∧ (((after (.crd 0) s).cl 0).fwd 7).cred = 3) := by decide +kernel
theorem test_evt : (after (.evt 0) (flying { op := .evt, who := 0, evt := some (.event ⟨256, 1, 0, .queue 5⟩) } {})).belay.work = [.event ⟨256, 1, 4000000000, .queue 5⟩] ∧
    (after (.evt 0) (flying { op := .evt, who := 0, evt := some (.comp ⟨0, 1, 0, 0, 0⟩) } {})).belay.work = [.comp ⟨0, 1, 0, 0, 4000000000⟩] ∧
    ((after (.evt 0) (flying { op := .evt, who := 0, evt := some (.start 0 start1) } {})).seq 0).start = some start1 ∧
    (flying { op := .evt, who := 0, evt := some (.start 0 start1) } {}).lockstep 0 = false := by decide +kernel
/-- Tag 31 of cluster 0 as given, and a response to it. -/
def tagged (g : Tag) (x : BitVec 2) : State := { net with noc := { net.noc with
  inits := [(0, { tags := [(31, g)] })], packets := [{ op := .rdata, who := 0, tag := 31, gen := x, dst := (256, 3), data := List.replicate 17 0 }] } }
theorem test_responses :
    (let t := after (.rdata 0 31 64) (tagged { st := .busy, gen := 2 } 2)
     ((t.init 0).tagOf 31).st = .free ∧ (t.init 0).answers.length = 1 ∧ (t.init 0).words = 2 ∧ (t.init 0).hist = [(1, 1)] ∧ (t.init 0).lmax = 64) ∧
    (after (.rdata 0 31 63) (tagged { st := .busy, gen := 2 } 2)).noc.inits.map (fun p => p.2.hist) = [[(0, 1)]] ∧
    (after (.rdata 0 31 4095) (tagged { st := .busy, gen := 2 } 2)).noc.inits.map (fun p => p.2.hist) = [[(6, 1)]] ∧
    (after (.rdata 0 31 4096) (tagged { st := .busy, gen := 2 } 2)).noc.inits.map (fun p => p.2.hist) = [[(7, 1)]] ∧
    ((after (.rdata 0 31 0) (tagged { gen := 2, owed := 2 } 1)).init 0).late = 1 ∧ (((after (.rdata 0 31 0) (tagged { gen := 2, owed := 2 } 1)).init 0).tagOf 31).owed = 0 ∧
    ((after (.rdata 0 31 0) (tagged { gen := 2 } 1)).init 0).stray = 1 := by decide +kernel
theorem test_timeouts :
    (let t := after (.requestTimeout 0 31) (tagged { st := .busy, gen := 2, since := 3999899000 } 0)
     ((t.init 0).tagOf 31) = { st := .quar, gen := 2, owed := 4, since := 4000000000 } ∧ (t.init 0).tocnt = 1 ∧ t.noc.packets.map (·.op) = [.rdata, .torep]) ∧
    (after (.requestTimeout 0 31) (tagged { st := .busy, since := 3999901000 } 0)).noc.packets.length = 1 ∧
    (((after (.quarantineEnd 0 31) (tagged { st := .quar, gen := 2, owed := 12, since := 3999899000 } 0)).init 0).tagOf 31) = { gen := 0, owed := 12, since := 3999899000 } ∧
    (((after (.quarantineEnd 0 31) (tagged { st := .quar, gen := 2, owed := 15, since := 0 } 0)).init 0).tagOf 31).st = .quar ∧
    (let s := { net with noc := { packets := [{ op := .torep, who := 0, tag := 31, dst := (255, 3), verdict := some 0 }], routers := [(255, { toreps := [(3, 3)] })] } }
     ((after (.torep 0 31) s).router 255).pend = [.absDead 3] ∧ sget 0 ((after (.torep 0 31) s).router 255).toreps 3 = 4) := by decide +kernel
def rtr (x : Router) (k : Cluster) : State := { withCl k with noc := { routers := [(0, x)] } }
theorem test_routers : ((after (.absorbSetDead 0x210 0 3) (rtr {} {})).router 0).pend = [.absDead 3] ∧ ((after (.absorbClear 0x210 0 1 2) (rtr {} {})).router 0).pend = [.absClear 1 2] ∧
    (after (.routerSettingWrite 0 0 (.fwLo 0 1)) (rtr {} {})).out = [.regValue none] ∧
    ((after (.packetBoundaryChange 0) (rtr { pend := [.set (.fwLo 3 9)] } {})).router 0) = { fwLo := [(3, 9)] } ∧
    ((after (.packetBoundaryChange 0) (rtr { pend := [.absClear 1 2], abs := [(1, 1)], pcdead := 3 } {})).router 0) = { pcdead := 2 } ∧
    ((after (.packetBoundaryChange 0) (rtr { pend := [.absClear 0 2], abs := [(0, 2)], pcdead := 3 } {})).router 0) = { abs := [(0, 2)], pcdead := 3 } ∧
    (let t := after (.packetBoundaryChange 0) (rtr { pend := [.absDead 0] } { cellWait := [held 0 1 none], dmemWait := [{ held 0x810000 1 none with posted := true }] })
     (t.router 0).absOf 0 = 1 ∧ t.noc.packets.map (fun p => (p.op, p.status)) = [(.err, 4)] ∧ (t.cl 0).cellWait = [] ∧ (t.cl 0).dmemWait = []) := by decide +kernel
/-- The four routers of island 0 at a packet boundary. -/
def bounds (s : State) : State := [0, 1, 16, 17].foldl (fun s c => after (.packetBoundaryChange (Fin.ofNat _ c)) s) s
theorem test_fence : (let t := bounds (after (.fenceRequest 0) net)
    (t.fenceOf 0 = .requested ∧ (islandClusters 0).all (fun c => decide ((t.router c).absOf 0 = 2)) = true ∧ t.fenceDrained 0 = true ∧
      (after (.fenceAcknowledge 0) t).fenceOf 0 = .acked ∧ (after (.fenceAcknowledge 0) t).islOn 0 = false) ∧
    (let s := { t with noc := { t.noc with inits := [(0, { tags := [(0, { st := .busy })] })] } }
     s.fenceDrained 0 = false ∧ (after (.fenceAcknowledge 0) s).fenceOf 0 = .requested) ∧
    (after (.fenceAcknowledge 0) { t with sys := { t.sys with dstate := .faultSafe } }).islOn 0 = true) := by decide +kernel
def errs (n : Nat) (half : Bool) : State := rtr { lanes := [(3, { half := half, errs := List.replicate n (67, 3999000001) ++ [(67, 3999000000)] })] } {}
theorem test_lanes : ((after (.flitCrcFail 0 3) (rtr { retry := 0xFFFF } {})).router 0).retry = 0xFFFF ∧
    ((after (.laneParityError 0 3 67) (errs 6 false)).router 0).pend = [] ∧ ((after (.laneParityError 0 3 67) (errs 7 false)).router 0).pend = [.spare 3 67] ∧
    (after (.laneParityError 0 3 67) (errs 7 true)).sys.dstate = .faultSafe ∧ (after (.laneParityError 0 3 67) (errs 7 true)).sys.fscause = 3 := by decide +kernel
/-! ### HBM controllers, loads and the Rope -/

/-- PC 1 of stack 0 as given, its stack too. -/
def withPc (p : Pc) (k : Stack) : State := { rgn with hbm := { stks := [(0, k)], pcs := [(1, p)], mem := [(0x8000000, 0x5A)] } }
/-- A request of 32 bytes at the first burst of PC 1. -/
def hq (d : Option (List Byte)) : Held := { who := 0, tag := 1, gen := 0, prio := 1, addr := 0x8000000, nbytes := 32, data := d }
def hreq (d : Option (List Byte)) : HReq := { rid := 0, sub := 0, h := hq d, bursts := [0x8000000], arrive := 0, goal := 0, cls := 1 }
/-- PC 1 at the last column command of that request. -/
def atCol (d : Option (List Byte)) : State := withPc { st := .service, cycle := 3, queue := [hreq d], opens := [{ rid := 0, h := hq d, left := 1 }], acts := [{ sid := 0, bank := 0, row := 0, subs := [0], closed := true, readyAt := 1 }] } {}
theorem test_enqueue : (let s := { withPc { st := .service } {} with hbm := { (withPc { st := .service } {}).hbm with ports := [(0, [hq none])] } }
    (s.hbmLoc 0x8000000).pc = 1 ∧ (s.stack 0).order ≠ 1 ∧ ((after (.hbmRequestEnqueue 0 0) s).pc 1).queue.map (fun r => (r.bursts, r.goal, r.cls)) = [([0x8000000], 1600, 1)] ∧
     (after (.hbmRequestEnqueue 0 0) s).hbm.ports = []) ∧
    (let s := { withPc { st := .frozen } {} with hbm := { (withPc { st := .frozen } {}).hbm with ports := [(0, [hq none])] } }
     ((after (.hbmRequestEnqueue 0 0) s).pc 1).queue = []) := by decide +kernel
theorem test_schedule :
    ((after (.hbmSchedule 1 .clean) (withPc { st := .service, cycle := 7 } {})).pc 1).cycle = 8 ∧
    (let p := (after (.hbmSchedule 1 .clean) (withPc { st := .service, cycle := 3, queue := [hreq none] } {})).pc 1
     p.acts = [{ sid := 0, bank := 0, row := 0, subs := [0], readyAt := 4 + hcyc false 140 }] ∧ p.lastActs = [(4, 0)] ∧ p.trace.map (fun c => (c.stamp, c.cmd)) = [(4, 1)] ∧
     p.bankFree = [(0, 4 + hcyc false 470)]) ∧
    (let t := after (.hbmSchedule 1 .clean) (atCol (some (List.replicate 32 1)))
     memGet t.hbm.mem 0x8000000 = some 1 ∧ memGet t.hbm.mem 0x800001F = some 1 ∧ memGet t.hbm.mem 0x8000020 = none ∧ t.noc.packets.map (·.op) = [.ack] ∧ (t.pc 1).acts = []) ∧
    (let t := after (.hbmSchedule 1 .clean) (atCol none); (t.pc 1).leaving = [(45, 1, 0)] ∧ ((t.pc 1).opens.map (fun o => o.got.head?)) = [some (0, 0x5A)] ∧ (t.pc 1).queue = []) ∧
    (let o : HOpen := { rid := 0, h := hq none, left := 1, got := (List.range 32).map (fun j => (j, 7)) }
     (after (.hbmSchedule 1 .clean) (withPc { st := .service, leaving := [(1, 1, 0)], opens := [o] } {})).noc.packets.map (fun p => (p.op, p.data)) = [(.rdata, List.replicate 32 7)] ∧
     (after (.hbmSchedule 1 .clean) (withPc { st := .service, leaving := [(2, 1, 0)], opens := [o] } {})).noc.packets = []) ∧
    (let t := after (.hbmSchedule 1 (.uncorrectable 9)) (atCol none)
     (t.pc 1).st = .frozen ∧ (t.pc 1).faddr = 0x8000000 ∧ (t.router (pcRouter 1)).pend = [.pcDead 1 true] ∧ t.noc.packets.map (fun p => (p.op, p.status)) = [(.err, 6)]) := by decide +kernel
def svc : Stack := { insvc := true }
def owes (n : Nat) (q : List HReq) : Pc := { st := .service, owed := n, queue := q, due := 4000000000 }
def urgentReq : HReq := { hreq none with cls := 2 }
theorem test_refresh :
    (owes 0 [urgentReq]).urgent = true ∧ (owes 0 []).urgent = false ∧ ((after (.refreshDue 1) (withPc (owes 3 [urgentReq]) svc)).pc 1).owed = 4 ∧
    (let p := (after (.refreshDue 1) (withPc (owes 4 [urgentReq]) svc)).pc 1; p.owed = 0 ∧ p.runs = 1 ∧ p.due = 4000003900 ∧ p.trace.length = 5 ∧ p.busyUntil = 5 * hcyc false 4100) ∧
    (let p := (after (.refreshDue 1) (withPc (owes 0 []) { svc with hot := true })).pc 1; p.runs = 0 ∧ p.due = 4000001950 ∧ p.pauseOwed = true) ∧
    ((after (.refreshDue 1) (withPc { owes 0 [] with sref := true } svc)).pc 1).due = 4000003900 ∧
    ((after (.owedRefreshRun 1) (withPc (owes 1 []) svc)).pc 1).owed = 0 ∧ ((after (.owedRefreshRun 1) (withPc (owes 1 [urgentReq]) svc)).pc 1).owed = 1 := by decide +kernel
theorem test_retraining :
    (let p := (after (.retrainingPause 1 7 false true 3) (withPc { st := .service, pauseOwed := true, delays := [(7, 8)] } {})).pc 1
     p.delays = [(7, 9)] ∧ p.drift = true ∧ p.weak = [3] ∧ p.pauseOwed = false) ∧
    ((after (.retrainingPause 1 7 true false 4) (withPc { st := .service, pauseOwed := true, delays := [(7, 8)] } {})).pc 1).delays = [(7, 7)] ∧
    (let p := (after (.dqLaneRemap 1 31) (withPc { st := .service, pauseOwed := true, weak := [3] } {})).pc 1; p.dqBad = [(31, 1)] ∧ p.dqUsed = 1) ∧
    ((after (.dqLaneRemap 1 63) (withPc { st := .service, pauseOwed := true, weak := [3] } {})).pc 1).dqUsed = 0 := by decide +kernel
def economy (p : Pc) : State := { withPc p svc with sys := { up.sys with mode := 5 } }
theorem test_self_refresh :
    (economy {}).portHas 1 = false ∧ ((after (.selfRefreshEntry 1) (economy { st := .service, lastReq := 3999900000 })).pc 1).sref = true ∧
    ((after (.selfRefreshEntry 1) (economy { st := .service, lastReq := 3999900001 })).pc 1).sref = false ∧
    (let s := { economy { st := .service, sref := true, due := 3999996100 } with
       hbm := { (economy { st := .service, sref := true, due := 3999996100 }).hbm with ports := [(0, [hq none])] } }
     s.portHas 1 = true ∧ ((after (.selfRefreshExit 1) s).pc 1).due = 4000003900 ∧ ((after (.selfRefreshExit 1) s).pc 1).sref = false) := by decide +kernel
theorem test_temperature : (after (.stackTemperatureChange 0 85) (withPc {} svc)).hbm.stks = [(0, { svc with temp := 85 })] ∧
    ((after (.stackTemperatureChange 0 86) (withPc {} svc)).stack 0).hot = true ∧ ((after (.stackTemperatureChange 0 83) (withPc {} { svc with hot := true })).stack 0).hot = true ∧
    ((after (.stackTemperatureChange 0 82) (withPc {} { svc with hot := true })).stack 0).hot = false := by decide +kernel
theorem test_sweep : svc.insvc = true ∧ ((withPc {} svc).pc 1).st = .out := by decide +kernel
theorem test_training_store : (let s := withPc { st := .service, delays := [(3, 4)] } svc
    (after .trainingStore { s with hbm := { s.hbm with storedAt := some 4000000000 } }).hbm.store = [(1, [(3, 4)])]) ∧
    (let s := ((withPc { st := .service } svc).setPc 0 { st := .retired }).setPc 16 { st := .retired }
     let e : Eyes := ⟨⟨12, 64⟩, ⟨64, 64⟩, ⟨64, 64⟩, ⟨64, 64⟩⟩
     let m := after (.stackRateChange 0 ⟨e, e⟩) { s with hbm := { s.hbm with store := [(1, [(3, 4)])] } }
     let t := after (.stackRateChange 0 ⟨e, e⟩) m
     (m.stack 0).moving = true ∧ (m.stack 0).rate = false ∧ (t.stack 0).rate = true ∧ (t.pc 1).delays = [(3, 4)] ∧ (t.pc 1).stored = true ∧ (t.pc 2).st = .out) := by decide +kernel
theorem test_pc_failures : (let t := after (.commandParityError 1 ⟨9, 0⟩) (withPc { st := .service } svc)
    (t.pc 1).st = .frozen ∧ (t.pc 1).capar = true ∧ (t.pc 1).fsyn = 9 ∧ (t.router (pcRouter 1)).pend = [.pcDead 1 true] ∧ (t.pc 1).ue = 0) ∧
    ((after (.resume 0x210 1) (withPc { st := .frozen, fue := true } svc)).pc 1) = { st := .service } ∧
    ((after (.retire 0x210 1) (withPc { st := .frozen } svc)).pc 1).st = .retired ∧ (after (.resume 0 1) (withPc {} svc)).out = [.regValue none] := by decide +kernel

/-- Bytes at an offset of zeros. -/
def bytesAt (n : Nat) (xs : List (Nat × Nat)) : List Byte := xs.foldl (fun b e => b.set e.1 (BitVec.ofNat 8 e.2)) (List.replicate n 0)
/-- A signed header part: two frames, one segment of two bytes. -/
def hdr1 : List Byte := bytesAt 336 [(0x14, 1), (0x18, 2), (0x140, 2)]
/-- Its first frame, of one byte. -/
def frame1 : List Byte := (let b := bytesAt 65 [(0, 0x5A), (1, 0x46), (2, 0x52), (3, 0x4D), (16, 1), (64, 0xAB)]; b ++ toLe 4 (crc32c b))
def loading (x : LoadCtx) : State := { rgn with loader := { ctxs := [(1, { x with busy := true, path := .mailbox 0, given := 100000 })] } }
def framing : State := loading { phase := .frames, hdr := hdr1, digest := List.replicate 8 0, region := some 0 }
theorem test_frames : hdrNeed (List.replicate 256 0) = 256 ∧ (loading { phase := .header }).headerFail 1 ((loading { phase := .header }).ctx 1) (List.replicate 256 0) = some 0x03 ∧
    ((after (.loadHeader 1 (List.replicate 256 0)) (loading { phase := .header })).ctx 1).lst = 0x03000000 ∧
    frame1.length = frameNeed frame1 ∧ framing.frameFail (framing.ctx 1) frame1 = none ∧ fLAST frame1 = false ∧
    ((after (.frame 1 frame1) framing).ctx 1).segBuf = [0xAB] ∧ ((after (.frame 1 frame1) framing).ctx 1).nextFrame = 1 ∧
    framing.frameFail (framing.ctx 1) (frame1.set 64 0) ≠ none ∧ ((after (.frame 1 (frame1.set 64 0)) framing).ctx 1).busy = false := by decide +kernel
theorem test_load_ends : (let s := { framing with host := {} }
    (s.port 0).up = false ∧ ((after (.frame 1 []) s).ctx 1).lst = 0x12000000) ∧
    (let s := loading { phase := .codeWait, hdr := hdr1.set 0x20 1 }; hTCOMMIT (s.ctx 1).hdr = 1 ∧ ((after (.commitDeadline 1) s).ctx 1).lst = 0x16000000) ∧
    (after (.cfgLtklRead 0x210 1) (loading { ltk := 0x100000002 })).out = [.regValue (some 2)] ∧
    ((after (.cfgLtklRead 0x210 1) (loading { ltk := 0x100000002 })).ctx 1).ltkLatch = some 1 := by decide +kernel
theorem test_code_write : (let s := { loading { phase := .codeWait, hdr := hdr1, written := [0] } with
      cls := [(0, { shadow := some { ctx := 1, code := some [(3, 7)] } })] }
    s.openCluster 0 = true ∧ (let t := after (.codeWrite 0) s
     (t.cl 0).commitAt = some 4000010000 ∧ (t.ctx 1).tick = 4000010000 ∧ (t.ctx 1).phase = .armed ∧ (t.seq 0).imem = [(3, 7)])) := by decide +kernel
/-- A wake program of the given steps in context 4, at its first step. -/
def waking (w : List (Nat × Nat)) : State :=
  let steps := w.zipIdx.flatMap (fun (e, i) => [(0x28 + 4 * i, e.2), (0x2B + 4 * i, 16 * e.1)])
  let x : LoadCtx := { busy := true, issuer := some own, phase := .wake, written := [0], stepFrom := 3999000000,
                       hdr := bytesAt 336 ([(0x14, 1), (0x16, w.length)] ++ steps) }
  { up with loader := { barrier := [0], ctxs := [(4, x)] } }
/-- Distribution has locked by then, whatever time within its bound it took. -/
theorem test_wait_lock : (waking [(1, 9), (2, 0)]).distLocked 0 = true ∧ (waking [(1, 9), (2, 0)]).wakeLocked = true := by
  have h : (waking [(1, 9), (2, 0)]).distLocked 0 = true := decide_eq_true (le_trans (Nat.add_le_add_left (Nat.min_le_left 10000 _) _) (by decide +kernel))
  refine ⟨h, ?_⟩
  have e : hTargets ((waking [(1, 9), (2, 0)]).ctx 4).hdr = [0] := by decide +kernel
  have a : ((waking [(1, 9), (2, 0)]).openCluster 0 && (waking [(1, 9), (2, 0)]).pllLocked 0) = true := by decide +kernel
  have b : ((List.range 4).all (fun q => (waking [(1, 9), (2, 0)]).pllLocked (64 + q)) && !(waking [(1, 9), (2, 0)]).clocksStopped) = true := by decide +kernel
  simp only [State.wakeLocked, e, List.all_cons, List.all_nil, show islandOf 0 = 0 by decide]
  simp_all
theorem test_wake : (waking [(1, 9), (2, 0)]).wakeStep = some (1, 9) ∧ (waking [(1, 9), (2, 0)]).pllLocked 0 = true ∧ (after .enableWrites (waking [(2, 0), (3, 0)])).loader.barrier = [] ∧
    ((after .releaseSetreset (waking [(3, 0)])).ctx 4).tick = 3999010000 ∧ ((after .releaseSetreset (waking [(3, 0)])).cl 0).commitAt = some 3999010000 ∧
    ((after .releaseOutputs (waking [(4, 0), (2, 0)])).ctx 4).step = 1 ∧ ((after .releaseOutputs (waking [(4, 0)])).ctx 4).busy = false ∧
    (after .releaseOutputs (waking [(4, 0)])).loader.pinsFree = true ∧ ((after .delay (waking [(5, 9), (2, 0)])).ctx 4).step = 1 := by decide +kernel
theorem test_wake_lines : (let s := { waking [(6, 9), (2, 0)] with loader := { (waking [(6, 9), (2, 0)]).loader with rope := { doneo := false, donel := false } } }
    ((after (.waitDoneLine ⟨true, true⟩) s).ctx 4).step = 1 ∧ ((after (.waitDoneLine ⟨true, false⟩) s).ctx 4).lst = 0x19000000 ∧ (after (.waitDoneLine ⟨true, true⟩) s).loader.rope.donel = true) ∧
    ((after .wakeStepTimeout (waking [(6, 9)])).ctx 4).lst = 0x1A000000 ∧ ((after .ropeFaultLineLow (waking [(6, 9)])).ctx 4).lst = 0x19000000 ∧
    (let s := { waking [(1, 9)] with sys := { up.sys with islOn := [] } }; s.wakeLocked = false ∧ ((after .wakeStepTimeout s).ctx 4).lst = 0x1A000000) ∧
    up.wakeStep = none ∧ (after .ropeFaultLineLow up).loader.rope.faultl = false := by decide +kernel
def roped (r : Rope) (x : LoadCtx) : State := { up with loader := { rope := { r with listen := true }, ctxs := [(4, x)] } }
def ropeLoad : LoadCtx := { busy := true, path := .rope, phase := .frames, region := none }
def b8 : List Byte := [1, 2, 3, 4, 5, 6, 7, 8]
theorem test_rope_lock : (after .idle (roped { good := 63 } {})).loader.rope.lock = true ∧ (after .soi (roped { good := 62 } {})).loader.rope.lock = false ∧
    (after .ropeInvalidSyncHeader (roped { lock := true, recent := List.replicate 15 false } {})).loader.rope.lock = false ∧
    (after .ropeInvalidSyncHeader (roped { lock := true, recent := List.replicate 14 false } {})).loader.rope.lock = true ∧
    (after .soi up).loader.rope = {} := by decide +kernel
theorem test_rope_image : (let s := roped { lock := true } {}; s.ropeAlive = false ∧ (after .soi s).loader.rope.inimg = true ∧ (after .soi s).loader.rope.doneo = true) ∧
    (let s := roped { lock := true, inimg := true } {}; s.ropeAlive = true ∧ (after (.ropeDataBlock b8) s).loader.rope.buf = b8) ∧
    (let s := roped { lock := true, inimg := true, addressed := some false } {}; s.ropeAlive = false ∧ (after (.ropeDataBlock b8) s).loader.rope.buf = []) ∧
    (after (.ropeUnknownControl 0x55) (roped { lock := true } {})).loader.rope.rerr = 1 ∧
    (let s := roped { lock := true, inimg := true, addressed := some true } { ropeLoad with hdr := hdr1, nextFrame := 2 }
     s.ropeComplete = true ∧ (after .eoi s).loader.rope.ended = true) := by decide +kernel
theorem test_rope_ends : (let s := roped { inimg := true, addressed := some true, lastBlock := 3950000000 } ropeLoad
     ((after .ropeLockLoss s).ctx 4).lst = 0x13000000 ∧ ((after .ropeIdleTimeout s).ctx 4).lst = 0x12000000 ∧ (after .ropeIdleTimeout s).loader.rope.faulto = true) ∧
    (let s := roped { inimg := true, addressed := some true, lastBlock := 3950000001 } ropeLoad; ((after .ropeIdleTimeout s).ctx 4).busy = true) ∧
    (let s := roped { inimg := true } {}; s.ropeAddressed = false ∧ (after .ropeLockLoss s).loader.rope.addressed = some false) := by decide +kernel
/-! ### SPDM, host ports, registers -/

/-- Port 0 with the given SPDM state, and its answers. -/
def spd (v : Spdm) : State := { up with sec := { up.sec with spdm := [(0, v)] } }
def said (c : Instr) (s : State) : List Nat := (after c s).out.map (fun o => match o with | .spdm _ code _ => code | _ => 0)
theorem test_spdm_order : (spd {}).spdmServed 0 = true ∧ ({ spd {} with host := {} } : State).spdmServed 0 = false ∧ said (.getVersion 0) (spd {}) = [0x04] ∧
    said (.getCapabilities 0) (spd {}) = [0x7F] ∧ said (.getCapabilities 0) (spd { version := true }) = [0x61] ∧ said (.negotiateAlgorithms 0 []) (spd {}) = [0x7F] ∧
    ((after (.negotiateAlgorithms 0 [.secp384r1, .aes256gcm, .ecdsaP384, .sha384]) (spd { caps := true })).spdm 0).algs = true ∧
    ((after (.negotiateAlgorithms 0 [.aes256gcm, .ecdsaP384, .sha384]) (spd { caps := true })).spdm 0).algs = false := by decide +kernel
theorem test_spdm_certificates : said (.getDigests 0) (spd { algs := true }) = [0x01] ∧ said (.getCertificate 0 1) (spd { algs := true }) = [0x7F] ∧
    said (.challenge 0 []) (spd { algs := true }) = [0x03] ∧ (spd {}).measurements 0 0 = some [6] ∧ said (.getMeasurements 0 0 []) (spd { algs := true }) = [0x60] ∧
    (spd {}).measurements 0 7 = none ∧ said (.getMeasurements 0 7 []) (spd { algs := true }) = [0x7F] ∧ said (.keyExchange 0 []) (spd { algs := true }) = [0x64] ∧
    said (.keyExchange 0 []) (spd { algs := true, session := some [] }) = [0x7F] := by decide +kernel
theorem test_spdm_session : said (.heartbeat 0) (spd {}) = [0x7F] ∧ said (.heartbeat 0) (spd { session := some [] }) = [0x68] ∧ said (.finish 0 []) (spd {}) = [0x7F] ∧
    ((after (.keyUpdate 0) (spd { session := some [] })).spdm 0).updates = 1 ∧ ((after (.endSession 0) (spd { session := some [] })).spdm 0).session = none ∧
    (after (.ideKm 0 (.keyProg 3 1 [5])) (spd { session := some [] })).key 135 = some [5] ∧
    (after (.ideKm 0 (.teardown 3)) { spd { session := some [], ideStreams := [(3, 1)] } with sec := { (spd { session := some [], ideStreams := [(3, 1)] }).sec with keys := [(135, some [5])] } }).key 135 = none := by decide +kernel
def prt (v : Port) : State := { up with host := { up.host with ports := [(0, v)] } }
theorem test_links : (prt {}).portExists 0 = true ∧ ((after (.pePerstNAssert 0) (prt { up := true })).port 0) = { perst := true } ∧
    ((after (.pePerstNDeassert 0) (prt { perst := true })).port 0) = { training := true } ∧
    ((after (.hostLinkUp 0 .gt8) (prt { training := true })).port 0) = { up := true, slow := true } ∧ ((after (.hostLinkUp 0 .gt16) (prt { training := true })).port 0).slow = false ∧
    ((after (.hostLinkUp 0 .gt8) (prt { perst := true, training := true })).port 0).up = false ∧
    ((after (.hostLinkDown 0) (prt { up := true, slow := true })).port 0) = { training := true } ∧
    (after (.pePerstNAssert 0) { up with sys := { up.sys with off := true } }).host.ports = [(0, { up := true, perst := true })] := by decide +kernel
def ring (en : Bool) : Ring := { en := en, head := 3, tail := 5 }
theorem test_function_resets : (let t := after (.functionLevelReset 0 64) (prt { up := true, funcs := [(64, { sq := ring true, slots := [(9, { busy := true })] }), (1, { sq := ring true })] })
    (t.func 0 64).sq.en = false ∧ (t.func 0 64).slots = [] ∧ (t.func 0 1).sq = ring true ∧ (t.port 0).up = true) ∧
    (let t := after (.hotReset 0) (prt { up := true, funcs := [(64, { cq := ring true })] }); (t.func 0 64).cq.en = false ∧ (t.port 0).up = true) := by decide +kernel
theorem test_windows : (let w := (after (.violationWindowEnd 0) (prt { viol := { cur := 5, windows := List.replicate 63 1, win := 255 } })).vstate 0
     w.cur = 0 ∧ w.windows = 5 :: List.replicate 62 1 ∧ w.win = 256) ∧
    ((after (.violationWindowEnd 0) (prt { viol := { cur := 5, win := 256 } })).vstate 0).cur = 5 ∧
    ((after (.throttleEnd 0) (prt { viol := { cur := 1024, win := 256, throttled := some 4000000000 } })).vstate 0).throttled = some 5000000000 ∧
    ((after (.throttleEnd 0) (prt { viol := { cur := 1023, win := 256, throttled := some 4000000000 } })).vstate 0).throttled = none ∧
    ((after (.throttleEnd 0) (prt { viol := { throttled := some 4000000001 } })).vstate 0).throttled = some 4000000001 := by decide +kernel
def fn (u : Func) : State := prt { up := true, funcs := [(64, u)] }
theorem test_rings : ((after (.ringEnable 0 64 .sq 0x8000000C) (fn { sq := ring false })).func 0 64).sq = { en := true, log2 := 12 } ∧
    ((after (.ringEnable 0 64 .cq 0x8011F335) (fn { cq := ring false })).func 0 64).cq = { en := true, log2 := 5, vec := 1, ccnt := 31, ctime := 0x33 } ∧
    ((after (.ringEnable 0 64 .sq 0x8000000D) (fn { sq := ring true })).func 0 64).sq = ring true ∧
    (after (.ringEnable 0 64 .nr 0x80000004) (fn { rstp := true })).sys.pend = [.ring 0 64 .nr] ∧ ((after (.ringEnable 0 64 .nr 0x80000004) (fn { rstp := true })).func 0 64).nr = { log2 := 4 } ∧
    ((after (.ringDisable 0 64 .cq 3) (fn { cq := ring true })).func 0 64).cq = ring false := by decide +kernel
theorem test_doorbells : ((after (.mbxSqtail 0 64 15) (fn { sq := ring true })).func 0 64).sq.tail = 15 ∧ ((after (.mbxSqtail 0 64 16) (fn { sq := ring true })).vstate 0).log.map (·.kind) = [6] ∧
    ((after (.mbxCqhead 0 64 5) (fn { cq := ring true })).func 0 64).cq.head = 5 ∧ ((after (.mbxCqhead 0 64 16) (fn { cq := ring true })).vstate 0).total = 1 ∧
    ((after (.mbxNrhead 0 64 4) (fn { nr := ring true })).func 0 64).nr.head = 4 ∧ ((after (.mbxNrhead 0 64 0) (fn {})).vstate 0).total = 1 := by decide +kernel
theorem test_coalescing : (let r : Ring := { ring true with unsig := 1, unsigAt := 3999999000, ctime := 1 }
    (after (.coalescingTimeout 0 64 .cq) (fn { cq := r, msix := [(3, 1)] })).out = [.msix 0 64 0] ∧ nVec 64 > 0 ∧
     sget false ((after (.coalescingTimeout 0 64 .cq) (fn { cq := r })).func 0 64).mpend 0 = (bit ((fn { cq := r }).func 0 64 |>.msixWord 3).toNat 0) ∧
     ((after (.coalescingTimeout 0 64 .cq) (fn { cq := { r with unsigAt := 3999999001 } })).func 0 64).cq.unsig = 1) := by decide +kernel
theorem test_bar0 : (fn {}).bar0Legal 0 64 0x102 4 = false ∧ (after (.bar0Violation 0 64 0x102 4 false) (fn {})).out = [.bar0UR] ∧
    ((after (.bar0Violation 0 64 0x102 4 true) (fn {})).vstate 0).log.map (·.kind) = [7] ∧ (fn {}).bar0Legal 0 64 0x100 4 = true := by decide +kernel
/-- A DEV_STATUS descriptor with tag 9. -/
def desc9 : List Byte := [0, 1, 9, 0] ++ List.replicate 60 0
theorem test_consume : (let s := fn { sq := { ring true with head := 15 } }
    s.mayConsume 0 = true ∧ s.nextRing 0 = some 64 ∧ s.signalGoes 0 64 desc9 = false ∧ cmdInfo 0x100 = some cmdA ∧ s.authority 0 0x100 cmdA = none ∧
    (let t := after (.descriptorConsume 0 (some desc9)) s
     t.host.running.map (fun x => (x.iss, x.op)) = [(⟨0, 64, 9⟩, 0x100)] ∧ (t.func 0 64).sq.head = 0 ∧ (t.hslot 0 64 9).busy = true ∧ (t.port 0).ptr = 0 ∧ t.out = [.hostRead 0 960 64])) ∧
    (let s := { up with host := { up.host with owner := { subs := [desc9] } } }
     s.mayConsume 4 = true ∧ s.authority 4 0x100 cmdA = none ∧ (after (.descriptorConsume 4 none) s).host.running.map (·.iss) = [⟨4, 0, 9⟩]) ∧
    (let s := prt { up := true, lastTake := some 3999999751 }; s.mayConsume 0 = false) := by decide +kernel
theorem test_completion_post : (let s := fn { cq := { ring true with tail := 15, ccnt := 4, log2 := 4 }, ready := [{ tag := 9, status := 0, rej := false, result := 0 }], slots := [(9, { busy := true, marked := true, gen := 15 })] }
    (s.func 0 64).cq.room = true ∧ (let t := after (.completionPost 0 64) s
     t.out.length = 1 ∧ (t.func 0 64).cq.tail = 0 ∧ (t.func 0 64).cq.phase = false ∧ (t.func 0 64).cq.unsig = 1 ∧ t.hslot 0 64 9 = {})) ∧
    (let s := fn { ready := [{ tag := 9, status := 0, rej := false, result := 0 }] }; (after (.completionPost 0 64) s).out = [] ∧ ((after (.completionPost 0 64) s).hslot 0 64 9).gen = 1) ∧
    (let s := fn { cq := { ring true with head := 6 }, ready := [{ tag := 9, status := 0, rej := false, result := 0 }] }
     (s.func 0 64).cq.room = false ∧ ((after (.completionPost 0 64) s).func 0 64).ready.length = 1) := by decide +kernel
def noted (u : Func) : State := { fn u with noc := { hostNotices := [(0, ⟨64, .high, 0, 0, 5, none⟩)] } }
theorem test_notices : (let t := after (.hostNoticeArrival 0) (noted { nr := { ring true with ccnt := 4 } })
     t.noc.hostNotices = [] ∧ t.out = [.hostWrite 0 80 ([1, 1, 0, 0, 5, 0, 0, 0] ++ toLe 8 4000000000)] ∧ (t.func 0 64).nr.tail = 6) ∧
    ((after (.hostNoticeArrival 0) (noted {})).func 0 64).nlost = 1 ∧ (after (.hostNoticeArrival 0) (noted { nr := { ring true with head := 6 } })).noc.hostNotices.length = 1 ∧
    (let t := after (.lostNoticeEntry 0 64) (fn { nr := { ring true with ccnt := 4 }, lost := 3 })
     t.out = [.hostWrite 0 80 ([7, 1, 0, 0, 3, 0, 0, 0] ++ toLe 8 4000000000)] ∧ (t.func 0 64).lost = 0) := by decide +kernel
theorem test_windows_to_queues : (let s := fn { pwq := [(31, some 5)] }
     s.maySendReq (hostInit 0) = true ∧ (after (.pushWindowWrite 0 64 0x2FF0 (List.replicate 16 1)) s).noc.packets.map (fun p => (p.op, p.addr, p.who)) = [(.pushp, 5, 0x200)]) ∧
    (after (.bar2Access 0 ⟨0, none, none, 4, 0⟩) (prt { up := true, slow := true })).out = [.bar2UR] ∧
    (after (.bar2Access 0 ⟨0, none, none, 4, 0⟩) (prt { up := true })).out = [.bar2UR] ∧ ((after (.bar2Access 0 ⟨0, none, some [0, 0, 0, 0], 0, 0⟩) (prt { up := true })).vstate 0).total = 1 := by
  decide +kernel
def owner (o : OwnerPort) : State := { up with host := { up.host with owner := o } }
/-- A SUBMIT message, a POP of tag 9, and a completion. -/
def submit1 : List Byte := (let b := 0x11 :: desc9; b ++ toLe 4 (crc32c b))
def pop9 : List Byte := [0x44, 9, 0] ++ toLe 4 (crc32c [0x44, 9, 0])
def rdy : Ready := { tag := 9, status := 0x0A, rej := false, result := 7 }
theorem test_submit : submit1.length = 69 ∧ (after (.submit submit1) (owner {})).host.owner.subs = [desc9] ∧
    (after (.submit submit1) (owner { subs := List.replicate 64 [] })).host.owner.lastRes = 2 ∧ (after (.submit (submit1.set 1 9)) (owner {})).host.owner.lastRes = 1 ∧
    (after (.submit [0x11]) (owner {})).host.owner.lastRes = 3 ∧ ((after (.submit [0x11]) (owner {})).vstate 4).total = 1 := by decide +kernel
theorem test_owner_reads : (after (.status (0x22 :: List.replicate 13 0)) (owner { comps := [rdy], subs := [[]] })).out = [.spi (let b := [0x05, 0, 1, 0, 63, 0, 0, 0]; b ++ toLe 4 (crc32c b))] ∧
    ((after (.status [0x22]) (owner {})).vstate 4).total = 1 ∧
    (match (after (.fetch (0x33 :: List.replicate 37 0)) (owner { comps := [rdy] })).out with | [.spi e] => slice e 0 3 ++ slice e 8 2 | _ => []) = [9, 0, 0x0A, 7, 0] := by decide +kernel
theorem test_pop : slice pop9 3 4 = toLe 4 (crc32c (pop9.take 3)) ∧ (after (.pop pop9) (owner { comps := [rdy] })).out = [.ownerAlert false] ∧
    (after (.pop pop9) (owner { comps := [rdy, rdy] })).host.owner.comps = [rdy] ∧ ((after (.pop pop9) (owner { comps := [{ rdy with tag := 8 }] })).vstate 4).total = 1 ∧
    ((after (.pop [0x44]) (owner { comps := [rdy] })).vstate 4).total = 1 := by decide +kernel
def fwI : InitId := Fin.ofNat 4096 fwId
def regAt (o : Nat) : Nat := winBase + 0xF00000 + o
theorem test_registers : (let s := { withCl { queues := [(127, { lq 1 with ovcnt := 7, perr := true, hx := true, stale := 3 })], scause := 0x3F } with noc := { inits := [(0, { unasg := false })] } }
    s.redir 0 = 0 ∧ (after (.rcRead (.ctl fwI (regAt (0x40000 + 64 * 127 + 0x18)) 4)) s).out = [.regValue (some 7)] ∧
    ((after (.rcRead (.ctl fwI (regAt (0x40000 + 64 * 127 + 0x18)) 4)) s).queue 127).ovcnt = 0 ∧
    (after (.rcRead (.ctl fwI (regAt (0x40000 + 64 * 127 + 0x0C)) 4)) s).out = [.regValue (some 3)] ∧
    (let u := (after (.registerWrite (.ctl fwI (regAt (0x40000 + 64 * 127 + 0x14)) 4) 0x100) s).queue 127; u.perr = false ∧ u.hx = true) ∧
    s.tenantAt 0 0 = true ∧ isHub 0 = false ∧ s.translate 0 (regAt 0x2018) = some (regAt 0x2018) ∧
    ((after (.registerWrite (.ctl 0 (regAt 0x2018) 4) 0x21) s).cl 0).scause = 0x1E) := by decide +kernel
theorem test_register_rights : (let s := net.setPort 1 { bound := some 0 }
    s.tenantAt 0x201 0 = false ∧ s.translate 0x201 (regAt 0x40018) = some (regAt 0x40018) ∧ (after (.rcRead (.ctl 0x201 (regAt 0x40018) 4)) s).out = [.regValue none]) ∧
    (after (.rcRead (.bar0 0 64 0x154 4)) (fn { nlost := 5 })).out = [.regValue (some 5)] ∧
    ((after (.registerWrite (.bar0 0 64 0x104 4) 3) (fn { sq := { base := 9 } })).func 0 64).sq.base = 0x300000009 ∧
    ((after (.registerWrite (.bar0 0 64 0x104 4) 3) (fn { sq := { ring true with base := 9 } })).func 0 64).sq.base = 9 := by decide +kernel
/-! ### Resets, reliability, Ethernet, pins -/

def off : State := { up with sys := { up.sys with off := true } }
def inHeld (k : RKind) : State := { up with sys := { up.sys with held := some k } }
theorem test_resets : (let t := after (.coldReset true 0x3FF) off
     t.sys.dstate = .bringup ∧ t.time = 0 ∧ t.sys.straps = 0x3FF ∧ t.sys.bootCount = 2 ∧ t.sec.lcs = .owned ∧ t.sec.tenants = [(0, true)] ∧
     t.rel.log.head? = some { time := 0, boot := 2, code := 0x62, data := 0 }) ∧
    (after (.coldReset false 0) off).sys.held = some .cold ∧ (after .warmReset up).sys.held = some .warm ∧ (after .powerDown up).sys.off = true ∧
    (let t := after (.resetNRelease 5) (inHeld .warm); t.time = 4000000000 ∧ t.sys.rcause = .warm ∧ t.sys.held = none ∧ t.host.avail = false) ∧
    (let s := { up with sec := { up.sec with trans := some { dest := .owned, issuer := own, posted := 3900000000, written := true } } }
     (after .lifecycleReset s).sys.rcause = .lifecycle ∧ (after .lifecycleReset up).sys.rcause = .cold) := by decide +kernel
theorem test_trips : (let t := after .temperatureTrip up; t.sys.dstate = .faultSafe ∧ t.sys.fscause = 1 ∧ t.fenceOf 0 = .requested) ∧ (after .supplyFault up).sys.fscause = 2 ∧
    (after .securityCoreSelfCheckFail up).sys.fscause = 3 ∧ (after .thermtrip up).out = [.thermtripLow] ∧
    (let s := after .supplyFault up; (after .temperatureTrip s).sys.fscause = 2) ∧ (after .sysRefclkLoss up).sys.refclkLost = true := by decide +kernel
def booting (n : Nat) : State := { up with sys := { bring := n } }
theorem test_bringup : (after (.bringupStep bring) (booting 1)).host.avail = true ∧ (after (.bringupStep bring) (booting 1)).sys.bring = 2 ∧
    (after (.bringupStep bring) (booting 6)).sys.bring = 7 ∧ (booting 7).modeFits 1 [] = true ∧ (∀ x, x < 5 → ((booting 7).ctx x).busy = false) ∧
    (after (.bringupStep bring) (booting 7)).sys.change = some { step := 1, mode := 1, issuer := none, since := 4000000000 } ∧
    (after (.bringupStep bring) up).sys.bring = 8 := by decide +kernel
def idleIsl (mode : Nat) (since : Nat) : State := { up with sys := { up.sys with mode := mode, idleSince := [(0, since)] } }
theorem test_island_power : (idleIsl 5 3999000000).islandIdle 0 = true ∧ (after (.islandIdleTimeout 0) (idleIsl 5 3999000000)).fenceOf 0 = .requested ∧
    (after (.islandIdleTimeout 0) (idleIsl 5 3999000001)).fenceOf 0 = .none ∧ (after (.islandIdleTimeout 0) (idleIsl 1 0)).fenceOf 0 = .none ∧
    (let s := { up with sys := { up.sys with mode := 5, islOn := [], fence := [(0, .acked)], pend := [.island 0] } }
     s.islandOff 0 = true ∧ s.wantsPower 0 = true ∧ (let t := after (.islandPowerOn 0) s; t.islOn 0 = true ∧ t.fenceOf 0 = .none ∧ t.sys.pend = [])) ∧
    (let s := { fn {} with sys := { up.sys with pend := [.ring 0 64 .sq] } }
     ((after .pendingEnableRun s).func 0 64).sq.en = true ∧ (after .pendingEnableRun s).sys.pend = []) ∧
    (let s := { fn { rstp := true } with sys := { up.sys with pend := [.ring 0 64 .sq] } }
     s.enableRuns (.ring 0 64 .sq) = false ∧ (after .pendingEnableRun s).sys.pend.length = 1) := by decide +kernel
theorem test_migration : (let s := { withCl { stopped := true, mask := 5, seq := seq0 } with rel := { migq := [⟨0, 1, 0, true⟩], smap := [(0, { retired := true })] } }
    s.pairOf 0 = none ∧ s.canMigrate 0 1 = true ∧ (let t := after (.migration 0 []) s
     (t.cl 1).mask = 5 ∧ (t.cl 1).stopped = false ∧ t.seq 1 = seq0 ∧ (t.smap 1).patch = true ∧ (t.smap 1).src0 = 0 ∧ t.rel.migq = [] ∧ t.cl 0 = { stopped := true })) := by
  decide +kernel
theorem test_log_second : (after .logSecondEnd up).rel.second = 0 ∧ (after .logSecondEnd { up with rel := { suppressed := 7 } }).rel.log = [{ time := 4000000000, boot := 1, code := 0x70, data := 7 }] := by
  decide +kernel
theorem test_cairn : up.cairnIdle ⟨3, 2⟩ = true ∧ blockTwin ⟨1, 0⟩ = false ∧ (after (.cairnSlice ⟨3, 2⟩ 0 0 false true false) up).rel.notrun = 1 ∧
    (after (.cairnSlice ⟨3, 2⟩ 0 0 true false false) up).rel.notrun = 1 ∧ up.cairnIdle ⟨1, 1⟩ = true ∧ (after (.cairnSlice ⟨1, 1⟩ 0 0 true true true) up).rel = up.rel ∧
    (after .cairnPassEnd { up with rel := { pllPassed := [(0, true), (67, true)], pllBad := [(1, true)], fails := 3 } }).rel.pllActive = [(67, 1)] ∧
    (after .cairnPassEnd up).rel.passes = 1 ∧ (after (.cairnDisable 0x210) up).rel.crnEn = false ∧ (after (.cairnDisable 0) up).out = [.regValue none] := by decide +kernel
theorem test_pll : (let t := after (.islandPllFailure (.island 0)) up; t.pllActive 0 = 1 ∧ t.pllBad 0 0 = true) ∧
    (let s := { up with rel := { pllBad := [(1, true)] } }; (islandClusters 0).all (fun c => ((after (.islandPllFailure (.island 0)) s).smap c).retired) = true) ∧
    (let s := { up with rel := { pllBad := [(134, true)] } }; s.pllBad 67 0 = true) := by decide +kernel
def eth (v : Eth) : State := { rgn with ext := { eths := [(3, { v with link := [(0, true)] })] } }
def rxf (n : Nat) : RxFrame := ⟨List.replicate n 0, true, true, false, false⟩
/-- Rule of a session: EtherType 0 at any place. -/
def anyRule : Rule := { port := 3, sub := 0, profile := 0, key := 0, qid := 5 }
theorem test_eth_receive : (eth {}).ethActive = true ∧ (eth {}).ethUp 3 0 = true ∧ ((after (.frameReceive 3 0 (rxf 59)) (eth {})).eth 3).rxerr = 1 ∧
    ((after (.frameReceive 3 0 { rxf 60 with fcsOk := false }) (eth {})).eth 3).rxerr = 1 ∧ ((after (.frameReceive 3 0 (rxf 9597)) (eth {})).eth 3).rxerr = 1 ∧
    (eth {}).steer 3 0 (List.replicate 60 0) = none ∧ ((after (.frameReceive 3 0 (rxf 60)) (eth {})).eth 3).noMatch = 1 ∧
    (after (.frameReceive 3 0 { rxf 60 with pause := true }) (eth {})).ext = (eth {}).ext ∧ (eth {}).ethUp 3 1 = false ∧
    ((after (.ethLinkChange 3 0 false) (eth {})).eth 3).link = [] ∧ ((after (.ethLinkChange 3 1 true) (eth {})).eth 3).link = [(0, true)] := by decide +kernel
/-- Session 2 with egress words. -/
def egress (ws : List (Word × BitVec 4)) (v : Eth) : State := { eth v with ext := { (eth v).ext with sessions := [(2, { rule := some anyRule, words := ws })] } }
theorem test_egress : ((after (.egressFrame 2) (egress [(60, 8), (0, 3)] {})).eth 3).egerr = 1 ∧
    (let ws : List (Word × BitVec 4) := [(60, 8), (0, 1), (0, 1), (0, 1), (7, 3)]
     (egress ws {}).egressAt 2 = (3, 0) ∧ egTSMODE 60 = 0 ∧ egLEN 60 = 60 ∧ ((after (.egressFrame 2) (egress ws {})).eth 3).out.map (fun g => (g.sess, g.sub, g.bytes.length, g.bytes.getD 48 0)) = [(2, 0, 60, 7)] ∧
     (let s := { egress ws {} with ext := { (egress ws {}).ext with eths := [] } }; ((after (.egressFrame 2) s).eth 3).txdrop = 1)) := by decide +kernel
def waitingTx : Eth := { out := [⟨2, 0, List.replicate 60 0, 0, 0, false⟩] }
theorem test_departure : waitingTx.txSa = none ∧ ((after (.frameDeparture 3 0) (egress [] waitingTx)).eth 3).out = [] ∧ ((after (.frameDeparture 3 0) (egress [] waitingTx)).sess 2).egCount = 1 ∧
    (let s := { eth waitingTx with ext := { (eth waitingTx).ext with sessions := [(2, { rule := some anyRule, rate := 1, burst := 1, filled := 4000000000 })] } }
     ((after (.frameDeparture 3 0) s).eth 3).out.length = 1) := by decide +kernel
theorem test_macsec_change : (let a : Sa := { tx := true, an := 2, flags := 1, replay := 0, sci := 0, ssci := 0, salt := 0, pn := 1, sak := [] }
    (let v := (after (.macsecAssociationChange 3) (eth { newSas := some [a] })).eth 3; v.sas = [a] ∧ v.txAn = some 2 ∧ v.newSas = none)) := by decide +kernel
def ptp (p : Ptp) : State := { eth {} with ext := { (eth {}).ext with ptp := { p with src := some 3 } } }
theorem test_ptp : ((after (.syncMessage 100) (ptp { ever := true, good := 15 })).ext.ptp).locked = true ∧ ((after (.syncMessage (-101)) (ptp { ever := true, good := 15 })).ext.ptp).good = 0 ∧
    ((after (.syncMessage 1001) (ptp { ever := true, locked := true })).ext.ptp).locked = false ∧ ((after (.syncMessage 1000) (ptp { ever := true, locked := true })).ext.ptp).locked = true ∧
    (after .ptpSyncTimeout (ptp { locked := true, lastSync := 1000000000 })).ext.ptp.locked = false ∧
    (after .ptpSyncTimeout (ptp { locked := true, lastSync := 1000000001 })).ext.ptp.locked = true := by decide +kernel
/-- Bank 3: input queue 5, output pins 0 to 7; or no input queue. -/
def gpio (x : Bank) (inq : Nat) : State := { up with ext := { banks := [(3, { x with record := some (BitVec.ofNat 256 (0xFF * 2 ^ 64 + inq * 2 ^ 160)) })] } }
def draining (s : State) : State := { s with sys := { s.sys with change := some ⟨2, 1, none, [], 0⟩ } }
theorem test_gpio : (gpio {} 5).bankActive 3 = true ∧ up.bankActive 3 = false ∧ (draining (gpio {} 5)).maySendReq (0x228 + 3) = false ∧
    ((after (.captureEvent 3 9) (draining (gpio {} 0xFFFF))).bank 3).pins = 9 ∧ ((after (.captureEvent 3 9) (draining (gpio { scount := 255 } 5))).bank 3).partialSamples = [0xFF000009] ∧
    (let x := (after (.captureEvent 3 9) (draining (gpio { partialSamples := [1, 2, 3], wait := List.replicate 15 0 } 5))).bank 3
     x.wait.length = 16 ∧ x.wait.getLast? = some 0x9000000030000000200000001 ∧ x.partialSamples = []) ∧
    ((after (.captureEvent 3 9) (draining (gpio { partialSamples := [1, 2, 3], wait := List.replicate 16 0 } 5))).bank 3).drop = 1 := by decide +kernel
theorem test_gpio_output : (let t := after (.gpioOutputWord 3) (gpio { outbuf := [⟨0x04000F02000000010000000003000FFF, 0, 0, 7⟩] } 5)
    t.out = [.pins 3 0xFF 4, .pins 3 0 1, .pins 3 1 1, .pins 3 0x02 5] ∧ (t.bank 3).driven = 0x02 ∧ t.noc.packets.map (fun p => (p.op, p.who, p.chan)) = [(.crd, 0x22B, 7)]) := by decide +kernel
theorem test_pads : up.pad 3 5 = .pullDown ∧ (gpio { driven := 0x20 } 5).pad 3 5 = .driven true ∧ (gpio {} 5).pad 3 9 = .float ∧ (after .highz up).pad 3 5 = .float ∧
    (let s := gpio { driven := 0x20 } 5; ({ s with sys := { s.sys with dstate := .faultSafe } } : State).pad 3 5 = .pullDown) ∧
    (let s := up; ({ s with ext := { s.ext with banks := [(3, { flashHold := some 3 })] }, sys := { s.sys with bring := 6 } } : State).pad 3 0 = .driven true) ∧
    holdPad 1 true = .driven true ∧ (ptp {}).synce true = none ∧ up.synce false = none := by decide +kernel
theorem test_console : (after .consoleStatus up).out.length = 1 ∧ (after (.consoleLog 0) up).out = [.console (toLe 8 0 ++ toLe 2 1 ++ toLe 2 0x62 ++ toLe 4 0)] ∧ (after (.consoleLog 9) up).out = [.console []] ∧
    (after (.telemetryRead 0) up).out = [.telemetry 0xB0] ∧ (after (.telemetryRead 2) up).out = [.telemetry 1] ∧ (after (.telemetryRead 7) up).out = [.telemetry 0xFF] ∧
    (after (.telemetryWrite [1]) up).out = [.nack] ∧ (after (.entdaa 9) up).ext.tlmAddr = 9 ∧ (after (.entdaa 9) (after (.entdaa 8) up)).ext.tlmAddr = 8 := by decide +kernel
theorem test_jtag : (after .highz up).ext.jtag = .highz ∧ (after .idcode up).out = [.jtag 0x14096A1D] ∧ (after (.samplePreload [true]) up).ext.boundary = [true] ∧
    (after (.jtagDebugInstruction 9) up).ext.jtag = .bypass ∧ (after (.jtagDebugInstruction 9) (inLcs .debug 0)).out = [.trace (inLcs .debug 0).belay.trace] := by decide +kernel

/-! ### Rules stated whole -/

theorem test_discarded_decrement : (withEvent (taskState .dormant 1 1)).rollBelay.nextWork = some (0, .event ⟨1600, 1, 0, .host 0 0 true⟩) ∧
    ((after .dependenceDecrement (withEvent (taskState .dormant 1 1))).breg 0).drop = 1 ∧ ((after .dependenceDecrement (withEvent (taskState .dormant 1 1))).task 1).st = .dormant := by
  decide +kernel
theorem test_slice_eight : (rgn.hbmLoc 0x800000000).pc = 0 ∧ ({ rgn with hbm := { stks := [(0, { order := 2 })] } } : State).hbmLoc 0x8FFFFFFFF = hbmLoc 0 0x8FFFFFFFF ∧
    ({ rgn with hbm := { stks := [(0, { order := 2 })] } } : State).hbmLoc 0x7FFFFFFFF = hbmLoc 2 0x7FFFFFFFF ∧ hbmLoc 2 0x100 ≠ hbmLoc 0 0x100 := by decide +kernel
theorem test_memory_form : Memory.wf [(0, 1), (1, 0)] = true ∧ Memory.wf [(1, 0), (0, 1)] = false ∧ Memory.wf [(0, 1), (0, 1)] = false := by decide +kernel

/-! ### States that meet the hypotheses of further clauses -/

theorem test_tick_witness : (∀ p ∈ up.noc.packets, p.spot = .arrived) ∧ (∀ x ∈ up.loader.ctxs, x.2.sealed = none) ∧ up.sys.held = none := by decide +kernel
/-- Two decrements of one completion, the first of which finds no quota: both are held, in order (R214, R228). -/
theorem test_held_together : let a : BEvent := ⟨0, 1, 5, .comp 0⟩
    let b : BEvent := ⟨0, 2, 5, .comp 0⟩
    let s := ((taskState .waiting 1 1).setTask 2 { st := .waiting, counter := 1 }).setBreg 0 { base := 0, count := 16 }
    let t := { s with belay := { s.belay with work := [.event a, .event b] } }
    t.rollBelay.nextWork = some (0, .event a) ∧ rgn.regionOfTask 2 = some 0 ∧ ((after .dependenceDecrement t).breg 0).held = [a, b] ∧
    (after .dependenceDecrement t).belay.work = [] ∧ ((after .dependenceDecrement t).breg 0).qblk = 1 := by decide +kernel
/-- After a step of the time base actions go by their ticks (R34). -/
theorem test_order_witness : rgn.inOrder 4000000000 = true ∧ rgn.expiryDue = false ∧ (∀ x, x < 8 → rgn.linkTo 0 x = none) ∧
    (let s := { rgn with sys := { rgn.sys with timeStep := some (1000, 5000) }, cls := [(0, { shadow := some { ctx := 0 }, commitAt := some 2000 })] }
     s.inOrder 3000 = false ∧ s.inOrder 2000 = true) := by decide +kernel
/-- A task signal of host port 0 at the head of its ring goes to Belay first (R228, R439). -/
def sigDesc : List Byte := toLe 2 0x0604 ++ [9, 0, 0, 0, 0, 0] ++ toLe 2 1 ++ List.replicate 54 0
def signals : State := rgn.setPort 0 { up := true, funcs := [(64, { sq := ring true })] }
theorem test_task_signal : signals.mayConsume 0 = true ∧ signals.nextRing 0 = some 64 ∧ sigDesc.length = 64 ∧ signals.signalGoes 0 64 sigDesc = true ∧
    signals.host.wide = none ∧ (let t := after (.descriptorConsume 0 (some sigDesc)) signals
      (t.func 0 64).sigHeld = true ∧ t.host.running = [] ∧ t.belay.work = [.event ⟨1600, 1, 4000000000, .host 0 64 false⟩]) := by decide +kernel
/-- Host port 0 with a selective IDE stream 1 and its aperture bound to region 0; 24 bytes from offset 4 take four requests (R389). -/
def aperture : State := { net.setPort 0 { up := true, bound := some 0, bar2 := 0x8000000 } with sec := { net.sec with spdm := [(0, { session := some [], ideStreams := [(1, 1)] })] } }
theorem test_bar2 : aperture.bar2Ok 0 ⟨4, some 1, none, 24, 5⟩ = true ∧ aperture.maySendReq 0x200 = true ∧ (∀ k, k < 4 → ((aperture.init 0x200).tagOf (5 + k)).st = .free) ∧
    (after (.bar2Access 0 ⟨4, some 1, none, 24, 5⟩) aperture).noc.packets.map (fun p => (p.op, p.tag, p.addr, p.nbytes)) =
      [(.rd, 5, 4, 4), (.rd, 6, 8, 8), (.rd, 7, 16, 8), (.rd, 8, 24, 4)] ∧
    (aperture.bar2Answer 0x200 false 3 []).out = [.bar2CA] := by decide +kernel
/-- A region of the whole of PC 1 in PAIRED mode; its partner is PC 33 (R314). -/
def whole : State := { paired false with
  hbm := { stks := [(0, { insvc := true }), (1, { insvc := true })], pcs := (List.range 64).map (fun i => (i, { st := .service })) }
  sec := { (paired false).sec with regions := [(0, some { reg0 with units := pcUnits 1 })], units := (pcUnits 1).map (fun u => (u, some 0)) } }
theorem test_mirror_begins : whole.regionPcs { reg0 with units := pcUnits 1 } = [1] ∧ whole.pcWhole 1 = true ∧ pcPartner 1 = 33 ∧
    (∀ u ∈ pcUnits 33, whole.unitFree u = true) ∧ dueIn whole own 0x0704 [(8, 1, 0), (9, 1, 1)] = true ∧
    (let t := ends whole own 0x0704 [(8, 1, 0), (9, 1, 1)] (.memMirror own 0 1)
     (t.pc 1).primary = true ∧ (t.pc 33).mir = true ∧ t.sec.mirrorPcs = [33] ∧ (t.region 0).map (·.mirrored) = some true) := by decide +kernel
theorem test_degraded_repair : let s := up.setPc 127 { st := .degraded, hard := 1 }
    dueIn s own 0x0701 (pcOps ++ [(11, 1, 1)]) = true ∧ ((ends s own 0x0701 (pcOps ++ [(11, 1, 1)]) (.pcRepair own pc3 1 true)).pc 127).st = .service ∧
    ((after (.resume 0x210 127) s).pc 127).st = .service := by decide +kernel
theorem test_order_after_wait : let s := { asked up own 0x0700 [(8, 1, 3), (9, 1, 3)] with
      host := { (asked up own 0x0700 [(8, 1, 3), (9, 1, 3)]).host with waits := [⟨own, .hbmOrder own 3 3⟩] } }
    s.due own 0x0700 [(8, 1, 3), (9, 1, 3)] = true ∧ ((after (.commandWaitEnd own) s).stack 3).order = 3 := by decide +kernel
/-- A packet holds a channel of router 0, so no change applies there; a change of a link waits for both its routers (R272). -/
theorem test_boundaries : let x : Router := { pend := [.fence 1] }
    (rtr x {}).atBoundary 0 = true ∧ ((after (.packetBoundaryChange 0) (rtr x {})).router 0).absOf 1 = 2 ∧
    (let s := rtr x {}; let t := { s with noc := { s.noc with bufs := [(0, { pkt := 1, next := some 0 })] } }
     t.granted 0 = true ∧ t.atBoundary 0 = false ∧ (after (.packetBoundaryChange 0) t).noc = t.noc) ∧
    ((after (.packetBoundaryChange 0) (rtr { pend := [.unfence 1], abs := [(1, 2)] } {})).router 0).absOf 1 = 0 ∧
    ((after (.packetBoundaryChange 0) (rtr { pend := [.grant 1 33 true] } {})).router 0).fwHi = [(1, 2)] ∧
    (let t := after (.packetBoundaryChange 0) (after (.laneParityError 0 3 67) (errs 7 false))
     neighbour 0 3 = 15 ∧ (sget {} (t.router 0).lanes 3).lanea = 67 ∧ (t.router 15).pend = [] ∧ ((after (.laneParityError 0 3 67) (errs 7 false)).router 15).pend = [.peer 0 3]) := by decide +kernel
/-- A report cancels the request that it names, where that still waits (R264). -/
theorem test_cancel : let h := held 0 1 none
    let x : Packet := { op := .torep, who := 1, tag := 0, dst := (0, 0), verdict := some 0 }
    let s := { withCl { cellWait := [h] } with noc := { packets := [x] } }
    let t := after (.torep 1 0) s
    s.waitingAt 0 0 = [x] ∧ (t.cl 0).cellWait = [] ∧ t.noc.packets.map (fun p => (p.op, p.status)) = [(.err, 1)] := by decide +kernel
/-- Credits of the time before a queue was enabled again count for nothing (R162). -/
theorem test_stale_credits : let s := flying { op := .crd, who := 0, toMover := true, chan := 63, addr := 5, count := 3 } {}
    let t := s.setMover 63 { stale := [(5, 2)] }
    sget 0 ((after (.crd 0) t).mover 63).credits 5 = 1 ∧ sget 0 ((after (.crd 0) t).mover 63).stale 5 = 0 := by decide +kernel
theorem test_full_link_queue : let w : LinkWord := ⟨31, 0, 5, 77, 3⟩
    let s := withCl { linkWords := [w], queues := [(5, { lq prodLINK with count := 4 })] }
    (s.cl 0).qFull 5 = true ∧ ((after (.linkWordLanding 0 31) s).cl 0).linkWords = [] := by decide +kernel
theorem test_ring_waits : let s := { fn { rstp := true } with sys := { up.sys with pend := [.ring 0 64 .sq] } }
    s.ringEn 0 64 .sq = true ∧ (after (.ringEnable 0 64 .sq 0x80000004) s).sys.pend = [.ring 0 64 .sq] ∧ (after (.ringDisable 0 64 .sq 0) s).sys.pend = [] ∧
    ((after (.ringDisable 0 64 .sq 0) (fn { sq := ring true, sigHeld := true })).func 0 64).sigHeld = false := by decide +kernel
theorem test_rope_out_of_lock : let s := roped { lock := true, inimg := true, addressed := some true, recent := List.replicate 15 false } ropeLoad
    s.ropeAlive = true ∧ (let t := after .ropeInvalidSyncHeader s; (t.ctx 4).lst = 0x13000000 ∧ t.loader.rope.lock = false) ∧
    (let t := after .soi (roped { lock := true, inimg := true, addressed := some true } ropeLoad); (t.ctx 4).lst = 0x12000000 ∧ t.loader.rope.addressed = none) := by decide +kernel
theorem test_wake_waits : (let s := { waking [(3, 0), (2, 0)] with loader := { (waking [(3, 0), (2, 0)]).loader with
      ctxs := [(4, { (waking [(3, 0), (2, 0)]).ctx 4 with released := true, tick := 4000000000 })] } }
     ((after .releaseSetreset s).ctx 4).step = 1) ∧
    (let s := { waking [(6, 9)] with loader := { (waking [(6, 9)]).loader with rope := { faultl := false } } }
     s.faultLow = true ∧ ((after .wakeStepTimeout s).ctx 4).lst = 0x19000000) := by decide +kernel
/-- A load whose segment waits for the decryption engine: no frame is taken (R321). -/
theorem test_sealed : let s := loading { phase := .frames, hdr := hdr1, digest := List.replicate 8 0, region := some 0, sealed := some 0, segBuf := [1, 2] }
    s.engineNext = some 1 ∧ after (.frame 1 frame1) s = s := by decide +kernel
theorem test_lane_lost : (eth {}).laneLost 3 0 = false ∧ (let s := { eth {} with rel := { (eth {}).rel with badBlocks := [0x0900000C] } }
    s.laneLost 3 0 = true ∧ (after (.ethLinkChange 3 0 true) s).ext = s.ext) := by decide +kernel
theorem test_bank_full : let x : Packet := { op := .pushp, who := 0x22B, spot := .source }
    let s := gpio { partialSamples := [1, 2, 3] } 5
    s.bankHeld 3 < 16 ∧ (let t := { s with noc := { s.noc with packets := List.replicate 16 x } }
      t.bankHeld 3 = 16 ∧ ((after (.captureEvent 3 9) t).bank 3).drop = 1) := by decide +kernel
theorem test_log_seconds : up.rel.secondAt ≠ 4 ∧ (after .logSecondEnd up).rel.secondAt = 4 ∧ after .logSecondEnd (after .logSecondEnd up) = after .logSecondEnd up := by decide +kernel
/-- The two controllers of a channel: the more urgent one, then the one whose turn it is (R295). -/
theorem test_command_bus : let p : Pc := { st := .service, cycle := 3, queue := [hreq none] }
    let s := { withPc p {} with hbm := { (withPc p {}).hbm with pcs := [(0, p), (1, p)] } }
    (s.bus 0).turn = none ∧ (s.hbmChoose 0 (s.pc 0).tick).map (·.1) = some 3 ∧ (s.hbmGrant 1 (some 5)).1 = true ∧ (s.hbmGrant 1 (some 2)).1 = false ∧
    (s.hbmGrant 1 (some 3)).1 = false ∧ (s.hbmGrant 0 (some 3)).1 = true := by decide +kernel
theorem test_queue_busy : let s := { withPc { st := .service, sref := true } {} with hbm := { (withPc { st := .service, sref := true } {}).hbm with ports := [(0, [hq none])] } }
    (s.pc 1).sref = true ∧ (after (.hbmRequestEnqueue 0 0) s).hbm.ports = [(0, [hq none])] := by decide +kernel
/-- The request whose command a parity error names is answered DATAERR, the other one DEAD (R305). -/
theorem test_parity : let o : HOpen := { rid := 5, h := hq none, left := 1 }
    let s := withPc { st := .service, opens := [o], trace := [{ stamp := 1, cmd := 4, req := some (5, 0x8000000) }] } svc
    ((s.pc 1).trace[0]?).bind (·.req) = some (5, 0x8000000) ∧ (let t := after (.commandParityError 1 ⟨9, 0⟩) s
      (t.pc 1).opens = [] ∧ t.noc.packets.map (fun p => (p.op, p.status)) = [(.err, 6)]) ∧
    (after (.retire 0x210 1) s).noc.packets.map (fun p => (p.op, p.status)) = [(.err, 4)] := by decide +kernel

end Sys2Proof.Tests
end

namespace Sys2Proof.Machine

/-! ### A decrement that Belay discards (R213)

Taking work, tracing and answering the source of an event change Belay only in its places, its waiting work, its trace
and its timers. `schedule` holds the rest of what R213 speaks of, so one equation frames each of these operations. -/

/-- Belay's tasks, regions, ready lists and delay list. -/
def State.schedule (s : State) : SMap Task × SMap BRegion × SMap (List Nat) × List (Nat × Nat) :=
  (s.belay.tasks, s.belay.regions, s.belay.ready, s.belay.delay)

theorem schedule_eq_iff {s t : State} : t.schedule = s.schedule ↔
    t.belay.tasks = s.belay.tasks ∧ t.belay.regions = s.belay.regions ∧ t.belay.ready = s.belay.ready ∧
      t.belay.delay = s.belay.delay := by
  simp [State.schedule]

theorem schedule_of_belay {s t : State} (h : t.belay = s.belay) : t.schedule = s.schedule := by
  simp [State.schedule, h]

theorem task_of_schedule {s t : State} (h : t.schedule = s.schedule) (n : Nat) : t.task n = s.task n := by
  obtain ⟨htasks, -⟩ := schedule_eq_iff.mp h
  rw [State.task, State.task, htasks]

theorem breg_of_schedule {s t : State} (h : t.schedule = s.schedule) (r : Nat) : t.breg r = s.breg r := by
  obtain ⟨-, hregions, -⟩ := schedule_eq_iff.mp h
  rw [State.breg, State.breg, hregions]

theorem regionOfTask_of_schedule {s t : State} (h : t.schedule = s.schedule) (n : Nat) :
    t.regionOfTask n = s.regionOfTask n := by
  simp only [State.regionOfTask, breg_of_schedule h]

@[simp] theorem rollBelay_schedule (s : State) : s.rollBelay.schedule = s.schedule := by
  unfold State.rollBelay
  split <;> rfl

@[simp] theorem takeWork_schedule (s : State) (j : Nat) (w : Work) : (s.takeWork j w).schedule = s.schedule := rfl

@[simp] theorem btrace_schedule (s : State) (what : Traced) : (s.btrace what).schedule = s.schedule := by
  unfold State.btrace
  split <;> rfl

/-! ### Answering the source of an event (R228) -/

theorem forAll_belay (xs : List Nat) {f : State → Nat → State} (hf : ∀ s c, (f s c).belay = s.belay) (s : State) :
    (forAll xs f s).belay = s.belay := by
  induction xs generalizing s with
  | nil => rfl
  | cons x xs ih => exact (ih (f s x)).trans (hf s x)

@[simp] theorem raiseLine_belay (s : State) (c l : Nat) : (s.raiseLine c l).belay = s.belay := rfl

/-- The notices of a mover leave for the network or raise event lines: Belay does not change. -/
@[simp] theorem moverNotices_belay (s : State) (m n : Nat) : (s.moverNotices m n).belay = s.belay := by
  induction n with
  | zero => rfl
  | succ n ih =>
    simp only [State.moverNotices]
    split
    · split
      · simpa using ih
      · split
        · split
          · rw [forAll_belay _ (fun _ _ => raiseLine_belay _ _ _), setMover_belay, ih]
          · simpa using ih
        · simpa using ih
    · exact ih

@[simp] theorem moverAnswered_belay (s : State) (m : Nat) : (s.moverAnswered m).belay = s.belay := by
  simp [State.moverAnswered]

@[simp] theorem holdSource_schedule (s : State) (o : Origin) (v : Bool) : (s.holdSource o v).schedule = s.schedule := by
  cases o with
  | comp c => rfl
  | queue q => cases v <;> rfl
  | mover m => cases v with
    | true => rfl
    | false => exact schedule_of_belay (moverAnswered_belay s m)
  | timer t => rfl
  | host p f consumed => rfl

/-! ### The discarded decrement -/

/-- A region's counters with one more discarded event (R213). -/
def BRegion.dropOne (b : BRegion) : BRegion := { b with drop := min (b.drop + 1) 65535 }

/-- A decrement aimed at a FREE or DORMANT task is accepted, and only DROP of its region changes (R213). -/
theorem decrement_discarded {s : State} {e : BEvent} {r : Nat} (hr : s.regionOfTask e.task = some r)
    (hst : (s.task e.task).st = .free ∨ (s.task e.task).st = .dormant) :
    s.decrement e = (true, s.setBreg r (s.breg r).dropOne) := by
  simp [State.decrement, hr, hst, satAdd, BRegion.dropOne]

theorem takeEvent_discarded_schedule {s : State} {e : BEvent} {r : Nat} (hr : s.regionOfTask e.task = some r)
    (hst : (s.task e.task).st = .free ∨ (s.task e.task).st = .dormant) :
    (s.takeEvent e).schedule = (s.setBreg r (s.breg r).dropOne).schedule := by
  simp [State.takeEvent, decrement_discarded hr hst]

/-- DEPENDENCE_DECREMENT takes the event that is Belay's next work (R212, R214). -/
theorem exec_dependenceDecrement_event {s : State} {j : Nat} {e : BEvent} (hlive : s.live = true)
    (hnext : s.rollBelay.nextWork = some (j, .event e)) :
    exec .dependenceDecrement s = .next ((s.rollBelay.takeWork j (.event e)).takeEvent e) := by
  have hexec : exec .dependenceDecrement s = execDependenceDecrement s := rfl
  rw [hexec, execDependenceDecrement, act_live hlive]
  simp only [hnext]

/-- Settles O57: the event is accepted without effect on its task, and what follows the count leaves the schedule alone. -/
theorem discardedDecrement : Obligations.DiscardedDecrement := by
  unfold Obligations.DiscardedDecrement
  intro s j e r hlive hnext hr hst
  let u := s.rollBelay.takeWork j (.event e)
  have hu : u.schedule = s.schedule := by simp [u]
  rw [← regionOfTask_of_schedule hu] at hr
  rw [← task_of_schedule hu] at hst
  have ht := takeEvent_discarded_schedule hr hst
  obtain ⟨-, -, hready, hdelay⟩ := schedule_eq_iff.mp ht
  obtain ⟨-, -, huready, hudelay⟩ := schedule_eq_iff.mp hu
  refine ⟨u.takeEvent e, exec_dependenceDecrement_event hlive hnext, fun n => ?_, ?_, hready.trans huready,
    hdelay.trans hudelay⟩
  · exact (task_of_schedule ht n).trans (task_of_schedule hu n)
  · rw [breg_of_schedule ht, breg_setBreg, breg_of_schedule hu]
    rfl

end Sys2Proof.Machine

namespace Sys2Proof.Machine

/-! ### Slice 8 of a stack (R284) -/

/-- At an address of slice 8 the order is not consulted. -/
theorem hbmLoc_of_slice_eight {a : Nat} (h : a % stackBytes / 2 ^ 32 = 8) (order : Nat) :
    hbmLoc order a = hbmLoc 0 a := by
  simp only [hbmLoc, h, if_true, ite_self]

/-- The nine slices of a stack are 2^32 bytes each, so slice 8 is the last of them. -/
theorem slice_eq_eight {a : Nat} (h : 0x800000000 ≤ a % stackBytes) : a % stackBytes / 2 ^ 32 = 8 := by
  unfold stackBytes at *
  omega

/-- Settles O60: the last slice does not consult the order, and the others take it from their stack. -/
theorem sliceEightOrder : Obligations.SliceEightOrder := by
  unfold Obligations.SliceEightOrder
  intro s a
  constructor
  · intro h
    exact hbmLoc_of_slice_eight (slice_eq_eight h) _
  · intro _
    rfl

/-! ### What a completion leaves waiting (R401) -/

@[simp] theorem addReady_waits (s : State) (p f : Nat) (r : Ready) : (s.addReady p f r).host.waits = s.host.waits := by
  unfold State.addReady
  split
  · dsimp only
    split <;> rfl
  · rfl

@[simp] theorem setHslot_waits (s : State) (p f n : Nat) (v : HSlot) :
    (s.setHslot p f n v).host.waits = s.host.waits := by
  unfold State.setHslot
  split <;> rfl

theorem foldReady_waits (as : List Issuer) (s : State) :
    (as.foldl (fun s a => s.addReady a.p a.f { tag := a.tag, status := 0, rej := false, result := 0 }) s).host.waits =
      s.host.waits := by
  induction as generalizing s with
  | nil => rfl
  | cons a as ih => rw [List.foldl_cons, ih, addReady_waits]

@[simp] theorem freeSlot_waits (s : State) (p f : Nat) (r : Ready) (d : Bool) :
    (s.freeSlot p f r d).host.waits = s.host.waits := by
  unfold State.freeSlot
  split
  · rfl
  · dsimp only
    rw [foldReady_waits, setHslot_waits]

@[simp] theorem ownerWrites_waits (s : State) (n : Nat) : (s.ownerWrites n).host.waits = s.host.waits := by
  unfold State.ownerWrites
  split
  · split <;> simp
  · rfl

@[simp] theorem post_waits (s : State) (p f : Nat) (r : Ready) : (s.post p f r).host.waits = s.host.waits := by
  unfold State.post
  dsimp only
  split <;> simp

/-- A function with a running reset apart, a command that has completed no longer waits. -/
theorem complete_not_waiting {s : State} {i : Issuer} (st r : Nat) (h : (!i.owner && (s.func i.p i.f).rstp) = false) :
    (s.complete i st r).host.waits.any (fun w => decide (w.iss = i)) = false := by
  rw [complete_post st r h, post_waits]
  simp [State.unrun]

/-! ### A mode change away from PAIRED (R316) -/

/-- The checks of MODE_SET refuse to leave PAIRED while a region is mirrored: with BAD_OPERAND when its operands are
undefined, which is checked first (R417), and with BAD_STATE otherwise. -/
theorem fwModeSet_refused_of_mirrored {s : State} {mode : Nat} {g : Region} (i : Issuer) (off len : Nat) (cmd : Instr)
    (hpaired : s.sys.mode = 3) (haway : mode ≠ 3) (hg : g ∈ s.allRegions) (hmir : g.mirrored = true) :
    ∃ st, st ≠ stOK ∧ s.fwModeSet i mode off len cmd = s.complete i st 0 := by
  have hany : s.allRegions.any (·.mirrored) = true := List.any_eq_true.mpr ⟨g, hg, hmir⟩
  cases htables : s.modeTables mode off len with
  | none =>
    refine ⟨stBAD_OPERAND, by decide, ?_⟩
    simp [State.fwModeSet, State.judge, firstFail, htables]
  | some rs =>
    refine ⟨stBAD_STATE, by decide, ?_⟩
    simp [State.fwModeSet, State.judge, firstFail, htables, hany, hpaired, haway]

/-- A due MODE_SET that its checks refuse has completed and no longer waits, so a change that runs beside it (R428) does
not answer it a second time. -/
theorem exec_modeSet_refused {s : State} {i : Issuer} {mode : Byte} {off len : Reg} {st : Nat}
    (hdue : s.due i 0x0200 [(8, 1, mode.toNat), (12, 4, off.toNat), (16, 4, len.toNat)] = true)
    (hrefused : (s.runsNow i 0x0200).fwModeSet i mode.toNat off.toNat len.toNat (.modeSet i mode off len) =
      (s.runsNow i 0x0200).complete i st 0) :
    exec (.modeSet i mode off len) s = .next ((s.runsNow i 0x0200).complete i st 0) := by
  have hexec : exec (.modeSet i mode off len) s = execModeSet i mode off len s := rfl
  have hrstp : (!i.owner && (s.func i.p i.f).rstp) = false := due_rstp hdue
  have hwait : ((s.runsNow i 0x0200).complete i st 0).host.waits.any (fun w => decide (w.iss = i)) = false :=
    complete_not_waiting (s := s.runsNow i 0x0200) st 0 hrstp
  rw [hexec, execModeSet, act_live (due_live hdue), State.cModeSet, command_due hdue, hrefused]
  simp only [hwait, Bool.and_false, Bool.false_eq_true, if_false]

/-- Settles O59: one of the checks refuses the command, and a refusal has no effect but its completion. -/
theorem mirroredRangeHoldsPaired : Obligations.MirroredRangeHoldsPaired := by
  unfold Obligations.MirroredRangeHoldsPaired
  intro s i mode off len g hdue hpaired haway hg hmir
  obtain ⟨st, hst, hrefused⟩ := fwModeSet_refused_of_mirrored (s := s.runsNow i 0x0200) i off.toNat len.toNat
    (.modeSet i mode off len) hpaired haway hg hmir
  exact ⟨st, hst, answers_of_due (e := s.runsNow i 0x0200) hdue (exec_modeSet_refused hdue hrefused) rfl⟩

end Sys2Proof.Machine

namespace Sys2Proof.Machine

/-! ### A slot becomes free, and the aborts that waited for it become ready (R397, R405)

A completion that becomes ready joins the ready list of its own function or the owner's buffer, which may raise the
owner's alert; it touches no slot and writes nothing to a host. -/

/-- Another ready list leaves every slot as it was. -/
theorem hslot_setFunc_ready (s : State) (p f : Nat) (rs : List Ready) (q g n : Nat) :
    (s.setFunc p f { s.func p f with ready := rs }).hslot q g n = s.hslot q g n := by
  have howner : (s.setFunc p f { s.func p f with ready := rs }).host.owner = s.host.owner := rfl
  have hslots : ((s.setFunc p f { s.func p f with ready := rs }).func q g).slots = (s.func q g).slots := by
    by_cases hqg : q = p ∧ g = f
    · obtain ⟨rfl, rfl⟩ := hqg
      rw [func_setFunc]
    · rw [func_setFunc_ne _ _ hqg]
  simp only [State.hslot, howner, hslots]

@[simp] theorem hslot_setHslot (s : State) (p f n : Nat) (v : HSlot) : (s.setHslot p f n v).hslot p f n = v := by
  by_cases hp : p = 4 <;> simp [State.setHslot, State.hslot, State.setOwner, hp]

@[simp] theorem setHslot_out (s : State) (p f n : Nat) (v : HSlot) : (s.setHslot p f n v).out = s.out := by
  unfold State.setHslot
  split <;> rfl

@[simp] theorem setHslot_ready (s : State) (p f n : Nat) (v : HSlot) :
    ((s.setHslot p f n v).func p f).ready = (s.func p f).ready := by
  unfold State.setHslot
  split
  · rfl
  · rw [func_setFunc]

@[simp] theorem addReady_hslot (s : State) (p f : Nat) (r : Ready) (q g n : Nat) :
    (s.addReady p f r).hslot q g n = s.hslot q g n := by
  unfold State.addReady
  split
  · dsimp only
    split <;> rfl
  · exact hslot_setFunc_ready s p f _ q g n

/-- On a host function a ready list grows by the completions of that function. -/
theorem addReady_ready (s : State) (p f : Nat) (r : Ready) {q : Nat} (hq : q ≠ 4) (g : Nat) :
    ((s.addReady p f r).func q g).ready = (s.func q g).ready ++ if p = q ∧ f = g then [r] else [] := by
  unfold State.addReady
  by_cases hp : p = 4
  · rw [if_pos hp, if_neg (fun h : p = q ∧ f = g => hq (h.1.symm.trans hp)), List.append_nil]
    dsimp only
    split <;> rfl
  · rw [if_neg hp]
    by_cases hpq : p = q ∧ f = g
    · obtain ⟨rfl, rfl⟩ := hpq
      simp
    · rw [if_neg hpq, List.append_nil, func_setFunc_ne _ _ (fun h => hpq ⟨h.1.symm, h.2.symm⟩)]

/-- All that a completion puts on the boundary when it becomes ready is the owner's alert (R415). -/
theorem addReady_out (s : State) (p f : Nat) (r : Ready) :
    ∃ n, (s.addReady p f r).out = s.out ++ List.replicate n (.ownerAlert true) := by
  unfold State.addReady
  split
  · dsimp only
    split
    · exact ⟨1, rfl⟩
    · exact ⟨0, (List.append_nil _).symm⟩
  · exact ⟨0, (List.append_nil _).symm⟩

/-- The completion of an ABORT whose target has ended (R405). -/
def abortDone (a : Issuer) : Ready := { tag := a.tag, status := 0, rej := false, result := 0 }

/-- The aborts that waited for a slot become ready, oldest first (R405). -/
def State.readyAborts (s : State) (as : List Issuer) : State :=
  as.foldl (fun s a => s.addReady a.p a.f (abortDone a)) s

theorem readyAborts_cons (s : State) (a : Issuer) (as : List Issuer) :
    s.readyAborts (a :: as) = (s.addReady a.p a.f (abortDone a)).readyAborts as := rfl

@[simp] theorem readyAborts_hslot (s : State) (as : List Issuer) (q g n : Nat) :
    (s.readyAborts as).hslot q g n = s.hslot q g n := by
  induction as generalizing s with
  | nil => rfl
  | cons a as ih => rw [readyAborts_cons, ih, addReady_hslot]

theorem readyAborts_ready (s : State) (as : List Issuer) {q : Nat} (hq : q ≠ 4) (g : Nat) :
    ((s.readyAborts as).func q g).ready =
      (s.func q g).ready ++ (as.filter (fun a => a.p = q ∧ a.f = g)).map abortDone := by
  induction as generalizing s with
  | nil => exact (List.append_nil _).symm
  | cons a as ih =>
    rw [readyAborts_cons, ih, addReady_ready _ _ _ _ hq, List.append_assoc, List.filter_cons]
    by_cases ha : a.p = q ∧ a.f = g <;> simp [ha]

theorem readyAborts_out (s : State) (as : List Issuer) :
    ∃ n, (s.readyAborts as).out = s.out ++ List.replicate n (.ownerAlert true) := by
  induction as generalizing s with
  | nil => exact ⟨0, (List.append_nil _).symm⟩
  | cons a as ih =>
    obtain ⟨n, hn⟩ := addReady_out s a.p a.f (abortDone a)
    obtain ⟨m, hm⟩ := ih (s.addReady a.p a.f (abortDone a))
    exact ⟨n + m, by rw [readyAborts_cons, hm, hn, List.append_assoc, List.replicate_append_replicate]⟩

/-- A completion that owns a slot (R404) frees it and readies the aborts that waited for it. -/
theorem freeSlot_eq_readyAborts {s : State} {p f : Nat} {r : Ready} (hrej : r.rej = false) (d : Bool) :
    s.freeSlot p f r d =
      let h := s.hslot p f (tagSlot r.tag.toNat)
      (s.setHslot p f (tagSlot r.tag.toNat) { gen := if h.marked || d then (h.gen + 1) % 16 else h.gen }).readyAborts
        h.aborters :=
  if_neg (by simp [hrej])

/-- The slot of a discarded completion takes the next generation, marked or not (R397). -/
theorem freeSlot_discarded_hslot {s : State} {p f : Nat} {r : Ready} (hrej : r.rej = false) :
    (s.freeSlot p f r true).hslot p f (tagSlot r.tag.toNat) =
      { gen := ((s.hslot p f (tagSlot r.tag.toNat)).gen + 1) % 16 } := by
  rw [freeSlot_eq_readyAborts hrej]
  simp

theorem freeSlot_ready {s : State} {p f : Nat} {r : Ready} (hp : p ≠ 4) (hrej : r.rej = false) (d : Bool) :
    ((s.freeSlot p f r d).func p f).ready = (s.func p f).ready ++
      ((s.hslot p f (tagSlot r.tag.toNat)).aborters.filter (fun a => a.p = p ∧ a.f = f)).map abortDone := by
  rw [freeSlot_eq_readyAborts hrej]
  dsimp only
  rw [readyAborts_ready _ _ hp, setHslot_ready]

theorem freeSlot_out {s : State} {p f : Nat} {r : Ready} (hrej : r.rej = false) (d : Bool) :
    ∃ n, (s.freeSlot p f r d).out = s.out ++ List.replicate n (.ownerAlert true) := by
  rw [freeSlot_eq_readyAborts hrej]
  dsimp only
  rw [← setHslot_out s p f (tagSlot r.tag.toNat)]
  exact readyAborts_out _ _

/-! ### The discarded completion -/

/-- COMPLETION_POST discards the oldest ready completion while its ring is disabled (R397). -/
theorem exec_completionPost_disabled {s : State} {p : PortId} {f : FnId} {r : Ready} {rest : List Ready}
    (hlive : s.live = true) (hready : (s.func p f).ready = r :: rest) (hen : (s.func p f).cq.en = false) :
    exec (.completionPost p f) s =
      .next ((s.setFunc p f { s.func p f with ready := rest }).freeSlot p f r true) := by
  have hexec : exec (.completionPost p f) s = execCompletionPost p f s := rfl
  rw [hexec, execCompletionPost, act_live hlive]
  simp [State.postCompletion, hready, hen]

/-- Settles O58: the completion leaves its list, its slot is written whole with the next generation, and the aborts
that become ready after it reach no slot and no host. -/
theorem discardedCompletion : Obligations.DiscardedCompletion := by
  unfold Obligations.DiscardedCompletion
  intro s p f r rest hlive hready hen hrej
  have hport : p.val ≠ 4 := by omega
  let u := s.setFunc p f { s.func p f with ready := rest }
  have hslot : ∀ n, u.hslot p f n = s.hslot p f n := hslot_setFunc_ready s p f rest p f
  have hfree := freeSlot_discarded_hslot (s := u) (p := p) (f := f) hrej
  have hlist := freeSlot_ready (s := u) (f := f) hport hrej true
  obtain ⟨n, hout⟩ := freeSlot_out (s := u) (p := p) (f := f) hrej true
  rw [hslot] at hfree hlist
  rw [func_setFunc] at hlist
  refine ⟨u.freeSlot p f r true, exec_completionPost_disabled hlive hready hen, ?_, ⟨_, hlist, ?_⟩,
    congrArg HSlot.busy hfree, congrArg HSlot.gen hfree⟩
  · intro q a b
    simp [hout, u]
  · intro x hx
    obtain ⟨a, ha, rfl⟩ := List.mem_map.mp hx
    exact ⟨a, List.mem_of_mem_filter ha, rfl⟩

end Sys2Proof.Machine

/-! The encoding of sequencer instructions: the fields of an encoded word, and the two directions between words and
instructions (R177, R204, R533, R534). -/

namespace Sys2Proof.Machine

/-! ### Fields of an encoded word -/

theorem fld_eq_div_mod (x lo n : Nat) : fld x lo n = x / 2 ^ lo % 2 ^ n := by
  rw [fld, Nat.shiftRight_eq_div_pow]

theorem rcode_toNat (w lo : Nat) : (rcode w lo).toNat = w / 2 ^ lo % 32 := by
  simp [rcode, fld_eq_div_mod]

theorem seqWord_opcode {op : Nat} (d a : RegCode) {low : Nat} (hop : op < 64) (hl : low < 65536) :
    fld (seqWord op d a low) 26 6 = op := by
  have hd := d.isLt; have ha := a.isLt
  simp only [fld_eq_div_mod, seqWord]
  omega

theorem seqWord_d (op : Nat) (d a : RegCode) {low : Nat} (hl : low < 65536) : rcode (seqWord op d a low) 21 = d := by
  have hd := d.isLt; have ha := a.isLt
  apply BitVec.eq_of_toNat_eq
  simp only [rcode_toNat, seqWord]
  omega

theorem seqWord_a (op : Nat) (d a : RegCode) {low : Nat} (hl : low < 65536) : rcode (seqWord op d a low) 16 = a := by
  have ha := a.isLt
  apply BitVec.eq_of_toNat_eq
  simp only [rcode_toNat, seqWord]
  omega

theorem seqWord_lt {op : Nat} (d a : RegCode) {low : Nat} (hop : op < 64) (hl : low < 65536) :
    seqWord op d a low < 2 ^ 32 := by
  have hd := d.isLt; have ha := a.isLt
  simp only [seqWord]
  omega

/-- A field of the low half does not see the opcode and the codes above it. -/
theorem fld_seqWord_low (op : Nat) (d a : RegCode) (low : Nat) {lo n : Nat} (h : lo + n ≤ 16) :
    fld (seqWord op d a low) lo n = fld low lo n := by
  obtain ⟨k, hk⟩ : ∃ k, seqWord op d a low = 2 ^ 16 * k + low :=
    ⟨op * 2 ^ 10 + d.toNat * 2 ^ 5 + a.toNat, by simp only [seqWord]; ring⟩
  have hsplit : 2 ^ 16 = 2 ^ lo * (2 ^ n * 2 ^ (16 - lo - n)) := by
    rw [← pow_add, ← pow_add]; congr 1; omega
  rw [fld_eq_div_mod, fld_eq_div_mod, hk, hsplit, mul_assoc, Nat.mul_add_div (by positivity), mul_assoc,
    Nat.mul_add_mod]

theorem bit_seqWord_low (op : Nat) (d a : RegCode) (low : Nat) {i : Nat} (h : i + 1 ≤ 16) :
    bit (seqWord op d a low) i = bit low i := by
  simp only [bit, fld_seqWord_low op d a low h]

theorem rcode_seqWord_low (op : Nat) (d a : RegCode) (low : Nat) {lo : Nat} (h : lo + 5 ≤ 16) :
    rcode (seqWord op d a low) lo = rcode low lo := by
  simp only [rcode, fld_seqWord_low op d a low h]

/-- What the low bits of a field spell is the operand that was put there. -/
theorem ofNat_fld_toNat {n : Nat} (x : BitVec n) : BitVec.ofNat n (fld x.toNat 0 n) = x := by
  apply BitVec.eq_of_toNat_eq
  simp [fld_eq_div_mod]

/-! ### The low half: second operands, floating-point operands, memory offsets -/

theorem srcBits_lt (b : Src) : srcBits b < 65536 := by
  cases b with
  | reg r => have := r.isLt; simp only [srcBits]; omega
  | imm i => have := i.isLt; simp only [srcBits]; omega

theorem srcBits_decode (b : Src) :
    (if bit (srcBits b) 15 then Src.imm (BitVec.ofNat 15 (fld (srcBits b) 0 15)) else .reg (rcode (srcBits b) 10)) = b := by
  cases b with
  | reg r =>
    have hr := r.isLt
    have hbit : bit (srcBits (.reg r)) 15 = false := by simp only [bit, fld_eq_div_mod, srcBits]; simp; omega
    have hcode : rcode (srcBits (.reg r)) 10 = r := by
      apply BitVec.eq_of_toNat_eq; simp only [rcode_toNat, srcBits]; omega
    simp [hbit, hcode]
  | imm i =>
    have hi := i.isLt
    have hbit : bit (srcBits (.imm i)) 15 = true := by simp only [bit, fld_eq_div_mod, srcBits]; simp; omega
    have hval : BitVec.ofNat 15 (fld (srcBits (.imm i)) 0 15) = i := by
      apply BitVec.eq_of_toNat_eq; simp only [fld_eq_div_mod, srcBits, BitVec.toNat_ofNat]; omega
    simp [hbit, hval]

theorem b2n_lt (p : Bool) : b2n p < 2 := by cases p <;> simp [b2n]

theorem b2n_eq_one (p : Bool) : decide (b2n p = 1) = p := by cases p <;> simp [b2n]

theorem fpBits_lt (b x : RegCode) (p : Bool) (fn : RegCode) : fpBits b x p fn < 65536 := by
  have hb := b.isLt; have hx := x.isLt; have hf := fn.isLt; have hp := b2n_lt p
  simp only [fpBits]
  omega

theorem fpBits_fields (b x : RegCode) (p : Bool) (fn : RegCode) :
    rcode (fpBits b x p fn) 11 = b ∧ rcode (fpBits b x p fn) 6 = x ∧ bit (fpBits b x p fn) 5 = p ∧
      rcode (fpBits b x p fn) 0 = fn := by
  have hb := b.isLt; have hx := x.isLt; have hf := fn.isLt; have hp := b2n_lt p
  refine ⟨?_, ?_, ?_, ?_⟩
  · apply BitVec.eq_of_toNat_eq; simp only [rcode_toNat, fpBits]; omega
  · apply BitVec.eq_of_toNat_eq; simp only [rcode_toNat, fpBits]; omega
  · have : fld (fpBits b x p fn) 5 1 = b2n p := by simp only [fld_eq_div_mod, fpBits]; omega
    rw [bit, this]; exact b2n_eq_one p
  · apply BitVec.eq_of_toNat_eq; simp only [rcode_toNat, fpBits]; omega

theorem fpOffset_lt (p : Bool) (off : BitVec 15) : b2n p * 32768 + off.toNat < 65536 := by
  have ho := off.isLt; have hp := b2n_lt p
  omega

theorem fpOffset_fields (p : Bool) (off : BitVec 15) :
    bit (b2n p * 32768 + off.toNat) 15 = p ∧ BitVec.ofNat 15 (fld (b2n p * 32768 + off.toNat) 0 15) = off := by
  have ho := off.isLt; have hp := b2n_lt p
  constructor
  · have : fld (b2n p * 32768 + off.toNat) 15 1 = b2n p := by simp only [fld_eq_div_mod]; omega
    rw [bit, this]; exact b2n_eq_one p
  · apply BitVec.eq_of_toNat_eq; simp only [fld_eq_div_mod, BitVec.toNat_ofNat]; omega

theorem toNat_lt_half {n : Nat} (x : BitVec n) (h : n ≤ 16) : x.toNat < 65536 :=
  lt_of_lt_of_le x.isLt (Nat.pow_le_pow_right (by decide : 0 < 2) h)

/-- A jump's word: the offset takes the place of the first operand code and the low half. -/
theorem jlWord_fields (d : RegCode) (off : BitVec 21) :
    let w := 0x22 * 2 ^ 26 + d.toNat * 2 ^ 21 + off.toNat
    w < 2 ^ 32 ∧ fld w 26 6 = 0x22 ∧ rcode w 21 = d ∧ BitVec.ofNat 21 (fld w 0 21) = off := by
  have hd := d.isLt; have ho := off.isLt
  refine ⟨by omega, by simp only [fld_eq_div_mod]; omega, ?_, ?_⟩
  · apply BitVec.eq_of_toNat_eq; simp only [rcode_toNat]; omega
  · apply BitVec.eq_of_toNat_eq; simp only [fld_eq_div_mod, BitVec.toNat_ofNat]; omega

/-! ### Decoding and encoding -/

theorem seqEncode_lt {i : Instr} {c : ClId} {w : Nat} (h : seqEncode i = some (c, w)) : w < 2 ^ 32 := by
  unfold seqEncode at h
  split at h <;> cases h
  case h_35 d off => exact (jlWord_fields d off).1
  all_goals exact seqWord_lt _ _ (by decide) (by
    simp [srcBits_lt, fpBits_lt, toNat_lt_half, fpOffset_lt])

theorem seqDecode_seqEncode {i : Instr} {c : ClId} {w : Nat} (h : seqEncode i = some (c, w)) :
    seqDecode c w = some i := by
  unfold seqEncode at h
  split at h <;> cases h
  case h_35 d off =>
    obtain ⟨-, hop, hd, hoff⟩ := jlWord_fields d off
    simp only [seqDecode, hop, hd, hoff]
  all_goals
    rw [seqDecode, seqWord_opcode _ _ (by decide) (by simp [srcBits_lt, fpBits_lt, toNat_lt_half, fpOffset_lt])]
    simp only [seqWord_d, seqWord_a, bit_seqWord_low, rcode_seqWord_low, fld_seqWord_low, srcBits_lt, srcBits_decode,
      fpBits_lt, fpBits_fields, toNat_lt_half, fpOffset_lt, fpOffset_fields, ofNat_fld_toNat, Nat.reduceLeDiff,
      Nat.reduceAdd, Nat.reducePow, Nat.reduceLT, le_refl]

/-- Settles O2: an encoded word carries its operands in fields of their own, and each opcode of the decoder has its
instruction among those of the encoder. -/
theorem sequencerDecodeOfEncode : Obligations.SequencerDecodeOfEncode := by
  unfold Obligations.SequencerDecodeOfEncode
  refine ⟨fun i c w h => ⟨seqEncode_lt h, seqDecode_seqEncode h⟩, fun i c w h => ?_⟩
  unfold seqDecode at h
  dsimp only at h
  split at h <;> cases h
  all_goals exact ⟨_, rfl⟩

/-- Settles O3: each word's fields are numerals. -/
theorem sequencerWords : Obligations.SequencerWords := by
  unfold Obligations.SequencerWords
  intro c
  exact ⟨rfl, rfl, rfl, rfl, rfl, rfl, rfl, rfl, rfl, rfl, rfl, rfl, rfl, rfl, rfl, rfl, rfl⟩

end Sys2Proof.Machine

/-! Integer instructions, branches and jumps of the sequencer (R177), as arithmetic on integers. -/

namespace Sys2Proof.Machine

/-! ### Issuing -/

/-- An integer instruction with existing codes writes what its function gives for the operands' values. -/
theorem intOp_gives {s : State} {c : ClId} {rd ra : RegCode} {b : Src} {f : Reg → Reg → Reg} {v : Reg}
    (hi : s.issues c = true) (hd : codeOk rd = true) (ha : codeOk ra = true) (hb : srcOk b = true)
    (hv : f ((s.seq c).reg ra) ((s.seq c).src b) = v) :
    seqAct c s (·.intOp c.val rd ra b f) = .next (s.updSeq c fun q => (q.setReg rd v).next) := by
  rw [seqAct_issues hi]
  simp only [State.intOp, hd, ha, hb, Bool.and_self, if_true]
  exact congrArg _ (updSeq_congr s c (by simp only [hv]))

/-- A branch with an existing code goes where its condition on the register sends it. -/
theorem branch_goes {s : State} {c : ClId} {ra : RegCode} {off : BitVec 16} {t : Reg → Bool} {dest : Reg}
    (hi : s.issues c = true) (ha : codeOk ra = true)
    (hd : (if t ((s.seq c).reg ra) then (s.seq c).pc + 4 + 4 * off.signExtend 32 else (s.seq c).pc + 4) = dest) :
    seqAct c s (·.branch c.val ra off t) = .next (s.updSeq c fun q => { q with pc := dest }) := by
  rw [seqAct_issues hi]
  simp only [State.branch, ha, if_true]
  refine congrArg _ (updSeq_congr s c ?_)
  rw [← hd]
  split <;> rfl

/-! ### Words as integers -/

theorem ofInt_of_toInt_eq {x : Reg} {n : Int} (h : x.toInt = n) : x = BitVec.ofInt 32 n := by
  rw [← h, BitVec.ofInt_toInt]

theorem add_eq_ofInt (x y : Reg) : x + y = BitVec.ofInt 32 (x.toInt + y.toInt) := by
  rw [BitVec.ofInt_add, BitVec.ofInt_toInt, BitVec.ofInt_toInt]

theorem sub_eq_ofInt (x y : Reg) : x - y = BitVec.ofInt 32 (x.toInt - y.toInt) := by
  rw [sub_eq_add_neg (G := Int), BitVec.ofInt_add, BitVec.ofInt_neg, BitVec.ofInt_toInt, BitVec.ofInt_toInt, BitVec.sub_eq_add_neg]

theorem mul_eq_ofInt (x y : Reg) : x * y = BitVec.ofInt 32 (x.toInt * y.toInt) := by
  rw [BitVec.ofInt_mul, BitVec.ofInt_toInt, BitVec.ofInt_toInt]

theorem shiftLeft_eq_ofNat (x : Reg) (n : Nat) : x <<< n = BitVec.ofNat 32 (x.toNat * 2 ^ n) := by
  apply BitVec.eq_of_toNat_eq
  rw [BitVec.toNat_shiftLeft, BitVec.toNat_ofNat, Nat.shiftLeft_eq]

theorem ushiftRight_eq_ofNat (x : Reg) (n : Nat) : x >>> n = BitVec.ofNat 32 (x.toNat / 2 ^ n) := by
  apply BitVec.eq_of_toNat_eq
  have hlt : x.toNat / 2 ^ n < 2 ^ 32 := lt_of_le_of_lt (Nat.div_le_self _ _) x.isLt
  rw [BitVec.toNat_ushiftRight, BitVec.toNat_ofNat, Nat.shiftRight_eq_div_pow, Nat.mod_eq_of_lt hlt]

theorem sshiftRight_eq_ofInt (x : Reg) (n : Nat) : x.sshiftRight n = BitVec.ofInt 32 (x.toInt / (2 : Int) ^ n) := by
  apply ofInt_of_toInt_eq
  rw [BitVec.toInt_sshiftRight, Int.shiftRight_eq_div_pow]
  norm_cast

theorem movh_eq_ofNat (imm : BitVec 16) : (imm ++ (0 : BitVec 16)) = BitVec.ofNat 32 (imm.toNat * 2 ^ 16) := by
  apply BitVec.eq_of_toNat_eq
  have himm := imm.isLt
  rw [BitVec.toNat_append, BitVec.toNat_ofNat, Nat.shiftLeft_eq]
  simp
  omega

theorem mins_eq_ofInt (x y : Reg) : (if x.toInt ≤ y.toInt then x else y) = BitVec.ofInt 32 (min x.toInt y.toInt) := by
  rw [min_def]
  split <;> rw [BitVec.ofInt_toInt]

theorem maxs_eq_ofInt (x y : Reg) : (if x.toInt ≤ y.toInt then y else x) = BitVec.ofInt 32 (max x.toInt y.toInt) := by
  rw [max_def]
  split <;> rw [BitVec.ofInt_toInt]

theorem minu_eq_ofNat (x y : Reg) : (if x.toNat ≤ y.toNat then x else y) = BitVec.ofNat 32 (min x.toNat y.toNat) := by
  rw [min_def]
  split <;> simp

theorem maxu_eq_ofNat (x y : Reg) : (if x.toNat ≤ y.toNat then y else x) = BitVec.ofNat 32 (max x.toNat y.toNat) := by
  rw [max_def]
  split <;> simp

/-- A word is the most negative integer just when its signed value is. -/
theorem eq_intMin_iff (x : Reg) : x = 0x80000000 ↔ x.toInt = -2147483648 := by
  constructor
  · rintro rfl; rfl
  · intro h; exact BitVec.eq_of_toInt_eq h

theorem eq_neg_one_iff (y : Reg) : y = 0xFFFFFFFF ↔ y.toInt = -1 := by
  constructor
  · rintro rfl; rfl
  · intro h; exact BitVec.eq_of_toInt_eq h

theorem quo32_eq (x y : Reg) : quo32 x y = (if y = 0 then (if 0 ≤ x.toInt then 0x7FFFFFFF else 0x80000000)
    else if x.toInt = -2147483648 ∧ y.toInt = -1 then 0x7FFFFFFF else BitVec.ofInt 32 (x.toInt.tdiv y.toInt)) := by
  simp only [quo32, Bool.and_eq_true, decide_eq_true_eq, beq_iff_eq, eq_intMin_iff, eq_neg_one_iff]

/-- The overflow of REM needs no case of its own: -2^31 leaves no remainder by -1. -/
theorem rem32_eq (x y : Reg) : rem32 x y = (if y = 0 then 0 else BitVec.ofInt 32 (x.toInt.tmod y.toInt)) := by
  simp only [rem32, Bool.and_eq_true, decide_eq_true_eq, beq_iff_eq, eq_intMin_iff, eq_neg_one_iff]
  split
  · rfl
  · split
    · rename_i h
      rw [h.1, h.2]
      rfl
    · rfl

theorem branchTarget_eq {n : Nat} (pc : Reg) (off : BitVec n) :
    pc + 4 + 4 * off.signExtend 32 = BitVec.ofInt 32 ((pc.toNat : Int) + 4 + 4 * off.toInt) := by
  rw [BitVec.ofInt_add, BitVec.ofInt_add, BitVec.ofInt_mul, BitVec.ofInt_natCast, BitVec.ofNat_toNat, BitVec.setWidth_eq]
  rfl

/-- Settles O4: each instruction is the shared integer operation with its own function. -/
theorem integerResults : Obligations.IntegerResults := by
  unfold Obligations.IntegerResults
  intro s c rd ra b imm hi hd ha hb
  refine ⟨?_, ?_, ?_, ?_, ?_, ?_, ?_, ?_, ?_, ?_, ?_, ?_, ?_, ?_, ?_, ?_, ?_, ?_, ?_, ?_⟩
  · exact intOp_gives hi hd ha hb (add_eq_ofInt _ _)
  · exact intOp_gives hi hd ha hb (sub_eq_ofInt _ _)
  · exact intOp_gives hi hd ha hb rfl
  · exact intOp_gives hi hd ha hb rfl
  · exact intOp_gives hi hd ha hb rfl
  · exact intOp_gives hi hd ha hb rfl
  · exact intOp_gives hi hd ha hb (shiftLeft_eq_ofNat _ _)
  · exact intOp_gives hi hd ha hb (ushiftRight_eq_ofNat _ _)
  · exact intOp_gives hi hd ha hb (sshiftRight_eq_ofInt _ _)
  · exact intOp_gives hi hd ha hb (mins_eq_ofInt _ _)
  · exact intOp_gives hi hd ha hb (maxs_eq_ofInt _ _)
  · exact intOp_gives hi hd ha hb (minu_eq_ofNat _ _)
  · exact intOp_gives hi hd ha hb (maxu_eq_ofNat _ _)
  · exact intOp_gives hi hd ha hb rfl
  · exact intOp_gives hi hd ha hb rfl
  · show execMovh c rd imm s = _
    rw [execMovh, seqAct_issues hi, movh_eq_ofNat]
    simp only [hd, if_true]
  · exact intOp_gives hi hd ha hb (mul_eq_ofInt _ _)
  · exact intOp_gives hi hd ha hb rfl
  · exact intOp_gives hi hd ha hb (quo32_eq _ _)
  · exact intOp_gives hi hd ha hb (rem32_eq _ _)

/-- Settles O6: a branch's target is computed without overflow of the integers and then cut to 32 bits. -/
theorem branchesAndJumps : Obligations.BranchesAndJumps := by
  unfold Obligations.BranchesAndJumps
  intro s c rd ra off far hi hd ha
  have hzero : (s.seq c).reg ra = 0 ↔ ((s.seq c).reg ra).toInt = 0 := by
    rw [← BitVec.toInt_inj]; rfl
  refine ⟨branch_goes hi ha ?_, branch_goes hi ha ?_, branch_goes hi ha ?_, branch_goes hi ha ?_, branch_goes hi ha ?_,
    branch_goes hi ha ?_, ?_, ?_⟩
  · simp only [branchTarget_eq, decide_eq_true_eq, hzero]
  · simp only [branchTarget_eq, decide_eq_true_eq, ne_eq, hzero]
  · simp only [branchTarget_eq, decide_eq_true_eq]
  · simp only [branchTarget_eq, decide_eq_true_eq, ge_iff_le]
  · simp only [branchTarget_eq, decide_eq_true_eq, gt_iff_lt]
  · simp only [branchTarget_eq, decide_eq_true_eq]
  · show execJl c rd far s = _
    rw [execJl, seqAct_issues hi, ← branchTarget_eq]
    simp only [hd, if_true]
    exact congrArg _ (updSeq_congr s c rfl)
  · show execJr c rd ra s = _
    rw [execJr, seqAct_issues hi]
    simp only [hd, ha, Bool.and_self, if_true]
    exact congrArg _ (updSeq_congr s c rfl)

end Sys2Proof.Machine

/-! Registers, data memory and traps of the sequencer (R172, R176, R177, R179, R183). -/

namespace Sys2Proof.Machine

/-! ### Little-endian bytes (R13) -/

theorem pow_256_eq (n : Nat) : 256 ^ n = 2 ^ (8 * n) := by rw [pow_mul]; norm_num

@[simp] theorem length_toLe : ∀ n v : Nat, (toLe n v).length = n
  | 0, _ => rfl
  | n + 1, v => by simp [toLe, length_toLe n]

theorem getElem?_toLe : ∀ (n v i : Nat), i < n → (toLe n v)[i]? = some (BitVec.ofNat 8 (v / 2 ^ (8 * i)))
  | n + 1, v, 0, _ => by simp [toLe]
  | n + 1, v, i + 1, h => by
    rw [toLe, List.getElem?_cons_succ, getElem?_toLe n (v / 256) i (by omega), Nat.div_div_eq_div_mul,
      show 256 * 2 ^ (8 * i) = 2 ^ (8 * (i + 1)) by rw [Nat.mul_succ, pow_add]; omega]

/-- The bytes of a number spell its low part. -/
theorem leNat_toLe : ∀ n v : Nat, leNat (toLe n v) = v % 2 ^ (8 * n)
  | 0, v => by simp [toLe, leNat, Nat.mod_one]
  | n + 1, v => by
    rw [toLe, leNat, leNat_toLe n, ← pow_256_eq, ← pow_256_eq, pow_succ', Nat.mod_mul, BitVec.toNat_ofNat]

theorem leNat_lt : ∀ bs : List Byte, leNat bs < 2 ^ (8 * bs.length)
  | [] => by simp [leNat]
  | b :: bs => by
    have ih := leNat_lt bs
    have hb := b.isLt
    rw [← pow_256_eq] at ih ⊢
    rw [leNat, List.length_cons, pow_succ']
    omega

/-! ### Data memory (R172) -/

/-- A byte of data memory. -/
def Seq.dmByte (q : Seq) (x : Nat) : Byte := sget 0 q.dmem x

theorem dmRead_eq (q : Seq) (a n : Nat) : q.dmRead a n = leNat ((List.range n).map fun i => q.dmByte (a + i)) := rfl

theorem dmRead_one (q : Seq) (a : Nat) : q.dmRead a 1 = (q.dmByte a).toNat := by
  simp [dmRead_eq, leNat]

theorem dmRead_lt (q : Seq) (a n : Nat) : q.dmRead a n < 2 ^ (8 * n) := by
  have h := leNat_lt ((List.range n).map fun i => q.dmByte (a + i))
  rwa [List.length_map, List.length_range, ← dmRead_eq] at h

/-- Bytes put in a row at rising keys stand where they were put, and every other key keeps its byte. -/
theorem sget_foldl_zipIdx (a : Nat) (d : Byte) : ∀ (bs : List Byte) (k : Nat) (m : SMap Byte) (x : Nat),
    sget d ((bs.zipIdx k).foldl (fun m (b, i) => sput d m (a + i) b) m) x =
      if a + k ≤ x ∧ x < a + k + bs.length then (bs[x - (a + k)]?).getD d else sget d m x
  | [], k, m, x => by simp
  | b :: bs, k, m, x => by
    rw [List.zipIdx_cons, List.foldl_cons, sget_foldl_zipIdx a d bs (k + 1)]
    by_cases hx : x = a + k
    · subst hx
      simp
    · simp only [List.length_cons, sget_sput_other d m b hx]
      by_cases h : a + (k + 1) ≤ x ∧ x < a + (k + 1) + bs.length
      · rw [if_pos h, if_pos (by omega), show x - (a + k) = (x - (a + (k + 1))) + 1 by omega, List.getElem?_cons_succ]
      · rw [if_neg h, if_neg (by omega)]

theorem dmByte_dmWrite (q : Seq) (a n v x : Nat) :
    (q.dmWrite a n v).dmByte x = if a ≤ x ∧ x < a + n then BitVec.ofNat 8 (v / 2 ^ (8 * (x - a))) else q.dmByte x := by
  have h := sget_foldl_zipIdx a 0 (toLe n v) 0 q.dmem x
  simp only [Nat.add_zero, length_toLe] at h
  refine h.trans ?_
  split
  · rename_i hx
    rw [getElem?_toLe n v (x - a) (by omega), Option.getD_some]
  · rfl

theorem dmByte_dmWrite_outside {q : Seq} {a n v x : Nat} (h : x < a ∨ a + n ≤ x) :
    (q.dmWrite a n v).dmByte x = q.dmByte x := by
  rw [dmByte_dmWrite, if_neg (by omega)]

theorem dmRead_congr {q r : Seq} {a n : Nat} (h : ∀ i, i < n → q.dmByte (a + i) = r.dmByte (a + i)) :
    q.dmRead a n = r.dmRead a n := by
  rw [dmRead_eq, dmRead_eq, List.map_congr_left fun i hi => h i (List.mem_range.mp hi)]

theorem dmRead_dmWrite_outside (q : Seq) {a n b m : Nat} (v : Nat) (h : b + m ≤ a ∨ a + n ≤ b) :
    (q.dmWrite a n v).dmRead b m = q.dmRead b m :=
  dmRead_congr fun i hi => dmByte_dmWrite_outside (by omega)

theorem toLe_eq_map (n v : Nat) : toLe n v = (List.range n).map fun i => BitVec.ofNat 8 (v / 2 ^ (8 * i)) := by
  apply List.ext_getElem?
  intro i
  by_cases h : i < n
  · rw [getElem?_toLe n v i h]
    simp [h]
  · simp [h]

theorem dmRead_dmWrite_same (q : Seq) (a n v : Nat) : (q.dmWrite a n v).dmRead a n = v % 2 ^ (8 * n) := by
  have hbytes : (List.range n).map (fun i => (q.dmWrite a n v).dmByte (a + i)) = toLe n v := by
    rw [toLe_eq_map]
    refine List.map_congr_left fun i hi => ?_
    have hin := List.mem_range.mp hi
    rw [dmByte_dmWrite, if_pos (by omega), Nat.add_sub_cancel_left]
  rw [dmRead_eq, hbytes, leNat_toLe]

/-! ### Registers (R179) -/

@[simp] theorem setWinReg_curWin (q : Seq) (w i : Nat) (v : Reg) : (q.setWinReg w i v).curWin = q.curWin := rfl

theorem toNat_ne_of_ne {r c : RegCode} (h : r ≠ c) : r.toNat ≠ c.toNat := fun e => h (BitVec.eq_of_toNat_eq e)

theorem reg_setReg_same (q : Seq) (rd : RegCode) (v : Reg) :
    (q.setReg rd v).reg rd = if rd = 16 then 0 else v := by
  have hk0 : rd = 16 ↔ rd.toNat = 16 := ⟨fun e => by rw [e]; rfl, fun e => BitVec.eq_of_toNat_eq e⟩
  simp only [hk0]
  by_cases h1 : rd.toNat < 16
  · simp [Seq.setReg, Seq.reg, h1, show rd.toNat ≠ 16 by omega]
  · by_cases h2 : rd.toNat = 16
    · simp [Seq.reg, h2]
    · simp [Seq.setReg, Seq.reg, h1, h2]

theorem reg_setReg_other {q : Seq} {rd r : RegCode} (v : Reg) (h : r ≠ rd) : (q.setReg rd v).reg r = q.reg r := by
  have hne := toNat_ne_of_ne h
  simp only [Seq.reg, setReg_curWin]
  by_cases h1 : rd.toNat < 16
  · simp only [Seq.setReg, h1, if_true]
    by_cases h2 : r.toNat < 16
    · simp only [h2, if_true]
      exact winReg_setWinReg_ne q v (by omega) h1 h2
    · simp only [h2, if_false]
      rfl
  · by_cases h2 : rd.toNat = 16
    · simp [Seq.setReg, h2]
    · simp only [Seq.setReg, h1, h2, if_false]
      by_cases h3 : r.toNat < 16
      · simp only [h3, if_true]
        rfl
      · by_cases h4 : r.toNat = 16
        · simp [h4]
        · simp only [h3, h4, if_false]
          exact sget_sput_other _ _ _ (by omega)

theorem winReg_setReg_other {q : Seq} {rd : RegCode} (v : Reg) {w n : Nat} (hn : n < 16) (hw : w ≠ q.curWin) :
    (q.setReg rd v).winReg w n = q.winReg w n := by
  unfold Seq.setReg
  split
  · rename_i h
    exact winReg_setWinReg_ne q v (fun e => hw e.1) h hn
  · split <;> rfl

/-- A register write leaves everything but the registers alone. -/
theorem setReg_frame (q : Seq) (rd : RegCode) (v : Reg) :
    (q.setReg rd v).dmem = q.dmem ∧ (q.setReg rd v).imem = q.imem ∧ (q.setReg rd v).f = q.f ∧ (q.setReg rd v).pc = q.pc := by
  unfold Seq.setReg
  split
  · exact ⟨rfl, rfl, rfl, rfl⟩
  · split <;> exact ⟨rfl, rfl, rfl, rfl⟩

/-- Settles O5. -/
theorem registerWritesAndStores : Obligations.RegisterWritesAndStores := by
  unfold Obligations.RegisterWritesAndStores
  refine ⟨fun q rd r v w n _ _ => ⟨reg_setReg_same q rd v, reg_setReg_other v, winReg_setReg_other v, setReg_frame q rd v⟩,
    fun q a n v b m => ⟨dmRead_dmWrite_same q a n v, dmRead_dmWrite_outside q v, fun i hi => ?_⟩⟩
  rw [dmRead_one, dmByte_dmWrite, if_pos (by omega), Nat.add_sub_cancel_left, BitVec.toNat_ofNat]

/-! ### Loads and stores -/

theorem toInt_eq_bitVec (w x : Nat) (hw : 0 < w) : toInt w x = (BitVec.ofNat w x).toInt := by
  obtain ⟨k, rfl⟩ : ∃ k, w = k + 1 := ⟨w - 1, by omega⟩
  have hpow : 2 ^ (k + 1) = 2 * 2 ^ k := pow_succ' 2 k
  rw [toInt, BitVec.toInt_eq_toNat_cond, BitVec.toNat_ofNat, Nat.add_sub_cancel]
  split <;> split <;> first | rfl | omega

theorem signExtend_read {n x : Nat} (hn : 0 < n) :
    BitVec.ofInt 32 (toInt (8 * n) x) = (BitVec.ofNat (8 * n) x).signExtend 32 := by
  rw [toInt_eq_bitVec _ _ (by omega)]
  rfl

theorem setWidth_read {n x : Nat} (hx : x < 2 ^ (8 * n)) : BitVec.ofNat 32 x = (BitVec.ofNat (8 * n) x).setWidth 32 := by
  apply BitVec.eq_of_toNat_eq
  simp [Nat.mod_eq_of_lt hx]

/-- An aligned access to data memory meets its bytes. -/
theorem seqMem_dmem {s : State} {c n : Nat} {a : Reg} (data : Option (List Byte)) (hal : a.toNat % n = 0)
    (ha : a.toNat < 0x10000) :
    s.seqMem c a n data = (match data with
      | none => .ok ((List.range n).map fun i => (s.seq c).dmByte (a.toNat + i)) s
      | some d => .ok [] (s.updSeq c fun q => q.dmWrite a.toNat n (leNat d))) := by
  unfold State.seqMem
  dsimp only
  rw [if_neg (not_not.mpr hal), if_pos ha]
  cases data <;> rfl

theorem seqLoad_gives {s : State} {c : ClId} {rd ra : RegCode} {off : BitVec 16} {n : Nat} {sg : Bool} {v : Reg}
    (hi : s.issues c = true) (hd : codeOk rd = true) (hra : codeOk ra = true)
    (hal : ((s.seq c).ea ra (off.signExtend 32)).toNat % n = 0) (ha : ((s.seq c).ea ra (off.signExtend 32)).toNat < 0x10000)
    (hv : (if sg then BitVec.ofInt 32 (toInt (8 * n) ((s.seq c).dmRead ((s.seq c).ea ra (off.signExtend 32)).toNat n))
      else BitVec.ofNat 32 ((s.seq c).dmRead ((s.seq c).ea ra (off.signExtend 32)).toNat n)) = v) :
    seqAct c s (·.seqLoad c.val rd ra off n sg) = .next (s.updSeq c fun q => (q.setReg rd v).next) := by
  rw [seqAct_issues hi]
  simp only [State.seqLoad, hd, hra, Bool.and_self, if_true, seqMem_dmem none hal ha]
  rw [← hv]
  rfl

theorem seqStore_puts {s : State} {c : ClId} {rs ra : RegCode} {off : BitVec 16} {n : Nat}
    (hi : s.issues c = true) (hs : codeOk rs = true) (hra : codeOk ra = true)
    (hal : ((s.seq c).ea ra (off.signExtend 32)).toNat % n = 0) (ha : ((s.seq c).ea ra (off.signExtend 32)).toNat < 0x10000) :
    seqAct c s (·.seqStore c.val rs ra off n) = .next (s.updSeq c fun r =>
      (r.dmWrite ((s.seq c).ea ra (off.signExtend 32)).toNat n (((s.seq c).reg rs).toNat % 2 ^ (8 * n))).next) := by
  rw [seqAct_issues hi]
  simp only [State.seqStore, hs, hra, Bool.and_self, if_true, seqMem_dmem (some _) hal ha, updSeq_updSeq, leNat_toLe]

/-- Settles O7. -/
theorem dataMemoryInstructions : Obligations.DataMemoryInstructions := by
  unfold Obligations.DataMemoryInstructions
  intro s c rd ra off hi hd hra q a ha
  have hlt := fun n => dmRead_lt q a n
  refine ⟨?_, ?_, fun h2 => ⟨?_, ?_⟩, fun h4 => ?_, ?_, fun h2 => ?_, fun h4 => ?_⟩
  · exact seqLoad_gives hi hd hra (Nat.mod_one _) ha (signExtend_read (by decide))
  · exact seqLoad_gives hi hd hra (Nat.mod_one _) ha (setWidth_read (hlt 1))
  · exact seqLoad_gives hi hd hra h2 ha (signExtend_read (by decide))
  · exact seqLoad_gives hi hd hra h2 ha (setWidth_read (hlt 2))
  · exact seqLoad_gives hi hd hra h4 ha rfl
  · exact seqStore_puts hi hd hra (Nat.mod_one _) ha
  · exact seqStore_puts hi hd hra h2 ha
  · exact seqStore_puts hi hd hra h4 ha

/-! ### Traps (R183) -/

/-- The state in which an instruction traps outside the handler. -/
def State.trapped (s : State) (c : Nat) (cause : Byte) : State :=
  s.updSeq c fun q =>
    { q with tpc := q.pc, cause := cause, twin := BitVec.ofNat 4 ((q.topSlot.bind (·.frame)).getD 15), trapSlot := q.top,
             biv := true, waiting := false, pc := 0xFFFFF000 }

theorem trap_eq_trapped {s : State} {c cause : Nat} (h : (s.seq c).biv = false) :
    s.trap c cause = s.trapped c (BitVec.ofNat 8 cause) := by
  rw [trap_outside h]
  exact updSeq_congr s c rfl

/-- An instruction whose effect is a trap goes to the handler. -/
theorem seqAct_traps {s : State} {c : ClId} (f : State → State) {cause : Nat} (hi : s.issues c = true)
    (hb : (s.seq c).biv = false) (hf : f s = s.trap c cause) :
    seqAct c s f = .next (s.trapped c (BitVec.ofNat 8 cause)) := by
  rw [seqAct_issues hi, hf, trap_eq_trapped hb]

theorem and_eq_false_of_not {a b : Bool} (h : ¬ (a = true ∧ b = true)) : (a && b) = false := by
  rw [Bool.eq_false_iff]; simpa using h

theorem intOp_traps {s : State} {c : ClId} {rd ra : RegCode} {b : Src} {f : Reg → Reg → Reg} (hi : s.issues c = true)
    (hb : (s.seq c).biv = false) (h : ¬ (codeOk rd = true ∧ codeOk ra = true ∧ srcOk b = true)) :
    seqAct c s (·.intOp c.val rd ra b f) = .next (s.trapped c 4) := by
  have hbad : (codeOk rd && codeOk ra && srcOk b) = false := by
    rw [Bool.eq_false_iff]; simpa [and_assoc] using h
  exact seqAct_traps _ hi hb (by simp [State.intOp, hbad])

theorem branch_traps {s : State} {c : ClId} {ra : RegCode} {off : BitVec 16} {t : Reg → Bool} (hi : s.issues c = true)
    (hb : (s.seq c).biv = false) (h : codeOk ra = false) :
    seqAct c s (·.branch c.val ra off t) = .next (s.trapped c 4) :=
  seqAct_traps _ hi hb (by simp [State.branch, h])

theorem seqLoad_traps_code {s : State} {c : ClId} {rd ra : RegCode} {off : BitVec 16} {n : Nat} {sg : Bool}
    (hi : s.issues c = true) (hb : (s.seq c).biv = false) (h : ¬ (codeOk rd = true ∧ codeOk ra = true)) :
    seqAct c s (·.seqLoad c.val rd ra off n sg) = .next (s.trapped c 4) :=
  seqAct_traps _ hi hb (by simp [State.seqLoad, and_eq_false_of_not h])

theorem seqStore_traps_code {s : State} {c : ClId} {rs ra : RegCode} {off : BitVec 16} {n : Nat}
    (hi : s.issues c = true) (hb : (s.seq c).biv = false) (h : ¬ (codeOk rs = true ∧ codeOk ra = true)) :
    seqAct c s (·.seqStore c.val rs ra off n) = .next (s.trapped c 4) :=
  seqAct_traps _ hi hb (by simp [State.seqStore, and_eq_false_of_not h])

theorem seqLoad_traps {s : State} {c : ClId} {rd ra : RegCode} {off : BitVec 16} {n cause : Nat} {sg : Bool}
    (hi : s.issues c = true) (hb : (s.seq c).biv = false) (hd : codeOk rd = true) (hra : codeOk ra = true)
    (hm : ∀ data, s.seqMem c ((s.seq c).ea ra (off.signExtend 32)) n data = .trap cause) :
    seqAct c s (·.seqLoad c.val rd ra off n sg) = .next (s.trapped c (BitVec.ofNat 8 cause)) :=
  seqAct_traps _ hi hb (by simp only [State.seqLoad, hd, hra, Bool.and_self, if_true, hm])

theorem seqStore_traps {s : State} {c : ClId} {rs ra : RegCode} {off : BitVec 16} {n cause : Nat}
    (hi : s.issues c = true) (hb : (s.seq c).biv = false) (hd : codeOk rs = true) (hra : codeOk ra = true)
    (hm : ∀ data, s.seqMem c ((s.seq c).ea ra (off.signExtend 32)) n data = .trap cause) :
    seqAct c s (·.seqStore c.val rs ra off n) = .next (s.trapped c (BitVec.ofNat 8 cause)) :=
  seqAct_traps _ hi hb (by simp only [State.seqStore, hd, hra, Bool.and_self, if_true, hm])

/-- Alignment is judged before the address (log 44). -/
theorem seqMem_misaligned {s : State} {c n : Nat} {a : Reg} (h : a.toNat % n ≠ 0) (data : Option (List Byte)) :
    s.seqMem c a n data = .trap 6 := by
  unfold State.seqMem
  dsimp only
  rw [if_pos h]

theorem seqMem_outside {s : State} {c n : Nat} {a : Reg} (hal : a.toNat % n = 0) (hd : 0x10000 ≤ a.toNat)
    (hw : ¬ (0x1000000 ≤ a.toNat ∧ a.toNat < 0x2000000)) (data : Option (List Byte)) :
    s.seqMem c a n data = .trap 5 := by
  have hw' : (decide (0x1000000 ≤ a.toNat) && decide (a.toNat < 0x2000000)) = false := by
    rw [Bool.eq_false_iff]; simpa using hw
  unfold State.seqMem
  dsimp only
  rw [if_neg (not_not.mpr hal), if_neg (Nat.not_lt.mpr hd), hw']
  rfl

theorem issues_iff (s : State) (c : ClId) : s.issues c = true ↔ s.live = true ∧ s.seqClocked c.val = true ∧
    ((s.seq c).biv = true ∨ (s.seq c).nest ≠ []) ∧ (s.seq c).waiting = false ∧ (s.seq c).fetchOk = true := by
  simp [State.issues, State.seqReady, and_assoc]

/-- An undefined opcode that issues traps. -/
theorem exec_illegalInstruction_opcode {s : State} {c : ClId} {k : IllegalKind} (hk : ∀ a, k ≠ .fetch a)
    (hi : s.issues c = true) (hb : (s.seq c).biv = false) : exec (.illegalInstruction c k) s = .next (s.trapped c 4) := by
  obtain ⟨hlive, hclk, hrun, hwait, hfetch⟩ := (issues_iff s c).mp hi
  have hruns : (s.seqClocked c.val && ((s.seq c).biv || !(s.seq c).nest.isEmpty) && !(s.seq c).waiting) = true := by
    simpa [hclk, hwait] using hrun
  show execIllegalInstruction c k s = _
  rw [execIllegalInstruction, act_live hlive]
  cases k with
  | fetch a => exact absurd rfl (hk a)
  | _ =>
    simp only [hruns, hfetch, Bool.and_self, if_true]
    rw [trap_eq_trapped hb]
    rfl

/-- Settles O8: a bad code, then alignment, then the address, then the fetch. -/
theorem sequencerTraps : Obligations.SequencerTraps := by
  unfold Obligations.SequencerTraps
  refine ⟨fun s c rd ra b off hi hb => ?_, fun s c hlive hclk hb hnest hwait hpc => ?_⟩
  · refine ⟨fun h => ⟨intOp_traps hi hb h, intOp_traps hi hb h, intOp_traps hi hb h⟩,
      fun h => ⟨seqLoad_traps_code hi hb h, seqStore_traps_code hi hb h, ?_⟩, fun h => ⟨branch_traps hi hb h, ?_⟩,
      fun hd hra => ⟨fun h => ?_, fun h => ?_, fun hal hlo hw => ?_⟩, ?_, ?_, ?_, ?_, ?_⟩
    · exact seqAct_traps (fun s => if codeOk rd && codeOk ra then
          s.updSeq c.val (fun q => { (q.setReg rd (q.pc + 4)) with pc := q.reg ra }) else s.trap c.val 4) hi hb
        (by simp [and_eq_false_of_not h])
    · exact seqAct_traps (·.failr c.val ra) hi hb (by simp [State.failr, h])
    · have hm := seqMem_misaligned (s := s) (c := c) h
      exact ⟨seqLoad_traps hi hb hd hra hm, seqStore_traps hi hb hd hra hm⟩
    · have hm := seqMem_misaligned (s := s) (c := c) h
      exact ⟨seqLoad_traps hi hb hd hra hm, seqLoad_traps hi hb hd hra hm, seqStore_traps hi hb hd hra hm⟩
    · have hm := seqMem_outside (s := s) (c := c) hal hlo hw
      exact ⟨seqLoad_traps hi hb hd hra hm, seqStore_traps hi hb hd hra hm⟩
    · exact seqAct_traps (·.rett c.val) hi hb (by simp [State.rett, hb])
    · exact seqAct_traps (·.spillw c.val ra) hi hb (by simp [State.spillw, hb])
    · exact seqAct_traps (·.fillw c.val ra) hi hb (by simp [State.fillw, hb])
    · exact exec_illegalInstruction_opcode (by simp) hi hb
    · exact exec_illegalInstruction_opcode (by simp) hi hb
  · have hruns : (s.seqClocked c.val && ((s.seq c).biv || !(s.seq c).nest.isEmpty) && !(s.seq c).waiting) = true := by
      simp [hclk, hwait, hnest]
    have hfetch : (s.seq c).fetchOk = false := by
      rw [Bool.eq_false_iff]
      simp only [Seq.fetchOk, hb, Bool.false_and, Bool.or_false, ne_eq, Bool.and_eq_true, decide_eq_true_eq]
      omega
    show execIllegalInstruction c (.fetch (s.seq c).pc) s = _
    rw [execIllegalInstruction, act_live hlive]
    simp only [hruns, hfetch, Bool.not_false, decide_true, Bool.and_self, if_true]
    rw [trap_eq_trapped hb]
    refine congrArg _ (updSeq_congr s c ?_)
    split <;> rfl

end Sys2Proof.Machine

/-! Floating point on the sequencer (R178, R199, R534): a value's own format, results, conversions, memory and the swap. -/

namespace Sys2Proof.Machine

/-! ### A value converted to its own format -/

/-- The three fields of a word spell the word. -/
theorem fbits_fields (f : FFmt) {x : Nat} (hx : x < 2 ^ (1 + f.ebits + f.mbits)) :
    fbits f (bit x (f.mbits + f.ebits)) (fld x f.mbits f.ebits) (fld x 0 f.mbits) = x := by
  have hsign : b2n (bit x (f.mbits + f.ebits)) = x / 2 ^ (f.ebits + f.mbits) := by
    have hlt : x / 2 ^ (f.mbits + f.ebits) < 2 := by
      rw [Nat.div_lt_iff_lt_mul (by positivity)]
      rwa [show 1 + f.ebits + f.mbits = f.mbits + f.ebits + 1 by omega, pow_succ, mul_comm] at hx
    rw [bit, fld_eq_div_mod, pow_one, Nat.mod_eq_of_lt hlt, Nat.add_comm f.ebits]
    generalize x / 2 ^ (f.mbits + f.ebits) = y at hlt
    interval_cases y <;> rfl
  rw [fbits, hsign, fld_eq_div_mod, fld_eq_div_mod, pow_zero, Nat.div_one, pow_add, mul_comm (2 ^ f.ebits), ← Nat.div_div_eq_div_mul]
  have h1 := Nat.div_add_mod x (2 ^ f.mbits)
  have h2 := Nat.div_add_mod (x / 2 ^ f.mbits) (2 ^ f.ebits)
  calc x / 2 ^ f.mbits / 2 ^ f.ebits * (2 ^ f.mbits * 2 ^ f.ebits) + x / 2 ^ f.mbits % 2 ^ f.ebits * 2 ^ f.mbits + x % 2 ^ f.mbits
      = 2 ^ f.mbits * (2 ^ f.ebits * (x / 2 ^ f.mbits / 2 ^ f.ebits) + x / 2 ^ f.mbits % 2 ^ f.ebits) + x % 2 ^ f.mbits := by ring
    _ = x := by rw [h2, h1]

theorem fld_lt (x lo n : Nat) : fld x lo n < 2 ^ n := Nat.mod_lt _ (by positivity)

/-- A subnormal value or a zero is rounded to itself. -/
theorem fround_subnormal (f : FFmt) (neg : Bool) {m : Nat} (hm : m < 2 ^ f.mbits) :
    (fround f false false neg m (1 - (f.bias : Int) - f.mbits)).1 = fbits f neg 0 m := by
  unfold fround
  by_cases h0 : m = 0
  · rw [if_pos h0, h0]
  · have hlog : Nat.log2 m < f.mbits := (Nat.log2_lt h0).mpr hm
    have hq : max ((Nat.log2 m : Int) + (1 - (f.bias : Int) - f.mbits) - f.mbits) (1 - (f.bias : Int) - f.mbits) =
        1 - (f.bias : Int) - f.mbits := by omega
    have hbig : m ≠ 2 ^ (f.mbits + 1) := by rw [pow_succ]; omega
    simp [h0, hq, hbig, Nat.not_le.mpr hm]

/-- A normal value is rounded to itself. -/
theorem fround_normal (f : FFmt) (neg : Bool) {e m : Nat} (hinf : f.hasInf = true) (hm : m < 2 ^ f.mbits) (he : 0 < e)
    (htop : e < 2 ^ f.ebits - 1) :
    (fround f false false neg (2 ^ f.mbits + m) ((e : Int) - f.bias - f.mbits)).1 = fbits f neg e m := by
  unfold fround
  have hpos : 0 < 2 ^ f.mbits := by positivity
  have hlog : Nat.log2 (2 ^ f.mbits + m) = f.mbits := by
    rw [Nat.log2_eq_iff (by omega), pow_succ]; omega
  have hq : max (((f.mbits : Nat) : Int) + ((e : Int) - f.bias - f.mbits) - f.mbits) (1 - (f.bias : Int) - f.mbits) =
      (e : Int) - f.bias - f.mbits := by omega
  have hbig : 2 ^ f.mbits + m ≠ 2 ^ (f.mbits + 1) := by rw [pow_succ]; omega
  have hexp : ((e : Int) - f.bias - f.mbits + f.bias + f.mbits).toNat = e := by omega
  have hzero : 2 ^ f.mbits + m ≠ 0 := by omega
  simp only [hlog, hq, hzero, hbig, hexp, hinf, le_refl, if_true, if_false, sub_self, Int.toNat_zero, pow_zero, mul_one,
    decide_false, Bool.false_eq_true, Nat.le_add_right, Nat.not_le.mpr htop, Nat.add_sub_cancel_left]

theorem froundVal_fdecode (f : FFmt) (hinf : f.hasInf = true) {x : Nat} (hx : x < 2 ^ (1 + f.ebits + f.mbits))
    (hnan : ∀ b, fdecode f false x ≠ .nan b) : (froundVal f false false (fdecode f false x)).1 = x := by
  have hfields := fbits_fields f hx
  have hm := fld_lt x 0 f.mbits
  have he := fld_lt x f.mbits f.ebits
  unfold fdecode at hnan ⊢
  simp only [hinf, Bool.true_and, Bool.not_true, Bool.false_and, Bool.false_eq_true, if_false, decide_eq_true_eq] at hnan ⊢
  by_cases htop : fld x f.mbits f.ebits = 2 ^ f.ebits - 1
  · rw [if_pos htop] at hnan ⊢
    by_cases hzero : fld x 0 f.mbits = 0
    · rw [if_pos hzero, froundVal, finf, if_pos hinf]
      rwa [htop, hzero] at hfields
    · rw [if_neg hzero] at hnan
      exact absurd rfl (hnan _)
  · rw [if_neg htop]
    by_cases hsub : fld x f.mbits f.ebits = 0
    · rw [if_pos hsub, froundVal, fround_subnormal f _ hm]
      rwa [hsub] at hfields
    · rw [if_neg hsub, froundVal, fround_normal f _ hinf hm (by omega) (by omega)]
      exact hfields

/-- Settles O9: both formats have infinities, and their fields spell the word again. -/
theorem floatRoundTrip : Obligations.FloatRoundTrip := by
  unfold Obligations.FloatRoundTrip
  rintro f x (rfl | rfl) hx hnan
  · exact froundVal_fdecode fp32 rfl hx hnan
  · exact froundVal_fdecode fp64 rfl hx hnan

/-! ### Floating-point instructions that issue -/

/-- A floating-point instruction with existing codes takes the registers over and has its effect. -/
theorem fpOp_gives {s : State} {c : ClId} {ok : Bool} {f : Seq → Seq} {r : Seq} (hok : ok = true)
    (hr : f (s.seq c).fpSwap = r) : s.fpOp c ok f = s.updSeq c fun _ => r.next := by
  rw [State.fpOp, hok, if_pos rfl]
  exact updSeq_congr s c (by rw [hr])

theorem exec_fpOp {s : State} {c : ClId} {ok : Bool} {f : Seq → Seq} {r : Seq} (hi : s.issues c = true) (hok : ok = true)
    (hr : f (s.seq c).fpSwap = r) : seqAct c s (fun s => s.fpOp c ok f) = .next (s.updSeq c fun _ => r.next) := by
  rw [seqAct_issues hi, fpOp_gives hok hr]

theorem fpRel_spec (x y : FVal) :
    let ordered := ¬ (x.isNan = true ∨ y.isNan = true)
    (fpRel 0 x y = true ↔ ordered ∧ fcompare x y = 0) ∧ (fpRel 1 x y = true ↔ ordered ∧ fcompare x y < 0) ∧
    (fpRel 2 x y = true ↔ ordered ∧ fcompare x y ≤ 0) ∧ (fpRel 3 x y = true ↔ ¬ ordered) := by
  cases hx : x.isNan <;> cases hy : y.isNan <;> simp [fpRel, hx, hy]

theorem fpPick_less {f : FFmt} {x y : FVal} {bx bY : Nat} (hord : ¬ (x.isNan = true ∨ y.isNan = true)) (h : fcompare x y < 0) :
    fpPick f false x y bx bY = bx ∧ fpPick f true x y bx bY = bY := by
  obtain ⟨hx, hy⟩ := not_or.mp hord
  simp [fpPick, hx, hy, h]

theorem fpPick_greater {f : FFmt} {x y : FVal} {bx bY : Nat} (hord : ¬ (x.isNan = true ∨ y.isNan = true)) (h : fcompare x y > 0) :
    fpPick f false x y bx bY = bY ∧ fpPick f true x y bx bY = bx := by
  obtain ⟨hx, hy⟩ := not_or.mp hord
  have h1 : ¬ fcompare x y < 0 := by omega
  have h2 : fcompare x y ≠ 0 := by omega
  simp [fpPick, hx, hy, h1, h2]

theorem fpPick_one_nan {f : FFmt} (greater : Bool) {x y : FVal} (bx bY : Nat) (hx : x.isNan = true) (hy : y.isNan = false) :
    fpPick f greater x y bx bY = bY := by simp [fpPick, hx, hy]

theorem fpPick_both_nan {f : FFmt} (greater : Bool) {x y : FVal} (bx bY : Nat) (hx : x.isNan = true) (hy : y.isNan = true) :
    fpPick f greater x y bx bY = f.qnan := by simp [fpPick, hx, hy]

/-- Settles O10: every instruction is the shared operation, whose function is the rounding or the choice. -/
theorem floatingPointResults : Obligations.FloatingPointResults := by
  unfold Obligations.FloatingPointResults
  intro s c d a b x p hi hd ha hb hx q gives sets f va vb ordered
  have hok : (fcodeOk d && fcodeOk a && fcodeOk b) = true := by simp [hd, ha, hb]
  have hokx : (fcodeOk d && fcodeOk a && fcodeOk b && fcodeOk x) = true := by simp [hd, ha, hb, hx]
  have hcode : codeOk d = true := by
    simp only [fcodeOk, codeOk, decide_eq_true_eq] at hd ⊢; omega
  have hokc : (codeOk d && fcodeOk a && fcodeOk b) = true := by simp [hcode, ha, hb]
  have hcmp : ∀ (fn : RegCode) (v : Reg), fn.toNat < 4 → (if fpRel fn.toNat va vb then 1 else 0) = v →
      exec (.fpcmp c d a b fn p) s = .next (sets v) := fun fn v hfn hv =>
    exec_fpOp hi (by simp [hcode, ha, hb, hfn]) (congrArg (q.setReg d) hv)
  have hnan : ¬ ordered → (va.isNan || vb.isNan) = true := fun h => by simpa [ordered] using not_not.mp h
  obtain ⟨hrel0, hrel1, hrel2, hrel3⟩ := fpRel_spec va vb
  refine ⟨exec_fpOp hi hok rfl, exec_fpOp hi hok rfl, exec_fpOp hi hok rfl, exec_fpOp hi hok rfl, exec_fpOp hi hokx rfl,
    fun h => ⟨?_, ?_, ?_⟩, fun h hlt => ⟨?_, ?_⟩, fun h hgt => ⟨?_, ?_⟩, fun h1 h2 => ⟨?_, ?_⟩, fun h1 h2 => ⟨?_, ?_⟩, ?_, ?_, ?_, ?_⟩
  · exact exec_fpOp hi hok (congrArg (q.setF d) (congrArg Prod.fst (if_pos (hnan h))))
  · exact exec_fpOp hi hok (congrArg (q.setF d) (congrArg Prod.fst (if_pos (hnan h))))
  · exact exec_fpOp hi hok (congrArg (q.setF d) (congrArg Prod.fst (if_pos (hnan h))))
  · exact exec_fpOp hi hok (congrArg (q.setF d) (fpPick_less h hlt).1)
  · exact exec_fpOp hi hok (congrArg (q.setF d) (fpPick_less h hlt).2)
  · exact exec_fpOp hi hok (congrArg (q.setF d) (fpPick_greater h hgt).1)
  · exact exec_fpOp hi hok (congrArg (q.setF d) (fpPick_greater h hgt).2)
  · exact exec_fpOp hi hok (congrArg (q.setF d) (fpPick_one_nan false _ _ h1 h2))
  · exact exec_fpOp hi hok (congrArg (q.setF d) (fpPick_one_nan true _ _ h1 h2))
  · exact exec_fpOp hi hok (congrArg (q.setF d) (fpPick_both_nan false _ _ h1 h2))
  · exact exec_fpOp hi hok (congrArg (q.setF d) (fpPick_both_nan true _ _ h1 h2))
  · exact hcmp 0 _ (by decide) (if_congr hrel0 rfl rfl)
  · exact hcmp 1 _ (by decide) (if_congr hrel1 rfl rfl)
  · exact hcmp 2 _ (by decide) (if_congr hrel2 rfl rfl)
  · exact hcmp 3 _ (by decide) ((if_congr hrel3 rfl rfl).trans (ite_not _ _ _))

/-! ### Conversions and moves -/

/-- Inverting the highest bit of a word adds or takes away its weight. -/
theorem xor_two_pow {x k : Nat} (h : x < 2 ^ (k + 1)) : x ^^^ 2 ^ k = if x < 2 ^ k then x + 2 ^ k else x - 2 ^ k := by
  have hlow : ∀ y, y < 2 ^ k → y ^^^ 2 ^ k = 2 ^ k + y := fun y hy => by
    apply Nat.eq_of_testBit_eq
    intro i
    rw [Nat.testBit_xor, Nat.testBit_two_pow]
    rcases lt_trichotomy i k with hik | rfl | hik
    · rw [Nat.testBit_two_pow_add_gt hik, decide_eq_false (by omega), Bool.xor_false]
    · simp [Nat.testBit_two_pow_add_eq]
    · have hle : 2 ^ (k + 1) ≤ 2 ^ i := Nat.pow_le_pow_right (by decide) hik
      rw [pow_succ] at hle
      rw [Nat.testBit_lt_two_pow (show y < 2 ^ i by omega), Nat.testBit_lt_two_pow (show 2 ^ k + y < 2 ^ i by omega),
        decide_eq_false (by omega), Bool.xor_false]
  rw [pow_succ] at h
  split
  · rename_i hx
    rw [hlow x hx, Nat.add_comm]
  · rename_i hx
    have hy := hlow (x - 2 ^ k) (by omega)
    rw [Nat.add_sub_cancel' (by omega)] at hy
    calc x ^^^ 2 ^ k = (x - 2 ^ k ^^^ 2 ^ k) ^^^ 2 ^ k := by rw [hy]
      _ = x - 2 ^ k := by rw [Nat.xor_assoc, Nat.xor_self, Nat.xor_zero]

theorem seq_fbits_lt (q : Seq) (p : Bool) (a : RegCode) : q.fbits p a < 2 ^ ((if p then 31 else 63) + 1) := by
  have h := (sget 0 q.f a.toNat).isLt
  cases p with
  | true => simp only [Seq.fbits, if_true]; omega
  | false => simpa [Seq.fbits] using h

/-- What each function code of FPCVT does (R534). -/
theorem fpcvt_codes (s : State) (c : Nat) (d a : RegCode) (p : Bool) :
    let toInt32 := fun (t : Bool) (lo hi : Int) => s.fpOp c (codeOk d && fcodeOk a) fun q =>
      q.setReg d (BitVec.ofInt 32 (fpToInt t lo hi (q.fval p a)))
    s.fpcvt c d a 0 p = s.fpOp c (fcodeOk d && fcodeOk a) (fun q => q.setF d (froundVal (fpFmt p) false false (q.fval (!p) a)).1) ∧
    s.fpcvt c d a 1 p = s.fpOp c (fcodeOk d && codeOk a) (fun q =>
      q.setF d (fround (fpFmt p) false false (decide ((q.reg a).toInt < 0)) (q.reg a).toInt.natAbs 0).1) ∧
    s.fpcvt c d a 2 p = s.fpOp c (fcodeOk d && codeOk a) (fun q => q.setF d (fround (fpFmt p) false false false (q.reg a).toNat 0).1) ∧
    s.fpcvt c d a 3 p = toInt32 true (-2147483648) 2147483647 ∧
    s.fpcvt c d a 4 p = toInt32 true 0 4294967295 ∧
    s.fpcvt c d a 5 p = toInt32 false (-2147483648) 2147483647 := by
  refine ⟨?_, ?_, ?_, ?_, ?_, ?_⟩ <;> simp [State.fpcvt]

/-- What each function code of FPMOV does (R534). -/
theorem fpmov_codes (s : State) (c : Nat) (d a : RegCode) (p : Bool) :
    let sign := if p then 31 else 63
    s.fpmov c d a 0 p = s.fpOp c (fcodeOk d && fcodeOk a) (fun q => q.setF d (sget 0 q.f a.toNat).toNat) ∧
    s.fpmov c d a 1 p = s.fpOp c (fcodeOk d && fcodeOk a) (fun q => q.setF d (q.fbits p a ^^^ 2 ^ sign)) ∧
    s.fpmov c d a 2 p = s.fpOp c (fcodeOk d && fcodeOk a) (fun q => q.setF d (q.fbits p a % 2 ^ sign)) ∧
    s.fpmov c d a 3 p = s.fpOp c (fcodeOk d && codeOk a) (fun q => q.setF d (q.reg a).toNat) ∧
    s.fpmov c d a 4 p = s.fpOp c (fcodeOk d && codeOk a) (fun q =>
      q.setF d ((q.reg a).toNat * 2 ^ 32 + (sget 0 q.f d.toNat).toNat % 2 ^ 32)) ∧
    s.fpmov c d a 5 p = s.fpOp c (codeOk d && fcodeOk a) (fun q => q.setReg d (BitVec.ofNat 32 (sget 0 q.f a.toNat).toNat)) ∧
    s.fpmov c d a 6 p = s.fpOp c (codeOk d && fcodeOk a) (fun q =>
      q.setReg d (BitVec.ofNat 32 ((sget 0 q.f a.toNat).toNat / 2 ^ 32))) := by
  refine ⟨?_, ?_, ?_, ?_, ?_, ?_, ?_⟩ <;> simp [State.fpmov]

theorem exec_fpcvt {s : State} {c : ClId} {d a fn : RegCode} {p ok : Bool} {f : Seq → Seq} {r : Seq} (hi : s.issues c = true)
    (hF : s.fpcvt c d a fn p = s.fpOp c ok f) (hok : ok = true) (hr : f (s.seq c).fpSwap = r) :
    exec (.fpcvt c d a fn p) s = .next (s.updSeq c fun _ => r.next) := by
  show execFpcvt c d a fn p s = _
  rw [execFpcvt, seqAct_issues hi, hF, fpOp_gives hok hr]

theorem exec_fpmov {s : State} {c : ClId} {d a fn : RegCode} {p ok : Bool} {f : Seq → Seq} {r : Seq} (hi : s.issues c = true)
    (hF : s.fpmov c d a fn p = s.fpOp c ok f) (hok : ok = true) (hr : f (s.seq c).fpSwap = r) :
    exec (.fpmov c d a fn p) s = .next (s.updSeq c fun _ => r.next) := by
  show execFpmov c d a fn p s = _
  rw [execFpmov, seqAct_issues hi, hF, fpOp_gives hok hr]

theorem fpToInt_nan (t : Bool) (lo hi : Int) {v : FVal} (h : v.isNan = true) : fpToInt t lo hi v = 0 := by
  cases v with
  | nan => rfl
  | _ => cases h

/-- Settles O11: every function code is the shared operation with its own conversion. -/
theorem floatingPointConversions : Obligations.FloatingPointConversions := by
  unfold Obligations.FloatingPointConversions
  intro s c d a r p hi hd ha hr q gives sets f bits sign
  have hff : (fcodeOk d && fcodeOk a) = true := by simp [hd, ha]
  have hfr : (fcodeOk d && codeOk r) = true := by simp [hd, hr]
  have hrf : (codeOk r && fcodeOk a) = true := by simp [hr, ha]
  have hsign : sign = 2 ^ (if p then 31 else 63) := by cases p <;> rfl
  obtain ⟨hcvt0, -⟩ := fpcvt_codes s c d a p
  obtain ⟨-, hcvt1, hcvt2, -⟩ := fpcvt_codes s c d r p
  obtain ⟨-, -, -, hcvt3, hcvt4, hcvt5⟩ := fpcvt_codes s c r a p
  obtain ⟨hmov0, hmov1, hmov2, -⟩ := fpmov_codes s c d a p
  obtain ⟨-, -, -, hmov3, hmov4, -⟩ := fpmov_codes s c d r p
  obtain ⟨-, -, -, -, -, hmov5, hmov6⟩ := fpmov_codes s c r a p
  have hset : ∀ {x y : Int}, x = y → q.setReg r (BitVec.ofInt 32 x) = q.setReg r (BitVec.ofInt 32 y) := fun h => by rw [h]
  refine ⟨exec_fpcvt hi hcvt0 hff rfl, exec_fpcvt hi hcvt1 hfr rfl, exec_fpcvt hi hcvt2 hfr rfl, fun hnan => ?_,
    fun n m e hfin => ?_, exec_fpmov hi hmov0 hff rfl, ?_, ?_, exec_fpmov hi hmov3 hfr rfl, exec_fpmov hi hmov4 hfr rfl,
    exec_fpmov hi hmov5 hrf rfl, exec_fpmov hi hmov6 hrf rfl⟩
  · exact ⟨exec_fpcvt hi hcvt3 hrf (hset (fpToInt_nan _ _ _ hnan)), exec_fpcvt hi hcvt4 hrf (hset (fpToInt_nan _ _ _ hnan)),
      exec_fpcvt hi hcvt5 hrf (hset (fpToInt_nan _ _ _ hnan))⟩
  · have hval : ∀ t lo hi', fpToInt t lo hi' (q.fval p a) = max lo (min hi' (ftoInt t n m e).1) := fun t lo hi' => by
      rw [hfin]; rfl
    exact ⟨exec_fpcvt hi hcvt3 hrf (hset (hval _ _ _)), exec_fpcvt hi hcvt4 hrf (hset (hval _ _ _)),
      exec_fpcvt hi hcvt5 hrf (hset (hval _ _ _))⟩
  · rw [hsign]
    exact exec_fpmov hi hmov1 hff (congrArg (q.setF d) (xor_two_pow (seq_fbits_lt q p a)))
  · rw [hsign]
    exact exec_fpmov hi hmov2 hff rfl

/-! ### Memory and the swap (R199) -/

/-- Values put one behind another in data memory, k bytes each. -/
def Seq.putRow (q : Seq) (base k : Nat) (g : Nat → Nat) (n : Nat) : Seq :=
  (List.range n).foldl (fun q i => q.dmWrite (base + k * i) k (g i)) q

theorem putRow_succ (q : Seq) (base k : Nat) (g : Nat → Nat) (n : Nat) :
    q.putRow base k g (n + 1) = (q.putRow base k g n).dmWrite (base + k * n) k (g n) := by
  simp [Seq.putRow, List.range_succ]

/-- A row of values changes data memory alone. -/
theorem putRow_frame (q : Seq) (base k : Nat) (g : Nat → Nat) (n : Nat) :
    q.putRow base k g n = { q with dmem := (q.putRow base k g n).dmem } := by
  induction n with
  | zero => rfl
  | succ n ih =>
    rw [putRow_succ]
    exact (congrArg (fun r : Seq => r.dmWrite (base + k * n) k (g n)) ih).trans rfl

theorem dmRead_putRow_outside (q : Seq) (base k : Nat) (g : Nat → Nat) {b m : Nat} :
    ∀ n, (b + m ≤ base ∨ base + k * n ≤ b) → (q.putRow base k g n).dmRead b m = q.dmRead b m
  | 0, _ => rfl
  | n + 1, h => by
    rw [Nat.mul_succ] at h
    rw [putRow_succ, dmRead_dmWrite_outside _ _ (by omega), dmRead_putRow_outside q base k g n (by omega)]

theorem dmRead_putRow (q : Seq) (base k : Nat) (g : Nat → Nat) {i : Nat} :
    ∀ n, i < n → (q.putRow base k g n).dmRead (base + k * i) k = g i % 2 ^ (8 * k)
  | n + 1, h => by
    rw [putRow_succ]
    by_cases hin : i = n
    · rw [hin, dmRead_dmWrite_same]
    · have hle : k * (i + 1) ≤ k * n := Nat.mul_le_mul_left k (by omega)
      rw [Nat.mul_succ] at hle
      rw [dmRead_dmWrite_outside _ _ (by omega), dmRead_putRow q base k g n (by omega)]

/-- The floating-point registers are stored one behind another, 8 bytes each. -/
theorem storeFp_eq_putRow (q : Seq) (base : Nat) : q.storeFp base = q.putRow base 8 (fun i => (sget 0 q.f i).toNat) 16 := by
  have h : ∀ n, (List.range n).foldl (fun q i => q.dmWrite (base + 8 * i) 8 (sget 0 q.f i).toNat) q =
      q.putRow base 8 (fun i => (sget 0 q.f i).toNat) n := fun n => by
    induction n with
    | zero => rfl
    | succ n ih =>
      rw [List.range_succ, List.foldl_append, ih, putRow_succ]
      have hf : (q.putRow base 8 (fun i => (sget 0 q.f i).toNat) n).f = q.f := by rw [putRow_frame]
      simp only [List.foldl_cons, List.foldl_nil, hf]
  exact h 16

theorem storeFp_frame (q : Seq) (base : Nat) : q.storeFp base = { q with dmem := (q.storeFp base).dmem } := by
  rw [storeFp_eq_putRow]
  exact putRow_frame _ _ _ _ _

theorem storeFp_slot (q : Seq) (base i : Nat) : (q.storeFp base).slot i = q.slot i := by
  have h : (q.storeFp base).slots = q.slots := by rw [storeFp_frame]
  rw [Seq.slot, h, Seq.slot]

theorem dmRead_storeFp (q : Seq) (base : Nat) {n : Nat} (hn : n < 16) :
    (q.storeFp base).dmRead (base + 8 * n) 8 = (sget 0 q.f n).toNat := by
  rw [storeFp_eq_putRow, dmRead_putRow _ _ _ _ 16 hn]
  exact Nat.mod_eq_of_lt (sget 0 q.f n).isLt

theorem dmRead_storeFp_outside (q : Seq) {base b m : Nat} (h : b + m ≤ base ∨ base + 128 ≤ b) :
    (q.storeFp base).dmRead b m = q.dmRead b m := by
  rw [storeFp_eq_putRow, dmRead_putRow_outside _ _ _ _ 16 h]

/-- A record is loaded register by register, and nothing else changes. -/
theorem loadFp_spec (q : Seq) (base : Nat) :
    q.loadFp base = { q with f := (q.loadFp base).f } ∧
      ∀ i, i < 16 → sget 0 (q.loadFp base).f i = BitVec.ofNat 64 (q.dmRead (base + 8 * i) 8) := by
  have h : ∀ n, let r := (List.range n).foldl (fun (r : Seq) i =>
        { r with f := sput 0 r.f i (BitVec.ofNat 64 (q.dmRead (base + 8 * i) 8)) }) q
      r = { q with f := r.f } ∧ ∀ i, i < n → sget 0 r.f i = BitVec.ofNat 64 (q.dmRead (base + 8 * i) 8) := fun n => by
    induction n with
    | zero => exact ⟨rfl, fun i hi => absurd hi (Nat.not_lt_zero i)⟩
    | succ n ih =>
      obtain ⟨hframe, hread⟩ := ih
      simp only [List.range_succ, List.foldl_append, List.foldl_cons, List.foldl_nil]
      refine ⟨by conv_lhs => rw [hframe], fun i hi => ?_⟩
      by_cases hin : i = n
      · rw [hin, sget_sput_same]
      · rw [sget_sput_other _ _ _ hin, hread i (by omega)]
  exact h 16

theorem fpStoreValue_eq (q : Seq) (p : Bool) (d : RegCode) :
    q.fbits p d % 2 ^ (8 * fpBytes p) = (sget 0 q.f d.toNat).toNat % 2 ^ (8 * fpBytes p) := by
  cases p with
  | true => exact Nat.mod_mod _ _
  | false => rfl

/-- The first half of the swap: the owner's registers go into its record. -/
def Seq.storeOwner (q : Seq) : Seq :=
  match q.fpown.bind (fun j => (q.slot j).map (fun sl => (j, sl))) with
  | some (j, sl) => (q.storeFp sl.base).setSlot j (some { sl with stored := true })
  | none => q

/-- The second half of the swap: a task has what its record holds, or zeros. -/
def Seq.takeRecord (q : Seq) (i : Nat) : Seq :=
  match q.slot i with
  | some sl => if sl.stored then q.loadFp sl.base else { q with f := [] }
  | none => q

theorem fpSwap_owner {q : Seq} {i : Nat} (htop : q.top = some i) (hown : q.fpown = some i) : q.fpSwap = q := by
  unfold Seq.fpSwap
  rw [htop]
  exact if_pos hown

theorem fpSwap_other {q : Seq} {i : Nat} (htop : q.top = some i) (hown : q.fpown ≠ some i) :
    q.fpSwap = { q.storeOwner.takeRecord i with fpown := some i } := by
  unfold Seq.fpSwap
  rw [htop]
  exact if_neg hown

theorem storeOwner_none {q : Seq} (h : q.fpown = none) : q.storeOwner = q := by
  simp [Seq.storeOwner, h]

theorem storeOwner_some {q : Seq} {j : Nat} {so : Slot} (h : q.fpown = some j) (hs : q.slot j = some so) :
    q.storeOwner = (q.storeFp so.base).setSlot j (some { so with stored := true }) := by
  simp [Seq.storeOwner, h, hs]

theorem takeRecord_zeros {q : Seq} {i : Nat} {sl : Slot} (hs : q.slot i = some sl) (h : sl.stored = false) :
    q.takeRecord i = { q with f := [] } := by
  unfold Seq.takeRecord
  rw [hs]
  simp only [h, Bool.false_eq_true, if_false]

theorem takeRecord_loads {q : Seq} {i : Nat} {sl : Slot} (hs : q.slot i = some sl) (h : sl.stored = true) :
    q.takeRecord i = q.loadFp sl.base := by
  unfold Seq.takeRecord
  rw [hs]
  exact if_pos h

/-- What the swap does where a task takes the registers from another that has its slot. -/
theorem fpSwap_from {q : Seq} {i j : Nat} {sl so : Slot} (htop : q.top = some i) (hslot : q.slot i = some sl)
    (hown : q.fpown = some j) (hji : j ≠ i) (hso : q.slot j = some so) (hst : sl.stored = false) :
    q.fpSwap = { (q.storeFp so.base).setSlot j (some { so with stored := true }) with f := [], fpown := some i } := by
  have hslot' : ((q.storeFp so.base).setSlot j (some { so with stored := true })).slot i = some sl := by
    rw [slot_setSlot_ne _ _ (Ne.symm hji), storeFp_slot, hslot]
  rw [fpSwap_other htop (by rw [hown]; exact fun h => hji (Option.some.inj h)), storeOwner_some hown hso,
    takeRecord_zeros hslot' hst]

/-- An aligned FPLD from data memory. -/
theorem exec_fpld {s : State} {c : ClId} {d ra : RegCode} {p : Bool} {off : BitVec 15} (hi : s.issues c = true)
    (hcodes : (fcodeOk d && codeOk ra) = true) (hal : ((s.seq c).ea ra (off.signExtend 32)).toNat % fpBytes p = 0)
    (ha : ((s.seq c).ea ra (off.signExtend 32)).toNat < 0x10000) :
    exec (.fpld c d ra p off) s = .next (s.updSeq c fun _ => ((s.seq c).fpSwap.setF d
      ((s.seq c).fpSwap.dmRead ((s.seq c).ea ra (off.signExtend 32)).toNat (fpBytes p))).next) := by
  show execFpld c d ra p off s = _
  rw [execFpld, seqAct_issues hi, State.fpLoad, if_pos hcodes]
  dsimp only
  rw [seqMem_dmem none hal ha]
  simp only [State.swapFp, seq_updSeq, updSeq_updSeq]
  exact congrArg _ (updSeq_congr s c rfl)

/-- An aligned FPST to data memory. -/
theorem exec_fpst {s : State} {c : ClId} {d ra : RegCode} {p : Bool} {off : BitVec 15} (hi : s.issues c = true)
    (hcodes : (fcodeOk d && codeOk ra) = true) (hal : ((s.seq c).ea ra (off.signExtend 32)).toNat % fpBytes p = 0)
    (ha : ((s.seq c).ea ra (off.signExtend 32)).toNat < 0x10000) :
    exec (.fpst c d ra p off) s = .next (s.updSeq c fun _ => ((s.seq c).fpSwap.dmWrite ((s.seq c).ea ra (off.signExtend 32)).toNat
      (fpBytes p) ((sget 0 (s.seq c).fpSwap.f d.toNat).toNat % 2 ^ (8 * fpBytes p))).next) := by
  show execFpst c d ra p off s = _
  rw [execFpst, seqAct_issues hi, State.fpStore, if_pos hcodes]
  dsimp only
  rw [seqMem_dmem (some _) hal ha]
  simp only [State.swapFp, seq_updSeq, updSeq_updSeq, leNat_toLe, fpStoreValue_eq]
  exact congrArg _ (updSeq_congr s c rfl)

/-- Settles O12: the swap runs before the access, and hands the registers over by way of the records in data memory. -/
theorem floatingPointMemoryAndSwap : Obligations.FloatingPointMemoryAndSwap := by
  unfold Obligations.FloatingPointMemoryAndSwap
  refine ⟨?_, ?_⟩
  · intro s c d ra p off hi hd hra n q a ha hal
    have hcodes : (fcodeOk d && codeOk ra) = true := by simp [hd, hra]
    exact ⟨exec_fpld hi hcodes hal ha, exec_fpst hi hcodes hal ha⟩
  · intro q i j sl so htop hslot
    refine ⟨fpSwap_owner htop, fun hown hst => ?_, fun hown hji hso hst => ?_, fun hown hst => ?_⟩
    · rw [fpSwap_other htop (by simp [hown]), storeOwner_none hown, takeRecord_zeros hslot hst]
    · have hin := fun n hn => dmRead_storeFp q so.base (n := n) hn
      have hout := fun b m h => dmRead_storeFp_outside q (base := so.base) (b := b) (m := m) h
      rw [fpSwap_from htop hslot hown hji hso hst]
      generalize q.storeFp so.base = r at hin hout ⊢
      exact ⟨rfl, rfl, slot_setSlot r j (some { so with stored := true }), hin, hout⟩
    · obtain ⟨hframe, hread⟩ := loadFp_spec q sl.base
      rw [fpSwap_other htop (by simp [hown]), storeOwner_none hown, takeRecord_loads hslot hst]
      generalize q.loadFp sl.base = r at hframe hread ⊢
      refine ⟨rfl, by rw [hframe], fun n hn => ?_⟩
      show (sget 0 r.f n).toNat = _
      rw [hread n hn, BitVec.toNat_ofNat]
      exact Nat.mod_eq_of_lt (dmRead_lt q _ 8)

end Sys2Proof.Machine

/-! Windows, the trap handler, events and starts of the sequencer (R180 to R205). -/

namespace Sys2Proof.Machine

/-! ### Writing a row of registers of a window -/

/-- Values put into the registers of a window from one register on. -/
def Seq.putRegs (q : Seq) (w k : Nat) (g : Nat → Reg) (n : Nat) : Seq :=
  (List.range n).foldl (fun q i => q.setWinReg w (k + i) (g i)) q

theorem putRegs_succ (q : Seq) (w k : Nat) (g : Nat → Reg) (n : Nat) :
    q.putRegs w k g (n + 1) = (q.putRegs w k g n).setWinReg w (k + n) (g n) := by
  simp [Seq.putRegs, List.range_succ]

/-- A row of registers changes the registers alone. -/
theorem putRegs_frame (q : Seq) (w k : Nat) (g : Nat → Reg) (n : Nat) :
    q.putRegs w k g n = { q with win := (q.putRegs w k g n).win } := by
  induction n with
  | zero => rfl
  | succ n ih =>
    rw [putRegs_succ]
    exact (congrArg (fun r : Seq => r.setWinReg w (k + n) (g n)) ih).trans rfl

theorem winReg_putRegs (q : Seq) (w : Nat) {k : Nat} (g : Nat → Reg) {i : Nat} :
    ∀ n, i < n → k + n ≤ 16 → (q.putRegs w k g n).winReg w (k + i) = g i
  | n + 1, hi, hn => by
    rw [putRegs_succ]
    by_cases hin : i = n
    · rw [hin, winReg_setWinReg]
    · rw [winReg_setWinReg_ne _ _ (by omega) (by omega) (by omega), winReg_putRegs q w g n (by omega) (by omega)]

theorem winReg_putRegs_other (q : Seq) {w k v m : Nat} (g : Nat → Reg) (hm : m < 16) :
    ∀ n, k + n ≤ 16 → (v ≠ w ∨ m < k ∨ k + n ≤ m) → (q.putRegs w k g n).winReg v m = q.winReg v m
  | 0, _, _ => rfl
  | n + 1, hn, h => by
    rw [putRegs_succ, winReg_setWinReg_ne _ _ (by omega) (by omega) hm, winReg_putRegs_other q g hm n (by omega) (by omega)]

/-- The parameters of a new frame. -/
def frameReg (p : List Reg) (i : Nat) : Reg := if i < 4 then (p[i]?).getD 0 else 0

theorem initFrame_eq_putRegs (q : Seq) (w : Nat) (p : List Reg) : q.initFrame w p = q.putRegs w 0 (frameReg p) 16 := by
  simp [Seq.initFrame, Seq.putRegs, frameReg]

theorem initFrame_frame (q : Seq) (w : Nat) (p : List Reg) : q.initFrame w p = { q with win := (q.initFrame w p).win } := by
  rw [initFrame_eq_putRegs]
  exact putRegs_frame _ _ _ _ _

theorem winReg_initFrame (q : Seq) (w : Nat) (p : List Reg) {n : Nat} (hn : n < 16) :
    (q.initFrame w p).winReg w n = frameReg p n := by
  rw [initFrame_eq_putRegs]
  simpa using winReg_putRegs q w (k := 0) (frameReg p) 16 hn (by omega)

theorem winReg_initFrame_other (q : Seq) {w v : Nat} (p : List Reg) {n : Nat} (hv : v ≠ w) (hn : n < 16) :
    (q.initFrame w p).winReg v n = q.winReg v n := by
  rw [initFrame_eq_putRegs, winReg_putRegs_other _ _ hn 16 (by omega) (Or.inl hv)]

/-! ### ENTER and LEAVE (R181, R182) -/

theorem topSlot_eq {q : Seq} {i : Nat} {sl : Slot} (htop : q.top = some i) (hslot : q.slot i = some sl) : q.topSlot = some sl := by
  rw [Seq.topSlot, htop]
  exact hslot

theorem curWin_of_frame {q : Seq} {i w : Nat} {sl : Slot} (hb : q.biv = false) (htop : q.top = some i) (hslot : q.slot i = some sl)
    (hf : sl.frame = some w) : q.curWin = w := by
  simp [Seq.curWin, hb, topSlot_eq htop hslot, hf]

/-- A free window is found where none lives. -/
theorem freeWin_spec {q : Seq} {w : Nat} (h : q.freeWin = some w) : w < 11 ∧ q.liveWin w = none := by
  have hmem := List.mem_of_find?_eq_some h
  have hlive := List.find?_some h
  exact ⟨List.mem_range.mp hmem, by simpa using hlive⟩

/-- A frame that a window takes: what it holds, and what stays. -/
theorem openFrame_spec (q : Seq) (w i : Nat) (l : Link) (p : List Reg) (sl : Slot) :
    let r := ((q.openWin w i l).initFrame w p).setSlot i (some sl)
    r = { q with win := r.win, live := r.live, slots := r.slots, nextAge := q.nextAge + 1 } ∧
    r.liveWin w = some ⟨i, l, q.nextAge⟩ ∧ (∀ v, v ≠ w → r.liveWin v = q.liveWin v) ∧
    r.slot i = some sl ∧ (∀ j, j ≠ i → r.slot j = q.slot j) ∧
    (∀ n, n < 16 → r.winReg w n = frameReg p n) ∧ (∀ v n, v ≠ w → n < 16 → r.winReg v n = q.winReg v n) := by
  have hframe := initFrame_frame (q.openWin w i l) w p
  have hsame := fun n hn => winReg_initFrame (q.openWin w i l) w p (n := n) hn
  have hother := fun v n hv hn => winReg_initFrame_other (q.openWin w i l) p (w := w) (v := v) (n := n) hv hn
  generalize (q.openWin w i l).initFrame w p = r at hframe hsame hother
  refine ⟨?_, ?_, fun v hv => ?_, slot_setSlot r i _, fun j hj => ?_, hsame, hother⟩
  · rw [hframe]; rfl
  · rw [hframe]; exact liveWin_setWin q w (some ⟨i, l, q.nextAge⟩)
  · rw [hframe]; exact liveWin_setWin_ne q (some ⟨i, l, q.nextAge⟩) hv
  · rw [hframe]; exact slot_setSlot_ne q _ hj

theorem exec_enter {s : State} {c : ClId} {i w : Nat} {sl : Slot} (hi : s.issues c = true) (hb : (s.seq c).biv = false)
    (htop : (s.seq c).top = some i) (hslot : (s.seq c).slot i = some sl) (hw : (s.seq c).freeWin = some w) :
    exec (.enter c) s = .next (s.updSeq c fun _ => ((((s.seq c).openWin w i (.win (s.seq c).curWin)).initFrame w
      ((List.range 4).map fun n => (s.seq c).winReg (s.seq c).curWin (12 + n))).setSlot i (some { sl with frame := some w })).next) := by
  show execEnter c s = _
  rw [execEnter, seqAct_issues hi, State.enter]
  simp only [hb, hw, htop, hslot, Option.bind_some, Option.map_some, Bool.false_eq_true, if_false]
  exact congrArg _ (updSeq_congr s c rfl)

/-- The registers that a return passes back to the caller's window v. -/
theorem exec_leave {s : State} {c : ClId} {i o v a : Nat} {sl : Slot} (hi : s.issues c = true) (hb : (s.seq c).biv = false)
    (htop : (s.seq c).top = some i) (hslot : (s.seq c).slot i = some sl)
    (hl : (s.seq c).liveWin (s.seq c).curWin = some ⟨o, .win v, a⟩) :
    exec (.leave c) s = .next (s.updSeq c fun _ => ((((s.seq c).putRegs v 12
      (fun n => (s.seq c).winReg (s.seq c).curWin n) 4).setWin (s.seq c).curWin none).setSlot i (some { sl with frame := some v })).next) := by
  have hcopy : ∀ n, n ≤ 4 → (List.range n).foldl (fun q n => q.setWinReg v (12 + n) (q.winReg (s.seq c).curWin n)) (s.seq c) =
      (s.seq c).putRegs v 12 (fun n => (s.seq c).winReg (s.seq c).curWin n) n := fun n hn => by
    induction n with
    | zero => rfl
    | succ n ih =>
      rw [List.range_succ, List.foldl_append, ih (by omega), putRegs_succ]
      simp only [List.foldl_cons, List.foldl_nil]
      rw [winReg_putRegs_other _ _ (by omega) n (by omega) (by omega)]
  show execLeave c s = _
  rw [execLeave, seqAct_issues hi, State.leave]
  simp only [hb, hl, htop, topSlot_eq htop hslot, Bool.false_eq_true, if_false]
  refine congrArg _ (updSeq_congr s c ?_)
  rw [hcopy 4 le_rfl]

/-- A return: what the caller's window holds, and what stays. -/
theorem leaveFrame_spec (q : Seq) (v i : Nat) (sl : Slot) :
    let r := ((q.putRegs v 12 (fun n => q.winReg q.curWin n) 4).setWin q.curWin none).setSlot i (some sl)
    r = { q with win := r.win, live := r.live, slots := r.slots } ∧
    r.liveWin q.curWin = none ∧ (∀ u, u ≠ q.curWin → r.liveWin u = q.liveWin u) ∧
    r.slot i = some sl ∧ (∀ j, j ≠ i → r.slot j = q.slot j) ∧
    (∀ n, n < 4 → r.winReg v (12 + n) = q.winReg q.curWin n) ∧ (∀ n, n < 12 → r.winReg v n = q.winReg v n) ∧
    (∀ u n, u ≠ v → n < 16 → r.winReg u n = q.winReg u n) := by
  have hframe := putRegs_frame q v 12 (fun n => q.winReg q.curWin n) 4
  have hnew := fun n hn => winReg_putRegs q v (k := 12) (fun n => q.winReg q.curWin n) (i := n) 4 hn le_rfl
  have hlow := fun n (hn : n < 12) => winReg_putRegs_other q (w := v) (v := v) (k := 12) (m := n)
    (fun n => q.winReg q.curWin n) (by omega) 4 (by omega) (by omega)
  have hother := fun u n (hu : u ≠ v) hn => winReg_putRegs_other q (w := v) (v := u) (k := 12) (m := n)
    (fun n => q.winReg q.curWin n) hn 4 (by omega) (Or.inl hu)
  generalize q.putRegs v 12 (fun n => q.winReg q.curWin n) 4 = r at hframe hnew hlow hother
  refine ⟨?_, ?_, fun u hu => ?_, slot_setSlot (r.setWin q.curWin none) i _, fun j hj => ?_, hnew, hlow, hother⟩
  · rw [hframe]; rfl
  · exact liveWin_setWin r q.curWin none
  · rw [hframe]; exact liveWin_setWin_ne q none hu
  · rw [hframe]; exact slot_setSlot_ne q _ hj

/-- Settles O13. -/
theorem windowInstructions : Obligations.WindowInstructions := by
  unfold Obligations.WindowInstructions
  intro s c i sl hi hb htop hslot q cur traps
  have htrap : ∀ cause : Nat, s.trap c cause = traps (BitVec.ofNat 8 cause) := fun cause => by
    rw [trap_eq_trapped hb]
    refine updSeq_congr s c ?_
    have htw : (q.topSlot.bind (·.frame)).getD 15 = sl.frame.getD 15 := by rw [topSlot_eq htop hslot]; rfl
    simp only [q] at htw
    simp only [htw]
  refine ⟨fun w hw => ?_, fun hw => ?_, fun o v a hl => ?_, fun o a hl => ?_⟩
  · have hexec := exec_enter hi hb htop hslot hw
    obtain ⟨hframe, hlive, hlive', hsl, hsl', hreg, hreg'⟩ := openFrame_spec q w i (.win cur)
      ((List.range 4).map fun n => q.winReg cur (12 + n)) { sl with frame := some w }
    generalize ((q.openWin w i (.win cur)).initFrame w ((List.range 4).map fun n => q.winReg cur (12 + n))).setSlot i
      (some { sl with frame := some w }) = r at hexec hframe hlive hlive' hsl hsl' hreg hreg'
    have hcur : r.curWin = w := curWin_of_frame (by rw [hframe]; exact hb) (by rw [hframe]; exact htop) hsl rfl
    refine ⟨r.next, hexec, by rw [hframe]; rfl, hcur, hlive, fun n hn => ?_, fun n hn hn' => ?_, hreg', hlive', hsl'⟩
    · exact (hreg n (by omega)).trans (by simp [frameReg, hn])
    · exact (hreg n hn').trans (if_neg (by omega))
  · show execEnter c s = _
    rw [execEnter, seqAct_issues hi, State.enter]
    simp only [hb, Bool.false_eq_true, if_false]
    rw [show (s.seq c).freeWin = none from hw]
    exact congrArg _ (htrap 1)
  · have hexec := exec_leave hi hb htop hslot hl
    obtain ⟨hframe, hlive, hlive', hsl, hsl', hnew, hlow, hother⟩ := leaveFrame_spec q v i { sl with frame := some v }
    generalize ((q.putRegs v 12 (fun n => q.winReg q.curWin n) 4).setWin q.curWin none).setSlot i
      (some { sl with frame := some v }) = r at hexec hframe hlive hlive' hsl hsl' hnew hlow hother
    have hcur : r.curWin = v := curWin_of_frame (by rw [hframe]; exact hb) (by rw [hframe]; exact htop) hsl rfl
    exact ⟨r.next, hexec, by rw [hframe]; rfl, hcur, hlive, hnew, hlow, hother, hlive', hsl'⟩
  · show execLeave c s = _
    rw [execLeave, seqAct_issues hi, State.leave]
    simp only [hb, show (s.seq c).liveWin (s.seq c).curWin = some ⟨o, .spilled, a⟩ from hl, Bool.false_eq_true, if_false]
    exact congrArg _ (htrap 2)

/-! ### The trap handler (R185 to R187) -/

@[simp] theorem next_slot (q : Seq) (i : Nat) : q.next.slot i = q.slot i := rfl
@[simp] theorem next_liveWin (q : Seq) (w : Nat) : q.next.liveWin w = q.liveWin w := rfl
@[simp] theorem setSlot_liveWin (q : Seq) (i w : Nat) (v : Option Slot) : (q.setSlot i v).liveWin w = q.liveWin w := rfl

theorem slot_congr {q r : Seq} (h : q.slots = r.slots) (i : Nat) : q.slot i = r.slot i := by rw [Seq.slot, h, Seq.slot]

theorem liveWin_congr {q r : Seq} (h : q.live = r.live) (w : Nat) : q.liveWin w = r.liveWin w := by
  rw [Seq.liveWin, h, Seq.liveWin]

/-- The frames whose caller's window w has been spilled are told so: the first n windows. -/
def Seq.relink (q : Seq) (owner w n : Nat) : Seq :=
  (List.range n).foldl (fun q v => match q.liveWin v with
    | some y => if y.owner = owner && y.link == .win w then q.setWin v (some { y with link := .spilled }) else q
    | none => q) q

/-- One window is told, or nothing happens: a free window stays free. -/
theorem relink_spec (q : Seq) (owner w : Nat) :
    ∀ n, q.relink owner w n = { q with live := (q.relink owner w n).live } ∧
      ∀ v, q.liveWin v = none → (q.relink owner w n).liveWin v = none
  | 0 => ⟨rfl, fun _ h => h⟩
  | n + 1 => by
    obtain ⟨hframe, hnone⟩ := relink_spec q owner w n
    rw [Seq.relink, List.range_succ, List.foldl_append, List.foldl_cons, List.foldl_nil, ← Seq.relink]
    generalize q.relink owner w n = r at hframe hnone
    cases hl : r.liveWin n with
    | none => exact ⟨hframe, hnone⟩
    | some y =>
      by_cases hy : (decide (y.owner = owner) && y.link == .win w) = true
      · simp only [hy, if_true]
        refine ⟨(congrArg (fun u : Seq => u.setWin n (some { y with link := .spilled })) hframe).trans rfl, fun v hv => ?_⟩
        have hvn : v ≠ n := fun e => by rw [← e, hnone v hv] at hl; cases hl
        exact (liveWin_setWin_ne r _ hvn).trans (hnone v hv)
      · simp only [hy, Bool.false_eq_true, if_false]
        exact ⟨hframe, hnone⟩

theorem winReg_putRow (q : Seq) (base k : Nat) (g : Nat → Nat) (n w i : Nat) :
    (q.putRow base k g n).winReg w i = q.winReg w i := by
  rw [putRow_frame]; rfl

/-- The registers of a window are stored one behind another, 4 bytes each. -/
theorem spill_eq_putRow (q : Seq) (base w : Nat) :
    (List.range 16).foldl (fun q i => q.dmWrite (base + 4 * i) 4 (q.winReg w i).toNat) q =
      q.putRow base 4 (fun i => (q.winReg w i).toNat) 16 := by
  have h : ∀ n, (List.range n).foldl (fun q i => q.dmWrite (base + 4 * i) 4 (q.winReg w i).toNat) q =
      q.putRow base 4 (fun i => (q.winReg w i).toNat) n := fun n => by
    induction n with
    | zero => rfl
    | succ n ih =>
      rw [List.range_succ, List.foldl_append, ih, putRow_succ]
      simp only [List.foldl_cons, List.foldl_nil, winReg_putRow]
  exact h 16

/-- The registers of a window are loaded one after another. -/
theorem fill_eq_putRegs (q : Seq) (a w : Nat) :
    (List.range 16).foldl (fun q n => q.setWinReg w n (BitVec.ofNat 32 (q.dmRead (a + 4 * n) 4))) q =
      q.putRegs w 0 (fun n => BitVec.ofNat 32 (q.dmRead (a + 4 * n) 4)) 16 := by
  have h : ∀ m, (List.range m).foldl (fun q n => q.setWinReg w n (BitVec.ofNat 32 (q.dmRead (a + 4 * n) 4))) q =
      q.putRegs w 0 (fun n => BitVec.ofNat 32 (q.dmRead (a + 4 * n) 4)) m := fun m => by
    induction m with
    | zero => rfl
    | succ m ih =>
      have hread : (q.putRegs w 0 (fun n => BitVec.ofNat 32 (q.dmRead (a + 4 * n) 4)) m).dmRead (a + 4 * m) 4 =
          q.dmRead (a + 4 * m) 4 := by rw [putRegs_frame]; rfl
      rw [List.range_succ, List.foldl_append, ih, putRegs_succ]
      simp only [List.foldl_cons, List.foldl_nil, hread, Nat.zero_add]
  exact h 16

/-- What SPILLW makes of the sequencer: the window w of the task in slot i is stored and free. -/
def Seq.spilled (q : Seq) (w i : Nat) (sl : Slot) : Seq :=
  ((((q.putRow sl.sptr 4 (fun n => (q.winReg w n).toNat) 16).setWin w none).relink i w 11).setSlot i
    (some { sl with sptr := sl.sptr + 64, frame := if sl.frame = some w then none else sl.frame })).next

theorem exec_spillw {s : State} {c : ClId} {ra : RegCode} {i : Nat} {sl : Slot} {x : Win} (hi : s.issues c = true)
    (hb : (s.seq c).biv = true) (hra : codeOk ra = true) (hslot : (s.seq c).slot i = some sl)
    (hw : ((s.seq c).reg ra).toNat % 16 < 11) (hx : (s.seq c).liveWin (((s.seq c).reg ra).toNat % 16) = some x)
    (ho : x.owner = i) (hroom : sl.sptr + 64 ≤ sl.lim) :
    exec (.spillw c ra) s = .next (s.updSeq c fun _ => (s.seq c).spilled (((s.seq c).reg ra).toNat % 16) i sl) := by
  show execSpillw c ra s = _
  rw [execSpillw, seqAct_issues hi, State.spillw]
  subst ho
  simp only [hb, hra, hw, hx, hslot, Bool.not_true, Bool.or_self, Bool.false_eq_true, if_false, if_true, Nat.not_lt.mpr hroom]
  refine congrArg _ (updSeq_congr s c ?_)
  simp only [spill_eq_putRow]
  rfl

theorem spilled_spec (q : Seq) (w i : Nat) (sl : Slot) :
    let r := q.spilled w i sl
    r = { q with dmem := r.dmem, live := r.live, slots := r.slots, pc := q.pc + 4 } ∧
    (∀ n, n < 16 → r.dmRead (sl.sptr + 4 * n) 4 = (q.winReg w n).toNat) ∧
    (∀ b m, b + m ≤ sl.sptr ∨ sl.sptr + 64 ≤ b → r.dmRead b m = q.dmRead b m) ∧
    r.liveWin w = none ∧
    r.slot i = some { sl with sptr := sl.sptr + 64, frame := if sl.frame = some w then none else sl.frame } ∧
    (∀ j, j ≠ i → r.slot j = q.slot j) := by
  have hframe := putRow_frame q sl.sptr 4 (fun n => (q.winReg w n).toNat) 16
  have hread : ∀ n, n < 16 → (q.putRow sl.sptr 4 (fun n => (q.winReg w n).toNat) 16).dmRead (sl.sptr + 4 * n) 4 =
      (q.winReg w n).toNat := fun n hn =>
    (dmRead_putRow q sl.sptr 4 (fun n => (q.winReg w n).toNat) 16 hn).trans (Nat.mod_eq_of_lt (q.winReg w n).isLt)
  have hout := fun b m h => dmRead_putRow_outside q sl.sptr 4 (fun n => (q.winReg w n).toNat) (b := b) (m := m) 16 h
  simp only [Seq.spilled]
  generalize q.putRow sl.sptr 4 (fun n => (q.winReg w n).toNat) 16 = r at hframe hread hout
  obtain ⟨hlink, hfree⟩ := relink_spec (r.setWin w none) i w 11
  have hnone := hfree w (liveWin_setWin r w none)
  generalize (r.setWin w none).relink i w 11 = u at hlink hnone
  have hdm : u.dmem = r.dmem := by rw [hlink]; rfl
  refine ⟨by rw [hlink, hframe]; rfl, fun n hn => ?_, fun b m hbm => ?_, hnone, ?_, fun j hj => ?_⟩
  · rw [← hread n hn, Seq.dmRead, Seq.dmRead, ← hdm]; rfl
  · rw [← hout b m hbm, Seq.dmRead, Seq.dmRead, ← hdm]; rfl
  · rw [next_slot, slot_setSlot]
  · rw [next_slot, slot_setSlot_ne u _ hj]
    exact slot_congr (by rw [hlink, hframe]; rfl) j

/-- What FILLW makes of the sequencer where no link of another frame changes: the frame below the pointer is in window w. -/
def Seq.filled (q : Seq) (w i : Nat) (sl : Slot) : Seq :=
  (((q.putRegs w 0 (fun n => BitVec.ofNat 32 (q.dmRead (sl.sptr - 64 + 4 * n) 4)) 16).openWin w i
    (if sl.sptr - 64 = sl.base + 128 then .root else .spilled)).setSlot i
      (some { sl with sptr := sl.sptr - 64, frame := if q.cause = 3 then some w else sl.frame })).next

theorem exec_fillw {s : State} {c : ClId} {ra : RegCode} {i : Nat} {sl : Slot} (hi : s.issues c = true)
    (hb : (s.seq c).biv = true) (hra : codeOk ra = true) (hslot : (s.seq c).slot i = some sl)
    (hw : ((s.seq c).reg ra).toNat % 16 < 11) (htrap : (s.seq c).trapSlot = some i)
    (hfree : (s.seq c).liveWin (((s.seq c).reg ra).toNat % 16) = none) (hsp : sl.base + 128 < sl.sptr) (hcause : (s.seq c).cause ≠ 2) :
    exec (.fillw c ra) s = .next (s.updSeq c fun _ => (s.seq c).filled (((s.seq c).reg ra).toNat % 16) i sl) := by
  show execFillw c ra s = _
  rw [execFillw, seqAct_issues hi, State.fillw]
  have hguard : (decide (11 ≤ ((s.seq c).reg ra).toNat % 16) || ((s.seq c).liveWin (((s.seq c).reg ra).toNat % 16)).isSome) = false := by
    rw [hfree, decide_eq_false (by omega)]; rfl
  simp only [hb, hra, htrap, hslot, hguard, Option.bind_some, Option.map_some, Bool.not_true, Bool.or_self, Bool.false_eq_true,
    if_false, Nat.not_le.mpr hsp]
  refine congrArg _ (updSeq_congr s c ?_)
  have hframe := putRegs_frame (s.seq c) (((s.seq c).reg ra).toNat % 16) 0
    (fun n => BitVec.ofNat 32 ((s.seq c).dmRead (sl.sptr - 64 + 4 * n) 4)) 16
  simp only [fill_eq_putRegs, Seq.filled]
  generalize (s.seq c).putRegs (((s.seq c).reg ra).toNat % 16) 0
    (fun n => BitVec.ofNat 32 ((s.seq c).dmRead (sl.sptr - 64 + 4 * n) 4)) 16 = r at hframe ⊢
  have hc : r.cause = (s.seq c).cause := by rw [hframe]
  simp only [Seq.openWin, Seq.setWin, hc, hcause, if_false]

theorem filled_spec (q : Seq) (w i : Nat) (sl : Slot) :
    let r := q.filled w i sl
    r = { q with win := r.win, live := r.live, slots := r.slots, nextAge := q.nextAge + 1, pc := q.pc + 4 } ∧
    (∀ n, n < 16 → r.winReg w n = BitVec.ofNat 32 (q.dmRead (sl.sptr - 64 + 4 * n) 4)) ∧
    (∀ v n, v ≠ w → n < 16 → r.winReg v n = q.winReg v n) ∧
    r.liveWin w = some ⟨i, if sl.sptr - 64 = sl.base + 128 then .root else .spilled, q.nextAge⟩ ∧
    (∀ v, v ≠ w → r.liveWin v = q.liveWin v) ∧
    r.slot i = some { sl with sptr := sl.sptr - 64, frame := if q.cause = 3 then some w else sl.frame } := by
  have hframe := putRegs_frame q w 0 (fun n => BitVec.ofNat 32 (q.dmRead (sl.sptr - 64 + 4 * n) 4)) 16
  have hnew := fun n hn => winReg_putRegs q w (k := 0) (fun n => BitVec.ofNat 32 (q.dmRead (sl.sptr - 64 + 4 * n) 4))
    (i := n) 16 hn le_rfl
  have hother := fun v n (hv : v ≠ w) hn => winReg_putRegs_other q (w := w) (v := v) (k := 0) (m := n)
    (fun n => BitVec.ofNat 32 (q.dmRead (sl.sptr - 64 + 4 * n) 4)) hn 16 le_rfl (Or.inl hv)
  simp only [Seq.filled]
  generalize q.putRegs w 0 (fun n => BitVec.ofNat 32 (q.dmRead (sl.sptr - 64 + 4 * n) 4)) 16 = r at hframe hnew hother
  simp only [Nat.zero_add] at hnew
  refine ⟨by rw [hframe]; rfl, hnew, hother, ?_, fun v hv => ?_, by rw [next_slot, slot_setSlot]⟩
  · rw [hframe]
    exact liveWin_setWin q w (some ⟨i, if sl.sptr - 64 = sl.base + 128 then .root else .spilled, q.nextAge⟩)
  · rw [hframe]
    exact liveWin_setWin_ne q (some ⟨i, if sl.sptr - 64 = sl.base + 128 then .root else .spilled, q.nextAge⟩) hv

/-! ### Events and the context program (R198, R202 to R205) -/

/-- A command of an issuing instruction that goes to the context program. -/
theorem exec_rdc {s : State} {c : ClId} {rd : RegCode} {v : Reg} (idx : Byte) (hi : s.issues c = true) (hd : codeOk rd = true)
    (hv : BitVec.ofNat 32 ((s.seq c).ctl idx.toNat) = v) :
    exec (.rdc c rd idx) s = .next (s.updSeq c fun q => (q.setReg rd v).next) := by
  show execRdc c rd idx s = _
  rw [execRdc, seqAct_issues hi, if_pos hd]
  exact congrArg _ (updSeq_congr s c (by rw [hv]))

theorem ctl_above {q : Seq} {idx : Nat} (h : 0x18 ≤ idx) : q.ctl idx = 0 := by
  have h1 : ∀ n, n < 0x18 → idx ≠ n := fun n hn => by omega
  have h2 : decide (idx < 0x14) = false := decide_eq_false (by omega)
  have h3 : decide (idx < 0x18) = false := decide_eq_false (by omega)
  simp only [Seq.ctl, h1 0 (by omega), h1 1 (by omega), h1 2 (by omega), h1 3 (by omega), h1 4 (by omega), h1 5 (by omega),
    h1 6 (by omega), h1 7 (by omega), h1 8 (by omega), h2, h3, Bool.and_false, Bool.false_eq_true, if_false]

/-- A sequencer that issues is ready with its wait cleared too. -/
theorem seqReady_unwait {s : State} {c : ClId} (hi : s.issues c = true) :
    (s.updSeq c fun q => { q with waiting := false }).seqReady c = true := by
  obtain ⟨-, hclk, hrun, hwait, hfetch⟩ := (issues_iff s c).mp hi
  have hq : { s.seq c with waiting := false } = s.seq c := by rw [← hwait]
  have hseq : (s.updSeq c fun q => { q with waiting := false }).seq c = s.seq c := (seq_updSeq s c _).trans hq
  have hclk' : (s.updSeq c fun q => { q with waiting := false }).seqClocked c = s.seqClocked c := by
    unfold State.seqClocked State.clocked
    rw [hseq, State.updSeq, cl_updCl]
    rfl
  simp only [State.seqReady, hseq, hclk', hclk, hwait, hfetch]
  simpa using hrun

theorem exec_waite {s : State} {c : ClId} (mask : BitVec 9) (hi : s.issues c = true) :
    exec (.waite c mask) s = .next (s.updSeq c fun q =>
      if q.evp &&& mask ≠ 0 then { q with pc := q.pc + 4 } else { q with waiting := true }) := by
  obtain ⟨hlive, -, -, hwait, -⟩ := (issues_iff s c).mp hi
  show execWaite c mask s = _
  rw [execWaite, act_live hlive]
  simp only [seqReady_unwait hi, if_true]
  refine congrArg _ (updSeq_congr s c ?_)
  have hq : { s.seq c with waiting := false } = s.seq c := by rw [← hwait]
  rw [hq]
  rfl

theorem ctxRun_registers {k : Cluster} (start : Bool) (entry : Nat) (hf : k.fill = 0) (hp : k.pause = 0) (hr : k.role ≠ 2) :
    k.ctxRun start (!start) entry = { k with sel := { k.sel with cmd := some (if start then .start entry else .park) } } := by
  have hrole : decide (k.role = 2) = false := decide_eq_false hr
  cases start <;> simp only [Cluster.ctxRun, hf, hp, hrole] <;> rfl

theorem ctxRun_cmderr {k : Cluster} (start park : Bool) (entry : Nat) (h : 0 < k.fill ∨ 0 < k.pause ∨ k.role = 2) :
    k.ctxRun start park entry = { k with sel := { k.sel with cmderr := true } } := by
  unfold Cluster.ctxRun
  rw [if_pos]
  simp only [Bool.or_eq_true, decide_eq_true_eq]
  tauto

/-- A request to the context program, and the sequencer at its next word. -/
theorem exec_ctxRun {s : State} {c : ClId} {start park : Bool} {entry : Nat} {k : Cluster} (hi : s.issues c = true)
    (hk : (s.cl c).ctxRun start park entry = k) (hseq : k.seq = s.seq c) :
    seqAct c s (fun s => (s.updCl c.val (·.ctxRun start park entry)).updSeq c.val Seq.next) =
      .next (s.setCl c { k with seq := { k.seq with pc := (s.seq c).pc + 4 } }) := by
  rw [seqAct_issues hi, State.updSeq, updCl_updCl]
  subst hk
  rw [← hseq]
  rfl

theorem exec_eventLine {s : State} {c : ClId} {line : Fin 8} (hlive : s.live = true) (h : line.val ∈ (s.seq c).lines) :
    exec (.eventLine c line) s = .next (s.updSeq c fun q =>
      { q with lines := q.lines.erase line.val, evp := q.evp ||| BitVec.ofNat 9 (2 ^ line.val) }) := by
  show execEventLine c line s = _
  rw [execEventLine, act_live hlive, if_pos (by simpa using h)]

theorem exec_rett {s : State} {c : ClId} {i v : Nat} {sl : Slot} (hi : s.issues c = true) (hb : (s.seq c).biv = true)
    (hslot : (s.seq c).slot i = some sl) (htrap : (s.seq c).trapSlot = some i) (htop : (s.seq c).top = some i)
    (halloc : sl.alloc = false) (hframe : sl.frame = some v) :
    exec (.rett c) s = .next (s.updSeq c fun q => { q with biv := false, waiting := false, trapSlot := none, pc := q.tpc }) := by
  show execRett c s = _
  rw [execRett, seqAct_issues hi, State.rett]
  simp only [hb, htrap, Bool.not_true, Bool.false_eq_true, if_false, Option.isSome_some, if_true]
  refine congrArg _ (updSeq_congr s c ?_)
  have htop' : ({ s.seq c with biv := false, waiting := false, trapSlot := none } : Seq).top = some i := htop
  have hslot' : ({ s.seq c with biv := false, waiting := false, trapSlot := none } : Seq).slot i = some sl := hslot
  unfold Seq.resumeTop
  simp only [htop', hslot', halloc, hframe, Bool.false_eq_true, if_false, Option.isNone_some, Option.getD_some]

/-- Settles O15. -/
theorem handlersAndEvents : Obligations.HandlersAndEvents := by
  unfold Obligations.HandlersAndEvents
  refine ⟨?_, ?_⟩
  · intro s c ra i sl hi hb hra hslot q w hw
    refine ⟨fun x hx ho hroom => ?_, fun htrap hfree hsp hcause => ?_, fun v htrap htop halloc hframe =>
      exec_rett hi hb hslot htrap htop halloc hframe⟩
    · exact ⟨_, exec_spillw hi hb hra hslot hw hx ho hroom, spilled_spec q w i sl⟩
    · exact ⟨_, exec_fillw hi hb hra hslot hw htrap hfree hsp hcause, filled_spec q w i sl⟩
  · intro s c rd idx mask entry hi hd q k gives
    obtain ⟨hlive, -⟩ := (issues_iff s c).mp hi
    refine ⟨exec_rdc idx hi hd rfl, ⟨exec_rdc 5 hi hd rfl, exec_rdc 6 hi hd ?_, exec_rdc 8 hi hd ?_, fun h => exec_rdc idx hi hd ?_⟩,
      ?_, fun h => ?_, fun h => ?_, ?_, fun hf hp hr => ⟨?_, ?_⟩, fun h => ⟨?_, ?_⟩, fun line h => exec_eventLine hlive h⟩
    · exact BitVec.ofNat_toNat 32 q.tpc |>.trans (BitVec.setWidth_eq _)
    · exact BitVec.ofNat_toNat 32 q.evp
    · rw [ctl_above h]; rfl
    · show execCstat c rd s = _
      rw [execCstat, seqAct_issues hi, if_pos hd]
    · rw [exec_waite mask hi]
      exact congrArg _ (updSeq_congr s c (if_pos h))
    · rw [exec_waite mask hi]
      exact congrArg _ (updSeq_congr s c (if_neg (not_not.mpr h)))
    · show execClre c mask s = _
      rw [execClre, seqAct_issues hi]
      rfl
    · exact exec_ctxRun hi (ctxRun_registers true entry.toNat hf hp hr) rfl
    · exact exec_ctxRun hi (ctxRun_registers false 0 hf hp hr) rfl
    · exact exec_ctxRun hi (ctxRun_cmderr true false entry.toNat h) rfl
    · exact exec_ctxRun hi (ctxRun_cmderr false true 0 h) rfl

end Sys2Proof.Machine

/-! Starts and pre-emptions that a sequencer takes (R190, R193 to R195). -/

namespace Sys2Proof.Machine

/-! ### Belay's record of a sequencer (R223) -/

theorem rollBelay_eq (s : State) : s.rollBelay = { s with belay := s.rollBelay.belay } := by
  unfold State.rollBelay
  split <;> rfl

@[simp] theorem rollBelay_srec (s : State) (c : Nat) : s.rollBelay.srec c = s.srec c := by
  unfold State.rollBelay
  split <;> rfl

theorem changeRec_eq (s : State) (c : Nat) (f : SeqRec → SeqRec) :
    s.changeRec c f = { s with belay := (s.changeRec c f).belay } := by
  unfold State.changeRec
  rw [rollBelay_eq]
  rfl

/-- A change of a record is made at once, and what Belay sends in this cycle still goes by the record before it. -/
theorem changeRec_spec (s : State) (c : Nat) (f : SeqRec → SeqRec) :
    (s.changeRec c f).srec c = f (s.srec c) ∧ (s.changeRec c f).recAt c = s.rollBelay.recAt c := by
  constructor
  · rw [← rollBelay_srec s]
    exact srec_setSrec _ c _
  · by_cases h : (sget none s.rollBelay.belay.before c).isSome = true
    · obtain ⟨r, hr⟩ := Option.isSome_iff_exists.mp h
      simp [State.recAt, State.changeRec, State.setBelay, State.setSrec, hr]
    · have hn : sget none s.rollBelay.belay.before c = none := by simpa using h
      simp [State.recAt, State.changeRec, State.setBelay, State.setSrec, hn, State.srec]

theorem rollBelay_same {s : State} (h : s.belay.cycle = s.now) : s.rollBelay = s := if_pos h

theorem rollBelay_new {s : State} (h : s.belay.cycle ≠ s.now) : s.rollBelay =
    s.setBelay { s.belay with cycle := s.now, taken := [], sends := [], fresh := [], before := [], sentTo := [] } := if_neg h

theorem rollBelay_updSeq (s : State) (c : Nat) (g : Seq → Seq) : (s.updSeq c g).rollBelay = s.rollBelay.updSeq c g := by
  by_cases h : s.belay.cycle = s.now
  · rw [rollBelay_same h, rollBelay_same (s := s.updSeq c g) h]
  · rw [rollBelay_new h, rollBelay_new (s := s.updSeq c g) h]
    rfl

theorem changeRec_updSeq (s : State) (c d : Nat) (g : Seq → Seq) (f : SeqRec → SeqRec) :
    (s.updSeq d g).changeRec c f = (s.changeRec c f).updSeq d g := by
  unfold State.changeRec
  rw [rollBelay_updSeq]
  rfl

/-! ### A start that is taken -/

/-- A request changes the network alone. -/
theorem sendReq_eq (s : State) (b : End) (p : Packet) : s.sendReq b p = { s with noc := (s.sendReq b p).noc } := rfl

/-- The state after a sequencer has taken a start: its own registers, Belay's record and the network. -/
def State.started (s : State) (c : Nat) (q : Seq) (n : Noc) : State :=
  { s.updSeq c (fun _ => q) with belay := (s.changeRec c fun r => { r with sent := false }).belay, noc := n }

theorem started_seq (s : State) (c : Nat) (q : Seq) (n : Noc) : (s.started c q n).seq c = q :=
  seq_updSeq s c fun _ => q

/-- Belay may send to the sequencer again, but not in this cycle. -/
theorem started_record (s : State) (c : Nat) (q : Seq) (n : Noc) :
    let t := s.started c q n
    t = { s.updSeq c (fun _ => t.seq c) with belay := t.belay, noc := t.noc } ∧
      t.belay = (s.changeRec c fun r => { r with sent := false }).belay ∧
      t.srec c = { s.srec c with sent := false } ∧ t.recAt c = s.rollBelay.recAt c := by
  obtain ⟨hrec, hat⟩ := changeRec_spec s c fun r => { r with sent := false }
  refine ⟨?_, rfl, hrec, hat⟩
  rw [started_seq]
  rfl

/-- The sequencer with the pc of the task on top of the nest saved in its slot. -/
def Seq.savePc (q : Seq) : Seq :=
  match q.top.bind (fun j => (q.slot j).map (fun sl => (j, sl))) with
  | some (j, sl) => q.setSlot j (some { sl with pc := q.pc })
  | none => q

/-- The slot that a start fills, its root frame still to be allocated. -/
def StartMsg.slot (m : StartMsg) : Slot :=
  { task := m.task, prio := m.prio, pc := m.entry.setWidth 32, frame := none, alloc := true,
    base := m.base, lim := m.lim, sptr := m.base + 128, args := m.args }

/-- A task stands in slot i on top of the nest. -/
def Seq.pushSlot (q : Seq) (i : Nat) (sl : Slot) : Seq := { q.setSlot i (some sl) with nest := i :: q.nest, waiting := false }

def Seq.atPc (q : Seq) (pc : Reg) : Seq := { q with pc := pc }

/-- The sequencer as the task of a start enters slot i. -/
def Seq.entered (q : Seq) (m : StartMsg) (i : Nat) : Seq := (q.savePc.pushSlot i m.slot).allocRoot i

theorem savePc_spec (q : Seq) : q.savePc = { q with slots := q.savePc.slots } ∧
    ∀ j sj, q.top = some j → q.slot j = some sj → q.savePc.slot j = some { sj with pc := q.pc } := by
  unfold Seq.savePc
  cases htop : q.top with
  | none => exact ⟨rfl, fun j sj h => nomatch h⟩
  | some k =>
    cases hk : q.slot k with
    | none =>
      simp only [Option.bind_some, hk, Option.map_none]
      refine ⟨trivial, fun j sj h hj => ?_⟩
      obtain rfl := Option.some.inj h
      rw [hk] at hj
      cases hj
    | some sk =>
      simp only [Option.bind_some, hk, Option.map_some]
      refine ⟨rfl, fun j sj h hj => ?_⟩
      obtain rfl := Option.some.inj h
      obtain rfl : sk = sj := Option.some.inj (hk.symm.trans hj)
      exact slot_setSlot q k _

/-- A root frame takes a free window. -/
theorem allocRoot_free {q : Seq} {i w : Nat} {sl : Slot} (hs : q.slot i = some sl) (hw : q.freeWin = some w) :
    q.allocRoot i = (((q.atPc sl.pc).openWin w i .root).initFrame w sl.args).setSlot i
      (some { sl with frame := some w, alloc := false }) := by
  have hw' : (q.atPc sl.pc).freeWin = some w := hw
  unfold Seq.allocRoot
  rw [hs]
  dsimp only
  rw [← Seq.atPc, hw']

/-- The state in which a start has left Belay's way and is not placed yet. -/
def State.clearedStart (s : State) (c : Nat) : State :=
  { s.updSeq c (fun q => { q with start := none }) with belay := (s.changeRec c fun r => { r with sent := false }).belay }

theorem clearedStart_seq (s : State) (c : Nat) : (s.clearedStart c).seq c = { s.seq c with start := none } :=
  seq_updSeq s c fun q => { q with start := none }

/-- An update of the sequencer after the start has left Belay's way. -/
theorem clearedStart_updSeq (s : State) (c : Nat) (g : Seq → Seq) :
    (s.clearedStart c).updSeq c g = s.started c (g { s.seq c with start := none }) s.noc := by
  have h := updSeq_updSeq s c (fun q => { q with start := none }) g
  rw [updSeq_congr s c (f := fun q => g { q with start := none }) (g := fun _ => g { s.seq c with start := none }) rfl] at h
  exact congrArg (fun t : State => { t with belay := (s.changeRec c fun r => { r with sent := false }).belay }) h

/-- A packet that the sequencer sends instead of taking the start. -/
theorem clearedStart_sendReq (s : State) (c : Nat) (b : End) (p : Packet) :
    (s.clearedStart c).sendReq b p = s.started c { s.seq c with start := none } (s.sendReq b p).noc := by
  have h := clearedStart_updSeq s c id
  have h' : (s.clearedStart c).updSeq c id = s.clearedStart c := by
    unfold State.clearedStart
    exact congrArg (fun t : State => { t with belay := (s.changeRec c fun r => { r with sent := false }).belay }) (updSeq_updSeq s c _ id)
  rw [sendReq_eq, ← h', h]
  rfl

theorem takeStart_eq {s : State} {c : Nat} {m : StartMsg} (h : (s.seq c).start = some m) :
    s.takeStart c = (match (List.range 4).find? (fun i => ((s.seq c).slot i).isNone) with
      | none => (s.clearedStart c).sendReq .hub { op := .evt, who := c, prio := 3, evt := some (.refused c m.task) }
      | some i =>
        if !spillOk m.base m.lim then (s.clearedStart c).sendComp c m.task 0x09 0
        else (s.clearedStart c).updSeq c (·.entered m i)) := by
  have hclear : (s.updSeq c (fun q => { q with start := none })).changeRec c (fun r => { r with sent := false }) =
      s.clearedStart c := by
    rw [changeRec_updSeq, changeRec_eq]
    rfl
  unfold State.takeStart
  rw [h]
  dsimp only
  rw [hclear, clearedStart_seq]
  rfl

/-- What the task's entry makes of the sequencer. -/
theorem entered_spec {q : Seq} {m : StartMsg} {i w : Nat} (hb : q.biv = false) (hi : q.slot i = none) (hw : q.freeWin = some w) :
    let r := q.entered m i
    r.nest = i :: q.nest ∧ r.pc = m.entry.setWidth 32 ∧ r.start = q.start ∧ r.waiting = false ∧ r.curWin = w ∧
    r.liveWin w = some ⟨i, .root, q.nextAge⟩ ∧
    r.slot i = some { task := m.task, prio := m.prio, pc := m.entry.setWidth 32, frame := some w, alloc := false,
                      base := m.base, lim := m.lim, sptr := m.base + 128, args := m.args } ∧
    (∀ n, n < 4 → r.winReg w n = (m.args[n]?).getD 0) ∧ (∀ n, 4 ≤ n → n < 16 → r.winReg w n = 0) ∧
    (∀ v n, v ≠ w → n < 16 → r.winReg v n = q.winReg v n) ∧
    (∀ j sj, q.top = some j → q.slot j = some sj → r.slot j = some { sj with pc := q.pc }) := by
  obtain ⟨hsave, htopslot⟩ := savePc_spec q
  have hslot : (q.savePc.pushSlot i m.slot).slot i = some m.slot := slot_setSlot q.savePc i (some m.slot)
  have hother : ∀ j, j ≠ i → (q.savePc.pushSlot i m.slot).slot j = q.savePc.slot j := fun j hj =>
    slot_setSlot_ne q.savePc (some m.slot) hj
  have hpush : q.savePc.pushSlot i m.slot =
      { q with slots := (q.savePc.pushSlot i m.slot).slots, nest := i :: q.nest, waiting := false } :=
    (congrArg (fun u : Seq => u.pushSlot i m.slot) hsave).trans rfl
  unfold Seq.entered
  generalize q.savePc.pushSlot i m.slot = u at hslot hother hpush
  have hfree : u.freeWin = some w := by rw [hpush]; exact hw
  rw [allocRoot_free hslot hfree]
  obtain ⟨hframe, hlive, -, hsl, hsl', hreg, hreg'⟩ := openFrame_spec (u.atPc m.slot.pc) w i .root m.slot.args
    { m.slot with frame := some w, alloc := false }
  generalize (((u.atPc m.slot.pc).openWin w i .root).initFrame w m.slot.args).setSlot i
    (some { m.slot with frame := some w, alloc := false }) = r at hframe hlive hsl hsl' hreg hreg' ⊢
  have hage : u.nextAge = q.nextAge := by rw [hpush]
  have hnest : r.nest = i :: q.nest := by rw [hframe, hpush]; rfl
  refine ⟨hnest, by rw [hframe]; rfl, by rw [hframe, hpush]; rfl, by rw [hframe, hpush]; rfl, ?_, ?_, hsl, fun n hn => ?_, fun n h4 hn => ?_,
    fun v n hv hn => ?_, fun j sj htop hj => ?_⟩
  · exact curWin_of_frame (by rw [hframe, hpush]; exact hb) (by rw [Seq.top, hnest]; rfl) hsl rfl
  · rw [hlive, ← hage]; rfl
  · exact (hreg n (by omega)).trans (if_pos hn)
  · exact (hreg n hn).trans (if_neg (by omega))
  · refine (hreg' v n hv hn).trans ?_
    rw [hpush]; rfl
  · have hji : j ≠ i := fun e => by rw [e, hi] at hj; cases hj
    exact (hsl' j hji).trans ((hother j hji).trans (htopslot j sj htop hj))

/-- Settles O16. -/
theorem startsAndPreemptions : Obligations.StartsAndPreemptions := by
  unfold Obligations.StartsAndPreemptions
  intro s c m hlive hmay hstart q cmd record
  have hb : q.biv = false := by
    simp only [State.mayTake, Bool.and_eq_true, Bool.not_eq_true'] at hmay
    exact hmay.1.1.1.2
  have hexec : exec cmd s = .next (s.takeStart c) := by
    simp only [cmd]
    split
    · rename_i hn
      show execTaskStartTaken c s = _
      rw [execTaskStartTaken, act_live hlive, if_pos (by simp [hmay, show (s.seq c).nest = [] from hn])]
    · rename_i hn
      show execPreemptionTaken c s = _
      rw [execPreemptionTaken, act_live hlive, if_pos (by simp [hmay, show (s.seq c).nest ≠ [] from hn])]
  rw [takeStart_eq hstart] at hexec
  refine ⟨fun i w hi hok hw => ?_, fun hnone => ?_, fun i hi hbad htwin => ?_⟩
  · rw [show (List.range 4).find? (fun i => ((s.seq c).slot i).isNone) = some i from hi] at hexec
    simp only [hok, Bool.not_true, Bool.false_eq_true, if_false, clearedStart_updSeq] at hexec
    have hfree : q.slot i = none := by simpa using List.find?_some hi
    obtain ⟨h1, h2, h3, h4, h5, h6, h7, h8, h9, h10, h11⟩ :=
      entered_spec (q := { q with start := none }) (m := m) (i := i) (w := w) hb hfree hw
    refine ⟨_, hexec, started_record s c _ _, rfl, ?_⟩
    rw [started_seq]
    exact ⟨h1, h2, h3, h4, h5, h6, h7, h8, h9, h10, h11⟩
  · rw [show (List.range 4).find? (fun i => ((s.seq c).slot i).isNone) = none from hnone] at hexec
    simp only [clearedStart_sendReq] at hexec
    exact ⟨_, hexec, started_record s c _ _, started_seq s c _ _, rfl⟩
  · rw [show (List.range 4).find? (fun i => ((s.seq c).slot i).isNone) = some i from hi] at hexec
    have htwin' : (s.clearedStart c).isTwin c = false := htwin
    simp only [hbad, Bool.not_false, if_true, State.sendComp, htwin', Bool.false_eq_true, if_false, clearedStart_sendReq] at hexec
    exact ⟨_, hexec, started_record s c _ _, started_seq s c _ _, rfl⟩

end Sys2Proof.Machine

/-! The queue of commands, device time, and the state after reset (R30, R460, R461). -/

namespace Sys2Proof.Machine

/-! ### A store's values -/

/-- What a store gives is its default or one of its entries. -/
theorem sget_eq_or_mem {α : Type} (d : α) (i : Nat) : ∀ m : SMap α, sget d m i = d ∨ ∃ x ∈ m, x.2 = sget d m i
  | [] => Or.inl rfl
  | (k, v) :: m => by
    by_cases h : i = k
    · exact Or.inr ⟨(k, v), by simp, by simp [sget, h]⟩
    · simp only [sget, h, if_false]
      rcases sget_eq_or_mem d i m with hd | ⟨x, hx, he⟩
      · exact Or.inl hd
      · exact Or.inr ⟨x, List.mem_cons_of_mem _ hx, he⟩

/-! ### A nanosecond in which nothing is on its way -/

theorem netCycle_arrived {s : State} (h : ∀ p ∈ s.noc.packets, p.spot = .arrived) :
    s.netCycle = s.setNoc { s.noc with cycle := s.noc.cycle + 1 } := by
  have hall : (s.setNoc { s.noc with cycle := s.noc.cycle + 1 }).noc.packets.all (fun p => decide (p.spot = .arrived)) = true := by
    simpa [State.setNoc] using h
  unfold State.netCycle
  dsimp only
  rw [if_pos hall]

/-- NoC cycles in which every packet has arrived only count. -/
theorem netCycles_arrived : ∀ (n : Nat) {s : State}, (∀ p ∈ s.noc.packets, p.spot = .arrived) →
    s.netCycles n = { s with noc := { s.noc with cycle := s.noc.cycle + n } }
  | 0, _, _ => rfl
  | n + 1, s, h => by
    rw [State.netCycles, netCycle_arrived h, netCycles_arrived n (s := s.setNoc { s.noc with cycle := s.noc.cycle + 1 }) h]
    simp only [State.setNoc, Nat.add_assoc, Nat.add_comm 1 n]

theorem engineAsks_unsealed {s : State} (h : ∀ x ∈ s.loader.ctxs, x.2.sealed = none) (i : Nat) : s.engineAsks i = false := by
  have hs : (s.ctx i).sealed = none := by
    rcases sget_eq_or_mem ({} : LoadCtx) i s.loader.ctxs with hd | ⟨x, hx, he⟩
    · rw [State.ctx, hd]
    · rw [State.ctx, ← he]
      exact h x hx
  simp [State.engineAsks, hs]

/-- Without a sealed segment the decryption engine serves no context. -/
theorem loaderCycle_unsealed {s : State} (h : ∀ x ∈ s.loader.ctxs, x.2.sealed = none) : s.loaderCycle = s := by
  have hasks := engineAsks_unsealed h
  have hnext : s.engineNext = none := by
    unfold State.engineNext
    split
    · rw [hasks]; rfl
    · exact List.find?_eq_none.mpr fun x _ => by rw [hasks]; exact Bool.false_ne_true
  unfold State.loaderCycle
  rw [hnext]

theorem step_empty {s : State} (h : s.pending = []) : step s = .next s.tick := by
  unfold step
  rw [h]

/-- Settles O1. -/
theorem stepRunsFront : Obligations.StepRunsFront := by
  unfold Obligations.StepRunsFront
  refine ⟨fun s c rest h => by rw [step, h], fun s hempty => ⟨step_empty hempty, fun hoff hheld hpk hctx => ?_⟩⟩
  rw [step_empty hempty, State.tick, hoff, hheld]
  simp only [Bool.false_eq_true, if_false, Option.isSome_none]
  rw [netCycles_arrived (s := { s with time := s.time + 1 }) _ hpk]
  exact congrArg _ (loaderCycle_unsealed hctx)

/-- Settles O54: every store is empty, so that each read gives its default. -/
theorem resetState : Obligations.ResetState := by
  unfold Obligations.ResetState
  exact ⟨rfl, rfl, rfl, rfl, rfl, rfl, rfl, fun _ => rfl, fun _ => ⟨rfl, rfl⟩, rfl, rfl, fun _ => rfl, fun _ => rfl, rfl, rfl, rfl⟩

/-- Settles O55. -/
theorem resetMemoryForm : Obligations.ResetMemoryForm := rfl

end Sys2Proof.Machine

/-! Firmware commands: a due command whose checks pass answers with its own effect (R417, R401). -/

namespace Sys2Proof.Machine

/-- A command that acts has its effect in a live part. -/
theorem exec_of_act {c : Instr} {s : State} {f : State → State} (h : s.live = true) (hx : exec c s = act s f) :
    exec c s = .next (f s) := hx.trans (act_live h f)

/-! ### A due command that passes its checks -/

/-- A command whose checks all pass runs. -/
theorem judge_pass {s : State} {i : Issuer} {fails : List (Bool × Nat)} {run : State → State} (h : firstFail fails = none) :
    s.judge i fails run = run s := by
  rw [State.judge, h]

@[simp] theorem firstFail_nil : firstFail [] = none := rfl

@[simp] theorem firstFail_cons (b : Bool) (st : Nat) (l : List (Bool × Nat)) :
    firstFail ((b, st) :: l) = if b = true then some st else firstFail l := rfl

/-- A check that does not fail leaves the rest to be passed. -/
theorem firstFail_pass {b : Bool} {st : Nat} {l : List (Bool × Nat)} (hb : b = false) (hl : firstFail l = none) :
    firstFail ((b, st) :: l) = none := by
  rw [firstFail_cons, hb, hl]
  rfl

theorem firstFail_append {l m : List (Bool × Nat)} (hl : firstFail l = none) (hm : firstFail m = none) : firstFail (l ++ m) = none := by
  induction l with
  | nil => exact hm
  | cons x l ih =>
    obtain ⟨b, st⟩ := x
    cases b with
    | true => cases hl
    | false => exact ih hl

/-- A due command whose body ends with a completion answers with it, and but for the host ports its effect is E. -/
theorem answers_of_body {c : Instr} {s e E : State} {i : Issuer} {op : Nat} {ops : List Opnd} {st r : Nat} {body : State → State}
    (hx : exec c s = act s fun t => t.command i op ops c body) (hd : s.due i op ops = true)
    (hb : body (s.runsNow i op) = e.complete i st r) (hf : (e.func i.p i.f).rstp = (s.func i.p i.f).rstp)
    (hE : e.upToHost s = E) : Answers c s i st r E := by
  have he : exec c s = .next (e.complete i st r) := by
    rw [exec_of_act (due_live hd) hx, command_due hd, hb]
  exact hE ▸ answers_of_due hd he hf

/-- A due command that its checks let pass answers with the completion of its run. -/
theorem answers_of_judge {c : Instr} {s e E : State} {i : Issuer} {op : Nat} {ops : List Opnd} {st r : Nat} {body : State → State}
    {fails : List (Bool × Nat)} {run : State → State}
    (hx : exec c s = act s fun t => t.command i op ops c body) (hd : s.due i op ops = true)
    (hb : body (s.runsNow i op) = (s.runsNow i op).judge i fails run) (hp : firstFail fails = none)
    (hr : run (s.runsNow i op) = e.complete i st r) (hf : (e.func i.p i.f).rstp = (s.func i.p i.f).rstp)
    (hE : e.upToHost s = E) : Answers c s i st r E :=
  answers_of_body hx hd (hb.trans ((judge_pass hp).trans hr)) hf hE

/-- A due command that its checks let pass answers with OK and its effect. -/
theorem answers_ok {c : Instr} {s E : State} {i : Issuer} {op : Nat} {ops : List Opnd} {body : State → State}
    {fails : List (Bool × Nat)} (effect : State → State)
    (hx : exec c s = act s fun t => t.command i op ops c body) (hd : s.due i op ops = true)
    (hb : body (s.runsNow i op) = (s.runsNow i op).judge i fails fun t => (effect t).ok i) (hp : firstFail fails = none)
    (hf : ((effect (s.runsNow i op)).func i.p i.f).rstp = (s.func i.p i.f).rstp)
    (hE : (effect (s.runsNow i op)).upToHost s = E) : Answers c s i stOK 0 E :=
  answers_of_judge hx hd hb hp rfl hf hE

/-- What a command leaves of a function's reset where it leaves the host ports alone. -/
theorem rstp_of_host {e s : State} {i : Issuer} {op : Nat} (h : e.host = (s.runsNow i op).host) :
    (e.func i.p i.f).rstp = (s.func i.p i.f).rstp := by
  unfold State.func State.port
  rw [h]
  rfl

@[simp] theorem upToHost_self (s : State) : s.upToHost s = s := rfl

@[simp] theorem runsNow_upToHost_self (s : State) (i : Issuer) (op : Nat) : (s.runsNow i op).upToHost s = s := rfl

/-! ### What a due command finds -/

variable (s : State) (i : Issuer) (op : Nat)

@[simp] theorem runsNow_region (r : Nat) : (s.runsNow i op).region r = s.region r := rfl
@[simp] theorem runsNow_regionOfTask (n : Nat) : (s.runsNow i op).regionOfTask n = s.regionOfTask n := rfl
@[simp] theorem runsNow_task (n : Nat) : (s.runsNow i op).task n = s.task n := rfl
@[simp] theorem runsNow_timer (n : Nat) : (s.runsNow i op).timer n = s.timer n := rfl
@[simp] theorem runsNow_queue (n : Nat) : (s.runsNow i op).queue n = s.queue n := rfl
@[simp] theorem runsNow_mover (n : Nat) : (s.runsNow i op).mover n = s.mover n := rfl
@[simp] theorem runsNow_cl (n : Nat) : (s.runsNow i op).cl n = s.cl n := rfl
@[simp] theorem runsNow_breg (r : Nat) : (s.runsNow i op).breg r = s.breg r := rfl
@[simp] theorem runsNow_belay : (s.runsNow i op).belay = s.belay := rfl
@[simp] theorem runsNow_sec : (s.runsNow i op).sec = s.sec := rfl
@[simp] theorem runsNow_sys : (s.runsNow i op).sys = s.sys := rfl
@[simp] theorem runsNow_noc : (s.runsNow i op).noc = s.noc := rfl
@[simp] theorem runsNow_hbm : (s.runsNow i op).hbm = s.hbm := rfl
@[simp] theorem runsNow_rel : (s.runsNow i op).rel = s.rel := rfl
@[simp] theorem runsNow_ext : (s.runsNow i op).ext = s.ext := rfl
@[simp] theorem runsNow_loader : (s.runsNow i op).loader = s.loader := rfl
@[simp] theorem runsNow_now : (s.runsNow i op).now = s.now := rfl
@[simp] theorem runsNow_objFails (j : Issuer) (r : Option Nat) : (s.runsNow i op).objFails j r = s.objFails j r := rfl
@[simp] theorem runsNow_taskFails (j : Issuer) (n : Nat) : (s.runsNow i op).taskFails j n = s.taskFails j n := rfl

variable {s i op}

/-- A tenant's own region that is not stopped passes the checks of an object in it. -/
theorem objFails_own {s : State} {i : Issuer} {r : Nat} {g : Region} (hg : s.region r = some g) (ht : g.ten = i.p)
    (hs : g.stop = none) : s.objFails i (some r) = [(false, stOUT_OF_RANGE), (false, stBAD_STATE)] := by
  simp [State.objFails, State.owns, State.halted, hg, ht, hs]

theorem objFails_pass {s : State} {i : Issuer} {o : Option Nat} {r : Nat} {g : Region} (ho : o = some r) (hg : s.region r = some g)
    (ht : g.ten = i.p) (hs : g.stop = none) : firstFail (s.objFails i o) = none := by
  rw [ho, objFails_own hg ht hs]
  rfl

end Sys2Proof.Machine

/-! The task commands of a tenant (R208, R210, R437, R439). -/

namespace Sys2Proof.Machine

/-! ### Tasks, quota and lists

Changes of a task enter the scheduler trace, and entering a list concerns the task, the lists and the counts of the cycle. `aside` holds all
the rest of the state, so that one equation frames each of these operations. -/

/-- The state without Belay's tasks, lists, trace and counts of the present cycle, and without the HBM bytes, where the trace has a copy. -/
def State.aside (s : State) : State :=
  { s with
    hbm := { s.hbm with mem := [] }
    belay := { s.belay with tasks := [], entries := 0, ready := [], delay := [], cycle := 0, taken := [], sends := [], fresh := [],
                            before := [], sentTo := [], trace := [] } }

section
variable {s t : State} (h : t.aside = s.aside)
include h

theorem breg_of_aside (r : Nat) : t.breg r = s.breg r := (congrArg (fun x : State => x.breg r) h :)
theorem srec_of_aside (c : Nat) : t.srec c = s.srec c := (congrArg (fun x : State => x.srec c) h :)
theorem work_of_aside : t.belay.work = s.belay.work := (congrArg (fun x : State => x.belay.work) h :)
theorem tick_of_aside : t.belay.tick = s.belay.tick := (congrArg (fun x : State => x.belay.tick) h :)
theorem host_of_aside : t.host = s.host := (congrArg (fun x : State => x.host) h :)
theorem now_of_aside : t.now = s.now := (congrArg (fun x : State => x.now) h :)
theorem sec_of_aside : t.sec = s.sec := (congrArg (fun x : State => x.sec) h :)
theorem noc_of_aside : t.noc = s.noc := (congrArg (fun x : State => x.noc) h :)
theorem region_of_aside (r : Nat) : t.region r = s.region r := (congrArg (fun x : State => x.region r) h :)
theorem regionOfTask_of_aside (n : Nat) : t.regionOfTask n = s.regionOfTask n := (congrArg (fun x : State => x.regionOfTask n) h :)
theorem laneOwner_of_aside (src n : Nat) : t.laneOwner src n = s.laneOwner src n := (congrArg (fun x : State => x.laneOwner src n) h :)

/-- Two states that agree aside from Belay's tasks and lists differ in Belay and in the HBM alone. -/
theorem eq_of_aside : t = { s with belay := t.belay, hbm := t.hbm } := by
  have hs : ∀ x : State, ({ x.aside with belay := t.belay, hbm := t.hbm } : State) = { x with belay := t.belay, hbm := t.hbm } :=
    fun _ => rfl
  rw [← hs s, ← h, hs t]

end

@[simp] theorem btrace_aside (s : State) (w : Traced) : (s.btrace w).aside = s.aside := by
  unfold State.btrace
  split <;> rfl

@[simp] theorem btrace_task (s : State) (w : Traced) (n : Nat) : (s.btrace w).task n = s.task n :=
  task_of_schedule (btrace_schedule s w) n

@[simp] theorem btrace_ready (s : State) (w : Traced) : (s.btrace w).belay.ready = s.belay.ready := by
  unfold State.btrace
  split <;> rfl

@[simp] theorem btrace_delay (s : State) (w : Traced) : (s.btrace w).belay.delay = s.belay.delay := by
  unfold State.btrace
  split <;> rfl

/-- Outside DEBUG nothing is traced. -/
theorem btrace_untraced {s : State} (h : s.sec.lcs ≠ .debug) (w : Traced) : s.btrace w = s := if_neg h

/-- Outside DEBUG, and where the task's state stays, a change of a task is not traced. -/
theorem putTask_untraced {s : State} {n : Nat} {k : Task} (h : s.sec.lcs ≠ .debug ∨ (s.task n).st = k.st) :
    s.putTask n k = s.setTask n k := by
  unfold State.putTask
  dsimp only
  split
  · rfl
  · rename_i hst
    exact if_neg (h.resolve_right hst)

theorem putTask_schedule (s : State) (n : Nat) (k : Task) : (s.putTask n k).schedule = (s.setTask n k).schedule := by
  unfold State.putTask
  dsimp only
  split
  · rfl
  · exact btrace_schedule _ _

@[simp] theorem putTask_aside (s : State) (n : Nat) (k : Task) : (s.putTask n k).aside = s.aside := by
  unfold State.putTask
  dsimp only
  split
  · rfl
  · exact btrace_aside _ _

@[simp] theorem task_putTask (s : State) (n : Nat) (k : Task) : (s.putTask n k).task n = k := by
  rw [task_of_schedule (putTask_schedule s n k), task_setTask]

theorem task_putTask_ne (s : State) {n m : Nat} (k : Task) (h : m ≠ n) : (s.putTask n k).task m = s.task m := by
  rw [task_of_schedule (putTask_schedule s n k), task_setTask_ne s _ h]

@[simp] theorem ready_putTask (s : State) (n : Nat) (k : Task) : (s.putTask n k).belay.ready = s.belay.ready :=
  (schedule_eq_iff.mp (putTask_schedule s n k)).2.2.1

@[simp] theorem delay_putTask (s : State) (n : Nat) (k : Task) : (s.putTask n k).belay.delay = s.belay.delay :=
  (schedule_eq_iff.mp (putTask_schedule s n k)).2.2.2

@[simp] theorem breg_putTask (s : State) (n r : Nat) (k : Task) : (s.putTask n k).breg r = s.breg r :=
  breg_of_aside (putTask_aside s n k) r

theorem host_putTask (s : State) (n : Nat) (k : Task) : (s.putTask n k).host = s.host := host_of_aside (putTask_aside s n k)

theorem btrace_upToHost (s t : State) (w : Traced) : (s.btrace w).upToHost t = (s.upToHost t).btrace w := by
  unfold State.btrace
  split
  · exact (if_pos ‹_›).symm
  · exact (if_neg ‹_›).symm

theorem putTask_upToHost (s t : State) (n : Nat) (k : Task) : (s.putTask n k).upToHost t = (s.upToHost t).putTask n k := by
  by_cases h : (s.task n).st = k.st
  · rw [putTask_untraced (.inr h), putTask_untraced (s := s.upToHost t) (.inr h)]
    rfl
  · have h1 : s.putTask n k = (s.setTask n k).btrace (.state n k.st) := if_neg h
    have h2 : (s.upToHost t).putTask n k = ((s.upToHost t).setTask n k).btrace (.state n k.st) := if_neg h
    rw [h1, h2, btrace_upToHost]
    rfl

theorem setBreg_upToHost (s t : State) (r : Nat) (b : BRegion) : (s.setBreg r b).upToHost t = (s.upToHost t).setBreg r b := rfl

@[simp] theorem rollBelay_aside (s : State) : s.rollBelay.aside = s.aside := by
  unfold State.rollBelay
  split <;> rfl

@[simp] theorem rollBelay_task (s : State) (n : Nat) : s.rollBelay.task n = s.task n := task_of_schedule (rollBelay_schedule s) n

/-! ### Entering a list (R216 to R219) -/

/-- The task as it stands in a list. -/
def Task.listed (k : Task) (st : TState) (entered : Nat) : Task :=
  { k with st := st, counter := 0, qheld := false, entered := entered }

@[simp] theorem makeReady_aside (s : State) (n : Nat) : (s.makeReady n).aside = s.aside := by
  have h : (s.makeReady n).aside =
      (s.rollBelay.putTask n ((s.rollBelay.task n).listed .ready (s.rollBelay.belay.entries + 1))).aside := rfl
  rw [h, putTask_aside, rollBelay_aside]

theorem task_makeReady (s : State) (n : Nat) : ∃ m, (s.makeReady n).task n = (s.task n).listed .ready m := by
  have h : (s.makeReady n).task n =
      (s.rollBelay.putTask n ((s.rollBelay.task n).listed .ready (s.rollBelay.belay.entries + 1))).task n := rfl
  exact ⟨_, by rw [h, task_putTask, rollBelay_task]⟩

theorem task_makeReady_ne (s : State) {n m : Nat} (hm : m ≠ n) : (s.makeReady n).task m = s.task m := by
  have h : (s.makeReady n).task m =
      (s.rollBelay.putTask n ((s.rollBelay.task n).listed .ready (s.rollBelay.belay.entries + 1))).task m := rfl
  rw [h, task_putTask_ne _ _ hm, rollBelay_task]

/-- A task that becomes ready stands last in the list of its priority, and the other lists stay. -/
theorem ready_makeReady (s : State) (n : Nat) : (s.makeReady n).belay.ready =
    sput [] s.belay.ready (s.task n).prio (sget [] s.belay.ready (s.task n).prio ++ [n]) := by
  have hr : s.rollBelay.belay.ready = s.belay.ready := (schedule_eq_iff.mp (rollBelay_schedule s)).2.2.1
  have h : (s.makeReady n).belay.ready =
      sput [] (s.rollBelay.putTask n ((s.rollBelay.task n).listed .ready (s.rollBelay.belay.entries + 1))).belay.ready (s.rollBelay.task n).prio
        (sget [] (s.rollBelay.putTask n ((s.rollBelay.task n).listed .ready (s.rollBelay.belay.entries + 1))).belay.ready
          (s.rollBelay.task n).prio ++ [n]) := rfl
  rw [h, ready_putTask, rollBelay_task, hr]

theorem delay_makeReady (s : State) (n : Nat) : (s.makeReady n).belay.delay = s.belay.delay := by
  have h : (s.makeReady n).belay.delay =
      (s.rollBelay.putTask n ((s.rollBelay.task n).listed .ready (s.rollBelay.belay.entries + 1))).belay.delay := rfl
  rw [h, delay_putTask, (schedule_eq_iff.mp (rollBelay_schedule s)).2.2.2]

theorem mem_insertDelay (w n : Nat) : ∀ l : List (Nat × Nat), (w, n) ∈ insertDelay w n l
  | [] => by simp [insertDelay]
  | (v, u) :: l => by
    unfold insertDelay
    split
    · simp
    · exact List.mem_cons_of_mem _ (mem_insertDelay w n l)

/-- A multiple that is taken at or after a time does not come before it. -/
theorem le_upTo {n : Nat} (h : 0 < n) (x : Nat) : x ≤ upTo n x := by
  unfold upTo
  have hdiv := Nat.div_add_mod (x + n - 1) n
  have hmod := Nat.mod_lt (x + n - 1) h
  rw [Nat.mul_comm]
  omega

theorem enterList_ready {s : State} {n : Nat} (h : (s.task n).delay = 0) : s.enterList n = s.makeReady n := if_pos h

theorem enterList_delayed {s : State} {n : Nat} (h : (s.task n).delay ≠ 0) :
    s.enterList n =
      let t := s.putTask n { s.task n with st := .delayed, counter := 0, qheld := false }
      t.setBelay { t.belay with
        delay := insertDelay (upTo s.belay.tick (s.now + (s.task n).delay * s.belay.tick)) n t.belay.delay } := if_neg h

@[simp] theorem enterList_aside (s : State) (n : Nat) : (s.enterList n).aside = s.aside := by
  by_cases h : (s.task n).delay = 0
  · rw [enterList_ready h, makeReady_aside]
  · rw [enterList_delayed h]
    exact putTask_aside s n _

/-- A task that enters a list is READY or DELAYED, its counter is 0 and nothing holds it. -/
theorem task_enterList (s : State) (n : Nat) :
    ∃ m, (s.enterList n).task n = (s.task n).listed (if (s.task n).delay = 0 then .ready else .delayed) m := by
  by_cases h : (s.task n).delay = 0
  · rw [enterList_ready h, if_pos h]
    exact task_makeReady s n
  · rw [enterList_delayed h, if_neg h]
    exact ⟨_, task_putTask s n _⟩

theorem task_enterList_ne (s : State) {n m : Nat} (hm : m ≠ n) : (s.enterList n).task m = s.task m := by
  by_cases h : (s.task n).delay = 0
  · rw [enterList_ready h, task_makeReady_ne s hm]
  · rw [enterList_delayed h]
    exact task_putTask_ne s _ hm

/-- A task without a delay enters the ready list of its priority. -/
theorem mem_ready_enterList {s : State} {n : Nat} (h : (s.task n).delay = 0) :
    n ∈ sget [] (s.enterList n).belay.ready (s.task n).prio := by
  rw [enterList_ready h, ready_makeReady]
  simp

/-- A task with a delay enters the delay list, with a wake time that lies its delay ahead. -/
theorem mem_delay_enterList {s : State} {n : Nat} (h : (s.task n).delay ≠ 0) (htick : 0 < s.belay.tick) :
    ∃ w, (w, n) ∈ (s.enterList n).belay.delay ∧ s.now + (s.task n).delay * s.belay.tick ≤ w := by
  rw [enterList_delayed h]
  exact ⟨_, mem_insertDelay _ n _, le_upTo htick _⟩

/-- The region counts one more unit. -/
def BRegion.useUnit (b : BRegion) : BRegion := { b with used := b.used + 1 }

theorem takeUnit_eq (s : State) (r n : Nat) : s.takeUnit r n = (s.setBreg r (s.breg r).useUnit).enterList n := rfl

theorem takeUnit_aside (s : State) (r n : Nat) : (s.takeUnit r n).aside = (s.setBreg r (s.breg r).useUnit).aside := by
  rw [takeUnit_eq, enterList_aside]

theorem host_takeUnit (s : State) (r n : Nat) : (s.takeUnit r n).host = s.host :=
  (host_of_aside (takeUnit_aside s r n)).trans (setBreg_host s r _)

theorem breg_takeUnit (s : State) (r n : Nat) : (s.takeUnit r n).breg r = (s.breg r).useUnit := by
  rw [breg_of_aside (takeUnit_aside s r n), breg_setBreg]

theorem task_takeUnit (s : State) (r n : Nat) :
    ∃ m, (s.takeUnit r n).task n = (s.task n).listed (if (s.task n).delay = 0 then .ready else .delayed) m :=
  task_enterList (s.setBreg r (s.breg r).useUnit) n

/-! ### The commands -/

@[simp] theorem runsNow_descFault (s : State) (i : Issuer) (op r : Nat) (d : BitVec 272) :
    (s.runsNow i op).descFault r d = s.descFault r d := rfl

theorem taskArm_counts {s : State} {n : Nat} (h : (s.task n).initv ≠ 0) :
    s.taskArm n = s.putTask n { s.task n with st := .waiting, counter := (s.task n).initv } := if_neg h

theorem taskArm_zero {s : State} {n r : Nat} (h : (s.task n).initv = 0) (hr : s.regionOfTask n = some r) :
    s.taskArm n = s.counterZero r n := by
  unfold State.taskArm
  dsimp only
  rw [if_pos h, hr]

theorem counterZero_takes {s : State} {r n : Nat} (h : (s.breg r).used < (s.breg r).quota) : s.counterZero r n = s.takeUnit r n :=
  if_pos (decide_eq_true h)

theorem counterZero_holds {s : State} {r n : Nat} (h : (s.breg r).quota ≤ (s.breg r).used) :
    s.counterZero r n = (s.putTask n { s.task n with st := .waiting, counter := 0, qheld := true }).setBreg r
      ({ s.breg r with qheld := (s.breg r).qheld ++ [n] }.joinRetry s.now [] [n]) := by
  have hno : ¬ (s.breg r).unitFree = true := by simpa [BRegion.unitFree] using h
  unfold State.counterZero
  rw [if_neg hno]
  dsimp only
  rw [breg_putTask]
  rw [now_of_aside (putTask_aside s n _)]

theorem taskRemove_eq {s : State} {r n : Nat} (hr : s.regionOfTask n = some r) :
    s.taskRemove n = (s.setBreg r { s.breg r with qheld := (s.breg r).qheld.filter fun x => decide (x ≠ n) }).putTask n
      { s.task n with st := .free, counter := 0, excess := 0, qheld := false, desc := 0 } := by
  unfold State.taskRemove
  rw [hr]
  rfl

/-- A due TASK_SIGNAL has been consumed. -/
theorem due_consumed {s : State} {i : Issuer} {op : Nat} {ops : List Opnd} (h : s.due i op ops = true) :
    (s.record i).isSome = true := by
  unfold State.due at h
  cases hr : s.record i with
  | none => simp [hr] at h
  | some x => rfl

theorem cTaskSignal_consumed {s : State} {i : Issuer} (h : (s.record i).isSome = true) (task : BitVec 16) :
    s.cTaskSignal i task =
      s.command i 0x0604 [(8, 2, task.toNat)] (.taskSignal i task) (·.fwTaskSignal i task.toNat) := by
  simp [State.cTaskSignal, h]

/-- Settles O17: each check passes, and each command's one effect is what its answer leaves. -/
theorem taskCommands : Obligations.TaskCommands := by
  refine ⟨fun s n k h => putTask_untraced h, ?_⟩
  intro s i task desc r g hr hg hten hstop n k b
  have hobj : s.taskFails i n = [(false, stOUT_OF_RANGE), (false, stBAD_STATE)] := by
    rw [State.taskFails, hr]
    exact objFails_own hg hten hstop
  have harm : ∀ op, k.st = .dormant → firstFail ((s.runsNow i op).taskFails i n
      ++ [(decide (((s.runsNow i op).task n).st ≠ .dormant), stBAD_STATE)]) = none := by
    intro op hst
    simp [hobj, show (s.task n).st = _ from hst]
  refine ⟨?_, ?_, ?_, ?_, ?_, ?_, ?_⟩
  · intro hd hnote hfault hst
    refine answers_ok (body := (·.fwTaskWrite i n desc)) (·.taskWrite n desc) rfl hd rfl ?_
      (rstp_of_host (host_putTask _ _ _)) (putTask_upToHost _ _ _ _)
    have hnote' : ({ desc := desc } : Task).cnote ≠ 3 := hnote
    rcases hst with h | h <;>
      simp [hobj, show s.regionOfTask n = _ from hr, hfault, hnote', show (s.task n).st = _ from h]
  · intro hd hst hinit
    have he : (s.runsNow i 0x0601).taskArm n = _ := taskArm_counts (s := s.runsNow i 0x0601) hinit
    exact answers_ok (body := (·.fwTaskArm i n)) (·.taskArm n) rfl hd rfl (harm _ hst)
      (rstp_of_host (he ▸ host_putTask _ _ _)) (he ▸ putTask_upToHost _ _ _ _)
  · intro hd hst hinit hquota
    have he : (s.runsNow i 0x0601).taskArm n = _ :=
      (taskArm_zero (s := s.runsNow i 0x0601) hinit hr).trans (counterZero_holds (s := s.runsNow i 0x0601) hquota)
    refine answers_ok (body := (·.fwTaskArm i n)) (·.taskArm n) rfl hd rfl (harm _ hst)
      (rstp_of_host (by rw [he]; exact host_putTask _ _ _)) ?_
    rw [he, setBreg_upToHost, putTask_upToHost]
    rfl
  · intro hd hst hinit hquota htick
    have he : (s.runsNow i 0x0601).taskArm n = _ :=
      (taskArm_zero (s := s.runsNow i 0x0601) hinit hr).trans (counterZero_takes (s := s.runsNow i 0x0601) hquota)
    obtain ⟨m, htask⟩ := task_takeUnit (s.runsNow i 0x0601) r n
    refine ⟨_, answers_ok (body := (·.fwTaskArm i n)) (·.taskArm n) rfl hd rfl (harm _ hst)
      (rstp_of_host (by rw [he, host_takeUnit])) rfl, ?_⟩
    rw [he]
    refine ⟨breg_takeUnit _ r n, congrArg Task.counter htask, ?_⟩
    by_cases hdelay : k.delay = 0
    · rw [if_pos hdelay]
      exact ⟨(congrArg Task.st htask).trans (if_pos hdelay), mem_ready_enterList (s := (s.runsNow i 0x0601).setBreg r b.useUnit) hdelay⟩
    · rw [if_neg hdelay]
      exact ⟨(congrArg Task.st htask).trans (if_neg hdelay),
        mem_delay_enterList (s := (s.runsNow i 0x0601).setBreg r b.useUnit) hdelay htick⟩
  · intro hd hst
    have he : (s.runsNow i 0x0602).taskRemove n = _ := taskRemove_eq (s := s.runsNow i 0x0602) hr
    refine answers_ok (body := (·.fwTaskRemove i n)) (·.taskRemove n) rfl hd rfl ?_
      (rstp_of_host (he ▸ host_putTask _ _ _)) (he ▸ putTask_upToHost _ _ _ _)
    rcases hst with h | h <;> simp [hobj, show (s.task n).st = _ from h]
  · intro hd
    have hres : resAt 0x08 k.st.code + resAt 0x0A k.counter + resAt 0x0C k.excess = k.st.code + k.counter * 2 ^ 16 + k.excess * 2 ^ 32 := by
      simp [resAt]
    rw [← hres]
    exact answers_of_judge (body := (·.fwTaskQuery i n)) (run := fun t => t.complete i stOK _) rfl hd rfl (by simp [hobj]) rfl rfl rfl
  · intro hd
    refine answers_of_due (e := (s.runsNow i 0x0604).belayGets (.event ⟨1600 + i.p, n, s.now, .host i.p i.f true⟩)) hd ?_ rfl
    rw [exec_of_act (due_live hd) (f := (·.cTaskSignal i task)) rfl, cTaskSignal_consumed (due_consumed hd), command_due hd, State.fwTaskSignal]
    exact congrArg _ (judge_pass (by simp [hobj, n]))

end Sys2Proof.Machine

/-! Belay's timers, delays and its trace (R218 to R221, R238, R239). -/

namespace Sys2Proof.Machine

/-! ### The registers of a timer (R239) -/

/-- A timer whose PERIOD register has been written. -/
def Timer.timed (k : Timer) (tick now : Nat) (p : Reg) : Timer :=
  { k with period := p.toNat, periodNs := p.toNat * tick, due := if p = 0 then 0 else upTo tick (now + p.toNat * tick) }

/-- A timer whose RGN and TASK have been written. -/
def Timer.aimed (k : Timer) (r : Byte) (task : BitVec 16) : Timer := { k with rgn := r, task := task }

theorem stopped_writable {k : Timer} (h : k.region = none ∨ k.period = 0) (b : Bool) :
    (k.region.isSome && decide (k.period ≠ 0) && b) = false := by
  rcases h with h | h <;> simp [h]

theorem timerWrite_period {s : State} {m : Nat} (h : (s.timer m).region = none ∨ (s.timer m).period = 0) (v : Reg) :
    s.timerWrite m false v = s.setTimer m ((s.timer m).timed s.belay.tick s.now v) := by
  have hw := stopped_writable h (decide (v ≠ 0))
  unfold State.timerWrite
  simp only [Bool.false_or, hw, Bool.false_eq_true, if_false]
  by_cases hv : v = 0
  · subst hv
    simp [Timer.timed]
  · rw [if_neg hv, Timer.timed, if_neg hv]

theorem timerWrite_aim {s : State} {m : Nat} (h : (s.timer m).region = none ∨ (s.timer m).period = 0) (v : Reg)
    (hv : fld v.toNat 16 8 < 64) :
    s.timerWrite m true v = s.setTimer m ((s.timer m).aimed (BitVec.ofNat 8 (fld v.toNat 16 8)) (BitVec.ofNat 16 v.toNat)) := by
  have hw := stopped_writable h true
  have hr : (decide (fld v.toNat 16 8 < 64) || decide (128 ≤ fld v.toNat 16 8)) = true := by simp [hv]
  unfold State.timerWrite
  simp only [Bool.true_or, hw, Bool.false_eq_true, if_false, if_true, hr, Timer.aimed]

/-! ### Expiry of timers (R220, R221) -/

theorem setTimer_now (s : State) (m : Nat) (k : Timer) : (s.setTimer m k).now = s.now := rfl

/-- A number lies between two neighbouring multiples of a period. -/
theorem whole_periods {d p now : Nat} (hp : p ≠ 0) (h : d ≤ now) :
    d + (now - d) / p * p ≤ now ∧ now < d + ((now - d) / p + 1) * p := by
  have hdiv := Nat.div_add_mod (now - d) p
  have hmod := Nat.mod_lt (now - d) (Nat.pos_of_ne_zero hp)
  rw [Nat.mul_comm] at hdiv
  rw [Nat.add_mul, Nat.one_mul]
  omega

/-- A timer that has come, in the order of its step, moves on, counts what it missed, and sends its event. -/
theorem timerFires_due {s : State} {m : Nat} (hr : (s.timer m).region.isSome = true) (hp : (s.timer m).periodNs ≠ 0)
    (hd : (s.timer m).due ≤ s.now) (ho : s.inOrder (s.timer m).due = true) :
    let x := s.timer m
    let n := (s.now - x.due) / x.periodNs
    let y := (s.setTimer m { x with due := x.due + (n + 1) * x.periodNs, miss := satAdd x.miss (n + b2n x.held) 0xFFFF }).btrace (.timerExpiry m)
    s.timerFires m = if x.held then y else y.belayGets (.event ⟨576 + m, x.task.toNat, s.now, .timer m⟩) := by
  have hcome : s.timerDue m = some (s.timer m).due := by
    have hsome : (s.timer m).region.isNone = false := by simpa using hr
    simp [State.timerDue, hp, hd, hsome]
  have hno : ((s.timerDue m).isNone || !s.inOrder (s.timer m).due) = false := by simp [hcome, ho]
  have hnow : ∀ k w, ((s.setTimer m k).btrace w).now = s.now :=
    fun k w => (now_of_aside (btrace_aside _ w)).trans (setTimer_now s m k)
  unfold State.timerFires
  simp only [hno, hnow, Bool.false_eq_true, if_false]

/-! ### Expiry of delays (R218, R219) -/

/-- A task wakes: its expiry is traced, and it becomes ready. -/
def State.wake (s : State) (n : Nat) : State := (s.btrace (.delayExpiry n)).makeReady n

theorem wake_aside (s : State) (n : Nat) : (s.wake n).aside = s.aside := by
  rw [State.wake, makeReady_aside, btrace_aside]

theorem wake_delay (s : State) (n : Nat) : (s.wake n).belay.delay = s.belay.delay := by
  rw [State.wake, delay_makeReady, btrace_delay]

theorem wake_task (s : State) (n : Nat) : ∃ m, (s.wake n).task n = (s.task n).listed .ready m := by
  obtain ⟨m, h⟩ := task_makeReady (s.btrace (.delayExpiry n)) n
  exact ⟨m, by rw [State.wake, h, btrace_task]⟩

theorem wake_task_ne (s : State) {n m : Nat} (h : m ≠ n) : (s.wake n).task m = s.task m := by
  rw [State.wake, task_makeReady_ne _ h, btrace_task]

/-- A task keeps its descriptor, and so its priority, where tasks wake. -/
theorem wake_prio (s : State) (n m : Nat) : ((s.wake n).task m).prio = (s.task m).prio := by
  by_cases h : m = n
  · subst h
    obtain ⟨e, he⟩ := wake_task s m
    rw [he]
    rfl
  · rw [wake_task_ne s h]

theorem wake_ready (s : State) (n : Nat) : (s.wake n).belay.ready =
    sput [] s.belay.ready (s.task n).prio (sget [] s.belay.ready (s.task n).prio ++ [n]) := by
  rw [State.wake, ready_makeReady, btrace_ready, btrace_task]

/-- The ready lists only grow where tasks wake. -/
theorem mem_ready_wake {s : State} {m p : Nat} (n : Nat) (h : m ∈ sget [] s.belay.ready p) : m ∈ sget [] (s.wake n).belay.ready p := by
  rw [wake_ready]
  by_cases hp : p = (s.task n).prio
  · subst hp
    simp [h]
  · rw [sget_sput_other _ _ _ hp]
    exact h

/-- Tasks wake in list order. -/
def State.wakeAll (s : State) (ts : List Nat) : State := forAll ts State.wake s

theorem wakeAll_cons (s : State) (n : Nat) (ts : List Nat) : s.wakeAll (n :: ts) = (s.wake n).wakeAll ts := rfl

theorem wakeAll_aside (ts : List Nat) : ∀ s : State, (s.wakeAll ts).aside = s.aside := by
  induction ts with
  | nil => intro s; rfl
  | cons n ts ih => intro s; rw [wakeAll_cons, ih, wake_aside]

theorem wakeAll_delay (ts : List Nat) : ∀ s : State, (s.wakeAll ts).belay.delay = s.belay.delay := by
  induction ts with
  | nil => intro s; rfl
  | cons n ts ih => intro s; rw [wakeAll_cons, ih, wake_delay]

theorem wakeAll_task_other {m : Nat} (ts : List Nat) : ∀ s : State, m ∉ ts → (s.wakeAll ts).task m = s.task m := by
  induction ts with
  | nil => intro s _; rfl
  | cons n ts ih =>
    intro s h
    rw [List.mem_cons, not_or] at h
    obtain ⟨hn, hts⟩ := h
    rw [wakeAll_cons, ih _ hts, wake_task_ne s hn]

theorem mem_ready_wakeAll {m p : Nat} (ts : List Nat) : ∀ s : State, m ∈ sget [] s.belay.ready p →
    m ∈ sget [] (s.wakeAll ts).belay.ready p := by
  induction ts with
  | nil => intro s h; exact h
  | cons n ts ih => intro s h; exact ih _ (mem_ready_wake n h)

/-- A task that wakes is READY in the list of its priority. -/
theorem wakeAll_task {m : Nat} (ts : List Nat) : ∀ s : State, m ∈ ts →
    ((s.wakeAll ts).task m).st = .ready ∧ ((s.wakeAll ts).task m).counter = 0 ∧
      m ∈ sget [] (s.wakeAll ts).belay.ready (s.task m).prio := by
  induction ts with
  | nil => intro s h; cases h
  | cons n ts ih =>
    intro s h
    rw [wakeAll_cons]
    by_cases hm : m ∈ ts
    · rw [← wake_prio s n m]
      exact ih _ hm
    · have hn : m = n := (List.mem_cons.mp h).resolve_right hm
      subst hn
      obtain ⟨e, he⟩ := wake_task s m
      rw [wakeAll_task_other ts _ hm, he]
      refine ⟨rfl, rfl, mem_ready_wakeAll ts _ ?_⟩
      rw [wake_ready]
      simp

/-- Outside DEBUG tasks that wake leave the HBM alone. -/
theorem wake_hbm {s : State} (h : s.sec.lcs ≠ .debug) (n : Nat) : (s.wake n).hbm = s.hbm := by
  have hroll : s.rollBelay.sec.lcs ≠ .debug := by rwa [rollBelay_eq]
  have hput : (s.wake n).hbm =
      (s.rollBelay.putTask n ((s.rollBelay.task n).listed .ready (s.rollBelay.belay.entries + 1))).hbm := by
    rw [State.wake, btrace_untraced h]
    rfl
  rw [hput, putTask_untraced (.inl hroll), setTask_hbm, rollBelay_eq]

theorem wakeAll_hbm (ts : List Nat) : ∀ s : State, s.sec.lcs ≠ .debug → (s.wakeAll ts).hbm = s.hbm := by
  induction ts with
  | nil => intro s _; rfl
  | cons n ts ih =>
    intro s h
    rw [wakeAll_cons, ih _ (by rwa [sec_of_aside (wake_aside s n)]), wake_hbm h]

/-- The expiries of a cycle wake the tasks whose time has come, and the rest of the delay list stays. -/
theorem expire_eq (s : State) : s.expire =
    (s.setBelay { s.belay with delay := s.belay.delay.filter fun e => !(s.wakes e && s.inOrder e.1) }).wakeAll
      ((s.belay.delay.filter fun e => s.wakes e && s.inOrder e.1).map (·.2)) := rfl

theorem rollBelay_inOrder (s : State) (t : Nat) : s.rollBelay.inOrder t = s.inOrder t := by
  unfold State.rollBelay
  split <;> rfl

theorem rollBelay_wakes (s : State) (e : Nat × Nat) : s.rollBelay.wakes e = s.wakes e := by
  unfold State.rollBelay
  split <;> rfl

theorem rollBelay_delay (s : State) : s.rollBelay.belay.delay = s.belay.delay :=
  (schedule_eq_iff.mp (rollBelay_schedule s)).2.2.2

theorem exec_blyTmrWrite {s : State} (hlive : s.live = true) (who : InitId) (m : TmrId) (second : Bool) (v : Reg) :
    exec (.blyTmrWrite who m second v) s = .next (if who.val = fwId then s.timerWrite m.val second v else s.emit (.regValue none)) :=
  exec_of_act hlive (f := fun s => if who.val = fwId then s.timerWrite m.val second v else s.emit (.regValue none)) rfl

/-- Settles O18: the registers of a timer by the two writes of R239, expiry by whole periods, and delays by the list of those that wake. -/
theorem timersAndDelays : Obligations.TimersAndDelays := by
  refine ⟨?_, ?_, fun s w => ⟨fun h => btrace_untraced h w, fun h => ?_⟩⟩
  · intro s i t r task period v m who second hlive k x b
    refine ⟨?_, ?_, ?_, ?_, ?_⟩
    · intro hd ht hr hreg hlo hhi hstop
      let k1 := k.timed s.belay.tick s.now 0
      let v1 := BitVec.ofNat 32 (r.toNat * 65536 + task.toNat)
      have hv1 : v1.toNat = r.toNat * 65536 + task.toNat := by
        have := task.isLt
        simp only [v1, BitVec.toNat_ofNat]
        omega
      have hf : fld v1.toNat 16 8 = r.toNat := by
        have := task.isLt
        rw [fld_eq_div_mod, hv1]
        omega
      have hr8 : BitVec.ofNat 8 r.toNat = r := BitVec.ofNat_toNat 8 r |>.trans (by simp)
      have htk : BitVec.ofNat 16 v1.toNat = task := by
        apply BitVec.eq_of_toNat_eq
        rw [BitVec.toNat_ofNat, hv1]
        have := task.isLt
        omega
      have he : ((((s.runsNow i 0x0605).timerWrite t.toNat false 0).timerWrite t.toNat true v1).timerWrite t.toNat false
          (BitVec.ofNat 32 period.toNat)) = (s.runsNow i 0x0605).setTimer t.toNat ((k1.aimed r task).timed s.belay.tick s.now period) := by
        rw [timerWrite_period (s := s.runsNow i 0x0605) hstop, timerWrite_aim (.inr (by rw [timer_setTimer]; rfl)) _ (by rw [hf]; exact hr),
          timer_setTimer, setTimer_setTimer, hf, hr8, htk, timerWrite_period (.inr (by rw [timer_setTimer]; rfl)), timer_setTimer, setTimer_setTimer, BitVec.ofNat_toNat, BitVec.setWidth_eq]
        rfl
      have hun : decide (r.toNat = 0xFF) = false := decide_eq_false (by omega)
      refine answers_ok (body := (·.fwTimerSet i t.toNat r.toNat task.toNat period.toNat))
        (fun t' => if decide (r.toNat = 0xFF) then (t'.timerWrite t.toNat false 0).timerWrite t.toNat true v1
          else ((t'.timerWrite t.toNat false 0).timerWrite t.toNat true v1).timerWrite t.toNat false (BitVec.ofNat 32 period.toNat))
        rfl hd rfl ?_ ?_ ?_
      · have hlo' : (s.breg r.toNat).base ≤ task.toNat := hlo
        have hhi' : task.toNat < (s.breg r.toNat).base + (s.breg r.toNat).count := hhi
        have hk : ((s.timer t.toNat).region.isSome && decide ((s.timer t.toNat).period ≠ 0) && decide (period.toNat ≠ 0)) = false := stopped_writable hstop _
        have hnone : (s.region r.toNat).isNone = false := by simpa using hreg
        have hlt : decide (1024 ≤ t.toNat) = false := decide_eq_false (by omega)
        have hr64 : decide (64 ≤ r.toNat) = false := decide_eq_false (by omega)
        have htask : (decide ((s.breg r.toNat).base ≤ task.toNat) && decide (task.toNat < (s.breg r.toNat).base + (s.breg r.toNat).count)) = true := by
          rw [decide_eq_true hlo', decide_eq_true hhi', Bool.true_and]
        refine firstFail_pass (Bool.or_eq_false_iff.mpr ⟨hlt, ?_⟩) (firstFail_pass ?_ (firstFail_pass hk rfl))
        · exact Bool.and_eq_false_iff.mpr (.inr (Bool.or_eq_false_iff.mpr ⟨hr64, hnone⟩))
        · exact Bool.and_eq_false_iff.mpr (.inr ((Bool.not_eq_false' ..).mpr htask))
      · simp only [hun, Bool.false_eq_true, if_false]
        rw [he]
        rfl
      · simp only [hun, Bool.false_eq_true, if_false]
        rw [he]
        rfl
    · intro hw
      rw [exec_blyTmrWrite hlive, if_neg hw]
    · intro hw hstop
      rw [exec_blyTmrWrite hlive, if_pos hw, timerWrite_period hstop, Timer.timed]
    · intro hw hstop hv
      have hr : fld v.toNat 16 8 = v.toNat / 65536 % 256 := fld_eq_div_mod _ _ _
      have hm : BitVec.ofNat 8 (v.toNat / 65536 % 256) = BitVec.ofNat 8 (v.toNat / 65536) := by
        apply BitVec.eq_of_toNat_eq
        simp
      rw [exec_blyTmrWrite hlive, if_pos hw, timerWrite_aim hstop v hv, hr, hm]
      rfl
    · intro hreg hp hdue ho
      refine ⟨_, whole_periods hp hdue, ?_⟩
      have hx := exec_of_act hlive (c := .timerExpiry m) (f := (·.timerFires m.val)) rfl
      rw [hx, timerFires_due hreg hp hdue ho]
      rfl
  · intro s hlive hscheme hord
    let due := fun e : Nat × Nat => decide (e.1 ≤ s.now)
    have hs : decide (s.belay.scheme ≠ 2) = true := decide_eq_true hscheme
    have hdue : ∀ e ∈ s.belay.delay, (s.rollBelay.wakes e && s.rollBelay.inOrder e.1) = due e := by
      intro e he
      rw [rollBelay_wakes, rollBelay_inOrder]
      by_cases hnow : e.1 ≤ s.now
      · simp only [State.wakes, hs, due, hord e he hnow, Bool.true_or, Bool.and_true]
      · simp only [State.wakes, due, hnow, decide_false, Bool.false_and]
    have he : s.rollBelay.expire = (s.rollBelay.setBelay { s.rollBelay.belay with delay := s.belay.delay.filter fun e => !due e }).wakeAll
        ((s.belay.delay.filter due).map (·.2)) := by
      rw [expire_eq, rollBelay_delay, List.filter_congr hdue, List.filter_congr fun e he => congrArg _ (hdue e he)]
    have hts : ∀ n, n ∈ (s.belay.delay.filter due).map (·.2) ↔ ∃ w, (w, n) ∈ s.belay.delay ∧ w ≤ s.now := by
      intro n
      simp [due]
    refine ⟨_, exec_of_act hlive (c := .delayExpiry) (f := (·.rollBelay.expire)) rfl, ?_⟩
    rw [he]
    generalize hu : s.rollBelay.setBelay { s.rollBelay.belay with delay := s.belay.delay.filter fun e => !due e } = u
    have htask : ∀ n, u.task n = s.task n := by
      intro n
      rw [← hu]
      exact rollBelay_task s n
    refine ⟨?_, ?_, ?_, ?_, ?_⟩
    · rw [wakeAll_delay, ← hu]
      refine List.filter_congr fun e _ => ?_
      by_cases hnow : e.1 ≤ s.now
      · simp [due, hnow, Nat.not_lt.mpr hnow]
      · simp [due, hnow, Nat.lt_of_not_le hnow]
    · intro w n hmem hw
      rw [← htask n]
      exact wakeAll_task _ u ((hts n).mpr ⟨w, hmem, hw⟩)
    · intro n hlate
      rw [wakeAll_task_other, htask]
      rw [hts]
      rintro ⟨w, hmem, hw⟩
      exact absurd (hlate w hmem) (Nat.not_lt.mpr hw)
    · have hframe : ∀ b h, ({ u with belay := b, hbm := h } : State) = { s with belay := b, hbm := h } := by
        intro b h
        rw [← hu, rollBelay_eq]
        rfl
      exact (eq_of_aside (wakeAll_aside ((s.belay.delay.filter due).map (·.2)) u)).trans (hframe _ _)
    · intro hdbg
      have hsec : u.sec = s.sec := by rw [← hu, rollBelay_eq]; rfl
      have hhbm : u.hbm = s.hbm := by rw [← hu, rollBelay_eq]; rfl
      rw [wakeAll_hbm _ u (by rwa [hsec]), hhbm]
  · simp [State.btrace, h, State.setBelay, State.anchorKeep]

end Sys2Proof.Machine

/-! Decrements and completions that Belay processes (R212, R213, R216, R226, R228). -/

namespace Sys2Proof.Machine

/-! ### What waits at Belay -/

theorem rollBelay_work (s : State) : s.rollBelay.belay.work = s.belay.work := by
  unfold State.rollBelay
  split <;> rfl

theorem takeWork_work (s : State) (j : Nat) (w : Work) : (s.takeWork j w).belay.work = s.belay.work.eraseIdx j := rfl

theorem holdSource_work (s : State) (o : Origin) (v : Bool) : (s.holdSource o v).belay.work = s.belay.work := by
  cases o with
  | comp c => rfl
  | queue q => cases v <;> rfl
  | mover m => cases v with
    | true => rfl
    | false => exact congrArg Belay.work (moverAnswered_belay s m)
  | timer t => rfl
  | host p f consumed => rfl

section
variable (b : BRegion) (now : Nat) (es : List BEvent) (ts : List Nat)

/-- What joins a retry changes the retry alone. -/
theorem joinRetry_eq : ∃ y, b.joinRetry now es ts = { b with retry := y } := by
  unfold BRegion.joinRetry
  split
  · split
    · exact ⟨_, rfl⟩
    · exact ⟨b.retry, rfl⟩
  · exact ⟨b.retry, rfl⟩

@[simp] theorem joinRetry_held : (b.joinRetry now es ts).held = b.held := by
  obtain ⟨y, h⟩ := joinRetry_eq b now es ts
  rw [h]

@[simp] theorem joinRetry_used : (b.joinRetry now es ts).used = b.used := by
  obtain ⟨y, h⟩ := joinRetry_eq b now es ts
  rw [h]

@[simp] theorem joinRetry_base : (b.joinRetry now es ts).base = b.base := by
  obtain ⟨y, h⟩ := joinRetry_eq b now es ts
  rw [h]

@[simp] theorem joinRetry_count : (b.joinRetry now es ts).count = b.count := by
  obtain ⟨y, h⟩ := joinRetry_eq b now es ts
  rw [h]

end

/-! ### Holding an event (R228) -/

/-- The counters of a region with one event held more. -/
def BRegion.hold (b : BRegion) (now : Nat) (e : BEvent) : BRegion := { b with held := b.held ++ [e] }.joinRetry now [e] []

theorem holdEvent_of_region {s : State} {e : BEvent} {r : Nat} (h : s.regionOfTask e.task = some r) :
    s.holdEvent e = (s.setBreg r ((s.breg r).hold s.now e)).holdSource e.orig true := by
  unfold State.holdEvent
  rw [h]
  rfl

theorem holdEvent_of_none {s : State} {e : BEvent} (h : s.regionOfTask e.task = none) : s.holdEvent e = s := by
  unfold State.holdEvent
  rw [h]

theorem holdEvent_work (s : State) (e : BEvent) : (s.holdEvent e).belay.work = s.belay.work := by
  cases h : s.regionOfTask e.task with
  | none => rw [holdEvent_of_none h]
  | some r => rw [holdEvent_of_region h, holdSource_work]; rfl

theorem holdEvent_task (s : State) (e : BEvent) (n : Nat) : (s.holdEvent e).task n = s.task n := by
  cases h : s.regionOfTask e.task with
  | none => rw [holdEvent_of_none h]
  | some r => rw [holdEvent_of_region h, task_of_schedule (holdSource_schedule _ _ _)]; rfl

/-- An event that is held joins its region's list; the other regions stay. -/
theorem holdEvent_breg (s : State) (e : BEvent) (r : Nat) : (s.holdEvent e).breg r =
    if s.regionOfTask e.task = some r then (s.breg r).hold s.now e else s.breg r := by
  cases h : s.regionOfTask e.task with
  | none => rw [holdEvent_of_none h]; rfl
  | some q =>
    rw [holdEvent_of_region h, breg_of_schedule (holdSource_schedule _ _ _)]
    by_cases hq : r = q
    · subst hq
      rw [if_pos rfl, breg_setBreg]
    · rw [if_neg fun he => hq (Option.some.inj he).symm, breg_setBreg_ne s _ hq]

theorem holdEvent_frame (s : State) (e : BEvent) (r : Nat) : ((s.holdEvent e).breg r).used = (s.breg r).used ∧
    ((s.holdEvent e).breg r).base = (s.breg r).base ∧ ((s.holdEvent e).breg r).count = (s.breg r).count := by
  rw [holdEvent_breg]
  split <;> simp [BRegion.hold]

theorem regionOfTask_congr {s t : State} (h : ∀ r, (t.breg r).base = (s.breg r).base ∧ (t.breg r).count = (s.breg r).count) (n : Nat) :
    t.regionOfTask n = s.regionOfTask n := by
  simp only [State.regionOfTask, (h _).1, (h _).2]

theorem holdEvent_regionOfTask (s : State) (e : BEvent) (n : Nat) : (s.holdEvent e).regionOfTask n = s.regionOfTask n :=
  regionOfTask_congr (fun r => (holdEvent_frame s e r).2) n

theorem mem_held_holdEvent {s : State} {x : BEvent} {r : Nat} (e : BEvent) (h : x ∈ (s.breg r).held) :
    x ∈ ((s.holdEvent e).breg r).held := by
  rw [holdEvent_breg]
  split
  · simp [BRegion.hold, h]
  · exact h

theorem self_mem_held {s : State} {e : BEvent} {r : Nat} (h : s.regionOfTask e.task = some r) : e ∈ ((s.holdEvent e).breg r).held := by
  rw [holdEvent_breg, if_pos h]
  simp [BRegion.hold]

/-- Events that are held one after the other. -/
def State.holdAll (s : State) (es : List BEvent) : State := es.foldl State.holdEvent s

theorem holdAll_frame (es : List BEvent) : ∀ (s : State), (s.holdAll es).belay.work = s.belay.work ∧
    (∀ n, (s.holdAll es).task n = s.task n) ∧ ∀ r, ((s.holdAll es).breg r).used = (s.breg r).used := by
  induction es with
  | nil => exact fun s => ⟨rfl, fun _ => rfl, fun _ => rfl⟩
  | cons e es ih =>
    intro s
    obtain ⟨hwork, htask, hused⟩ := ih (s.holdEvent e)
    exact ⟨hwork.trans (holdEvent_work s e), fun n => (htask n).trans (holdEvent_task s e n),
      fun r => (hused r).trans (holdEvent_frame s e r).1⟩

theorem mem_held_holdAll {x : BEvent} {r : Nat} (es : List BEvent) : ∀ s : State, x ∈ (s.breg r).held →
    x ∈ ((s.holdAll es).breg r).held := by
  induction es with
  | nil => exact fun s h => h
  | cons e es ih => exact fun s h => ih _ (mem_held_holdEvent e h)

/-- Each of the events stands in the list of its region. -/
theorem holdAll_mem {x : BEvent} {r : Nat} (es : List BEvent) : ∀ s : State, x ∈ es → s.regionOfTask x.task = some r →
    x ∈ ((s.holdAll es).breg r).held := by
  induction es with
  | nil => intro s h; cases h
  | cons e es ih =>
    intro s h hr
    rcases List.mem_cons.mp h with rfl | h
    · exact mem_held_holdAll es _ (self_mem_held hr)
    · exact ih _ h (by rw [holdEvent_regionOfTask, hr])

/-- The successor decrements of the completion of an event that still wait. -/
def State.restOf (s : State) (e : BEvent) : List BEvent :=
  s.belay.work.filterMap fun w => match w with
    | .event x => if e.src < 256 && decide (x.orig = e.orig) then some x else none
    | .comp _ => none

/-- Waiting work without some events. -/
def dropEvents (es : List BEvent) (l : List Work) : List Work :=
  l.filter fun w => match w with
    | .event x => !es.contains x
    | .comp _ => true

theorem holdRest_eq (s : State) (e : BEvent) : s.holdRest e =
    (s.setBelay { s.belay with work := dropEvents (s.restOf e) s.belay.work }).holdAll (s.restOf e) := rfl

theorem mem_restOf {s : State} {e x : BEvent} (hm : Work.event x ∈ s.belay.work) (hs : e.src < 256) (ho : x.orig = e.orig) :
    x ∈ s.restOf e :=
  List.mem_filterMap.mpr ⟨_, hm, by simp [hs, ho]⟩

theorem not_mem_dropEvents {x : BEvent} {es : List BEvent} {l : List Work} (h : x ∈ es) : Work.event x ∉ dropEvents es l := by
  simp [dropEvents, h]

theorem dropEvents_nil (l : List Work) : dropEvents [] l = l := by
  refine List.filter_eq_self.mpr fun w _ => ?_
  cases w <;> rfl

theorem restOf_nil {s : State} {e : BEvent} (h : 256 ≤ e.src ∨ ∀ x, Work.event x ∈ s.belay.work → x.orig ≠ e.orig) : s.restOf e = [] := by
  refine List.filterMap_eq_nil_iff.mpr fun w hw => ?_
  cases w with
  | comp c => rfl
  | event x =>
    rcases h with h | h
    · simp [Nat.not_lt.mpr h]
    · simp [h x hw]

/-- Where no successor decrement of the same completion follows, none is held with an event. -/
theorem holdRest_alone {s : State} {e : BEvent} (h : 256 ≤ e.src ∨ ∀ x, Work.event x ∈ s.belay.work → x.orig ≠ e.orig) :
    s.holdRest e = s := by
  rw [holdRest_eq, restOf_nil h, dropEvents_nil]
  rfl

/-! ### A decrement (R212, R213, R216) -/

/-- The region counts one more event that quota holds up. -/
def BRegion.blocked (b : BRegion) : BRegion := { b with qblk := min (b.qblk + 1) 65535 }

section
variable {s : State} {e : BEvent} {r : Nat} (hr : s.regionOfTask e.task = some r)
  (hf : (s.task e.task).st ≠ .free) (hd : (s.task e.task).st ≠ .dormant)
include hr hf hd

theorem decrement_excess (hc : (s.task e.task).counter = 0) (hx : (s.task e.task).excess < 65535) :
    s.decrement e = (true, s.setTask e.task { s.task e.task with excess := (s.task e.task).excess + 1 }) := by
  have hne : (s.task e.task).excess ≠ 65535 := by omega
  simp [State.decrement, hr, hf, hd, hc, hne]

theorem decrement_counts (hc : 1 < (s.task e.task).counter) :
    s.decrement e = (true, s.setTask e.task { s.task e.task with counter := (s.task e.task).counter - 1 }) := by
  have h0 : (s.task e.task).counter ≠ 0 := by omega
  simp [State.decrement, hr, hf, hd, hc, h0]

theorem decrement_last (hc : (s.task e.task).counter = 1) (hq : (s.breg r).used < (s.breg r).quota) :
    s.decrement e = (true, s.takeUnit r e.task) := by
  simp [State.decrement, hr, hf, hd, hc, BRegion.unitFree, hq]

theorem decrement_refused (hc : (s.task e.task).counter = 1) (hq : (s.breg r).quota ≤ (s.breg r).used) :
    s.decrement e = (false, s.setBreg r (s.breg r).blocked) := by
  simp [State.decrement, hr, hf, hd, hc, BRegion.unitFree, Nat.not_lt.mpr hq, BRegion.blocked, satAdd]

end

theorem takeUnit_work (s : State) (r n : Nat) : (s.takeUnit r n).belay.work = s.belay.work := by
  rw [work_of_aside (takeUnit_aside s r n)]
  rfl

theorem decrement_work (s : State) (e : BEvent) : (s.decrement e).2.belay.work = s.belay.work := by
  unfold State.decrement
  split
  · rfl
  · dsimp only
    split_ifs
    · rfl
    · rfl
    · rfl
    · rfl
    · exact takeUnit_work s _ e.task
    · rfl

/-- A decrement is accepted but where quota holds up a last one. -/
theorem decrement_accepts {s : State} {e : BEvent} {r : Nat} (hr : s.regionOfTask e.task = some r)
    (h : ¬ ((s.task e.task).st ≠ .free ∧ (s.task e.task).st ≠ .dormant ∧ (s.task e.task).counter = 1 ∧ (s.breg r).quota ≤ (s.breg r).used)) :
    (s.decrement e).1 = true := by
  by_cases hst : (s.task e.task).st = .free ∨ (s.task e.task).st = .dormant
  · rw [decrement_discarded hr hst]
  · rw [not_or] at hst
    obtain ⟨hf, hd⟩ := hst
    rcases Nat.lt_trichotomy (s.task e.task).counter 1 with hc | hc | hc
    · have h0 : (s.task e.task).counter = 0 := by omega
      by_cases hx : (s.task e.task).excess = 65535
      · simp [State.decrement, hr, hf, hd, h0, hx]
      · simp [State.decrement, hr, hf, hd, h0, hx]
    · rw [decrement_last hr hf hd hc (by_contra fun hq => h ⟨hf, hd, hc, Nat.not_lt.mp hq⟩)]
    · rw [decrement_counts hr hf hd hc]

/-- An event that is taken leaves what its decrement leaves of the schedule and of the work that waits. -/
theorem takeEvent_accepted {s t : State} {e : BEvent} (h : s.decrement e = (true, t)) :
    (s.takeEvent e).schedule = t.schedule ∧ (s.takeEvent e).belay.work = t.belay.work := by
  have he : s.takeEvent e = (t.btrace (.event e.src e.task true)).holdSource e.orig false := by
    unfold State.takeEvent
    rw [h]
    rfl
  rw [he, holdSource_schedule, btrace_schedule, holdSource_work, work_of_aside (btrace_aside t _)]
  exact ⟨rfl, rfl⟩

theorem takeEvent_refused {s t : State} {e : BEvent} (h : s.decrement e = (false, t)) :
    s.takeEvent e = ((t.btrace (.event e.src e.task false)).holdEvent e).holdRest e := by
  unfold State.takeEvent
  rw [h]
  rfl

/-- The task, the counters and the work that an accepted decrement leaves stand after the event. -/
theorem takeEvent_leaves {s t : State} {e : BEvent} (h : s.decrement e = (true, t)) :
    (s.takeEvent e).belay.work = t.belay.work ∧ (∀ n, (s.takeEvent e).task n = t.task n) ∧ ∀ r, (s.takeEvent e).breg r = t.breg r := by
  obtain ⟨hsched, hwork⟩ := takeEvent_accepted h
  exact ⟨hwork, task_of_schedule hsched, breg_of_schedule hsched⟩

/-- The state in which a refused decrement holds its event: the hold-up is counted and traced. -/
def State.refusing (s : State) (e : BEvent) (r : Nat) : State := (s.setBreg r (s.breg r).blocked).btrace (.event e.src e.task false)

theorem refusing_spec (s : State) (e : BEvent) (r : Nat) :
    (s.refusing e r).belay.work = s.belay.work ∧ (s.refusing e r).now = s.now ∧ (∀ n, (s.refusing e r).task n = s.task n) ∧
      (s.refusing e r).breg r = (s.breg r).blocked ∧ ∀ n, (s.refusing e r).regionOfTask n = s.regionOfTask n := by
  have ha : (s.refusing e r).aside = (s.setBreg r (s.breg r).blocked).aside := btrace_aside _ _
  refine ⟨(work_of_aside ha :), (now_of_aside ha :), fun n => btrace_task _ _ n, ?_, fun n => ?_⟩
  · rw [breg_of_aside ha, breg_setBreg]
  · rw [regionOfTask_of_aside ha]
    refine regionOfTask_congr (fun q => ?_) n
    by_cases hq : q = r
    · subst hq
      rw [breg_setBreg]
      exact ⟨rfl, rfl⟩
    · rw [breg_setBreg_ne s _ hq]
      exact ⟨rfl, rfl⟩

/-- A refused last decrement is held for quota, and with it the successor decrements of its completion that follow (R228). -/
theorem takeEvent_held {s : State} {e : BEvent} {r : Nat} (hr : s.regionOfTask e.task = some r)
    (h : s.decrement e = (false, s.setBreg r (s.breg r).blocked)) :
    let t := s.takeEvent e
    t.task e.task = s.task e.task ∧ e ∈ (t.breg r).held ∧ (t.breg r).used = (s.breg r).used ∧
      ((256 ≤ e.src ∨ ∀ x, Work.event x ∈ s.belay.work → x.orig ≠ e.orig) →
        t.belay.work = s.belay.work ∧ t.breg r = (s.breg r).blocked.hold s.now e) ∧
      (∀ x rx, Work.event x ∈ s.belay.work → e.src < 256 → x.orig = e.orig → s.regionOfTask x.task = some rx →
        Work.event x ∉ t.belay.work ∧ x ∈ (t.breg rx).held) := by
  obtain ⟨hwork, hnow, htask, hbreg, hregion⟩ := refusing_spec s e r
  have he : s.takeEvent e = ((s.refusing e r).holdEvent e).holdRest e := takeEvent_refused h
  dsimp only
  rw [he]
  generalize s.refusing e r = u at hwork hnow htask hbreg hregion
  have hur : u.regionOfTask e.task = some r := (hregion _).trans hr
  have hvwork : (u.holdEvent e).belay.work = s.belay.work := (holdEvent_work u e).trans hwork
  obtain ⟨hawork, hatask, haused⟩ := holdAll_frame ((u.holdEvent e).restOf e)
    ((u.holdEvent e).setBelay { (u.holdEvent e).belay with work := dropEvents ((u.holdEvent e).restOf e) (u.holdEvent e).belay.work })
  refine ⟨?_, ?_, ?_, ?_, ?_⟩
  · exact (hatask _).trans ((holdEvent_task u e _).trans (htask _))
  · exact mem_held_holdAll _ _ (self_mem_held hur)
  · refine (haused r).trans (((holdEvent_frame u e r).1).trans ?_)
    rw [hbreg]
    rfl
  · intro halone
    rw [holdRest_alone (by rwa [hvwork]), hvwork, holdEvent_breg, if_pos hur, hbreg, hnow]
    exact ⟨rfl, rfl⟩
  · intro x rx hx hsrc horig hrx
    have hmem : x ∈ (u.holdEvent e).restOf e := mem_restOf (by rwa [hvwork]) hsrc horig
    refine ⟨?_, ?_⟩
    · rw [holdRest_eq, hawork]
      exact not_mem_dropEvents hmem
    · refine holdAll_mem _ _ hmem ?_
      exact (holdEvent_regionOfTask u e _).trans ((hregion _).trans hrx)

/-! ### Processing a completion (R226) -/

/-- What a release of quota arms changes the retry alone. -/
theorem armRetry_frame (s : State) (r : Nat) :
    (s.armRetry r).belay.work = s.belay.work ∧ (∀ c, (s.armRetry r).srec c = s.srec c) ∧ (∀ n, (s.armRetry r).task n = s.task n) ∧
      ((s.armRetry r).breg r).used = (s.breg r).used ∧ ((s.armRetry r).breg r).fail = (s.breg r).fail := by
  unfold State.armRetry
  dsimp only
  split
  · exact ⟨rfl, fun _ => rfl, fun _ => rfl, rfl, rfl⟩
  · rw [breg_setBreg]
    exact ⟨rfl, fun _ => rfl, fun _ => rfl, rfl, rfl⟩

theorem compNotice_belay (s : State) (r : Nat) (k : Task) (c : Comp) : (s.compNotice r k c).belay = s.belay := by
  unfold State.compNotice
  split
  · split <;> rfl
  · rfl

/-- The counters of a region as a task of it completes. -/
def BRegion.ended (b : BRegion) (c : Comp) : BRegion :=
  { b with used := b.used - 1, fail := if c.status = 0 then b.fail else satAdd b.fail 1 0xFFFFFFFF }

/-- The state in which a completed task of region r is rearmed or left DORMANT. -/
def State.completing (s : State) (r : Nat) (c : Comp) : State :=
  (((s.setBreg r ((s.breg r).ended c)).armRetry r).compNotice r (s.task c.task) c).btrace (.completion c.cl c.task)

theorem completing_spec (s : State) (r : Nat) (c : Comp) :
    (s.completing r c).belay.work = s.belay.work ∧ (∀ d, (s.completing r c).srec d = s.srec d) ∧
      (∀ n, (s.completing r c).task n = s.task n) ∧ ((s.completing r c).breg r).used = (s.breg r).used - 1 ∧
      ((s.completing r c).breg r).fail = ((s.breg r).ended c).fail := by
  obtain ⟨hwork, hsrec, htask, hused, hfail⟩ := armRetry_frame (s.setBreg r ((s.breg r).ended c)) r
  rw [breg_setBreg] at hused hfail
  have hb := compNotice_belay ((s.setBreg r ((s.breg r).ended c)).armRetry r) r (s.task c.task) c
  have ha := btrace_aside (((s.setBreg r ((s.breg r).ended c)).armRetry r).compNotice r (s.task c.task) c) (.completion c.cl c.task)
  refine ⟨?_, fun d => ?_, fun n => ?_, ?_, ?_⟩
  · exact (work_of_aside ha).trans ((congrArg Belay.work hb).trans hwork)
  · exact (srec_of_aside ha d).trans ((congrArg (fun b : Belay => (sget {} b.recs d : SeqRec)) hb).trans (hsrec d))
  · exact (btrace_task _ _ n).trans ((task_of_schedule (schedule_of_belay hb) n).trans (htask n))
  · rw [State.completing, breg_of_aside ha, breg_of_schedule (schedule_of_belay hb), hused]
    rfl
  · rw [State.completing, breg_of_aside ha, breg_of_schedule (schedule_of_belay hb), hfail]

/-- A completed task is rearmed, with INIT less its excess, or left DORMANT; at 0 it takes a unit or is held for quota. -/
def State.settle (u : State) (r : Nat) (k : Task) (c : Comp) : State :=
  if c.status = 0 && k.rearm then
    let d := min k.initv k.excess
    let t := u.putTask c.task { k with st := .waiting, counter := k.initv - d, excess := k.excess - d }
    if k.initv = d then t.counterZero r c.task else t
  else u.putTask c.task { k with st := .dormant, counter := 0, excess := 0 }

theorem settle_dormant {u : State} {r : Nat} {k : Task} {c : Comp} (h : ¬ (c.status = 0 ∧ k.rearm = true)) :
    u.settle r k c = u.putTask c.task { k with st := .dormant, counter := 0, excess := 0 } :=
  if_neg (by simpa using h)

theorem settle_waits {u : State} {r : Nat} {k : Task} {c : Comp} (hs : c.status = 0) (hre : k.rearm = true) (hx : k.excess < k.initv) :
    u.settle r k c = u.putTask c.task { k with st := .waiting, counter := k.initv - k.excess, excess := 0 } := by
  have hd : min k.initv k.excess = k.excess := by omega
  have hne : k.initv ≠ k.excess := by omega
  simp [State.settle, hs, hre, hd, hne]

theorem processComp_resident {s : State} {c : Comp} {r : Nat} {k : Task} (hr : (s.dropRec c.cl c.task).regionOfTask c.task = some r)
    (hk : (s.dropRec c.cl c.task).task c.task = k) (hst : k.st = .resident) :
    s.processComp c =
      let v := ((s.dropRec c.cl c.task).completing r c).settle r k c
      if c.status = 0 then v.setBelay { v.belay with work := compEvents k c ++ v.belay.work } else v := by
  subst hk
  unfold State.processComp
  dsimp only
  rw [hr]
  exact if_neg (not_not.mpr hst)

theorem counterZero_frame (s : State) (r n : Nat) :
    (s.counterZero r n).belay.work = s.belay.work ∧ ∀ c, (s.counterZero r n).srec c = s.srec c := by
  rcases Nat.lt_or_ge (s.breg r).used (s.breg r).quota with h | h
  · rw [counterZero_takes h]
    exact ⟨(work_of_aside (takeUnit_aside s r n) :), (srec_of_aside (takeUnit_aside s r n) :)⟩
  · rw [counterZero_holds h]
    exact ⟨(work_of_aside (putTask_aside s n { s.task n with st := .waiting, counter := 0, qheld := true }) :),
      (srec_of_aside (putTask_aside s n { s.task n with st := .waiting, counter := 0, qheld := true }) :)⟩

theorem settle_frame (u : State) (r : Nat) (k : Task) (c : Comp) :
    (u.settle r k c).belay.work = u.belay.work ∧ ∀ d, (u.settle r k c).srec d = u.srec d := by
  have hput : ∀ x : Task, (u.putTask c.task x).belay.work = u.belay.work ∧ ∀ d, (u.putTask c.task x).srec d = u.srec d :=
    fun x => ⟨work_of_aside (putTask_aside u c.task x), srec_of_aside (putTask_aside u c.task x)⟩
  unfold State.settle
  dsimp only
  split
  · split
    · obtain ⟨hwork, hsrec⟩ := counterZero_frame (u.putTask c.task
        { k with st := .waiting, counter := k.initv - min k.initv k.excess, excess := k.excess - min k.initv k.excess }) r c.task
      exact ⟨hwork.trans (hput _).1, fun d => (hsrec d).trans ((hput _).2 d)⟩
    · exact hput _
  · exact hput _

theorem changeRec_frame (s : State) (c : Nat) (f : SeqRec → SeqRec) :
    (s.changeRec c f).belay.work = s.belay.work ∧ (s.changeRec c f).schedule = s.schedule :=
  ⟨rollBelay_work s, rollBelay_schedule s⟩

/-- Settles O19: each of the cases of a decrement, and the steps of a completion in their order. -/
theorem dependencesAndCompletions : Obligations.DependencesAndCompletions := by
  refine ⟨?_, ?_⟩
  · intro s j e r hlive hnext hr k b left refused
    let u := s.rollBelay.takeWork j (.event e)
    have hu : u.schedule = s.schedule := rollBelay_schedule s
    have hwork : u.belay.work = left := congrArg (·.eraseIdx j) (rollBelay_work s)
    have hk : u.task e.task = k := task_of_schedule hu _
    have hb : u.breg r = b := breg_of_schedule hu r
    have hur : u.regionOfTask e.task = some r := (regionOfTask_of_schedule hu _).trans hr
    refine ⟨u.takeEvent e, exec_dependenceDecrement_event hlive hnext, ?_, ?_, ?_⟩
    · intro hno
      have hacc := decrement_accepts hur (by rw [hk, hb]; exact hno)
      have hd : u.decrement e = (true, (u.decrement e).2) := Prod.ext hacc rfl
      rw [(takeEvent_leaves hd).1, decrement_work, hwork]
    · intro hst
      rw [← hk] at hst
      obtain ⟨-, htask, hbreg⟩ := takeEvent_leaves (decrement_discarded hur hst)
      rw [htask, hbreg, breg_setBreg, hb]
      exact ⟨hk, rfl⟩
    · intro hf hd
      rw [← hk] at hf hd
      refine ⟨?_, ?_, ?_, ?_⟩
      · intro hc hx
        obtain ⟨-, htask, hbreg⟩ := takeEvent_leaves (decrement_excess hur hf hd (hk ▸ hc) (hk ▸ hx))
        rw [htask, hbreg, task_setTask, hk]
        exact ⟨rfl, hb⟩
      · intro hc
        obtain ⟨-, htask, hbreg⟩ := takeEvent_leaves (decrement_counts hur hf hd (hk ▸ hc))
        rw [htask, hbreg, task_setTask, hk]
        exact ⟨rfl, hb⟩
      · intro hc hq
        obtain ⟨-, htask, hbreg⟩ := takeEvent_leaves (decrement_last hur hf hd (hk ▸ hc) (hb ▸ hq))
        obtain ⟨m, hm⟩ := task_takeUnit u r e.task
        rw [htask, hbreg, breg_takeUnit, hb, hm, hk]
        exact ⟨rfl, rfl, rfl⟩
      · intro hc hq
        have := takeEvent_held hur (decrement_refused hur hf hd (hk ▸ hc) (hb ▸ hq))
        have hnow : u.now = s.now := (now_of_aside (rollBelay_aside s) :)
        simp only [hwork, hk, hb, hnow, regionOfTask_of_schedule hu] at this
        exact this
  · intro s j c r hlive hnext hr hst k b
    let u := s.rollBelay.takeWork j (.comp c)
    have hexec : exec .completionProcessing s = .next (u.processComp c) := by
      have hx : exec .completionProcessing s = execCompletionProcessing s := rfl
      rw [hx, execCompletionProcessing, act_live hlive]
      simp only [hnext, u]
    refine ⟨_, hexec, ?_⟩
    let v := u.dropRec c.cl c.task
    have hv : v.schedule = s.schedule := (changeRec_frame u c.cl _).2.trans (rollBelay_schedule s)
    have hk : v.task c.task = k := task_of_schedule hv _
    have hb : v.breg r = b := breg_of_schedule hv r
    have hvr : v.regionOfTask c.task = some r := (regionOfTask_of_schedule hv _).trans hr
    have hwork : v.belay.work = s.belay.work.eraseIdx j :=
      (changeRec_frame u c.cl _).1.trans (congrArg (·.eraseIdx j) (rollBelay_work s))
    have hrec : (v.srec c.cl).tasks = (s.srec c.cl).tasks.filter fun e => decide (e.1 ≠ c.task) := by
      have := (changeRec_spec u c.cl fun r => { r with tasks := r.tasks.filter fun e => decide (e.1 ≠ c.task) }).1
      have hs : u.srec c.cl = s.srec c.cl := rollBelay_srec s c.cl
      rw [show v.srec c.cl = _ from this, hs]
    obtain ⟨hcwork, hcsrec, -, hcused, hcfail⟩ := completing_spec v r c
    rw [processComp_resident hvr hk hst]
    dsimp only
    rw [hb] at hcused hcfail
    generalize (u.dropRec c.cl c.task).completing r c = w at *
    obtain ⟨hswork, hssrec⟩ := settle_frame w r k c
    rw [hcwork, hwork] at hswork
    have hsched : ∀ l, (if c.status = 0 then (w.settle r k c).setBelay { (w.settle r k c).belay with work := l } else w.settle r k c).schedule =
        (w.settle r k c).schedule := by
      intro l
      split <;> rfl
    refine ⟨?_, fun hs => ?_, fun hs => ?_, fun hno => ?_, fun hs hre hx => ?_⟩
    · rw [← hrec, ← hcsrec, ← hssrec]
      split <;> rfl
    · rw [if_neg hs]
      refine ⟨hswork, ?_⟩
      rw [settle_dormant fun h => hs h.1, breg_putTask, hcfail, BRegion.ended, if_neg hs]
      rfl
    · rw [if_pos hs, ← hswork]
      rfl
    · rw [task_of_schedule (hsched _), breg_of_schedule (hsched _), settle_dormant hno, task_putTask, breg_putTask, hcused]
      exact ⟨rfl, rfl⟩
    · rw [task_of_schedule (hsched _), breg_of_schedule (hsched _), settle_waits hs hre hx, task_putTask, breg_putTask, hcused]
      exact ⟨rfl, rfl⟩

end Sys2Proof.Machine

/-! Dispatch, and the retries of what quota holds (R215, R222 to R225, R229, R230, R234). -/

namespace Sys2Proof.Machine

/-! ### What Belay sends next (R223, R224) -/

/-- The candidates of the sequencers that may take one. -/
def State.candidates (s : State) : List (Nat × Nat × Nat) :=
  (((s.belay.ready.flatMap (·.2)).filterMap s.taskCluster).eraseDups).filterMap fun c => (s.sendable c).map fun (p, t) => (c, p, t)

theorem nextSend_eq (s : State) : s.nextSend = (List.range 5).findSome? fun o =>
    s.ownSend o (s.candidates.filter fun (_, _, t) => decide (s.dispOwner t = o)) := rfl

theorem candidate_listed {s : State} {c p n : Nat} (h : s.candidate c = some (p, n)) :
    n ∈ sget [] s.belay.ready p ∧ s.taskCluster n = some c := by
  obtain ⟨q, -, hq⟩ := List.exists_of_findSome?_eq_some h
  simp only [Option.map_eq_some_iff, Prod.mk.injEq] at hq
  obtain ⟨t, hfind, rfl, rfl⟩ := hq
  have hp := List.find?_some hfind
  simp only [Bool.and_eq_true, decide_eq_true_eq] at hp
  exact ⟨List.mem_of_find?_eq_some hfind, hp.2⟩

theorem sendable_candidate {s : State} {c p n : Nat} (h : s.sendable c = some (p, n)) : s.candidate c = some (p, n) := by
  unfold State.sendable at h
  split at h
  · rename_i hc
    split at h
    · rw [hc, h]
    · cases h
  · cases h

theorem mem_candidates {s : State} {c p n : Nat} : (c, p, n) ∈ s.candidates ↔ s.sendable c = some (p, n) := by
  unfold State.candidates
  rw [List.mem_filterMap]
  constructor
  · rintro ⟨d, -, hd⟩
    simp only [Option.map_eq_some_iff, Prod.mk.injEq, Prod.exists] at hd
    obtain ⟨q, t, hs, rfl, rfl, rfl⟩ := hd
    exact hs
  · intro h
    obtain ⟨hready, hcl⟩ := candidate_listed (sendable_candidate h)
    refine ⟨c, ?_, by rw [h]; rfl⟩
    rw [List.mem_eraseDups, List.mem_filterMap]
    refine ⟨n, ?_, hcl⟩
    rcases sget_eq_or_mem [] p s.belay.ready with h0 | ⟨x, hx, hv⟩
    · rw [h0] at hready
      cases hready
    · exact List.mem_flatMap.mpr ⟨x, hx, hv ▸ hready⟩

/-- The highest priority of a list of candidates. -/
def bestPrio (all : List (Nat × Nat × Nat)) : Nat := all.foldl (fun m (_, p, _) => max m p) 0

theorem le_foldl_max (all : List (Nat × Nat × Nat)) : ∀ m, m ≤ all.foldl (fun m (_, p, _) => max m p) m := by
  induction all with
  | nil => exact fun m => Nat.le_refl m
  | cons x all ih => exact fun m => Nat.le_trans (Nat.le_max_left m x.2.1) (ih _)

theorem le_bestPrio {all : List (Nat × Nat × Nat)} {c p n : Nat} (h : (c, p, n) ∈ all) : p ≤ bestPrio all := by
  suffices ∀ m, p ≤ all.foldl (fun m (_, p, _) => max m p) m from this 0
  induction all with
  | nil => cases h
  | cons x all ih =>
    intro m
    rcases List.mem_cons.mp h with rfl | h
    · exact Nat.le_trans (Nat.le_max_right m p) (le_foldl_max all _)
    · exact ih h _

/-- What an owner of dispatch slots sends next is a candidate of the highest priority. -/
theorem ownSend_spec {s : State} {o c p n : Nat} {all : List (Nat × Nat × Nat)} (h : s.ownSend o all = some (c, p, n)) :
    (c, p, n) ∈ all ∧ ∃ u, (c, bestPrio all, u) ∈ all := by
  unfold State.ownSend at h
  dsimp only at h
  obtain ⟨d, hpick, hfind⟩ := Option.bind_eq_some_iff.mp h
  have hd : c = d := by simpa using List.find?_some hfind
  subst hd
  refine ⟨List.mem_of_find?_eq_some hfind, ?_⟩
  have hany := List.find?_some hpick
  simp only [List.any_eq_true, Bool.and_eq_true, decide_eq_true_eq, Prod.exists] at hany
  obtain ⟨a, q, u, hmem, rfl, hbest⟩ := hany
  exact ⟨u, by rw [bestPrio, ← hbest]; exact hmem⟩

/-- Belay sends a candidate, and none of its owner of dispatch slots has a higher priority. -/
theorem nextSend_spec {s : State} {c p n : Nat} (h : s.nextSend = some (c, p, n)) :
    s.sendable c = some (p, n) ∧ ∀ d q u, s.sendable d = some (q, u) → s.dispOwner u = s.dispOwner n → q ≤ p := by
  rw [nextSend_eq] at h
  obtain ⟨o, -, ho⟩ := List.exists_of_findSome?_eq_some h
  obtain ⟨hmem, v, hbest⟩ := ownSend_spec ho
  obtain ⟨hc, hn⟩ := List.mem_filter.mp hmem
  have hsend := mem_candidates.mp hc
  have hp : p = bestPrio (s.candidates.filter fun (_, _, t) => decide (s.dispOwner t = o)) := by
    have := mem_candidates.mp (List.mem_filter.mp hbest).1
    rw [hsend] at this
    exact congrArg Prod.fst (Option.some.inj this)
  refine ⟨hsend, fun d q u hd hown => ?_⟩
  rw [hp]
  refine le_bestPrio (List.mem_filter.mpr ⟨mem_candidates.mpr hd, ?_⟩)
  have hn' : s.dispOwner n = o := of_decide_eq_true hn
  exact decide_eq_true (hown.trans hn')

/-! ### Sending a start (R223 to R225) -/

/-- The state but for Belay, the network and the HBM. -/
def State.elsewhere (s : State) : State := { s with belay := {}, noc := {}, hbm := {} }

theorem eq_of_elsewhere {s t : State} (h : t.elsewhere = s.elsewhere) : t = { s with belay := t.belay, noc := t.noc, hbm := t.hbm } := by
  have hs : ∀ x : State, ({ x.elsewhere with belay := t.belay, noc := t.noc, hbm := t.hbm } : State) =
    { x with belay := t.belay, noc := t.noc, hbm := t.hbm } := fun _ => rfl
  rw [← hs s, ← h, hs t]

theorem elsewhere_of_aside {s t : State} (h : t.aside = s.aside) : t.elsewhere = s.elsewhere :=
  (congrArg State.elsewhere h :)

/-- The message that a start carries (R225). -/
def Task.startMsg (k : Task) (n p : Nat) : StartMsg :=
  { task := n, prio := p, entry := BitVec.ofNat 16 k.entry, base := k.spbase, lim := k.splim,
    args := (List.range 4).map fun i => BitVec.ofNat 32 (k.bits (32 * i) 32) }

/-- The packet of a start. -/
def startPacket (c : Nat) (m : StartMsg) : Packet := { op := .evt, who := belayId, prio := 3, evt := some (.start c m) }

/-- A task that is sent leaves its ready list and takes a place of the cycle. -/
def State.takeReady (s : State) (c p n : Nat) : State :=
  let t := s.putTask n { s.task n with st := .resident }
  t.setBelay { t.belay with
    ready := sput [] s.belay.ready p ((sget [] s.belay.ready p).filter fun x => decide (x ≠ n))
    ptr := sput 0 s.belay.ptr (16 * s.dispOwner n + p) ((c + 1) % 256)
    sends := sput 0 s.belay.sends (s.dispOwner n) (sget 0 s.belay.sends (s.dispOwner n) + 1)
    sentTo := c :: s.belay.sentTo }

/-- A region counts one more dispatch. -/
def BRegion.sent (b : BRegion) : BRegion := { b with disp := satAdd b.disp 1 0xFFFFFFFF }

/-- The record of the sequencer heads the task. -/
def State.recordSend (s : State) (c p n : Nat) : State :=
  (s.takeReady c p n).changeRec c fun x => { tasks := (n, p) :: x.tasks, sent := true }

/-- The state in which a start leaves: the task is resident, recorded and counted. -/
def State.sending (s : State) (c p n r : Nat) : State := (s.recordSend c p n).setBreg r ((s.recordSend c p n).breg r).sent

theorem takeReady_elsewhere (s : State) (c p n : Nat) : (s.takeReady c p n).elsewhere = s.elsewhere :=
  (elsewhere_of_aside (putTask_aside s n _) :)

theorem changeRec_elsewhere (s : State) (c : Nat) (f : SeqRec → SeqRec) : (s.changeRec c f).elsewhere = s.elsewhere := by
  rw [changeRec_eq]
  rfl

theorem changeRec_noc (s : State) (c : Nat) (f : SeqRec → SeqRec) : (s.changeRec c f).noc = s.noc := by rw [changeRec_eq]

theorem changeRec_hbm (s : State) (c : Nat) (f : SeqRec → SeqRec) : (s.changeRec c f).hbm = s.hbm := by rw [changeRec_eq]

section
variable (s : State) (c p n r : Nat)

theorem recordSend_schedule : (s.recordSend c p n).schedule = (s.takeReady c p n).schedule := (changeRec_frame _ c _).2

theorem recordSend_breg (q : Nat) : (s.recordSend c p n).breg q = s.breg q :=
  (breg_of_schedule (recordSend_schedule s c p n) q).trans (breg_putTask s n q _)

theorem sending_elsewhere : (s.sending c p n r).elsewhere = s.elsewhere := by
  have h : (s.sending c p n r).elsewhere = (s.recordSend c p n).elsewhere := rfl
  rw [h, State.recordSend, changeRec_elsewhere, takeReady_elsewhere]

theorem sending_noc : (s.sending c p n r).noc = s.noc := by
  have h : (s.sending c p n r).noc = (s.recordSend c p n).noc := rfl
  rw [h, State.recordSend, changeRec_noc]
  exact (noc_of_aside (putTask_aside s n { s.task n with st := .resident }) :)

theorem sending_hbm : (s.sending c p n r).hbm = (s.putTask n { s.task n with st := .resident }).hbm := by
  have h : (s.sending c p n r).hbm = (s.recordSend c p n).hbm := rfl
  rw [h, State.recordSend, changeRec_hbm]
  rfl

theorem sending_task (m : Nat) : (s.sending c p n r).task m = (s.putTask n { s.task n with st := .resident }).task m :=
  task_of_schedule (recordSend_schedule s c p n) m

theorem sending_ready : n ∉ sget [] (s.sending c p n r).belay.ready p := by
  have h : (s.sending c p n r).belay.ready = (s.takeReady c p n).belay.ready :=
    (schedule_eq_iff.mp (recordSend_schedule s c p n)).2.2.1
  rw [h]
  simp [State.takeReady, State.setBelay]

theorem sending_srec : (s.sending c p n r).srec c = { tasks := (n, p) :: (s.srec c).tasks, sent := true } := by
  have h := (changeRec_spec (s.takeReady c p n) c fun x => { tasks := (n, p) :: x.tasks, sent := true }).1
  have ht : (s.takeReady c p n).srec c = s.srec c := (srec_of_aside (putTask_aside s n { s.task n with st := .resident }) c :)
  rw [ht] at h
  exact h

theorem sending_breg : (s.sending c p n r).breg r = (s.breg r).sent := by
  rw [State.sending, breg_setBreg, recordSend_breg]

end

theorem sendStart_eq {s : State} {c p n r : Nat} (hr : s.regionOfTask n = some r) :
    s.sendStart c p n = ((s.sending c p n r).sendReq (.array c 0) (startPacket c ((s.task n).startMsg n p))).btrace (.send c n) := by
  have h : (s.recordSend c p n).regionOfTask n = some r := by
    rw [← hr]
    simp only [State.regionOfTask, recordSend_breg]
  have hs : s.sendStart c p n = ((match (s.recordSend c p n).regionOfTask n with
      | some r => (s.recordSend c p n).setBreg r { (s.recordSend c p n).breg r with disp := satAdd ((s.recordSend c p n).breg r).disp 1 0xFFFFFFFF }
      | none => s.recordSend c p n).sendReq (.array c 0) (startPacket c ((s.task n).startMsg n p))).btrace (.send c n) := rfl
  rw [hs, h]
  rfl

/-! ### Retries (R229, R230) -/

/-- A held event that is retried and accepted leaves the list, and its task enters its own. -/
theorem retryEvent_accepted {s t : State} {r : Nat} {e : BEvent}
    (h : (s.takeLane (s.laneOwner e.src e.task)).decrement e = (true, t)) (hheld : (t.breg r).held = [e]) :
    (s.retryEvent r e).schedule = (t.setBreg r ({ t.breg r with held := [] }.tried (some e) none)).schedule := by
  have hb : (t.btrace (.event e.src e.task true)).breg r = t.breg r := breg_of_schedule (btrace_schedule t _) r
  have hs : s.retryEvent r e = ((t.btrace (.event e.src e.task true)).setBreg r
      ({ t.breg r with held := [] }.tried (some e) none)).holdSource e.orig false := by
    unfold State.retryEvent
    dsimp only
    rw [h]
    dsimp only
    rw [hb, hheld]
    simp
  rw [hs, holdSource_schedule]
  have := btrace_schedule t (.event e.src e.task true)
  obtain ⟨htasks, hregions, hready, hdelay⟩ := schedule_eq_iff.mp this
  refine schedule_eq_iff.mpr ⟨htasks, ?_, hready, hdelay⟩
  exact congrArg (fun m : SMap BRegion => sput {} m r ({ t.breg r with held := [] }.tried (some e) none)) hregions

theorem tried_held (b : BRegion) (e : Option BEvent) (n : Option Nat) : (b.tried e n).held = b.held := rfl

theorem tried_used (b : BRegion) (e : Option BEvent) (n : Option Nat) : (b.tried e n).used = b.used := rfl

/-- A task held for quota that is retried while a unit is free takes it. -/
theorem retryTask_takes {s : State} {r n : Nat} (h : (s.breg r).used < (s.breg r).quota) :
    s.retryTask r n = ((s.takeLane (s.laneOwner 0 n)).setBreg r
      { (s.breg r).tried none (some n) with qheld := (s.breg r).qheld.erase n }).takeUnit r n :=
  if_pos (decide_eq_true h)

/-- The one held event of a region is what its retries name first. -/
theorem retries_event {s : State} {r : Nat} {y : Retry} {e : BEvent} (hy : (s.breg r).retry = some y) (hs : y.since < s.now)
    (hheld : (s.breg r).held = [e]) (he : e ∈ y.events) :
    ∃ es, (s.retries r).1 = e :: es ∧ ∀ x ∈ es, x = e := by
  have hall : ∀ x ∈ (s.retries r).1, x = e := by
    intro x hx
    simp only [State.retries, hy, hs, if_true, hheld] at hx
    exact (by simpa using (List.mem_filter.mp hx).2 : x = e ∧ _).1
  have hmem : e ∈ (s.retries r).1 := by
    simp only [State.retries, hy, hs, if_true, hheld]
    refine List.mem_filter.mpr ⟨he, ?_⟩
    simp [heldOrder, insertSrc]
  cases hl : (s.retries r).1 with
  | nil => rw [hl] at hmem; cases hmem
  | cons x es =>
    rw [hl] at hall
    have hx := hall x List.mem_cons_self
    subst hx
    exact ⟨es, rfl, fun z hz => hall z (List.mem_cons_of_mem _ hz)⟩

theorem retryOne_event {s : State} {r : Nat} {e : BEvent} {es : List BEvent} (hx : s.expiryDue = false)
    (hl : (s.retries r).1 = e :: es) (hfree : s.laneFree (s.laneOwner e.src e.task) = true) : s.retryOne r = s.retryEvent r e := by
  have hp : s.retries r = (e :: es, (s.retries r).2) := Prod.ext hl rfl
  unfold State.retryOne
  rw [hx, hp]
  simp [hfree]

theorem retries_task {s : State} {r n : Nat} {y : Retry} {rest : List Nat} (hy : (s.breg r).retry = some y) (hs : y.since < s.now)
    (hheld : (s.breg r).held = []) (hq : (s.breg r).qheld = n :: rest) (hn : y.tasks.head? = some n) :
    ∃ ts, s.retries r = ([], n :: ts) := by
  obtain ⟨ts, hts⟩ := List.head?_eq_some_iff.mp hn
  exact ⟨ts.filter fun t => (s.breg r).qheld.contains t, by simp [State.retries, hy, hs, hheld, hts, hq]⟩

theorem retryOne_task {s : State} {r n : Nat} {ts : List Nat} (hx : s.expiryDue = false) (hl : s.retries r = ([], n :: ts))
    (hfree : s.laneFree (s.laneOwner 0 n) = true) : s.retryOne r = s.retryTask r n := by
  unfold State.retryOne
  rw [hx, hl]
  simp [hfree]

theorem rollBelay_expiryDue (s : State) : s.rollBelay.expiryDue = s.expiryDue := by
  unfold State.rollBelay
  split <;> rfl

theorem rollBelay_dispOwner (s : State) (n : Nat) : s.rollBelay.dispOwner n = s.dispOwner n := by
  unfold State.rollBelay
  split <;> rfl

/-- A start that leaves changes the network by what stands there alone. -/
theorem startPacket_noc {s t : State} (h : t.noc = s.noc) (c : Nat) (m : StartMsg) :
    (t.sendReq (.array c 0) (startPacket c m)).noc = (s.sendReq (.array c 0) (startPacket c m)).noc := by
  have hwrap : ∀ x : State, x.nowrapTo belayId (.array c 0) = false := fun _ => rfl
  have hwho : (startPacket c m).who = belayId := rfl
  have hinit : t.init belayId = s.init belayId := by rw [State.init, h]; rfl
  rw [State.sendReq, State.sendReq, hwho, hwrap, hwrap, hinit]
  simp only [State.sendFrom, State.setInit, h]

/-- Settles O20: what Belay sends by the choice of its owner, and a retry by the first item of its region. -/
theorem dispatchAndRetries : Obligations.DispatchAndRetries := by
  refine ⟨?_, ?_⟩
  · intro s c p n r hlive hnext hr k
    obtain ⟨hsend, hbest⟩ := nextSend_spec hnext
    refine ⟨hsend, fun d q u hd hown => hbest d q u hd (by rwa [rollBelay_dispOwner, rollBelay_dispOwner]), ?_⟩
    have hexec : exec .dispatch s = .next (s.rollBelay.sendStart c p n) := by
      have hx : exec .dispatch s = execDispatch s := rfl
      rw [hx, execDispatch, act_live hlive]
      simp only [hnext]
    refine ⟨_, hexec, ?_⟩
    have hk : s.rollBelay.task n = k := rollBelay_task s n
    rw [sendStart_eq ((regionOfTask_of_schedule (rollBelay_schedule s) n).trans hr), hk]
    generalize hw : s.rollBelay.sending c p n r = w
    have htask := sending_task s.rollBelay c p n r
    have hready := sending_ready s.rollBelay c p n r
    have hsrec := sending_srec s.rollBelay c p n r
    have hbreg := sending_breg s.rollBelay c p n r
    have hnoc := sending_noc s.rollBelay c p n r
    have hhbm := sending_hbm s.rollBelay c p n r
    have helse := sending_elsewhere s.rollBelay c p n r
    rw [hw] at htask hready hsrec hbreg hnoc hhbm helse
    generalize hv : w.sendReq (.array c 0) (startPacket c (k.startMsg n p)) = v
    have ha := btrace_aside v (.send c n)
    have hwv : v = { w with noc := v.noc } := by rw [← hv]; rfl
    have hvtask : ∀ m, (v.btrace (.send c n)).task m = (s.rollBelay.putTask n { k with st := .resident }).task m := by
      intro m
      rw [btrace_task, hwv, ← hk, ← htask]
      rfl
    refine ⟨?_, ?_, ?_, ?_, ?_, ?_, ?_, ?_⟩
    · rw [hvtask, task_putTask]
    · rw [btrace_ready, hwv]
      exact hready
    · rw [srec_of_aside ha, hwv]
      exact hsrec.trans (by rw [rollBelay_srec])
    · rw [breg_of_aside ha, hwv]
      exact hbreg.trans (by rw [breg_of_schedule (rollBelay_schedule s)]; rfl)
    · rw [noc_of_aside ha, ← hv]
      exact startPacket_noc (hnoc.trans (noc_of_aside (rollBelay_aside s))) c (k.startMsg n p)
    · refine eq_of_elsewhere ?_
      rw [elsewhere_of_aside ha, hwv, ← elsewhere_of_aside (rollBelay_aside s), ← helse]
      rfl
    · intro hdbg
      have hroll : s.rollBelay.sec.lcs ≠ .debug := by rwa [sec_of_aside (rollBelay_aside s)]
      have hvsec : v.sec.lcs ≠ .debug := by
        rw [hwv, show w.sec = s.rollBelay.sec from (congrArg State.sec helse :)]
        exact hroll
      rw [btrace_untraced hvsec, hwv, show w.hbm = _ from hhbm, putTask_untraced (.inl hroll), setTask_hbm, rollBelay_eq]
    · intro m hm
      rw [hvtask, task_putTask_ne _ _ hm, rollBelay_task]
  · intro s r y hlive hexp b hy hsince hquota
    have hsched := rollBelay_schedule s
    have hub : s.rollBelay.breg r = b := breg_of_schedule hsched r
    have hnow : s.rollBelay.now = s.now := now_of_aside (rollBelay_aside s)
    have hexec : exec (.heldEventRetry r) s = .next (s.rollBelay.retryOne r) :=
      exec_of_act hlive (f := fun s => s.rollBelay.retryOne r.val) rfl
    have hx : s.rollBelay.expiryDue = false := (rollBelay_expiryDue s).trans hexp
    refine ⟨?_, ?_⟩
    · intro e hheld hmem hreg hst hcount hfree
      have hown : s.rollBelay.laneOwner e.src e.task = s.laneOwner e.src e.task := laneOwner_of_aside (rollBelay_aside s) _ _
      obtain ⟨es, hes, -⟩ := retries_event (s := s.rollBelay) (r := r) (by rw [hub, hy]) (by rwa [hnow]) (by rw [hub, hheld]) hmem
      rw [hexec, retryOne_event hx hes (by rwa [hown])]
      refine ⟨_, rfl, ?_⟩
      let u := s.rollBelay.takeLane (s.rollBelay.laneOwner e.src e.task)
      have hu : u.schedule = s.schedule := hsched
      have hk : u.task e.task = s.task e.task := task_of_schedule hu _
      have hb : u.breg r = b := breg_of_schedule hu r
      have hdec : u.decrement e = (true, u.takeUnit r e.task) := by
        refine decrement_last ((regionOfTask_of_schedule hu _).trans hreg) ?_ ?_ ?_ ?_
        · rw [hk, hst]; decide
        · rw [hk, hst]; decide
        · rw [hk, hcount]
        · rw [hb]; exact hquota
      have hbt : (u.takeUnit r e.task).breg r = b.useUnit := by rw [breg_takeUnit, hb]
      have hfin := retryEvent_accepted hdec (by rw [hbt]; exact hheld)
      obtain ⟨m, hm⟩ := task_takeUnit u r e.task
      rw [breg_of_schedule hfin, task_of_schedule hfin, breg_setBreg, hbt]
      have htask : ((u.takeUnit r e.task).setBreg r ({ b.useUnit with held := [] }.tried (some e) none)).task e.task =
        (s.task e.task).listed (if (s.task e.task).delay = 0 then .ready else .delayed) m := by rw [← hk]; exact hm
      rw [htask]
      exact ⟨rfl, rfl, rfl, rfl⟩
    · intro n rest hheld hq hn hfree
      have hown : s.rollBelay.laneOwner 0 n = s.laneOwner 0 n := laneOwner_of_aside (rollBelay_aside s) _ _
      obtain ⟨ts, hts⟩ := retries_task (s := s.rollBelay) (r := r) (by rw [hub, hy]) (by rwa [hnow]) (by rw [hub, hheld])
        (by rw [hub, hq]) hn
      rw [hexec, retryOne_task hx hts (by rwa [hown]), retryTask_takes (by rw [hub]; exact hquota)]
      refine ⟨_, rfl, ?_⟩
      rw [breg_takeUnit, breg_setBreg, hub]
      obtain ⟨m, hm⟩ := task_takeUnit ((s.rollBelay.takeLane (s.rollBelay.laneOwner 0 n)).setBreg r
        { b.tried none (some n) with qheld := b.qheld.erase n }) r n
      have hk : ((s.rollBelay.takeLane (s.rollBelay.laneOwner 0 n)).setBreg r
        { b.tried none (some n) with qheld := b.qheld.erase n }).task n = s.task n := rollBelay_task s n
      rw [hk] at hm
      rw [hm]
      refine ⟨?_, rfl, rfl, rfl, rfl⟩
      show b.qheld.erase n = rest
      rw [hq, List.erase_cons_head]

end Sys2Proof.Machine

/-! Queue, memory-tile and forward-channel commands (R132, R136, R137, R154, R169, R437, R438). -/

namespace Sys2Proof.Machine

/-! ### Queues that are enabled and disabled (R137, R162) -/

/-- A queue as an enable leaves it. -/
def Queue.started (u : Queue) (now : Nat) : Queue :=
  { u with en := true, count := 0, wr := 0, rd := 0, nsat := false, perr := false, ovr := false, sx := false, lx := false, hx := false,
           ovcnt := 0, notices := [], onWay := none, staleStopped := false, staleFrom := now }

/-- A queue as a disable leaves it. -/
def Queue.stopped (u : Queue) : Queue := { u with en := false, count := 0, wr := 0, rd := 0, notices := [], onWay := none }

/-- Credits for a queue on their way to its mover. -/
def State.creditsComing (s : State) (q : Nat) : Nat :=
  ((s.noc.packets.filter fun p => decide (p.op = .crd) && p.toMover && decide (p.chan = (s.queue q).psrc.toNat) && decide (p.addr = q)).map
    (·.count)).sum

/-- A mover that holds n credits for a queue, and to which m credits of before are still on their way. -/
def Mover.credited (v : Mover) (q n m : Nat) : Mover := { v with credits := sput 0 v.credits q n, stale := sput 0 v.stale q m }

theorem enableQueue_started {k : Cluster} {q now : Nat} (h : (k.queue q).en = false) :
    (k.enableQueue q).setQueue q { (k.enableQueue q).queue q with staleFrom := now } = k.setQueue q ((k.queue q).started now) := by
  have hno : ¬ (k.queue q).en = true := by simp [h]
  have he : k.enableQueue q = k.setQueue q { (k.queue q).started now with staleFrom := (k.queue q).staleFrom } := if_neg hno
  rw [he]
  simp [Cluster.setQueue, Cluster.queue, Queue.started]

theorem disableQueue_stopped {k : Cluster} {q : Nat} (h : (k.queue q).en = true) :
    k.disableQueue q = k.setQueue q (k.queue q).stopped := if_pos h

theorem moverVoid_mover {s : State} {q : Nat} (h : (s.queue q).prod = prodMOVER) :
    s.moverVoid q = s.setMover (s.queue q).psrc.toNat ((s.mover (s.queue q).psrc.toNat).credited q 0 (s.creditsComing q)) := if_pos h

theorem moverVoid_other {s : State} {q : Nat} (h : (s.queue q).prod ≠ prodMOVER) : s.moverVoid q = s := if_neg h

theorem moverCredits_mover {s : State} {q : Nat} (h : (s.queue q).prod = prodMOVER) (ht : (s.cl (q / 128)).umsyn = false) :
    s.moverCredits q = s.setMover (s.queue q).psrc.toNat ((s.mover (s.queue q).psrc.toNat).credited q
      ((s.queue q).depth - s.moverFlying q) (s.creditsComing q)) := by
  have htile : (s.cl (q / 128)).isTile (q % 128) = false := by simp [Cluster.isTile, ht]
  have hdepth : (s.cl (q / 128)).qDepth (q % 128) = (s.queue q).depth := by simp [Cluster.qDepth, htile, State.queue]
  unfold State.moverCredits
  rw [moverVoid_mover h]
  refine (if_pos h).trans ?_
  rw [mover_setMover, setMover_setMover, htile, hdepth]
  show s.setMover _ _ = s.setMover _ _
  simp only [Mover.credited, sput_sput_same]
  rfl

theorem moverCredits_other {s : State} {q : Nat} (h : (s.queue q).prod ≠ prodMOVER) : s.moverCredits q = s := by
  unfold State.moverCredits
  rw [moverVoid_other h]
  exact if_neg h

theorem moverFlying_setQueue (s : State) (q : Nat) (v : Queue) : (s.setQueue q v).moverFlying q = s.moverFlying q := by
  unfold State.moverFlying State.setQueue
  rw [cl_updCl]
  rfl

theorem creditsComing_setQueue {s : State} {q : Nat} {v : Queue} (h : v.psrc = (s.queue q).psrc) :
    (s.setQueue q v).creditsComing q = s.creditsComing q := by
  unfold State.creditsComing
  rw [queue_setQueue, h]
  rfl

/-- A queue is enabled, and its mover gets credits for its depth, less its words on their way. -/
def State.enabled (s : State) (q : Nat) : State :=
  let u := s.queue q
  let e := s.setQueue q (u.started s.now)
  if u.prod = prodMOVER then
    e.setMover u.psrc.toNat ((s.mover u.psrc.toNat).credited q (u.depth - s.moverFlying q) (s.creditsComing q)) else e

/-- A queue is disabled, and its mover loses its credits. -/
def State.disabled (s : State) (q : Nat) : State :=
  let u := s.queue q
  let e := s.setQueue q u.stopped
  if u.prod = prodMOVER then e.setMover u.psrc.toNat ((s.mover u.psrc.toNat).credited q 0 (s.creditsComing q)) else e

theorem moverCredits_started {s : State} {q : Nat} (ht : (s.cl (q / 128)).umsyn = false) :
    (s.setQueue q ((s.queue q).started s.now)).moverCredits q = s.enabled q := by
  have hu := queue_setQueue s q ((s.queue q).started s.now)
  unfold State.enabled
  dsimp only
  by_cases h : (s.queue q).prod = prodMOVER
  · have hum : ((s.setQueue q ((s.queue q).started s.now)).cl (q / 128)).umsyn = false := by
      rw [State.setQueue, cl_updCl]
      exact ht
    have hc := creditsComing_setQueue (s := s) (q := q) (v := (s.queue q).started s.now) rfl
    rw [if_pos h, moverCredits_mover (by rw [hu]; exact h) hum, hu, moverFlying_setQueue, hc]
    rfl
  · rw [if_neg h, moverCredits_other (by rw [hu]; exact h)]

theorem moverVoid_stopped {s : State} {q : Nat} (h : (s.queue q).en = true) :
    (s.moverVoid q).updCl (q / 128) (·.disableQueue (q % 128)) = s.disabled q := by
  have hd : (s.cl (q / 128)).disableQueue (q % 128) = (s.cl (q / 128)).setQueue (q % 128) (s.queue q).stopped := disableQueue_stopped h
  unfold State.disabled
  dsimp only
  by_cases hp : (s.queue q).prod = prodMOVER
  · rw [if_pos hp, moverVoid_mover hp]
    exact congrArg (fun k => (s.setMover (s.queue q).psrc.toNat
      ((s.mover (s.queue q).psrc.toNat).credited q 0 (s.creditsComing q))).setCl (q / 128) k) hd
  · rw [if_neg hp, moverVoid_other hp]
    exact congrArg (fun k => s.setCl (q / 128) k) hd

theorem enabled_host (s : State) (q : Nat) : (s.enabled q).host = s.host := by
  unfold State.enabled
  dsimp only
  split <;> rfl

theorem disabled_host (s : State) (q : Nat) : (s.disabled q).host = s.host := by
  unfold State.disabled
  dsimp only
  split <;> rfl

theorem disabled_belay (s : State) (q : Nat) : (s.disabled q).belay = s.belay := by
  unfold State.disabled
  dsimp only
  split <;> rfl

theorem enabled_upToHost (s t : State) (q : Nat) : (s.enabled q).upToHost t = (s.upToHost t).enabled q := by
  unfold State.enabled
  dsimp only
  by_cases h : (s.queue q).prod = prodMOVER
  · exact (congrArg (State.upToHost · t) (if_pos h)).trans (if_pos (c := ((s.upToHost t).queue q).prod = prodMOVER) h).symm
  · exact (congrArg (State.upToHost · t) (if_neg h)).trans (if_neg (c := ((s.upToHost t).queue q).prod = prodMOVER) h).symm

theorem disabled_upToHost (s t : State) (q : Nat) : (s.disabled q).upToHost t = (s.upToHost t).disabled q := by
  unfold State.disabled
  dsimp only
  by_cases h : (s.queue q).prod = prodMOVER
  · exact (congrArg (State.upToHost · t) (if_pos h)).trans (if_pos (c := ((s.upToHost t).queue q).prod = prodMOVER) h).symm
  · exact (congrArg (State.upToHost · t) (if_neg h)).trans (if_neg (c := ((s.upToHost t).queue q).prod = prodMOVER) h).symm

/-- Belay holds no notice of a queue any more. -/
def State.unheld (s : State) (q : Nat) : State :=
  { s with belay := { s.belay with
    regions := s.belay.regions.map fun x => (x.1, { x.2 with held := x.2.held.filter fun e => decide (e.orig ≠ .queue q) }) } }

theorem queueOff_eq {s : State} {q : Nat} (h : (s.queue q).en = true) : s.queueOff q = (s.disabled q).unheld q := by
  rw [← moverVoid_stopped h]
  rfl

/-- What a tenant's queue passes of the checks of its number and its region. -/
theorem queueFails_pass {s : State} {i : Issuer} {q r : Nat} {g : Region} (hq : s.qRegion q = some r) (hlt : q < 32768)
    (hg : s.region r = some g) (ht : g.ten = i.p) (hs : g.stop = none) : firstFail (s.queueFails i q) = none :=
  firstFail_pass (decide_eq_false (Nat.not_le.mpr hlt)) (objFails_pass hq hg ht hs)

section
variable {s : State} {i : Issuer} {r : Nat} {g : Region} (hg : s.region r = some g) (ht : g.ten = i.p) (hs : g.stop = none)
include hg ht hs

theorem queueCfg_answers {qid base depth : BitVec 16} {prod cons psrc : Byte} (hq : s.qRegion qid.toNat = some r) (hlt : qid.toNat < 32768)
    (hd : s.due i 0x0500 [(8, 2, qid.toNat), (10, 2, base.toNat), (12, 2, depth.toNat), (14, 1, prod.toNat), (15, 1, cons.toNat),
      (16, 1, psrc.toNat)] = true)
    (h4 : 4 ≤ depth.toNat) (hmax : depth.toNat ≤ 4096) (hend : base.toNat + depth.toNat ≤ 65536) (hp : prod.toNat ≤ 7) (hc : cons.toNat ≤ 2)
    (hsrc : psrc.toNat ≤ 63) (hen : (s.queue (s.physQ qid.toNat)).en = false) (hum : (s.cl (s.physQ qid.toNat / 128)).umsyn = false)
    (hlink : s.linkTo (s.physQ qid.toNat / 128) (s.physQ qid.toNat % 128) = none) :
    Answers (.queueCfg i qid base depth prod cons psrc) s i stOK 0 (s.setQueue (s.physQ qid.toNat) { s.queue (s.physQ qid.toNat) with
      base := base.toNat, depth := depth.toNat, prod := prod.setWidth 3, cons := cons.setWidth 2, psrc := psrc.setWidth 6 }) := by
  rw [← BitVec.ofNat_toNat, ← BitVec.ofNat_toNat, ← BitVec.ofNat_toNat]
  refine answers_ok (body := (·.fwQueueCfg i qid.toNat base.toNat depth.toNat prod.toNat cons.toNat psrc.toNat))
    (·.setQueue (s.physQ qid.toNat) _) rfl hd rfl ?_ rfl rfl
  refine firstFail_append (firstFail_pass ?_ (queueFails_pass (s := s.runsNow i 0x0500) hq hlt hg ht hs)) (firstFail_pass ?_ (firstFail_pass ?_ firstFail_nil))
  · simp only [Bool.or_eq_false_iff, decide_eq_false_iff_not]
    omega
  · exact Bool.or_eq_false_iff.mpr ⟨hen, hum⟩
  · exact Bool.and_eq_false_iff.mpr (.inl (congrArg Option.isSome hlink))

theorem queueEnable_answers {qid : BitVec 16} (hq : s.qRegion qid.toNat = some r) (hlt : qid.toNat < 32768)
    (hd : s.due i 0x0501 [(8, 2, qid.toNat)] = true) (hen : (s.queue (s.physQ qid.toNat)).en = false)
    (hum : (s.cl (s.physQ qid.toNat / 128)).umsyn = false) (hdepth : (s.queue (s.physQ qid.toNat)).depth ≠ 0)
    (hover : (s.cl (s.physQ qid.toNat / 128)).overlaps (s.physQ qid.toNat % 128) = false) :
    Answers (.queueEnable i qid) s i stOK 0 (s.enabled (s.physQ qid.toNat)) := by
  have hno : ¬ (s.queue (s.physQ qid.toNat)).en = true := by rw [hen]; exact Bool.false_ne_true
  have hq0 : (s.cl (s.physQ qid.toNat / 128)).qDepth (s.physQ qid.toNat % 128) ≠ 0 := by
    simpa [Cluster.qDepth, Cluster.isTile, hum, State.queue] using hdepth
  have he := enableQueue_started (k := s.cl (s.physQ qid.toNat / 128)) (q := s.physQ qid.toNat % 128) (now := s.now) hen
  refine answers_of_body (body := (·.fwQueueEnable i qid.toNat)) (e := (s.runsNow i 0x0501).enabled (s.physQ qid.toNat)) rfl hd ?_
    (rstp_of_host (enabled_host _ _)) (enabled_upToHost _ _ _)
  rw [State.fwQueueEnable]
  refine (judge_pass (queueFails_pass (s := s.runsNow i 0x0501) hq hlt hg ht hs)).trans ((if_neg hno).trans ?_)
  refine (judge_pass (firstFail_pass ?_ (firstFail_pass hover firstFail_nil))).trans ?_
  · exact Bool.or_eq_false_iff.mpr ⟨decide_eq_false hq0, Bool.and_eq_false_iff.mpr (.inl hum)⟩
  · rw [← moverCredits_started (s := s.runsNow i 0x0501) hum]
    exact congrArg (fun k => (((s.runsNow i 0x0501).setCl (s.physQ qid.toNat / 128) k).moverCredits (s.physQ qid.toNat)).ok i) he

theorem queueDisable_answers {qid : BitVec 16} (hq : s.qRegion qid.toNat = some r) (hlt : qid.toNat < 32768)
    (hd : s.due i 0x0502 [(8, 2, qid.toNat)] = true) (hen : (s.queue (s.physQ qid.toNat)).en = true)
    (hlink : s.linkTo (s.physQ qid.toNat / 128) (s.physQ qid.toNat % 128) = none) :
    Answers (.queueDisable i qid) s i stOK 0 ((s.disabled (s.physQ qid.toNat)).unheld (s.physQ qid.toNat)) := by
  refine answers_of_body (body := (·.fwQueueDisable i qid.toNat))
    (e := ((s.runsNow i 0x0502).disabled (s.physQ qid.toNat)).unheld (s.physQ qid.toNat)) rfl hd ?_
    (rstp_of_host (disabled_host _ _)) (congrArg (State.unheld · _) (disabled_upToHost _ _ _))
  rw [State.fwQueueDisable]
  refine (judge_pass (queueFails_pass (s := s.runsNow i 0x0502) hq hlt hg ht hs)).trans ((if_neg ?_).trans ?_)
  · rw [show ((s.runsNow i 0x0502).queue ((s.runsNow i 0x0502).physQ qid.toNat)).en = true from hen]
    decide
  · refine (judge_pass (firstFail_pass (congrArg Option.isSome hlink) firstFail_nil)).trans ?_
    exact congrArg (State.ok · i) (queueOff_eq (s := s.runsNow i 0x0502) hen)

theorem queueEnable_again {qid : BitVec 16} (hq : s.qRegion qid.toNat = some r) (hlt : qid.toNat < 32768)
    (hd : s.due i 0x0501 [(8, 2, qid.toNat)] = true) (hen : (s.queue (s.physQ qid.toNat)).en = true) :
    Answers (.queueEnable i qid) s i stOK 0 s := by
  refine answers_of_body (body := (·.fwQueueEnable i qid.toNat)) (e := s.runsNow i 0x0501) rfl hd ?_ rfl rfl
  rw [State.fwQueueEnable]
  exact (judge_pass (queueFails_pass (s := s.runsNow i 0x0501) hq hlt hg ht hs)).trans (if_pos hen)

theorem queueDisable_again {qid : BitVec 16} (hq : s.qRegion qid.toNat = some r) (hlt : qid.toNat < 32768)
    (hd : s.due i 0x0502 [(8, 2, qid.toNat)] = true) (hen : (s.queue (s.physQ qid.toNat)).en = false) :
    Answers (.queueDisable i qid) s i stOK 0 s := by
  refine answers_of_body (body := (·.fwQueueDisable i qid.toNat)) (e := s.runsNow i 0x0502) rfl hd ?_ rfl rfl
  rw [State.fwQueueDisable]
  exact (judge_pass (queueFails_pass (s := s.runsNow i 0x0502) hq hlt hg ht hs)).trans (if_pos (by rw [Bool.not_eq_true']; exact hen))

theorem qmodeSet_answers {cl um : Byte} {c : Nat} (hd : s.due i 0x0504 [(8, 1, cl.toNat), (9, 1, um.toNat)] = true)
    (hr : s.clRegion i.p cl.toNat = some r) (hc : s.relCluster g cl.toNat = some c) (hq : (s.cl c).liveQueues = []) (hum : um.toNat ≤ 1)
    (hlink : (um = 1 ↔ (s.cl c).umsyn = true) ∨ ∀ x, x < 8 → s.linkTo c x = none) :
    Answers (.qmodeSet i cl um) s i stOK 0 (s.updCl c fun k => { k with umsyn := um = 1 }) := by
  have hone : (um.toNat = 1) ↔ um = 1 := by
    constructor
    · exact fun h => BitVec.eq_of_toNat_eq h
    · rintro rfl
      rfl
  have hcl : (((s.clRegion i.p cl.toNat).bind s.region).bind fun g => s.relCluster g cl.toNat).getD 0 = c := by
    simp [hr, hg, hc]
  have heff : (fun k : Cluster => { k with umsyn := decide (um.toNat = 1) }) = fun k => { k with umsyn := decide (um = 1) } := by
    simp only [hone]
  have hbody : (s.runsNow i 0x0504).fwQmodeSet i cl.toNat um.toNat =
      ((s.runsNow i 0x0504).updCl c fun k => { k with umsyn := decide (um.toNat = 1) }).ok i := by
    rw [State.fwQmodeSet]
    rw [show ((((s.runsNow i 0x0504).clRegion i.p cl.toNat).bind (s.runsNow i 0x0504).region).bind
      fun g => (s.runsNow i 0x0504).relCluster g cl.toNat).getD 0 = c from hcl]
    refine judge_pass (firstFail_append (firstFail_pass (decide_eq_false (by omega)) (objFails_pass (s := s.runsNow i 0x0504) hr hg ht hs))
      (firstFail_pass ?_ (firstFail_pass ?_ firstFail_nil)))
    · rw [show ((s.runsNow i 0x0504).cl c).liveQueues = [] from hq]
      rfl
    · rcases hlink with h | h
      · refine Bool.and_eq_false_iff.mpr (.inl (decide_eq_false (not_not.mpr ?_)))
        rw [hone]
        exact propext h
      · refine Bool.and_eq_false_iff.mpr (.inr (List.any_eq_false.mpr fun x hx => ?_))
        rw [show (s.runsNow i 0x0504).linkTo c x = none from h x (List.mem_range.mp hx)]
        decide
  exact answers_of_body (body := (·.fwQmodeSet i cl.toNat um.toNat)) rfl hd hbody rfl (congrArg (s.updCl c) heff)

end

/-! ### Forward channels (R154, R438) -/

/-- A channel enabled toward a queue, or toward a mover with a share of its buffer. -/
def Fwd.opened (f : Fwd) (mover : Bool) (prio sqid target share : Nat) : Fwd :=
  { f with en := true, mover := mover, prio := prio, sqid := sqid, target := target, share := share, cred := share, packed := [] }

section
variable {s : State} {i : Issuer} {r : Nat} {g : Region} {srcq target cred : BitVec 16} {chan tkind prio en : Byte}
  (hg : s.region r = some g) (ht : g.ten = i.p) (hs : g.stop = none) (hq : s.qRegion srcq.toNat = some r) (hlt : srcq.toNat < 32768)
  (hch : chan.toNat ≤ 7)
  (hd : s.due i 0x0503 [(8, 2, srcq.toNat), (10, 1, chan.toNat), (11, 1, en.toNat), (12, 1, tkind.toNat), (13, 1, prio.toNat),
    (14, 2, target.toNat), (16, 2, cred.toNat)] = true)
include hg ht hs hq hlt hch hd

theorem fwdCfg_opens (hen : en = 1) (hf : ((s.cl (s.physQ srcq.toNat / 128)).fwd chan.toNat).en = false)
    (hcons : (s.queue (s.physQ srcq.toNat)).cons = consFWD) (hprio : prio.toNat ≤ 3)
    (hkind : tkind.toNat ≤ 1) (hcred : tkind.toNat = 1 → cred.toNat ≠ 0 ∧ s.shares target.toNat + cred.toNat ≤ 256)
    (htgt : (if tkind.toNat = 1 then (if target.toNat < 64 then (s.mover target.toNat).region else none) else s.qRegion target.toNat) = some r) :
    Answers (.fwdCfg i srcq chan en tkind prio target cred) s i stOK 0 (s.updCl (s.physQ srcq.toNat / 128) fun k => k.setFwd chan.toNat
      (((s.cl (s.physQ srcq.toNat / 128)).fwd chan.toNat).opened (decide (tkind.toNat = 1)) prio.toNat (s.physQ srcq.toNat % 128) target.toNat
        (if tkind.toNat = 1 then cred.toNat else 0))) := by
  subst hen
  refine answers_of_body (body := (·.fwFwdCfg i srcq.toNat chan.toNat (1 : Byte).toNat tkind.toNat prio.toNat target.toNat cred.toNat
    (.fwdCfg i srcq chan 1 tkind prio target cred)))
    (e := (s.runsNow i 0x0503).updCl (s.physQ srcq.toNat / 128) fun k => k.setFwd chan.toNat
      (((s.cl (s.physQ srcq.toNat / 128)).fwd chan.toNat).opened (decide (tkind.toNat = 1)) prio.toNat (s.physQ srcq.toNat % 128) target.toNat
        (if tkind.toNat = 1 then cred.toNat else 0))) rfl hd ?_ rfl rfl
  rw [State.fwFwdCfg]
  refine (judge_pass (firstFail_append (firstFail_pass ?_ (queueFails_pass (s := s.runsNow i 0x0503) hq hlt hg ht hs))
    (firstFail_pass ?_ (firstFail_pass ?_ firstFail_nil)))).trans ((if_pos rfl).trans ((judge_pass (firstFail_pass ?_ (firstFail_pass ?_ firstFail_nil))).trans rfl))
  · have h1 : (1 : Byte).toNat = 1 := rfl
    simp only [h1, Bool.or_eq_false_iff, Bool.and_eq_false_iff, decide_eq_false_iff_not]
    have : tkind.toNat = 1 → cred.toNat ≠ 0 ∧ cred.toNat ≤ 256 := fun h => ⟨(hcred h).1, by have := (hcred h).2; omega⟩
    omega
  · have hsame : (if tkind.toNat = 1 then (if target.toNat < 64 then (s.mover target.toNat).region else none) else s.qRegion target.toNat) =
      s.qRegion srcq.toNat := htgt.trans hq.symm
    exact Bool.and_eq_false_iff.mpr (.inr (decide_eq_false (not_not.mpr hsame)))
  · exact Bool.and_eq_false_iff.mpr (.inl (Bool.and_eq_false_iff.mpr (.inl hf)))
  · exact Bool.or_eq_false_iff.mpr ⟨decide_eq_false (not_not.mpr hcons), hf⟩
  · by_cases h : tkind.toNat = 1
    · have := (hcred h).2
      exact Bool.and_eq_false_iff.mpr (.inr (decide_eq_false (Nat.not_lt.mpr this)))
    · exact Bool.and_eq_false_iff.mpr (.inl (decide_eq_false h))

theorem fwdCfg_closes (hen : en = 0) (hf : ((s.cl (s.physQ srcq.toNat / 128)).fwd chan.toNat).en = true)
    (hp : ((s.cl (s.physQ srcq.toNat / 128)).fwd chan.toNat).packed = [])
    (hb : ((s.cl (s.physQ srcq.toNat / 128)).fwd chan.toNat).banked = false) :
    let f := (s.cl (s.physQ srcq.toNat / 128)).fwd chan.toNat
    Answers (.fwdCfg i srcq chan en tkind prio target cred) s i stOK 0 (s.updCl (s.physQ srcq.toNat / 128) fun k => k.setFwd chan.toNat
      { f with en := false, owing := f.owing + (if f.mover then f.share - f.cred else 0) }) := by
  subst hen
  intro f
  refine answers_of_body (body := (·.fwFwdCfg i srcq.toNat chan.toNat (0 : Byte).toNat tkind.toNat prio.toNat target.toNat cred.toNat
    (.fwdCfg i srcq chan 0 tkind prio target cred)))
    (e := (s.runsNow i 0x0503).updCl (s.physQ srcq.toNat / 128) fun k => k.setFwd chan.toNat
      { f with en := false, owing := f.owing + (if f.mover then f.share - f.cred else 0) }) rfl hd ?_ rfl rfl
  have hempty : f.packed.isEmpty = true := by rw [hp]; rfl
  rw [State.fwFwdCfg]
  refine (judge_pass (firstFail_append (firstFail_pass ?_ (queueFails_pass (s := s.runsNow i 0x0503) hq hlt hg ht hs))
    (firstFail_pass ?_ (firstFail_pass hb firstFail_nil)))).trans ((if_neg (by decide)).trans ((if_neg ?_).trans ?_))
  · have h0 : (0 : Byte).toNat = 0 := rfl
    simp only [h0, Bool.or_eq_false_iff, Bool.and_eq_false_iff, decide_eq_false_iff_not]
    omega
  · exact Bool.and_eq_false_iff.mpr (.inl rfl)
  · rw [show (((s.runsNow i 0x0503).cl ((s.runsNow i 0x0503).physQ srcq.toNat / 128)).fwd chan.toNat).en = true from hf]
    decide
  · have hp' : (((s.runsNow i 0x0503).cl ((s.runsNow i 0x0503).physQ srcq.toNat / 128)).fwd chan.toNat).packed.isEmpty = true := hempty
    dsimp only
    rw [if_pos hp', hp']
    rfl

end

/-- Settles O21: each command passes its checks, and its one effect is what its answer leaves. -/
theorem queueCommands : Obligations.QueueCommands := by
  refine ⟨?_, ?_⟩
  · intro s i qid base depth prod cons psrc cl um r g hg ht hs q pq k u v coming
    refine ⟨fun hq hlt => ⟨?_, ?_, ?_, ?_, ?_⟩, ?_⟩
    · intro hd h4 hmax hend hp hc hsrc hen hum hlink
      exact queueCfg_answers hg ht hs hq hlt hd h4 hmax hend hp hc hsrc hen hum hlink
    · intro hd hen hum hdepth hover
      exact queueEnable_answers hg ht hs hq hlt hd hen hum hdepth hover
    · intro hd hen hlink
      have h := queueDisable_answers hg ht hs hq hlt hd hen hlink
      rw [State.unheld, disabled_belay] at h
      exact h
    · exact queueEnable_again hg ht hs hq hlt
    · exact queueDisable_again hg ht hs hq hlt
    · intro c hd hr hc hq hum hlink
      exact qmodeSet_answers hg ht hs hd hr hc hq hum hlink
  · intro s i srcq chan tkind prio target cred en r g hg ht hs hq hlt hch hd pq f
    refine ⟨?_, ?_, ?_⟩
    · rintro hen hf hcons hprio rfl htgt
      exact fwdCfg_opens hg ht hs hq hlt hch hd hen hf hcons hprio (by decide) (fun h => absurd h (by decide)) htgt
    · rintro hen hf hcons hprio rfl hlt64 htgt hc1 hshare
      exact fwdCfg_opens hg ht hs hq hlt hch hd hen hf hcons hprio (by decide) (fun _ => ⟨by omega, hshare⟩)
        ((if_pos rfl).trans ((if_pos hlt64).trans htgt))
    · intro hen hf hp hb
      exact fwdCfg_closes hg ht hs hq hlt hch hd hen hf hp hb

end Sys2Proof.Machine

/-! Sessions, movers, windows and ports as firmware configures them (R157, R159, R389, R409, R435, R436, R488, R490, R497, R499). -/

namespace Sys2Proof.Machine

/-! ### Sessions (R435, R490, R497) -/

section
variable {s : State} {i : Issuer} {sess : BitVec 16} {r : Nat} {g : Region}
  (hn : sess.toNat < 16384) (hr : s.sessRegion sess.toNat = some r) (hg : s.region r = some g) (ht : g.ten = i.p) (hs : g.stop = none)
include hn hr hg ht hs

/-- What a tenant's session passes of the checks of its number and its region. -/
theorem sessFails_pass : firstFail (s.sessFails i sess.toNat) = none :=
  firstFail_pass (decide_eq_false (Nat.not_le.mpr hn)) (objFails_pass hr hg ht hs)

theorem sessionClear_answers (hd : s.due i 0x0401 [(8, 2, sess.toNat)] = true) :
    Answers (.sessionClear i sess) s i stOK 0 (s.setSess sess.toNat { s.sess sess.toNat with rule := none }) :=
  answers_ok (body := (·.fwSessionClear i sess.toNat)) (·.setSess sess.toNat _) rfl hd rfl
    (sessFails_pass (s := s.runsNow i 0x0401) hn hr hg ht hs) rfl rfl

theorem sessionShape_answers {rate burst : Reg} (hd : s.due i 0x0402 [(8, 2, sess.toNat), (12, 4, rate.toNat), (16, 4, burst.toNat)] = true)
    (hrate : rate.toNat ≤ 400000) (hburst : rate = 0 ∨ 9600 ≤ burst.toNat ∧ burst.toNat ≤ 16777215) :
    Answers (.sessionShape i sess rate burst) s i stOK 0
      (s.setSess sess.toNat { s.sess sess.toNat with next := some (rate.toNat, burst.toNat) }) := by
  refine answers_ok (body := (·.fwSessionShape i sess.toNat rate.toNat burst.toNat)) (·.setSess sess.toNat _) rfl hd rfl
    (firstFail_pass ?_ (sessFails_pass (s := s.runsNow i 0x0402) hn hr hg ht hs)) rfl rfl
  have hb : rate.toNat = 0 ∨ 9600 ≤ burst.toNat ∧ burst.toNat ≤ 16777215 := hburst.imp_left fun h => by rw [h]; rfl
  simp only [Bool.or_eq_false_iff, Bool.and_eq_false_iff, decide_eq_false_iff_not]
  omega

theorem sessionRule_answers {qid : BitVec 16} {port profile : Byte} {key : BitVec 256} {r' : Nat} {g' : Region}
    (hd : s.due i 0x0400 [(8, 2, sess.toNat), (10, 1, port.toNat), (11, 1, profile.toNat), (12, 2, qid.toNat), (16, 32, key.toNat)] = true)
    (hq : qid.toNat < 32768) (hr' : s.qRegion qid.toNat = some r') (hg' : s.region r' = some g') (ht' : g'.ten = i.p) (hs' : g'.stop = none)
    (hprod : (s.queue (s.physQ qid.toNat)).prod = 3) (hlo : 1 ≤ profile.toNat % 16) (hhi : profile.toNat % 16 ≤ 5) :
    let rule : Rule := { port := port.toNat % 8, sub := fld port.toNat 3 2, profile := BitVec.ofNat 8 profile.toNat,
                         key := ruleKey profile.toNat key, qid := qid.toNat }
    (∀ x ∈ s.ext.sessions, x.1 ≠ sess.toNat → ∀ y, x.2.rule = some y →
      ¬ (y.port = rule.port ∧ y.sub = rule.sub ∧ y.profile.toNat % 16 = profile.toNat % 16 ∧ y.key = rule.key)) →
    Answers (.sessionRule i sess port profile qid key) s i stOK 0 (s.setSess sess.toNat { s.sess sess.toNat with rule := some rule }) := by
  intro rule hsole
  refine answers_ok (body := (·.fwSessionRule i sess.toNat port.toNat profile.toNat qid.toNat key)) (·.setSess sess.toNat _) rfl hd rfl ?_ rfl rfl
  refine firstFail_append (firstFail_append (firstFail_append (firstFail_append (firstFail_pass ?_ firstFail_nil) (firstFail_pass ?_ firstFail_nil))
    (objFails_pass (s := s.runsNow i 0x0400) hr' hg' ht' hs')) (firstFail_pass ?_ firstFail_nil)) (firstFail_pass ?_ (firstFail_pass ?_ firstFail_nil))
  · simp only [Bool.or_eq_false_iff, decide_eq_false_iff_not]
    omega
  · have : s.owns i.p (s.sessRegion sess.toNat) = true := by simp [State.owns, hr, hg, ht]
    exact (Bool.not_eq_false' ..).mpr this
  · have : s.halted (s.sessRegion sess.toNat) = false := by simp [State.halted, hr, hg, hs]
    exact this
  · exact decide_eq_false (not_not.mpr hprod)
  · refine List.any_eq_false.mpr fun x hx => ?_
    rw [Bool.and_eq_true, not_and]
    intro hne
    cases hy : x.2.rule with
    | none => simp
    | some y =>
      have := hsole x hx (of_decide_eq_true hne) y hy
      simpa [rule] using this

end

/-! ### Movers (R157, R159, R435, R436) -/

theorem b2n_eq (b : Bool) : b2n b = if b then 1 else 0 := rfl

/-- What passes of the checks of a mover's assignment. -/
theorem moverAssign_pass {s : State} {m r : Nat} (hm : m ≤ 63) (hr : r = 0xFF ∨ (s.region r).isSome = true) (hidle : (s.mover m).dpend = 0) :
    firstFail [(decide (63 < m) || (decide (r ≠ 0xFF) && (s.region r).isNone), stBAD_OPERAND),
      (decide (0 < (s.mover m).dpend), stBAD_STATE)] = none := by
  refine firstFail_pass (Bool.or_eq_false_iff.mpr ⟨decide_eq_false (Nat.not_lt.mpr hm), ?_⟩)
    (firstFail_pass (decide_eq_false (by omega)) firstFail_nil)
  rcases hr with h | h
  · exact Bool.and_eq_false_iff.mpr (.inl (decide_eq_false (not_not.mpr h)))
  · exact Bool.and_eq_false_iff.mpr (.inr (by simpa using h))

theorem dpend_idle {v : Mover} (hd : v.descs = []) (hr : v.running = none) : v.dpend = 0 := by
  simp [Mover.dpend, hd, hr, b2n]

theorem moverAssign_gives {s : State} {i : Issuer} {m r : Byte} (hm : m.toNat ≤ 63)
    (hd : s.due i 0x0800 [(8, 1, m.toNat), (9, 1, r.toNat)] = true) (hidle : (s.mover m.toNat).dpend = 0)
    (hold : (s.mover m.toNat).region = none) (hne : r ≠ 0xFF) (hr : (s.region r.toNat).isSome = true) :
    Answers (.moverAssign i m r) s i stOK 0 (((s.fwGrant (moverRouter m.toNat) 2 r.toNat true).setMover m.toNat
      { s.mover m.toNat with region := some r.toNat }).setIrgn (0x100 + m.toNat) (some r.toNat)) := by
  have hnat : ¬ r.toNat = 0xFF := fun h => hne (BitVec.eq_of_toNat_eq h)
  refine answers_of_body (body := (·.fwMoverAssign i m.toNat r.toNat)) (e := ((((s.runsNow i 0x0800).fwGrant (moverRouter m.toNat) 2 r.toNat true).setMover
    m.toNat { s.mover m.toNat with region := some r.toNat }).setIrgn (0x100 + m.toNat) (some r.toNat))) rfl hd ?_ rfl rfl
  rw [State.fwMoverAssign]
  refine (judge_pass (moverAssign_pass (s := s.runsNow i 0x0800) hm (.inr hr) hidle)).trans ?_
  dsimp only
  rw [if_neg hnat, show ((s.runsNow i 0x0800).mover m.toNat).region = none from hold]
  rfl

theorem moverAssign_takes {s : State} {i : Issuer} {m r : Byte} {k : Nat} (hm : m.toNat ≤ 63)
    (hd : s.due i 0x0800 [(8, 1, m.toNat), (9, 1, r.toNat)] = true) (hidle : (s.mover m.toNat).dpend = 0)
    (hold : (s.mover m.toNat).region = some k) (hff : r = 0xFF) :
    Answers (.moverAssign i m r) s i stOK 0 (((s.fwGrant (moverRouter m.toNat) 2 k false).setMover m.toNat
      { s.mover m.toNat with region := none }).setIrgn (0x100 + m.toNat) none) := by
  have hnat : r.toNat = 0xFF := by rw [hff]; rfl
  refine answers_of_body (body := (·.fwMoverAssign i m.toNat r.toNat)) (e := ((((s.runsNow i 0x0800).fwGrant (moverRouter m.toNat) 2 k false).setMover
    m.toNat { s.mover m.toNat with region := none }).setIrgn (0x100 + m.toNat) none)) rfl hd ?_ rfl rfl
  rw [State.fwMoverAssign]
  refine (judge_pass (moverAssign_pass (s := s.runsNow i 0x0800) hm (.inl hnat) hidle)).trans ?_
  dsimp only
  rw [if_pos hnat, show ((s.runsNow i 0x0800).mover m.toNat).region = some k from hold]
  rfl

section
variable {s : State} {i : Issuer} {m : Byte} {k : Nat} {g : Region} (hm : m.toNat ≤ 63) (hk : (s.mover m.toNat).region = some k)
  (hg : s.region k = some g) (ht : g.ten = i.p)
include hm hk hg ht

/-- What a tenant's mover passes of the checks of its number and its region. -/
theorem moverFails_pass (hs : g.stop = none) : firstFail (s.moverFails i m.toNat) = none :=
  firstFail_pass (decide_eq_false (Nat.not_lt.mpr hm)) (objFails_pass hk hg ht hs)

theorem moverPost_joins {desc : BitVec 256} (hs : g.stop = none) (hd : s.due i 0x0805 [(8, 1, m.toNat), (16, 32, desc.toNat)] = true)
    (hroom : (s.mover m.toNat).dpend < 16) :
    Answers (.moverPost i m desc) s i stOK ((s.mover m.toNat).dpend + 1)
      (s.setMover m.toNat { s.mover m.toNat with descs := (s.mover m.toNat).descs ++ [desc] }) := by
  have hpost : (s.mover m.toNat).post desc = { s.mover m.toNat with descs := (s.mover m.toNat).descs ++ [desc] } := by
    simp [Mover.post, hk, Nat.not_le.mpr hroom]
  have hcount : resAt 0x08 ((s.setMover m.toNat ((s.mover m.toNat).post desc)).mover m.toNat).dpend = (s.mover m.toNat).dpend + 1 := by
    rw [mover_setMover, hpost]
    simp [resAt, Mover.dpend]
    omega
  refine answers_of_body (body := (·.fwMoverPost i m.toNat desc)) (e := (s.runsNow i 0x0805).setMover m.toNat ((s.mover m.toNat).post desc)) rfl hd ?_ rfl
    (congrArg (s.setMover m.toNat) hpost)
  rw [State.fwMoverPost]
  refine (judge_pass (moverFails_pass (s := s.runsNow i 0x0805) hm hk hg ht hs)).trans ((if_neg (Nat.not_le.mpr hroom)).trans ?_)
  exact congrArg (((s.runsNow i 0x0805).setMover m.toNat ((s.mover m.toNat).post desc)).complete i stOK) hcount

theorem moverPost_full {desc : BitVec 256} (hs : g.stop = none) (hd : s.due i 0x0805 [(8, 1, m.toNat), (16, 32, desc.toNat)] = true)
    (hfull : 16 ≤ (s.mover m.toNat).dpend) :
    Answers (.moverPost i m desc) s i stBAD_STATE 0 (s.setMover m.toNat { s.mover m.toNat with dfull := true }) := by
  have hpost : (s.mover m.toNat).post desc = { s.mover m.toNat with dfull := true } := by
    simp [Mover.post, hk, hfull]
  refine answers_of_body (body := (·.fwMoverPost i m.toNat desc)) (e := (s.runsNow i 0x0805).setMover m.toNat ((s.mover m.toNat).post desc)) rfl hd ?_ rfl
    (congrArg (s.setMover m.toNat) hpost)
  rw [State.fwMoverPost]
  exact (judge_pass (moverFails_pass (s := s.runsNow i 0x0805) hm hk hg ht hs)).trans (if_pos hfull)

theorem moverStatus_answers (hd : s.due i 0x0806 [(8, 1, m.toNat)] = true) :
    let v := s.mover m.toNat
    Answers (.moverStatus i m) s i stOK (v.lastst.toNat + v.dpend * 2 ^ 8
      + (b2n v.running.isSome + 2 * b2n v.err + 4 * b2n v.dfull) * 2 ^ 16 + v.mvcnt * 2 ^ 32 + v.inbuf.length * 2 ^ 64)
      (s.setMover m.toNat { v with err := false, dfull := false }) := by
  intro v
  have hres : resAt 0x08 v.lastst.toNat + resAt 0x09 v.dpend + resAt 0x0A (b2n v.running.isSome + 2 * b2n v.err + 4 * b2n v.dfull)
      + resAt 0x0C v.mvcnt + resAt 0x10 v.inbuf.length = v.lastst.toNat + v.dpend * 2 ^ 8
      + (b2n v.running.isSome + 2 * b2n v.err + 4 * b2n v.dfull) * 2 ^ 16 + v.mvcnt * 2 ^ 32 + v.inbuf.length * 2 ^ 64 := by
    simp [resAt]
  have hown : s.owns i.p (s.mover m.toNat).region = true := by simp [State.owns, hk, hg, ht]
  refine answers_of_body (body := (·.fwMoverStatus i m.toNat)) (e := (s.runsNow i 0x0806).setMover m.toNat { v with err := false, dfull := false })
    rfl hd ?_ rfl rfl
  rw [State.fwMoverStatus]
  refine (judge_pass (firstFail_pass (decide_eq_false (Nat.not_lt.mpr hm)) (firstFail_pass ((Bool.not_eq_false' ..).mpr hown) firstFail_nil))).trans ?_
  dsimp only [runsNow_mover]
  rw [hres]

end

/-- Settles O22: each command passes its checks, and its one effect is what its answer leaves. -/
theorem sessionAndMoverCommands : Obligations.SessionAndMoverCommands := by
  refine ⟨?_, ?_⟩
  · intro s i sess qid port profile key rate burst r r' g g' hn hr hg ht hs n k
    refine ⟨?_, sessionClear_answers hn hr hg ht hs, sessionShape_answers hn hr hg ht hs⟩
    intro hd hq hr' hg' ht' hs' hprod hlo hhi rule hsole
    have hrule : rule = { port := port.toNat % 8, sub := fld port.toNat 3 2, profile := BitVec.ofNat 8 profile.toNat,
                          key := ruleKey profile.toNat key, qid := qid.toNat } := by
      rw [fld_eq_div_mod, BitVec.ofNat_toNat, BitVec.setWidth_eq]
      rfl
    rw [hrule] at hsole ⊢
    exact sessionRule_answers hn hr hg ht hs hd hq hr' hg' ht' hs' hprod hlo hhi hsole
  · intro s i m r desc hm n v
    refine ⟨?_, ?_⟩
    · intro hd hdescs hrun
      exact ⟨fun hold hne hr => moverAssign_gives hm hd (dpend_idle hdescs hrun) hold hne hr,
        fun k hold hff => moverAssign_takes hm hd (dpend_idle hdescs hrun) hold hff⟩
    · intro k g hk hg ht
      exact ⟨fun hd hs => ⟨moverPost_joins hm hk hg ht hs hd, moverPost_full hm hk hg ht hs hd⟩, moverStatus_answers hm hk hg ht⟩

end Sys2Proof.Machine

/-! Bindings of windows and slots, Ethernet port settings and the PTP source (R389, R409, R435, R488, R499). -/

namespace Sys2Proof.Machine

/-! ### What a completion leaves of the host ports -/

/-- What completions leave of a function: all but its slots and its ready completions. -/
def Func.still (u : Func) : Func := { u with slots := [], ready := [] }

/-- What completions leave of a port, but for its functions. -/
def Port.still (v : Port) : Port := { v with funcs := [] }

/-- A state whose host functions and ports are as in another but for completions and slots. -/
def State.stillAs (s t : State) : Prop := (∀ p f, (s.func p f).still = (t.func p f).still) ∧ ∀ p, (s.port p).still = (t.port p).still

theorem stillAs_refl (s : State) : s.stillAs s := ⟨fun _ _ => rfl, fun _ => rfl⟩

theorem State.stillAs.trans {s t u : State} (h : s.stillAs t) (k : t.stillAs u) : s.stillAs u :=
  ⟨fun p f => (h.1 p f).trans (k.1 p f), fun p => (h.2 p).trans (k.2 p)⟩

theorem stillAs_of_ports {s t : State} (h : s.host.ports = t.host.ports) : s.stillAs t := by
  refine ⟨fun p f => ?_, fun p => ?_⟩
  · rw [State.func, State.port, h]
    rfl
  · rw [State.port, h]
    rfl

theorem setFunc_stillAs {s : State} {p f : Nat} {v : Func} (h : v.still = (s.func p f).still) : (s.setFunc p f v).stillAs s := by
  refine ⟨fun q g => ?_, fun q => ?_⟩
  · by_cases hq : q = p ∧ g = f
    · obtain ⟨rfl, rfl⟩ := hq
      rw [func_setFunc, h]
    · rw [func_setFunc_ne _ _ hq]
  · by_cases hq : q = p
    · subst hq
      rw [State.setFunc, port_setPort]
      rfl
    · rw [State.setFunc, port_setPort_ne _ _ hq]

theorem addReady_stillAs (s : State) (p f : Nat) (r : Ready) : (s.addReady p f r).stillAs s := by
  unfold State.addReady
  split
  · refine stillAs_of_ports ?_
    dsimp only
    split <;> rfl
  · exact setFunc_stillAs rfl

theorem setHslot_stillAs (s : State) (p f n : Nat) (v : HSlot) : (s.setHslot p f n v).stillAs s := by
  unfold State.setHslot
  split
  · exact stillAs_of_ports rfl
  · exact setFunc_stillAs rfl

theorem readyAborts_stillAs (as : List Issuer) : ∀ s : State, (s.readyAborts as).stillAs s := by
  induction as with
  | nil => exact stillAs_refl
  | cons a as ih => exact fun s => (ih _).trans (addReady_stillAs s _ _ _)

theorem freeSlot_stillAs (s : State) (p f : Nat) (r : Ready) (d : Bool) : (s.freeSlot p f r d).stillAs s := by
  unfold State.freeSlot
  split
  · exact stillAs_refl s
  · exact (readyAborts_stillAs _ _).trans (setHslot_stillAs s _ _ _ _)

theorem ownerWrites_stillAs (s : State) (n : Nat) : (s.ownerWrites n).stillAs s := by
  unfold State.ownerWrites
  split
  · split
    · exact freeSlot_stillAs s _ _ _ _
    · exact stillAs_refl s
  · exact stillAs_refl s

theorem post_stillAs (s : State) (p f : Nat) (r : Ready) : (s.post p f r).stillAs s := by
  unfold State.post
  dsimp only
  split
  · exact (ownerWrites_stillAs _ _).trans (addReady_stillAs s _ _ _)
  · exact addReady_stillAs s _ _ _

/-- A completion leaves the ports as they are, but for what is ready and the slots. -/
theorem complete_stillAs {s : State} {i : Issuer} (st r : Nat) (h : (!i.owner && (s.func i.p i.f).rstp) = false) :
    (s.complete i st r).stillAs s := by
  rw [complete_post st r h]
  exact (post_stillAs _ _ _ _).trans (stillAs_of_ports rfl)

/-- A due command that ends with OK leaves of the ports what its effect leaves. -/
theorem ok_of_body {c : Instr} {s e : State} {i : Issuer} {op : Nat} {ops : List Opnd} {body : State → State}
    (hx : exec c s = act s fun t => t.command i op ops c body) (hd : s.due i op ops = true)
    (hb : body (s.runsNow i op) = e.ok i) (hf : (e.func i.p i.f).rstp = (s.func i.p i.f).rstp) :
    ∃ t, exec c s = .next t ∧ t.answered i stOK 0 = true ∧ t.record i = none ∧ t.upToHost s = e.upToHost s ∧ t.stillAs e := by
  have hr := due_rstp hd
  rw [← hf] at hr
  have he : exec c s = .next (e.complete i stOK 0) := by
    rw [exec_of_act (due_live hd) hx, command_due hd, hb]
    rfl
  obtain ⟨h1, h2⟩ := complete_answered e i stOK 0 hr
  exact ⟨_, he, h1, h2, complete_upToHost e s i stOK 0, complete_stillAs stOK 0 hr⟩

/-! ### The commands -/

section
variable {s : State} {i : Issuer}

/-- A window is bound as the command says, and with it the port's initiator. -/
theorem bar2Bind_binds {r : Byte} {b : Option Nat} (hd : s.due i 0x0801 [(8, 1, r.toNat)] = true) (hbar : (s.port i.p).bar2 ≠ 0)
    (hb : (if r.toNat = 0xFF then none else some r.toNat) = b)
    (hpass : firstFail (if r.toNat = 0xFF then [] else (decide (64 ≤ r.toNat), stBAD_OPERAND) :: s.objFails i (some r.toNat)) = none) :
    ∃ t, exec (.bar2Bind i r) s = .next t ∧ t.answered i stOK 0 = true ∧ t.record i = none ∧
      t.upToHost s = s.setIrgn (0x200 + i.p) b ∧ (t.port i.p).bound = b := by
  subst hb
  have hp := port_setPort (s.runsNow i 0x0801) i.p { s.port i.p with bound := if r.toNat = 0xFF then none else some r.toNat }
  obtain ⟨t, hx, ha, hrec, hup, hst⟩ := ok_of_body (c := .bar2Bind i r) (body := (·.fwBar2Bind i r.toNat))
    (e := ((s.runsNow i 0x0801).setPort i.p { s.port i.p with bound := if r.toNat = 0xFF then none else some r.toNat }).setIrgn (hostInit i.p)
      (if r.toNat = 0xFF then none else some r.toNat)) rfl hd
    (by
      rw [State.fwBar2Bind]
      refine (judge_pass ?_).trans rfl
      exact firstFail_append hpass (firstFail_pass (decide_eq_false hbar) firstFail_nil))
    (congrArg (fun v : Port => (v.func i.f).rstp) hp :)
  refine ⟨t, hx, ha, hrec, hup, (congrArg Port.bound (hst.2 i.p)).trans ?_⟩
  exact congrArg Port.bound hp

/-- A slot of the push window is bound as the command says. -/
theorem pushwinBind_binds {slot : Byte} {qid : BitVec 16} {b : Option Nat} (hd : s.due i 0x0802 [(8, 1, slot.toNat), (10, 2, qid.toNat)] = true)
    (hslot : slot.toNat ≤ 31) (hb : (if decide (qid.toNat = 0xFFFF) then none else some qid.toNat) = b)
    (hpass : firstFail (if decide (qid.toNat = 0xFFFF) then [] else s.queueFails i qid.toNat
      ++ [(decide ((s.queue (s.physQ qid.toNat)).prod ≠ prodHOST), stBAD_STATE)]) = none) :
    ∃ t, exec (.pushwinBind i slot qid) s = .next t ∧ t.answered i stOK 0 = true ∧ t.record i = none ∧ t.upToHost s = s ∧
      sget none (t.func i.p i.f).pwq slot.toNat = b := by
  subst hb
  have hf := func_setFunc (s.runsNow i 0x0802) i.p i.f { s.func i.p i.f with
      pwq := sput none (s.func i.p i.f).pwq slot.toNat (if decide (qid.toNat = 0xFFFF) then none else some qid.toNat) }
  obtain ⟨t, hx, ha, hrec, hup, hst⟩ := ok_of_body (c := .pushwinBind i slot qid) (body := (·.fwPushwinBind i slot.toNat qid.toNat))
    (e := (s.runsNow i 0x0802).setFunc i.p i.f { s.func i.p i.f with
      pwq := sput none (s.func i.p i.f).pwq slot.toNat (if decide (qid.toNat = 0xFFFF) then none else some qid.toNat) }) rfl hd
    (by
      rw [State.fwPushwinBind]
      refine (judge_pass ?_).trans rfl
      exact firstFail_pass (decide_eq_false (Nat.not_lt.mpr hslot)) hpass)
    (congrArg Func.rstp hf :)
  refine ⟨t, hx, ha, hrec, hup, ?_⟩
  have hpwq := (congrArg Func.pwq (hst.1 i.p i.f) :).trans (congrArg Func.pwq hf :)
  rw [show (t.func i.p i.f).pwq = _ from hpwq]
  exact sget_sput_same ..

theorem portCfg_answers {port split : Byte} {off len : Reg} {sas : List Sa}
    (hd : s.due i 0x0803 [(8, 1, port.toNat), (9, 1, split.toNat), (12, 4, off.toNat), (16, 4, len.toNat)] = true) (hport : port.toNat < 8)
    (hsplit : split.toNat ≤ 2) (hend : off.toNat + len.toNat ≤ 0x400000) (hlen : len.toNat % 80 = 0)
    (hsas : s.sasOf (s.staged off.toNat len.toNat) = sas.map some)
    (hfree : split.toNat = (s.eth port.toNat).split ∨ ∀ x ∈ s.ext.sessions, ∀ y, x.2.rule = some y → y.port ≠ port.toNat) :
    Answers (.portCfg i port split off len) s i stOK 0 (s.setEth port.toNat { s.eth port.toNat with
        split := split.toNat, newSas := some sas
        link := if split.toNat = (s.eth port.toNat).split then (s.eth port.toNat).link else [] }) := by
  have hsome : (sas.map some).any (·.isNone) = false := by simp
  have hsas' : (s.runsNow i 0x0803).sasOf ((s.runsNow i 0x0803).staged off.toNat len.toNat) = sas.map some := hsas
  refine answers_of_body (body := (·.fwPortCfg i port.toNat split.toNat off.toNat len.toNat)) (e := (s.runsNow i 0x0803).setEth port.toNat
    { s.eth port.toNat with split := split.toNat, newSas := some sas
                            link := if split.toNat = (s.eth port.toNat).split then (s.eth port.toNat).link else [] }) rfl hd ?_ rfl rfl
  rw [State.fwPortCfg, if_pos hport, State.fwPortEth]
  dsimp only
  rw [hsas', List.filterMap_map]
  refine (judge_pass (firstFail_pass ?_ (firstFail_pass ?_ firstFail_nil))).trans ?_
  · rw [hsome, Bool.or_false]
    simp only [Bool.or_eq_false_iff, decide_eq_false_iff_not, stageOk, Bool.not_eq_false', decide_eq_true_eq]
    omega
  · rcases hfree with h | h
    · exact Bool.and_eq_false_iff.mpr (.inl (decide_eq_false (not_not.mpr h)))
    · refine Bool.and_eq_false_iff.mpr (.inr (List.any_eq_false.mpr fun x hx => ?_))
      cases hy : x.2.rule with
      | none => simp
      | some y => simpa using h x hx y hy
  · rw [show sas.filterMap (id ∘ some) = sas from List.filterMap_some]
    rfl

theorem ptpSource_answers {port : Byte} (hd : s.due i 0x0804 [(8, 1, port.toNat)] = true) (hport : port.toNat ≤ 7 ∨ port.toNat = 0xFF) :
    let src := if port.toNat = 0xFF then none else some port.toNat
    Answers (.ptpSource i port) s i stOK 0 (if s.ext.ptp.src = src then s
      else { s with ext := { s.ext with ptp := { s.ext.ptp with src := src, locked := false, good := 0, slew := 0 } } }) := by
  intro src
  refine answers_ok (body := (·.fwPtpSource i port.toNat)) (fun t => if t.ext.ptp.src = src then t
      else { t with ext := { t.ext with ptp := { t.ext.ptp with src := src, locked := false, good := 0, slew := 0 } } }) rfl hd rfl
    (firstFail_pass ?_ firstFail_nil) ?_ ?_
  · simp only [Bool.and_eq_false_iff, decide_eq_false_iff_not]
    omega
  · split <;> rfl
  · by_cases h : s.ext.ptp.src = src
    · exact (congrArg (State.upToHost · s) (if_pos h)).trans (if_pos h).symm
    · exact (congrArg (State.upToHost · s) (if_neg h)).trans (if_neg h).symm

end

/-- Settles O23: each command passes its checks; a binding stands in the port or function, and the answer leaves it. -/
theorem portCommands : Obligations.PortCommands := by
  intro s i r slot port split qid off len g rq gq sas
  refine ⟨?_, ?_, ?_, ?_⟩
  · intro hd hbar
    refine ⟨?_, ?_⟩
    · intro hlt hg ht hs
      have hnat : ¬ r.toNat = 0xFF := by omega
      refine bar2Bind_binds hd hbar (if_neg hnat) ?_
      rw [if_neg hnat]
      exact firstFail_pass (decide_eq_false (Nat.not_le.mpr hlt)) (objFails_pass rfl hg ht hs)
    · rintro rfl
      exact bar2Bind_binds hd hbar rfl rfl
  · intro hd hslot hp
    refine ⟨?_, ?_⟩
    · intro hlt hq hg ht hs hprod
      have hnat : ¬ decide (qid.toNat = 0xFFFF) = true := by simp; omega
      refine pushwinBind_binds hd hslot (if_neg hnat) ?_
      rw [if_neg hnat]
      exact firstFail_append (queueFails_pass hq hlt hg ht hs) (firstFail_pass (decide_eq_false (not_not.mpr hprod)) firstFail_nil)
    · rintro rfl
      exact pushwinBind_binds hd hslot rfl rfl
  · exact fun hd hport hsplit hend hlen hsas hfree => portCfg_answers hd hport hsplit hend hlen hsas hfree
  · intro hd hport src
    have hff : port.toNat = 0xFF ↔ port = 0xFF := ⟨fun h => BitVec.eq_of_toNat_eq h, fun h => by rw [h]; rfl⟩
    have h := ptpSource_answers hd (hport.imp_right hff.mpr)
    simp only [hff] at h
    exact h

end Sys2Proof.Machine

/-! Identity, status, time and maintenance commands, and aborts (R31, R218, R405, R423, R425, R428, R442, R480). -/

namespace Sys2Proof.Machine

/-- A due command whose body is a completion answers with it and changes nothing. -/
theorem answers_plain {c : Instr} {s : State} {i : Issuer} {op : Nat} {ops : List Opnd} {body : State → State} {st r : Nat}
    (hx : exec c s = act s fun t => t.command i op ops c body) (hd : s.due i op ops = true)
    (hb : body (s.runsNow i op) = (s.runsNow i op).complete i st r) : Answers c s i st r s :=
  answers_of_body hx hd hb rfl rfl

/-- A command that one of its checks refuses ends with that check's status. -/
theorem judge_refuses {s : State} {i : Issuer} {fails : List (Bool × Nat)} {run : State → State} {st : Nat} (h : firstFail fails = some st) :
    s.judge i fails run = s.complete i st 0 := by
  rw [State.judge, h]

section
variable {s : State} {i : Issuer}

theorem devIdentity_answers (hd : s.due i 0x0100 [] = true) : Answers (.devIdentity i) s i stOK
    (0x040960B0 + 0xB0 * 2 ^ 32 + s.sec.lcs.code * 2 ^ 40 + leNat ((Config.sha384 deviceId).take 8) * 2 ^ 64) s := by
  refine answers_plain (body := (·.fwDevIdentity i)) rfl hd ?_
  rw [State.fwDevIdentity, runsNow_sec]
  simp [resAt]

theorem devStatus_answers (hd : s.due i 0x0101 [] = true) : Answers (.devStatus i) s i stOK s.devStatus s :=
  answers_plain (body := (·.fwDevStatus i)) rfl hd rfl

theorem timeGet_answers (hd : s.due i 0x0102 [] = true) : Answers (.timeGet i) s i stOK (s.time.toNat + b2n s.ext.ptp.locked * 2 ^ 64) s := by
  refine answers_plain (body := (·.fwTimeGet i)) rfl hd ?_
  rw [State.fwTimeGet, runsNow_now, runsNow_ext]
  simp [resAt, State.now]

/-- The time base as TIME_STEP leaves it (R31, R34). -/
def State.steppedTo (s : State) (t : BitVec 64) : State :=
  if t = s.time then s else { s with
    time := t, sys := { s.sys with timeStep := some (s.now, t.toNat), skipped := s.sys.skipped + (t.toNat - s.now - 1) } }

theorem stepTime_eq {t : BitVec 64} (h : s.time ≤ t) : s.stepTime t.toNat = s.steppedTo t := by
  have hle : s.now ≤ t.toNat := h
  unfold State.stepTime State.steppedTo
  by_cases ht : t = s.time
  · have heq : t.toNat ≤ s.now := Nat.le_of_eq (congrArg BitVec.toNat ht)
    rw [if_pos ht, if_pos heq]
  · have hlt : ¬ t.toNat ≤ s.now := fun hge => ht (BitVec.eq_of_toNat_eq (Nat.le_antisymm hge hle))
    rw [if_neg ht, if_neg hlt, BitVec.ofNat_toNat, BitVec.setWidth_eq]

theorem steppedTo_host (t : BitVec 64) : (s.steppedTo t).host = s.host := by
  unfold State.steppedTo
  split <;> rfl

theorem steppedTo_upToHost (u : State) (t : BitVec 64) : (s.steppedTo t).upToHost u = (s.upToHost u).steppedTo t := by
  unfold State.steppedTo
  by_cases h : t = s.time
  · exact (congrArg (State.upToHost · u) (if_pos h)).trans (if_pos (c := t = (s.upToHost u).time) h).symm
  · exact (congrArg (State.upToHost · u) (if_neg h)).trans (if_neg (c := t = (s.upToHost u).time) h).symm

theorem timeStep_forward {t : BitVec 64} (hd : s.due i 0x0103 [(8, 8, t.toNat)] = true) (ht : s.time ≤ t) :
    Answers (.timeStep i t) s i stOK 0 (s.steppedTo t) := by
  have he : (s.runsNow i 0x0103).stepTime t.toNat = (s.runsNow i 0x0103).steppedTo t := stepTime_eq (s := s.runsNow i 0x0103) ht
  have hle : s.now ≤ t.toNat := ht
  exact answers_ok (body := (·.fwTimeStep i t)) (·.stepTime t.toNat) rfl hd rfl
    (firstFail_pass (decide_eq_false (Nat.not_lt.mpr hle)) firstFail_nil) (rstp_of_host (by rw [he, steppedTo_host]))
    (by rw [he]; exact steppedTo_upToHost _ _)

theorem timeStep_backward {t : BitVec 64} (hd : s.due i 0x0103 [(8, 8, t.toNat)] = true) (ht : t < s.time) :
    Answers (.timeStep i t) s i stTIME_BACKWARD 0 s := by
  refine answers_plain (body := (·.fwTimeStep i t)) rfl hd ?_
  rw [State.fwTimeStep]
  exact judge_refuses (if_pos (decide_eq_true ht))

theorem tickSet_answers {ns : Reg} (hd : s.due i 0x0201 [(8, 4, ns.toNat)] = true) (hlo : 250 ≤ ns.toNat) (hhi : ns.toNat ≤ 1000000) :
    Answers (.tickSet i ns) s i stOK 0 (s.setBelay { s.belay with tick := ns.toNat }) := by
  refine answers_ok (body := (·.fwTickSet i ns.toNat)) (·.setBelay { s.belay with tick := ns.toNat }) rfl hd rfl (firstFail_pass ?_ firstFail_nil) rfl rfl
  simp only [Bool.or_eq_false_iff, decide_eq_false_iff_not]
  omega

theorem tickSet_refuses {ns : Reg} (hd : s.due i 0x0201 [(8, 4, ns.toNat)] = true) (h : ns.toNat < 250 ∨ 1000000 < ns.toNat) :
    Answers (.tickSet i ns) s i stBAD_OPERAND 0 s := by
  refine answers_plain (body := (·.fwTickSet i ns.toNat)) rfl hd ?_
  rw [State.fwTickSet]
  refine judge_refuses (if_pos ?_)
  simpa using h

/-- Bytes written one after the other into a store of bytes. -/
theorem sget_foldl_range (off n : Nat) (f : Nat → Byte) (m : SMap Byte) (a : Nat) :
    sget 0 ((List.range n).foldl (fun m k => sput 0 m (off + k) (f k)) m) a = if off ≤ a ∧ a < off + n then f (a - off) else sget 0 m a := by
  induction n with
  | zero => rw [if_neg (by omega)]; rfl
  | succ n ih =>
    rw [List.range_succ, List.foldl_append, List.foldl_cons, List.foldl_nil]
    by_cases h : a = off + n
    · subst h
      rw [sget_sput_same, if_pos (by omega), Nat.add_sub_cancel_left]
    · rw [sget_sput_other _ _ _ h, ih]
      exact if_congr (by omega) rfl rfl

/-- The stage buffer with 32 bytes written at an offset (R425). -/
def stageStore (m : SMap Byte) (off : Nat) (d : BitVec 256) : SMap Byte :=
  (List.range 32).foldl (fun m k => sput 0 m (off + k) (BitVec.ofNat 8 (fld d.toNat (8 * k) 8))) m

theorem stage_answers {off : Reg} {data : BitVec 256} (hd : s.due i 0x0A00 [(8, 4, off.toNat), (12, 32, data.toNat)] = true)
    (hal : off.toNat % 32 = 0) (hend : off.toNat + 32 ≤ 0x400000) : ∃ m : SMap Byte,
    Answers (.stage i off data) s i stOK 0 { s with rel := { s.rel with stage := m } } ∧
      ∀ a, sget 0 m a = if off.toNat ≤ a ∧ a < off.toNat + 32 then BitVec.ofNat 8 (data.toNat / 2 ^ (8 * (a - off.toNat)))
        else sget 0 s.rel.stage a := by
  refine ⟨_, answers_ok (body := (·.fwStage i off.toNat data)) (fun u => { u with rel := { u.rel with stage := stageStore u.rel.stage off.toNat data } }) rfl hd rfl
    (firstFail_pass ?_ firstFail_nil) rfl rfl, fun a => ?_⟩
  · simp only [Bool.or_eq_false_iff, decide_eq_false_iff_not, stageOk, Bool.not_eq_false', decide_eq_true_eq]
    omega
  · have hb : ∀ k, BitVec.ofNat 8 (fld data.toNat (8 * k) 8) = BitVec.ofNat 8 (data.toNat / 2 ^ (8 * k)) := by
      intro k
      rw [fld_eq_div_mod]
      exact BitVec.eq_of_toNat_eq (by simp)
    rw [← hb]
    exact sget_foldl_range off.toNat 32 (fun k => BitVec.ofNat 8 (fld data.toNat (8 * k) 8)) s.rel.stage a

theorem bit_toNat {w : Nat} (x : BitVec w) (n : Nat) : bit x.toNat n = x.getLsbD n := by
  rw [bit, fld_eq_div_mod, BitVec.getLsbD, Nat.testBit_eq_decide_div_mod_eq, pow_one]

theorem ropeCtl_answers {ghi action : Byte} (hd : s.due i 0x0A03 [(8, 1, ghi.toNat), (9, 1, action.toNat)] = true)
    (hg : ghi.toNat ≤ 63 ∨ ghi.toNat = 0xFF) :
    Answers (.ropeCtl i ghi action) s i stOK 0 (s.setRope { s.loader.rope with
      ghi := if ghi.toNat = 0xFF then s.loader.rope.ghi else BitVec.ofNat 6 ghi.toNat
      faulto := s.loader.rope.faulto && !bit action.toNat 0
      listen := s.loader.rope.listen || (bit action.toNat 1 && (s.sys.bootSrc = 1 || decide (s.sys.bootSrc = 2))) }) := by
  refine answers_ok (body := (·.fwRopeCtl i ghi.toNat action.toNat)) (fun u => u.setRope _) rfl hd rfl (firstFail_pass ?_ firstFail_nil) rfl rfl
  simp only [Bool.and_eq_false_iff, decide_eq_false_iff_not]
  omega

theorem leNat_append (a b : List Byte) : leNat (a ++ b) = leNat a + 2 ^ (8 * a.length) * leNat b := by
  induction a with
  | nil => simp [leNat]
  | cons x a ih =>
    have hp : 2 ^ (8 * (x :: a).length) = 256 * 2 ^ (8 * a.length) := by
      rw [List.length_cons, Nat.mul_add, pow_add]
      ring
    rw [List.cons_append, leNat, leNat, ih, hp]
    ring

/-- The 16 bytes of a log entry, as a number. -/
theorem leNat_bytes (e : LogEntry) :
    leNat e.bytes = e.time % 2 ^ 64 + e.boot.toNat * 2 ^ 64 + e.code.toNat * 2 ^ 80 + e.data.toNat * 2 ^ 96 := by
  have hb := e.boot.isLt
  have hc := e.code.isLt
  have hd := e.data.isLt
  simp only [LogEntry.bytes, leNat_append, leNat_toLe, List.length_append, length_toLe]
  omega

theorem eventLog_entry {index : Reg} {e : LogEntry} (hd : s.due i 0x0904 [(8, 4, index.toNat)] = true) (he : s.rel.log[index.toNat]? = some e) :
    Answers (.eventLog i index) s i stOK (leNat e.bytes) s := by
  refine answers_plain (body := (·.fwEventLog i index.toNat)) rfl hd ?_
  rw [State.fwEventLog, runsNow_rel, he]

theorem eventLog_end {index : Reg} (hd : s.due i 0x0904 [(8, 4, index.toNat)] = true) (he : s.rel.log.length ≤ index.toNat) :
    Answers (.eventLog i index) s i stNOT_FOUND 0 s := by
  refine answers_plain (body := (·.fwEventLog i index.toNat)) rfl hd ?_
  rw [State.fwEventLog, runsNow_rel, List.getElem?_eq_none he]

theorem cairnStatus_answers (hd : s.due i 0x0905 [] = true) : Answers (.cairnStatus i) s i stOK
    (s.rel.passes + s.rel.notrun * 2 ^ 32 + s.rel.fails * 2 ^ 64 + s.rel.lastfail.toNat * 2 ^ 96) s := by
  refine answers_plain (body := (·.fwCairnStatus i)) rfl hd ?_
  rw [State.fwCairnStatus, runsNow_rel]
  simp [resAt]

theorem abort_finds_nothing {target : BitVec 16} (hd : s.due i 0x0104 [(8, 2, target.toNat)] = true)
    (h : (s.hslot i.p i.f (target.toNat % 4096)).busy = false ∨ (s.hslot i.p i.f (target.toNat % 4096)).gen ≠ target.toNat / 4096 ∨ target = i.tag) :
    Answers (.abort i target) s i stNOT_FOUND 0 s := by
  refine answers_plain (body := (·.fwAbort i target.toNat)) rfl hd ?_
  rw [State.fwAbort]
  refine if_pos ?_
  rw [Bool.or_eq_true, Bool.or_eq_true, Bool.not_eq_true', decide_eq_true_eq, decide_eq_true_eq, or_assoc]
  exact h.imp_right (Or.imp_right (congrArg BitVec.toNat))

end

/-! ### An abort that finds its target (R405, R423) -/

theorem mkIssuer_self (i : Issuer) (t : BitVec 16) : mkIssuer i.p i.f t = ⟨i.port, i.func, t⟩ := by
  have hp : Fin.ofNat 5 i.p = i.port := Fin.ext (Nat.mod_eq_of_lt i.port.isLt)
  have hf : Fin.ofNat 65 i.f = i.func := Fin.ext (Nat.mod_eq_of_lt i.func.isLt)
  rw [mkIssuer, hp, hf]

/-- The state in which an abort waits: its slot is marked, and it runs no longer. -/
def State.aborting (s : State) (i : Issuer) (n : Nat) : State :=
  let h := s.hslot i.p i.f n
  let t := s.setHslot i.p i.f n { h with marked := true, aborters := h.aborters ++ [i] }
  t.setRunning (t.host.running.filter fun r => decide (r.iss ≠ i))

theorem setHslot_running (s : State) (p f n : Nat) (v : HSlot) : (s.setHslot p f n v).host.running = s.host.running := by
  unfold State.setHslot
  split <;> rfl

theorem aborting_running (s : State) (i : Issuer) (n : Nat) :
    (s.aborting i n).host.running = s.host.running.filter fun r => decide (r.iss ≠ i) :=
  congrArg (List.filter fun r : Running => decide (r.iss ≠ i)) (setHslot_running s i.p i.f n _)

theorem aborting_record_self (s : State) (i : Issuer) (n : Nat) : (s.aborting i n).record i = none := by
  rw [State.record, aborting_running, List.find?_eq_none]
  intro x hx
  simpa using (List.mem_filter.mp hx).2

theorem aborting_record_other {s : State} {i j : Issuer} (n : Nat) (h : j ≠ i) : (s.aborting i n).record j = s.record j := by
  rw [State.record, aborting_running, List.find?_filter, State.record]
  refine congrArg (List.find? · s.host.running) (funext fun x => ?_)
  by_cases hx : x.iss = j
  · simp [hx, h]
  · simp [hx]

/-- An ABORT of a running command other than a load marks the slot of its target, which goes on. -/
theorem abort_marks {s : State} {i : Issuer} {target : BitVec 16} {x : Running} (hd : s.due i 0x0104 [(8, 2, target.toNat)] = true)
    (hbusy : (s.hslot i.p i.f (target.toNat % 4096)).busy = true) (hgen : (s.hslot i.p i.f (target.toNat % 4096)).gen = target.toNat / 4096)
    (hne : target ≠ i.tag) (hx : s.record ⟨i.port, i.func, target⟩ = some x) (h6 : x.op ≠ 0x0306) (h2 : x.op ≠ 0x0A02) :
    exec (.abort i target) s = .next ((s.runsNow i 0x0104).aborting i (target.toNat % 4096)) := by
  have hj : (⟨i.port, i.func, target⟩ : Issuer) ≠ i := fun h => hne (congrArg Issuer.tag h)
  have hno : ¬ ((!(s.hslot i.p i.f (target.toNat % 4096)).busy || decide ((s.hslot i.p i.f (target.toNat % 4096)).gen ≠ tagGen target.toNat)
      || decide (target.toNat = i.tag.toNat)) = true) := by
    simp only [hbusy, hgen, tagGen, Bool.or_eq_true, Bool.not_eq_true', decide_eq_true_eq, not_or]
    exact ⟨⟨Bool.noConfusion, fun h => h rfl⟩, fun h => hne (BitVec.eq_of_toNat_eq h)⟩
  have hrec : ((s.runsNow i 0x0104).aborting i (target.toNat % 4096)).record (mkIssuer i.p i.f (BitVec.ofNat 16 target.toNat)) = some x := by
    rw [mkIssuer_self, BitVec.ofNat_toNat, BitVec.setWidth_eq, aborting_record_other _ hj]
    exact hx
  have hgo : ((s.runsNow i 0x0104).aborting i (target.toNat % 4096)).abortRunning x = (s.runsNow i 0x0104).aborting i (target.toNat % 4096) := by
    rw [State.abortRunning, if_neg h6, if_neg h2]
  rw [exec_of_act (due_live hd) (f := (·.cAbort i target)) rfl, State.cAbort, command_due hd]
  refine congrArg _ ((if_neg hno).trans ?_)
  show (match ((s.runsNow i 0x0104).aborting i (target.toNat % 4096)).record (mkIssuer i.p i.f (BitVec.ofNat 16 target.toNat)) with
    | some x => ((s.runsNow i 0x0104).aborting i (target.toNat % 4096)).abortRunning x
    | none => _) = _
  rw [hrec]
  exact hgo

/-- Settles O24: each command's completion and effect; an abort by the slot and the record of its target. -/
theorem deviceCommands : Obligations.DeviceCommands := by
  refine ⟨?_, ?_⟩
  · intro s i t ns off index data ghi action target
    refine ⟨devIdentity_answers, ?_, timeGet_answers, fun hd => ⟨timeStep_forward hd, timeStep_backward hd⟩,
      fun hd => ⟨fun h => tickSet_answers hd h.1 h.2, tickSet_refuses hd⟩, stage_answers, ?_,
      fun hd => ⟨fun e he => leNat_bytes e ▸ eventLog_entry hd he, eventLog_end hd⟩, cairnStatus_answers, fun hd => abort_finds_nothing hd⟩
    · intro hd
      have h := devStatus_answers hd
      simp only [State.devStatus, resAt] at h
      simpa [b2n] using h
    · intro hd hg
      have hff : ghi.toNat = 0xFF ↔ ghi = 0xFF := ⟨fun h => BitVec.eq_of_toNat_eq h, fun h => by rw [h]; rfl⟩
      have h := ropeCtl_answers hd (hg.imp_right hff.mpr)
      have hclear : ∀ a b : Bool, (if a = true then false else b) = (b && !a) := by decide
      have hset : ∀ a b : Bool, (if a = true then true else b) = (b || a) := by decide
      simp only [hff, bit_toNat, BitVec.ofNat_toNat] at h
      simp only [hclear, hset]
      exact h
  · intro s i target x hd n h hbusy hgen hne hx h6 h2
    refine ⟨_, abort_marks hd hbusy hgen hne hx h6 h2, ?_, aborting_record_self _ _ _, ?_, ?_, ?_⟩
    · exact hslot_setHslot (s.runsNow i 0x0104) i.p i.f n _
    · rw [aborting_record_other _ fun hj => hne (congrArg Issuer.tag hj)]
      exact hx
    · exact setHslot_upToHost (s.runsNow i 0x0104) s i.p i.f n _
    · exact setHslot_out (s.runsNow i 0x0104) i.p i.f n _

end Sys2Proof.Machine

/-! Load commands that take their context, or find it busy (R320, R321, R352). -/

namespace Sys2Proof.Machine

/-- A tenant's own region, or any region for the owner, passes the checks of a region number. -/
theorem regionFails_pass {s : State} {i : Issuer} {r : Nat} {g : Region} (hlt : r < 64) (hg : s.region r = some g)
    (hown : i.owner = true ∨ g.ten = i.p) : firstFail (s.regionFails i r) = none := by
  refine firstFail_pass (decide_eq_false (Nat.not_le.mpr hlt)) (firstFail_pass ?_ (firstFail_pass ?_ firstFail_nil))
  · rw [hg]
    exact Bool.and_false _
  · rcases hown with h | h
    · rw [h]
      rfl
    · have : s.owns i.p (some r) = true := by simp [State.owns, hg, h]
      rw [this]
      exact Bool.and_false _

theorem due_record {s : State} {i : Issuer} {op : Nat} {ops : List Opnd} (h : s.due i op ops = true) : ∃ x, s.record i = some x :=
  Option.isSome_iff_exists.mp (due_consumed h)

/-- A command that goes on over later steps is still recorded, as begun. -/
theorem begin_record {s : State} {i : Issuer} {x : Running} (h : s.record i = some x) : (s.begin i).record i = some { x with began := true } := by
  have hi : x.iss = i := of_decide_eq_true (List.find?_some h :)
  have hsame : ∀ y : Running, (if y.iss = i then { y with began := true } else y).iss = y.iss := by
    intro y
    split <;> rfl
  have hfind : (s.begin i).record i = (s.record i).map fun y => if y.iss = i then { y with began := true } else y := by
    have hm : (s.begin i).record i = (s.host.running.map fun y => if y.iss = i then { y with began := true } else y).find? fun y => decide (y.iss = i) := rfl
    rw [hm, List.find?_map]
    refine congrArg (Option.map _) (congrArg (List.find? · s.host.running) (funext fun y => ?_))
    exact congrArg (fun j => decide (j = i)) (hsame y)
  rw [hfind, h]
  exact congrArg some (if_pos hi)

/-- Whether a region is stopped for a lost cluster, in the form of REGION_LOAD's check. -/
theorem not_clusterLost {s : State} {r : Nat} {g : Region} (hg : s.region r = some g) (hs : g.stop ≠ some .clusterLost) :
    (match (s.region r).bind (·.stop) with | some .clusterLost => true | _ => false) = false := by
  rw [hg]
  show (match g.stop with | some .clusterLost => true | _ => false) = false
  split
  · exact absurd ‹_› hs
  · rfl

/-- A load that a command of record `x` starts takes its context, and the command goes on. -/
theorem startLoad_takes {s : State} {i : Issuer} {x : Running} {op : Nat} (hx : s.record i = some x) (n : Nat) (path : Path)
    (base given : Nat) (r : Option Nat) :
    let t := (s.runsNow i op).startLoad i n path base given r
    t.ctx n = { lst := (s.ctx n).lst, lfrm := (s.ctx n).lfrm, ltk := (s.ctx n).ltk, ltkLatch := (s.ctx n).ltkLatch
                busy := true, issuer := some i, region := r, path := path, phase := .header, base := base, given := given } ∧
      (∃ x, t.record i = some x ∧ x.began = true) ∧ t.upToHost s = { s with loader := t.loader } ∧ t.out = s.out := by
  have hx : (s.runsNow i op).record i = some x := hx
  exact ⟨ctx_setCtx ((s.runsNow i op).begin i) n _, ⟨_, begin_record hx, rfl⟩, rfl, rfl⟩

/-- Settles O25: behind the checks the context decides. -/
theorem loadCommands : Obligations.LoadCommands := by
  intro s i r addr src off len g busyResult
  refine ⟨?_, ?_⟩
  · intro hd hp hlt hg ht hs
    obtain ⟨x, hx⟩ := due_record hd
    have hpass : firstFail ((s.runsNow i 0x0306).regionFails i r.toNat ++
        [((match ((s.runsNow i 0x0306).region r.toNat).bind (·.stop) with | some .clusterLost => true | _ => false), stBAD_STATE)]) = none :=
      firstFail_append (regionFails_pass (s := s.runsNow i 0x0306) hlt hg (.inr ht)) (firstFail_pass (not_clusterLost (s := s.runsNow i 0x0306) hg hs) firstFail_nil)
    refine ⟨fun hb => ?_, fun hb => ?_⟩
    · refine answers_plain (body := (·.fwRegionLoad i r.toNat addr.toNat len.toNat)) rfl hd ?_
      rw [State.fwRegionLoad]
      exact (judge_pass hpass).trans (if_pos hb)
    · refine ⟨(s.runsNow i 0x0306).startLoad i i.p (.mailbox i.p) addr.toNat len.toNat (some r.toNat), ?_, ?_⟩
      rotate_left
      · exact startLoad_takes hx i.p (.mailbox i.p) addr.toNat len.toNat (some r.toNat)
      rw [exec_of_act (due_live hd) (f := (·.cRegionLoad i r addr len)) rfl, State.cRegionLoad, command_due hd, State.fwRegionLoad]
      exact congrArg _ ((judge_pass hpass).trans (if_neg (by rw [show ((s.runsNow i 0x0306).ctx i.p).busy = false from hb]; decide)))
  · intro hd hsrc
    obtain ⟨x, hx⟩ := due_record hd
    have hpass : firstFail [(decide (1 < src.toNat) || (decide (src.toNat = 1) && !stageOk off.toNat len.toNat), stBAD_OPERAND)] = none := by
      refine firstFail_pass ?_ firstFail_nil
      rcases hsrc with rfl | ⟨rfl, hend⟩
      · rfl
      · have : stageOk off.toNat len.toNat = true := decide_eq_true hend
        rw [this]
        rfl
    have hpath : (if src.toNat = 0 then Path.flash else .stage) = if src = 0 then .flash else .stage := by
      rcases hsrc with rfl | ⟨rfl, -⟩ <;> rfl
    refine ⟨fun hb => ?_, fun hb => ?_⟩
    · refine answers_plain (body := (·.fwFullLoad i src.toNat off.toNat len.toNat)) rfl hd ?_
      rw [State.fwFullLoad]
      exact (judge_pass hpass).trans (if_pos hb)
    · rw [← hpath]
      refine ⟨(s.runsNow i 0x0A02).startLoad i 4 (if src.toNat = 0 then .flash else .stage) off.toNat len.toNat none, ?_, ?_⟩
      rotate_left
      · exact startLoad_takes hx 4 (if src.toNat = 0 then .flash else .stage) off.toNat len.toNat none
      rw [exec_of_act (due_live hd) (f := (·.cFullLoad i src off len)) rfl, State.cFullLoad, command_due hd, State.fwFullLoad]
      exact congrArg _ ((judge_pass hpass).trans (if_neg (by rw [show ((s.runsNow i 0x0A02).ctx 4).busy = false from hb]; decide)))

end Sys2Proof.Machine

/-! Life-cycle transitions (R354 to R357, R445). -/

namespace Sys2Proof.Machine

/-! ### Effects on every index of a list -/

/-- What one index's effect brings about, and no other index's effect undoes, holds of every index of the list. -/
theorem forAll_mem {P : State → Nat → Prop} {f : State → Nat → State} (hself : ∀ s n, P (f s n) n)
    (hkeep : ∀ s m n, P s n → P (f s m) n) (l : List Nat) : ∀ (s : State), ∀ n ∈ l, P (forAll l f s) n := by
  have hstay : ∀ (l : List Nat) (s : State) (n : Nat), P s n → P (forAll l f s) n := by
    intro l
    induction l with
    | nil => exact fun s n h => h
    | cons m l ih => exact fun s n h => ih _ n (hkeep s m n h)
  induction l with
  | nil => exact fun s n h => absurd h (List.not_mem_nil)
  | cons m l ih =>
    intro s n h
    rcases List.mem_cons.mp h with rfl | h
    · exact hstay l _ _ (hself s n)
    · exact ih _ n h

/-- What each index's effect leaves unchanged, all of them leave unchanged. -/
theorem forAll_frame {α : Sort _} (g : State → α) {f : State → Nat → State} (h : ∀ s n, g (f s n) = g s) (l : List Nat) :
    ∀ s : State, g (forAll l f s) = g s := by
  induction l with
  | nil => exact fun _ => rfl
  | cons m l ih => exact fun s => (ih (f s m)).trans (h s m)

/-- Effects that each change only one part of the state, which `put` takes from its second argument, together change only that part. -/
theorem forAll_part {put : State → State → State} {f : State → Nat → State} (hself : ∀ s, put s s = s)
    (hput : ∀ s t u, put (put s t) u = put s u) (h : ∀ s n, f s n = put s (f s n)) (l : List Nat) : ∀ s : State, forAll l f s = put s (forAll l f s) := by
  induction l with
  | nil => exact fun s => (hself s).symm
  | cons m l ih =>
    intro s
    calc forAll l f (f s m) = put (f s m) (forAll l f (f s m)) := ih (f s m)
      _ = put (put s (f s m)) (forAll l f (f s m)) := congrArg (fun u => put u (forAll l f (f s m))) (h s m)
      _ = put s (forAll l f (f s m)) := hput ..

section
variable {f : State → Nat → State}

theorem forAll_sec (h : ∀ s n, f s n = { s with sec := (f s n).sec }) (l : List Nat) (s : State) :
    forAll l f s = { s with sec := (forAll l f s).sec } :=
  forAll_part (put := fun s t => { s with sec := t.sec }) (fun _ => rfl) (fun _ _ _ => rfl) h l s

theorem forAll_ext (h : ∀ s n, f s n = { s with ext := (f s n).ext }) (l : List Nat) (s : State) :
    forAll l f s = { s with ext := (forAll l f s).ext } :=
  forAll_part (put := fun s t => { s with ext := t.ext }) (fun _ => rfl) (fun _ _ _ => rfl) h l s

theorem forAll_noc (h : ∀ s n, f s n = { s with noc := (f s n).noc }) (l : List Nat) (s : State) :
    forAll l f s = { s with noc := (forAll l f s).noc } :=
  forAll_part (put := fun s t => { s with noc := t.noc }) (fun _ => rfl) (fun _ _ _ => rfl) h l s

theorem forAll_sys (h : ∀ s n, f s n = { s with sys := (f s n).sys }) (l : List Nat) (s : State) :
    forAll l f s = { s with sys := (forAll l f s).sys } :=
  forAll_part (put := fun s t => { s with sys := t.sys }) (fun _ => rfl) (fun _ _ _ => rfl) h l s

theorem forAll_rel (h : ∀ s n, f s n = { s with rel := (f s n).rel }) (l : List Nat) (s : State) :
    forAll l f s = { s with rel := (forAll l f s).rel } :=
  forAll_part (put := fun s t => { s with rel := t.rel }) (fun _ => rfl) (fun _ _ _ => rfl) h l s

end

/-! ### Beginning a transition -/

/-- The state in which a transition has begun, but for what it wipes. -/
def State.transits (s : State) (i : Issuer) (dest : Lcs) : State :=
  { s with sec := { s.sec with trans := some { dest := dest, issuer := i, posted := s.now } } }

/-- A due command finds no transition, but one that only reports. -/
theorem due_untransited {s : State} {i : Issuer} {op : Nat} {ops : List Opnd} (hd : s.due i op ops = true) (hop : statusOp op i.owner = false) :
    s.sec.trans = none := by
  obtain ⟨x, hx⟩ := due_record hd
  simp only [State.due, hx, hop, Bool.and_eq_true, Bool.or_false, Option.isNone_iff_eq_none] at hd
  exact hd.2.1.2

/-- What no running migration meets goes on (R474). -/
theorem afterMoves_unmet {s : State} {rs : List Nat} {i : Issuer} {c : Instr} {run : State → State}
    (h : ∀ m ∈ s.rel.migq, ∀ r ∈ rs, s.regionOf m.cl ≠ some r) : s.afterMoves rs i c run = run s := by
  rw [State.afterMoves]
  refine if_neg fun hany => ?_
  obtain ⟨m, hm, hr⟩ := List.any_eq_true.mp hany
  cases hreg : s.regionOf m.cl with
  | none =>
    rw [hreg] at hr
    cases hr
  | some r =>
    rw [hreg] at hr
    exact h m hm r (List.contains_iff_mem.mp hr) hreg

/-- A due life-cycle command runs its body, whose transition no migration holds up. -/
theorem lcCommand_due {s : State} {i : Issuer} {op : Nat} {ops : List Opnd} {c : Instr} {body : State → State} (hd : s.due i op ops = true)
    (hop : statusOp op i.owner = false) (hm : ∀ m ∈ s.rel.migq, s.regionOf m.cl = none) :
    s.lcCommand i op ops c body = body (s.runsNow i op) := by
  have hmove : (s.runsNow i op).afterMoves (List.range 64) i c body = body (s.runsNow i op) :=
    afterMoves_unmet fun m h r _ hreg => absurd ((hm m h).symm.trans hreg) (Option.some_ne_none r).symm
  rw [State.lcCommand, due_untransited hd hop]
  refine (command_due hd c _).trans ?_
  exact (if_congr Iff.rfl hmove rfl).trans (ite_self _)

/-- A life-cycle command's beginning: it goes on running, with this effect. -/
def LcBegins (c : Instr) (s : State) (i : Issuer) (e : State → Prop) : Prop :=
  ∃ t, exec c s = .next t ∧ (∃ x, t.record i = some x ∧ x.began = true) ∧ e (t.upToHost s) ∧ t.out = s.out ∧ t.sec.lcs = s.sec.lcs

/-- A transition from a state without tenants of its own wipes its secrets and marks its command as begun. -/
theorem transition_begins {s : State} {i : Issuer} {dest : Lcs} (wipe : State → State) (h : s.sec.lcs ≠ .owned) :
    s.transition i dest wipe = (wipe (s.transits i dest)).begin i := by
  rw [State.transition]
  have hl : (decide (s.sec.lcs = .owned) && decide (dest ≠ .owned)) = false := Bool.and_eq_false_iff.mpr (.inl (decide_eq_false h))
  exact congrArg (fun u => (wipe u).begin i) (if_neg (by rw [hl]; decide))

/-- A due life-cycle command that its checks let pass begins its transition outside OWNED. -/
theorem lc_begins {c : Instr} {s : State} {i : Issuer} {op : Nat} {ops : List Opnd} {body wipe : State → State} {dest : Lcs} {e : State → Prop}
    {x : Sec} {y : Ext} (hx : exec c s = act s fun t => t.lcCommand i op ops c body) (hd : s.due i op ops = true)
    (hop : statusOp op i.owner = false) (hm : ∀ m ∈ s.rel.migq, s.regionOf m.cl = none) (hl : s.sec.lcs ≠ .owned)
    (hb : body (s.runsNow i op) = (s.runsNow i op).transition i dest wipe)
    (hw : wipe ((s.runsNow i op).transits i dest) = { s.runsNow i op with sec := x, ext := y }) (hlcs : x.lcs = s.sec.lcs)
    (he : e { s with sec := x, ext := y }) : LcBegins c s i e := by
  obtain ⟨z, hr⟩ := due_record hd
  have hexec : exec c s = .next (({ s.runsNow i op with sec := x, ext := y } : State).begin i) := by
    rw [exec_of_act (due_live hd) hx, lcCommand_due hd hop hm, hb, transition_begins (s := s.runsNow i op) wipe hl, hw]
  exact ⟨_, hexec, ⟨_, begin_record (x := z) hr, rfl⟩, he, rfl, hlcs⟩

/-- A due life-cycle command that a check refuses answers with its status. -/
theorem lc_refused {c : Instr} {s : State} {i : Issuer} {op : Nat} {ops : List Opnd} {body : State → State} {st : Nat}
    (hx : exec c s = act s fun t => t.lcCommand i op ops c body) (hd : s.due i op ops = true) (hop : statusOp op i.owner = false)
    (hm : ∀ m ∈ s.rel.migq, s.regionOf m.cl = none) (hb : body (s.runsNow i op) = (s.runsNow i op).complete i st 0) :
    Answers c s i st 0 s :=
  answers_of_due (e := s.runsNow i op) hd ((exec_of_act (due_live hd) hx).trans (congrArg Host.Outcome.next ((lcCommand_due hd hop hm).trans hb))) rfl

/-! ### What the transitions wipe -/

/-- The Ethernet ports without their MACsec keys (R355). -/
def State.noMacsec (s : State) : State := forAll (List.range 8) (fun s n => s.setEth n { s.eth n with sas := [], newSas := none, txAn := none }) s

/-- Whether a port keeps no MACsec key. -/
def Eth.keyless (e : Eth) : Prop := e.sas = [] ∧ e.newSas = none ∧ e.txAn = none

theorem noMacsec_keyless (s : State) {n : Nat} (h : n < 8) : (s.noMacsec.eth n).keyless := by
  rw [State.noMacsec]
  refine forAll_mem (P := fun u n => (u.eth n).keyless) (fun u m => ?_) (fun u m k hk => ?_) (List.range 8) s n (List.mem_range.mpr h)
  · rw [eth_setEth]
    exact ⟨rfl, rfl, rfl⟩
  · by_cases hkm : k = m
    · rw [hkm, eth_setEth]
      exact ⟨rfl, rfl, rfl⟩
    · rw [eth_setEth_ne _ _ hkm]
      exact hk

theorem noMacsec_keys (s : State) {n : Nat} (h : n < 8) : (sget {} s.noMacsec.ext.eths n).keyless := by
  simpa only [State.eth] using noMacsec_keyless s h

/-- But for the Ethernet ports nothing changes. -/
theorem noMacsec_frame (s : State) : s.noMacsec = { s with ext := s.noMacsec.ext } := by
  rw [State.noMacsec]
  exact forAll_ext (fun _ _ => rfl) _ s

theorem noMacsec_sec (s : State) : s.noMacsec.sec = s.sec := by
  rw [noMacsec_frame]

/-- A responder without its session's state. -/
def State.noResponder (s : State) (p : Nat) : State :=
  s.setSpdm p { s.spdm p with session := none, handshake := none, updates := 0, ideStreams := [] }

theorem endSession_eq (s : State) (p : Nat) : s.endSession p =
    forAll (List.range 8) (fun u k => u.setKey (128 + 8 * p + k) none) (((s.noResponder p).setKey (8 + p) none).setKey (12 + p) none) := by
  rw [State.endSession, State.noResponder]

theorem endSession_spdm (s : State) (p q : Nat) : (s.endSession p).spdm q = (s.noResponder p).spdm q := by
  rw [endSession_eq]
  refine (forAll_frame (fun u : State => u.spdm q) (fun u k => ?_) _ _).trans ?_ <;> simp only [State.setKey, State.spdm]

theorem endSession_ends (s : State) (p : Nat) : ((s.endSession p).spdm p).session = none := by
  rw [endSession_spdm, State.noResponder, spdm_setSpdm]

theorem endSession_spdm_ne (s : State) {p q : Nat} (h : q ≠ p) : (s.endSession p).spdm q = s.spdm q := by
  rw [endSession_spdm, State.noResponder, spdm_setSpdm_ne _ _ h]

/-- The end of a session changes only security state. -/
theorem endSession_frame (s : State) (p : Nat) : s.endSession p = { s with sec := (s.endSession p).sec } := by
  rw [endSession_eq]
  refine (forAll_sec (fun u k => by simp only [State.setKey]) _ _).trans ?_
  simp only [State.noResponder, State.setSpdm, State.setKey]

/-- The host ports without a session. -/
def State.noSessions (s : State) : State := forAll (List.range 4) State.endSession s

theorem noSessions_session (s : State) {p : Nat} (h : p < 4) : (sget {} s.noSessions.sec.spdm p).session = none := by
  rw [State.noSessions]
  refine forAll_mem (P := fun u p => (u.spdm p).session = none) (fun u m => endSession_ends u m) (fun u m k hk => ?_) (List.range 4) s p
    (List.mem_range.mpr h)
  by_cases hkm : k = m
  · rw [hkm, endSession_ends]
  · rw [endSession_spdm_ne _ hkm]
    exact hk

theorem endSession_cycle (s : State) (p : Nat) : (s.endSession p).sec.lcs = s.sec.lcs ∧ (s.endSession p).sec.trans = s.sec.trans := by
  rw [endSession_eq]
  constructor
  · refine (forAll_frame (fun u : State => u.sec.lcs) (fun u k => ?_) _ _).trans ?_ <;> simp only [State.noResponder, State.setKey, State.setSpdm]
  · refine (forAll_frame (fun u : State => u.sec.trans) (fun u k => ?_) _ _).trans ?_ <;> simp only [State.noResponder, State.setKey, State.setSpdm]

theorem noSessions_cycle (s : State) : s.noSessions.sec.lcs = s.sec.lcs ∧ s.noSessions.sec.trans = s.sec.trans :=
  ⟨forAll_frame (fun u : State => u.sec.lcs) (fun u p => (endSession_cycle u p).1) _ s,
    forAll_frame (fun u : State => u.sec.trans) (fun u p => (endSession_cycle u p).2) _ s⟩

theorem noSessions_frame (s : State) : s.noSessions = { s with sec := s.noSessions.sec } := by
  rw [State.noSessions]
  exact forAll_sec endSession_frame _ s

/-- What LC_DEBUG wipes (R355, R357). -/
def State.wipeDebug (s : State) : State :=
  ({ s.noMacsec with sec := { s.noMacsec.sec with fleet := none, signers := [], dbgcnt := s.noMacsec.sec.dbgcnt + 1 } } : State).setKey 5 none

theorem wipeDebug_eq (s : State) : s.wipeDebug = { s with
    sec := { s.sec with fleet := none, signers := [], dbgcnt := s.sec.dbgcnt + 1, keys := sput none s.sec.keys 5 none }
    ext := s.noMacsec.ext } := by
  rw [State.wipeDebug, noMacsec_frame s, State.setKey]
  rfl

/-- What LC_RETIRE wipes (R355). -/
def State.wipeRetired (s : State) : State :=
  { s.noMacsec.noSessions with sec :=
    { s.noMacsec.noSessions.sec with keys := [], fleet := none, debugFleet := none, owner := {}, signers := [] } }

theorem wipeRetired_eq (s : State) : s.wipeRetired = { s with
    sec := { s.noMacsec.noSessions.sec with keys := [], fleet := none, debugFleet := none, owner := {}, signers := [] }
    ext := s.noMacsec.ext } := by
  have h := noSessions_frame s.noMacsec
  rw [State.wipeRetired]
  generalize s.noMacsec.noSessions = u at h ⊢
  rw [h, noMacsec_frame s]

/-! ### Released commands -/

@[simp] theorem endRstp_running (s : State) (p f : Nat) : (s.endRstp p f).host.running = s.host.running := by
  unfold State.endRstp
  dsimp only
  split <;> rfl

/-- A completion ends its own command and no other. -/
theorem complete_running (s : State) (i : Issuer) (st r : Nat) :
    (s.complete i st r).host.running = s.host.running.filter fun x => decide (x.iss ≠ i) := by
  have hu : (s.unrun i).host.running = s.host.running.filter fun x => decide (x.iss ≠ i) := rfl
  by_cases hr : (!i.owner && (s.func i.p i.f).rstp) = true
  · have h : s.complete i st r = (s.unrun i).endRstp i.p i.f := if_pos hr
    rw [h, endRstp_running, hu]
  · rw [complete_post st r (Bool.eq_false_iff.mpr hr), post_running, hu]

theorem complete_record_ne {s : State} {i j : Issuer} (st r : Nat) (h : i ≠ j) : (s.complete j st r).record i = s.record i := by
  rw [State.record, complete_running, List.find?_filter, State.record]
  refine congrArg (List.find? · s.host.running) (funext fun x => ?_)
  by_cases hx : x.iss = i
  · simp [hx, h]
  · simp [hx]

/-- A completion of a host port raises no alert. -/
theorem complete_out {s : State} {i : Issuer} (st r : Nat) (h : i.p ≠ 4) : (s.complete i st r).out = s.out := by
  by_cases hr : (!i.owner && (s.func i.p i.f).rstp) = true
  · have hc : s.complete i st r = (s.unrun i).endRstp i.p i.f := if_pos hr
    rw [hc, State.endRstp]
    split <;> rfl
  · rw [complete_post st r (Bool.eq_false_iff.mpr hr), State.post, if_neg h, State.addReady, if_neg h]
    rfl

/-- Completions of other issuers that are host ports. -/
theorem foldComplete_record {i : Issuer} (st r : Nat) (l : List Running) : ∀ s : State, (∀ x ∈ l, x.iss ≠ i) →
    (l.foldl (fun s x => s.complete x.iss st r) s).record i = s.record i := by
  induction l with
  | nil => exact fun _ _ => rfl
  | cons x l ih =>
    intro s h
    rw [List.foldl_cons, ih _ fun y hy => h y (List.mem_cons_of_mem x hy), complete_record_ne st r (h x List.mem_cons_self).symm]

theorem foldComplete_out (st r : Nat) (l : List Running) : ∀ s : State, (∀ x ∈ l, x.iss.p ≠ 4) →
    (l.foldl (fun s x => s.complete x.iss st r) s).out = s.out := by
  induction l with
  | nil => exact fun _ _ => rfl
  | cons x l ih =>
    intro s h
    rw [List.foldl_cons, ih _ fun y hy => h y (List.mem_cons_of_mem x hy), complete_out st r (h x List.mem_cons_self)]

theorem foldComplete_upToHost (t : State) (st r : Nat) (l : List Running) : ∀ s : State,
    (l.foldl (fun s x => s.complete x.iss st r) s).upToHost t = s.upToHost t := by
  induction l with
  | nil => exact fun _ => rfl
  | cons x l ih =>
    intro s
    rw [List.foldl_cons, ih, complete_upToHost]

/-- Commands that a release marks keep their issuers. -/
theorem find_map_iss {f : Running → Running} {i : Issuer} (hiss : ∀ x, (f x).iss = x.iss) (hi : ∀ x, x.iss = i → f x = x) (l : List Running) :
    (l.map f).find? (fun x => decide (x.iss = i)) = l.find? fun x => decide (x.iss = i) := by
  induction l with
  | nil => rfl
  | cons x l ih =>
    rw [List.map_cons, List.find?_cons, List.find?_cons, hiss, ih]
    by_cases hx : x.iss = i
    · rw [hi x hx]
    · simp only [hx, decide_false]

/-- What a release marks or aborts is another issuer's (R422). -/
theorem release0_record (s : State) (i : Issuer) (names : Running → Bool) : (s.release0 i names).record i = s.record i := by
  rw [State.release0]
  refine (foldComplete_record _ _ _ _ fun x hx => ?_).trans (find_map_iss (fun x => ?_) (fun x hx => ?_) s.host.running)
  · have := (List.mem_filter.mp (List.mem_filter.mp hx).1).2
    exact of_decide_eq_true (Bool.and_eq_true_iff.mp this).1
  · split <;> rfl
  · rw [if_neg]
    simp [hx]

theorem release0_upToHost (s t : State) (i : Issuer) (names : Running → Bool) : (s.release0 i names).upToHost t = s.upToHost t := by
  rw [State.release0]
  exact foldComplete_upToHost t _ _ _ _

/-- A release of the tenants' commands raises no alert. -/
theorem release0_tenants_out (s : State) (i : Issuer) : (s.release0 i fun x => decide (x.iss.p < 4)).out = s.out := by
  rw [State.release0]
  refine foldComplete_out _ _ _ _ fun x hx => ?_
  have := (List.mem_filter.mp (List.mem_filter.mp hx).1).2
  exact Nat.ne_of_lt (of_decide_eq_true (Bool.and_eq_true_iff.mp this).2)

/-- A transition out of OWNED without tenants releases their commands alone. -/
theorem transition_unseals {s : State} {i : Issuer} (hl : s.sec.lcs = .owned) (ht : ∀ t, t < 4 → s.tenant t = false) :
    s.transition i .provisioned id = ((s.transits i .provisioned).release0 i fun x => decide (x.iss.p < 4)).begin i := by
  have hown : (decide (s.sec.lcs = .owned) && decide (Lcs.provisioned ≠ .owned)) = true := by
    rw [decide_eq_true hl]
    rfl
  have hnone : (List.range 4).filter (s.transits i .provisioned).tenant = [] :=
    List.filter_eq_nil_iff.mpr fun t h => Bool.eq_false_iff.mp (ht t (List.mem_range.mp h))
  rw [State.transition]
  refine congrArg (fun u : State => u.begin i) ((if_pos hown).trans ?_)
  exact congrArg (fun l => forAll l State.evict ((s.transits i .provisioned).release0 i fun x => decide (x.iss.p < 4))) hnone

/-! ### The life-cycle commands -/

section
variable {s : State} {i : Issuer}

/-- The operand of a life-cycle command lies in the stage buffer. -/
theorem unstaged {off len : Reg} (h : off.toNat + len.toNat ≤ 0x400000) : (!stageOk off.toNat len.toNat) = false := by
  rw [stageOk, decide_eq_true h]
  rfl

theorem lcClaim_begins {off len : Reg} {k : List Byte} (hd : s.due i 0x0B00 [(12, 4, off.toNat), (16, 4, len.toNat)] = true)
    (hm : ∀ m ∈ s.rel.migq, s.regionOf m.cl = none) (hl : s.sec.lcs ≠ .owned) (hst : off.toNat + len.toNat ≤ 0x400000)
    (hk : Config.claimCheck deviceId (s.staged off.toNat len.toNat) = some k) :
    LcBegins (.lcClaim i off len) s i (fun e => e = { s with sec := { s.sec with
      ownerHash := some k, trans := some { dest := .provisioned, issuer := i, posted := s.now } } }) := by
  have hk : Config.claimCheck deviceId ((s.runsNow i 0x0B00).staged off.toNat len.toNat) = some k := hk
  refine lc_begins (body := (·.fwLcClaim i off.toNat len.toNat)) (dest := .provisioned)
    (wipe := fun u => { u with sec := { u.sec with ownerHash := some k } }) rfl hd (by simp [statusOp]) hm hl ?_ rfl rfl rfl
  rw [State.fwLcClaim, hk]
  exact (judge_pass (firstFail_pass (unstaged hst) (firstFail_pass rfl firstFail_nil))).trans rfl

theorem lcClaim_refused {off len : Reg} (hd : s.due i 0x0B00 [(12, 4, off.toNat), (16, 4, len.toNat)] = true)
    (hm : ∀ m ∈ s.rel.migq, s.regionOf m.cl = none) (hst : off.toNat + len.toNat ≤ 0x400000)
    (hk : Config.claimCheck deviceId (s.staged off.toNat len.toNat) = none) :
    Answers (.lcClaim i off len) s i stBAD_SIGNATURE 0 s := by
  have hk : Config.claimCheck deviceId ((s.runsNow i 0x0B00).staged off.toNat len.toNat) = none := hk
  refine lc_refused (body := (·.fwLcClaim i off.toNat len.toNat)) rfl hd (by simp [statusOp]) hm ?_
  rw [State.fwLcClaim, hk]
  refine judge_refuses ?_
  rw [firstFail_cons, unstaged hst]
  rfl

theorem lcSeal_begins (hd : s.due i 0x0B01 [] = true) (hm : ∀ m ∈ s.rel.migq, s.regionOf m.cl = none) (hl : s.sec.lcs ≠ .owned) :
    LcBegins (.lcSeal i) s i (fun e => e = { s with sec := { s.sec with trans := some { dest := .owned, issuer := i, posted := s.now } } }) :=
  lc_begins (body := (·.fwLcSeal i)) rfl hd (by simp [statusOp]) hm hl rfl rfl rfl rfl

theorem lcDebugExit_begins (hd : s.due i 0x0B04 [] = true) (hm : ∀ m ∈ s.rel.migq, s.regionOf m.cl = none) (hl : s.sec.lcs ≠ .owned) :
    LcBegins (.lcDebugExit i) s i (fun e => e = { s with sec := { s.sec with
      debugFleet := none, keys := sput none s.sec.keys 5 none, trans := some { dest := .provisioned, issuer := i, posted := s.now } } }) :=
  lc_begins (body := (·.fwLcDebugExit i)) rfl hd (by simp [statusOp]) hm hl rfl rfl rfl rfl

theorem lcDebug_begins {off len : Reg} (hd : s.due i 0x0B03 [(12, 4, off.toNat), (16, 4, len.toNat)] = true)
    (hm : ∀ m ∈ s.rel.migq, s.regionOf m.cl = none) (hl : s.sec.lcs ≠ .owned) (hst : off.toNat + len.toNat ≤ 0x400000)
    (hc : s.sec.dbgcnt < 15) (hk : Config.debugCheck deviceId (s.staged off.toNat len.toNat) = some (s.sec.dbgcnt + 1)) :
    LcBegins (.lcDebug i off len) s i (fun e => e.sec.dbgcnt = s.sec.dbgcnt + 1 ∧ e.sec.fleet = none ∧
      e.sec.signers = [] ∧ e.key 5 = none ∧ (∀ n, n < 8 → (e.eth n).sas = [] ∧ (e.eth n).newSas = none ∧ (e.eth n).txAn = none) ∧
      e.sec.trans = some { dest := .debug, issuer := i, posted := s.now } ∧ e = { s with sec := e.sec, ext := e.ext }) := by
  refine lc_begins (body := (·.fwLcDebug i off.toNat len.toNat)) (wipe := State.wipeDebug) (dest := .debug) rfl hd (by simp [statusOp]) hm hl ?_ (wipeDebug_eq _) rfl
    ⟨rfl, rfl, rfl, sget_sput_same none s.sec.keys 5 none, fun n h => noMacsec_keys ((s.runsNow i 0x0B03).transits i .debug) h, rfl, rfl⟩
  rw [State.fwLcDebug]
  have hk : Config.debugCheck deviceId ((s.runsNow i 0x0B03).staged off.toNat len.toNat) = some ((s.runsNow i 0x0B03).sec.dbgcnt + 1) := hk
  refine (judge_pass (firstFail_pass (unstaged hst) (firstFail_pass ?_ (firstFail_pass (decide_eq_false (Nat.not_le.mpr hc)) firstFail_nil)))).trans rfl
  rw [decide_eq_true hk]
  rfl

theorem lcDebug_unsigned {off len : Reg} (hd : s.due i 0x0B03 [(12, 4, off.toNat), (16, 4, len.toNat)] = true)
    (hm : ∀ m ∈ s.rel.migq, s.regionOf m.cl = none) (hst : off.toNat + len.toNat ≤ 0x400000)
    (hc : s.sec.dbgcnt < 15) (hk : Config.debugCheck deviceId (s.staged off.toNat len.toNat) ≠ some (s.sec.dbgcnt + 1)) :
    Answers (.lcDebug i off len) s i stBAD_SIGNATURE 0 s := by
  refine lc_refused (body := (·.fwLcDebug i off.toNat len.toNat)) rfl hd (by simp [statusOp]) hm ?_
  rw [State.fwLcDebug]
  have hk : Config.debugCheck deviceId ((s.runsNow i 0x0B03).staged off.toNat len.toNat) ≠ some ((s.runsNow i 0x0B03).sec.dbgcnt + 1) := hk
  have hc : (s.runsNow i 0x0B03).sec.dbgcnt ≠ 15 := Nat.ne_of_lt hc
  refine judge_refuses ?_
  rw [firstFail_cons, unstaged hst, decide_eq_false hk, decide_eq_true hc]
  rfl

theorem lcDebug_exhausted {off len : Reg} (hd : s.due i 0x0B03 [(12, 4, off.toNat), (16, 4, len.toNat)] = true)
    (hm : ∀ m ∈ s.rel.migq, s.regionOf m.cl = none) (hst : off.toNat + len.toNat ≤ 0x400000) (hc : s.sec.dbgcnt = 15) :
    Answers (.lcDebug i off len) s i stLIFECYCLE 0 s := by
  refine lc_refused (body := (·.fwLcDebug i off.toNat len.toNat)) rfl hd (by simp [statusOp]) hm ?_
  rw [State.fwLcDebug]
  refine judge_refuses ?_
  have hne : ¬ (s.runsNow i 0x0B03).sec.dbgcnt ≠ 15 := not_not.mpr hc
  rw [firstFail_cons, unstaged hst, firstFail_cons, decide_eq_false hne, Bool.and_false, firstFail_cons,
    decide_eq_true (show 15 ≤ (s.runsNow i 0x0B03).sec.dbgcnt from hc.ge)]
  rfl

theorem lcRetire_begins {confirm : Reg} (hd : s.due i 0x0B05 [(8, 4, confirm.toNat)] = true)
    (hm : ∀ m ∈ s.rel.migq, s.regionOf m.cl = none) (hl : s.sec.lcs ≠ .owned) (hc : confirm.toNat = le (Config.sha384 deviceId) 0 4) :
    LcBegins (.lcRetire i confirm) s i (fun e => e.sec.keys = [] ∧ e.sec.fleet = none ∧ e.sec.debugFleet = none ∧ e.sec.owner = {} ∧
      e.sec.signers = [] ∧ e.sec.trans = some { dest := .retired, issuer := i, posted := s.now } ∧
      (∀ n, n < 8 → (e.eth n).sas = [] ∧ (e.eth n).newSas = none ∧ (e.eth n).txAn = none) ∧
      (∀ p, p < 4 → (e.spdm p).session = none) ∧ e = { s with sec := e.sec, ext := e.ext }) := by
  have hcycle := noSessions_cycle ((s.runsNow i 0x0B05).transits i .retired).noMacsec
  rw [noMacsec_sec] at hcycle
  refine lc_begins (body := (·.fwLcRetire i confirm.toNat)) (wipe := State.wipeRetired) (dest := .retired) rfl hd (by simp [statusOp]) hm hl ?_ (wipeRetired_eq _) ?_
    ⟨rfl, rfl, rfl, rfl, rfl, ?_, fun n h => noMacsec_keys ((s.runsNow i 0x0B05).transits i .retired) h,
      fun p h => noSessions_session ((s.runsNow i 0x0B05).transits i .retired).noMacsec h, rfl⟩
  · rw [State.fwLcRetire]
    exact (judge_pass (firstFail_pass (decide_eq_false (not_not.mpr hc)) firstFail_nil)).trans rfl
  · exact hcycle.1
  · exact hcycle.2

theorem lcRetire_refused {confirm : Reg} (hd : s.due i 0x0B05 [(8, 4, confirm.toNat)] = true)
    (hm : ∀ m ∈ s.rel.migq, s.regionOf m.cl = none) (hc : confirm.toNat ≠ le (Config.sha384 deviceId) 0 4) :
    Answers (.lcRetire i confirm) s i stBAD_OPERAND 0 s := by
  refine lc_refused (body := (·.fwLcRetire i confirm.toNat)) rfl hd (by simp [statusOp]) hm ?_
  rw [State.fwLcRetire]
  exact judge_refuses (if_pos (decide_eq_true hc))

/-- LC_UNSEAL of a part without tenants (R355, R356). -/
theorem lcUnseal_begins (hd : s.due i 0x0B02 [] = true) (ht : ∀ t, t < 4 → s.tenant t = false)
    (hm : ∀ m ∈ s.rel.migq, s.regionOf m.cl = none) :
    ∃ t, exec (.lcUnseal i) s = .next t ∧ (∃ x, t.record i = some x ∧ x.began = true) ∧ t.out = s.out ∧ t.upToHost s =
        { s with sec := { s.sec with trans := some { dest := .provisioned, issuer := i, posted := s.now } } } := by
  obtain ⟨x, hx⟩ := due_record hd
  by_cases hl : s.sec.lcs = .owned
  · have hrun : s.cLcUnseal i = (((s.runsNow i 0x0B02).transits i .provisioned).release0 i fun x => decide (x.iss.p < 4)).begin i := by
      rw [State.cLcUnseal, lcCommand_due hd (by simp [statusOp]) hm, State.fwLcUnseal, transition_unseals (s := s.runsNow i 0x0B02) hl ht]
    refine ⟨_, (exec_of_act (due_live hd) (f := (·.cLcUnseal i)) rfl).trans (congrArg _ hrun), ⟨_, begin_record ((release0_record _ _ _).trans hx), rfl⟩, ?_, ?_⟩
    · exact release0_tenants_out ((s.runsNow i 0x0B02).transits i .provisioned) i
    · exact release0_upToHost ((s.runsNow i 0x0B02).transits i .provisioned) s i _
  · obtain ⟨t, h1, h2, h3, h4, -⟩ := lc_begins (c := .lcUnseal i) (body := (·.fwLcUnseal i))
      (e := fun e => e = { s with sec := { s.sec with trans := some { dest := .provisioned, issuer := i, posted := s.now } } })
      rfl hd (by simp [statusOp]) hm hl rfl rfl rfl rfl
    exact ⟨t, h1, h2, h4, h3⟩

/-- The state as step 4 of a transition leaves it (R356, R445). -/
def State.written (s : State) (x : Trans) : State := { s with sec := { s.sec with
  lcs := x.dest, trans := some { x with written := true, posted := s.now }
  fused := s.sec.fused || decide (x.dest = .retired), keys := if x.dest = .retired then [] else s.sec.keys } }

/-- The command of a transition that has not yet been written, given again, writes the new state and is answered. -/
theorem lcCommand_writes {x : Trans} {y : Running} {c : Instr} {op : Nat} {ops : List Opnd} {body : State → State} (hlive : s.live = true)
    (hi : i.owner = true) (hav : s.host.avail = true) (hx : s.sec.trans = some x) (hxi : x.issuer = i) (hxw : x.written = false)
    (hy : s.record i = some y) (hop : y.op.toNat = op) (hops : opsMatch y.bytes ops = true)
    (he : exec c s = act s fun t => t.lcCommand i op ops c body) : Answers c s i stOK 0 (s.written x) := by
  have hrun : s.lcCommand i op ops c body = s.transWrite x := by
    rw [State.lcCommand, hx, hy]
    exact if_pos (by rw [decide_eq_true hxi, decide_eq_true hop, hops, hav, hxw]; rfl)
  have hw : s.transWrite x = (s.written x).complete i stOK 0 := by
    subst hxi
    rw [State.transWrite]
    have hk : ∀ d : Lcs, (if decide (d = .retired) = true then [] else s.sec.keys) = if d = .retired then [] else s.sec.keys :=
      fun d => if_congr decide_eq_true_iff rfl rfl
    dsimp only
    rw [hk]
    rfl
  have hrst : (!i.owner && ((s.written x).func i.p i.f).rstp) = false := by
    rw [hi]
    rfl
  obtain ⟨h1, h2⟩ := complete_answered (s.written x) i stOK 0 hrst
  exact ⟨_, (exec_of_act hlive he).trans (congrArg _ (hrun.trans hw)), h1, h2, complete_upToHost (s.written x) s i stOK 0⟩

end

/-- Settles O26: each transition by what it wipes, and its step 4 by the record of its command. -/
theorem lifeCycleCommands : Obligations.LifeCycleCommands := by
  refine ⟨fun s i off len confirm _ hl hm => ?_, fun s i _ hd ht hm => lcUnseal_begins hd ht hm,
    fun s i x y off len confirm hlive hi hav hx hxi hxw hy => ?_⟩
  · exact ⟨fun hd hst => ⟨fun k hk => lcClaim_begins hd hm hl hst hk, fun hk => lcClaim_refused hd hm hst hk⟩,
      fun hd => lcSeal_begins hd hm hl,
      fun hd hst hc hk => lcDebug_begins hd hm hl hst hc hk,
      fun hd hst hc hk => lcDebug_unsigned hd hm hst hc hk,
      fun hd hst hc => lcDebug_exhausted hd hm hst hc,
      fun hd => lcDebugExit_begins hd hm hl,
      fun hd => ⟨fun hc => lcRetire_begins hd hm hl hc, fun hc => lcRetire_refused hd hm hc⟩⟩
  · exact ⟨fun hop hops => lcCommand_writes hlive hi hav hx hxi hxw hy (congrArg BitVec.toNat hop) hops rfl,
      fun hop => lcCommand_writes hlive hi hav hx hxi hxw hy (congrArg BitVec.toNat hop) rfl rfl,
      fun hop => lcCommand_writes hlive hi hav hx hxi hxw hy (congrArg BitVec.toNat hop) rfl rfl,
      fun hop hops => lcCommand_writes hlive hi hav hx hxi hxw hy (congrArg BitVec.toNat hop) hops rfl,
      fun hop => lcCommand_writes hlive hi hav hx hxi hxw hy (congrArg BitVec.toNat hop) rfl rfl,
      fun hop hops => lcCommand_writes hlive hi hav hx hxi hxw hy (congrArg BitVec.toNat hop) hops rfl⟩

end Sys2Proof.Machine

/-! Keys, signers, firmware updates and restarts (R367, R368, R413, R434, R443). -/

namespace Sys2Proof.Machine

/-! ### The mailboxes' availability -/

@[simp] theorem addReady_avail (s : State) (p f : Nat) (r : Ready) : (s.addReady p f r).host.avail = s.host.avail := by
  unfold State.addReady
  split
  · dsimp only
    split <;> rfl
  · rfl

theorem readyAborts_avail (as : List Issuer) : ∀ s : State, (s.readyAborts as).host.avail = s.host.avail := by
  induction as with
  | nil => exact fun _ => rfl
  | cons a as ih => exact fun s => (ih _).trans (addReady_avail s _ _ _)

@[simp] theorem setHslot_avail (s : State) (p f n : Nat) (v : HSlot) : (s.setHslot p f n v).host.avail = s.host.avail := by
  unfold State.setHslot
  split <;> rfl

@[simp] theorem freeSlot_avail (s : State) (p f : Nat) (r : Ready) (d : Bool) : (s.freeSlot p f r d).host.avail = s.host.avail := by
  unfold State.freeSlot
  split
  · rfl
  · exact (readyAborts_avail _ _).trans (setHslot_avail s _ _ _ _)

@[simp] theorem post_avail (s : State) (p f : Nat) (r : Ready) : (s.post p f r).host.avail = s.host.avail := by
  unfold State.post State.ownerWrites
  dsimp only
  split
  · split
    · split <;> simp
    · simp
  · simp

/-- A completion leaves the mailboxes as available as they are. -/
theorem complete_avail (s : State) (i : Issuer) (st r : Nat) : (s.complete i st r).host.avail = s.host.avail := by
  by_cases hr : (!i.owner && (s.func i.p i.f).rstp) = true
  · have h : s.complete i st r = (s.unrun i).endRstp i.p i.f := if_pos hr
    rw [h, State.endRstp]
    split <;> rfl
  · rw [complete_post st r (Bool.eq_false_iff.mpr hr), post_avail]
    rfl

/-! ### Keys and signers -/

section
variable {s : State} {i : Issuer}

theorem fleetKey_refused {off len : Reg} (hd : s.due i 0x0B06 [(12, 4, off.toNat), (16, 4, len.toNat)] = true)
    (hk : Config.unwrap ((s.key 4).getD []) (s.staged off.toNat len.toNat) = none) : Answers (.fleetKey i off len) s i stBAD_OPERAND 0 s := by
  have hk : Config.unwrap (((s.runsNow i 0x0B06).key 4).getD []) ((s.runsNow i 0x0B06).staged off.toNat len.toNat) = none := hk
  refine answers_plain (body := (·.fwFleetKey i off.toNat len.toNat)) rfl hd ?_
  rw [State.fwFleetKey, hk]
  exact judge_refuses (if_pos (Bool.or_true _))

/-- The part with its fleet key set, in DEBUG the debug one (R368). -/
def State.fleetSet (s : State) (k : List Byte) : State :=
  ({ s with sec := if s.sec.lcs = .debug then { s.sec with debugFleet := some k } else { s.sec with fleet := some k } } : State).setKey 5 (some k)

/-- Outside a transition to RETIRED the fleet key is kept in slot 5, but in RETIRED. -/
theorem fleetSet_eq {s : State} (k : List Byte) (ht : s.sec.trans = none) : s.fleetSet k =
    { s with sec := { (if s.sec.lcs = .debug then { s.sec with debugFleet := some k } else { s.sec with fleet := some k }) with
      keys := if s.sec.lcs = .retired then s.sec.keys else sput none s.sec.keys 5 (some k) } } := by
  by_cases hdb : s.sec.lcs = .debug
  · simp [State.fleetSet, State.setKey, State.keyless, hdb, ht]
  · simp [State.fleetSet, State.setKey, State.keyless, hdb, ht]

theorem fleetKey_answers {off len : Reg} {k : List Byte} (hd : s.due i 0x0B06 [(12, 4, off.toNat), (16, 4, len.toNat)] = true)
    (hst : off.toNat + len.toNat ≤ 0x400000) (hk : Config.unwrap ((s.key 4).getD []) (s.staged off.toNat len.toNat) = some k) :
    Answers (.fleetKey i off len) s i stOK 0
      { s with sec := { (if s.sec.lcs = .debug then { s.sec with debugFleet := some k } else { s.sec with fleet := some k }) with
        keys := if s.sec.lcs = .retired then s.sec.keys else sput none s.sec.keys 5 (some k) } } := by
  have hk : Config.unwrap (((s.runsNow i 0x0B06).key 4).getD []) ((s.runsNow i 0x0B06).staged off.toNat len.toNat) = some k := hk
  have ht : (s.runsNow i 0x0B06).sec.trans = none := due_untransited (s := s) hd (by simp [statusOp])
  have hrun : (s.runsNow i 0x0B06).fwFleetKey i off.toNat len.toNat = (s.runsNow i 0x0B06).judge i
      [(!stageOk off.toNat len.toNat || false, stBAD_OPERAND)] fun u => (u.fleetSet k).ok i := by
    rw [State.fwFleetKey, hk]
    rfl
  refine answers_ok (body := (·.fwFleetKey i off.toNat len.toNat)) (·.fleetSet k) rfl hd hrun
    (firstFail_pass (Bool.or_eq_false_iff.mpr ⟨unstaged hst, rfl⟩) firstFail_nil) rfl ?_
  rw [fleetSet_eq k ht]
  rfl

theorem ownerSigner_answers {off len : Reg} (hd : s.due i 0x0B07 [(12, 4, off.toNat), (16, 4, len.toNat)] = true)
    (hst : off.toNat + len.toNat ≤ 0x400000) (hk : keysOk (s.staged off.toNat len.toNat) = true)
    (hh : s.sec.ownerHash = some (Config.sha384 (s.staged off.toNat len.toNat))) :
    Answers (.ownerSigner i off len) s i stOK 0
      { s with sec := { s.sec with owner := { s.sec.owner with blob := some (s.staged off.toNat len.toNat) } } } := by
  refine answers_ok (body := (·.fwOwnerSigner i off.toNat len.toNat))
    (fun u => { u with sec := { u.sec with owner := { u.sec.owner with blob := some (s.staged off.toNat len.toNat) } } }) rfl hd rfl
    (firstFail_pass ?_ firstFail_nil) rfl rfl
  refine Bool.or_eq_false_iff.mpr ⟨Bool.or_eq_false_iff.mpr ⟨unstaged hst, (Bool.not_eq_false' ..).mpr hk⟩, decide_eq_false (not_not.mpr hh)⟩

theorem ownerSigner_refused {off len : Reg} (hd : s.due i 0x0B07 [(12, 4, off.toNat), (16, 4, len.toNat)] = true)
    (hh : s.sec.ownerHash ≠ some (Config.sha384 (s.staged off.toNat len.toNat))) : Answers (.ownerSigner i off len) s i stBAD_OPERAND 0 s := by
  refine answers_plain (body := (·.fwOwnerSigner i off.toNat len.toNat)) rfl hd ?_
  rw [State.fwOwnerSigner]
  exact judge_refuses (if_pos (Bool.or_eq_true_iff.mpr (.inr (decide_eq_true hh))))

theorem signerReg_answers {addr : BitVec 64} {len : Reg} {hash : BitVec 192} {blob : List Byte}
    (hd : s.due i 0x030A [(8, 8, addr.toNat), (16, 4, len.toNat), (20, 24, hash.toNat)] = true) (hlen : len = 2689)
    (hup : (s.port i.p).up = true) (hk : keysOk blob = true) (hh : leNat ((Config.sha384 blob).take 24) = hash.toNat)
    (hb : (s.ctx i.p).busy = false) : Answers (.signerReg i addr len hash (some blob)) s i stOK (leNat ((Config.sha384 blob).take 16))
      (s.setSigner i.p { s.signer i.p with blob := some blob }) := by
  have hl : len.toNat = 2689 := congrArg BitVec.toNat hlen
  have hres : resAt 0x08 (leNat ((Config.sha384 blob).take 16)) = leNat ((Config.sha384 blob).take 16) := by simp [resAt]
  refine answers_of_body (body := (·.fwSignerReg i addr.toNat len.toNat hash.toNat (some blob)))
    (e := ((s.runsNow i 0x030A).emit (.hostRead i.p addr.toNat len.toNat)).setSigner i.p { s.signer i.p with blob := some blob }) rfl hd ?_ rfl rfl
  rw [State.fwSignerReg]
  have hgot : (if ((s.runsNow i 0x030A).port i.p).up = true then some blob else none) = some blob := if_pos hup
  rw [hgot, hl, ← hh, Option.getD_some, hk, hres]
  refine (judge_pass (firstFail_pass ?_ (firstFail_pass ?_ firstFail_nil))).trans rfl
  · simp
  · exact hb

theorem svnRaise_owner {svn : Reg} (hd : s.due i 0x030B [(8, 4, svn.toNat)] = true) (hi : i.owner = true) (hle : s.sec.owner.svn ≤ svn.toNat) :
    Answers (.svnRaise i svn) s i stOK 0 { s with sec := { s.sec with owner := { s.sec.owner with svn := svn.toNat } } } := by
  refine answers_of_body (body := (·.fwSvnRaise i svn.toNat))
    (e := { s.runsNow i 0x030B with sec := { s.sec with owner := { s.sec.owner with svn := svn.toNat } } }) rfl hd ?_ rfl rfl
  rw [State.fwSvnRaise, if_pos hi]
  exact (judge_pass (firstFail_pass (decide_eq_false (Nat.not_lt.mpr hle)) firstFail_nil)).trans (congrArg (State.ok · i) (if_pos hi))

theorem svnRaise_tenant {svn : Reg} (hd : s.due i 0x030B [(8, 4, svn.toNat)] = true) (hi : i.owner = false) (hle : (s.signer i.p).svn ≤ svn.toNat) :
    Answers (.svnRaise i svn) s i stOK 0 (s.setSigner i.p { s.signer i.p with svn := svn.toNat }) := by
  have hi : ¬ i.owner = true := Bool.eq_false_iff.mp hi
  refine answers_of_body (body := (·.fwSvnRaise i svn.toNat))
    (e := (s.runsNow i 0x030B).setSigner i.p { s.signer i.p with svn := svn.toNat }) rfl hd ?_ rfl rfl
  rw [State.fwSvnRaise, if_neg hi]
  exact (judge_pass (firstFail_pass (decide_eq_false (Nat.not_lt.mpr hle)) firstFail_nil)).trans (congrArg (State.ok · i) (if_neg hi))

theorem svnRaise_refused {svn : Reg} (hd : s.due i 0x030B [(8, 4, svn.toNat)] = true) (hi : i.owner = false) (hlt : svn.toNat < (s.signer i.p).svn) :
    Answers (.svnRaise i svn) s i stBAD_OPERAND 0 s := by
  refine answers_plain (body := (·.fwSvnRaise i svn.toNat)) rfl hd ?_
  rw [State.fwSvnRaise, if_neg (Bool.eq_false_iff.mp hi)]
  exact judge_refuses (if_pos (decide_eq_true hlt))

/-! ### Firmware updates and restarts -/

/-- An image of at most 3 MiB lies in the stage buffer. -/
theorem inStage {off len : Nat} (hst : off + len ≤ 0x400000) (hlen : len ≤ 0x300000) : (stageOk off len && decide (len ≤ 0x300000)) = true := by
  rw [stageOk, decide_eq_true hst, decide_eq_true hlen]
  rfl

/-- What an event-log entry leaves of the reliability state: all but the log and its counts. -/
def Rel.unlogged (r : Rel) : Rel := { r with log := [], second := 0, secondAt := 0, suppressed := 0 }

/-- An event-log entry changes only the log and its counts (R480). -/
theorem log_eq (s : State) (code data : Nat) : ∃ r, s.log code data = { s with rel := r } ∧ r.unlogged = s.rel.unlogged := by
  obtain ⟨q, hq, hu⟩ : ∃ r, s.rollLog = { s with rel := r } ∧ r.unlogged = s.rel.unlogged := by
    unfold State.rollLog
    dsimp only
    split
    · exact ⟨_, rfl, rfl⟩
    · exact ⟨_, rfl, rfl⟩
  unfold State.log
  rw [hq]
  dsimp only
  split
  · exact ⟨_, rfl, hu⟩
  · exact ⟨_, rfl, hu⟩

/-- A restart of Scaeth makes the mailboxes unavailable and wipes the stage buffer (R379, R413, R425). -/
theorem scaethRestart_eq (s : State) (cause : Nat) : ∃ r, s.scaethRestart cause = { s with host := { s.host with avail := false }, rel := r } ∧
    r.unlogged = { s.rel.unlogged with stage := [] } := log_eq _ _ _

/-- Alias2 is a key and its certificate. -/
theorem setAlias2_eq (s : State) : ∃ x, s.setAlias2 = { s with sec := x } := ⟨_, by simp only [State.setAlias2, State.setKey]; rfl⟩

/-- The state in which an update's image stands in the other slot, which is active (R443). -/
def State.updated (s : State) (i : Issuer) (img : List Byte) (svn ver op : Nat) : State :=
  { s.runsNow i op with rel := { s.rel with
    fwVer := sput 0 s.rel.fwVer (b2n (!s.rel.slot)) ver, fwSvn := sput none s.rel.fwSvn (b2n (!s.rel.slot)) (some svn)
    fwHash := sput none s.rel.fwHash (b2n (!s.rel.slot)) (some (Config.sha384 img)), slot := !s.rel.slot, update := some (i, s.now) } }

/-- An update's restart leaves its command running, the mailboxes unavailable and the stage buffer empty. -/
theorem restart_leaves {u : State} {i : Issuer} {x : Running} (hx : u.record i = some x) (cause : Nat) :
    let t := ((u.begin i).scaethRestart cause).setAlias2
    t.host.avail = false ∧ t.rel.unlogged = { u.rel.unlogged with stage := [] } ∧ ∃ x, t.record i = some x ∧ x.began = true := by
  obtain ⟨q, hq, hrel⟩ := scaethRestart_eq (u.begin i) cause
  obtain ⟨y, hy⟩ := setAlias2_eq ((u.begin i).scaethRestart cause)
  dsimp only
  rw [hy, hq]
  exact ⟨rfl, hrel, _, begin_record hx, rfl⟩

theorem fwUpdate_unsigned {off len : Reg} (hd : s.due i 0x0A01 [(12, 4, off.toNat), (16, 4, len.toNat)] = true)
    (hst : off.toNat + len.toNat ≤ 0x400000) (hlen : len.toNat ≤ 0x300000) (hk : Config.fwCheck (s.staged off.toNat len.toNat) = none) :
    Answers (.fwUpdate i off len) s i stBAD_SIGNATURE 0 s := by
  refine answers_plain (body := (·.fwFwUpdate i off.toNat len.toNat)) rfl hd ?_
  rw [State.fwFwUpdate, if_pos (inStage hst hlen), show Config.fwCheck ((s.runsNow i 0x0A01).staged off.toNat len.toNat) = none from hk]

theorem fwUpdate_rollback {off len : Reg} {svn ver : Nat} (hd : s.due i 0x0A01 [(12, 4, off.toNat), (16, 4, len.toNat)] = true)
    (hst : off.toNat + len.toNat ≤ 0x400000) (hlen : len.toNat ≤ 0x300000)
    (hk : Config.fwCheck (s.staged off.toNat len.toNat) = some (svn, ver)) (hlt : svn < Config.fwSvnMin) :
    Answers (.fwUpdate i off len) s i stROLLBACK 0 s := by
  refine answers_plain (body := (·.fwFwUpdate i off.toNat len.toNat)) rfl hd ?_
  rw [State.fwFwUpdate, if_pos (inStage hst hlen), show Config.fwCheck ((s.runsNow i 0x0A01).staged off.toNat len.toNat) = some (svn, ver) from hk]
  refine judge_refuses ?_
  rw [firstFail_cons, Bool.or_eq_false_iff.mpr ⟨unstaged hst, decide_eq_false (Nat.not_lt.mpr hlen)⟩, firstFail_cons, decide_eq_true hlt]
  rfl

/-- An update that is taken has switched slots and restarts Scaeth. -/
theorem fwUpdate_restarts {off len : Reg} {svn ver : Nat} (hd : s.due i 0x0A01 [(12, 4, off.toNat), (16, 4, len.toNat)] = true)
    (hst : off.toNat + len.toNat ≤ 0x400000) (hlen : len.toNat ≤ 0x300000)
    (hk : Config.fwCheck (s.staged off.toNat len.toNat) = some (svn, ver)) (hle : Config.fwSvnMin ≤ svn) :
    ∃ t, exec (.fwUpdate i off len) s = .next t ∧
      t.rel.slot = !s.rel.slot ∧ t.rel.update = some (i, s.now) ∧ t.rel.stage = [] ∧ t.host.avail = false ∧
      sget 0 t.rel.fwVer (if s.rel.slot then 0 else 1) = ver ∧ ∃ x, t.record i = some x ∧ x.began = true := by
  obtain ⟨x, hx⟩ := due_record hd
  refine ⟨(s.runsNow i 0x0A01).fwFwUpdate i off.toNat len.toNat, ?_, ?_⟩
  · rw [exec_of_act (due_live hd) (f := (·.cFwUpdate i off len)) rfl, State.cFwUpdate, command_due hd]
  rw [State.fwFwUpdate, if_pos (inStage hst hlen), show Config.fwCheck ((s.runsNow i 0x0A01).staged off.toNat len.toNat) = some (svn, ver) from hk]
  have hpass : firstFail [(!stageOk off.toNat len.toNat || decide (0x300000 < len.toNat), stBAD_OPERAND), (decide (svn < Config.fwSvnMin), stROLLBACK)] = none :=
    firstFail_pass (Bool.or_eq_false_iff.mpr ⟨unstaged hst, decide_eq_false (Nat.not_lt.mpr hlen)⟩) (firstFail_pass (decide_eq_false (Nat.not_lt.mpr hle)) firstFail_nil)
  dsimp only
  rw [judge_pass hpass]
  obtain ⟨hav, hrel, hrec⟩ := restart_leaves (u := s.updated i (s.staged off.toNat len.toNat) svn ver 0x0A01) hx 2
  refine ⟨(congrArg Rel.slot hrel :), (congrArg Rel.update hrel :), (congrArg Rel.stage hrel :), hav, ?_, hrec⟩
  refine (congrArg (fun r => sget 0 r.fwVer (if s.rel.slot then 0 else 1)) hrel :).trans ?_
  have hslot : (if s.rel.slot then 0 else 1) = b2n !s.rel.slot := by
    cases s.rel.slot <;> rfl
  rw [hslot]
  exact sget_sput_same 0 s.rel.fwVer (b2n !s.rel.slot) ver

/-- An update whose mailboxes have not returned after 50 ms goes back to the old slot and ends with HW_FAULT. -/
theorem fwUpdateTimeout_fails {at_ : Nat} (hlive : s.live = true) (hu : s.rel.update = some (i, at_)) (hav : s.host.avail = false)
    (hle : at_ + 50000000 ≤ s.now) (hi : i.owner = true) :
    ∃ t, exec .fwUpdateTimeout s = .next t ∧ t.rel.slot = !s.rel.slot ∧ t.rel.update = none ∧
      t.answered i stHW_FAULT 0 = true ∧ t.record i = none := by
  obtain ⟨y, hy⟩ := setAlias2_eq { s with rel := { s.rel with slot := !s.rel.slot, update := none } }
  have hrun : exec .fwUpdateTimeout s =
      .next (({ s with rel := { s.rel with slot := !s.rel.slot, update := none } } : State).setAlias2.complete i stHW_FAULT 0) := by
    refine (exec_of_act hlive (f := fun s => match s.rel.update with
      | none => s
      | some (i, t) =>
        if s.host.avail || decide (s.now < t + 50000000) then s
        else (({ s with rel := { s.rel with slot := !s.rel.slot, update := none } } : State).setAlias2).complete i stHW_FAULT 0) rfl).trans ?_
    dsimp only
    rw [hu]
    refine congrArg _ (if_neg ?_)
    rw [hav, decide_eq_false (Nat.not_lt.mpr hle)]
    decide
  rw [hy] at hrun
  have hrel := congrArg State.rel (complete_upToHost ({ s with rel := { s.rel with slot := !s.rel.slot, update := none }, sec := y } : State) s i stHW_FAULT 0)
  obtain ⟨h1, h2⟩ := complete_answered ({ s with rel := { s.rel with slot := !s.rel.slot, update := none }, sec := y } : State) i stHW_FAULT 0
    (by rw [hi]; rfl)
  exact ⟨_, hrun, (congrArg Rel.slot hrel :), (congrArg Rel.update hrel :), h1, h2⟩

/-- The state in which the mailboxes have returned, but for what ends with them (R413, R443). -/
def State.returned (s : State) : State :=
  { s with host := { s.host with avail := true }, rel := { s.rel with update := none }
           sec := { s.sec with trans := match s.sec.trans with
                      | some t => if t.written then some t else none
                      | none => none } }

/-- When the mailboxes return, the command that waited ends: an update with OK, another with FW_RESTART. -/
theorem mailboxReturn_ends {x : Running} (hlive : s.live = true) (hav : s.host.avail = false) (hb : 2 ≤ s.sys.bring) (hc : s.sys.change = none)
    (hrun : s.host.running = [x]) (hl : x.loading = false) (ho : x.iss.owner = true) :
    ∃ t, exec .mailboxReturn s = .next t ∧ t.host.avail = true ∧ t.rel.update = none ∧ t.record x.iss = none ∧
      t.answered x.iss (if (s.rel.update.map (·.1)) = some x.iss then stOK else stFW_RESTART) 0 = true := by
  have hx : exec .mailboxReturn s = .next s.mailboxReturn := by
    refine (exec_of_act hlive (f := fun s => if s.host.avail || decide (s.sys.bring < 2) then s else s.mailboxReturn) rfl).trans (congrArg _ (if_neg ?_))
    rw [hav, decide_eq_false (Nat.not_lt.mpr hb)]
    decide
  have hret : s.mailboxReturn = (s.returned).complete x.iss (if (s.rel.update.map (·.1)) = some x.iss then stOK else stFW_RESTART) 0 := by
    have hsys : ({ s.sys with change := none } : Sys) = s.sys := by rw [← hc]
    have hlist : s.host.running.filter (fun y => !y.loading) = [x] := by
      rw [hrun]
      simp [hl]
    rw [State.mailboxReturn, hc]
    dsimp only
    rw [hlist, hsys, List.foldl_cons, List.foldl_nil]
    refine congrArg (fun st => State.complete _ x.iss st 0) (if_congr ?_ rfl rfl)
    simp [eq_comm]
  obtain ⟨h1, h2⟩ := complete_answered s.returned x.iss (if (s.rel.update.map (·.1)) = some x.iss then stOK else stFW_RESTART) 0 (by rw [ho]; rfl)
  rw [← hret] at h1 h2
  refine ⟨_, hx, ?_, ?_, h2, h1⟩
  · rw [hret, complete_avail]
    rfl
  · rw [hret]
    exact congrArg (·.rel.update) (complete_upToHost s.returned s x.iss _ 0)

end

/-- Settles O27: each command behind its checks; an update by its slot and its restart. -/
theorem keysAndUpdates : Obligations.KeysAndUpdates := by
  refine ⟨fun s i off len svn addr hash blob => ⟨fun hd hst => ⟨fun k hk => fleetKey_answers hd hst hk, fun hk => fleetKey_refused hd hk⟩,
      fun hd hst => ⟨fun hk hh => ownerSigner_answers hd hst hk hh, fun hh => ownerSigner_refused hd hh⟩,
      fun hd hlen hup hk hh hb => signerReg_answers hd hlen hup hk hh hb,
      fun hd => ⟨fun hi hle => svnRaise_owner hd hi hle, fun hi hle => svnRaise_tenant hd hi hle, fun hi hlt => svnRaise_refused hd hi hlt⟩⟩, ?_⟩
  intro s i off len svn ver cause hlive
  refine ⟨fun hd hst hlen => ⟨fun hk => fwUpdate_unsigned hd hst hlen hk, fun hk hlt => fwUpdate_rollback hd hst hlen hk hlt,
      fun hk hle => fwUpdate_restarts hd hst hlen hk hle⟩, fun hav => ?_,
    fun at_ hu hav hle hi => fwUpdateTimeout_fails hlive hu hav hle hi,
    fun x hav hb hc hrun hl ho => mailboxReturn_ends hlive hav hb hc hrun hl ho⟩
  refine (exec_of_act hlive (f := fun s => if s.host.avail then s.scaethRestart (RestartCause.code cause) else s) rfl).trans
    (congrArg _ ((if_pos hav).trans ?_))
  cases cause <;> rfl

end Sys2Proof.Machine

/-! Creation, settings and eviction of tenants (R206, R365, R378, R379, R430, R433, R466). -/

namespace Sys2Proof.Machine

/-! ### The owner's commands, and effects on each index of a list -/

/-- A due command of the owner answers with its completion, whatever its effect does to the host ports. -/
theorem answers_of_owner {c : Instr} {s e : State} {i : Issuer} {op : Nat} {ops : List Opnd} {st r : Nat} {body : State → State}
    (hi : i.owner = true) (hx : exec c s = act s fun t => t.command i op ops c body) (hd : s.due i op ops = true)
    (hb : body (s.runsNow i op) = e.complete i st r) : Answers c s i st r (e.upToHost s) := by
  obtain ⟨h1, h2⟩ := complete_answered e i st r (by rw [hi]; rfl)
  exact ⟨_, by rw [exec_of_act (due_live hd) hx, command_due hd, hb], h1, h2, complete_upToHost e s i st r⟩

/-- An index outside the list keeps what the effects of others leave alone. -/
theorem forAll_other {α : Sort _} {get : State → Nat → α} {f : State → Nat → State} (hother : ∀ s m n, m ≠ n → get (f s m) n = get s n)
    (l : List Nat) {n : Nat} (h : n ∉ l) : ∀ s : State, get (forAll l f s) n = get s n := by
  induction l with
  | nil => exact fun _ => rfl
  | cons m l ih =>
    intro s
    have hm : m ≠ n := fun e => h (e ▸ List.mem_cons_self)
    exact (ih (fun hl => h (List.mem_cons_of_mem m hl)) (f s m)).trans (hother s m n hm)

/-- An index of a list without repetition has its effect once. -/
theorem forAll_once {α : Sort _} {get : State → Nat → α} {upd : Nat → α → α} {f : State → Nat → State}
    (hself : ∀ s n, get (f s n) n = upd n (get s n)) (hother : ∀ s m n, m ≠ n → get (f s m) n = get s n) (l : List Nat) (hl : l.Nodup) {n : Nat}
    (h : n ∈ l) : ∀ s : State, get (forAll l f s) n = upd n (get s n) := by
  induction l with
  | nil => exact absurd h List.not_mem_nil
  | cons m l ih =>
    intro s
    obtain ⟨hm, hl⟩ := List.nodup_cons.mp hl
    by_cases hn : n = m
    · subst hn
      exact (forAll_other hother l hm (f s n)).trans (hself s n)
    · exact (ih hl ((List.mem_cons.mp h).resolve_left hn) (f s m)).trans (congrArg (upd n) (hother s m n (Ne.symm hn)))

/-- What each effect keeps, all of them keep. -/
theorem forAll_keeps {P : State → Prop} {f : State → Nat → State} (h : ∀ s n, P s → P (f s n)) (l : List Nat) : ∀ s : State, P s → P (forAll l f s) := by
  induction l with
  | nil => exact fun _ hs => hs
  | cons m l ih => exact fun s hs => ih _ (h s m hs)

/-! ### Tenants -/

section
variable {s : State} {i : Issuer}

theorem tenantCreate_answers {ten : Byte} (hd : s.due i 0x0300 [(8, 1, ten.toNat)] = true) (hle : ten.toNat ≤ 3)
    (hp : s.portExists ten.toNat = true) (hf : s.tenant ten.toNat = false) : Answers (.tenantCreate i ten) s i stOK 0
      { s with sec := { s.sec with tenants := sput false s.sec.tenants ten.toNat true } } := by
  refine answers_ok (body := (·.fwTenantCreate i ten.toNat)) (fun u => { u with sec := { u.sec with tenants := sput false u.sec.tenants ten.toNat true } })
    rfl hd rfl (firstFail_pass (decide_eq_false (Nat.not_lt.mpr hle)) (firstFail_pass ?_ (firstFail_pass hf firstFail_nil))) rfl rfl
  exact (Bool.not_eq_false' ..).mpr hp

theorem regionInfo_answers {r item : Byte} {g : Region} (hi : i.owner = true) (hd : s.due i 0x0305 [(8, 1, r.toNat), (9, 1, item.toNat)] = true)
    (hlt : r.toNat < 64) (hg : s.region r.toNat = some g) (hitem : item.toNat ≤ 1) :
    Answers (.regionInfo i r item) s i stOK (s.regionInfo r.toNat item.toNat) s := by
  refine answers_plain (body := (·.fwRegionInfo i r.toNat item.toNat)) rfl hd ?_
  rw [State.fwRegionInfo]
  exact (judge_pass (firstFail_pass (decide_eq_false (Nat.not_lt.mpr hitem)) (regionFails_pass (s := s.runsNow i 0x0305) hlt hg (.inl hi)))).trans rfl

theorem regionInfo_refused {r item : Byte} (hd : s.due i 0x0305 [(8, 1, r.toNat), (9, 1, item.toNat)] = true) (hitem : 1 < item.toNat) :
    Answers (.regionInfo i r item) s i stBAD_OPERAND 0 s := by
  refine answers_plain (body := (·.fwRegionInfo i r.toNat item.toNat)) rfl hd ?_
  rw [State.fwRegionInfo]
  exact judge_refuses (if_pos (decide_eq_true hitem))

/-- The placement of a region (R430). -/
theorem regionInfo_place {r : Nat} {g : Region} (hg : s.region r = some g) : s.regionInfo r 0 =
    g.x0 + g.y0 * 2 ^ 8 + g.w * 2 ^ 16 + g.h * 2 ^ 24 + g.units.length * 2 ^ 32 + g.tbase * 2 ^ 48 + g.tcount * 2 ^ 64
      + (s.breg r).quota * 2 ^ 80 + g.sbase * 2 ^ 96 + g.scount * 2 ^ 112 := by
  rw [State.regionInfo, hg]
  simp [resAt]

/-- The settings of a region (R430). -/
theorem regionInfo_settings {r : Nat} {g : Region} (hg : s.region r = some g) : s.regionInfo r 1 =
    g.ten + g.maxp * 2 ^ 8 + ((if g.patched then 1 else 0) + 2 * (if g.mirrored then 1 else 0)) * 2 ^ 16
      + bitsOf ((List.range 64).map (fun m => decide ((s.mover m).region = some r))) * 2 ^ 32 := by
  rw [State.regionInfo, hg]
  simp [resAt, b2n]

/-- A raised quota retries what is held (R433). -/
theorem setQuota_eq (r q : Nat) : s.setQuota r q = s.setBreg r { s.breg r with
    quota := q
    retry := if (s.breg r).quota < q ∧ ((s.breg r).held ≠ [] ∨ (s.breg r).qheld ≠ []) then
      some { since := s.now, events := heldOrder (s.breg r).held, tasks := (s.breg r).qheld } else (s.breg r).retry } := by
  rw [State.setQuota]
  by_cases hq : (s.breg r).quota < q
  · rw [if_pos hq, State.armRetry, breg_setBreg]
    dsimp only
    by_cases hh : (s.breg r).held = [] ∧ (s.breg r).qheld = []
    · rw [if_pos (by simp [hh]), if_neg (by simp [hh])]
    · rw [if_neg (by simpa using hh), if_pos ⟨hq, not_and_or.mp hh⟩, setBreg_setBreg]
      rfl
  · rw [if_neg hq, if_neg (fun h => hq h.1)]

theorem quotaSet_answers {r : Byte} {quota : BitVec 16} {g : Region} (hi : i.owner = true)
    (hd : s.due i 0x0307 [(8, 1, r.toNat), (10, 2, quota.toNat)] = true) (hlt : r.toNat < 64) (hg : s.region r.toNat = some g) :
    Answers (.quotaSet i r quota) s i stOK 0 (s.setQuota r.toNat quota.toNat) := by
  refine answers_ok (body := (·.fwQuotaSet i r.toNat quota.toNat)) (·.setQuota r.toNat quota.toNat) rfl hd rfl
    (regionFails_pass (s := s.runsNow i 0x0307) hlt hg (.inl hi)) ?_ ?_
  · rw [setQuota_eq]
    rfl
  · rw [setQuota_eq, setQuota_eq]
    rfl

/-! ### The maximum priority -/

/-- A change that pends at every router changes only the network. -/
theorem setPmap_frame (s : State) (r maxp : Nat) : s.setPmap r maxp = { s with noc := (s.setPmap r maxp).noc } := by
  rw [State.setPmap]
  exact forAll_noc (fun u n => by simp only [State.pendRouter, State.setRouter]) _ s

theorem setPmap_pend (s : State) (r maxp : Nat) {n : Nat} (h : n < 256) :
    ((s.setPmap r maxp).router n).pend = (s.router n).pend ++ [RtrChange.maxPrio r maxp] := by
  rw [State.setPmap]
  refine congrArg Router.pend (forAll_once (get := State.router) (upd := fun _ x => { x with pend := x.pend ++ [RtrChange.maxPrio r maxp] })
    (fun u n => router_setRouter u n _) (fun u m n hne => router_setRouter_ne u _ hne.symm) _ List.nodup_range (List.mem_range.mpr h) s)

/-- A region with another maximum priority, which every router gets at its next packet boundary (R272, R433). -/
def State.prioritised (s : State) (r : Nat) (g : Region) (maxp : Nat) : State := (s.setRegion r (some { g with maxp := maxp })).setPmap r maxp

theorem prioritised_frame (s : State) (r : Nat) (g : Region) (maxp : Nat) :
    s.prioritised r g maxp = { s.setRegion r (some { g with maxp := maxp }) with noc := (s.prioritised r g maxp).noc } := setPmap_frame _ _ _

theorem prioSet_answers {r maxp : Byte} {g : Region} (hi : i.owner = true)
    (hd : s.due i 0x0308 [(8, 1, r.toNat), (9, 1, maxp.toNat)] = true) (hlt : r.toNat < 64) (hg : s.region r.toNat = some g) (hm : maxp.toNat ≤ 3) :
    Answers (.prioSet i r maxp) s i stOK 0 (((s.runsNow i 0x0308).prioritised r.toNat g maxp.toNat).upToHost s) := by
  have hpass : firstFail ((s.runsNow i 0x0308).regionFails i r.toNat ++ [(decide (3 < maxp.toNat), stBAD_OPERAND)]) = none :=
    firstFail_append (regionFails_pass (s := s.runsNow i 0x0308) hlt hg (.inl hi)) (firstFail_pass (decide_eq_false (Nat.not_lt.mpr hm)) firstFail_nil)
  refine answers_of_owner (body := (·.fwPrioSet i r.toNat maxp.toNat)) hi rfl hd ?_
  rw [State.fwPrioSet]
  refine (judge_pass hpass).trans ?_
  rw [show (s.runsNow i 0x0308).region r.toNat = some g from hg]
  rfl

theorem prioSet_effect {r : Nat} {maxp : Nat} {g : Region} :
    let e := ((s.runsNow i 0x0308).prioritised r g maxp).upToHost s
    e.region r = some { g with maxp := maxp } ∧ (∀ k, k ≠ r → e.region k = s.region k) ∧ e.belay = s.belay ∧ e.cls = s.cls ∧ e.hbm = s.hbm ∧
      ∀ n, n < 256 → (e.router n).pend = (s.router n).pend ++ [RtrChange.maxPrio r maxp] := by
  have hpend := fun n h => setPmap_pend ((s.runsNow i 0x0308).setRegion r (some { g with maxp := maxp })) r maxp (n := n) h
  have hf := prioritised_frame (s.runsNow i 0x0308) r g maxp
  rw [State.prioritised] at hf ⊢
  generalize ((s.runsNow i 0x0308).setRegion r (some { g with maxp := maxp })).setPmap r maxp = u at hf hpend ⊢
  rw [hf]
  exact ⟨region_setRegion s r _, fun k hk => region_setRegion_ne s _ hk, rfl, rfl, rfl, hpend⟩

/-! ### The standby set -/

theorem noteIdle_frame (s old : State) : s.noteIdle old = { s with sys := (s.noteIdle old).sys } := by
  rw [State.noteIdle]
  exact forAll_sys (fun _ _ => rfl) _ s

/-- The clusters that a mask names (R466). -/
def maskClusters (mask : BitVec 256) : List Nat := (List.range 256).filter fun c => mask.getLsbD c

/-- The part with a standby set, its retired clusters dropped (R466). -/
def State.standing (s : State) (cs : List Nat) : State :=
  let l := cs.filter (fun c => !(s.smap c).retired)
  forAll (List.range 256) (fun u c => u.setSmap c { u.smap c with standby := l.contains c })
    (({ s with sec := { s.sec with standby := l } } : State).noteIdle s)

theorem standing_frame (s : State) (cs : List Nat) : s.standing cs = { s with
    sec := { s.sec with standby := cs.filter (fun c => !(s.smap c).retired) }, sys := (s.standing cs).sys, rel := (s.standing cs).rel } := by
  have h := forAll_rel (f := fun u c => u.setSmap c { u.smap c with standby := (cs.filter (fun c => !(s.smap c).retired)).contains c })
    (fun u c => by simp only [State.setSmap]) (List.range 256)
    (({ s with sec := { s.sec with standby := cs.filter (fun c => !(s.smap c).retired) } } : State).noteIdle s)
  rw [State.standing]
  dsimp only
  generalize forAll _ _ _ = u at h ⊢
  rw [noteIdle_frame] at h
  rw [h]

theorem standing_smap (s : State) (cs : List Nat) {c : Nat} (h : c < 256) :
    (s.standing cs).smap c = { s.smap c with standby := decide (c ∈ cs) && !(s.smap c).retired } := by
  have hmem : (cs.filter (fun c => !(s.smap c).retired)).contains c = (decide (c ∈ cs) && !(s.smap c).retired) := by
    simp [List.contains_eq_mem, List.mem_filter]
  rw [State.standing]
  refine (forAll_once (get := State.smap)
    (upd := fun n x => { x with standby := (cs.filter (fun c => !(s.smap c).retired)).contains n })
    (fun u n => smap_setSmap u n _) (fun u m n hne => smap_setSmap_ne u _ hne.symm) _ List.nodup_range (List.mem_range.mpr h) _).trans ?_
  rw [hmem, noteIdle_frame]
  rfl

theorem standbySet_answers {mask : BitVec 256} (hi : i.owner = true) (hd : s.due i 0x0309 [(8, 32, mask.toNat)] = true)
    (hlen : (maskClusters mask).length ≤ 16) (hfree : ∀ c ∈ maskClusters mask, s.regionOf c = none ∧ (∀ e ∈ s.noc.redirect, e.1 ≠ c ∧ e.2 ≠ c) ∧
      ∀ m ∈ s.rel.migq, m.cl ≠ c ∧ m.dst ≠ c) :
    Answers (.standbySet i mask) s i stOK 0 (((s.runsNow i 0x0309).standing (maskClusters mask)).upToHost s) := by
  have hmask : (List.range 256).filter (bit mask.toNat) = maskClusters mask := by
    rw [maskClusters]
    exact congrArg (List.filter · _) (funext fun c => bit_toNat mask c)
  refine answers_of_owner (body := (·.fwStandbySet i mask.toNat)) hi rfl hd ?_
  rw [State.fwStandbySet, hmask]
  refine (judge_pass (firstFail_pass (decide_eq_false (Nat.not_lt.mpr hlen)) (firstFail_pass ?_ firstFail_nil))).trans rfl
  refine List.any_eq_false.mpr fun c hc => ?_
  obtain ⟨hreg, hred, hmig⟩ := hfree c hc
  rw [show (s.runsNow i 0x0309).regionOf c = none from hreg]
  refine Bool.eq_false_iff.mp (Bool.or_eq_false_iff.mpr ⟨rfl, List.any_eq_false.mpr fun e he => ?_⟩)
  have hne : e.1 ≠ c ∧ e.2 ≠ c := by
    rcases List.mem_append.mp he with he | he
    · exact hred e he
    · obtain ⟨m, hm, rfl⟩ := List.mem_map.mp he
      exact hmig m hm
  exact Bool.eq_false_iff.mp (Bool.or_eq_false_iff.mpr ⟨decide_eq_false hne.1, decide_eq_false hne.2⟩)

theorem standing_leaves (s u : State) (cs : List Nat) :
    let e := (s.standing cs).upToHost u
    e.sec.standby = cs.filter (fun c => !(s.smap c).retired) ∧
      (∀ c, c < 256 → e.smap c = { s.smap c with standby := decide (c ∈ cs) && !(s.smap c).retired }) ∧
      e.cls = s.cls ∧ e.belay = s.belay ∧ e.hbm = s.hbm := by
  have hsm := fun c h => standing_smap s cs (c := c) h
  have hf := standing_frame s cs
  obtain ⟨v, hv⟩ : ∃ v, v = s.standing cs := ⟨_, rfl⟩
  rw [← hv] at hf hsm ⊢
  exact ⟨(congrArg (·.sec.standby) hf :), hsm, (congrArg State.cls hf :), (congrArg State.belay hf :), (congrArg State.hbm hf :)⟩

/-! ### Eviction -/

theorem tenantEvict_answers {ten : Byte} (hi : i.owner = true) (hd : s.due i 0x0301 [(8, 1, ten.toNat)] = true) (hle : ten.toNat ≤ 3)
    (ht : s.tenant ten.toNat = true) (hm : ∀ m ∈ s.rel.migq, s.regionOf m.cl = none) :
    Answers (.tenantEvict i ten) s i stOK 0
      ((((s.runsNow i 0x0301).release0 i fun x => (s.runsNow i 0x0301).namesTenant x ten.toNat).evict ten.toNat).upToHost s) := by
  refine answers_of_owner (body := (·.fwTenantEvict i ten.toNat (.tenantEvict i ten))) hi rfl hd ?_
  rw [State.fwTenantEvict]
  refine (judge_pass (firstFail_pass (decide_eq_false (Nat.not_lt.mpr hle)) (firstFail_pass ((Bool.not_eq_false' ..).mpr ht) firstFail_nil))).trans ?_
  exact afterMoves_unmet fun m h r _ hreg => absurd ((hm m h).symm.trans hreg) (Option.some_ne_none r).symm

/-- A key that is gone stays gone where another goes. -/
theorem setKey_none_keeps {s : State} {k n : Nat} (h : s.key k = none) : (s.setKey n none).key k = none := by
  by_cases hkn : k = n
  · rw [hkn, key_setKey]
    rfl
  · rw [key_setKey_ne s _ hkn, h]

/-- The end of a session takes its two keys with it. -/
theorem endSession_key (s : State) (p : Nat) : (s.endSession p).key (8 + p) = none ∧ (s.endSession p).key (12 + p) = none := by
  have hstay : ∀ k : Nat, (((s.noResponder p).setKey (8 + p) none).setKey (12 + p) none).key k = none → (s.endSession p).key k = none := by
    intro k h
    rw [endSession_eq]
    exact forAll_keeps (P := fun u => u.key k = none) (fun u m hu => setKey_none_keeps hu) _ _ h
  exact ⟨hstay _ (setKey_none_keeps (by rw [key_setKey]; rfl)), hstay _ (by rw [key_setKey]; rfl)⟩

/-- A tenant that has been evicted has left no signer, no session key and no session (R378). -/
theorem evict_leaves (s : State) (t : Nat) : (s.evict t).tenant t = false ∧ (s.evict t).signer t = {} ∧ (s.evict t).key (8 + t) = none ∧
    (s.evict t).key (12 + t) = none ∧ ((s.evict t).spdm t).session = none := by
  rw [State.evict]
  dsimp only
  generalize ((forAll ((List.range 64).filter (fun r => s.owns t (some r))) State.releaseRegion s).noteIdle s) = u
  obtain ⟨h1, h2⟩ := endSession_key u t
  have h3 := endSession_ends u t
  generalize u.endSession t = v at h1 h2 h3 ⊢
  exact ⟨sget_sput_same false v.sec.tenants t false, sget_sput_same ({} : Signer) v.sec.signers t {}, h1, h2, h3⟩

theorem evicted_leaves (s u : State) (t : Nat) :
    let x := (s.evict t).upToHost u
    x.tenant t = false ∧ x.signer t = {} ∧ x.key (8 + t) = none ∧ x.key (12 + t) = none ∧ (x.spdm t).session = none := by
  have h := evict_leaves s t
  generalize s.evict t = v at h ⊢
  exact h

end

/-- Settles O28: each command behind its checks, and what an eviction leaves. -/
theorem tenantCommands : Obligations.TenantCommands := by
  refine ⟨fun s i ten r item maxp quota mask g hi => ⟨fun hd hle hp hf => ⟨_, tenantCreate_answers hd hle hp hf, ?_, ?_, rfl⟩,
    fun hlt hg => ⟨fun hd => ⟨?_, ?_, fun hitem => regionInfo_refused hd hitem⟩, fun hd => ?_, fun hd hm => ?_⟩, fun hd hlen hfree => ?_⟩,
    fun s i ten hi hd hle ht hm => ?_⟩
  rotate_left 7
  · refine ⟨_, tenantEvict_answers hi hd hle ht hm, ?_⟩
    exact evicted_leaves _ s ten.toNat
  · exact sget_sput_same false s.sec.tenants ten.toNat true
  · exact fun t h => sget_sput_other false s.sec.tenants true h
  · rintro rfl
    exact regionInfo_place hg ▸ regionInfo_answers hi hd hlt hg (Nat.zero_le 1)
  · rintro rfl
    exact regionInfo_settings hg ▸ regionInfo_answers hi hd hlt hg (Nat.le_refl 1)
  · exact setQuota_eq r.toNat quota.toNat ▸ quotaSet_answers hi hd hlt hg
  · exact ⟨_, prioSet_answers hi hd hlt hg hm, prioSet_effect⟩
  · refine ⟨_, standbySet_answers hi hd hlen hfree, ?_⟩
    exact standing_leaves (s.runsNow i 0x0309) s (maskClusters mask)
end Sys2Proof.Machine

/-! What the operations of the memory controllers leave alone: all but the network and HBM, and in HBM the bytes and each PC's own state
(R264 to R268, R287, R293, R314, R315). -/

namespace Sys2Proof.Machine

/-- A PC but for what it holds of requests and their rows. -/
def Pc.still (p : Pc) : Pc := { p with queue := [], entering := [], opens := [], leaving := [], acts := [], bankFree := [], trace := [], lastReq := 0 }

/-- Whether a state differs from another one only in the network and in what the memory holds of requests. -/
def State.handles (s t : State) : Prop :=
  t = { s with noc := t.noc, hbm := t.hbm } ∧ t.hbm.mem = s.hbm.mem ∧ ∀ j, (t.pc j).still = (s.pc j).still

theorem handles_refl (s : State) : s.handles s := ⟨rfl, rfl, fun _ => rfl⟩

theorem State.handles.trans {s t u : State} (h : s.handles t) (k : t.handles u) : s.handles u := by
  obtain ⟨h1, h2, h3⟩ := h
  obtain ⟨k1, k2, k3⟩ := k
  refine ⟨?_, k2.trans h2, fun j => (k3 j).trans (h3 j)⟩
  rw [h1] at k1
  exact k1

theorem handles_noc (s : State) (n : Noc) : s.handles { s with noc := n } := ⟨rfl, rfl, fun _ => rfl⟩

/-- A PC's part that handles requests is replaced. -/
theorem setPc_handles {s : State} {i : Nat} {p : Pc} (h : p.still = (s.pc i).still) : s.handles (s.setPc i p) := by
  refine ⟨rfl, rfl, fun j => ?_⟩
  by_cases hj : j = i
  · rw [hj, pc_setPc, h]
  · rw [pc_setPc_ne s p hj]

theorem foldl_handles {α : Type} {f : State → α → State} (h : ∀ (s : State) a, s.handles (f s a)) (l : List α) : ∀ s : State, s.handles (l.foldl f s) := by
  induction l with
  | nil => exact handles_refl
  | cons a l ih => exact fun s => (h s a).trans (ih (f s a))

/-! ### Answers -/

theorem sendFrom_handles (s : State) (a b : End) (p : Packet) : s.handles (s.sendFrom a b p) := handles_noc s _

theorem portAnswered_handles (s : State) (r p : Nat) : s.handles (s.portAnswered r p) := handles_noc s _

theorem respond_handles (s : State) (h : Held) (st : Nat) (d : List Byte) : s.handles (s.respond h st d) := by
  unfold State.respond
  split
  · exact handles_refl s
  · exact (portAnswered_handles _ _ _).trans (sendFrom_handles _ _ _ _)

theorem answerOpen_handles (s : State) (r : Nat) (o : Open) (st : Nat) : s.handles (s.answerOpen r o st) := by
  cases o with
  | mem h => exact respond_handles s h st []
  | push x => exact (portAnswered_handles s r 0).trans (sendFrom_handles _ _ _ _)

theorem pendRouter_handles (s : State) (r : Nat) (c : RtrChange) : s.handles (s.pendRouter r c) := handles_noc s _

theorem setPcDead_handles (s : State) (i : Nat) (v : Bool) : s.handles (s.setPcDead i v) := pendRouter_handles s _ _

/-! ### Requests that end or move -/

theorem precharge_still (p : Pc) (fast : Bool) (a : Activation) : (p.precharge fast a).still = p.still := by
  unfold Pc.precharge Pc.note
  split <;> rfl

theorem foldl_precharge_still (fast : Bool) (l : List Activation) : ∀ p : Pc, (l.foldl (fun p a => p.precharge fast a) p).still = p.still := by
  induction l with
  | nil => exact fun _ => rfl
  | cons a l ih => exact fun p => (ih _).trans (precharge_still p fast a)

theorem without_handles (s : State) (i : Nat) (f : HReq → Bool) : s.handles (s.without i f) :=
  setPc_handles (foldl_precharge_still _ _ _)

theorem clearPc_handles (s : State) (i : Nat) : s.handles (s.clearPc i) := by
  unfold State.clearPc
  exact ((setPc_handles (by simp only [Pc.still])).trans (without_handles _ _ _)).trans (without_handles _ _ _)

theorem forget_handles (s : State) (i rid : Nat) : s.handles (s.forget i rid) := by
  unfold State.forget
  exact ((setPc_handles (by simp only [Pc.still])).trans (without_handles _ _ _)).trans (without_handles _ _ _)

theorem hbmDone_handles (s : State) (i rid : Nat) : s.handles (s.hbmDone i rid) := by
  unfold State.hbmDone
  dsimp only
  split
  · exact handles_refl s
  · split
    · exact setPc_handles (by simp only [Pc.still])
    · refine State.handles.trans (setPc_handles ?_) (respond_handles _ _ _ _)
      simp only [Pc.still]

theorem forward_handles (s : State) (i : Nat) (r : HReq) : s.handles (s.forward i r) := by
  unfold State.forward
  exact setPc_handles (by simp only [Pc.still])

theorem endCopies_handles (s : State) (i : Nat) : s.handles (s.endCopies i) := by
  unfold State.endCopies
  exact (without_handles _ _ _).trans (foldl_handles (fun s r => hbmDone_handles s _ _) _ _)

theorem handOver_handles (s : State) (i j : Nat) (role : Role) (f : HReq → Bool) : s.handles (s.handOver i j role f) := by
  unfold State.handOver
  exact (without_handles s i f).trans (setPc_handles (by simp only [Pc.still]))

theorem setPorts_handles (s : State) (m : SMap (List Held)) : s.handles { s with hbm := { s.hbm with ports := m } } := ⟨rfl, rfl, fun _ => rfl⟩

theorem dropPc_handles (s : State) (i st : Nat) : s.handles (s.dropPc i st) := by
  unfold State.dropPc
  exact ((foldl_handles (fun s o => answerOpen_handles s _ o st) _ s).trans (setPorts_handles _ _)).trans (clearPc_handles _ i)

end Sys2Proof.Machine

/-! The memory commands and the statistics (R277, R285, R305 to R308, R314, R426, R440 to R442). -/

namespace Sys2Proof.Machine

section
variable {s : State} {i : Issuer}

/-! ### The order of a stack -/

theorem hbmOrder_answers {stack order : Byte} (hd : s.due i 0x0700 [(8, 1, stack.toNat), (9, 1, order.toNat)] = true) (hm : stack.toNat ≤ 3)
    (ho : order.toNat ≤ 3) (hfree : ∀ j, j < 256 → sget none s.sec.units (288 * stack.toNat + j) = none)
    (hmir : ∀ q ∈ s.sec.mirrorPcs, q / 32 ≠ stack.toNat) :
    Answers (.hbmOrder i stack order) s i stOK 0 (s.setStack stack.toNat { s.stack stack.toNat with order := order.setWidth 2 }) := by
  have hunused : ((List.range 256).any (fun j => (sget none s.sec.units (288 * stack.toNat + j)).isSome)
      || s.sec.mirrorPcs.any fun p => decide (p / 32 = stack.toNat)) = false := by
    refine Bool.or_eq_false_iff.mpr ⟨List.any_eq_false.mpr fun j hj => ?_, List.any_eq_false.mpr fun q hq => ?_⟩
    · rw [hfree j (List.mem_range.mp hj)]
      decide
    · rw [decide_eq_false (hmir q hq)]
      decide
  rw [← BitVec.ofNat_toNat]
  refine answers_ok (body := (·.fwHbmOrder i stack.toNat order.toNat))
    (fun u => u.setStack stack.toNat { u.stack stack.toNat with order := BitVec.ofNat 2 order.toNat }) rfl hd rfl
    (firstFail_pass ?_ (firstFail_pass hunused firstFail_nil)) rfl rfl
  exact Bool.or_eq_false_iff.mpr ⟨decide_eq_false (Nat.not_lt.mpr hm), decide_eq_false (Nat.not_lt.mpr ho)⟩

/-! ### PCs -/

/-- The PC that a command names. -/
theorem pcIdx_named {pc : PcOp} (hs : pc.stack.toNat ≤ 3) (hc : pc.chan.toNat ≤ 15) (hp : pc.pc.toNat ≤ 1) : pcBad pc = false := by
  rw [pcBad, decide_eq_false (Nat.not_lt.mpr hs), decide_eq_false (Nat.not_lt.mpr hc), decide_eq_false (Nat.not_lt.mpr hp)]
  rfl

/-- A PC with one repair of a kind less (R306, R440). -/
def Pc.repaired (p : Pc) (hard : Nat) : Pc :=
  if hard = 1 then { p with hard := p.hard - 1, hardUsed := p.hardUsed + 1 } else { p with soft := p.soft - 1, softUsed := p.softUsed + 1 }

/-- The state in which a repair has been made, but for the PC's return to service (R306). -/
def State.burstCleared (s : State) (n : Nat) : State :=
  if (s.pc n).fue then s.hbmWrite ((s.pc n).faddr / 32 * 32) (List.replicate 32 0) else s

theorem burstCleared_pc (n k : Nat) : (s.burstCleared n).pc k = s.pc k := by
  rw [State.burstCleared]
  split
  · simp only [State.hbmWrite, State.pc]
  · rfl

/-- The checks of a PC_REPAIR that may be made. -/
theorem pcRepair_passes {n : Nat} {hard : Nat} (hst : (s.pc n).st = .frozen ∨ (s.pc n).st = .degraded) (hh : hard ≤ 1)
    (h1 : hard = 1 → (s.pc n).hard ≠ 0) (h0 : hard = 0 → (s.pc n).soft ≠ 0) (l : List (Bool × Nat)) :
    firstFail ((false || decide (1 < hard), stBAD_OPERAND) :: (decide ((s.pc n).st ≠ .frozen) && decide ((s.pc n).st ≠ .degraded), stBAD_STATE) ::
      (decide ((if hard = 1 then (s.pc n).hard else (s.pc n).soft) = 0), stNO_RESOURCE) :: l) = firstFail l := by
  have hbad : (decide ((s.pc n).st ≠ .frozen) && decide ((s.pc n).st ≠ .degraded)) = false := by
    rcases hst with h | h <;> rw [h] <;> rfl
  have hleft : decide ((if hard = 1 then (s.pc n).hard else (s.pc n).soft) = 0) = false := by
    refine decide_eq_false ?_
    by_cases h : hard = 1
    · rw [if_pos h]
      exact h1 h
    · rw [if_neg h]
      exact h0 (by omega)
  rw [firstFail_cons, firstFail_cons, firstFail_cons, hbad, hleft, decide_eq_false (Nat.not_lt.mpr hh)]
  rfl

theorem pcRepair_fails {pc : PcOp} {hard : Byte} (hd : s.due i 0x0701 (pcOpnds pc ++ [(11, 1, hard.toNat)]) = true) (hbad : pcBad pc = false)
    (hh : hard.toNat ≤ 1) (h1 : hard.toNat = 1 → (s.pc (pcIdx pc)).hard ≠ 0) (h0 : hard.toNat = 0 → (s.pc (pcIdx pc)).soft ≠ 0)
    (hst : (s.pc (pcIdx pc)).st = .frozen ∨ (s.pc (pcIdx pc)).st = .degraded) : Answers (.pcRepair i pc hard false) s i stHW_FAULT 0 s := by
  refine answers_plain (body := (·.fwPcRepair i (pcIdx pc) (pcBad pc) hard.toNat false)) rfl hd ?_
  rw [State.fwPcRepair, hbad]
  exact judge_refuses (pcRepair_passes (s := s.runsNow i 0x0701) hst hh h1 h0 _)

/-- A repair that succeeds (R306, R440). -/
theorem pcRepair_answers {pc : PcOp} {hard : Byte} (hi : i.owner = true) (hd : s.due i 0x0701 (pcOpnds pc ++ [(11, 1, hard.toNat)]) = true)
    (hbad : pcBad pc = false) (hh : hard.toNat ≤ 1) (h1 : hard.toNat = 1 → (s.pc (pcIdx pc)).hard ≠ 0)
    (h0 : hard.toNat = 0 → (s.pc (pcIdx pc)).soft ≠ 0) (hst : (s.pc (pcIdx pc)).st = .frozen ∨ (s.pc (pcIdx pc)).st = .degraded) :
    Answers (.pcRepair i pc hard true) s i stOK 0
      (((((((s.runsNow i 0x0701).burstCleared (pcIdx pc)).setPc (pcIdx pc) ((s.pc (pcIdx pc)).repaired hard.toNat)).resumePc
        (pcIdx pc)).setPcDead (pcIdx pc) false).log 0x31 (pcData (pcIdx pc) + hard.toNat)).upToHost s) := by
  refine answers_of_owner (body := (·.fwPcRepair i (pcIdx pc) (pcBad pc) hard.toNat true)) hi rfl hd ?_
  rw [State.fwPcRepair, hbad]
  refine (judge_pass (pcRepair_passes (s := s.runsNow i 0x0701) hst hh h1 h0 [(!true, stHW_FAULT)])).trans ?_
  have hset : (if hard.toNat = 1 then
        { ((s.runsNow i 0x0701).burstCleared (pcIdx pc)).pc (pcIdx pc) with
          hard := ((s.runsNow i 0x0701).pc (pcIdx pc)).hard - 1, hardUsed := ((s.runsNow i 0x0701).pc (pcIdx pc)).hardUsed + 1 }
      else { ((s.runsNow i 0x0701).burstCleared (pcIdx pc)).pc (pcIdx pc) with
          soft := ((s.runsNow i 0x0701).pc (pcIdx pc)).soft - 1, softUsed := ((s.runsNow i 0x0701).pc (pcIdx pc)).softUsed + 1 } : Pc)
      = (s.pc (pcIdx pc)).repaired hard.toNat := by
    rw [burstCleared_pc]
    rfl
  exact congrArg (fun p => (((((s.runsNow i 0x0701).burstCleared (pcIdx pc)).setPc (pcIdx pc) p).resumePc
        (pcIdx pc)).setPcDead (pcIdx pc) false |>.log 0x31 (pcData (pcIdx pc) + hard.toNat)).ok i) hset

/-- An event-log entry is the same whatever stands at the host ports. -/
theorem log_upToHost (s u : State) (code data : Nat) : (s.log code data).upToHost u = (s.upToHost u).log code data := by
  have hroll : s.rollLog.upToHost u = (s.upToHost u).rollLog := by
    unfold State.rollLog
    dsimp only
    split <;> rename_i h
    · exact (if_pos h).symm
    · exact (if_neg h).symm
  unfold State.log
  rw [← hroll]
  dsimp only
  split <;> rename_i h
  · exact (if_pos h).symm
  · exact (if_neg h).symm

theorem upToHost_pc (s u : State) (k : Nat) : (s.upToHost u).pc k = s.pc k := rfl

theorem setPcDead_pc (s : State) (n : Nat) (v : Bool) (k : Nat) : (s.setPcDead n v).pc k = s.pc k := rfl

theorem setPc_upToHost (s u : State) (n : Nat) (p : Pc) : (s.setPc n p).upToHost u = (s.upToHost u).setPc n p := by
  simp only [State.setPc, State.upToHost]

theorem setPcDead_upToHost (s u : State) (n : Nat) (v : Bool) : (s.setPcDead n v).upToHost u = (s.upToHost u).setPcDead n v := by
  simp only [State.setPcDead, State.pendRouter, State.setRouter, State.router, State.upToHost]

theorem burstCleared_upToHost (s u : State) (n : Nat) : (s.burstCleared n).upToHost u = (s.upToHost u).burstCleared n := by
  by_cases hf : (s.pc n).fue = true
  · rw [State.burstCleared, if_pos hf]
    refine Eq.trans ?_ (if_pos (show ((s.upToHost u).pc n).fue = true from hf)).symm
    simp only [State.hbmWrite, State.upToHost, State.pc]
  · rw [State.burstCleared, if_neg hf]
    exact (if_neg (show ¬ ((s.upToHost u).pc n).fue = true from hf)).symm

/-- A repaired PC in service (R306). -/
def Pc.served (p : Pc) (hard : Byte) : Pc := { p with
  st := .service, fue := false, capar := false, held := false
  hard := if hard = 1 then p.hard - 1 else p.hard, hardUsed := if hard = 1 then p.hardUsed + 1 else p.hardUsed
  soft := if hard = 1 then p.soft else p.soft - 1, softUsed := if hard = 1 then p.softUsed else p.softUsed + 1 }

theorem repaired_served (p : Pc) (hard : Byte) :
    { p.repaired hard.toNat with st := .service, fue := false, capar := false, held := false } = p.served hard := by
  have hn : hard.toNat = 1 ↔ hard = 1 := ⟨fun h => BitVec.eq_of_toNat_eq h, fun h => congrArg BitVec.toNat h⟩
  by_cases h : hard = 1
  · simp only [Pc.repaired, Pc.served, if_pos h, if_pos (hn.mpr h)]
  · simp only [Pc.repaired, Pc.served, if_neg h, if_neg (fun e => h (hn.mp e))]

theorem repaired_st (p : Pc) (hard : Nat) : (p.repaired hard).st = p.st := by
  rw [Pc.repaired]
  split <;> rfl

theorem resumePc_frozen {n : Nat} {p : Pc} (h : p.st = .frozen) :
    (s.setPc n p).resumePc n = s.setPc n { p with st := .service, fue := false, capar := false, held := false } := by
  rw [State.resumePc, pc_setPc]
  dsimp only
  rw [if_pos h, setPc_setPc, pc_setPc]

/-- The repair of a frozen PC (R306, R440). -/
theorem pcRepair_frozen {pc : PcOp} {hard : Byte} (hi : i.owner = true) (hd : s.due i 0x0701 (pcOpnds pc ++ [(11, 1, hard.toNat)]) = true)
    (hbad : pcBad pc = false) (hh : hard.toNat ≤ 1) (h1 : hard.toNat = 1 → (s.pc (pcIdx pc)).hard ≠ 0)
    (h0 : hard.toNat = 0 → (s.pc (pcIdx pc)).soft ≠ 0) (hst : (s.pc (pcIdx pc)).st = .frozen) :
    Answers (.pcRepair i pc hard true) s i stOK 0 ((((s.burstCleared (pcIdx pc)).setPc (pcIdx pc) ((s.pc (pcIdx pc)).served hard)).setPcDead
      (pcIdx pc) false).log 0x31 (pcData (pcIdx pc) + hard.toNat)) := by
  have h := pcRepair_answers hi hd hbad hh h1 h0 (.inl hst)
  rw [resumePc_frozen ((repaired_st _ _).trans hst), repaired_served, log_upToHost] at h
  rw [setPcDead_upToHost, setPc_upToHost, burstCleared_upToHost, runsNow_upToHost_self] at h
  exact h

/-! ### The repair of a mirrored pair's frozen PC -/

theorem foldl_pc {α : Type} {f : State → α → State} (h : ∀ (s : State) a k, (f s a).pc k = s.pc k) (l : List α) : ∀ (s : State) (k : Nat),
    (l.foldl f s).pc k = s.pc k := by
  induction l with
  | nil => exact fun _ _ => rfl
  | cons a l ih => exact fun s k => (ih (f s a) k).trans (h s a k)

theorem hbmWrite_pc (s : State) (a : Nat) (bs : List Byte) (k : Nat) : (s.hbmWrite a bs).pc k = s.pc k := by
  simp only [State.hbmWrite, State.pc]

theorem hbmErase_pc (s : State) (lo hi k : Nat) : (s.hbmErase lo hi).pc k = s.pc k := by
  simp only [State.hbmErase, State.pc]

/-- A copy moves bytes alone. -/
theorem copyPc_pc (s : State) (n k : Nat) : (s.copyPc n).pc k = s.pc k := by
  rw [State.copyPc]
  refine foldl_pc (fun u b j => ?_) _ s k
  exact (foldl_pc (fun v c => hbmWrite_pc v _ _) _ _ j).trans (hbmErase_pc u _ _ j)

theorem resync_still (s : State) (n k : Nat) : ((s.resync n).pc k).still = (s.pc k).still := by
  rw [State.resync]
  refine ((handOver_handles _ _ _ _ _).2.2 k).trans (congrArg Pc.still ((foldl_pc (fun u r j => ?_) _ _ k).trans (copyPc_pc s _ k)))
  split
  · split
    · exact foldl_pc (fun v b => hbmWrite_pc v _ _) _ _ j
    · rfl
  · rfl

theorem resync_st (s : State) (n k : Nat) : ((s.resync n).pc k).st = (s.pc k).st := by
  have h := congrArg Pc.st (resync_still s n k)
  simpa only [Pc.still] using h

theorem resumePc_degraded {n : Nat} {p : Pc} (h : p.st = .degraded) : (((s.setPc n p).resumePc n).pc n).st = .service := by
  rw [State.resumePc, pc_setPc]
  dsimp only
  rw [if_neg (by rw [h]; decide), if_pos h, setPc_setPc, pc_setPc]
  rw [resync_st, pc_setPc]

/-- An event-log entry leaves each PC as it is. -/
theorem log_pc (s : State) (code data k : Nat) : (s.log code data).pc k = s.pc k := by
  obtain ⟨r, hr, -⟩ := log_eq s code data
  rw [hr]
  rfl

theorem pcRepair_degraded {pc : PcOp} {hard : Byte} (hi : i.owner = true) (hd : s.due i 0x0701 (pcOpnds pc ++ [(11, 1, hard.toNat)]) = true)
    (hbad : pcBad pc = false) (hh : hard.toNat ≤ 1) (h1 : hard.toNat = 1 → (s.pc (pcIdx pc)).hard ≠ 0)
    (h0 : hard.toNat = 0 → (s.pc (pcIdx pc)).soft ≠ 0) (hst : (s.pc (pcIdx pc)).st = .degraded) :
    ∃ x, Answers (.pcRepair i pc hard true) s i stOK 0 x ∧ (x.pc (pcIdx pc)).st = .service := by
  refine ⟨_, pcRepair_answers hi hd hbad hh h1 h0 (.inr hst), ?_⟩
  have h := resumePc_degraded (s := (s.runsNow i 0x0701).burstCleared (pcIdx pc)) (n := pcIdx pc) ((repaired_st _ hard.toNat).trans hst)
  rw [upToHost_pc, log_pc, setPcDead_pc]
  exact h

/-! ### Retirement -/

theorem precharge_opens (p : Pc) (fast : Bool) (a : Activation) : (p.precharge fast a).opens = p.opens := by
  unfold Pc.precharge Pc.note
  split <;> rfl

theorem foldl_precharge_opens (fast : Bool) (l : List Activation) : ∀ p : Pc, (l.foldl (fun p a => p.precharge fast a) p).opens = p.opens := by
  induction l with
  | nil => exact fun _ => rfl
  | cons a l ih => exact fun p => (ih _).trans (precharge_opens p fast a)

theorem without_opens (s : State) (n : Nat) (f : HReq → Bool) (k : Nat) : ((s.without n f).pc k).opens = (s.pc k).opens := by
  rw [State.without]
  by_cases hk : k = n
  · rw [hk, pc_setPc, foldl_precharge_opens]
  · rw [pc_setPc_ne _ _ hk]

/-- A PC whose requests are dropped holds none open. -/
theorem dropPc_opens (s : State) (n st : Nat) : ((s.dropPc n st).pc n).opens = [] := by
  rw [State.dropPc, State.clearPc]
  dsimp only
  rw [without_opens, without_opens, pc_setPc]

/-- The state in which a retiring PC has dropped its requests, and its pair's PC with it. -/
def State.dropsAll (s : State) (n : Nat) : State :=
  let t := s.endCopies n
  (if (t.pc n).mir && decide ((t.pc (pcPartner n)).st = .degraded) then ((t.stopPc (pcPartner n) .frozen).dropPc (pcPartner n) 4).setPcDead (pcPartner n) true
    else t).dropPc n 4

theorem retirePc_eq {n : Nat} (h : (s.pc n).st ≠ .retired) : s.retirePc n =
    (((s.dropsAll n).setPc n { (s.dropsAll n).pc n with st := .retired, sref := false }).setPcDead n true).log 0x32 (pcData n) := by
  rw [State.retirePc, if_neg h, State.dropsAll]

theorem dropsAll_opens (s : State) (n : Nat) : ((s.dropsAll n).pc n).opens = [] := dropPc_opens _ _ _

/-- A pending change stands last at its router. -/
theorem setPcDead_pend (s : State) (n : Nat) (v : Bool) : ((s.setPcDead n v).router (pcRouter n)).pend =
    (s.router (pcRouter n)).pend ++ [RtrChange.pcDead (n % 2) v] := by
  rw [State.setPcDead, State.pendRouter, router_setRouter]

theorem log_router (s : State) (code data k : Nat) : (s.log code data).router k = s.router k := by
  obtain ⟨r, hr, -⟩ := log_eq s code data
  rw [hr]
  rfl

theorem setPc_router (s : State) (n : Nat) (p : Pc) (k : Nat) : (s.setPc n p).router k = s.router k := rfl

theorem upToHost_router (s u : State) (k : Nat) : (s.upToHost u).router k = s.router k := rfl

theorem pcRetire_answers {pc : PcOp} (hi : i.owner = true) (hd : s.due i 0x0702 (pcOpnds pc) = true) (hbad : pcBad pc = false)
    (hst : (s.pc (pcIdx pc)).st ≠ .retired) : ∃ x l, Answers (.pcRetire i pc) s i stOK 0 x ∧ (x.pc (pcIdx pc)).st = .retired ∧
      (x.pc (pcIdx pc)).opens = [] ∧ (x.pc (pcIdx pc)).sref = false ∧
      (x.router (pcRouter (pcIdx pc))).pend = l ++ [RtrChange.pcDead (pcIdx pc % 2) true] := by
  have ha : Answers (.pcRetire i pc) s i stOK 0 (((s.runsNow i 0x0702).retirePc (pcIdx pc)).upToHost s) := by
    refine answers_of_owner (body := (·.fwPcRetire i (pcIdx pc) (pcBad pc))) hi rfl hd ?_
    rw [State.fwPcRetire, hbad]
    exact judge_pass (firstFail_pass rfl (firstFail_pass (decide_eq_false hst) firstFail_nil))
  rw [retirePc_eq (s := s.runsNow i 0x0702) hst] at ha
  refine ⟨_, ((s.runsNow i 0x0702).dropsAll (pcIdx pc)).router (pcRouter (pcIdx pc)) |>.pend, ha, ?_, ?_, ?_, ?_⟩
  · rw [upToHost_pc, log_pc, setPcDead_pc, pc_setPc]
  · rw [upToHost_pc, log_pc, setPcDead_pc, pc_setPc]
    simp only [dropsAll_opens]
  · rw [upToHost_pc, log_pc, setPcDead_pc, pc_setPc]
  · rw [upToHost_router, log_router, setPcDead_pend, setPc_router]

/-! ### Sweeps -/

/-- A PC as a sweep with these eyes leaves it (R308). -/
def State.sweptPc (s : State) (n : Nat) (lanes : Eyes) : Pc := { (s.trainWrite n).pc n with
  delays := (List.range 8).foldl (fun m k => sput 0 m k (Config.eyeCentre ((s.trainWrite n).entropy + k) % 64)) ((s.trainWrite n).pc n).delays
  stored := false, drift := false, weak := (List.range 4).filter (fun k => !(((eyesList lanes)[k]?).map eyeOk).getD true)
  wreye := leastEye ((eyesList lanes).map (·.write.toNat)), rdeye := leastEye ((eyesList lanes).map (·.read.toNat)) }

/-- The state after a sweep. -/
def State.swept (s : State) (n : Nat) (lanes : Eyes) : State :=
  { (s.trainWrite n).setPc n (s.sweptPc n lanes) with entropy := ((s.trainWrite n).setPc n (s.sweptPc n lanes)).entropy + 8 }

theorem sweepPc_eq (s : State) (n : Nat) (lanes : Eyes) : s.sweepPc n lanes = ((eyesList lanes).all eyeOk, s.swept n lanes) := by
  rw [State.sweepPc, State.swept, State.sweptPc]

theorem swept_pc (s : State) (n : Nat) (lanes : Eyes) : (s.swept n lanes).pc n = s.sweptPc n lanes := pc_setPc _ _ _

theorem sweptPc_st (s : State) (n : Nat) (lanes : Eyes) : (s.sweptPc n lanes).st = (s.pc n).st := by
  rw [State.sweptPc, State.trainWrite]
  dsimp only
  rw [pc_setPc, hbmErase_pc]

/-- The least of four eyes of 7 bits fits a byte. -/
theorem leastEye_toNat (a b c d : BitVec 7) : (leastEye [a.toNat, b.toNat, c.toNat, d.toNat]).toNat =
    min (min a.toNat b.toNat) (min c.toNat d.toNat) := by
  have ha := a.isLt
  rw [leastEye, BitVec.toNat_ofNat]
  simp only [List.foldl_cons, List.foldl_nil]
  omega

/-- The least eyes of a sweep as its completion carries them (R441). -/
def leastOf (lanes : Eyes) (f : Eye → BitVec 7) : Nat :=
  min (min (f lanes.lane0).toNat (f lanes.lane1).toNat) (min (f lanes.lane2).toNat (f lanes.lane3).toNat)

theorem eyesOk_iff (lanes : Eyes) : (eyesList lanes).all eyeOk = true ↔
    ∀ e ∈ [lanes.lane0, lanes.lane1, lanes.lane2, lanes.lane3], 12 ≤ e.write.toNat ∧ 12 ≤ e.read.toNat := by
  rw [List.all_eq_true, eyesList]
  simp only [eyeOk, Bool.and_eq_true, decide_eq_true_eq]

/-- The checks of a sweep of a PC that is free. -/
theorem pcResweep_runs {pc : PcOp} {lanes : Eyes} (hbad : pcBad pc = false) (ha : anchorPc (pcIdx pc) = false) (hu : s.pcUsed (pcIdx pc) = false)
    (hst : (s.pc (pcIdx pc)).st = .service) : s.fwPcResweep i (pcIdx pc) (pcBad pc) lanes =
      if (eyesList lanes).all eyeOk then
        ((s.swept (pcIdx pc) lanes).setPc (pcIdx pc) { s.sweptPc (pcIdx pc) lanes with barred := false }).complete i stOK
          (resAt 0x08 (s.sweptPc (pcIdx pc) lanes).rdeye.toNat + resAt 0x09 (s.sweptPc (pcIdx pc) lanes).wreye.toNat)
      else (((s.swept (pcIdx pc) lanes).leavePc (pcIdx pc)).setPc (pcIdx pc)
        { ((s.swept (pcIdx pc) lanes).leavePc (pcIdx pc)).pc (pcIdx pc) with barred := true }).complete i stHW_FAULT 0 := by
  have hsv : (s.sweptPc (pcIdx pc) lanes).st = .service := (sweptPc_st s _ lanes).trans hst
  rw [State.fwPcResweep, hbad, ha, hu]
  refine (judge_pass (firstFail_pass rfl (firstFail_pass rfl firstFail_nil))).trans ?_
  rw [sweepPc_eq]
  dsimp only
  rw [swept_pc, hsv]
  cases (eyesList lanes).all eyeOk with
  | true => simp
  | false => simp

theorem pcResweep_answers {pc : PcOp} {lanes : Eyes} (hi : i.owner = true) (hd : s.due i 0x0703 (pcOpnds pc) = true) (hbad : pcBad pc = false)
    (ha : anchorPc (pcIdx pc) = false) (hu : s.pcUsed (pcIdx pc) = false) (hst : (s.pc (pcIdx pc)).st = .service)
    (hok : (eyesList lanes).all eyeOk = true) :
    ∃ x, Answers (.pcResweep i pc lanes) s i stOK (leastOf lanes (·.read) + leastOf lanes (·.write) * 2 ^ 8) x ∧ (x.pc (pcIdx pc)).st = .service ∧
      (x.pc (pcIdx pc)).rdeye.toNat = leastOf lanes (·.read) ∧ (x.pc (pcIdx pc)).wreye.toNat = leastOf lanes (·.write) := by
  have hrd : ((s.runsNow i 0x0703).sweptPc (pcIdx pc) lanes).rdeye.toNat = leastOf lanes (·.read) := leastEye_toNat _ _ _ _
  have hwr : ((s.runsNow i 0x0703).sweptPc (pcIdx pc) lanes).wreye.toNat = leastOf lanes (·.write) := leastEye_toNat _ _ _ _
  have hres : resAt 0x08 (leastOf lanes (·.read)) + resAt 0x09 (leastOf lanes (·.write)) = leastOf lanes (·.read) + leastOf lanes (·.write) * 2 ^ 8 := by
    simp [resAt]
  have hrun := pcResweep_runs (s := s.runsNow i 0x0703) (i := i) (lanes := lanes) hbad ha hu hst
  rw [if_pos hok, hrd, hwr, hres] at hrun
  refine ⟨_, answers_of_owner (body := (·.fwPcResweep i (pcIdx pc) (pcBad pc) lanes)) hi rfl hd hrun, ?_, ?_, ?_⟩
  · rw [upToHost_pc, pc_setPc]
    simp only [sweptPc_st]
    exact hst
  · rw [upToHost_pc, pc_setPc]
    simp only [hrd]
  · rw [upToHost_pc, pc_setPc]
    simp only [hwr]

theorem pcResweep_fails {pc : PcOp} {lanes : Eyes} (hi : i.owner = true) (hd : s.due i 0x0703 (pcOpnds pc) = true) (hbad : pcBad pc = false)
    (ha : anchorPc (pcIdx pc) = false) (hu : s.pcUsed (pcIdx pc) = false) (hst : (s.pc (pcIdx pc)).st = .service)
    (hok : ¬ (eyesList lanes).all eyeOk = true) :
    ∃ x, Answers (.pcResweep i pc lanes) s i stHW_FAULT 0 x ∧ (x.pc (pcIdx pc)).st = .out ∧ (x.pc (pcIdx pc)).barred = true := by
  have hrun := pcResweep_runs (s := s.runsNow i 0x0703) (i := i) (lanes := lanes) hbad ha hu hst
  rw [if_neg hok] at hrun
  refine ⟨_, answers_of_owner (body := (·.fwPcResweep i (pcIdx pc) (pcBad pc) lanes)) hi rfl hd hrun, ?_, ?_⟩
  · rw [upToHost_pc, pc_setPc, State.leavePc, pc_setPc]
  · rw [upToHost_pc, pc_setPc]

/-! ### Mirroring -/

/-- Whether a region's PCs can be mirrored: whole PCs of its own whose partners are free (R314). -/
def State.mirrorable (s : State) (g : Region) : Prop :=
  ∀ q ∈ s.regionPcs g, s.pcWhole q = true ∧ (∀ u ∈ pcUnits q, u ∈ g.units) ∧ pcPartner q ∉ s.regionPcs g ∧
    ∀ u ∈ pcUnits (pcPartner q), s.unitFree u = true

/-- The PCs of a region with their copies made and their pairs marked (R314, R441). -/
def State.mirrors (s : State) (ps : List Nat) : State :=
  forAll ps (fun u p => (u.setPc p { u.pc p with mir := true, primary := true }).setPc (pcPartner p) { u.pc (pcPartner p) with mir := true })
    (forAll ps State.copyPc s)

/-- The check of a mirroring that begins on whole PCs with free partners. -/
theorem mirrorable_passes {g : Region} (h : s.mirrorable g) :
    (((s.regionPcs g).all fun p => s.pcWhole p && (pcUnits p).all fun u => g.units.contains u) &&
      (s.regionPcs g).all fun p => !(s.regionPcs g).contains (pcPartner p) && (pcUnits (pcPartner p)).all s.unitFree) = true := by
  simp only [Bool.and_eq_true, List.all_eq_true, Bool.not_eq_true', List.contains_iff_mem, ← Bool.not_eq_true]
  exact ⟨fun q hq => ⟨(h q hq).1, (h q hq).2.1⟩, fun q hq => (h q hq).2.2⟩

/-- The command behind its checks (R441). -/
theorem memMirror_runs {r en : Nat} {g : Region} (hi : i.owner = true) (hlt : r < 64) (hg : s.region r = some g) (hm : s.sys.mode = 3)
    (hen : en ≤ 1) (hfree : en = 1 → g.mirrored = false → s.mirrorable g) : s.fwMemMirror i r en =
      if decide (en = 1) = g.mirrored then s.ok i
      else if en = 1 then
        (({ s.mirrors (s.regionPcs g) with sec :=
            { (s.mirrors (s.regionPcs g)).sec with mirrorPcs := (s.mirrors (s.regionPcs g)).sec.mirrorPcs ++ (s.regionPcs g).map pcPartner } } :
            State).setRegion r (some { g with mirrored := true })).ok i
      else ((s.endMirror (s.regionPcs g)).setRegion r (some { g with mirrored := false })).ok i := by
  have hcon : (decide (en = 1) && !g.mirrored && !(((s.regionPcs g).all fun p => s.pcWhole p && (pcUnits p).all fun u => g.units.contains u) &&
      (s.regionPcs g).all fun p => !(s.regionPcs g).contains (pcPartner p) && (pcUnits (pcPartner p)).all s.unitFree)) = false := by
    by_cases hgo : en = 1 ∧ g.mirrored = false
    · rw [mirrorable_passes (hfree hgo.1 hgo.2)]
      exact Bool.and_false _
    · rw [not_and_or] at hgo
      rcases hgo with h | h
      · rw [decide_eq_false h]
        rfl
      · rw [Bool.not_eq_false] at h
        rw [h, Bool.not_true, Bool.and_false]
        rfl
  rw [State.fwMemMirror, hg]
  refine (judge_pass (firstFail_append (regionFails_pass hlt hg (.inl hi)) (firstFail_pass (decide_eq_false (Nat.not_lt.mpr hen))
    (firstFail_pass (decide_eq_false (not_not.mpr hm)) (firstFail_pass hcon firstFail_nil))))).trans ?_
  rfl

/-- Whether a PC and its partner are marked as a mirrored pair. -/
def State.pairAt (s : State) (q : Nat) : Prop := (s.pc q).mir = true ∧ (s.pc q).primary = true ∧ (s.pc (pcPartner q)).mir = true

theorem mirrors_pairAt (s : State) {ps : List Nat} {q : Nat} (h : q ∈ ps) : (s.mirrors ps).pairAt q := by
  have hmir : ∀ (u : State) (p k : Nat), (u.pc k).mir = true ∨ k = p ∨ k = pcPartner p →
      (((u.setPc p { u.pc p with mir := true, primary := true }).setPc (pcPartner p) { u.pc (pcPartner p) with mir := true }).pc k).mir = true := by
    intro u p k hk
    by_cases h1 : k = pcPartner p
    · rw [h1, pc_setPc]
    · rw [pc_setPc_ne _ _ h1]
      by_cases h2 : k = p
      · rw [h2, pc_setPc]
      · rw [pc_setPc_ne _ _ h2]
        exact hk.resolve_right (not_or.mpr ⟨h2, h1⟩)
  have hprim : ∀ (u : State) (p k : Nat), pcPartner p ≠ p → (u.pc k).primary = true ∨ k = p →
      (((u.setPc p { u.pc p with mir := true, primary := true }).setPc (pcPartner p) { u.pc (pcPartner p) with mir := true }).pc k).primary = true := by
    intro u p k hne hk
    by_cases h1 : k = pcPartner p
    · rw [h1, pc_setPc]
      exact h1 ▸ hk.resolve_right (fun e => hne (h1.symm.trans e))
    · rw [pc_setPc_ne _ _ h1]
      by_cases h2 : k = p
      · rw [h2, pc_setPc]
      · rw [pc_setPc_ne _ _ h2]
        exact hk.resolve_right h2
  have hne : ∀ p, pcPartner p ≠ p := by
    intro p
    unfold pcPartner
    split <;> omega
  rw [State.mirrors]
  exact forAll_mem (P := State.pairAt) (fun u p => ⟨hmir u p p (.inr (.inl rfl)), hprim u p p (hne p) (.inr rfl), hmir u p _ (.inr (.inr rfl))⟩)
    (fun u m n hn => ⟨hmir u m n (.inl hn.1), hprim u m n (hne m) (.inl hn.2.1), hmir u m _ (.inl hn.2.2)⟩) ps _ q h

/-- The state in which the mirroring of PCs has ended, but for the list of their partners. -/
def State.unmirrors (s : State) (ps : List Nat) : State :=
  let s := forAll (ps.map pcPartner) State.endCopies s
  let s := forAll (ps ++ ps.map pcPartner) (fun s p => if (s.pc p).st = .degraded then ((s.stopPc p .frozen).dropPc p 4).setPcDead p true else s) s
  let s := forAll ((ps.map pcPartner).flatMap pcUnits) (fun s u => s.hbmErase (u * unitBytes) ((u + 1) * unitBytes)) s
  forAll (ps ++ ps.map pcPartner) (fun s p => s.setPc p { s.pc p with mir := false, primary := false }) s

theorem endMirror_eq (s : State) (ps : List Nat) : s.endMirror ps = { s.unmirrors ps with sec :=
    { (s.unmirrors ps).sec with mirrorPcs := (s.unmirrors ps).sec.mirrorPcs.filter fun p => !(ps.map pcPartner).contains p } } := by
  rw [State.endMirror, State.unmirrors]

theorem unmirrors_mir (s : State) {ps : List Nat} {q : Nat} (h : q ∈ ps) : ((s.unmirrors ps).pc q).mir = false := by
  rw [State.unmirrors]
  refine forAll_mem (P := fun u k => (u.pc k).mir = false) (fun u p => ?_) (fun u m k hk => ?_) _ _ q (List.mem_append_left _ h)
  · rw [pc_setPc]
  · by_cases hkm : k = m
    · rw [hkm, pc_setPc]
    · rw [pc_setPc_ne _ _ hkm]
      exact hk

theorem memMirror_idle {r en : Byte} {g : Region} (hi : i.owner = true) (hd : s.due i 0x0704 [(8, 1, r.toNat), (9, 1, en.toNat)] = true)
    (hlt : r.toNat < 64) (hg : s.region r.toNat = some g) (hm : s.sys.mode = 3) (hen : en.toNat ≤ 1) (hsame : en = 1 ↔ g.mirrored = true) :
    Answers (.memMirror i r en) s i stOK 0 s := by
  have hn : en.toNat = 1 ↔ en = 1 := ⟨fun h => BitVec.eq_of_toNat_eq h, fun h => congrArg BitVec.toNat h⟩
  have hon : decide (en.toNat = 1) = g.mirrored := by
    rw [Bool.eq_iff_iff, decide_eq_true_iff]
    exact hn.trans hsame
  refine answers_plain (body := (·.fwMemMirror i r.toNat en.toNat)) rfl hd ?_
  rw [memMirror_runs (s := s.runsNow i 0x0704) hi hlt hg hm hen (fun h1 h2 => absurd (hsame.mp (hn.mp h1)) (by rw [h2]; decide)), if_pos hon]
  rfl

theorem memMirror_begins {r en : Byte} {g : Region} (hi : i.owner = true) (hd : s.due i 0x0704 [(8, 1, r.toNat), (9, 1, en.toNat)] = true)
    (hlt : r.toNat < 64) (hg : s.region r.toNat = some g) (hm : s.sys.mode = 3) (hen : en = 1) (hoff : g.mirrored = false) (hfree : s.mirrorable g) :
    ∃ x, Answers (.memMirror i r en) s i stOK 0 x ∧ x.region r.toNat = some { g with mirrored := true } ∧
      ∀ q ∈ s.regionPcs g, (x.pc q).mir = true ∧ (x.pc q).primary = true ∧ (x.pc (pcPartner q)).mir = true ∧ pcPartner q ∈ x.sec.mirrorPcs := by
  have hn : en.toNat = 1 := congrArg BitVec.toNat hen
  have hrun := memMirror_runs (s := s.runsNow i 0x0704) (en := en.toNat) hi hlt hg hm hn.le (fun _ _ => hfree)
  rw [if_neg (by rw [hn, hoff]; decide), if_pos hn] at hrun
  refine ⟨_, answers_of_owner (body := (·.fwMemMirror i r.toNat en.toNat)) hi rfl hd hrun, region_setRegion _ _ _, fun q hq => ?_⟩
  obtain ⟨h1, h2, h3⟩ := mirrors_pairAt (s.runsNow i 0x0704) (ps := (s.runsNow i 0x0704).regionPcs g) hq
  obtain ⟨v, hv⟩ : ∃ v, v = (s.runsNow i 0x0704).mirrors ((s.runsNow i 0x0704).regionPcs g) := ⟨_, rfl⟩
  rw [← hv] at h1 h2 h3 ⊢
  exact ⟨h1, h2, h3, List.mem_append_right _ (List.mem_map_of_mem hq)⟩

theorem memMirror_ends {r en : Byte} {g : Region} (hi : i.owner = true) (hd : s.due i 0x0704 [(8, 1, r.toNat), (9, 1, en.toNat)] = true)
    (hlt : r.toNat < 64) (hg : s.region r.toNat = some g) (hm : s.sys.mode = 3) (hen : en = 0) (hon : g.mirrored = true) :
    ∃ x, Answers (.memMirror i r en) s i stOK 0 x ∧ x.region r.toNat = some { g with mirrored := false } ∧
      ∀ q ∈ s.regionPcs g, (x.pc q).mir = false ∧ pcPartner q ∉ x.sec.mirrorPcs := by
  have hn : en.toNat = 0 := congrArg BitVec.toNat hen
  have hrun := memMirror_runs (s := s.runsNow i 0x0704) (en := en.toNat) hi hlt hg hm (by omega) (fun h1 _ => absurd h1 (by omega))
  rw [if_neg (by rw [hn, hon]; decide), if_neg (by omega), endMirror_eq] at hrun
  refine ⟨_, answers_of_owner (body := (·.fwMemMirror i r.toNat en.toNat)) hi rfl hd hrun, region_setRegion _ _ _, fun q hq => ?_⟩
  have h1 := unmirrors_mir (s.runsNow i 0x0704) (ps := (s.runsNow i 0x0704).regionPcs g) hq
  obtain ⟨v, hv⟩ : ∃ v, v = (s.runsNow i 0x0704).unmirrors ((s.runsNow i 0x0704).regionPcs g) := ⟨_, rfl⟩
  rw [← hv] at h1 ⊢
  refine ⟨h1, fun hmem => ?_⟩
  have hno := (List.mem_filter.mp hmem).2
  have hq : q ∈ (s.runsNow i 0x0704).regionPcs g := hq
  rw [List.contains_iff_mem.mpr (List.mem_map_of_mem hq)] at hno
  cases hno

/-! ### Statistics -/

theorem hbmStats_answers {pc : PcOp} (hi : i.owner = true) (hd : s.due i 0x0705 (pcOpnds pc) = true) (hbad : pcBad pc = false) :
    Answers (.hbmStats i pc) s i stOK (let p := s.pc (pcIdx pc)
      p.ce + p.ue * 2 ^ 16 + p.postp * 2 ^ 32 + p.runs * 2 ^ 48 + p.rdeye.toNat * 2 ^ 64 + p.wreye.toNat * 2 ^ 72 + p.st.code * 2 ^ 80
        + ((if p.stored then 1 else 0) + 2 * (if p.drift then 1 else 0)) * 2 ^ 88 + (16 * p.hard + p.soft) * 2 ^ 96)
      (s.setPc (pcIdx pc) { s.pc (pcIdx pc) with ce := 0, ue := 0, postp := 0, runs := 0 }) := by
  refine answers_of_body (body := (·.fwHbmStats i (pcIdx pc) (pcBad pc)))
    (e := (s.runsNow i 0x0705).setPc (pcIdx pc) { s.pc (pcIdx pc) with ce := 0, ue := 0, postp := 0, runs := 0 }) rfl hd ?_ rfl rfl
  rw [State.fwHbmStats, hbad, hi]
  refine (judge_pass (firstFail_pass rfl (firstFail_pass rfl firstFail_nil))).trans ?_
  rw [show (s.runsNow i 0x0705).pc (pcIdx pc) = s.pc (pcIdx pc) from rfl]
  simp [resAt, b2n]

/-- The owner names the hub's own initiators (R277). -/
theorem initMine_owner {n : Nat} (hi : i.owner = true) (hlo : 0x210 ≤ n) (hhi : n ≤ 0x214) : s.initMine i n = true := by
  rw [State.initMine, if_pos hi, decide_eq_true hlo, decide_eq_true hhi]
  rfl

/-- Four counters from one on that are cleared (R277). -/
def clearFour (m : SMap Nat) (k : Nat) : SMap Nat := sput 0 (sput 0 (sput 0 (sput 0 m k 0) (k + 1) 0) (k + 2) 0) (k + 3) 0

theorem sget_clearFour (m : SMap Nat) (k j : Nat) : sget 0 (clearFour m k) j = if k ≤ j ∧ j < k + 4 then 0 else sget 0 m j := by
  have hstep : ∀ (m : SMap Nat) (n : Nat), sget 0 (sput 0 m n 0) j = if j = n then 0 else sget 0 m j := by
    intro m n
    by_cases h : j = n
    · rw [if_pos h, h, sget_sput_same]
    · rw [if_neg h, sget_sput_other 0 m 0 h]
  rw [clearFour, hstep, hstep, hstep, hstep]
  split_ifs <;> omega

/-- What NOC_STATS returns of an initiator by item, and what it leaves of it. -/
def Init.statsOf (n : Init) (now id item : Nat) : Nat × Init :=
  let h := fun k => sget 0 n.hist k
  if item = 0 then (n.req + n.words * 2 ^ 32 + n.lmax * 2 ^ 64 + n.tocnt * 2 ^ 96 + n.nStuck now * 2 ^ 112, { n with req := 0, words := 0, lmax := 0, tocnt := 0 })
  else if item = 1 then (h 0 + h 1 * 2 ^ 32 + h 2 * 2 ^ 64 + h 3 * 2 ^ 96, { n with hist := clearFour n.hist 0 })
  else if item = 2 then (h 4 + h 5 * 2 ^ 32 + h 6 * 2 ^ 64 + h 7 * 2 ^ 96, { n with hist := clearFour n.hist 4 })
  else (n.late + n.stray * 2 ^ 16 + n.nFree (nTags id) * 2 ^ 32 + n.nBusy * 2 ^ 48 + n.nQuar * 2 ^ 64, { n with late := 0, stray := 0 })

theorem nocStats_answers {id : BitVec 16} {item : Byte} (hi : i.owner = true) (hd : s.due i 0x0900 [(8, 2, id.toNat), (10, 1, item.toNat)] = true)
    (hlo : 0x210 ≤ id.toNat) (hhi : id.toNat ≤ 0x214) (hitem : item.toNat ≤ 3) :
    Answers (.nocStats i id item) s i stOK ((s.init id.toNat).statsOf s.now id.toNat item.toNat).1
      (s.setInit id.toNat ((s.init id.toNat).statsOf s.now id.toNat item.toNat).2) := by
  refine answers_of_body (body := (·.fwNocStats i id.toNat item.toNat))
    (e := (s.runsNow i 0x0900).setInit id.toNat ((s.init id.toNat).statsOf s.now id.toNat item.toNat).2) rfl hd ?_ rfl rfl
  have hbad : (decide (4096 ≤ id.toNat) || decide (3 < item.toNat)) = false :=
    Bool.or_eq_false_iff.mpr ⟨decide_eq_false (by omega), decide_eq_false (Nat.not_lt.mpr hitem)⟩
  rw [State.fwNocStats, initMine_owner hi hlo hhi]
  refine (judge_pass (firstFail_pass hbad (firstFail_pass rfl firstFail_nil))).trans ?_
  rw [show (s.runsNow i 0x0900).init id.toNat = s.init id.toNat from rfl, runsNow_now, Init.statsOf]
  by_cases h0 : item.toNat = 0
  · simp [h0, resAt]
  by_cases h1 : item.toNat = 1
  · simp [h1, resAt, clearFour]
  by_cases h2 : item.toNat = 2
  · simp [h2, resAt, clearFour]
  · simp [h0, h1, h2, resAt]

theorem routerStats_answers {r : Byte} (hd : s.due i 0x0901 [(8, 1, r.toNat)] = true) : Answers (.routerStats i r) s i stOK
    (let x := s.router r.toNat
      let half := fun d => let l := sget {} x.lanes d; (l.used % 4 + 4 * (if l.half then 1 else 0)) * 2 ^ (8 * d)
      x.pdrop + x.retry * 2 ^ 16 + (half 0 + half 1 + half 2 + half 3) * 2 ^ 32)
    (s.setRouter r.toNat { s.router r.toNat with pdrop := 0, retry := 0 }) := by
  refine answers_of_body (body := (·.fwRouterStats i r.toNat))
    (e := (s.runsNow i 0x0901).setRouter r.toNat { s.router r.toNat with pdrop := 0, retry := 0 }) rfl hd ?_ rfl rfl
  rw [State.fwRouterStats, show (s.runsNow i 0x0901).router r.toNat = s.router r.toNat from rfl]
  simp [resAt, b2n]

theorem belayStats_answers {r : Byte} {g : Region} (hi : i.owner = true) (hd : s.due i 0x0902 [(8, 1, r.toNat)] = true) (hlt : r.toNat < 64)
    (hg : s.region r.toNat = some g) : Answers (.belayStats i r) s i stOK
      (let b := s.breg r.toNat
       b.disp + b.fail * 2 ^ 32 + b.qblk * 2 ^ 64 + b.drop * 2 ^ 80 + (if b.exsat then 1 else 0) * 2 ^ 96)
      (s.setBreg r.toNat { s.breg r.toNat with disp := 0, fail := 0, qblk := 0, drop := 0, exsat := false }) := by
  refine answers_of_body (body := (·.fwBelayStats i r.toNat))
    (e := (s.runsNow i 0x0902).setBreg r.toNat { s.breg r.toNat with disp := 0, fail := 0, qblk := 0, drop := 0, exsat := false }) rfl hd ?_ rfl rfl
  rw [State.fwBelayStats]
  refine (judge_pass (regionFails_pass (s := s.runsNow i 0x0902) hlt hg (.inl hi))).trans ?_
  rw [runsNow_breg]
  simp [resAt, b2n]

theorem nocTimeout_answers {id : BitVec 16} {tous : Reg} (hi : i.owner = true) (hd : s.due i 0x0903 [(8, 2, id.toNat), (12, 4, tous.toNat)] = true)
    (hlo : 0x210 ≤ id.toNat) (hhi : id.toNat ≤ 0x214) (h1 : 1 ≤ tous.toNat) (hmax : tous.toNat ≤ 1000000) :
    Answers (.nocTimeout i id tous) s i stOK 0 (s.setInit id.toNat { s.init id.toNat with tous := tous.toNat }) := by
  have hbad : (decide (4096 ≤ id.toNat) || decide (tous.toNat = 0) || decide (1000000 < tous.toNat)) = false :=
    Bool.or_eq_false_iff.mpr ⟨Bool.or_eq_false_iff.mpr ⟨decide_eq_false (by omega), decide_eq_false (by omega)⟩, decide_eq_false (Nat.not_lt.mpr hmax)⟩
  refine answers_of_body (body := (·.fwNocTimeout i id.toNat tous.toNat))
    (e := (s.runsNow i 0x0903).setInit id.toNat { s.init id.toNat with tous := tous.toNat }) rfl hd ?_ rfl rfl
  rw [State.fwNocTimeout, initMine_owner hi hlo hhi, hi]
  exact (judge_pass (firstFail_pass hbad (firstFail_pass rfl (firstFail_pass rfl firstFail_nil)))).trans rfl

end

/-- Settles O30: each command behind its checks, and what it leaves of the PCs it names. -/
theorem memoryCommands : Obligations.MemoryCommands := by
  constructor
  · intro s i stack order hard r en pc lanes g hi hs hc hp
    have hbad := pcIdx_named hs hc hp
    have hhard : hard.toNat = 1 ↔ hard = 1 := ⟨fun h => BitVec.eq_of_toNat_eq h, fun h => congrArg BitVec.toNat h⟩
    have hsoft : hard.toNat = 0 ↔ hard = 0 := ⟨fun h => BitVec.eq_of_toNat_eq h, fun h => congrArg BitVec.toNat h⟩
    refine ⟨fun hd hm ho hfree hmir => hbmOrder_answers hd hm ho hfree hmir, fun hd hh h1 h0 => ?_, fun hd hst => pcRetire_answers hi hd hbad hst,
      fun hd ha hu hst => ⟨fun hok => pcResweep_answers hi hd hbad ha hu hst ((eyesOk_iff lanes).mpr hok),
        fun hok => pcResweep_fails hi hd hbad ha hu hst (fun h => hok ((eyesOk_iff lanes).mp h))⟩,
      fun hd hlt hg hm hen => ⟨fun hsame => memMirror_idle hi hd hlt hg hm hen hsame, fun h1 hoff hfree => memMirror_begins hi hd hlt hg hm h1 hoff hfree,
        fun h0 hon => memMirror_ends hi hd hlt hg hm h0 hon⟩⟩
    have h1 : hard.toNat = 1 → (s.pc (pcIdx pc)).hard ≠ 0 := fun h => h1 (hhard.mp h)
    have h0 : hard.toNat = 0 → (s.pc (pcIdx pc)).soft ≠ 0 := fun h => h0 (hsoft.mp h)
    exact ⟨fun hst => pcRepair_frozen hi hd hbad hh h1 h0 hst, fun hst => pcRepair_degraded hi hd hbad hh h1 h0 hst,
      fun hst => pcRepair_fails hd hbad hh h1 h0 hst⟩
  · intro s i pc id item r tous g hi hs hc hp hlo hhi
    have hbad := pcIdx_named hs hc hp
    refine ⟨fun hd => hbmStats_answers hi hd hbad, fun hd => ⟨?_, ?_, ?_, ?_⟩, fun hd => routerStats_answers hd,
      fun hd hlt hg => belayStats_answers hi hd hlt hg, fun hd h1 hmax => nocTimeout_answers hi hd hlo hhi h1 hmax⟩
    · rintro rfl
      exact nocStats_answers hi hd hlo hhi (by decide)
    · rintro rfl
      exact ⟨_, nocStats_answers hi hd hlo hhi (by decide), fun j => by simpa using sget_clearFour (s.init id.toNat).hist 0 j⟩
    · rintro rfl
      exact ⟨_, nocStats_answers hi hd hlo hhi (by decide), fun j => by simpa using sget_clearFour (s.init id.toNat).hist 4 j⟩
    · rintro rfl
      exact nocStats_answers hi hd hlo hhi (by decide)

end Sys2Proof.Machine

/-! MODE_SET and the steps of a mode change (R428, R429, R449, R453 to R455, R510). -/

namespace Sys2Proof.Machine

/-! ### MODE_SET -/

/-- Effects that change nothing together change nothing. -/
theorem forAll_same {s : State} {f : State → Nat → State} {l : List Nat} (h : ∀ n ∈ l, f s n = s) : forAll l f s = s := by
  induction l with
  | nil => rfl
  | cons m l ih =>
    have hm : forAll (m :: l) f s = forAll l f (f s m) := rfl
    rw [hm, h m List.mem_cons_self, ih fun n hn => h n (List.mem_cons_of_mem m hn)]

section
variable {s : State} {i : Issuer}

/-- A change finds no load to abort. -/
theorem abortLoads_idle (h : ∀ x, x < 5 → (s.ctx x).busy = false) : s.abortLoads = s := by
  rw [State.abortLoads]
  refine forAll_same fun x hx => if_neg ?_
  rw [h x (List.mem_range.mp hx), Bool.false_and]
  exact Bool.false_ne_true

/-- A due MODE_SET with defined tables that fit begins its change and goes on running. -/
theorem modeSet_begins {mode : Byte} {off len : Reg} {rs : List (List Byte)}
    (hd : s.due i 0x0200 [(8, 1, mode.toNat), (12, 4, off.toNat), (16, 4, len.toNat)] = true) (hb : s.modeBusy i = false)
    (hrs : s.modeTables mode.toNat off.toNat len.toNat = some rs) (hf : s.sys.full = true) (hp : s.sys.mode = 3 → mode = 3)
    (hfit : s.modeFits mode.toNat rs = true) (hl : ∀ x, x < 5 → (s.ctx x).busy = false) (hm : ∀ m ∈ s.rel.migq, s.regionOf m.cl = none)
    (hc : s.sys.change = none) :
    ∃ t, exec (.modeSet i mode off len) s = .next t ∧ (∃ x, t.record i = some x ∧ x.began = true) ∧
      t.upToHost s = { s with sys := { s.sys with
        change := some { step := 1, mode := mode.toNat, issuer := some i, tables := rs, since := s.now } } } := by
  obtain ⟨x, hx⟩ := due_record hd
  have hrs' : (s.runsNow i 0x0200).modeTables mode.toNat off.toNat len.toNat = some rs := hrs
  have hpair : (!(s.runsNow i 0x0200).sys.full || (decide ((s.runsNow i 0x0200).sys.mode = 3) && decide (mode.toNat ≠ 3) &&
      (s.runsNow i 0x0200).allRegions.any (·.mirrored))) = false := by
    rw [runsNow_sys, hf]
    by_cases h3 : s.sys.mode = 3
    · have hne : ¬ mode.toNat ≠ 3 := not_not.mpr (congrArg BitVec.toNat (hp h3))
      rw [decide_eq_false hne, Bool.and_false]
      rfl
    · rw [decide_eq_false h3]
      rfl
  have hbody : (s.runsNow i 0x0200).fwModeSet i mode.toNat off.toNat len.toNat (.modeSet i mode off len) =
      ((s.runsNow i 0x0200).begin i).startChange mode.toNat (some i) rs := by
    rw [State.fwModeSet, hrs']
    refine (judge_pass (firstFail_pass rfl (firstFail_pass hpair (firstFail_pass ?_ firstFail_nil)))).trans ?_
    · rw [Option.getD_some, show (s.runsNow i 0x0200).modeFits mode.toNat rs = true from hfit]
      rfl
    refine (afterMoves_unmet (s := s.runsNow i 0x0200) fun m h r _ hreg => absurd ((hm m h).symm.trans hreg) (Option.some_ne_none r).symm).trans ?_
    exact if_neg (by rw [runsNow_sys, hc]; decide)
  have hstart : ((s.runsNow i 0x0200).begin i).startChange mode.toNat (some i) rs = { (s.runsNow i 0x0200).begin i with
      sys := { s.sys with change := some { step := 1, mode := mode.toNat, issuer := some i, tables := rs, since := s.now } } } := by
    rw [State.startChange, abortLoads_idle (s := (s.runsNow i 0x0200).begin i) hl]
    rfl
  refine ⟨{ (s.runsNow i 0x0200).begin i with
      sys := { s.sys with change := some { step := 1, mode := mode.toNat, issuer := some i, tables := rs, since := s.now } } }, ?_,
    ⟨_, begin_record (s := s.runsNow i 0x0200) hx, rfl⟩, rfl⟩
  · rw [exec_of_act (due_live hd) (f := (·.cModeSet i mode off len)) rfl, State.cModeSet, command_due hd]
    dsimp only
    rw [hb, hbody, hstart]
    rfl

end

/-! ### The steps of a change -/

section
variable {s : State} {ch : ModeChange} {pm : PmBus}

/-- A step of a change that Scaeth can take goes by the present step. -/
theorem modeChangeStep_eq (hlive : s.live = true) : exec (.modeChangeStep pm) s = .next (s.changeStep pm) :=
  exec_of_act hlive (f := (·.changeStep pm)) rfl

theorem changeStep_held (hc : s.sys.change = some ch) (hav : s.host.avail = true) : s.changeStep pm =
    (if ch.step = 1 then s.toStep ch 2
    else if ch.step = 2 then
      if !s.outstanding.isEmpty && decide (s.now < ch.since + 1000000) then s
      else if decide (s.sys.vdd < vddOf ch.mode) then ((s.outstanding.foldl (fun s (i, t) => s.timeOut i t) s).toStep ch 3).setVdd (vddOf ch.mode) pm
      else (fun s : State => if ch.mode = 5 then s.toStep ch 4 else forAll ((List.range 64).filter (s.toStep ch 4).islandOff) State.powerOn (s.toStep ch 4))
        (s.outstanding.foldl (fun s (i, t) => s.timeOut i t) s)
    else if ch.step = 3 then if ch.mode = 5 then s.toStep ch 4 else forAll ((List.range 64).filter (s.toStep ch 4).islandOff) State.powerOn (s.toStep ch 4)
    else if ch.step = 4 && decide (vddOf ch.mode < s.sys.vdd) then (s.clocksRestart.toStep ch 5).setVdd (vddOf ch.mode) pm
    else if ch.step = 4 || decide (ch.step = 5) then (s.clocksRestart.toStep ch 6).takeMode ch.mode ch.tables
    else s.endChange ch) := by
  rw [State.changeStep, hc]
  refine if_neg ?_
  rw [hav]
  simp

/-- A voltage that is set without a failed transaction (R505, R510). -/
theorem setVdd_succeeds (mv : Nat) (hf : pm.fails = 0) : s.setVdd mv pm =
    { s with sys := { s.sys with vdd := mv }, ext := { s.ext with pmbFails := min s.ext.pmbFails 0xFFFF } } := by
  rw [State.setVdd, State.pmBus, hf]
  rfl

/-- The clocks of the islands restart where step 4 ends. -/
def State.restarted (s : State) : SMap Nat := ((List.range 64).filter s.islOn).foldl (fun m k => sput 0 m k s.now) s.sys.clockAt

theorem clocksRestart_stopped (hc : s.sys.change = some ch) (h : ch.step = 4) :
    s.clocksRestart = { s with sys := { s.sys with clockAt := s.restarted } } := by
  rw [State.clocksRestart, State.clocksStopped, hc, State.restarted]
  exact if_pos (decide_eq_true h.symm)

theorem clocksRestart_running (hc : s.sys.change = some ch) (h : ch.step ≠ 4) : s.clocksRestart = s := by
  rw [State.clocksRestart, State.clocksStopped, hc]
  exact if_neg (by simpa using Ne.symm h)

/-- The new mode takes its tables and Belay's scheme (R453 step 6, R455). -/
theorem takeMode_eq (s : State) (mode : Nat) (rs : List (List Byte)) : ∃ n : Noc, s.takeMode mode rs = { s with
      noc := n, belay := { s.belay with scheme := if mode = 2 then 1 else if mode = 4 then 2 else 0
                                        laneTab := belaySlots rs 2 4, dispTab := belaySlots rs 3 2 }
      sys := { s.sys with mode := mode } } ∧
    ∀ k, k < 256 → (sget {} n.routers k).slots = routerSlots mode s.regionNums rs k := by
  have hslots : ∀ k, k < 256 → ((forAll (List.range 256) (fun u n => u.setRouter n { u.router n with slots := routerSlots mode s.regionNums rs n }) s).router
      k).slots = routerSlots mode s.regionNums rs k := by
    intro k hk
    have h := congrArg Router.slots (forAll_once (get := State.router) (upd := fun n x => { x with slots := routerSlots mode s.regionNums rs n })
      (fun u n => router_setRouter u n _) (fun u m n hne => router_setRouter_ne u _ hne.symm) _ List.nodup_range (List.mem_range.mpr hk) s)
    simpa only using h
  have hframe := forAll_noc (f := fun u n => u.setRouter n { u.router n with slots := routerSlots mode s.regionNums rs n })
    (fun u n => by simp only [State.setRouter]) (List.range 256) s
  rw [State.takeMode]
  dsimp only
  obtain ⟨v, hv⟩ : ∃ v, v = forAll (List.range 256) (fun u n => u.setRouter n { u.router n with slots := routerSlots mode s.regionNums rs n }) s := ⟨_, rfl⟩
  rw [← hv] at hslots hframe ⊢
  clear hv
  obtain ⟨n, rfl⟩ : ∃ n, v = { s with noc := n } := ⟨_, hframe⟩
  exact ⟨n, rfl, hslots⟩

/-- The step that takes the new mode. -/
theorem changeStep_takes (hc : s.sys.change = some ch) (hav : s.host.avail = true) (h : ch.step = 4 ∧ s.sys.vdd ≤ vddOf ch.mode ∨ ch.step = 5) :
    s.changeStep pm = (s.clocksRestart.toStep ch 6).takeMode ch.mode ch.tables := by
  rw [changeStep_held hc hav, if_neg (by omega), if_neg (by omega), if_neg (by omega), if_neg, if_pos]
  · rcases h with ⟨h, -⟩ | h
    · rw [decide_eq_true h]
      rfl
    · rw [decide_eq_true h, Bool.or_true]
  · rcases h with ⟨-, h⟩ | h
    · rw [decide_eq_false (Nat.not_lt.mpr h), Bool.and_false]
      decide
    · rw [decide_eq_false (by omega), Bool.false_and]
      exact Bool.false_ne_true

/-- The last step ends the change. -/
theorem changeStep_ends (hc : s.sys.change = some ch) (hav : s.host.avail = true) (h : ch.step = 6) : s.changeStep pm = s.endChange ch := by
  rw [changeStep_held hc hav, h]
  rfl

end

/-- Settles O31: MODE_SET behind its checks, and each step of a change by the step that it follows. -/
theorem modeChanges : Obligations.ModeChanges := by
  intro s i mode off len pm rs ch hi hlive at_ restarted
  refine ⟨fun hd hb hrs hf hp hfit hl hm hc => modeSet_begins hd hb hrs hf hp hfit hl hm hc, fun hc hav => ?_⟩
  have hstep := changeStep_held (pm := pm) hc hav
  refine ⟨fun h => ?_, fun h ho hv hf => ?_, fun h hv hf => ?_, fun h hm => ?_, fun h hv => ⟨_, modeChangeStep_eq hlive, ?_⟩,
    fun h => ⟨_, modeChangeStep_eq hlive, ?_⟩, fun h hi' => ⟨_, modeChangeStep_eq hlive, ?_⟩, fun h hn hfs => ?_⟩
  · rw [modeChangeStep_eq hlive, hstep, if_pos h]
    rfl
  · rw [modeChangeStep_eq hlive, hstep, if_neg (by omega), if_pos h, ho, if_neg (by simp), if_pos (decide_eq_true hv), setVdd_succeeds _ hf]
    rfl
  · rw [modeChangeStep_eq hlive, hstep, if_neg (by omega), if_neg (by omega), if_neg (by omega), if_pos (by simp [h, hv]), setVdd_succeeds _ hf,
      clocksRestart_stopped hc h]
    rfl
  · rw [modeChangeStep_eq hlive, hstep, if_neg (by omega), if_neg (by omega), if_pos h, if_pos hm]
    rfl
  · rw [changeStep_takes hc hav (.inl ⟨h, hv⟩), clocksRestart_stopped hc h]
    obtain ⟨n, hn, -⟩ := takeMode_eq (({ s with sys := { s.sys with clockAt := s.restarted } } : State).toStep ch 6) ch.mode ch.tables
    rw [hn]
    rfl
  · rw [changeStep_takes hc hav (.inr h), clocksRestart_running hc (by omega)]
    obtain ⟨n, hn, hslots⟩ := takeMode_eq (s.toStep ch 6) ch.mode ch.tables
    rw [hn]
    exact ⟨rfl, rfl, hslots, rfl, rfl⟩
  · rw [changeStep_ends hc hav h, State.endChange, hi']
    obtain ⟨h1, h2⟩ := complete_answered { s with sys := { s.sys with change := none, bootMode := ch.mode } } i stOK 0 (by rw [hi]; rfl)
    exact ⟨h1, h2, complete_upToHost { s with sys := { s.sys with change := none, bootMode := ch.mode } } s i stOK 0⟩
  · rw [modeChangeStep_eq hlive, changeStep_ends hc hav h, State.endChange, hn]
    dsimp only
    rw [decide_eq_false hfs]
    rfl

end Sys2Proof.Machine

/-! The first check that fails refuses a command, and the end of a command's wait (R417 to R422, R446, R475). -/

namespace Sys2Proof.Machine

section
variable {s : State} {i : Issuer}

/-! ### Refusals -/

/-- A quota for a region that the issuer may not name is refused. -/
theorem quotaSet_refused {r : Byte} {quota : BitVec 16} {st : Nat} (hd : s.due i 0x0307 [(8, 1, r.toNat), (10, 2, quota.toNat)] = true)
    (hf : firstFail (s.regionFails i r.toNat) = some st) : Answers (.quotaSet i r quota) s i st 0 s := by
  refine answers_plain (body := (·.fwQuotaSet i r.toNat quota.toNat)) rfl hd ?_
  rw [State.fwQuotaSet]
  exact judge_refuses hf

theorem regionFails_range {r : Nat} (h : 64 ≤ r) : firstFail (s.regionFails i r) = some stBAD_OPERAND := if_pos (decide_eq_true h)

theorem regionFails_absent {r : Nat} (hlt : r < 64) (hi : i.owner = true) (h : s.region r = none) :
    firstFail (s.regionFails i r) = some stBAD_OPERAND := by
  rw [State.regionFails, firstFail_cons, decide_eq_false (Nat.not_le.mpr hlt), firstFail_cons, hi, h]
  rfl

/-- A tenant does not own a region that is absent or another's. -/
theorem owns_other {p r : Nat} (h : ∀ g, s.region r = some g → g.ten ≠ p) : s.owns p (some r) = false := by
  rw [State.owns]
  refine decide_eq_false ?_
  cases hg : s.region r with
  | none => simp [hg]
  | some g => simpa [hg] using h g hg

theorem regionFails_other {r : Nat} (hlt : r < 64) (hi : i.owner = false) (h : ∀ g, s.region r = some g → g.ten ≠ i.p) :
    firstFail (s.regionFails i r) = some stOUT_OF_RANGE := by
  rw [State.regionFails, firstFail_cons, decide_eq_false (Nat.not_le.mpr hlt), firstFail_cons, hi, firstFail_cons, owns_other h]
  rfl

/-- A check that refuses comes before the rest. -/
theorem firstFail_append_some {l m : List (Bool × Nat)} {st : Nat} (h : firstFail l = some st) : firstFail (l ++ m) = some st := by
  induction l with
  | nil => cases h
  | cons x l ih =>
    obtain ⟨b, v⟩ := x
    cases b with
    | true => exact h
    | false => exact ih h

/-- Checks that all pass leave it to the rest. -/
theorem firstFail_append_none {l m : List (Bool × Nat)} (h : firstFail l = none) : firstFail (l ++ m) = firstFail m := by
  induction l with
  | nil => rfl
  | cons x l ih =>
    obtain ⟨b, v⟩ := x
    cases b with
    | true => cases h
    | false => exact ih h

theorem taskArm_refused {task : BitVec 16} {st : Nat} (hd : s.due i 0x0601 [(8, 2, task.toNat)] = true)
    (hf : firstFail (s.taskFails i task.toNat ++ [(decide ((s.task task.toNat).st ≠ .dormant), stBAD_STATE)]) = some st) :
    Answers (.taskArm i task) s i st 0 s := by
  refine answers_plain (body := (·.fwTaskArm i task.toNat)) rfl hd ?_
  rw [State.fwTaskArm]
  exact judge_refuses hf

/-- A task of no region, or of another's, is out of range. -/
theorem taskFails_absent {n : Nat} (h : s.regionOfTask n = none) : firstFail (s.taskFails i n) = some stOUT_OF_RANGE := by
  rw [State.taskFails, h]
  rfl

theorem taskFails_other {n k : Nat} {g : Region} (h : s.regionOfTask n = some k) (hg : s.region k = some g) (ht : g.ten ≠ i.p) :
    firstFail (s.taskFails i n) = some stOUT_OF_RANGE := by
  rw [State.taskFails, h, State.objFails, firstFail_cons, owns_other fun g' hg' => (Option.some.inj (hg.symm.trans hg')) ▸ ht]
  rfl

/-- A task of a stopped region is in no state for a command. -/
theorem taskFails_stopped {n k : Nat} {g : Region} (h : s.regionOfTask n = some k) (hg : s.region k = some g) (ht : g.ten = i.p) (hs : g.stop ≠ none) :
    firstFail (s.taskFails i n) = some stBAD_STATE := by
  have hown : s.owns i.p (some k) = true := by simp [State.owns, hg, ht]
  have hhalt : s.halted (some k) = true := by
    simp only [State.halted, Option.bind_some, hg]
    exact Option.isSome_iff_ne_none.mpr hs
  rw [State.taskFails, h, State.objFails, firstFail_cons, hown, firstFail_cons, hhalt]
  rfl

theorem queueCfg_refused {qid base depth : BitVec 16} {prod cons psrc : Byte}
    (hd : s.due i 0x0500 [(8, 2, qid.toNat), (10, 2, base.toNat), (12, 2, depth.toNat), (14, 1, prod.toNat), (15, 1, cons.toNat),
      (16, 1, psrc.toNat)] = true)
    (hbad : depth.toNat < 4 ∨ 4096 < depth.toNat ∨ 65536 < base.toNat + depth.toNat ∨ 7 < prod.toNat ∨ 2 < cons.toNat ∨ 63 < psrc.toNat) :
    Answers (.queueCfg i qid base depth prod cons psrc) s i stBAD_OPERAND 0 s := by
  refine answers_plain (body := (·.fwQueueCfg i qid.toNat base.toNat depth.toNat prod.toNat cons.toNat psrc.toNat)) rfl hd ?_
  rw [State.fwQueueCfg]
  refine judge_refuses (if_pos ?_)
  simp only [Bool.or_eq_true, decide_eq_true_eq]
  omega

/-! ### The end of a wait -/

/-- A waiting command of a running record goes on as the command itself. -/
theorem commandWaitEnd_runs {cmd : Instr} {x : Running} (hlive : s.live = true)
    (hw : s.host.waits.find? (fun w => decide (w.iss = i)) = some ⟨i, cmd⟩) (hx : s.record i = some x) :
    exec (.commandWaitEnd i) s = .next (fwRun cmd s) := by
  refine (exec_of_act hlive (f := fun s => match s.host.waits.find? (fun w => decide (w.iss = i)) with
    | some w => if (s.record i).isSome then fwRun w.cmd s else s
    | none => s) rfl).trans ?_
  rw [hw, hx]
  rfl

/-- A release whose region is gone completes with RELEASED. -/
theorem regionRelease_released {r : Byte} {x : Running} (hlive : s.live = true) (hx : s.record i = some x) (hop : x.op = 0x0304)
    (hr : le x.bytes 8 1 = r.toNat) (hrel : x.released = true) (hi : i.owner = true) (hav : s.host.avail = true) :
    Answers (.regionRelease i r) s i stRELEASED 0 s := by
  have hmatch : (decide (x.op.toNat = 0x0304) && opsMatch x.bytes [(8, 1, r.toNat)]) = true := by
    have hlt := r.isLt
    have hm : opsMatch x.bytes [(8, 1, r.toNat)] = true := by
      simp only [opsMatch, List.all_cons, List.all_nil, Bool.and_true, decide_eq_true_eq, hr]
      omega
    have hop : x.op.toNat = 0x0304 := congrArg BitVec.toNat hop
    rw [decide_eq_true hop, hm]
    rfl
  have hrun : s.cRegionRelease i r = s.complete i stRELEASED 0 := by
    rw [State.cRegionRelease, State.command, hx]
    dsimp only
    rw [if_pos hmatch, State.go, hav, if_neg (by decide), if_pos hrel]
  obtain ⟨h1, h2⟩ := complete_answered s i stRELEASED 0 (by rw [hi]; rfl)
  exact ⟨_, (exec_of_act hlive (f := (·.cRegionRelease i r)) rfl).trans (congrArg _ hrun), h1, h2, complete_upToHost s s i stRELEASED 0⟩

end

/-- Settles O32: each refusal by the first check that fails, and a waiting command by what it runs. -/
theorem refusalsAndWaits : Obligations.RefusalsAndWaits := by
  constructor
  · intro s i r quota task qid base depth prod cons psrc k g
    refine ⟨fun hd => ⟨fun h => quotaSet_refused hd (regionFails_range h), fun hlt hi h => quotaSet_refused hd (regionFails_absent hlt hi h),
      fun hlt hi h => quotaSet_refused hd (regionFails_other hlt hi h)⟩,
      fun hd => ⟨fun h => taskArm_refused hd (firstFail_append_some (taskFails_absent h)), fun h hg => ⟨fun ht => ?_, fun ht hs => ?_, fun ht hs hst => ?_⟩⟩,
      fun hd hbad => queueCfg_refused hd hbad⟩
    · exact taskArm_refused hd (firstFail_append_some (taskFails_other h hg ht))
    · exact taskArm_refused hd (firstFail_append_some (taskFails_stopped h hg ht hs))
    · refine taskArm_refused hd ((firstFail_append_none (objFails_pass h hg ht hs)).trans (if_pos (decide_eq_true hst)))
  · intro s i cmd r ten stack order x hlive hw hx
    have hrun := commandWaitEnd_runs hlive hw hx
    refine ⟨fun h => ?_, fun h hd hm ho hfree hmir => ?_, fun h hop hr hrel hi hav => ?_⟩
    · rw [hrun]
      rcases h with rfl | rfl | rfl | rfl | rfl
      · exact (exec_of_act hlive (f := (·.cRegionRelease i r)) rfl).symm
      · exact (exec_of_act hlive (f := (·.cTenantEvict i ten)) rfl).symm
      · exact (exec_of_act hlive (f := (·.cHbmOrder i stack order)) rfl).symm
      · exact (exec_of_act hlive (f := (·.cLcSeal i)) rfl).symm
      · exact (exec_of_act hlive (f := (·.cLcUnseal i)) rfl).symm
    · subst h
      obtain ⟨t, ht, hrest⟩ := hbmOrder_answers hd hm ho hfree hmir
      exact ⟨t, hrun.trans ((exec_of_act hlive (f := (·.cHbmOrder i stack order)) rfl).symm.trans ht), hrest⟩
    · subst h
      obtain ⟨t, ht, hrest⟩ := regionRelease_released hlive hx hop hr hrel hi hav
      exact ⟨t, hrun.trans ((exec_of_act hlive (f := (·.cRegionRelease i r)) rfl).symm.trans ht), hrest⟩

end Sys2Proof.Machine

/-! O33: the cycle of a cluster on its own. Queues, links and forward channels change in every cycle and are no part of what the obligation says of
the cluster: `Cluster.core` is the rest of it, and `State.flows` says that a state differs from another in those parts and in packets alone. -/

namespace Sys2Proof.Machine

/-- A cluster without its queues, links, forward channels and the reads that hold a port. -/
def Cluster.core (k : Cluster) : Cluster :=
  { k with queues := [], sram := [], tags := [], fwds := [], popPtr := [], credits := [], linkWords := [], linkCreds := [], linkEarly := [],
           edges := 0, reading := [] }

/-- A state differs from another in its clusters and packets alone. -/
def State.inArray (s t : State) : Prop :=
  t = { s with cls := t.cls, noc := { s.noc with packets := t.noc.packets, nextId := t.noc.nextId, inits := t.noc.inits } }

theorem inArray_refl (s : State) : s.inArray s := rfl

theorem State.inArray.trans {s t u : State} (h : s.inArray t) (k : t.inArray u) : s.inArray u := by
  unfold State.inArray at *
  rw [h] at k
  exact k

theorem setCl_inArray (s : State) (c : Nat) (k : Cluster) : s.inArray (s.setCl c k) := rfl

theorem sendReq_inArray (s : State) (b : End) (p : Packet) : s.inArray (s.sendReq b p) := rfl

/-- A state differs from another in the queues, links and forward channels of its clusters and in packets alone. -/
def State.flows (s t : State) : Prop := s.inArray t ∧ ∀ d, (t.cl d).core = (s.cl d).core

theorem flows_refl (s : State) : s.flows s := ⟨inArray_refl s, fun _ => rfl⟩

theorem State.flows.trans {s t u : State} (h : s.flows t) (k : t.flows u) : s.flows u := by
  obtain ⟨h1, h2⟩ := h
  obtain ⟨k1, k2⟩ := k
  exact ⟨h1.trans k1, fun d => (k2 d).trans (h2 d)⟩

theorem setCl_flows {s : State} {c : Nat} {k : Cluster} (h : k.core = (s.cl c).core) : s.flows (s.setCl c k) := by
  refine ⟨setCl_inArray s c k, fun d => ?_⟩
  by_cases hd : d = c
  · rw [hd, cl_setCl, h]
  · rw [cl_setCl_ne s k hd]

theorem updCl_flows {s : State} {c : Nat} {f : Cluster → Cluster} (h : (f (s.cl c)).core = (s.cl c).core) : s.flows (s.updCl c f) := setCl_flows h

theorem sendReq_flows (s : State) (b : End) (p : Packet) : s.flows (s.sendReq b p) := ⟨sendReq_inArray s b p, fun _ => rfl⟩

theorem forAll_flows {f : State → Nat → State} (h : ∀ (s : State) n, s.flows (f s n)) (l : List Nat) (s : State) : s.flows (forAll l f s) :=
  forAll_keeps (P := s.flows) (fun u n (k : s.flows u) => k.trans (h u n)) l s (flows_refl s)

/-! ### Queues, links and forward channels -/

theorem foldl_core {α : Type} {f : Cluster → α → Cluster} (h : ∀ k a, (f k a).core = k.core) (l : List α) : ∀ k : Cluster, (l.foldl f k).core = k.core := by
  induction l with
  | nil => exact fun _ => rfl
  | cons a l ih => exact fun k => (ih (f k a)).trans (h k a)

theorem pushDo_core (k : Cluster) (now q : Nat) (prod : BitVec 3) (psrc : Nat) (w : Word) (tag : BitVec 4) :
    (k.pushDo now q prod psrc w tag).core = k.core := by
  by_cases h : (k.queue q).declared prod psrc = true
  · exact (congrArg Cluster.core (if_pos h)).trans rfl
  · exact (congrArg Cluster.core (if_neg h)).trans rfl

theorem popDo_core (k : Cluster) (now q : Nat) (cons : BitVec 2) : (k.popDo now q cons).2.2.core = k.core := by
  by_cases h : (k.queue q).cons = cons
  · exact (congrArg (fun r : (Word × BitVec 4) × Bool × Cluster => r.2.2.core) (if_pos h)).trans rfl
  · exact (congrArg (fun r : (Word × BitVec 4) × Bool × Cluster => r.2.2.core) (if_neg h)).trans rfl

theorem linkBack_flows (s : State) (c q : Nat) : s.flows (s.linkBack c q) := by
  unfold State.linkBack
  split
  · exact updCl_flows rfl
  · split
    · split
      · exact flows_refl s
      · exact updCl_flows rfl
    · exact flows_refl s

theorem creditBack_flows (s : State) (c q : Nat) : s.flows (s.creditBack c q) := by
  unfold State.creditBack
  dsimp only
  split
  · exact (linkBack_flows s c q).trans (sendReq_flows _ _ _)
  · exact linkBack_flows s c q

theorem fwdPop_flows (s : State) (c ch : Nat) (turn : Bool) : s.flows (s.fwdPop c ch turn) := by
  unfold State.fwdPop
  split
  · have hpop : s.flows (s.setCl c ({ ((s.cl c).popDo s.now ((s.cl c).fwd ch).sqid consFWD).2.2 with
        popPtr := sput 0 ((s.cl c).popDo s.now ((s.cl c).fwd ch).sqid consFWD).2.2.popPtr ((s.cl c).fwd ch).sqid ((ch + 1) % 8) }.setFwd ch
          { (s.cl c).fwd ch with
            packed := ((s.cl c).fwd ch).packed ++ [((s.cl c).popDo s.now ((s.cl c).fwd ch).sqid consFWD).1]
            cred := if ((s.cl c).fwd ch).mover then ((s.cl c).fwd ch).cred - 1 else ((s.cl c).fwd ch).cred })) :=
      setCl_flows (popDo_core (s.cl c) s.now ((s.cl c).fwd ch).sqid consFWD)
    dsimp only
    split
    · exact hpop.trans (creditBack_flows _ _ _)
    · exact hpop
  · exact flows_refl s

theorem queueUpkeep_flows (k0 : Cluster) (s : State) (c : Nat) : s.flows (State.queueUpkeep k0 s c) := by
  unfold State.queueUpkeep
  refine (forAll_flows (fun s n => fwdPop_flows s c n (k0.popTurn n)) (List.range 8) s).trans (updCl_flows ?_)
  exact foldl_core (f := fun k q => k.setQueue q ((qCross (k0.qHL q) (k0.qLL q) (k.queue q)).stamp k.edges)) (fun _ _ => rfl) k0.liveQueues _

theorem planePops_flows (s : State) (c : Nat) : s.flows (s.planePops c).2 := by
  suffices h : ∀ (k0 : Cluster) (l : List Nat) (r : Pops × State), r.2.flows (l.foldl (fun (r : Pops × State) i =>
      let p := k0.planeOf i
      if pQPOPEN p then
        let (w, took, k) := (r.2.cl c).popDo s.now (pQPOPID p) consARRAY
        let s' := r.2.setCl c k
        (r.1 ++ [(i, w)], if took then s'.creditBack c (pQPOPID p) else s')
      else r) r).2 from h (s.cl c) (List.range 16) ([], s)
  intro k0 l
  induction l with
  | nil => exact fun r => flows_refl r.2
  | cons i l ih =>
    intro r
    refine State.flows.trans ?_ (ih _)
    dsimp only
    split
    · have hpop := setCl_flows (s := r.2) (popDo_core (r.2.cl c) s.now (pQPOPID (k0.planeOf i)) consARRAY)
      dsimp only
      split
      · exact hpop.trans (creditBack_flows _ _ _)
      · exact hpop
    · exact flows_refl r.2

theorem planeSends_flows (s : State) (c : Nat) (out : Sent) : s.flows (s.planeSends c out) :=
  updCl_flows (foldl_core (f := fun k (q, w, t) => k.pushDo s.now q prodARRAY 0 w t) (fun k a => pushDo_core k s.now a.1 prodARRAY 0 a.2.1 a.2.2) out.pushes (s.cl c))

theorem portsEnd_flows {s : State} {c : Nat} (h : (s.cl c).writing = []) : s.flows (s.portsEnd c) := by
  unfold State.portsEnd
  rw [h]
  exact updCl_flows (congrArg (fun hs => ({ (s.cl c).core with writing := hs } : Cluster)) h.symm)

/-! ### Cells and selection -/

theorem foldl_setCell (f : Cell → Cell) (n : Nat) (k : Cluster) (i : Nat) :
    ((List.range n).foldl (fun k j => k.setCell j (f (k.cell j))) k).cell i = if i < n then f (k.cell i) else k.cell i := by
  induction n with
  | zero => rfl
  | succ n ih =>
    rw [List.range_succ, List.foldl_append, List.foldl_cons, List.foldl_nil]
    by_cases h : i = n
    · subst h
      rw [cluster_cell_setCell, ih, if_neg (Nat.lt_irrefl i), if_pos (Nat.lt_succ_self i)]
    · rw [cluster_cell_setCell_ne _ _ h, ih]
      exact if_congr (by omega) rfl rfl

theorem cell_withLanes (k : Cluster) (l : SMap Word) (i : Nat) : { k with lanes := l }.cell i = k.cell i := rfl

theorem parkedCells_cell (k : Cluster) {i : Nat} (h : i < 16) : k.parkedCells.cell i = { (k.cell i).writeback with outs := [] } := by
  have hf := foldl_setCell (fun x => { x.writeback with outs := [] }) 16 k i
  rw [if_pos h] at hf
  unfold Cluster.parkedCells
  rw [cell_withLanes, hf]

theorem foldl_setCell_frame {α : Type} {f : Cluster → α → Cluster} (h : ∀ k a, f k a = { k with cells := (f k a).cells }) (l : List α) :
    ∀ k : Cluster, l.foldl f k = { k with cells := (l.foldl f k).cells } := by
  induction l with
  | nil => exact fun _ => rfl
  | cons a l ih =>
    intro k
    rw [List.foldl_cons, ih (f k a)]
    exact congrArg (fun x : Cluster => { x with cells := (l.foldl f (f k a)).cells }) (h k a)

theorem parkedCells_frame (k : Cluster) : k.parkedCells = { k with cells := k.parkedCells.cells, lanes := [] } := by
  have h := foldl_setCell_frame (f := fun k i => k.setCell i { (k.cell i).writeback with outs := [] }) (fun _ _ => rfl) (List.range 16) k
  unfold Cluster.parkedCells
  dsimp only
  generalize (List.range 16).foldl (fun k i => k.setCell i { (k.cell i).writeback with outs := [] }) k = n at h ⊢
  exact congrArg (fun x : Cluster => { x with lanes := ([] : SMap Word) }) h

theorem parkedCells_sel (k : Cluster) : k.parkedCells.sel = k.sel := by rw [parkedCells_frame]

theorem parkedCells_lanes (k : Cluster) : k.parkedCells.lanes = [] := by rw [parkedCells_frame]

theorem parkedCells_writing (k : Cluster) : k.parkedCells.writing = k.writing := by rw [parkedCells_frame]

/-- A cell whose memory holds no double error reads no uncorrectable word (R58). -/
theorem readMem_good {x : Cell} (h : ∀ w, sget 0 x.bad w < 2) (a : Nat) : (x.readMem a).2.2 = false := by
  unfold Cell.readMem
  split
  · rfl
  · rfl
  · next h0 h1 =>
    have ha := h a
    have h0 : sget 0 x.bad a ≠ 0 := h0
    have h1 : sget 0 x.bad a ≠ 1 := h1
    omega

theorem issue_noUE {x : Cell} (h : ∀ w, sget 0 x.bad w < 2) (p : Plane) (i : CellIn) (cy : Carry) : (x.issue p i cy).2 = [] := by
  have hif : ∀ (b : Bool) a, (if b = true then x.readMem a else (0, 0, false)).2.2 = false := by
    intro b a
    cases b
    · rfl
    · exact readMem_good h a
  unfold Cell.issue
  dsimp only
  split
  · rfl
  · split
    · rfl
    · split
      · rfl
      · rw [hif, hif]
        rfl

theorem advanceCells_noUE {k : Cluster} (h : ∀ i w, i < 16 → sget 0 (k.cell i).bad w < 2) (pops : Pops) (carry : Nat → Carry) :
    (k.advanceCells pops carry).2 = [] := by
  suffices hl : ∀ (l : List Nat) (r : Cluster × List (Nat × Nat)), (∀ i ∈ l, i < 16) → r.2 = [] →
      (l.foldl (fun (r : Cluster × List (Nat × Nat)) i =>
        let p := k.planeOf i
        let inp := k.inputs i p (popOf pops i)
        let (x, ue) := (k.cell i).issue p inp (carry i)
        (r.1.setCell i (x.advance p inp), r.2 ++ ue.map (fun w => (i, w)))) r).2 = [] from
    hl (List.range 16) (k, []) (fun i => List.mem_range.mp) rfl
  intro l
  induction l with
  | nil => exact fun _ _ hr => hr
  | cons i l ih =>
    intro r hi hr
    refine ih _ (fun j hj => hi j (List.mem_cons_of_mem i hj)) ?_
    dsimp only
    rw [hr, issue_noUE (fun w => h i w (hi i List.mem_cons_self))]
    rfl

theorem selCond_self (k : Cluster) (e : Entry) : selCond k k e = ((k.cell (enCCELL e)).cond != enCINV e) := by
  unfold selCond
  rw [ite_self]

/-- The plane of a cycle that an entry of a cluster on its own governs (R84). -/
def Cluster.planeAt (k : Cluster) (e : Entry) : Nat :=
  if enKIND e = 1 ∧ ((k.cell (enCCELL e)).cond != enCINV e) = false then enALT e else enPLANE e

theorem selPlane_self (k : Cluster) (e : Entry) : selPlane k k e = k.planeAt e := by
  unfold selPlane Cluster.planeAt
  rw [selCond_self]
  simp only [Bool.and_eq_true, decide_eq_true_eq, Bool.not_eq_true']

/-- The selection of the next cycle goes to an entry, or parks at a HALT entry with the context-halt event (R84, R87, R89). -/
def Cluster.enters (k n : Cluster) (sel : Sel) (i : Nat) : Prop :=
  if enKIND (k.entryAt i) = 5 then n.sel = { sel with run := false, plane := 0, entry := i, rep := 0, halted := true } ∧ bit n.seq.evp.toNat 8 = true
  else n.sel = { sel with run := true, plane := k.planeAt (k.entryAt i), entry := i, rep := 0 }

theorem selEnter_enters (k now : Cluster) (i : Nat) : k.enters (selEnter k k now i) now.sel i := by
  unfold Cluster.enters selEnter
  by_cases h : enKIND (k.entryAt i) = 5
  · rw [if_pos h, if_pos h]
    refine ⟨rfl, ?_⟩
    rw [bit_toNat]
    simp [Cluster.haltEvent]
  · rw [if_neg h, if_neg h, selPlane_self]

theorem selEnter_keeps (k peer now : Cluster) (i : Nat) :
    let n := selEnter k peer now i
    n = { now with sel := n.sel, seq := n.seq } := by
  unfold selEnter
  dsimp only
  split <;> rfl

theorem selNext_keeps (k peer now : Cluster) :
    let n := selNext k peer now
    n = { now with sel := n.sel, seq := n.seq } := by
  unfold selNext
  dsimp only
  split
  · exact selEnter_keeps k peer _ _
  · rfl
  · split
    · rfl
    · split
      · rfl
      · split
        · exact selEnter_keeps k peer _ _
        · exact selEnter_keeps k peer _ _
        · split
          · exact selEnter_keeps k peer _ _
          · exact selEnter_keeps k peer _ _
        · exact selEnter_keeps k peer _ _
theorem selNext_lanes (k peer now : Cluster) : (selNext k peer now).lanes = now.lanes := by rw [selNext_keeps]

theorem selNext_cell (k peer now : Cluster) (i : Nat) : (selNext k peer now).cell i = now.cell i := by
  unfold Cluster.cell
  rw [selNext_keeps]

theorem selNext_writing (k peer now : Cluster) : (selNext k peer now).writing = now.writing := by rw [selNext_keeps]

theorem selNext_start {k : Cluster} {i : Nat} (h : k.sel.cmd = some (.start i)) (peer now : Cluster) :
    selNext k peer now = selEnter k peer { now with sel := { now.sel with cmd := none, lc0 := 0, lc1 := 0 } } i := by
  unfold selNext
  rw [h]

theorem selNext_park {k : Cluster} (h : k.sel.cmd = some .park) (peer now : Cluster) :
    selNext k peer now = { now with sel := { now.sel with cmd := none, run := false, plane := 0 } } := by
  unfold selNext
  rw [h]

theorem selNext_parked {k : Cluster} (h : k.sel.cmd = none) (hr : k.sel.run = false) (peer now : Cluster) : selNext k peer now = now := by
  unfold selNext
  rw [h, hr]
  rfl

theorem selNext_repeat {k : Cluster} (h : k.sel.cmd = none) (hr : k.sel.run = true) (hrep : k.sel.rep < enREP (k.entryAt k.sel.entry)) (peer now : Cluster) :
    selNext k peer now = { now with sel := { now.sel with rep := k.sel.rep + 1, plane := selPlane k peer (k.entryAt k.sel.entry) } } := by
  unfold selNext
  rw [h, hr]
  exact if_pos hrep

/-- Where the selection goes once the repetitions of an entry are over. -/
def selAfter (k peer now : Cluster) (e : Entry) : Cluster :=
  let inext := (k.sel.entry + 1) % 128
  match enKIND e with
  | 2 => selEnter k peer now (if selCond k peer e then enTARGET e else inext)
  | 3 => selEnter k peer now (enTARGET e)
  | 4 =>
    let lc := if enLCSEL e then k.sel.lc1 else k.sel.lc0
    let go := decide (lc < enLCOUNT e)
    let lc' := if go then lc + 1 else 0
    let now := if enLCSEL e then { now with sel := { now.sel with lc1 := lc' } }
      else { now with sel := { now.sel with lc0 := lc' } }
    selEnter k peer now (if go then enTARGET e else inext)
  | _ => selEnter k peer now inext

theorem selNext_after {k : Cluster} (h : k.sel.cmd = none) (hr : k.sel.run = true) (hrep : enREP (k.entryAt k.sel.entry) ≤ k.sel.rep) (peer now : Cluster) :
    selNext k peer now = selAfter k peer now (k.entryAt k.sel.entry) := by
  unfold selNext
  rw [h, hr]
  exact if_neg (Nat.not_lt.mpr hrep)

/-- What a selection from a cluster's present entry says of the next one (R84). -/
def Cluster.selects (k n : Cluster) : Prop :=
  let e := k.entryAt k.sel.entry
  let inext := (k.sel.entry + 1) % 128
  let cond := (k.cell (enCCELL e)).cond != enCINV e
  (k.sel.rep < enREP e → n.sel = { k.sel with rep := k.sel.rep + 1, plane := k.planeAt e }) ∧
  (enREP e ≤ k.sel.rep → (enKIND e ≤ 1 → k.enters n k.sel inext) ∧
    (enKIND e = 2 → k.enters n k.sel (if cond then enTARGET e else inext)) ∧ (enKIND e = 3 → k.enters n k.sel (enTARGET e)) ∧
    (enKIND e = 4 → enLCSEL e = false →
      (k.sel.lc0 < enLCOUNT e → k.enters n { k.sel with lc0 := k.sel.lc0 + 1 } (enTARGET e)) ∧
      (enLCOUNT e ≤ k.sel.lc0 → k.enters n { k.sel with lc0 := 0 } inext)) ∧
    (enKIND e = 4 → enLCSEL e = true →
      (k.sel.lc1 < enLCOUNT e → k.enters n { k.sel with lc1 := k.sel.lc1 + 1 } (enTARGET e)) ∧
      (enLCOUNT e ≤ k.sel.lc1 → k.enters n { k.sel with lc1 := 0 } inext)))

theorem selNext_selects {k now : Cluster} (h : k.sel.cmd = none) (hr : k.sel.run = true) (hs : now.sel = k.sel) : k.selects (selNext k k now) := by
  refine ⟨fun hrep => ?_, fun hrep => ?_⟩
  · rw [selNext_repeat h hr hrep, hs, selPlane_self]
  · rw [selNext_after h hr hrep]
    unfold selAfter
    refine ⟨fun hk => ?_, fun hk => ?_, fun hk => ?_, fun hk hl => ⟨fun hc => ?_, fun hc => ?_⟩, fun hk hl => ⟨fun hc => ?_, fun hc => ?_⟩⟩
    · split
      · omega
      · omega
      · omega
      · exact hs ▸ selEnter_enters k now _
    · rw [hk, ← selCond_self]
      exact hs ▸ selEnter_enters k now _
    · rw [hk]
      exact hs ▸ selEnter_enters k now _
    · rw [hk, hl]
      simp only [hc, hs, decide_true, if_true, Bool.false_eq_true, if_false]
      exact selEnter_enters k _ _
    · rw [hk, hl]
      simp only [Nat.not_lt.mpr hc, hs, decide_false, Bool.false_eq_true, if_false]
      exact selEnter_enters k _ _
    · rw [hk, hl]
      simp only [hc, hs, decide_true, if_true]
      exact selEnter_enters k _ _
    · rw [hk, hl]
      simp only [Nat.not_lt.mpr hc, hs, decide_false, Bool.false_eq_true, if_false, if_true]
      exact selEnter_enters k _ _

/-! ### The cycle -/

theorem leads_alone {s : State} {c : Nat} (hr : (s.cl c).role = 0) : s.leads c = [c] := by
  unfold State.leads
  rw [hr]
  rfl

theorem lockstep_unpaired {s : State} (h : s.sys.mode ≠ 3) (c : Nat) : s.lockstep c = false := by
  unfold State.lockstep
  rw [decide_eq_false h, Bool.false_and]

theorem withTwin_unpaired {s : State} (h : s.sys.mode ≠ 3) (c : Nat) : s.withTwin c = [c] := by
  unfold State.withTwin
  rw [lockstep_unpaired h]
  rfl

theorem twinsOf_unpaired {s : State} (h : s.sys.mode ≠ 3) (c : Nat) : s.twinsOf [c] = [] := by
  unfold State.twinsOf
  rw [List.filterMap_cons, lockstep_unpaired h]
  rfl

theorem group_alone {s : State} (h : s.sys.mode ≠ 3) {c : Nat} (hr : (s.cl c).role = 0) : s.group c = [c] := by
  unfold State.group
  rw [leads_alone hr, twinsOf_unpaired h]
  rfl

theorem follows_alone {s : State} (h : s.sys.mode ≠ 3) {c : Nat} (hr : (s.cl c).role = 0) : s.follows c = false := by
  unfold State.follows State.isTwin
  rw [lockstep_unpaired h, hr]
  rfl

/-- What the cycle of a cluster on its own is before the upkeep of its queues: that of a pause, a fill cycle, a parked or a running one. -/
def State.cycleBody (s : State) (c : Nat) : State :=
  if 0 < (s.cl c).pause then s.pauseCycle [c]
  else if 0 < (s.cl c).fill then s.fillCycle [c] [] (decide ((s.cl c).fill = 1))
  else if !(s.cl c).sel.run then s.parkedCycle [c] []
  else s.runCycle [c] []

theorem cycle_alone {s : State} {c : Nat} (h : s.sys.mode ≠ 3) (hr : (s.cl c).role = 0) (hg : s.cycleGoes c = true) :
    s.cycle c = State.queueUpkeep (s.cl c) (s.cycleBody c) c := by
  unfold State.cycle State.cycleBody
  dsimp only
  rw [hg, leads_alone hr, twinsOf_unpaired h, group_alone h hr, List.any_cons, List.any_nil, Bool.or_false]
  simp only [Bool.not_true, Bool.false_eq_true, if_false, decide_eq_true_eq]
  rfl

theorem cycleGoes_alone {s : State} {c : Nat} (h : s.sys.mode ≠ 3) (hr : (s.cl c).role = 0) (hck : s.clocked c = true)
    (hcom : (s.cl c).commitCome s.now = false) : s.cycleGoes c = true := by
  unfold State.cycleGoes
  rw [follows_alone h hr, group_alone h hr]
  simp [hck, hcom]

theorem clusterCycle_alone {s : State} {c : ClId} (hs : s.live = true) (h : s.sys.mode ≠ 3) (hr : (s.cl c).role = 0) (hg : s.cycleGoes c = true) :
    exec (.clusterCycle c []) s = .next ((s.cycle c).portsEnd c) := by
  have hx : exec (.clusterCycle c []) s = execClusterCycle c [] s := rfl
  rw [hx]
  unfold execClusterCycle
  rw [act_live hs]
  simp only [List.filter_nil, List.foldl_nil, List.findSome?_nil, lockstep_unpaired h, Bool.false_and, Bool.false_eq_true, if_false, hg, group_alone h hr, if_true]
  rfl

/-- What a cycle leaves of a cluster's core is what its body left. -/
theorem clusterCycle_core {s : State} {c : ClId} {n : Cluster} (hs : s.live = true) (h : s.sys.mode ≠ 3) (hr : (s.cl c).role = 0)
    (hg : s.cycleGoes c = true) (hb : s.inArray (s.cycleBody c)) (hn : ((s.cycleBody c).cl c).core = n.core) (hw : n.writing = []) :
    ∃ t, exec (.clusterCycle c []) s = .next t ∧ s.inArray t ∧ (t.cl c).core = n.core := by
  refine ⟨_, clusterCycle_alone hs h hr hg, ?_⟩
  rw [cycle_alone h hr hg]
  have hq := queueUpkeep_flows (s.cl c) (s.cycleBody c) c
  have hk := (hq.2 c).trans hn
  have hp := portsEnd_flows ((congrArg Cluster.writing hk).trans hw)
  exact ⟨(hb.trans hq.1).trans hp.1, (hp.2 c).trans hk⟩

theorem repairEnd_eq {s : State} {c : Nat} (h : (s.cl c).failing.length ≤ 1) :
    s.repairEnd c = s.setCl c { s.cl c with live := !(s.cl c).live, repair := none, pause := 0, failing := [] } := by
  unfold State.repairEnd
  dsimp only
  rw [List.drop_eq_nil_of_le h]
  rfl

/-- A cluster after a cycle of a repair pause, the last of which inverts LIVE (R104, R105). -/
def Cluster.paused (k : Cluster) : Cluster :=
  if k.pause = 1 then { ({ k with pause := k.pause - 1 }).stall 0x20 with live := !k.live, repair := none, pause := 0, failing := [] }
  else ({ k with pause := k.pause - 1 }).stall 0x20

theorem cycleBody_paused {s : State} {c : Nat} (hp : 0 < (s.cl c).pause) (hf : (s.cl c).pause = 1 → (s.cl c).failing.length ≤ 1) :
    s.cycleBody c = s.setCl c (s.cl c).paused := by
  unfold State.cycleBody Cluster.paused
  rw [if_pos hp]
  by_cases h1 : (s.cl c).pause = 1
  · rw [if_pos h1]
    refine (if_pos h1).trans ?_
    rw [repairEnd_eq (by rw [cl_setCl]; exact hf h1), cl_setCl, setCl_setCl]
    rfl
  · rw [if_neg h1]
    exact if_neg h1

/-- A cluster after a cycle of the fill, the last of which lets the selection begin (R102, R103). -/
def Cluster.filled (k : Cluster) : Cluster := if k.fill = 1 then k.fillCycle.startSelection k.fillCycle else k.fillCycle

theorem cycleBody_filled {s : State} {c : Nat} (hp : (s.cl c).pause = 0) (hf : 0 < (s.cl c).fill) : s.cycleBody c = s.setCl c (s.cl c).filled := by
  unfold State.cycleBody Cluster.filled
  rw [if_neg (by omega), if_pos hf]
  unfold State.fillCycle
  by_cases h1 : (s.cl c).fill = 1
  · rw [if_pos h1, decide_eq_true h1]
    show (s.updCl c Cluster.fillCycle).setCl c (((s.updCl c Cluster.fillCycle).cl c).startSelection ((s.updCl c Cluster.fillCycle).cl c)) = _
    rw [cl_updCl]
    exact setCl_setCl s c _ _
  · rw [if_neg h1, decide_eq_false h1]
    rfl

theorem cycleBody_parked {s : State} {c : Nat} (hp : (s.cl c).pause = 0) (hf : (s.cl c).fill = 0) (hr : (s.cl c).sel.run = false) :
    s.cycleBody c = s.setCl c (selNext (s.cl c) (s.cl c) (s.cl c).parkedCells) := by
  unfold State.cycleBody
  rw [if_neg (by omega), if_neg (by omega), hr]
  rfl

theorem cycleBody_run {s : State} {c : Nat} (hp : (s.cl c).pause = 0) (hf : (s.cl c).fill = 0) (hr : (s.cl c).sel.run = true) :
    s.cycleBody c = s.runCycle [c] [] := by
  unfold State.cycleBody
  rw [if_neg (by omega), if_neg (by omega), hr]
  rfl

theorem runCycle_stall {s : State} {c : Nat} (h : (s.cl c).stallCause ≠ 0) : s.runCycle [c] [] = s.setCl c ((s.cl c).stall (s.cl c).stallCause) := by
  unfold State.runCycle
  simp only [List.map_cons, List.map_nil, List.all_cons, decide_eq_false h, Bool.false_and, Bool.false_eq_true, if_false]
  show s.updCl c (·.stall (if (s.cl c).stallCause = 0 then 0x10 else (s.cl c).stallCause)) = _
  rw [if_neg h]
  rfl

theorem advanceCycle_alone {s : State} {c : Nat} (hbad : ∀ i w, i < 16 → sget 0 ((s.cl c).cell i).bad w < 2) :
    ∃ cells lanes out, s.advanceCycle [c] [] = ((s.planePops c).2.setCl c
      (selNext (s.cl c) (s.cl c) { (s.planePops c).2.cl c with cells := cells, lanes := lanes })).planeSends c out := by
  unfold State.advanceCycle advanceGroup
  simp only [List.foldl_cons, List.foldl_nil, List.nil_append, List.map_cons, List.map_nil, List.zip_cons_cons, List.zip_nil_right, List.isEmpty_nil,
    Bool.true_or, if_true, List.zipIdx_cons, List.zipIdx_nil, selGroup, State.setCls, forAll, List.filter_cons, decide_true, List.filter_nil,
    List.flatMap_cons, List.flatMap_nil, List.append_nil, advanceCells_noUE hbad, List.zip_nil_left]
  exact ⟨_, _, _, rfl⟩

/-- An advancing cycle lets a cluster take its next selection. -/
theorem runCycle_advance {s : State} {c : Nat} (h : (s.cl c).stallCause = 0) (hbad : ∀ i w, i < 16 → sget 0 ((s.cl c).cell i).bad w < 2) :
    ∃ now : Cluster, now.sel = (s.cl c).sel ∧ now.writing = (s.cl c).writing ∧ s.inArray (s.runCycle [c] []) ∧
      ((s.runCycle [c] []).cl c).core = (selNext (s.cl c) (s.cl c) now).core := by
  obtain ⟨cells, lanes, out, ha⟩ := advanceCycle_alone hbad
  have hrun : s.runCycle [c] [] = s.advanceCycle [c] [] := by
    unfold State.runCycle
    simp only [List.map_cons, List.map_nil, List.all_cons, List.all_nil, h, decide_true, Bool.and_true, if_true]
  rw [hrun, ha]
  have hp := planePops_flows s c
  have hsend := planeSends_flows ((s.planePops c).2.setCl c (selNext (s.cl c) (s.cl c) { (s.planePops c).2.cl c with cells := cells, lanes := lanes })) c out
  refine ⟨{ (s.planePops c).2.cl c with cells := cells, lanes := lanes }, (congrArg Cluster.sel (hp.2 c) :), (congrArg Cluster.writing (hp.2 c) :),
    (hp.1.trans (setCl_inArray _ _ _)).trans hsend.1, (hsend.2 c).trans ?_⟩
  rw [cl_setCl]

/-- A cluster after a cycle, as its selection tells: a START or PARK that waits, or else the choice of its present entry. -/
def Cluster.chooses (k n : Cluster) : Prop :=
  (k.sel.cmd = some .park → n.sel = { k.sel with cmd := none, run := false, plane := 0 }) ∧
  (∀ i, k.sel.cmd = some (.start i) → k.enters n { k.sel with cmd := none, lc0 := 0, lc1 := 0 } i) ∧
  (k.sel.cmd = none → k.sel.run = true → k.selects n)

theorem selNext_chooses {k now : Cluster} (hs : now.sel = k.sel) : k.chooses (selNext k k now) := by
  refine ⟨fun h => ?_, fun i h => ?_, fun h hr => selNext_selects h hr hs⟩
  · rw [selNext_park h, hs]
  · rw [selNext_start h]
    exact hs ▸ selEnter_enters k { now with sel := { now.sel with cmd := none, lc0 := 0, lc1 := 0 } } i

/-- What a cycle makes of a cluster on its own (R82, R84 to R89, R102, R104, R119). -/
def Cluster.cycled (k n : Cluster) : Prop :=
  (0 < k.pause → n.cells = k.cells ∧ n.sel = k.sel ∧ n.stalls = min (k.stalls + 1) 0xFFFFFFFF ∧
    n.scause = k.scause ||| 0x20 ∧ n.pause = k.pause - 1 ∧ n.live = (if k.pause = 1 then !k.live else k.live)) ∧
  (k.pause = 0 → 0 < k.fill → n.fill = k.fill - 1 ∧ n.stalls = min (k.stalls + 1) 0xFFFFFFFF ∧ n.scause = k.scause ||| 0x20) ∧
  (k.pause = 0 → k.fill = 0 → k.sel.run = true → k.stallCause ≠ 0 → n.cells = k.cells ∧ n.lanes = k.lanes ∧ n.sel = k.sel ∧
    n.stalls = min (k.stalls + 1) 0xFFFFFFFF ∧ n.scause = k.scause ||| k.stallCause) ∧
  (k.pause = 0 → k.fill = 0 → k.sel.run = false → n.lanes = [] ∧ (∀ i, i < 16 → n.cell i = { (k.cell i).writeback with outs := [] }) ∧
    (k.sel.cmd = none → n.sel = k.sel)) ∧
  (k.pause = 0 → k.fill = 0 → (k.sel.run = true → k.stallCause = 0) → k.chooses n)

theorem paused_cycled {k : Cluster} (hp : 0 < k.pause) : k.cycled k.paused := by
  refine ⟨fun _ => ?_, fun h => absurd h (by omega), fun h => absurd h (by omega), fun h => absurd h (by omega), fun h => absurd h (by omega)⟩
  unfold Cluster.paused
  by_cases h1 : k.pause = 1
  · rw [if_pos h1, if_pos h1, h1]
    exact ⟨rfl, rfl, rfl, rfl, rfl, rfl⟩
  · rw [if_neg h1, if_neg h1]
    exact ⟨rfl, rfl, rfl, rfl, rfl, rfl⟩

theorem paused_writing (k : Cluster) : k.paused.writing = k.writing := by
  unfold Cluster.paused
  split <;> rfl

/-- A fill cycle counts, whatever words it writes. -/
theorem fillCycle_counts (k : Cluster) : k.fillCycle.fill = k.fill - 1 ∧ k.fillCycle.stalls = min (k.stalls + 1) 0xFFFFFFFF ∧
    k.fillCycle.scause = k.scause ||| 0x20 ∧ k.fillCycle.writing = k.writing := by
  unfold Cluster.fillCycle
  split
  · exact ⟨rfl, rfl, rfl, rfl⟩
  · rw [foldl_setCell_frame]
    · simp only [Cluster.stall, satAdd, and_self]
    · intro k i
      split <;> rfl

theorem filled_cycled {k : Cluster} (hp : k.pause = 0) (hf : 0 < k.fill) : k.cycled k.filled ∧ k.filled.writing = k.writing := by
  suffices h : k.filled.fill = k.fill - 1 ∧ k.filled.stalls = min (k.stalls + 1) 0xFFFFFFFF ∧ k.filled.scause = k.scause ||| 0x20 ∧
      k.filled.writing = k.writing by
    obtain ⟨h1, h2, h3, h4⟩ := h
    exact ⟨⟨fun h => absurd h (by omega), fun _ _ => ⟨h1, h2, h3⟩, fun _ h => absurd h (by omega), fun _ h => absurd h (by omega),
      fun _ h => absurd h (by omega)⟩, h4⟩
  unfold Cluster.filled Cluster.startSelection
  split
  · split
    · exact fillCycle_counts k
    · rw [selEnter_keeps k.fillCycle k.fillCycle k.fillCycle 0]
      exact fillCycle_counts k
  · exact fillCycle_counts k

theorem stalled_cycled {k : Cluster} (hp : k.pause = 0) (hf : k.fill = 0) (hr : k.sel.run = true) (hc : k.stallCause ≠ 0) :
    k.cycled (k.stall k.stallCause) :=
  ⟨fun h => absurd h (by omega), fun _ h => absurd h (by omega), fun _ _ _ _ => ⟨rfl, rfl, rfl, rfl, rfl⟩, fun _ _ h => absurd (hr.symm.trans h) (by decide),
    fun _ _ h => absurd (h hr) hc⟩

theorem parked_cycled {k : Cluster} (hp : k.pause = 0) (hf : k.fill = 0) (hr : k.sel.run = false) : k.cycled (selNext k k k.parkedCells) := by
  have hsel := parkedCells_sel k
  refine ⟨fun h => absurd h (by omega), fun _ h => absurd h (by omega), fun _ _ h => absurd (hr.symm.trans h) (by decide), fun _ _ _ => ⟨?_, fun i hi => ?_, fun h => ?_⟩,
    fun _ _ _ => selNext_chooses hsel⟩
  · exact (selNext_lanes k k k.parkedCells).trans (parkedCells_lanes k)
  · exact (selNext_cell k k k.parkedCells i).trans (parkedCells_cell k hi)
  · rw [selNext_parked h hr, hsel]

theorem advanced_cycled {k now : Cluster} (hp : k.pause = 0) (hf : k.fill = 0) (hr : k.sel.run = true) (hc : k.stallCause = 0) (hs : now.sel = k.sel) :
    k.cycled (selNext k k now) :=
  ⟨fun h => absurd h (by omega), fun _ h => absurd h (by omega), fun _ _ _ h => absurd hc h, fun _ _ h => absurd (hr.symm.trans h) (by decide),
    fun _ _ _ => selNext_chooses hs⟩

theorem cycled_of_core {k m n : Cluster} (h : m.core = n.core) (hn : k.cycled n) : k.cycled m := by
  have hc : k.cycled n.core := hn
  rw [← h] at hc
  exact hc

/-- The cycle of a cluster on its own, whichever of the five it is. -/
theorem cycleBody_cycled {s : State} {c : Nat} (hw : (s.cl c).writing = []) (hf : (s.cl c).pause = 1 → (s.cl c).failing.length ≤ 1)
    (hbad : ∀ i w, i < 16 → sget 0 ((s.cl c).cell i).bad w < 2) :
    ∃ n : Cluster, s.inArray (s.cycleBody c) ∧ ((s.cycleBody c).cl c).core = n.core ∧ n.writing = [] ∧ (s.cl c).cycled n := by
  rcases Nat.eq_zero_or_pos (s.cl c).pause with hp | hp
  · rcases Nat.eq_zero_or_pos (s.cl c).fill with hfill | hfill
    · cases hr : (s.cl c).sel.run
      · rw [cycleBody_parked hp hfill hr, cl_setCl]
        exact ⟨_, setCl_inArray _ _ _, rfl, ((selNext_writing _ _ _).trans (parkedCells_writing _)).trans hw, parked_cycled hp hfill hr⟩
      · rw [cycleBody_run hp hfill hr]
        by_cases hc : (s.cl c).stallCause = 0
        · obtain ⟨now, hsel, hwr, harr, hcore⟩ := runCycle_advance hc hbad
          exact ⟨_, harr, hcore, (selNext_writing _ _ _).trans (hwr.trans hw), advanced_cycled hp hfill hr hc hsel⟩
        · rw [runCycle_stall hc, cl_setCl]
          exact ⟨_, setCl_inArray _ _ _, rfl, hw, stalled_cycled hp hfill hr hc⟩
    · obtain ⟨hcyc, hwr⟩ := filled_cycled hp hfill
      rw [cycleBody_filled hp hfill, cl_setCl]
      exact ⟨_, setCl_inArray _ _ _, rfl, hwr.trans hw, hcyc⟩
  · rw [cycleBody_paused hp hf, cl_setCl]
    exact ⟨_, setCl_inArray _ _ _, rfl, (paused_writing _).trans hw, paused_cycled hp⟩

/-- Settles O33: a cycle's body is that of a pause, a fill, a parked, a stalled or an advancing cycle, and the queues' upkeep and the ports leave the
cluster's core as it is. -/
theorem clusterCycles : Obligations.ClusterCycles := by
  unfold Obligations.ClusterCycles
  intro s c hs hmode hrole hck hcom hw hf hbad
  obtain ⟨n, harr, hcore, hnw, hcyc⟩ := cycleBody_cycled hw hf hbad
  obtain ⟨t, hx, ht, hk⟩ := clusterCycle_core hs hmode hrole (cycleGoes_alone hmode hrole hck hcom) harr hcore hnw
  obtain ⟨hpause, hfill, hstall, hpark, hchoose⟩ := cycled_of_core hk hcyc
  have hnoc : t.noc = { s.noc with packets := t.noc.packets, nextId := t.noc.nextId, inits := t.noc.inits } := congrArg State.noc ht
  refine ⟨t, hx, ?_, hnoc, hpause, hfill, hstall, hpark, hchoose⟩
  rw [hnoc]
  exact ht

end Sys2Proof.Machine

/-! O34: accesses to a cluster's cell and data memories, and its context control. -/

namespace Sys2Proof.Machine

/-! ### Fields of a number, and bytes of a word -/

theorem fld_mod {x lo n w : Nat} (h : lo + n ≤ w) : fld (x % 2 ^ w) lo n = fld x lo n := by
  rw [fld_eq_div_mod, fld_eq_div_mod, ← Nat.mod_mul_right_div_self, ← Nat.mod_mul_right_div_self, ← pow_add,
    Nat.mod_mod_of_dvd _ (pow_dvd_pow 2 h)]

theorem putFld_eq (x lo n v : Nat) : putFld x lo n v = 2 ^ lo * (2 ^ n * (x / 2 ^ lo / 2 ^ n) + v % 2 ^ n) + x % 2 ^ lo := by
  have hx := Nat.div_add_mod x (2 ^ lo)
  have hq := Nat.div_add_mod (x / 2 ^ lo) (2 ^ n)
  unfold putFld
  rw [fld_eq_div_mod]
  generalize x / 2 ^ lo / 2 ^ n = a at *
  generalize x / 2 ^ lo % 2 ^ n = b at *
  generalize x % 2 ^ lo = r at *
  rw [← hq] at hx
  rw [← hx, Nat.mul_add, Nat.mul_add, Nat.mul_comm b (2 ^ lo), Nat.mul_comm (v % 2 ^ n) (2 ^ lo)]
  omega

theorem fld_putFld_same (x lo n v : Nat) : fld (putFld x lo n v) lo n = v % 2 ^ n := by
  rw [putFld_eq, fld_eq_div_mod, Nat.mul_add_div (Nat.two_pow_pos lo), Nat.div_eq_of_lt (Nat.mod_lt x (Nat.two_pow_pos lo)), Nat.add_zero,
    Nat.mul_add_mod, Nat.mod_mod]

theorem fld_putFld_other {x lo n v lo' n' : Nat} (h : lo' + n' ≤ lo ∨ lo + n ≤ lo') : fld (putFld x lo n v) lo' n' = fld x lo' n' := by
  rcases h with h | h
  · rw [← fld_mod (x := putFld x lo n v) h, ← fld_mod (x := x) h, putFld_eq, Nat.mul_add_mod, Nat.mod_mod]
  · obtain ⟨e, rfl⟩ := Nat.exists_eq_add_of_le h
    have hdiv : putFld x lo n v / 2 ^ (lo + n) = x / 2 ^ (lo + n) := by
      rw [putFld_eq, pow_add, ← Nat.div_div_eq_div_mul, Nat.mul_add_div (Nat.two_pow_pos lo), Nat.div_eq_of_lt (Nat.mod_lt x (Nat.two_pow_pos lo)),
        Nat.add_zero, Nat.mul_add_div (Nat.two_pow_pos n), Nat.div_eq_of_lt (Nat.mod_lt v (Nat.two_pow_pos n)), Nat.add_zero, Nat.div_div_eq_div_mul]
    rw [fld_eq_div_mod, fld_eq_div_mod, pow_add, ← Nat.div_div_eq_div_mul, ← Nat.div_div_eq_div_mul, hdiv]

theorem byteOf_setByteOf {n : Nat} (v : BitVec n) {i j : Nat} (hj : 8 * j + 8 ≤ n) (x : Byte) :
    byteOf (setByteOf v i x) j = if j = i then x else byteOf v j := by
  unfold byteOf setByteOf
  rw [BitVec.toNat_ofNat, fld_mod hj]
  by_cases h : j = i
  · rw [if_pos h, h, fld_putFld_same, Nat.mod_eq_of_lt x.isLt]
    exact BitVec.eq_of_toNat_eq (by simp)
  · rw [if_neg h, fld_putFld_other (by omega)]

/-! ### Bytes of the cell memories -/

/-- Byte a of a cluster's cell memories. -/
def Cluster.memByte (k : Cluster) (a : Nat) : Byte := wordByte 16 (k.cell (a / 32768)).mem (a % 32768)

/-- A cluster with byte a of its cell memories written. -/
def Cluster.putMemByte (k : Cluster) (a : Nat) (b : Byte) : Cluster :=
  k.setCell (a / 32768) ((k.cell (a / 32768)).writeMem (a % 32768 / 16)
    (setByteOf (sget 0 (k.cell (a / 32768)).mem (a % 32768 / 16)) (a % 16) b))

theorem memByte_putMemByte (k : Cluster) (a x : Nat) (b : Byte) : (k.putMemByte a b).memByte x = if x = a then b else k.memByte x := by
  unfold Cluster.memByte Cluster.putMemByte wordByte
  by_cases hc : x / 32768 = a / 32768
  · rw [hc, cluster_cell_setCell]
    unfold Cell.writeMem
    by_cases hw : x % 32768 / 16 = a % 32768 / 16
    · dsimp only
      rw [hw, sget_sput_same, byteOf_setByteOf _ (by omega)]
      exact if_congr (by omega) rfl rfl
    · dsimp only
      rw [sget_sput_other _ _ _ hw, if_neg (fun h => hw (by rw [h]))]
  · rw [cluster_cell_setCell_ne _ _ hc, if_neg (fun h => hc (by rw [h]))]

/-- A state differs from another in the cells of one cluster alone. -/
def State.cellsOnly (s : State) (c : Nat) (u : State) : Prop := u = { s with cls := u.cls } ∧ u.cl c = { s.cl c with cells := (u.cl c).cells }

theorem cellsOnly_refl (s : State) (c : Nat) : s.cellsOnly c s := ⟨rfl, rfl⟩

theorem State.cellsOnly.trans {s t u : State} {c : Nat} (h : s.cellsOnly c t) (k : t.cellsOnly c u) : s.cellsOnly c u := by
  obtain ⟨h1, h2⟩ := h
  obtain ⟨k1, k2⟩ := k
  constructor
  · rw [h1] at k1
    exact k1
  · rw [h2] at k2
    exact k2

theorem updCl_cellsOnly {s : State} {c : Nat} {f : Cluster → Cluster} (h : f (s.cl c) = { s.cl c with cells := (f (s.cl c)).cells }) :
    s.cellsOnly c (s.updCl c f) := ⟨rfl, by rw [cl_updCl]; exact h⟩

theorem putMemBytes_spec (c a : Nat) : ∀ (bs : List Byte) (n : Nat) (s : State),
    let u := (bs.zipIdx n).foldl (fun s (b, i) => s.updCl c (·.putMemByte (a + i) b)) s
    s.cellsOnly c u ∧ ∀ x, (u.cl c).memByte x = if a + n ≤ x ∧ x < a + n + bs.length then (bs[x - (a + n)]?).getD 0 else (s.cl c).memByte x
  | [], n, s => ⟨cellsOnly_refl s c, fun x => by rw [if_neg (by simp)]; rfl⟩
  | b :: bs, n, s => by
    obtain ⟨hc, hb⟩ := putMemBytes_spec c a bs (n + 1) (s.updCl c (·.putMemByte (a + n) b))
    refine ⟨(updCl_cellsOnly rfl).trans hc, fun x => ?_⟩
    rw [List.zipIdx_cons, List.foldl_cons, hb x, cl_updCl, memByte_putMemByte]
    by_cases hx : x = a + n
    · rw [if_neg (by omega), if_pos hx, if_pos (by simp; omega), hx, Nat.sub_self]
      rfl
    · rw [if_neg hx]
      by_cases hin : a + n + 1 ≤ x ∧ x < a + n + 1 + bs.length
      · rw [if_pos (by omega), if_pos (by simp; omega), show x - (a + n) = x - (a + (n + 1)) + 1 by omega]
        rfl
      · rw [if_neg (by omega), if_neg (by simp; omega)]

theorem cellMemWrite_spec {s : State} (h : s.sys.mode ≠ 3) (c a : Nat) (bs : List Byte) :
    s.cellsOnly c (s.cellMemWrite c a bs) ∧
      ∀ x, ((s.cellMemWrite c a bs).cl c).memByte x = if a ≤ x ∧ x < a + bs.length then (bs[x - a]?).getD 0 else (s.cl c).memByte x := by
  have hw : s.cellMemWrite c a bs = (bs.zipIdx 0).foldl (fun s (b, i) => s.updCl c (·.putMemByte (a + i) b)) s := by
    unfold State.cellMemWrite
    rw [withTwin_unpaired h]
    rfl
  rw [hw]
  exact putMemBytes_spec c a bs 0 s

/-! ### Answers -/

/-- An answer goes by the network and the memory alone, whatever the clusters hold. -/
theorem respond_cls (s : State) (m : SMap Cluster) (h : Held) (st : Nat) (d : List Byte) :
    ({ s with cls := m }).respond h st d = { s.respond h st d with cls := m } := by
  unfold State.respond
  split <;> rfl

theorem respond_ofCls {s u : State} (hu : u = { s with cls := u.cls }) (h : Held) (st : Nat) (d : List Byte) :
    u.respond h st d = { s.respond h st d with cls := u.cls } := by
  rw [hu]
  exact respond_cls s u.cls h st d

theorem respond_cl (s : State) (h : Held) (st : Nat) (d : List Byte) (c : Nat) : (s.respond h st d).cl c = s.cl c := by
  unfold State.respond
  split <;> rfl

theorem State.cellsOnly.respond {s u : State} {c : Nat} (h : s.cellsOnly c u) (x : Held) (st : Nat) (d : List Byte) :
    (u.respond x st d).noc = (s.respond x st d).noc ∧ (u.respond x st d).cl c = { s.cl c with cells := (u.cl c).cells } := by
  obtain ⟨h1, h2⟩ := h
  exact ⟨by rw [respond_ofCls h1], (respond_cl u x st d c).trans h2⟩

/-! ### Accesses that wait at a cell -/

/-- The cluster without an access that has taken its port. -/
def State.taking (s : State) (c : Nat) (h : Held) : State := s.updCl c fun k => { k with cellWait := k.cellWait.erase h }

theorem taking_ofCls (s : State) (c : Nat) (h : Held) : s.taking c h = { s with cls := (s.taking c h).cls } := rfl

theorem cellMemoryAccess_of {s : State} {c : ClId} {cell : CellId} {h : Held} (hs : s.live = true)
    (hf : (s.cl c).cellWait.find? (fun x => decide (x.off / 32768 = cell.val)) = some h) (hr : s.islandRuns c = true) :
    exec (.cellMemoryAccess c cell) s = .next (
      if s.loader.barrier.contains c && decide (h.who ≠ loaderId) then (s.taking c h).respond h 3 []
      else match h.data with
        | some d =>
          if s.writePortBusy c cell then s
          else if s.clocked c then (s.taking c h).updCl c (fun k => { k with writing := k.writing ++ [h] })
          else ((s.taking c h).cellMemWrite c h.off d).respond h 0 []
        | none =>
          if s.readPortBusy c cell then s
          else
            let (bs, s) := (s.taking c h).cellMemRead c h.off h.nbytes
            (if s.clocked c then s.updCl c (fun k => { k with reading := k.reading ++ [cell.val] }) else s).respond h 0 bs) := by
  refine (exec_of_act (f := fun s => s.cellAccess c.val cell.val) hs rfl).trans (congrArg Host.Outcome.next ?_)
  unfold State.cellAccess
  dsimp only
  rw [hf, hr]
  rfl

/-- Whether cycles occur goes by the stop and the image of the cluster, and by no other cluster. -/
theorem clocked_ofCls {s u : State} {c : Nat} (hu : u = { s with cls := u.cls }) (hs : (u.cl c).stopped = (s.cl c).stopped)
    (hd : (u.cl c).digest = (s.cl c).digest) : u.clocked c = s.clocked c := by
  have hr : u.islandRuns c = s.islandRuns c := by
    rw [hu]
    rfl
  unfold State.clocked
  rw [hr, hs, hd]

theorem State.cellsOnly.clocked {s u : State} {c : Nat} (h : s.cellsOnly c u) : u.clocked c = s.clocked c := by
  obtain ⟨h1, h2⟩ := h
  exact clocked_ofCls h1 (by rw [h2]) (by rw [h2])

/-- A cell's memory with the flags of its words, which a read leaves as they are. -/
def Cluster.stored (k : Cluster) (i : Nat) : SMap Word × SMap Nat := ((k.cell i).mem, (k.cell i).bad)

theorem memByte_of_stored {k n : Cluster} (h : ∀ i, n.stored i = k.stored i) (x : Nat) : n.memByte x = k.memByte x := by
  unfold Cluster.memByte
  rw [show (n.cell (x / 32768)).mem = (k.cell (x / 32768)).mem from congrArg Prod.fst (h (x / 32768))]

theorem cellMemRead_spec {s : State} {c : Nat} (hbad : ∀ i w, sget 0 ((s.cl c).cell i).bad w < 2) (a n : Nat) :
    s.cellsOnly c (s.cellMemRead c a n).2 ∧ (∀ x, ((s.cellMemRead c a n).2.cl c).memByte x = (s.cl c).memByte x) ∧
      (s.cellMemRead c a n).1 = (List.range n).map fun i => (s.cl c).memByte (a + i) := by
  suffices h : s.cellsOnly c (s.cellMemRead c a n).2 ∧ ∀ i, ((s.cellMemRead c a n).2.cl c).stored i = (s.cl c).stored i by
    obtain ⟨h1, h2⟩ := h
    refine ⟨h1, memByte_of_stored h2, List.map_congr_left fun i _ => ?_⟩
    exact memByte_of_stored h2 (a + i)
  refine forAll_keeps (P := fun u => s.cellsOnly c u ∧ ∀ i, (u.cl c).stored i = (s.cl c).stored i) ?_ _ s ⟨cellsOnly_refl s c, fun _ => rfl⟩
  rintro u w ⟨hu, hst⟩
  have hgood : (((u.cl c).cell (w / 2048)).readMem (w % 2048)).2.2 = false := by
    refine readMem_good (fun v => ?_) _
    rw [show ((u.cl c).cell (w / 2048)).bad = ((s.cl c).cell (w / 2048)).bad from congrArg Prod.snd (hst (w / 2048))]
    exact hbad _ v
  dsimp only
  rw [hgood, if_neg Bool.false_ne_true]
  refine ⟨hu.trans (updCl_cellsOnly rfl), fun i => ?_⟩
  rw [cl_updCl, ← hst i]
  unfold Cluster.stored
  by_cases hi : i = w / 2048
  · rw [hi, cluster_cell_setCell]
  · rw [cluster_cell_setCell_ne _ _ hi]

theorem taking_cl (s : State) (c : Nat) (h : Held) : (s.taking c h).cl c = { s.cl c with cellWait := (s.cl c).cellWait.erase h } := cl_updCl s c _

theorem memByte_waiting (k : Cluster) (l : List Held) (a : Nat) : { k with cellWait := l }.memByte a = k.memByte a := rfl

theorem taking_respond (s : State) (c : Nat) (h x : Held) (st : Nat) (d : List Byte) : ((s.taking c h).respond x st d).noc = (s.respond x st d).noc := by
  rw [respond_ofCls (taking_ofCls s c h)]

section
variable {s : State} {c : ClId} {cell : CellId} {h : Held} {d : List Byte}

theorem barred_of {b : Bool} (hb : b = false ∨ h.who = loaderId) : ¬ (b && decide (h.who ≠ loaderId)) = true := by
  rcases hb with rfl | hw
  · rw [Bool.false_and]
    exact Bool.false_ne_true
  · rw [hw]
    simp

theorem cellMemoryAccess_barred (hs : s.live = true) (hf : (s.cl c).cellWait.find? (fun x => decide (x.off / 32768 = cell.val)) = some h)
    (hr : s.islandRuns c = true) (hb : s.loader.barrier.contains c.val = true) (hw : h.who ≠ loaderId) :
    exec (.cellMemoryAccess c cell) s = .next ((s.taking c h).respond h 3 []) := by
  rw [cellMemoryAccess_of hs hf hr, hb, decide_eq_true hw]
  rfl

theorem cellMemoryAccess_writes (hs : s.live = true) (hf : (s.cl c).cellWait.find? (fun x => decide (x.off / 32768 = cell.val)) = some h)
    (hr : s.islandRuns c = true) (hb : s.loader.barrier.contains c.val = false ∨ h.who = loaderId) (hd : h.data = some d)
    (hfree : s.writePortBusy c cell = false) :
    exec (.cellMemoryAccess c cell) s = .next (
      if s.clocked c then (s.taking c h).updCl c (fun k => { k with writing := k.writing ++ [h] })
      else ((s.taking c h).cellMemWrite c h.off d).respond h 0 []) := by
  rw [cellMemoryAccess_of hs hf hr, if_neg (barred_of hb)]
  simp only [hd, hfree, Bool.false_eq_true, if_false]

theorem cellMemoryAccess_reads (hs : s.live = true) (hf : (s.cl c).cellWait.find? (fun x => decide (x.off / 32768 = cell.val)) = some h)
    (hr : s.islandRuns c = true) (hb : s.loader.barrier.contains c.val = false ∨ h.who = loaderId) (hd : h.data = none)
    (hfree : s.readPortBusy c cell = false) :
    let r := (s.taking c h).cellMemRead c h.off h.nbytes
    exec (.cellMemoryAccess c cell) s = .next (
      (if r.2.clocked c then r.2.updCl c (fun k => { k with reading := k.reading ++ [cell.val] }) else r.2).respond h 0 r.1) := by
  rw [cellMemoryAccess_of hs hf hr, if_neg (barred_of hb)]
  simp only [hd, hfree, Bool.false_eq_true, if_false]

end

/-! ### Writes at the end of a cycle -/

theorem portsEnd_one {s : State} {c : Nat} {h : Held} {d : List Byte} (hw : (s.cl c).writing = [h]) (hd : h.data = some d) :
    s.portsEnd c = ((s.updCl c fun k => { k with writing := [], reading := [] }).cellMemWrite c h.off d).respond h 0 [] := by
  unfold State.portsEnd
  rw [hw, List.foldl_cons, List.foldl_nil, hd]
  rfl

theorem portsEnd_spec {s : State} (hm : s.sys.mode ≠ 3) {c : Nat} {h : Held} {d : List Byte} (hw : (s.cl c).writing = [h]) (hd : h.data = some d) :
    (s.portsEnd c).noc = (s.respond h 0 []).noc ∧ ((s.portsEnd c).cl c).writing = [] ∧ ((s.portsEnd c).cl c).reading = [] ∧
      ∀ a, ((s.portsEnd c).cl c).memByte a = if h.off ≤ a ∧ a < h.off + d.length then (d[a - h.off]?).getD 0 else (s.cl c).memByte a := by
  rw [portsEnd_one hw hd]
  obtain ⟨hu, hb⟩ := cellMemWrite_spec (s := s.updCl c fun k => { k with writing := [], reading := [] }) hm c h.off d
  obtain ⟨hnoc, hcl⟩ := hu.respond h 0 []
  rw [cl_updCl] at hcl
  refine ⟨hnoc.trans (by rw [respond_ofCls (s := s) rfl]), by rw [hcl], by rw [hcl], fun a => ?_⟩
  rw [respond_cl, hb a, cl_updCl]
  rfl

/-! ### Accesses to a sequencer's data memory -/

theorem winArea_dmem {o : Nat} (h1 : 0x810000 ≤ o) (h2 : o < 0x820000) : winArea o = some 4 := by
  unfold winArea
  rw [if_neg (by omega), if_neg (by simp; omega), if_neg (by simp; omega), if_neg (by simp; omega), if_pos (by simp; omega)]

theorem sequencerMemoryAccess_of {s : State} {c : ClId} {h : Held} {rest : List Held} (hs : s.live = true) (hd : (s.cl c).dmemWait = h :: rest)
    (hr : s.islandRuns c = true) :
    let u := s.updCl c (fun k => { k with dmemWait := rest })
    let a := match h.data with
      | some d => u.winWrite h.who c h.off d
      | none => u.winRead h.who c h.off h.nbytes
    exec (.sequencerMemoryAccess c) s = .next (a.st.respond h a.status a.data) := by
  refine (exec_of_act (f := fun s => s.seqAccess c.val) hs rfl).trans (congrArg Host.Outcome.next ?_)
  unfold State.seqAccess
  rw [hd, hr]
  rfl

theorem winRead_dmem {s : State} {who c o n : Nat} (h1 : 0x810000 ≤ o) (hn : 1 ≤ n) (h2 : o + n ≤ 0x820000) (hb : s.loader.barrier.contains c = false) :
    s.winRead who c o n = ⟨0, (List.range n).map (fun i => sget 0 (s.cl c).seq.dmem (o - 0x810000 + i)), s⟩ := by
  unfold State.winRead
  rw [winArea_dmem h1 (by omega), winArea_dmem (o := o + n - 1) (by omega) (by omega), hb]
  rfl

theorem winWrite_dmem {s : State} (hm : s.sys.mode ≠ 3) {who c o : Nat} {bs : List Byte} (h1 : 0x810000 ≤ o) (hn : 1 ≤ bs.length) (h2 : o + bs.length ≤ 0x820000)
    (hb : s.loader.barrier.contains c = false) :
    s.winWrite who c o bs = ⟨0, [], s.updSeq c (fun q =>
      { q with dmem := (bs.zipIdx).foldl (fun m (b, i) => sput 0 m (o - 0x810000 + i) b) q.dmem })⟩ := by
  unfold State.winWrite
  dsimp only
  rw [winArea_dmem h1 (by omega), winArea_dmem (o := o + bs.length - 1) (by omega) (by omega), hb, withTwin_unpaired hm]
  rfl

/-! ### Context control -/

theorem ctxRunWrite_unpaired {s : State} (hm : s.sys.mode ≠ 3) (c v : Nat) : s.ctxRunWrite c v = s.updCl c (·.ctxRun (bit v 8) (bit v 9) (v % 128)) := by
  unfold State.ctxRunWrite
  rw [withTwin_unpaired hm]
  rfl

theorem ctxRun_refuses {k : Cluster} {start park : Bool} (h : 0 < k.fill ∨ 0 < k.pause ∨ k.role = 2 ∨ (start && park) = true) (e : Nat) :
    k.ctxRun start park e = { k with sel := { k.sel with cmderr := true } } := by
  unfold Cluster.ctxRun
  rw [if_pos]
  rcases h with h | h | h | h <;> simp [h]

theorem ctxRun_asks {k : Cluster} {start park : Bool} (hf : k.fill = 0) (hp : k.pause = 0) (hr : k.role ≠ 2) (h : start = !park) (e : Nat) :
    k.ctxRun start park e = { k with sel := { k.sel with cmd := some (if start then .start e else .park) } } := by
  unfold Cluster.ctxRun
  rw [if_neg (by rw [h, hf, hp]; simpa using hr), if_neg (by rw [h]; simp)]

theorem startBits (both : Bool) (e : BitVec 7) : bit (256 + 512 * b2n both + e.toNat) 8 = true ∧ bit (256 + 512 * b2n both + e.toNat) 9 = both ∧
    (256 + 512 * b2n both + e.toNat) % 128 = e.toNat := by
  have he := e.isLt
  simp only [bit, fld_eq_div_mod]
  cases both
  · rw [show b2n false = 0 from rfl]
    refine ⟨decide_eq_true ?_, decide_eq_false ?_, ?_⟩ <;> omega
  · rw [show b2n true = 1 from rfl]
    refine ⟨decide_eq_true ?_, decide_eq_true ?_, ?_⟩ <;> omega

section
variable {s : State} {who : InitId} {c : ClId}

theorem start_exec (hs : s.live = true) (entry : BitVec 7) (both : Bool) : exec (.start who c entry both) s = .next (
    if s.ctxRights who (s.redir c) then s.ctxRunWrite (s.redir c) (256 + 512 * b2n both + entry.toNat) else s.emit (.regValue none)) :=
  exec_of_act (f := fun s => if s.ctxRights who (s.redir c) then s.ctxRunWrite (s.redir c) (256 + 512 * b2n both + entry.toNat)
    else s.emit (.regValue none)) hs rfl

theorem park_exec (hs : s.live = true) : exec (.park who c) s = .next (
    if s.ctxRights who (s.redir c) then s.ctxRunWrite (s.redir c) 512 else s.emit (.regValue none)) :=
  exec_of_act (f := fun s => if s.ctxRights who (s.redir c) then s.ctxRunWrite (s.redir c) 512 else s.emit (.regValue none)) hs rfl

theorem tick_exec (hs : s.live = true) : exec (.ctxCtickLoRead who c) s = .next (
    if s.ctxRights who (s.redir c) then
      match (s.cl (s.redir c)).ctxRead 0x10 with
      | some (v, k) => (s.setCl (s.redir c) k).emit (.regValue (some (BitVec.ofNat 64 v)))
      | none => s
    else s.emit (.regValue none)) :=
  exec_of_act (f := fun s => if s.ctxRights who.val (s.redir c.val) then
      match (s.cl (s.redir c.val)).ctxRead 0x10 with
      | some (v, k) => (s.setCl (s.redir c.val) k).emit (.regValue (some (BitVec.ofNat 64 v)))
      | none => s
    else s.emit (.regValue none)) hs rfl

theorem start_of (hs : s.live = true) (hr : s.ctxRights who (s.redir c) = true) (hm : s.sys.mode ≠ 3) (entry : BitVec 7) (both : Bool) :
    exec (.start who c entry both) s = .next (s.updCl (s.redir c) (·.ctxRun true both entry.toNat)) := by
  rw [start_exec hs]
  obtain ⟨h8, h9, he⟩ := startBits both entry
  rw [if_pos hr, ctxRunWrite_unpaired hm, h8, h9, he]

theorem park_of (hs : s.live = true) (hr : s.ctxRights who (s.redir c) = true) (hm : s.sys.mode ≠ 3) :
    exec (.park who c) s = .next (s.updCl (s.redir c) (·.ctxRun false true 0)) := by
  rw [park_exec hs, if_pos hr, ctxRunWrite_unpaired hm]
  rfl

theorem tick_of (hs : s.live = true) (hr : s.ctxRights who (s.redir c) = true) :
    exec (.ctxCtickLoRead who c) s = .next ((s.updCl (s.redir c) fun k => { k with
      ctickLatch := some (BitVec.ofNat 32 (k.ctick.toNat / 2 ^ 32)) }).emit (.regValue (some (BitVec.ofNat 64 ((s.cl (s.redir c)).ctick.toNat % 2 ^ 32))))) := by
  have hread : (s.cl (s.redir c)).ctxRead 0x10 = some ((s.cl (s.redir c)).ctick.toNat % 2 ^ 32, { s.cl (s.redir c) with
      ctickLatch := some (BitVec.ofNat 32 ((s.cl (s.redir c)).ctick.toNat / 2 ^ 32)) }) := by
    have hlow : fld (s.cl (s.redir c)).ctick.toNat 0 32 = (s.cl (s.redir c)).ctick.toNat % 2 ^ 32 := by rw [fld_eq_div_mod, pow_zero, Nat.div_one]
    have hhigh : BitVec.ofNat 32 (fld (s.cl (s.redir c)).ctick.toNat 32 32) = BitVec.ofNat 32 ((s.cl (s.redir c)).ctick.toNat / 2 ^ 32) := by
      rw [fld_eq_div_mod]
      exact BitVec.eq_of_toNat_eq (by simp)
    rw [← hlow, ← hhigh]
    rfl
  rw [tick_exec hs, if_pos hr]
  simp only [hread]
  rfl

end

section
variable {s : State} {c : ClId}

/-- A write to a cell memory in a cluster whose cycles do not occur (R56, R57). -/
theorem stillWrite_spec (hm : s.sys.mode ≠ 3) (h : Held) (d : List Byte) :
    let t := ((s.taking c h).cellMemWrite c h.off d).respond h 0 []
    t.noc = (s.respond h 0 []).noc ∧ (t.cl c).cellWait = (s.cl c).cellWait.erase h ∧ t.seq c = s.seq c ∧
      ∀ a, (t.cl c).memByte a = if h.off ≤ a ∧ a < h.off + d.length then (d[a - h.off]?).getD 0 else (s.cl c).memByte a := by
  intro t
  obtain ⟨hu, hb⟩ := cellMemWrite_spec (s := s.taking c h) hm c h.off d
  obtain ⟨hnoc, hcl⟩ := hu.respond h 0 []
  rw [taking_cl] at hcl
  refine ⟨hnoc.trans (taking_respond s c h h 0 []), by rw [hcl], ?_, fun a => ?_⟩
  · show (t.cl c).seq = (s.cl c).seq
    rw [hcl]
  · rw [respond_cl, hb a, taking_cl]
    rfl

/-- An access that takes read port 1 where cycles occur, and is answered. -/
theorem reading_respond (u : State) (c i : Nat) (b : Bool) (h : Held) (x : List Byte) :
    let t := (if b then u.updCl c (fun k => { k with reading := k.reading ++ [i] }) else u).respond h 0 x
    t.noc = (u.respond h 0 x).noc ∧ t.cl c = { u.cl c with reading := if b then (u.cl c).reading ++ [i] else (u.cl c).reading } := by
  cases b
  · exact ⟨rfl, respond_cl u h 0 x c⟩
  · simp only [if_true]
    rw [respond_cl, cl_updCl, respond_ofCls (s := u) rfl]
    exact ⟨rfl, rfl⟩

theorem memByte_reading (k : Cluster) (l : List Nat) (a : Nat) : { k with reading := l }.memByte a = k.memByte a := rfl

/-- A read of a cell memory (R57): it takes the port where cycles occur. -/
theorem read_spec {h : Held} {cell : CellId} (hbad : ∀ i w, sget 0 ((s.cl c).cell i).bad w < 2) :
    let r := (s.taking c h).cellMemRead c h.off h.nbytes
    let t := (if r.2.clocked c then r.2.updCl c (fun k => { k with reading := k.reading ++ [cell.val] }) else r.2).respond h 0 r.1
    t.noc = (s.respond h 0 ((List.range h.nbytes).map (fun i => (s.cl c).memByte (h.off + i)))).noc ∧
      (t.cl c).cellWait = (s.cl c).cellWait.erase h ∧
      (t.cl c).reading = (if s.clocked c then (s.cl c).reading ++ [cell.val] else (s.cl c).reading) ∧
      ∀ a, (t.cl c).memByte a = (s.cl c).memByte a := by
  obtain ⟨hu, hb, hd⟩ := cellMemRead_spec (s := s.taking c h) (c := c) (by rw [taking_cl]; exact hbad) h.off h.nbytes
  have hck : ((s.taking c h).cellMemRead c h.off h.nbytes).2.clocked c = s.clocked c := by
    refine hu.clocked.trans (clocked_ofCls (taking_ofCls s c h) ?_ ?_)
    · rw [taking_cl]
    · rw [taking_cl]
  have hd' : ((s.taking c h).cellMemRead c h.off h.nbytes).1 = (List.range h.nbytes).map fun i => (s.cl c).memByte (h.off + i) := by
    rw [hd, taking_cl]
    exact List.map_congr_left fun i _ => memByte_waiting _ _ _
  have hb' : ∀ a, (((s.taking c h).cellMemRead c h.off h.nbytes).2.cl c).memByte a = (s.cl c).memByte a := by
    intro a
    rw [hb, taking_cl]
    exact memByte_waiting _ _ _
  obtain ⟨hnoc, hcl⟩ := reading_respond ((s.taking c h).cellMemRead c h.off h.nbytes).2 c cell.val
    (((s.taking c h).cellMemRead c h.off h.nbytes).2.clocked c) h ((s.taking c h).cellMemRead c h.off h.nbytes).1
  have hk := hu.2
  rw [taking_cl] at hk
  refine ⟨hnoc.trans ?_, ?_, ?_, fun a => ?_⟩
  · rw [hd']
    exact (hu.respond h 0 _).1.trans (taking_respond s c h h 0 _)
  · rw [hcl, hk]
  · rw [hcl, hk, hck]
  · rw [hcl, memByte_reading]
    exact hb' a

theorem respond_seq (u : State) (h : Held) (st : Nat) (x : List Byte) (c : Nat) : (u.respond h st x).seq c = u.seq c :=
  congrArg Cluster.seq (respond_cl u h st x c)

theorem updSeq_cl (u : State) (c : Nat) (f : Seq → Seq) : (u.updSeq c f).cl c = { u.cl c with seq := f (u.cl c).seq } := cl_updCl u c _

theorem seq_waiting (u : State) (c : Nat) (l : List Held) : (u.updCl c fun k => { k with dmemWait := l }).seq c = u.seq c := by
  unfold State.seq
  rw [cl_updCl]

/-- A write to a sequencer's data memory (R174). -/
theorem dmemWrite_spec {h : Held} {rest : List Held} {d : List Byte} (hs : s.live = true) (hm : s.sys.mode ≠ 3) (hd : (s.cl c).dmemWait = h :: rest)
    (hr : s.islandRuns c = true) (hoff : 0x810000 ≤ h.off) (hb : s.loader.barrier.contains c.val = false) (hdat : h.data = some d) (hn : 1 ≤ d.length)
    (hend : h.off + d.length ≤ 0x820000) : ∃ t, exec (.sequencerMemoryAccess c) s = .next t ∧
      t.noc = (s.respond h 0 []).noc ∧ (t.cl c).dmemWait = rest ∧ t.seq c = { s.seq c with dmem := (t.seq c).dmem } ∧
      ∀ a, sget 0 (t.seq c).dmem a = if h.off ≤ 0x810000 + a ∧ 0x810000 + a < h.off + d.length then (d[0x810000 + a - h.off]?).getD 0
        else sget 0 (s.seq c).dmem a := by
  have hx := sequencerMemoryAccess_of hs hd hr
  simp only [hdat] at hx
  rw [winWrite_dmem (s := s.updCl c fun k => { k with dmemWait := rest }) hm hoff hn hend hb] at hx
  refine ⟨_, hx, ?_, ?_, ?_, fun a => ?_⟩
  · rw [respond_ofCls (s := s) rfl]
  · rw [respond_cl, updSeq_cl, cl_updCl]
  · rw [respond_seq, seq_updSeq, seq_waiting]
  · rw [respond_seq, seq_updSeq, seq_waiting]
    have hput := sget_foldl_zipIdx (h.off - 0x810000) 0 d 0 (s.seq c).dmem a
    rw [Nat.add_zero] at hput
    refine hput.trans ?_
    by_cases hin : h.off ≤ 0x810000 + a ∧ 0x810000 + a < h.off + d.length
    · rw [if_pos (by omega), if_pos hin, show a - (h.off - 0x810000) = 0x810000 + a - h.off by omega]
    · rw [if_neg (by omega), if_neg hin]

/-- A read of a sequencer's data memory (R174). -/
theorem dmemRead_spec {h : Held} {rest : List Held} (hs : s.live = true) (hd : (s.cl c).dmemWait = h :: rest)
    (hr : s.islandRuns c = true) (hoff : 0x810000 ≤ h.off) (hb : s.loader.barrier.contains c.val = false) (hdat : h.data = none) (hn : 1 ≤ h.nbytes)
    (hend : h.off + h.nbytes ≤ 0x820000) : ∃ t, exec (.sequencerMemoryAccess c) s = .next t ∧
      t.noc = (s.respond h 0 ((List.range h.nbytes).map (fun i => sget 0 (s.seq c).dmem (h.off - 0x810000 + i)))).noc ∧
      t.cl c = { s.cl c with dmemWait := rest } := by
  have hx := sequencerMemoryAccess_of hs hd hr
  simp only [hdat] at hx
  rw [winRead_dmem (s := s.updCl c fun k => { k with dmemWait := rest }) hoff hn hend hb, cl_updCl] at hx
  refine ⟨_, hx, ?_, ?_⟩
  · rw [respond_ofCls (s := s) rfl]
    rfl
  · rw [respond_cl, cl_updCl]

end

theorem updCl_congr {s : State} {c : Nat} {f : Cluster → Cluster} {k : Cluster} (h : f (s.cl c) = k) : s.updCl c f = s.setCl c k := congrArg (s.setCl c) h

/-- Settles O34: each access takes its port or is answered, the writes of a cycle are made at its end, and CTX_RUN registers or refuses a request. -/
theorem clusterAccesses : Obligations.ClusterAccesses := by
  unfold Obligations.ClusterAccesses
  intro s c cell who h rest d entry both hs hm
  refine ⟨fun hf hr => ⟨fun hb hw => cellMemoryAccess_barred hs hf hr hb hw, fun hb hd hfree hck => ?_, fun hb hd _ hfree hck => ?_,
      fun hb hd _ _ hbad hfree => ?_⟩, fun hw hd _ => ?_, fun hrole hg => clusterCycle_alone hs hm hrole hg,
    fun hd hr hoff hb => ⟨fun hdat hn hend => dmemWrite_spec hs hm hd hr hoff hb hdat hn hend, fun hdat hn hend => dmemRead_spec hs hd hr hoff hb hdat hn hend⟩,
    fun hr => ⟨fun hf hp hrole => ⟨?_, ?_⟩, fun hno => ?_, fun hno => ?_, tick_of hs hr⟩, fun hr => ⟨?_, ?_, ?_⟩⟩
  · rw [cellMemoryAccess_writes hs hf hr hb hd hfree, hck, if_pos rfl]
    simp only [State.taking, updCl_updCl]
  · refine ⟨_, (cellMemoryAccess_writes hs hf hr hb hd hfree).trans (by rw [hck]), ?_⟩
    obtain ⟨h1, h2, h3, h4⟩ := stillWrite_spec (s := s) (c := c) hm h d
    exact ⟨h1, h2, h3, fun a _ => h4 a⟩
  · exact ⟨_, cellMemoryAccess_reads hs hf hr hb hd hfree, read_spec hbad⟩
  · obtain ⟨h1, h2, h3, h4⟩ := portsEnd_spec hm hw hd
    exact ⟨h1, h2, h3, fun a _ => h4 a⟩
  · rw [start_of hs hr hm, updCl_congr (ctxRun_asks (start := true) (park := false) hf hp hrole rfl entry.toNat)]
    rfl
  · rw [park_of hs hr hm, updCl_congr (ctxRun_asks (start := false) (park := true) hf hp hrole rfl 0)]
    rfl
  · rw [start_of hs hr hm, updCl_congr (ctxRun_refuses (by simpa using hno) entry.toNat)]
    rfl
  · rw [park_of hs hr hm, updCl_congr (ctxRun_refuses (hno.imp_right (Or.imp_right Or.inl)) 0)]
    rfl
  · rw [start_exec hs, hr]
    rfl
  · rw [park_exec hs, hr]
    rfl
  · rw [tick_exec hs, hr]
    rfl

end Sys2Proof.Machine

/-! O35: the commit of a cluster, and the repair of a cell. What follows a commit (link credits, the end of the load) leaves the clusters as they
are but for their link credits and sequencers: `State.relinks`. -/

namespace Sys2Proof.Machine

/-- A cluster without its link credits and its sequencer. -/
def Cluster.unlinked (k : Cluster) : Cluster := { k with credits := [], linkCreds := [], linkAwait := [], linkEarly := [], seq := {} }

/-- The clusters keep all but their link credits and sequencers. -/
def State.relinks (s t : State) : Prop := ∀ d, (t.cl d).unlinked = (s.cl d).unlinked

theorem relinks_refl (s : State) : s.relinks s := fun _ => rfl

theorem State.relinks.trans {s t u : State} (h : s.relinks t) (k : t.relinks u) : s.relinks u := fun d => (k d).trans (h d)

theorem relinks_of_cls {s t : State} (h : t.cls = s.cls) : s.relinks t := by
  intro d
  unfold State.cl
  rw [h]

theorem setCl_relinks {s : State} {c : Nat} {k : Cluster} (h : k.unlinked = (s.cl c).unlinked) : s.relinks (s.setCl c k) := by
  intro d
  by_cases hd : d = c
  · rw [hd, cl_setCl, h]
  · rw [cl_setCl_ne s k hd]

theorem ite_relinks {s t u : State} {p : Prop} [Decidable p] (ht : s.relinks t) (hu : s.relinks u) : s.relinks (if p then t else u) := by
  split
  · exact ht
  · exact hu

theorem forAll_relinks {f : State → Nat → State} (h : ∀ (s : State) n, s.relinks (f s n)) (l : List Nat) (s : State) : s.relinks (forAll l f s) :=
  forAll_keeps (P := s.relinks) (fun u n (k : s.relinks u) => k.trans (h u n)) l s (relinks_refl s)

theorem forAll_cls {f : State → Nat → State} (h : ∀ (s : State) n, (f s n).cls = s.cls) (l : List Nat) (s : State) : (forAll l f s).cls = s.cls :=
  forAll_keeps (P := fun u => u.cls = s.cls) (fun u n hu => (h u n).trans hu) l s rfl

/-! ### Links of a commit -/

theorem commitLinks_relinks (s : State) (c i : Nat) (o : Cluster) : s.relinks (s.commitLinks c i o) := by
  refine forAll_relinks (fun s e => ?_) _ s
  dsimp only
  split
  · exact relinks_refl s
  · have h : s.relinks (s.setCl c { s.cl c with
        credits := sput 0 (s.cl c).credits e 0, linkCreds := (s.cl c).linkCreds.filter (fun x => decide (x ≠ e))
        linkAwait := (s.cl c).linkAwait.filter (fun x => decide (x ≠ e)), linkEarly := sput 0 (s.cl c).linkEarly e 0 }) := setCl_relinks rfl
    have hmore : ∀ k : Cluster, k.unlinked = (s.cl c).unlinked → s.relinks ((s.setCl c { s.cl c with
        credits := sput 0 (s.cl c).credits e 0, linkCreds := (s.cl c).linkCreds.filter (fun x => decide (x ≠ e))
        linkAwait := (s.cl c).linkAwait.filter (fun x => decide (x ≠ e)), linkEarly := sput 0 (s.cl c).linkEarly e 0 }).setCl c k) := by
      intro k hk
      rw [setCl_setCl]
      exact setCl_relinks hk
    exact ite_relinks h (ite_relinks (hmore _ rfl) (ite_relinks (hmore _ rfl) (hmore _ rfl)))

theorem countEdge_relinks (s : State) (t i : Nat) : s.relinks (s.countEdge t i) := by
  refine forAll_relinks (fun s x => forAll_relinks (fun s e => ?_) _ s) _ s
  dsimp only
  split
  · split
    · exact setCl_relinks rfl
    · exact relinks_refl s
  · split
    · exact setCl_relinks rfl
    · exact relinks_refl s

/-! ### The end of a load -/

theorem complete_cls (s : State) (i : Issuer) (st r : Nat) : (s.complete i st r).cls = s.cls := (congrArg State.cls (complete_upToHost s s i st r) :)

theorem freeHolds_relinks (s : State) (i : Nat) : s.relinks (s.freeHolds i) := by
  refine forAll_relinks (fun s c => ?_) _ s
  split
  · exact relinks_refl s
  · exact setCl_relinks rfl

theorem loadClose_cls (s : State) (i lst findex tick : Nat) : (s.loadClose i lst findex tick).cls = s.cls := by
  have h : ∀ u : State, u.cls = s.cls → (if i = 4 then u.setRope { u.loader.rope with old := none } else u).cls = s.cls := by
    intro u hu
    split
    · rw [setRope_cls, hu]
    · exact hu
  unfold State.loadClose
  dsimp only
  split
  · rw [complete_cls]
    exact h _ (by rw [setKey_cls, setCtx_cls])
  · exact h _ (by rw [setKey_cls, setCtx_cls])

theorem ropeIdleLine_cls (s : State) : s.ropeIdleLine.cls = s.cls := by
  unfold State.ropeIdleLine
  split <;> rfl

theorem fullEnd_cls (s : State) (pins : Bool) : (s.fullEnd pins).cls = s.cls := by
  unfold State.fullEnd
  rw [ropeIdleLine_cls, noteIdle_frame]

theorem bootNext_cls (s : State) (x : LoadCtx) (ok : Bool) : (s.bootNext x ok).cls = s.cls := by
  unfold State.bootNext
  split
  · split
    · rfl
    · split <;> rfl
  · rfl

theorem loadDone_relinks (s : State) (i : Nat) : s.relinks (s.loadDone i) := by
  refine (freeHolds_relinks s i).trans (relinks_of_cls ?_)
  unfold State.loadDone
  dsimp only
  split
  · rw [bootNext_cls, fullEnd_cls]
    exact loadClose_cls _ i 0 0 _
  · split
    · split
      · split
        · exact loadClose_cls _ i 0 0 _
        · exact loadClose_cls _ i 0 0 _
      · exact loadClose_cls _ i 0 0 _
    · exact loadClose_cls _ i 0 0 _

theorem wakeNext_relinks (s : State) : s.relinks s.wakeNext := by
  unfold State.wakeNext
  dsimp only
  split
  · exact relinks_of_cls rfl
  · exact loadDone_relinks s 4

theorem fullIn_relinks (s : State) : s.relinks s.fullIn := by
  have h : s.relinks ({ s with loader := { s.loader with fullCommitted := true } } : State).ropeIdleLine := relinks_of_cls (ropeIdleLine_cls _)
  unfold State.fullIn
  dsimp only
  split
  · split
    · exact h.trans (wakeNext_relinks _)
    · exact h
  · exact h

/-! ### The commit -/

theorem commitOne_relinks {s : State} {c w at_ : Nat} {h : Shadow} (hsh : (s.cl c).shadow = some h) (hat : (s.cl c).commitAt = some at_) :
    (s.setCl c ((s.cl c).commitAtTick h at_ w (s.smap c).retired)).relinks (s.commitOne c w) := by
  unfold State.commitOne
  dsimp only
  rw [hsh, hat]
  refine State.relinks.trans (relinks_of_cls ?_) ((commitLinks_relinks _ c h.ctx _).trans (countEdge_relinks _ c h.ctx))
  rfl

theorem commitCluster_relinks {s : State} {c at_ : Nat} {h : Shadow} (hm : s.sys.mode ≠ 3) (hsh : (s.cl c).shadow = some h) (hrole : h.role = 0)
    (hat : (s.cl c).commitAt = some at_) (hnow : at_ ≤ s.now) (hr : s.islandRuns c = true) (hrep : (s.cl c).repair = none) (hord : s.inOrder at_ = true) :
    (s.setCl c ((s.cl c).commitAtTick h at_ (s.cl c).preCount (s.smap c).retired)).relinks (s.commitCluster c) := by
  have hdue : s.commitDue c = true := by
    unfold State.commitDue State.commitTick State.isTwin
    rw [hsh, hat, lockstep_unpaired hm]
    simp [hnow, hr, hrep, hrole, hord]
  have hgroup : s.commitGroup c = [c] := by
    unfold State.commitGroup
    dsimp only
    rw [hsh]
    dsimp only
    rw [hrole]
    show [c] ++ s.twinsOf [c] = [c]
    rw [twinsOf_unpaired hm]
    rfl
  unfold State.commitCluster
  rw [hdue, hgroup]
  have hone := commitOne_relinks (w := (s.cl c).preCount) hsh hat
  simp only [Bool.not_true, Bool.false_eq_true, if_false, List.foldl_cons, List.foldl_nil, Nat.zero_max, forAll]
  split
  · exact hone
  · split
    · exact hone.trans (fullIn_relinks _)
    · exact hone.trans (loadDone_relinks _ _)

/-! ### What a commit does inside the cluster -/

theorem ofNat_fld (w x lo : Nat) : BitVec.ofNat w (fld x lo w) = BitVec.ofNat w (x / 2 ^ lo) := by
  rw [fld_eq_div_mod]
  exact BitVec.eq_of_toNat_eq (by simp)

theorem sget_foldl_sput {α : Type} [DecidableEq α] (d : α) (f : Nat → α) (o n : Nat) (m : SMap α) (x : Nat) :
    sget d ((List.range n).foldl (fun m i => sput d m (o + i) (f i)) m) x = if o ≤ x ∧ x < o + n then f (x - o) else sget d m x := by
  induction n with
  | zero => rw [if_neg (by omega)]; rfl
  | succ n ih =>
    rw [List.range_succ, List.foldl_append, List.foldl_cons, List.foldl_nil]
    by_cases h : x = o + n
    · rw [h, sget_sput_same, if_pos (by omega), Nat.add_sub_cancel_left]
    · rw [sget_sput_other _ _ _ h, ih]
      exact if_congr (by omega) rfl rfl

theorem sget_foldl_sput_zero {α : Type} [DecidableEq α] (d : α) (f : Nat → α) {n x : Nat} (h : x < n) (m : SMap α) :
    sget d ((List.range n).foldl (fun m i => sput d m i (f i)) m) x = f x := by
  have hf := sget_foldl_sput d f 0 n m x
  simp only [Nat.zero_add, Nat.zero_le, true_and, Nat.sub_zero, if_pos h] at hf
  exact hf

theorem le_foldl_maxOf (f : Nat → Nat) (l : List Nat) : ∀ m, m ≤ l.foldl (fun m i => max m (f i)) m ∧ ∀ i ∈ l, f i ≤ l.foldl (fun m i => max m (f i)) m := by
  induction l with
  | nil => exact fun m => ⟨Nat.le_refl m, fun i hi => absurd hi List.not_mem_nil⟩
  | cons j l ih =>
    intro m
    obtain ⟨h1, h2⟩ := ih (max m (f j))
    refine ⟨Nat.le_trans (Nat.le_max_left m (f j)) h1, fun i hi => ?_⟩
    rcases List.mem_cons.mp hi with rfl | hi
    · exact Nat.le_trans (Nat.le_max_right m (f i)) h1
    · exact h2 i hi

theorem preWords_le_preCount (k : Cluster) {i : Nat} (h : i < 16) : (k.preWords i).length ≤ k.preCount :=
  (le_foldl_maxOf (fun i => (k.preWords i).length) (List.range 16) 0).2 i (List.mem_range.mpr h)

/-- A cell as its initial-value record gives it (R94, R101). -/
theorem commitFrom_spec (y : Cell) (r : BitVec 4224) :
    let x := y.commitFrom r
    let v := r.toNat
    (∀ j, j < 16 → sget 0 x.c j = BitVec.ofNat 128 (v / 2 ^ (128 * j))) ∧
    (∀ j, j < 4 → sget 0 x.acc j = BitVec.ofNat 512 (v / 2 ^ (2048 + 512 * j))) ∧
    x.ap0 = BitVec.ofNat 11 (v / 2 ^ 4096) ∧ x.ap1 = BitVec.ofNat 11 (v / 2 ^ 4128) ∧ x.wp = BitVec.ofNat 11 (v / 2 ^ 4160) ∧
    x.cond = decide (v / 2 ^ 4192 % 2 = 1) ∧ x.stat = 0 ∧ x.flight = [] ∧ x.outs = [] ∧ x.mem = y.mem := by
  refine ⟨fun j hj => ?_, fun j hj => ?_, ofNat_fld _ _ _, ofNat_fld _ _ _, ofNat_fld _ _ _, ?_, rfl, rfl, rfl, rfl⟩
  · exact (sget_foldl_sput_zero 0 (fun j => BitVec.ofNat 128 (fld r.toNat (128 * j) 128)) hj []).trans (ofNat_fld _ _ _)
  · exact (sget_foldl_sput_zero 0 (fun j => BitVec.ofNat 512 (fld r.toNat (2048 + 512 * j) 512)) hj []).trans (ofNat_fld _ _ _)
  · show decide (fld r.toNat 4192 1 = 1) = _
    rw [fld_eq_div_mod, pow_one]

theorem commitAtTick_cell (k : Cluster) (h : Shadow) (t w : Nat) (stays : Bool) {i : Nat} (hi : i < 16) :
    (k.commitAtTick h t w stays).cell i = (k.cell i).commitFrom (sget 0 k.ivr i) :=
  sget_foldl_sput_zero ({} : Cell) (fun i => (k.cell i).commitFrom (sget 0 k.ivr i)) hi k.cells

/-- What a commit leaves of a cluster, link credits and sequencer apart (R101 to R103). -/
theorem committed_of_unlinked {k n : Cluster} {h : Shadow} {t : Nat} {stays : Bool} (hrole : h.role = 0)
    (hn : n.unlinked = (k.commitAtTick h t k.preCount stays).unlinked) :
    n.live = !k.live ∧ n.pbank = !k.pbank ∧ n.mask = h.mask ∧ n.role = 0 ∧ n.startPark = h.park ∧ n.digest = some h.digest ∧
    n.shadow = none ∧ n.commitAt = none ∧ n.lanes = [] ∧ n.ctick = BitVec.ofNat 64 t ∧ n.planes = k.planes ∧ n.prog = k.prog ∧
    n.sel = { k.sel with run := false, rep := 0, plane := 0, lc0 := 0, lc1 := 0, cmd := none, cmderr := k.sel.cmderr || k.sel.cmd.isSome } ∧
    n.fill = k.preCount + 1 ∧ (∀ i, i < 16 → (k.preWords i).length ≤ k.preCount) ∧ n.queues = k.queues ∧ n.sram = k.sram ∧
    (∀ i, i < 16 →
      let x := n.cell i
      let v := (sget 0 k.ivr i).toNat
      (∀ j, j < 16 → sget 0 x.c j = BitVec.ofNat 128 (v / 2 ^ (128 * j))) ∧
      (∀ j, j < 4 → sget 0 x.acc j = BitVec.ofNat 512 (v / 2 ^ (2048 + 512 * j))) ∧
      x.ap0 = BitVec.ofNat 11 (v / 2 ^ 4096) ∧ x.ap1 = BitVec.ofNat 11 (v / 2 ^ 4128) ∧ x.wp = BitVec.ofNat 11 (v / 2 ^ 4160) ∧
      x.cond = decide (v / 2 ^ 4192 % 2 = 1) ∧ x.stat = 0 ∧ x.flight = [] ∧ x.outs = [] ∧ x.mem = (k.cell i).mem) := by
  refine ⟨(congrArg Cluster.live hn :), (congrArg Cluster.pbank hn :), (congrArg Cluster.mask hn :), (congrArg Cluster.role hn :).trans hrole,
    (congrArg Cluster.startPark hn :), (congrArg Cluster.digest hn :), (congrArg Cluster.shadow hn :), (congrArg Cluster.commitAt hn :),
    (congrArg Cluster.lanes hn :), (congrArg Cluster.ctick hn :), (congrArg Cluster.planes hn :), (congrArg Cluster.prog hn :), (congrArg Cluster.sel hn :),
    (congrArg Cluster.fill hn :), fun i hi => preWords_le_preCount k hi, (congrArg Cluster.queues hn :), (congrArg Cluster.sram hn :), fun i hi => ?_⟩
  have hcell : n.cell i = (k.commitAtTick h t k.preCount stays).cell i := (congrArg (fun x : Cluster => x.cell i) hn :)
  rw [hcell, commitAtTick_cell k h t _ stays hi]
  exact commitFrom_spec (k.cell i) (sget 0 k.ivr i)

/-! ### The repair of a cell -/

theorem upTo_spec (x : Nat) : x ≤ upTo 1000 x ∧ upTo 1000 x < x + 1000 ∧ upTo 1000 x % 1000 = 0 := by
  unfold upTo
  omega

/-- Planes put at the places of one half of every cell. -/
theorem sget_half (f : Nat → Nat → Plane) {b : Nat} (hb : b < 2) (n : Nat) (m : SMap Plane) (x : Nat) :
    sget 0 ((List.range n).foldl (fun m i => (List.range 8).foldl (fun m p => sput 0 m (16 * i + 8 * b + p) (f i p)) m) m) x =
      if x / 16 < n ∧ x % 16 / 8 = b then f (x / 16) (x % 8) else sget 0 m x := by
  induction n with
  | zero => rw [if_neg (by omega)]; rfl
  | succ n ih =>
    rw [List.range_succ (n := n), List.foldl_append, List.foldl_cons, List.foldl_nil, sget_foldl_sput 0 (f n), ih]
    by_cases h : 16 * n + 8 * b ≤ x ∧ x < 16 * n + 8 * b + 8
    · rw [if_pos h, if_pos (by omega), show x / 16 = n by omega, show x - (16 * n + 8 * b) = x % 8 by omega]
    · rw [if_neg h]
      exact if_congr (by omega) rfl rfl

section
variable {s : State} {c : ClId} {cell : CellId} {phys : BitVec 5}

theorem regenerate_plane (k : Cluster) {i p : Nat} (hi : i < 16) (hp : p < 8) :
    sget 0 k.regenerate.planes (16 * i + 8 * b2n k.live + p) = sget 0 k.planes (16 * i + 8 * b2n k.live + p) ∧
    (k.copy = none → sget 0 k.regenerate.planes (16 * i + 8 * b2n (!k.live) + p) =
      if k.mask.getLsbD p then sget 0 k.planes (16 * i + 8 * b2n k.live + p) else 0) := by
  have hl := b2n_lt k.live
  have hn := b2n_lt (!k.live)
  have hne : b2n (!k.live) ≠ b2n k.live := by cases k.live <;> decide
  unfold Cluster.regenerate
  dsimp only
  constructor
  · rw [sget_half _ hn, if_neg (by omega)]
  · intro hc
    rw [sget_half _ hn, if_pos (by omega), hc, show (16 * i + 8 * b2n (!k.live) + p) / 16 = i by omega,
      show (16 * i + 8 * b2n (!k.live) + p) % 8 = p by omega, bit_toNat]

theorem log_now (s : State) (code data : Nat) : (s.log code data).now = s.now := by
  obtain ⟨r, hr, -⟩ := log_eq s code data
  rw [hr]
  rfl

theorem spareRepair_of (hs : s.live = true) (hf : (s.cl c).failing = [cell.val]) (hrep : (s.cl c).repair = none) (hsh : (s.cl c).shadow = none)
    (hfill : (s.cl c).fill = 0) (hsp : (s.smap c).spared = false) (hbad : (s.smap c).spareBad = false) (hret : (s.smap c).retired = false)
    (hr : s.islandRuns c = true) :
    exec (.spareRepair c cell phys) s = .next
      (((s.setSmap c { s.smap c with spared := true, lcell := BitVec.ofNat 4 cell, phys := phys }).log 0x10 (c * 2 ^ 24 + cell * 2 ^ 20 + phys.toNat)).setCl c
        { (s.cl c).regenerate with repair := some ⟨cell, upTo 1000 (s.now + 10000)⟩ }) := by
  refine (exec_of_act (f := fun s => s.beginRepair c.val cell.val phys) hs rfl).trans (congrArg Host.Outcome.next ?_)
  unfold State.beginRepair
  dsimp only
  rw [hf, hrep, hsh, hfill, hsp, hbad, hret, hr]
  simp only [List.head?_cons, ne_eq, not_true_eq_false, decide_false, Option.isSome_none, Nat.lt_irrefl, Bool.not_true, Bool.or_self, Bool.false_eq_true, if_false, log_now]
  rfl

theorem log_smap (s : State) (code data i : Nat) : (s.log code data).smap i = s.smap i := by
  obtain ⟨r, hr, hu⟩ := log_eq s code data
  have hm : r.smap = s.rel.smap := (congrArg Rel.smap hu :)
  unfold State.smap
  rw [hr, hm]

theorem setCl_smap (s : State) (c : Nat) (k : Cluster) (i : Nat) : (s.setCl c k).smap i = s.smap i := rfl

theorem repairPause_of {r : Repair} {cycles : Fin 2177} (hs : s.live = true) (hrep : (s.cl c).repair = some r) (ht : r.tick ≤ s.now) (hord : s.inOrder r.tick = true)
    (hr : s.islandRuns c = true) (hp : (s.cl c).pause = 0) (hf : (s.cl c).failing = [r.cell]) (hlost : ((s.cl c).cell r.cell).lostWords = []) :
    exec (.repairPause c [] cycles) s = .next (s.setCl c
      (if cycles.val = 0 ∨ s.clocked c = false then { s.cl c with live := !(s.cl c).live, repair := none, failing := [] }
      else { s.cl c with pause := cycles.val })) := by
  refine (exec_of_act (f := fun s => s.repairPause c.val (([] : List (Fin 2048)).map (·.val)) cycles.val) hs rfl).trans (congrArg Host.Outcome.next ?_)
  have htick : s.repairTick c = some r.tick := by
    unfold State.repairTick
    rw [hrep]
    simp [ht, hr, hp]
  unfold State.repairPause
  rw [hrep]
  simp only [htick, hord, Option.isNone_some, Bool.not_true, Bool.or_self, Bool.false_eq_true, if_false, List.map_nil, List.nil_append, hlost, List.dedup_nil, forAll,
    List.foldl_nil]
  by_cases h : cycles.val = 0 ∨ s.clocked c = false
  · rw [if_pos h, if_pos (by simpa using h), repairEnd_eq (by rw [hf]; exact Nat.le_refl 1), hp]
  · rw [if_neg h, if_neg (by simpa using h)]
    rfl

end

/-- Settles O35: a commit turns the cluster over and what follows it touches link credits and sequencers alone; a repair regenerates the shadow half. -/
theorem commitsAndRepairs : Obligations.CommitsAndRepairs := by
  unfold Obligations.CommitsAndRepairs
  refine ⟨fun s c h at_ hs hm hsh hrole hat hnow hr hrep hord => ?_, fun s c cell phys cycles r hs =>
    ⟨fun hf hrep hsh hfill hsp hbad hret hr => ?_, fun hrep ht hord hr hp hf hlost => repairPause_of hs hrep ht hord hr hp hf hlost⟩⟩
  · have hrel := commitCluster_relinks hm hsh hrole hat hnow hr hrep hord c
    rw [cl_setCl] at hrel
    refine ⟨s.commitCluster c, exec_of_act (f := fun s => s.commitCluster c.val) hs rfl, ?_⟩
    obtain ⟨n, hn⟩ : ∃ n, n = (s.commitCluster c).cl c := ⟨_, rfl⟩
    rw [← hn] at hrel ⊢
    exact committed_of_unlinked hrole hrel
  · obtain ⟨h1, h2, h3⟩ := upTo_spec (s.now + 10000)
    have hlive : b2n (s.cl c).live = if (s.cl c).live then 1 else 0 := rfl
    have hshadow : b2n (!(s.cl c).live) = if (s.cl c).live then 0 else 1 := by cases (s.cl c).live <;> rfl
    refine ⟨_, _, spareRepair_of hs hf hrep hsh hfill hsp hbad hret hr, ?_, by rw [cl_setCl], h1, by omega, h3, fun i p hi hp => ?_, fun hc i p hi hp => ?_⟩
    · rw [setCl_smap, log_smap, smap_setSmap]
    · rw [cl_setCl, ← hlive]
      exact (regenerate_plane (s.cl c) hi hp).1
    · rw [cl_setCl, ← hlive, ← hshadow]
      exact (regenerate_plane (s.cl c) hi hp).2 hc

end Sys2Proof.Machine

/-! O36: the clause on a link's word that meets a full queue does not hold of every state. The target cluster is written back unchanged, and where
the clusters are not in the canonical form of the model's maps (an entry for a cluster that holds nothing but the default) the write drops the entry. -/

namespace Sys2Proof.Machine

/-- A word of link 0 for queue 0 of cluster 1, which is not enabled. -/
def strayWord : LinkWord := { link := 0, tcl := 1, q := 0, w := 0, tag := 0 }

/-- Clusters 0 and 1 in the owner's configuration of an island in service, cluster 1 written out with nothing in it. -/
def strayState : State :=
  { sys := { islOn := [(0, true)], islSvc := [(0, true)] }
    loader := { ownerClusters := [0, 1] }
    cls := [(0, { linkWords := [strayWord] }), (1, {})] }

theorem strayState_cls : (strayState.linkLands 0 0).cls = [] ∧ (strayState.setCl 0 { strayState.cl 0 with linkWords := [] }).cls = [(1, {})] := by
  decide

/-- Refutes O36: a link's word that meets a full queue writes the target cluster back, which drops its entry from the clusters where that entry is the
default one; the clause names the state with the entry. -/
theorem not_clusterTraffic : ¬ Obligations.ClusterTraffic := by
  unfold Obligations.ClusterTraffic
  intro h
  obtain ⟨hcluster, -⟩ := h
  obtain ⟨-, hfull, -⟩ := hcluster strayState 0 0 0 0 0 strayWord { q := 0, w := 0, tag := 0, prod := 0 } rfl
  have hx : exec (.linkWordLanding 0 0) strayState = .next (strayState.linkLands 0 0) := exec_of_act (f := fun s => s.linkLands 0 0) rfl rfl
  have heq := Host.Outcome.next.inj (hx.symm.trans (hfull rfl (by decide) rfl))
  have hcls := congrArg State.cls heq
  obtain ⟨h1, h2⟩ := strayState_cls
  exact absurd (h1.symm.trans (hcls.trans h2)) (by decide)

end Sys2Proof.Machine

/-! O37: the work of a mover. The credit that a mover returns for a word and the word itself leave through the network, which goes by neither the
mover's registers nor its buffers: `sendReq_setMover`. -/

namespace Sys2Proof.Machine

/-! ### Requests of a mover -/

theorem nowrapTo_setMover (s : State) (m : Nat) (v : Mover) (i : Nat) (b : End) : (s.setMover m v).nowrapTo i b = s.nowrapTo i b := by
  unfold State.nowrapTo State.initRegion
  cases isCluster i <;> rfl

theorem sendReq_setMover (s : State) (m : Nat) (v : Mover) (b : End) (p : Packet) : (s.setMover m v).sendReq b p = (s.sendReq b p).setMover m v := by
  unfold State.sendReq
  rw [nowrapTo_setMover]
  rfl

theorem sendReq_mover (s : State) (b : End) (p : Packet) (m : Nat) : (s.sendReq b p).mover m = s.mover m := rfl

theorem sent_setMover (s : State) (m : Nat) (v w : Mover) (b : End) (p : Packet) :
    ((s.setMover m v).sendReq b p).setMover m w = (s.setMover m w).sendReq b p := by
  rw [sendReq_setMover, setMover_setMover, sendReq_setMover]

theorem tagOf_sendReq (s : State) (b : End) (p : Packet) (i t : Nat) : ((s.sendReq b p).init i).tagOf t = (s.init i).tagOf t := by
  have hinit : (s.sendReq b p).init i = (s.setInit p.who ((s.init p.who).countReq p.body.length)).init i := rfl
  rw [hinit]
  by_cases h : i = p.who
  · rw [h, init_setInit]
    rfl
  · rw [init_setInit_ne s _ h]

/-- A state differs from another in its movers and in requests alone, and mover m lies in the same region. -/
def State.moves (s : State) (m : Nat) (t : State) : Prop :=
  t = { s with movers := t.movers, noc := { s.noc with packets := t.noc.packets, nextId := t.noc.nextId, inits := t.noc.inits } } ∧
    (t.mover m).region = (s.mover m).region

theorem popped_moves (s : State) {m : Nat} {v : Mover} (h : v.region = (s.mover m).region) (b : End) (p : Packet) :
    s.moves m ((s.setMover m v).sendReq b p) := ⟨rfl, by rw [sendReq_mover, mover_setMover, h]⟩

theorem initRegion_mover (s : State) (m : MvId) : s.initRegion (moverInit m) = (s.mover m).region := by
  have hc : isCluster (moverInit m) = false := decide_eq_false (by unfold moverInit; omega)
  have hm : isMover (moverInit m) = true := by
    have h := m.isLt
    unfold isMover moverInit
    simp
    omega
  have hi : moverInit m - 0x100 = m.val := by unfold moverInit; omega
  unfold State.initRegion
  rw [hc, hm, hi]
  rfl

section
variable {s t : State} {m : MvId}

theorem State.moves.initRegion (h : s.moves m t) : t.initRegion (moverInit m) = s.initRegion (moverInit m) := by
  rw [initRegion_mover, initRegion_mover, h.2]

theorem State.moves.lowerPrio (h : s.moves m t) (b : End) (prio : Nat) : t.lowerPrio (moverInit m) b prio = s.lowerPrio (moverInit m) b prio := by
  unfold State.lowerPrio
  rw [h.initRegion, h.1]
  rfl

theorem State.moves.targetEnd (h : s.moves m t) (a : Nat) : t.targetEnd a = s.targetEnd a := by
  rw [h.1]
  rfl

theorem State.moves.targetPort (h : s.moves m t) (a : Nat) : t.targetPort (moverInit m) a = s.targetPort (moverInit m) a := by
  unfold State.targetPort
  rw [h.targetEnd]

theorem State.moves.translate (h : s.moves m t) (a : Nat) : t.translate (moverInit m) a = s.translate (moverInit m) a := by
  unfold State.translate
  rw [h.initRegion, h.1]
  rfl

end

/-- The request of a mover for one word of HBM, of a state whose tag was free before (R163, R243). -/
def State.moverAsks (s t : State) (m tag a : Nat) (word : Option Word) : State :=
  let i := moverInit m
  let b := s.targetEnd a
  let prio := s.lowerPrio i b 3
  (t.setInit i ((t.init i).setTagOf tag { (s.init i).tagOf tag with
    st := .busy, since := s.now, rtr := (s.targetPort i a).1, port := (s.targetPort i a).2, prio := prio, addr := a, write := word.isSome })).sendReq b
    { op := if word.isSome then .wr else .rd, who := i, tag := tag, gen := ((s.init i).tagOf tag).gen, prio := prio, addr := a, nbytes := 16
      data := match word with | some w => wordBytes w | none => [] }

theorem moverHbm_asks {s t : State} {m : MvId} (h : s.moves m t) {tag a p : Nat} (x : MvRun) (word : Option Word)
    (htag : ((t.init (moverInit m)).tagOf tag) = (s.init (moverInit m)).tagOf tag) (ha : s.translate (moverInit m) a = some p) :
    t.moverHbm m x tag a word = s.moverAsks (t.setMover m { t.mover m with running := some { x with wait := some tag } }) m tag p word := by
  have hnow : t.now = s.now := by
    rw [h.1]
    rfl
  unfold State.moverHbm State.moverAsks
  dsimp only
  rw [h.translate, ha]
  dsimp only
  rw [h.targetEnd, h.lowerPrio, h.targetPort, htag, hnow]
  rfl

theorem moverHbm_denied {s t : State} {m : MvId} (h : s.moves m t) {tag a : Nat} (x : MvRun) (word : Option Word)
    (ha : s.translate (moverInit m) a = none) : t.moverHbm m x tag a word = t.moverFail m x 3 := by
  unfold State.moverHbm
  dsimp only
  rw [h.translate, ha]

/-- A word for a queue leaves as a posted push and takes a credit, and the descriptor goes on as given (R162). -/
def State.moverPushes (s t : State) (m : Nat) (u : Mover) (x : MvRun) (w : Word) (y : MvRun) : State :=
  let q := s.moverQueue x.desc
  (t.setMover m { u with credits := sput 0 u.credits q (sget 0 u.credits q - 1), running := some y }).sendReq (.array (q / 128) 0)
    { op := .pushp, who := moverInit m, prio := s.lowerPrio (moverInit m) (.array (q / 128) 0) 3, prod := prodMOVER, addr := dDST x.desc % 32768, words := [(w, 0)] }

/-- A descriptor of which one word more has moved. -/
def MvRun.more (x : MvRun) : MvRun := { x with moved := x.moved + 1, status := if x.moved + 1 = dLEN x.desc then some 0 else none }

theorem moverDid_eq (s : State) (m : Nat) (x : MvRun) : s.moverDid m x = s.setMover m { s.mover m with running := some x.more } := rfl

theorem moverFail_eq (s : State) (m : Nat) (x : MvRun) (st : Byte) :
    s.moverFail m x st = s.setMover m { s.mover m with running := some { x with status := some st } } := rfl

theorem moverPush_eq (s : State) (m : Nat) (x : MvRun) (w : Word) : s.moverPush m x w = s.moverPushes s m (s.mover m) x w x.more := by
  unfold State.moverPush State.moverPushes
  rw [moverDid_eq, sent_setMover, sendReq_mover, mover_setMover]

/-! ### Words that move -/

/-- A word has left the input buffer with a credit for its sender, and the descriptor goes on as given (R154, R161). -/
def State.moverPops (s : State) (m : Nat) (u : Mover) (w : MvWord) (ws : List MvWord) (y : MvRun) : State :=
  (s.setMover m { u with inbuf := ws, running := some y }).sendReq (.array w.cl 0)
    { op := .crd, who := moverInit m, prio := 3, chan := w.ch, addr := s.origin w.cl, count := 1 }

/-- The state between the credit and what becomes of the word. -/
def State.moverPopped (s : State) (m : Nat) (u : Mover) (w : MvWord) (ws : List MvWord) : State :=
  (s.setMover m { u with inbuf := ws }).sendReq (.array w.cl 0)
    { op := .crd, who := moverInit m, prio := 3, chan := w.ch, addr := s.origin w.cl, count := 1 }

theorem popped_setMover (s : State) (m : Nat) (u : Mover) (w : MvWord) (ws : List MvWord) (y : MvRun) :
    (s.moverPopped m u w ws).setMover m { (s.moverPopped m u w ws).mover m with running := some y } = s.moverPops m u w ws y := by
  unfold State.moverPopped State.moverPops
  rw [sent_setMover, sendReq_mover, mover_setMover]

theorem moverPopped_moves (s : State) (m : Nat) (w : MvWord) (ws : List MvWord) : s.moves m (s.moverPopped m (s.mover m) w ws) :=
  popped_moves s (v := { s.mover m with inbuf := ws }) rfl _ _

theorem popped_emit (s : State) (m : Nat) (u : Mover) (w : MvWord) (ws : List MvWord) (y : MvRun) (o : Output) :
    ((s.moverPopped m u w ws).emit o).setMover m { ((s.moverPopped m u w ws).emit o).mover m with running := some y } = (s.moverPops m u w ws y).emit o :=
  congrArg (fun t : State => t.emit o) (popped_setMover s m u w ws y)

theorem popped_setSess (s : State) (m : Nat) (u : Mover) (w : MvWord) (ws : List MvWord) (y : MvRun) (e : Nat) (z : Sess) :
    ((s.moverPopped m u w ws).setSess e z).setMover m { ((s.moverPopped m u w ws).setSess e z).mover m with running := some y } =
      (s.moverPops m u w ws y).setSess e z :=
  congrArg (fun t : State => t.setSess e z) (popped_setMover s m u w ws y)

section
variable {s : State} {m : MvId} {r tag : Nat} {g : Region} {x : MvRun} {w : MvWord} {ws : List MvWord} {host : Option Word}

theorem moverWord_of (hreg : (s.mover m).region = some r) (hg : s.region r = some g) (hrun : (s.mover m).running = some x)
    (hst : x.status = none) (hwait : x.wait = none) (hsend : s.maySendReq (moverInit m) = true) :
    s.moverWord m host =
      (let d := x.desc
       let k := dKIND d
       let off := 16 * x.moved
       let hostOk := host.isSome && (s.port g.ten).up
       let credit := decide (0 < sget 0 (s.mover m).credits (s.moverQueue d))
       let tag := s.freeTag (moverInit m)
       if (k = 1 || decide (k = 4)) && tag.isNone then s
       else if k < 4 then
         match s.moverPop m with
         | none => s
         | some (w, s) =>
           if k = 1 then s.moverHbm m x (tag.getD 0) (dDST d + off) (some w.w)
           else if k = 2 then
             if hostOk then (s.emit (.hostWrite g.ten (dDST d + off) (wordBytes w.w))).moverDid m x else s.moverFail m x 4
           else
             let e := dDST d % 16384
             (s.setSess e { s.sess e with words := (s.sess e).words ++ [(w.w, w.tag)] }).moverDid m x
       else if !credit then s
       else if k = 4 then s.moverHbm m x (tag.getD 0) (dSRC d + off) none
       else
         let s := if (s.port g.ten).up then s.emit (.hostRead g.ten (dSRC d + off) 16) else s
         match hostOk, host with
         | true, some w => s.moverPush m x w
         | _, _ => s.moverFail m x 4) := by
  unfold State.moverWord
  rw [hrun, hreg, Option.bind_some, hg]
  dsimp only
  rw [hst, hwait, hsend]
  rfl

theorem moverPop_of (h : (s.mover m).inbuf = w :: ws) : s.moverPop m = some (w, s.moverPopped m (s.mover m) w ws) := by
  unfold State.moverPop
  dsimp only
  rw [h]
  rfl

theorem moverWordTransfer_exec (hs : s.live = true) : exec (.moverWordTransfer m host) s = .next (s.moverWord m host) :=
  exec_of_act (f := fun s => s.moverWord m.val host) hs rfl

theorem popped_tagOf (u : Mover) (i t : Nat) : ((s.moverPopped m u w ws).init i).tagOf t = (s.init i).tagOf t := tagOf_sendReq _ _ _ i t

variable (hreg : (s.mover m).region = some r) (hg : s.region r = some g) (hrun : (s.mover m).running = some x)
  (hst : x.status = none) (hwait : x.wait = none) (hsend : s.maySendReq (moverInit m) = true)
include hreg hg hrun hst hwait hsend

theorem moverWord_write {a : Nat} (hin : (s.mover m).inbuf = w :: ws) (hk : dKIND x.desc = 1) (ht : s.freeTag (moverInit m) = some tag)
    (ha : s.translate (moverInit m) (dDST x.desc + 16 * x.moved) = some a) :
    s.moverWord m host = s.moverAsks (s.moverPops m (s.mover m) w ws { x with wait := some tag }) m tag a (some w.w) := by
  rw [moverWord_of hreg hg hrun hst hwait hsend]
  simp only [hk, ht, moverPop_of hin, Option.isNone_some, Bool.and_false, Bool.false_eq_true, if_false, if_true, Option.getD_some, Nat.reduceLT]
  rw [moverHbm_asks (moverPopped_moves s m w ws) x (some w.w) (popped_tagOf _ _ _) ha]
  exact congrArg (fun t => s.moverAsks t m tag a (some w.w)) (popped_setMover s m (s.mover m) w ws _)

theorem moverWord_denied (hin : (s.mover m).inbuf = w :: ws) (hk : dKIND x.desc = 1) (ht : s.freeTag (moverInit m) = some tag)
    (ha : s.translate (moverInit m) (dDST x.desc + 16 * x.moved) = none) :
    s.moverWord m host = s.moverPops m (s.mover m) w ws { x with status := some 3 } := by
  rw [moverWord_of hreg hg hrun hst hwait hsend]
  simp only [hk, ht, moverPop_of hin, Option.isNone_some, Bool.and_false, Bool.false_eq_true, if_false, if_true, Option.getD_some, Nat.reduceLT]
  rw [moverHbm_denied (moverPopped_moves s m w ws) x (some w.w) ha]
  exact popped_setMover s m (s.mover m) w ws _

theorem moverWord_toHost (hin : (s.mover m).inbuf = w :: ws) (hk : dKIND x.desc = 2) (hh : host.isSome = true) (hup : (s.port g.ten).up = true) :
    s.moverWord m host = (s.moverPops m (s.mover m) w ws x.more).emit (.hostWrite g.ten (dDST x.desc + 16 * x.moved) (wordBytes w.w)) := by
  rw [moverWord_of hreg hg hrun hst hwait hsend]
  simp only [hk, moverPop_of hin, hh, hup, Nat.reduceEqDiff, decide_false, Bool.or_self, Bool.false_and, Bool.false_eq_true, Bool.and_self, if_false, if_true,
    Nat.reduceLT, moverDid_eq]
  exact popped_emit s m (s.mover m) w ws x.more _

theorem moverWord_noHost (hin : (s.mover m).inbuf = w :: ws) (hk : dKIND x.desc = 2) (hh : host.isSome = false ∨ (s.port g.ten).up = false) :
    s.moverWord m host = s.moverPops m (s.mover m) w ws { x with status := some 4 } := by
  rw [moverWord_of hreg hg hrun hst hwait hsend]
  have hno : (host.isSome && (s.port g.ten).up) = false := Bool.and_eq_false_iff.mpr hh
  simp only [hk, moverPop_of hin, hno, Nat.reduceEqDiff, decide_false, Bool.or_self, Bool.false_and, Bool.false_eq_true, if_false, if_true,
    Nat.reduceLT, moverFail_eq]
  exact popped_setMover s m (s.mover m) w ws _

theorem moverWord_toSession (hin : (s.mover m).inbuf = w :: ws) (hk : dKIND x.desc = 3) :
    let e := dDST x.desc % 16384
    s.moverWord m host = (s.moverPops m (s.mover m) w ws x.more).setSess e { s.sess e with words := (s.sess e).words ++ [(w.w, w.tag)] } := by
  rw [moverWord_of hreg hg hrun hst hwait hsend]
  simp only [hk, moverPop_of hin, Nat.reduceEqDiff, decide_false, Bool.or_self, Bool.false_and, Bool.false_eq_true, if_false, Nat.reduceLT, if_true,
    moverDid_eq]
  exact popped_setSess s m (s.mover m) w ws x.more _ _

theorem moverWord_read {a : Nat} (hcred : 0 < sget 0 (s.mover m).credits (s.moverQueue x.desc)) (hk : dKIND x.desc = 4)
    (ht : s.freeTag (moverInit m) = some tag) (ha : s.translate (moverInit m) (dSRC x.desc + 16 * x.moved) = some a) :
    s.moverWord m host = s.moverAsks (s.setMover m { s.mover m with running := some { x with wait := some tag } }) m tag a none := by
  rw [moverWord_of hreg hg hrun hst hwait hsend]
  simp only [hk, ht, hcred, Option.isNone_some, Bool.and_false, Bool.false_eq_true, if_false, if_true, Option.getD_some, Nat.lt_irrefl, decide_true,
    Bool.not_true]
  exact moverHbm_asks ⟨rfl, rfl⟩ x none rfl ha

theorem moverWord_fromHost {hw : Word} (hcred : 0 < sget 0 (s.mover m).credits (s.moverQueue x.desc)) (hk : dKIND x.desc = 5)
    (hh : host = some hw) (hup : (s.port g.ten).up = true) :
    s.moverWord m host = s.moverPushes (s.emit (.hostRead g.ten (dSRC x.desc + 16 * x.moved) 16)) m (s.mover m) x hw x.more := by
  rw [moverWord_of hreg hg hrun hst hwait hsend]
  simp only [hk, hh, hup, hcred, Option.isSome_some, Bool.and_self, Nat.reduceEqDiff, decide_false, Bool.or_self, Bool.false_and, Bool.false_eq_true,
    if_false, if_true, Nat.reduceLT, decide_true, Bool.not_true]
  exact moverPush_eq _ m x hw

end

/-! ### Posts, checks and completions -/

section
variable {s : State} {m : MvId} {r : Nat} {g : Region} {x : MvRun}

theorem bit_zero (n : Nat) : bit n 0 = decide (n % 2 = 1) := by
  unfold bit
  rw [fld_eq_div_mod, pow_zero, Nat.div_one, pow_one]

theorem sqMvpost_exec {who : InitId} (hs : s.live = true) (v : Reg) : exec (.sqMvpost who m v) s = .next (
    if s.moverRights who m then
      match (s.mover m).writeReg 0x20 v.toNat with
      | some x => s.setMover m x
      | none => s
    else s.emit (.regValue none)) :=
  exec_of_act (f := fun s => if s.moverRights who m then
      match (s.mover m).writeReg 0x20 v.toNat with
      | some x => s.setMover m x
      | none => s
    else s.emit (.regValue none)) hs rfl

theorem sqMvpost_posts {who : InitId} {v : Reg} (hs : s.live = true) (hr : s.moverRights who m = true) (hv : v.toNat % 2 = 1) :
    exec (.sqMvpost who m v) s = .next (s.setMover m ((s.mover m).post (s.mover m).staged)) := by
  have hw : (s.mover m).writeReg 0x20 v.toNat = some ((s.mover m).post (s.mover m).staged) := by
    unfold Mover.writeReg
    rw [if_neg (by decide), if_pos rfl, bit_zero, decide_eq_true hv]
    rfl
  rw [sqMvpost_exec hs, if_pos hr]
  simp only [hw]

theorem moverStart_of {d : BitVec 256} {ds : List (BitVec 256)} (hs : s.live = true) (hreg : (s.mover m).region = some r) (hg : s.region r = some g)
    (hd : (s.mover m).descs = d :: ds) (hmay : s.moverMayStart m g = true) :
    exec (.moverDescriptorStart m) s = .next (s.setMover m { s.mover m with descs := ds, running := some { desc := d, status := s.moverCheck m r g d } }) := by
  refine (exec_of_act (f := fun s => s.moverStart m.val) hs rfl).trans (congrArg Host.Outcome.next ?_)
  unfold State.moverStart
  dsimp only
  rw [hd, hreg, Option.bind_some, hg]
  exact if_pos hmay

theorem moverCheck_badDesc {d : BitVec 256} (h : dKIND d = 0 ∨ 5 < dKIND d ∨ dLEN d = 0) : s.moverCheck m r g d = some 2 := by
  unfold State.moverCheck
  refine if_pos ?_
  rcases h with h | h | h <;> simp [h]

theorem moverCheck_toHbm {d : BitVec 256} (hk : dKIND d = 1) (hl : dLEN d ≠ 0) (hn : dNOTE d = false) :
    s.moverCheck m r g d = if dDST d % 16 ≠ 0 ∨ g.units.length * unitBytes < dDST d + 16 * dLEN d then some 1 else none := by
  unfold State.moverCheck
  simp [hk, hl, hn]

theorem moverCompletion_of {st : Byte} (hs : s.live = true) (hreg : (s.mover m).region = some r) (hg : s.region r = some g)
    (hrun : (s.mover m).running = some x) (hst : x.status = some st) (hn : dNOTE x.desc = false) (hno : (s.mover m).notices = []) :
    exec (.moverCompletion m) s = .next (s.setMover m { s.mover m with
      running := none, lastst := st, mvcnt := x.moved, err := (s.mover m).err || decide (st ≠ 0) }) := by
  refine (exec_of_act (f := fun s => s.moverComplete m.val) hs rfl).trans (congrArg Host.Outcome.next ?_)
  unfold State.moverComplete
  dsimp only
  rw [hrun]
  dsimp only
  rw [hst, hreg, Option.bind_some, hg]
  dsimp only
  simp only [hn, hno, Bool.false_and, Bool.false_eq_true, if_false, mover_setMover, List.length_nil, State.moverNotices]

theorem moverAnswer_of {tag status : Nat} {data : List Byte} (hrun : (s.mover m).running = some x) (hwait : x.wait = some tag) :
    s.moverAnswer (moverInit m) tag status data = s.moverGot m { x with wait := none } status data := by
  have hm : isMover (moverInit m) = true := by
    have h := m.isLt
    unfold isMover moverInit
    simp
    omega
  have hi : moverInit m - 0x100 = m.val := by unfold moverInit; omega
  unfold State.moverAnswer
  dsimp only
  rw [hm, hi, hrun]
  exact if_pos hwait

end

/-- Settles O37: each word takes its way by the kind of the descriptor, and what a mover sends goes by neither its registers nor its buffers. -/
theorem moverMoves : Obligations.MoverMoves := by
  unfold Obligations.MoverMoves
  intro s m who v d ds r g x w ws a tag status data hw host st hs
  refine ⟨fun hr hreg => ⟨fun hv hp => ?_, fun hv hp => ?_⟩, fun hr => ?_, fun hreg hg => ⟨fun hd hmay => ⟨_, moverStart_of hs hreg hg hd hmay, ?_, ?_, ?_⟩,
    fun hrun hst hwait hsend => ⟨fun hin => ⟨fun hk ht ha => ?_, fun hk ht ha => ?_, fun hk hh hup => ?_, fun hk hh => ?_, fun hk => ?_⟩,
      fun hcred => ⟨fun hk ht ha => ?_, fun hk hh hup => ?_⟩⟩,
    fun hrun hst hn hno => moverCompletion_of hs hreg hg hrun hst hn hno⟩,
    fun hrun hst hwait => ⟨fun h => ?_, fun h hk => ?_, fun h hk hcred => ?_⟩⟩
  · rw [sqMvpost_posts hs hr hv]
    unfold Mover.post
    rw [hreg, if_neg (by exact Bool.false_ne_true), if_neg (Nat.not_le.mpr hp)]
    rfl
  · rw [sqMvpost_posts hs hr hv]
    unfold Mover.post
    rw [hreg, if_neg (by exact Bool.false_ne_true), if_pos hp]
  · rw [sqMvpost_exec hs, hr]
    rfl
  · exact moverCheck_badDesc
  · intro hk hl hn h
    rw [moverCheck_toHbm hk hl hn, if_pos h]
  · intro hk hl hn h1 h2
    rw [moverCheck_toHbm hk hl hn, if_neg (by omega)]
  · exact (moverWordTransfer_exec hs).trans (congrArg Host.Outcome.next (moverWord_write hreg hg hrun hst hwait hsend hin hk ht ha))
  · exact (moverWordTransfer_exec hs).trans (congrArg Host.Outcome.next (moverWord_denied hreg hg hrun hst hwait hsend hin hk ht ha))
  · exact (moverWordTransfer_exec hs).trans (congrArg Host.Outcome.next (moverWord_toHost hreg hg hrun hst hwait hsend hin hk hh hup))
  · exact (moverWordTransfer_exec hs).trans (congrArg Host.Outcome.next (moverWord_noHost hreg hg hrun hst hwait hsend hin hk hh))
  · exact (moverWordTransfer_exec hs).trans (congrArg Host.Outcome.next (moverWord_toSession hreg hg hrun hst hwait hsend hin hk))
  · exact (moverWordTransfer_exec hs).trans (congrArg Host.Outcome.next (moverWord_read hreg hg hrun hst hwait hsend hcred hk ht ha))
  · exact (moverWordTransfer_exec hs).trans (congrArg Host.Outcome.next (moverWord_fromHost hreg hg hrun hst hwait hsend hcred hk hh hup))
  · rw [moverAnswer_of hrun hwait]
    unfold State.moverGot
    rw [if_pos h, moverFail_eq]
  · rw [moverAnswer_of hrun hwait]
    unfold State.moverGot
    rw [if_neg (not_not.mpr h), if_pos hk, moverDid_eq]
    rfl
  · rw [moverAnswer_of hrun hwait]
    unfold State.moverGot
    rw [if_neg (not_not.mpr h), if_neg (by rw [hk]; decide), if_neg (Nat.ne_of_gt hcred), moverPush_eq]
    rfl

end Sys2Proof.Machine

/-! O38: memory requests, from the initiator's tag to the target's port. -/

namespace Sys2Proof.Machine

/-! ### A request leaves -/

/-- An opcode of a memory request, with whether it carries data (R248). -/
def memOp (op : Opc) (write : Bool) : Prop := (op = .rd ∧ write = false) ∨ (op = .wr ∧ write = true) ∨ (op = .wrp ∧ write = true)

theorem memOp.posted {op : Opc} {write : Bool} (h : memOp op write) : op.posted = decide (op = .wrp) := by
  rcases h with ⟨rfl, -⟩ | ⟨rfl, -⟩ | ⟨rfl, -⟩ <;> rfl

theorem memOp.data {op : Opc} {write : Bool} (h : memOp op write) (d : List Byte) : (if op = .rd then [] else d) = if write then d else [] := by
  rcases h with ⟨rfl, rfl⟩ | ⟨rfl, rfl⟩ | ⟨rfl, rfl⟩ <;> rfl

theorem memOp.request {op : Opc} {write : Bool} (h : memOp op write) : op.resp = false ∧ op ≠ .push := by
  rcases h with ⟨rfl, -⟩ | ⟨rfl, -⟩ | ⟨rfl, -⟩ <;> exact ⟨rfl, by decide⟩

section
variable (s : State) (r : Request) (op : Opc) (write : Bool)

/-- The state with the tag of a request taken for an address. -/
def State.takesTag (a : Nat) : State :=
  let i := r.who.val
  if op = .wrp then s else s.setInit i ((s.init i).setTagOf r.tag { (s.init i).tagOf r.tag with
    st := .busy, since := s.now, rtr := (s.targetPort i a).1, port := (s.targetPort i a).2, prio := s.lowerPrio i (s.targetEnd a) r.prio.val, addr := a
    write := decide (op = .wr) })

/-- The packet of a request for an address. -/
def State.reqPacket (a : Nat) : Packet :=
  let i := r.who.val
  { op := op, who := i, tag := r.tag, gen := ((s.init i).tagOf r.tag).gen, prio := s.lowerPrio i (s.targetEnd a) r.prio.val, addr := a, size := r.size
    nbytes := reqBytes r, data := if write then reqData r else [] }

variable {s r op write}

theorem request_blocked (h : memOp op write) (hw : op ≠ .wrp) (ht : nTags r.who ≤ r.tag ∨ ((s.init r.who).tagOf r.tag).st ≠ .free) :
    s.request r op = s := by
  unfold State.request
  refine if_pos ?_
  rw [h.posted, decide_eq_false hw]
  rcases ht with ht | ht <;> simp [ht]

theorem request_goes (h : memOp op write) (hsend : s.maySendReq r.who = true)
    (ht : op ≠ .wrp → r.tag < nTags r.who ∧ ((s.init r.who).tagOf r.tag).st = .free) :
    ¬ (!s.maySendReq r.who || (!op.posted && (decide (nTags r.who ≤ r.tag) || decide (((s.init r.who).tagOf r.tag).st ≠ .free)))) = true := by
  rw [hsend, h.posted]
  by_cases hw : op = .wrp
  · rw [decide_eq_true hw]
    exact Bool.false_ne_true
  · obtain ⟨h1, h2⟩ := ht hw
    simp [h1, h2]

theorem request_translated {a : Nat} (h : memOp op write) (hsend : s.maySendReq r.who = true)
    (ht : op ≠ .wrp → r.tag < nTags r.who ∧ ((s.init r.who).tagOf r.tag).st = .free) (ha : s.translate r.who r.addr = some a) :
    s.request r op = (s.takesTag r op a).sendReq (s.targetEnd a) (s.reqPacket r op write a) := by
  unfold State.request State.takesTag State.reqPacket
  dsimp only
  rw [if_neg (request_goes h hsend ht), h.data, h.posted, ha]
  simp only [decide_eq_true_eq, Option.getD_some]

theorem request_denied (h : memOp op write) (hsend : s.maySendReq r.who = true)
    (ht : op ≠ .wrp → r.tag < nTags r.who ∧ ((s.init r.who).tagOf r.tag).st = .free) (ha : s.translate r.who r.addr = none) :
    let a := 0x800000000000
    let t := (s.takesTag r op a).setInit r.who (((s.takesTag r op a).init r.who).countReq (s.reqPacket r op write a).body.length)
    s.request r op = if op = .wrp then t else t.respond (s.reqPacket r op write a).held 3 [] := by
  have hdenied : s.request r op = ((s.takesTag r op 0x800000000000).setInit r.who (((s.takesTag r op 0x800000000000).init r.who).countReq
      (s.reqPacket r op write 0x800000000000).body.length)).turnAway { s.reqPacket r op write 0x800000000000 with nowrap := false } 3 := by
    unfold State.request State.takesTag State.reqPacket
    dsimp only
    rw [if_neg (request_goes h hsend ht), h.data, h.posted, ha]
    simp only [decide_eq_true_eq, Option.getD_none]
  dsimp only
  rw [hdenied]
  unfold State.turnAway
  rw [show ({ s.reqPacket r op write 0x800000000000 with nowrap := false } : Packet).op = op from rfl, h.posted]
  by_cases hw : op = .wrp
  · rw [decide_eq_true hw, if_pos hw]
    rfl
  · rw [decide_eq_false hw, if_neg hw, if_neg Bool.false_ne_true, if_neg h.request.2]
    rfl

end

/-- What the commands of memory requests do with a request of an initiator. -/
theorem requestCommands (s : State) (hs : s.live = true) (r : Request) :
    ∀ e ∈ ([(.rd (.send r), .rd, false), (.wr (.send r), .wr, true), (.wrp (.send r), .wrp, true)] : List (Instr × Opc × Bool)),
      memOp e.2.1 e.2.2 ∧ exec e.1 s = if reqFormed r e.2.2 then .next (s.request r e.2.1) else .fault .illFormed := by
  intro e he
  have hact : ∀ op : Opc, act s (·.request r op) = .next (s.request r op) := fun op => act_live hs _
  simp only [List.mem_cons, List.not_mem_nil, or_false] at he
  rcases he with rfl | rfl | rfl
  · exact ⟨.inl ⟨rfl, rfl⟩, by rw [← hact]; rfl⟩
  · exact ⟨.inr (.inl ⟨rfl, rfl⟩), by rw [← hact]; rfl⟩
  · exact ⟨.inr (.inr ⟨rfl, rfl⟩), by rw [← hact]; rfl⟩

/-! ### Packets and answers -/

theorem init_sendReq (s : State) (b : End) (p : Packet) :
    (s.sendReq b p).init p.who = (s.init p.who).countReq p.body.length ∧ ∀ j, j ≠ p.who → (s.sendReq b p).init j = s.init j :=
  ⟨init_setInit s p.who _, fun _ hj => init_setInit_ne s _ hj⟩

theorem sendReq_packets (s : State) (b : End) (p : Packet) :
    let y := { p with nowrap := s.nowrapTo p.who b, id := s.noc.nextId + 1 }
    (s.sendReq b p).noc.packets = s.noc.packets ++ [match initEnd p.who, b with
      | .array r k, .array q l => { y with spot := .source, src := (r, k), dst := (q, l) }
      | .array r k, .hub => { y with spot := .source, src := (r, k), dst := (hubB (dieOf r), 3) }
      | .hub, .array q l => { y with spot := .source, src := (hubA (dieOf q), 3), dst := (q, l) }
      | .hub, .hub => { y with spot := .arrived, src := (256, 3), dst := (256, 3), verdict := some 0 }] := by
  unfold State.sendReq
  generalize initEnd p.who = e
  cases e <;> cases b <;> rfl

/-- A packet as it is sent between two places: at its injection port, or there at once inside the hub die. -/
def Packet.sent (p : Packet) (id : Nat) (a b : End) : Packet :=
  match attach a b with
  | some (x, y) => { p with id := id, spot := .source, src := x, dst := y }
  | none => { p with id := id, spot := .arrived, src := (256, 3), dst := (256, 3), verdict := some 0 }

theorem sendFrom_eq (s : State) (a b : End) (p : Packet) : s.sendFrom a b p =
    { s with noc := { s.noc with nextId := s.noc.nextId + 1, packets := s.noc.packets ++ [p.sent (s.noc.nextId + 1) a b] } } := by
  unfold State.sendFrom Packet.sent
  cases attach a b <;> rfl

/-- Sending a packet leaves what it says as it is. -/
theorem sent_keeps (p : Packet) (id : Nat) (a b : End) :
    let z := p.sent id a b
    z.op = p.op ∧ z.who = p.who ∧ z.tag = p.tag ∧ z.gen = p.gen ∧ z.prio = p.prio ∧ z.nowrap = p.nowrap ∧ z.status = p.status ∧ z.data = p.data ∧ z.id = id := by
  unfold Packet.sent
  cases attach a b <;> exact ⟨rfl, rfl, rfl, rfl, rfl, rfl, rfl, rfl, rfl⟩

theorem sent_places (p : Packet) (id : Nat) (a b : End) :
    (a = .hub → b = .hub → (p.sent id a b).spot = .arrived) ∧
    (∀ x y, attach a b = some (x, y) → (p.sent id a b).spot = .source ∧ (p.sent id a b).src = x ∧ (p.sent id a b).dst = y) := by
  unfold Packet.sent
  constructor
  · rintro rfl rfl
    rfl
  · intro x y h
    rw [h]
    exact ⟨rfl, rfl, rfl⟩

/-- The packet of an answer (R248, R249). -/
def Held.answer (h : Held) (st : Nat) (data : List Byte) : Packet :=
  { op := if st ≠ 0 then .err else if h.data.isNone then .rdata else .ack
    who := h.who, tag := h.tag, gen := h.gen, prio := h.prio, status := BitVec.ofNat 4 st
    data := if st = 0 then data else [], nowrap := h.nowrap, nbytes := if st = 0 then data.length else 0
    size := if st = 0 && decide (data.length = 4) then 1 else if st = 0 && decide (data.length = 8) then 2 else 0 }

theorem respond_eq {s : State} {h : Held} (hp : h.posted = false) (st : Nat) (data : List Byte) :
    s.respond h st data = (s.portAnswered (s.targetPort h.who h.addr).1 (s.targetPort h.who h.addr).2).sendFrom (s.targetEnd h.addr) (initEnd h.who)
      (h.answer st data) := by
  unfold State.respond
  rw [if_neg (by rw [hp]; exact Bool.false_ne_true)]
  rfl

/-- What an answer to a request does (R248, R249, R267). -/
theorem respond_spec {s : State} {h : Held} (hp : h.posted = false) (st : Nat) (data : List Byte) :
    let t := s.respond h st data
    let r := (s.targetPort h.who h.addr).1
    let p := (s.targetPort h.who h.addr).2
    ∃ z, t = { s with noc := t.noc } ∧
      t.noc = { s.noc with packets := s.noc.packets ++ [z], nextId := s.noc.nextId + 1, routers := t.noc.routers } ∧
      t.router r = { s.router r with toreps := (t.router r).toreps } ∧ sget 0 (t.router r).toreps p = 0 ∧
      z.op = (if st ≠ 0 then .err else if h.data.isNone then .rdata else .ack) ∧ z.who = h.who ∧ z.tag = h.tag ∧ z.gen = h.gen ∧ z.prio = h.prio ∧
      z.nowrap = h.nowrap ∧ z.status = BitVec.ofNat 4 st ∧ z.data = (if st = 0 then data else []) ∧ z.id = s.noc.nextId + 1 ∧
      (s.targetEnd h.addr = .hub → initEnd h.who = .hub → z.spot = .arrived) ∧
      (∀ x y, attach (s.targetEnd h.addr) (initEnd h.who) = some (x, y) → z.spot = .source ∧ z.src = x ∧ z.dst = y) := by
  dsimp only
  rw [respond_eq hp, sendFrom_eq]
  generalize (s.targetPort h.who h.addr).1 = r
  generalize (s.targetPort h.who h.addr).2 = p
  obtain ⟨h1, h2, h3, h4, h5, h6, h7, h8, h9⟩ := sent_keeps (h.answer st data) (s.noc.nextId + 1) (s.targetEnd h.addr) (initEnd h.who)
  obtain ⟨p1, p2⟩ := sent_places (h.answer st data) (s.noc.nextId + 1) (s.targetEnd h.addr) (initEnd h.who)
  have hrouter : (s.portAnswered r p).router r = { s.router r with toreps := sput 0 (s.router r).toreps p 0 } := router_setRouter s r _
  refine ⟨(h.answer st data).sent (s.noc.nextId + 1) (s.targetEnd h.addr) (initEnd h.who), rfl, rfl, ?_, ?_, h1, h2, h3, h4, h5, h6, h7, h8, h9, p1, p2⟩
  · show (s.portAnswered r p).router r = { s.router r with toreps := ((s.portAnswered r p).router r).toreps }
    rw [hrouter]
  · show sget 0 ((s.portAnswered r p).router r).toreps p = 0
    rw [hrouter]
    exact sget_sput_same 0 (s.router r).toreps p 0

/-! ### A request arrives -/

section
variable {s : State} {op : Opc} {write : Bool} {who : InitId} {tag : Nat} {x : Packet}

theorem firstPacket_sat {f : Packet → Bool} (h : s.firstPacket f = some x) : f x = true := by
  unfold State.firstPacket at h
  dsimp only at h
  split at h
  · cases h
  · next y hy =>
    split at h
    · cases h
    · cases h
      exact List.find?_some hy

theorem reach_of (h : s.firstPacket (fun y => decide (y.op = op) && decide (y.who = who.val) && decide (y.tag = tag)) = some x) :
    s.reach op who tag = if s.verdict x ≠ 0 then (s.dropPacket x).turnAway x (s.verdict x) else (s.dropPacket x).arrive x.held := by
  unfold State.reach
  rw [h]

theorem verdict_met (hv : x.verdict = none) (hop : x.op.resp = false) :
    (s.fwPass x.who x.dst.1 x.dst.2 = false → s.verdict x = 3) ∧
    (s.fwPass x.who x.dst.1 x.dst.2 = true → (s.router x.dst.1).absOf x.dst.2 = 1 → s.verdict x = 4) ∧
    (s.fwPass x.who x.dst.1 x.dst.2 = true → (s.router x.dst.1).absOf x.dst.2 = 2 → s.verdict x = 5) := by
  have hm : s.verdict x = s.meet x := by
    unfold State.verdict
    rw [hv]
    rfl
  rw [hm]
  unfold State.meet
  refine ⟨fun h => ?_, fun h ha => ?_, fun h ha => ?_⟩
  · simp [hop, h]
  · simp [hop, h, ha]
  · simp [hop, h, ha]

theorem turnAway_memOp (h : memOp x.op write) (d : State) (st : Nat) :
    d.turnAway x st = if x.op = .wrp then (if st = 4 ∨ st = 5 then d.pdrop x.dst.1 else d) else d.respond x.held st [] := by
  unfold State.turnAway
  rw [h.posted, if_neg h.request.2]
  simp only [decide_eq_true_eq, Bool.or_eq_true]

theorem arrive_hbm (d : State) {h : Held} (ha : h.addr < hbmBytes) :
    d.arrive h = if d.hbmStatus h.who h.addr h.nbytes ≠ 0 then
        (if d.hbmDenies h.addr h.nbytes then d.deny h.addr else d).respond h (d.hbmStatus h.who h.addr h.nbytes) []
      else
        let ch := (d.hbmLoc h.addr).pc / 2
        { d.noteAccept with hbm := { d.hbm with ports := sput [] d.hbm.ports ch (sget [] d.hbm.ports ch ++ [{ h with ord := d.noc.accepted }]) } } := by
  unfold State.arrive
  rw [show place h.addr = .hbm h.addr from if_pos ha]
  rfl

theorem arrive_win (d : State) {h : Held} {c o : Nat} (ha : place h.addr = .win c o) (hb : d.loader.barrier.contains (d.redir c) = false) :
    (winArea o = some 0 → winArea (o + h.nbytes - 1) = some 0 →
      d.arrive h = d.noteAccept.updCl (d.redir c) fun k => { k with cellWait := k.cellWait ++ [{ h with ord := d.noc.accepted }] }) ∧
    (winArea o = some 4 → winArea (o + h.nbytes - 1) = some 4 →
      d.arrive h = d.noteAccept.updCl (d.redir c) fun k => { k with dmemWait := k.dmemWait ++ [{ h with ord := d.noc.accepted }] }) := by
  unfold State.arrive
  rw [ha]
  dsimp only
  unfold State.winTake
  rw [hb]
  refine ⟨fun h1 h2 => ?_, fun h1 h2 => ?_⟩
  · rw [h1, h2]
    rfl
  · rw [h1, h2]
    rfl

end

/-- What the commands of memory requests do with a request that has arrived. -/
theorem flightCommands (s : State) (hs : s.live = true) (who : InitId) (tag : Nat) :
    ∀ e ∈ ([(.rd (.flight who tag), .rd), (.wr (.flight who tag), .wr), (.wrp (.flight who tag), .wrp)] : List (Instr × Opc)),
      (∃ write, memOp e.2 write) ∧ exec e.1 s = .next (s.reach e.2 who tag) := by
  intro e he
  have hact : ∀ op : Opc, act s (·.reach op who.val tag) = .next (s.reach op who tag) := fun op => act_live hs _
  simp only [List.mem_cons, List.not_mem_nil, or_false] at he
  rcases he with rfl | rfl | rfl
  · exact ⟨⟨_, .inl ⟨rfl, rfl⟩⟩, by rw [← hact]; rfl⟩
  · exact ⟨⟨_, .inr (.inl ⟨rfl, rfl⟩)⟩, by rw [← hact]; rfl⟩
  · exact ⟨⟨_, .inr (.inr ⟨rfl, rfl⟩)⟩, by rw [← hact]; rfl⟩

/-- Settles O38: a request takes its tag and leaves, and what has arrived is judged by its port before its target takes it. -/
theorem memoryRequests : Obligations.MemoryRequests := by
  unfold Obligations.MemoryRequests
  refine ⟨fun s r hs e he => ?_, fun s b p => ?_, fun s h st data => ?_, fun s who tag x hs e he => ?_⟩
  · obtain ⟨hop, hx⟩ := requestCommands s hs r e he
    obtain ⟨c, op, write⟩ := e
    dsimp only at hop hx ⊢
    refine ⟨fun hf => ?_, fun hf hsend hw ht => ?_, fun hf hsend ht => ⟨fun a ha => ?_, fun ha => ?_⟩⟩
    · rw [hx, hf, if_neg Bool.false_ne_true]
    · rw [hx, if_pos hf, request_blocked hop hw ht]
    · rw [hx, if_pos hf, request_translated hop hsend ht ha]
      rfl
    · rw [hx, if_pos hf, request_denied hop hsend ht ha]
      rfl
  · obtain ⟨h1, h2⟩ := init_sendReq s b p
    exact ⟨rfl, rfl, h1, h2, sendReq_packets s b p⟩
  · refine ⟨fun hp => ?_, fun hp => respond_spec hp st data⟩
    exact if_pos hp
  · obtain ⟨⟨write, hop⟩, hx⟩ := flightCommands s hs who tag e he
    obtain ⟨c, op⟩ := e
    dsimp only at hop hx ⊢
    intro hf
    have hsat := firstPacket_sat hf
    simp only [Bool.and_eq_true, decide_eq_true_eq] at hsat
    obtain ⟨⟨rfl, hwho⟩, htag⟩ := hsat
    have hreach := hx.trans (congrArg Host.Outcome.next (reach_of hf))
    refine ⟨rfl, fun v hv => ?_, fun hv => verdict_met hv hop.request.1, fun hst hw => ?_, fun hst hw => ?_, fun hst ha hok => ?_, fun hst ha hbad hd => ?_,
      fun e o hst ha hb => ?_⟩
    · unfold State.verdict
      rw [hv]
      rfl
    · rw [hreach, if_pos hst, turnAway_memOp hop, if_neg hw]
    · rw [hreach, if_pos hst, turnAway_memOp hop, if_pos hw]
      rfl
    · rw [hreach, if_neg (not_not.mpr hst), arrive_hbm (s.dropPacket x) ha]
      exact congrArg Host.Outcome.next (if_neg (not_not.mpr hok))
    · rw [hreach, if_neg (not_not.mpr hst), arrive_hbm (s.dropPacket x) ha]
      refine congrArg Host.Outcome.next ((if_pos hbad).trans ?_)
      rw [if_neg (by rw [show (s.dropPacket x).hbmDenies x.held.addr x.held.nbytes = s.hbmDenies x.addr x.nbytes from rfl, hd]; exact Bool.false_ne_true)]
      rfl
    · obtain ⟨h0, h4⟩ := arrive_win (s.dropPacket x) (h := x.held) ha hb
      refine ⟨fun h1 h2 => ?_, fun h1 h2 => ?_⟩
      · rw [hreach, if_neg (not_not.mpr hst), h0 h1 h2]
        rfl
      · rw [hreach, if_neg (not_not.mpr hst), h4 h1 h2]
        rfl

end Sys2Proof.Machine

/-! O39: pushes, credits and events, as they leave and as they arrive. -/

namespace Sys2Proof.Machine

section
variable {s : State} {who : InitId} {x : Packet}

/-! ### Pushes that leave -/

theorem push_illFormed (s : State) (who : InitId) (tag : Nat) (prio : Fin 4) (q : QId) {ws : List (Word × BitVec 4)} (h : ws = [] ∨ 16 < ws.length) :
    exec (.push (.direct who tag prio q ws)) s = .fault .illFormed ∧ exec (.pushp (.direct who tag prio q ws)) s = .fault .illFormed := by
  have hb : (ws.isEmpty || decide (16 < ws.length)) = true := by
    rcases h with rfl | h
    · rfl
    · rw [decide_eq_true h, Bool.or_true]
  exact ⟨if_pos hb, if_pos hb⟩

theorem push_formed {ws : List (Word × BitVec 4)} (h1 : 1 ≤ ws.length) (h2 : ws.length ≤ 16) : ¬ (ws.isEmpty || decide (16 < ws.length)) = true := by
  rw [decide_eq_false (Nat.not_lt.mpr h2), Bool.or_false]
  intro h
  rw [List.isEmpty_iff.mp h] at h1
  exact absurd h1 (by decide)

theorem push_direct {tag : Nat} {prio : Fin 4} {q : QId} {ws : List (Word × BitVec 4)} (hs : s.live = true) (h1 : 1 ≤ ws.length) (h2 : ws.length ≤ 16)
    (hsend : s.maySendReq who = true) :
    exec (.push (.direct who tag prio q ws)) s = .next (if nTags who ≤ tag ∨ ((s.init who).tagOf tag).st ≠ .free then s
      else s.sendPush who tag 0 (s.lowerPrio who (.array (s.redir (q.val / 128)) 0) prio.val) q.val ws) := by
  refine (if_neg (push_formed h1 h2)).trans ((act_live hs _).trans (congrArg Host.Outcome.next ?_))
  dsimp only
  rw [hsend]
  exact if_congr (by simp) rfl rfl

theorem pushp_direct {tag : Nat} {prio : Fin 4} {q : QId} {ws : List (Word × BitVec 4)} (hs : s.live = true) (h1 : 1 ≤ ws.length) (h2 : ws.length ≤ 16)
    (hsend : s.maySendReq who = true) (hp : prodOf who ≠ prodMOVER) :
    exec (.pushp (.direct who tag prio q ws)) s = .next (s.sendReq (.array (s.redir (q.val / 128)) 0)
      { op := .pushp, who := who, prio := s.lowerTo who (.array (s.redir (q.val / 128)) 0) prio.val (s.qRegion q.val), addr := q.val, words := ws
        prod := prodOf who }) := by
  refine (if_neg (push_formed h1 h2)).trans ((act_live hs _).trans (congrArg Host.Outcome.next ?_))
  dsimp only
  rw [hsend, decide_eq_false hp]
  rfl

/-- The producer kind of an initiator that posts pushes (R138, R248). -/
theorem prodOf_eq {i : Nat} {prod : BitVec 3}
    (h : (isHost i = true ∧ prod = prodHOST) ∨ (0x220 ≤ i ∧ i < 0x228 ∧ prod = prodETH) ∨ (0x228 ≤ i ∧ i < 0x22C ∧ prod = prodGPIO)) :
    prodOf i = prod ∧ prod ≠ prodMOVER := by
  unfold prodOf
  have hhost : ∀ j, 0x220 ≤ j → isHost j = false := by
    intro j hj
    unfold isHost
    simp
    omega
  rcases h with ⟨h, rfl⟩ | ⟨h1, h2, rfl⟩ | ⟨h1, h2, rfl⟩
  · exact ⟨if_pos h, by decide⟩
  · rw [hhost i h1]
    simp [h1, h2]
    decide
  · rw [hhost i (by omega)]
    have h3 : ¬ i < 0x228 := by omega
    simp [h1, h2, h3]
    decide

/-! ### Pushes that arrive -/

theorem push_flight (hs : s.live = true) (h : s.firstPacket (fun y => decide (y.op = .push) && decide (y.who = who.val)) = some x) :
    exec (.push (.flight who)) s = .next (
      if s.verdict x ≠ 0 then (s.dropPacket x).turnAway x (s.verdict x)
      else if !s.pushAllowed x.who (s.pushQueue x) then (s.dropPacket x).turnAway x 7
      else if s.stageRoom (s.pushQueue x) x.words.length then (s.dropPacket x).pushStage x (s.pushQueue x)
      else s) := by
  have hx : exec (.push (.flight who)) s = execPush (.flight who) s := rfl
  rw [hx]
  unfold execPush
  dsimp only
  rw [act_live hs, h]

theorem pushp_flight (hs : s.live = true) (h : s.firstPacket (fun y => decide (y.op = .pushp) && decide (y.who = who.val)) = some x) :
    exec (.pushp (.flight who)) s = .next (
      if s.verdict x ≠ 0 then (s.dropPacket x).turnAway x (s.verdict x)
      else if x.toMover then (s.dropPacket x).moverTake x.addr x
      else if s.stageRoom (s.pushQueue x) x.words.length then (s.dropPacket x).stageWords x.who (s.pushQueue x) x.prod x.words none
      else s) := by
  have hx : exec (.pushp (.flight who)) s = execPushp (.flight who) s := rfl
  rw [hx]
  unfold execPushp
  dsimp only
  rw [act_live hs, h]

theorem pushQueue_parts (s : State) (x : Packet) : s.pushQueue x / 128 = s.redir (x.addr / 128) ∧ s.pushQueue x % 128 = x.addr % 128 := by
  unfold State.pushQueue
  omega

theorem stageRoom_iff (s : State) (x : Packet) (n : Nat) :
    s.stageRoom (s.pushQueue x) n = true ↔ (s.cl (s.redir (x.addr / 128))).staging.length + n ≤ 64 := by
  unfold State.stageRoom
  rw [(pushQueue_parts s x).1]
  exact decide_eq_true_iff

theorem stageWords_eq (d s : State) (x : Packet) (w : Nat) (prod : BitVec 3) (ws : List (Word × BitVec 4)) (push : Option Nat) :
    d.stageWords w (s.pushQueue x) prod ws push = d.updCl (s.redir (x.addr / 128)) fun k => { k with
      staging := k.staging ++ ws.map (fun y => ⟨x.addr % 128, y.1, y.2, prod, if isMover w then w - 0x100 else 0, push⟩) } := by
  unfold State.stageWords
  rw [(pushQueue_parts s x).1, (pushQueue_parts s x).2]

theorem pushStage_eq (d s : State) (x : Packet) : d.pushStage x (s.pushQueue x) =
    ({ d with noc := { d.noc with accepted := d.noc.accepted + 1 } } : State).updCl (s.redir (x.addr / 128)) fun k => { k with
      staging := k.staging ++ x.words.map (fun y => ⟨x.addr % 128, y.1, y.2, prodREMOTE, if isMover x.who then x.who - 0x100 else 0, some x.id⟩)
      pushes := k.pushes ++ [{ x.pushRec with ord := d.noc.accepted }] } := by
  unfold State.pushStage
  rw [stageWords_eq, (pushQueue_parts s x).1]
  exact updCl_updCl _ _ _ _

/-- The packet of an answer to a push (R152, R248). -/
def PushRec.answer (y : PushRec) (st : Nat) : Packet :=
  { op := if st = 0 then .pushack else .err, who := y.who, tag := y.tag, gen := y.gen, prio := y.prio
    status := BitVec.ofNat 4 st, count := if st = 0 then y.pushed else 0, nowrap := y.nowrap }

theorem pushAnswer_eq (t : State) (c st : Nat) (y : PushRec) :
    t.pushAnswer c y st = (t.portAnswered c 0).sendFrom (.array c 0) (initEnd y.who) (y.answer st) := rfl

theorem sent_fromPort (p : Packet) (id c : Nat) (b : End) :
    let z := p.sent id (.array c 0) b
    z.count = p.count ∧ z.src = (c, 0) ∧ z.spot = .source := by
  unfold Packet.sent
  cases b <;> exact ⟨rfl, rfl, rfl⟩

theorem portAnswered_router (t : State) (r p : Nat) : (t.portAnswered r p).router r = { t.router r with toreps := sput 0 (t.router r).toreps p 0 } :=
  router_setRouter t r _

theorem pushAnswer_packets (t : State) (c st : Nat) (y : PushRec) :
    (t.pushAnswer c y st).noc.packets = t.noc.packets ++ [(y.answer st).sent (t.noc.nextId + 1) (.array c 0) (initEnd y.who)] := by
  rw [pushAnswer_eq, sendFrom_eq]
  rfl

theorem pushAnswer_toreps (t : State) (c st : Nat) (y : PushRec) : sget 0 ((t.pushAnswer c y st).router c).toreps 0 = 0 := by
  have hr : (t.pushAnswer c y st).router c = { t.router c with toreps := sput 0 (t.router c).toreps 0 0 } := portAnswered_router t c 0
  rw [hr]
  exact sget_sput_same 0 (t.router c).toreps 0 0

theorem pushAnswer_spec (t : State) (c st : Nat) (y : PushRec) : ∃ z, (t.pushAnswer c y st).noc.packets = t.noc.packets ++ [z] ∧
    z.op = (if st = 0 then .pushack else .err) ∧ z.who = y.who ∧ z.tag = y.tag ∧ z.gen = y.gen ∧ z.prio = y.prio ∧ z.status = BitVec.ofNat 4 st ∧
    z.count = (if st = 0 then y.pushed else 0) ∧ z.src = (c, 0) ∧ z.spot = .source ∧
    sget 0 ((t.pushAnswer c y st).router c).toreps 0 = 0 := by
  obtain ⟨h1, h2, h3, h4, h5, -, h7, -, -⟩ := sent_keeps (y.answer st) (t.noc.nextId + 1) (.array c 0) (initEnd y.who)
  obtain ⟨k1, k2, k3⟩ := sent_fromPort (y.answer st) (t.noc.nextId + 1) c (initEnd y.who)
  exact ⟨_, pushAnswer_packets t c st y, h1, h2, h3, h4, h5, h7, k1, k2, k3, pushAnswer_toreps t c st y⟩

/-! ### Credits and events that arrive -/

theorem crd_of (hs : s.live = true) (h : s.firstPacket (fun y => decide (y.op = .crd) && decide (y.who = who.val)) = some x) (hv : s.verdict x = 0) :
    exec (.crd who) s = .next (
      if x.toMover then (s.dropPacket x).setMover x.chan ((s.mover x.chan).credit x.addr x.count)
      else (s.dropPacket x).updCl (s.redir x.addr) fun k => k.setFwd x.chan ((k.fwd x.chan).credit x.count)) := by
  have hx : exec (.crd who) s = execCrd who s := rfl
  rw [hx]
  unfold execCrd
  rw [act_live hs]
  dsimp only
  rw [h]
  dsimp only
  rw [if_neg (not_not.mpr hv)]
  rfl

theorem evt_of {m : EvtMsg} (hs : s.live = true) (h : s.firstPacket (fun y => decide (y.op = .evt) && decide (y.who = who.val)) = some x) (hv : s.verdict x = 0)
    (hm : x.evt = some m) (hw : ∀ c, m = .comp c → (s.seq c.cl).compHeld = false) : exec (.evt who) s = .next ((s.dropPacket x).evtArrive m) := by
  have hx : exec (.evt who) s = execEvt who s := rfl
  rw [hx]
  unfold execEvt
  rw [act_live hs]
  dsimp only
  rw [h]
  dsimp only
  rw [hm, hv]
  cases m with
  | comp c =>
    exact congrArg Host.Outcome.next (if_neg (show ¬ (s.seq c.cl).compHeld = true by rw [hw c rfl]; exact Bool.false_ne_true))
  | event e => rfl
  | start c e => rfl
  | refused c t => rfl
  | notice p n => rfl

end

theorem sat_who {s : State} {op : Opc} {i : Nat} {x : Packet} (h : s.firstPacket (fun y => decide (y.op = op) && decide (y.who = i)) = some x) :
    x.op = op ∧ x.who = i := by
  have hsat := firstPacket_sat h
  simpa only [Bool.and_eq_true, decide_eq_true_eq] using hsat

/-- Settles O39: pushes, credits and events leave and arrive as their opcode tells. -/
theorem pushesAndEvents : Obligations.PushesAndEvents := by
  unfold Obligations.PushesAndEvents
  intro s who tag prio q ws x hs
  refine ⟨fun h => push_illFormed s who tag prio q h, fun h1 h2 hsend => ⟨fun ht hfree => ?_, fun ht => ?_, fun prod hp => ?_⟩,
    fun hf => ⟨fun hv => ?_, fun hv hno => ?_, fun hv hok hroom => ?_, fun hv hok hroom => ?_⟩, pushAnswer_spec,
    fun hf => ⟨fun hv hm ha => ?_, fun hv hm ha => ?_, fun hv hm hroom => ?_, fun hv => ?_, fun hv => ?_⟩,
    fun hf hv hm => ?_, fun hf hv hm he hmv hle => ?_, fun hf hv => ⟨fun e he => ?_, fun e he hheld => ?_, fun c e he hl => ?_, fun p e he => ?_⟩⟩
  · rw [push_direct hs h1 h2 hsend, if_neg (fun h => h.elim (Nat.not_le.mpr ht) (fun h => h hfree))]
    rfl
  · rw [push_direct hs h1 h2 hsend, if_pos ht]
  · obtain ⟨rfl, hne⟩ := prodOf_eq hp
    exact pushp_direct hs h1 h2 hsend hne
  · obtain ⟨hop, -⟩ := sat_who hf
    rw [push_flight hs hf, if_pos hv]
    unfold State.turnAway
    rw [hop]
    rfl
  · obtain ⟨hop, hwho⟩ := sat_who hf
    have hno : s.pushAllowed who (s.pushQueue x) = false := hno
    rw [push_flight hs hf, if_neg (not_not.mpr hv), hwho, hno]
    unfold State.turnAway
    rw [hop]
    rfl
  · obtain ⟨hop, hwho⟩ := sat_who hf
    have hok : s.pushAllowed who (s.pushQueue x) = true := hok
    rw [push_flight hs hf, if_neg (not_not.mpr hv), hwho, hok, if_neg (by decide), if_pos ((stageRoom_iff s x _).mpr hroom), pushStage_eq, hwho]
    unfold Packet.pushRec
    rw [hwho]
    rfl
  · obtain ⟨hop, hwho⟩ := sat_who hf
    have hok : s.pushAllowed who (s.pushQueue x) = true := hok
    rw [push_flight hs hf, if_neg (not_not.mpr hv), hwho, hok, if_neg (by decide), if_neg (mt (stageRoom_iff s x _).mp hroom)]
  · obtain ⟨hop, hwho⟩ := sat_who hf
    rw [pushp_flight hs hf, if_neg (not_not.mpr hv), if_pos hm]
    unfold State.moverTake
    rw [if_neg (by omega), hwho]
    rfl
  · obtain ⟨hop, hwho⟩ := sat_who hf
    rw [pushp_flight hs hf, if_neg (not_not.mpr hv), if_pos hm]
    unfold State.moverTake
    rw [if_pos ha, hwho]
    rfl
  · obtain ⟨hop, hwho⟩ := sat_who hf
    rw [pushp_flight hs hf, if_neg (not_not.mpr hv), hm, if_neg (by decide), if_pos ((stageRoom_iff s x _).mpr hroom), stageWords_eq, hwho]
  · obtain ⟨hop, -⟩ := sat_who hf
    rw [pushp_flight hs hf, if_pos (by rcases hv with hv | hv <;> rw [hv] <;> decide)]
    unfold State.turnAway
    rw [hop, if_pos (show Opc.pushp.posted = true from rfl), if_pos (by rcases hv with hv | hv <;> rw [hv] <;> rfl)]
    rfl
  · obtain ⟨hop, -⟩ := sat_who hf
    rw [pushp_flight hs hf, hv]
    unfold State.turnAway
    rw [hop]
    rfl
  · refine ⟨_, (crd_of hs hf hv).trans (congrArg Host.Outcome.next (if_pos hm)), rfl, fun z => ?_, ?_⟩
    · rw [mover_setMover]
      unfold Mover.credit
      by_cases hz : z = x.addr
      · rw [if_pos hz, hz]
        exact sget_sput_same 0 _ _ _
      · rw [if_neg hz]
        exact sget_sput_other 0 _ _ hz
    · rw [mover_setMover]
      exact sget_sput_same 0 _ _ _
  · rw [crd_of hs hf hv, if_neg (by rw [hm]; exact Bool.false_ne_true)]
    have hc : ((s.cl (s.redir x.addr)).fwd x.chan).credit x.count = { (s.cl (s.redir x.addr)).fwd x.chan with
        owing := ((s.cl (s.redir x.addr)).fwd x.chan).owing - min ((s.cl (s.redir x.addr)).fwd x.chan).owing x.count
        cred := ((s.cl (s.redir x.addr)).fwd x.chan).cred + (x.count - min ((s.cl (s.redir x.addr)).fwd x.chan).owing x.count) } := by
      unfold Fwd.credit
      dsimp only
      rw [he, hmv, Nat.min_eq_left hle]
      rfl
    unfold State.updCl
    dsimp only
    rw [← hc]
    rfl
  · rw [evt_of hs hf hv he (fun c h => by cases h)]
    rfl
  · rw [evt_of hs hf hv he (fun c h => by cases h; exact hheld)]
    rfl
  · rw [evt_of hs hf hv he (fun c h => by cases h)]
    unfold State.evtArrive State.withTwin
    have hl' : (s.dropPacket x).lockstep c = false := hl
    dsimp only
    rw [hl']
    rfl
  · rw [evt_of hs hf hv he (fun c h => by cases h)]
    rfl

end Sys2Proof.Machine

/-! O40: responses, timeouts, quarantine and timeout reports. -/

namespace Sys2Proof.Machine

section
variable {s : State} {i tag lat : Nat} {op : Opc} {x : Packet}

/-! ### Responses -/

/-- The packets that a response command delivers. -/
def State.answersOf (s : State) (op : Opc) (i tag : Nat) : Option Packet :=
  s.firstPacket (fun y => decide (y.op = op) && decide (y.who = i) && decide (y.tag = tag))

/-- The latency that a response's statistics count (R276). -/
def Packet.cycles (x : Packet) (lat head : Nat) : Nat := if x.dst = (256, 3) then lat else x.headAt - head

theorem responseCommands (s : State) (hs : s.live = true) (i : InitId) (tag lat : Nat) :
    ∀ e ∈ ([(.rdata, .rdata i tag lat), (.ack, .ack i tag lat), (.pushack, .pushack i tag lat), (.err, .err i tag lat)] : List (Opc × Instr)),
      exec e.2 s = .next (s.deliver e.1 i tag lat) := by
  intro e he
  have hact : ∀ op : Opc, act s (·.deliver op i.val tag lat) = .next (s.deliver op i tag lat) := fun op => act_live hs _
  simp only [List.mem_cons, List.not_mem_nil, or_false] at he
  rcases he with rfl | rfl | rfl | rfl
  · exact hact .rdata
  · exact hact .ack
  · exact hact .pushack
  · exact hact .err

theorem deliver_found (h : s.answersOf op i tag = some x) : s.deliver op i tag lat =
    if (isCluster i && decide ((s.router i).absOf 0 = 2)) = true then
      (s.dropPacket x).setInit i { s.init i with stray := min ((s.init i).stray + 1) 0xFFFF }
    else if (decide (((s.init i).tagOf tag).st = .busy) && decide (x.gen = ((s.init i).tagOf tag).gen)) = true then
      ((s.dropPacket x).setInit i (((s.init i).countResp (x.cycles lat ((s.init i).tagOf tag).head) x.body.length).setTagOf tag
        { (s.init i).tagOf tag with st := .free })).clientGets i ((s.init i).tagOf tag).write ⟨tag, x.status, x.data, x.count⟩
    else if bit ((s.init i).tagOf tag).owed.toNat x.gen.toNat = true then
      let t : Tag := { (s.init i).tagOf tag with owed := BitVec.ofNat 4 (putFld ((s.init i).tagOf tag).owed.toNat x.gen.toNat 1 0) }
      (s.dropPacket x).setInit i { (s.init i).setTagOf tag (if t.st = .quar then t.leave else t) with late := min ((s.init i).late + 1) 0xFFFF }
    else (s.dropPacket x).setInit i { s.init i with stray := min ((s.init i).stray + 1) 0xFFFF } := by
  unfold State.deliver
  unfold State.answersOf at h
  rw [h]
  rfl

/-- What an initiator does with an answer, on its record as the answer finds it. -/
def State.gotBy (t : State) (i tag : Nat) (write : Bool) (v : Init) (a : Answer) : State :=
  ((t.setInit i { v with answers := v.answers ++ [a] }).bar2Answer i write a.status.toNat a.data).moverAnswer i tag a.status.toNat a.data

theorem clientGets_eq (t : State) (i : Nat) (write : Bool) (a : Answer) : t.clientGets i write a = t.gotBy i a.tag write (t.init i) a := rfl

theorem setInit_clientGets (t : State) (i : Nat) (v : Init) (write : Bool) (a : Answer) :
    (t.setInit i v).clientGets i write a = t.gotBy i a.tag write v a := by
  rw [clientGets_eq]
  unfold State.gotBy
  rw [init_setInit, setInit_setInit]

theorem tagOf_setTagOf (n : Init) (t : Nat) (v : Tag) : (n.setTagOf t v).tagOf t = v := sget_sput_same _ _ _ _

theorem tagOf_setTagOf_ne (n : Init) {t j : Nat} (v : Tag) (h : j ≠ t) : (n.setTagOf t v).tagOf j = n.tagOf j := sget_sput_other _ _ _ h

theorem tagOf_late (n : Init) (t : Nat) (v : Tag) (m : Nat) : ({ n.setTagOf t v with late := m } : Init).tagOf t = v := tagOf_setTagOf n t v

theorem latBin_low {n : Nat} (h : n < 64) : latBin n = 0 := if_pos h

theorem latBin_high {n : Nat} (h : 4096 ≤ n) : latBin n = 7 := (if_neg (by omega)).trans (if_pos h)

theorem latBin_mid {n b : Nat} (h6 : 6 ≤ b) (h12 : b < 12) (h1 : 2 ^ b ≤ n) (h2 : n < 2 ^ (b + 1)) : latBin n = b - 5 := by
  have hlo : 2 ^ 6 ≤ 2 ^ b := Nat.pow_le_pow_right (by decide) h6
  have hhi : 2 ^ (b + 1) ≤ 2 ^ 12 := Nat.pow_le_pow_right (by decide) h12
  have hlog : Nat.log2 n = b := (Nat.log2_eq_iff (by omega)).mpr ⟨h1, h2⟩
  unfold latBin
  rw [if_neg (by omega), if_neg (by omega), hlog]

theorem countResp_hist (n : Init) (lat words : Nat) :
    sget 0 (n.countResp lat words).hist (latBin lat) = min (sget 0 n.hist (latBin lat) + 1) 0xFFFFFFFF := sget_sput_same _ _ _ _

/-- The bins of the latency histogram (R276): below 64 cycles, by power of two, and from 4096 cycles. -/
theorem countResp_bins (n : Init) (lat words : Nat) :
    (lat < 64 → sget 0 (n.countResp lat words).hist 0 = min (sget 0 n.hist 0 + 1) 0xFFFFFFFF) ∧
    (4096 ≤ lat → sget 0 (n.countResp lat words).hist 7 = min (sget 0 n.hist 7 + 1) 0xFFFFFFFF) ∧
    ∀ b, 6 ≤ b → b < 12 → 2 ^ b ≤ lat → lat < 2 ^ (b + 1) →
      sget 0 (n.countResp lat words).hist (b - 5) = min (sget 0 n.hist (b - 5) + 1) 0xFFFFFFFF := by
  have h := countResp_hist n lat words
  refine ⟨fun hl => ?_, fun hl => ?_, fun b h6 h12 h1 h2 => ?_⟩
  · rwa [latBin_low hl] at h
  · rwa [latBin_high hl] at h
  · rwa [latBin_mid h6 h12 h1 h2] at h

theorem clearBit_owed (o : BitVec 4) (g : BitVec 2) : bit (BitVec.ofNat 4 (putFld o.toNat g.toNat 1 0)).toNat g.toNat = false := by
  have hg : g.toNat + 1 ≤ 4 := g.isLt
  unfold bit
  rw [BitVec.toNat_ofNat, fld_mod hg, fld_putFld_same]
  rfl

theorem setBit_owed (o : BitVec 4) (g : BitVec 2) {j : Nat} (hj : j < 4) :
    (BitVec.ofNat 4 (putFld o.toNat g.toNat 1 1)).getLsbD j = (o.getLsbD j || decide (j = g.toNat)) := by
  rw [← bit_toNat, ← bit_toNat, BitVec.toNat_ofNat]
  unfold bit
  rw [fld_mod (by omega)]
  by_cases h : j = g.toNat
  · rw [h, fld_putFld_same, decide_eq_true (rfl : g.toNat = g.toNat), Bool.or_true]
    rfl
  · rw [fld_putFld_other (by omega), decide_eq_false h, Bool.or_false]

/-! ### Quarantine (R265) -/

theorem nextGen_of (t : Tag) (howed : t.owed ≠ 0xF) (hgen : t.owed.getLsbD t.gen.toNat = true) :
    ∃ g, t.nextGen = some g ∧ g ≠ t.gen ∧ t.owed.getLsbD g.toNat = false := by
  obtain ⟨d, hd, hfree⟩ : ∃ d ∈ [1, 2, 3], t.owed.getLsbD ((t.gen.toNat + d) % 4) = false := by
    generalize t.owed = o at howed hgen ⊢
    generalize t.gen = g at hgen ⊢
    revert o g
    decide
  have hsome : t.nextGen.isSome := by
    unfold Tag.nextGen
    rw [List.findSome?_isSome_iff]
    refine ⟨d, hd, ?_⟩
    dsimp only
    rw [bit_toNat, hfree]
    rfl
  obtain ⟨v, hv⟩ := Option.isSome_iff_exists.mp hsome
  refine ⟨v, hv, ?_⟩
  obtain ⟨e, -, he⟩ := List.exists_of_findSome?_eq_some hv
  dsimp only at he
  rw [bit_toNat] at he
  split at he
  · cases he
  · next hn =>
    cases he
    have hn' := Bool.eq_false_iff.mpr hn
    have hv4 : (BitVec.ofNat 2 ((t.gen.toNat + e) % 4)).toNat = (t.gen.toNat + e) % 4 := by
      rw [BitVec.toNat_ofNat]
      omega
    rw [hv4]
    refine ⟨fun hg => ?_, hn'⟩
    rw [← hv4, hg, hgen] at hn'
    cases hn'

theorem nextGen_none (t : Tag) (howed : t.owed = 0xF) : t.nextGen = none := by
  unfold Tag.nextGen
  rw [howed, List.findSome?_eq_none_iff]
  intro d _
  have h4 : (t.gen.toNat + d) % 4 < 4 := Nat.mod_lt _ (by decide)
  dsimp only
  rw [bit_toNat]
  refine if_pos ?_
  generalize (t.gen.toNat + d) % 4 = j at h4
  revert j
  decide

theorem leave_freed (t : Tag) (howed : t.owed ≠ 0xF) (hgen : t.owed.getLsbD t.gen.toNat = true) :
    ∃ v, t.leave = { t with st := .free, gen := v, stuck := false } ∧ v ≠ t.gen ∧ t.owed.getLsbD v.toNat = false := by
  obtain ⟨g, hg, hne, hfree⟩ := nextGen_of t howed hgen
  refine ⟨g, ?_, hne, hfree⟩
  unfold Tag.leave
  rw [hg]

theorem leave_stuck (t : Tag) (howed : t.owed = 0xF) : t.leave = { t with stuck := true } := by
  unfold Tag.leave
  rw [nextGen_none t howed]

/-! ### Timeouts (R264) -/

theorem timeOut_eq (s : State) (i tag : Nat) : s.timeOut i tag =
    let g := (s.init i).tagOf tag
    let w : Init := { (s.init i).setTagOf tag { g with st := .quar, since := s.now, owed := BitVec.ofNat 4 (putFld g.owed.toNat g.gen.toNat 1 1) } with
      tocnt := min ((s.init i).tocnt + 1) 0xFFFF }
    let t := (s.setInit i w).sendReq (if g.rtr = 256 ∨ g.port = 3 then .hub else .array g.rtr g.port)
      { op := .torep, who := i, tag := tag, gen := g.gen, prio := g.prio, client := g.client }
    t.gotBy i tag g.write (t.init i) ⟨tag, 1, [], 0⟩ := by
  unfold State.timeOut
  dsimp only
  rw [clientGets_eq]
  simp only [Bool.or_eq_true, decide_eq_true_eq]
  rfl

theorem requestTimeout_runs (hs : s.live = true) (i : InitId) (tag : Nat) : exec (.requestTimeout i tag) s = .next (
    if ((s.init i).tagOf tag).st = .busy ∧ upTo 64 (((s.init i).tagOf tag).since + 1000 * (s.init i).tous) ≤ s.now then s.timeOut i tag else s) := by
  have hx : exec (.requestTimeout i tag) s = execRequestTimeout i tag s := rfl
  rw [hx]
  unfold execRequestTimeout
  rw [act_live hs]
  exact congrArg Host.Outcome.next (if_congr (by rw [Bool.and_eq_true, decide_eq_true_eq, decide_eq_true_eq]; rfl) rfl rfl)

theorem quarantineEnd_runs (hs : s.live = true) (i : InitId) (tag : Nat) : exec (.quarantineEnd i tag) s = .next (
    if ((s.init i).tagOf tag).st = .quar ∧ upTo 64 (((s.init i).tagOf tag).since + 1000 * (s.init i).tous) ≤ s.now then
      s.setInit i ((s.init i).setTagOf tag ((s.init i).tagOf tag).leave) else s) := by
  have hx : exec (.quarantineEnd i tag) s = execQuarantineEnd i tag s := rfl
  rw [hx]
  unfold execQuarantineEnd
  rw [act_live hs]
  exact congrArg Host.Outcome.next (if_congr (by rw [Bool.and_eq_true, decide_eq_true_eq, decide_eq_true_eq]; rfl) rfl rfl)

/-! ### Timeout reports (R264, R267) -/

theorem torep_found (hs : s.live = true) {i : InitId} (h : s.answersOf .torep i tag = some x) : exec (.torep i tag) s = .next (
    if s.verdict x ≠ 0 then (s.dropPacket x).turnAway x (s.verdict x)
    else
      let y := s.router x.dst.1
      let n := sget 0 y.toreps x.dst.2 + 1
      let t := (s.dropPacket x).setRouter x.dst.1 { y with toreps := sput 0 y.toreps x.dst.2 n }
      (if (decide (y.deadth ≤ n) && decide (y.absOf x.dst.2 = 0)) = true then t.pendRouter x.dst.1 (.absDead x.dst.2) else t).cancel x x.dst.1 x.dst.2) := by
  have hx : exec (.torep i tag) s = execTorep i tag s := rfl
  rw [hx]
  unfold execTorep State.answersOf at *
  rw [act_live hs, h]
  rfl

theorem pendRouter_setRouter (t : State) (r : Nat) (y : Router) (c : RtrChange) :
    (t.setRouter r y).pendRouter r c = t.setRouter r { y with pend := y.pend ++ [c] } := by
  unfold State.pendRouter
  rw [router_setRouter, setRouter_setRouter]

theorem turnAway_torep (d : State) (hop : x.op = .torep) {st : Nat} (hst : st = 4 ∨ st = 5) :
    d.turnAway x st = d.setRouter x.dst.1 { d.router x.dst.1 with pdrop := min ((d.router x.dst.1).pdrop + 1) 0xFFFF } := by
  have hpost : x.op.posted = true := by
    rw [hop]
    rfl
  have h45 : (decide (st = 4) || decide (st = 5)) = true := by
    rcases hst with rfl | rfl <;> rfl
  unfold State.turnAway
  rw [if_pos hpost, if_pos h45]
  rfl

theorem cancel_access (t : State) (r : Nat) {h : Held}
    (hwait : (t.waitingAt r 0).find? (fun y => decide (y.who = x.who) && decide (y.tag = x.tag) && decide (y.gen = x.gen) && !y.op.posted) = none)
    (hfind : ((t.cl r).cellWait ++ (t.cl r).dmemWait).find? (·.named x) = some h) :
    t.cancel x r 0 = (t.setCl r { t.cl r with cellWait := (t.cl r).cellWait.erase h, dmemWait := (t.cl r).dmemWait.erase h }).respond h 1 [] := by
  unfold State.cancel
  rw [hwait]
  dsimp only
  rw [if_pos rfl, hfind]

theorem cancel_packet (t : State) (r port : Nat) {y : Packet}
    (hwait : (t.waitingAt r port).find? (fun y => decide (y.who = x.who) && decide (y.tag = x.tag) && decide (y.gen = x.gen) && !y.op.posted) = some y) :
    t.cancel x r port = (t.dropPacket y).turnAway y 1 := by
  unfold State.cancel
  rw [hwait]

end

/-- Settles O40: a response meets one of four cases of its tag; timeouts, quarantine and reports each by the record they begin with. -/
theorem responsesAndTimeouts : Obligations.ResponsesAndTimeouts := by
  unfold Obligations.ResponsesAndTimeouts
  intro s i tag lat op c x hs hc n g d words cycles ends first gets
  have hexec : exec c s = .next (s.deliver op i tag lat) := responseCommands s hs i tag lat _ hc
  refine ⟨fun hf hopen => ?_, fun hf hi habs => ?_, fun hi t b st data => ?_, fun hi t st data => ?_, fun hbusy hend => ?_, fun hbusy hend => ?_,
    fun hq hend howed hgen => ?_, fun hq hend howed => ?_, fun hq hend => ?_, fun hf => ⟨fun hv => ?_, fun hv => ?_⟩,
    fun t r h => ⟨fun hw hfind => cancel_access t r hw hfind, fun y hw => cancel_packet t r 0 hw⟩⟩
  · have hnf : ¬ (isCluster i && decide ((s.router i).absOf 0 = 2)) = true := by
      rw [Bool.and_eq_true]
      exact fun h => hopen ⟨of_decide_eq_true h.1, of_decide_eq_true h.2⟩
    rw [hexec, deliver_found hf, if_neg hnf]
    refine ⟨fun hbusy hgen => ?_, fun hidle howed hq => ?_, fun hidle howed => ?_⟩
    · refine ⟨((n.countResp cycles words).setTagOf tag { g with st := .free }), ?_, tagOf_setTagOf _ _ _, fun j hj => tagOf_setTagOf_ne _ _ hj, rfl, rfl,
        countResp_bins n cycles words⟩
      rw [if_pos (by rw [Bool.and_eq_true]; exact ⟨decide_eq_true hbusy, decide_eq_true hgen⟩), setInit_clientGets]
      rfl
    · rw [if_neg (by rw [Bool.and_eq_true]; exact fun h => hidle ⟨of_decide_eq_true h.1, of_decide_eq_true h.2⟩), if_pos howed]
      dsimp only
      refine ⟨_, rfl, ?_⟩
      rw [if_neg hq, init_setInit, tagOf_late]
      exact ⟨rfl, rfl, clearBit_owed g.owed x.gen, rfl, rfl⟩
    · rw [if_neg (by rw [Bool.and_eq_true]; exact fun h => hidle ⟨of_decide_eq_true h.1, of_decide_eq_true h.2⟩),
        if_neg (fun h => Bool.false_ne_true (howed.symm.trans h))]
  · rw [hexec, deliver_found hf, if_pos (by rw [Bool.and_eq_true]; exact ⟨decide_eq_true hi, decide_eq_true habs⟩)]
  · exact if_pos (by rw [hi]; rfl)
  · exact if_pos (by rw [hi]; rfl)
  · refine ⟨BitVec.ofNat 4 (putFld g.owed.toNat g.gen.toNat 1 1), ?_, fun j hj => setBit_owed g.owed g.gen hj⟩
    rw [requestTimeout_runs hs, if_pos ⟨hbusy, hend⟩, timeOut_eq]
    rfl
  · rw [requestTimeout_runs hs, if_neg (fun h => Nat.not_le.mpr hend h.2)]
  · obtain ⟨v, hv, hne, hfree⟩ := leave_freed g howed hgen
    exact ⟨v, by rw [quarantineEnd_runs hs, if_pos ⟨hq, hend⟩, hv], hne, hfree⟩
  · rw [quarantineEnd_runs hs, if_pos ⟨hq, hend⟩, leave_stuck _ howed]
  · rw [quarantineEnd_runs hs, if_neg (fun h => Nat.not_le.mpr hend h.2)]
  · rw [torep_found hs hf, if_neg (fun h => h hv)]
    simp only [Bool.and_eq_true, decide_eq_true_eq, pendRouter_setRouter]
    split <;> rfl
  · have hop : x.op = .torep := by
      have h := firstPacket_sat hf
      simp only [Bool.and_eq_true, decide_eq_true_eq] at h
      exact h.1.1
    rw [torep_found hs hf, if_pos (by omega), turnAway_torep _ hop hv]
    rfl

end Sys2Proof.Machine

/-! O41: the clause on a packet boundary of a router without pending changes does not hold of every state. The router is written back without its
(absent) changes, and where the routers are not in the canonical form of the model's maps (an entry that holds nothing but the default) the write
drops the entry. -/

namespace Sys2Proof.Machine

/-- Router 0 written out with nothing in it. -/
def blankRouterState : State := { noc := { routers := [(0, {})] } }

/-- Refutes O41: without a pending change a packet boundary writes the router back, which drops its entry from the routers where that entry is the
default one; the clause says that the state stays. -/
theorem not_routersAndFences : ¬ Obligations.RoutersAndFences := by
  unfold Obligations.RoutersAndFences
  intro h
  obtain ⟨-, -, -, hidle, -⟩ := h.2 blankRouterState 0 0 0 0 (.fwLo 0 0) 0 0 0 0 rfl
  have hx : exec (.packetBoundaryChange 0) blankRouterState = .next (blankRouterState.setRouter 0 {}) := by
    have hx : exec (.packetBoundaryChange 0) blankRouterState = execPacketBoundaryChange 0 blankRouterState := rfl
    rw [hx]
    unfold execPacketBoundaryChange
    rw [act_live rfl, if_neg (by decide)]
    rfl
  have heq := Host.Outcome.next.inj (hx.symm.trans (hidle rfl))
  exact absurd (congrArg (fun s : State => s.noc.routers) heq) (by decide)

end Sys2Proof.Machine

/-! O45: the clauses that a session's keys are created do not hold of every state. On its way to RETIRED the part's key table stays empty (R354, R356),
and a port with a session still answers. -/

namespace Sys2Proof.Machine

/-- Port 0 answers and has a session, while a transition to RETIRED runs. -/
def retiringState : State :=
  { sys := { bring := 2 }
    sec := { trans := some { dest := .retired, issuer := ⟨4, 0, 0⟩, posted := 0 }, spdm := [(0, { session := some [] })] }
    host := { ports := [(0, { up := true })] } }

/-- Refutes O45: a KEY_PROG in the session of a port is acknowledged, and its key is not kept. -/
theorem not_spdmMessages : ¬ Obligations.SpdmMessages := by
  unfold Obligations.SpdmMessages
  intro h
  obtain ⟨-, hserved⟩ := h retiringState 0 [] [] [] [] [] [] 0 0 0 [] rfl
  obtain ⟨-, -, -, -, -, -, -, -, -, -, -, -, hsession⟩ := hserved rfl
  obtain ⟨-, -, -, ⟨t, ht, hkey, -⟩, -⟩ := hsession rfl
  have hx : exec (.ideKm 0 (.keyProg 0 0 [])) retiringState = .next (((retiringState.setSpdm 0
      { retiringState.spdm 0 with ideStreams := [(0, 0)] }).setKey 128 (some [])).emit (.spdm 0 0x7E [])) := rfl
  cases Host.Outcome.next.inj (hx.symm.trans ht)
  exact absurd hkey (by decide)

end Sys2Proof.Machine

/-! O44: the Rope receiver: lock, images and their ends. -/

namespace Sys2Proof.Machine

/-! ### The loader at the end of a load -/

theorem complete_loader (s : State) (i : Issuer) (st r : Nat) : (s.complete i st r).loader = s.loader :=
  (congrArg State.loader (complete_upToHost s s i st r) :)

theorem freeHolds_loader (s : State) (i : Nat) : (s.freeHolds i).loader = s.loader := by
  refine forAll_frame State.loader (fun u c => ?_) _ s
  split <;> rfl

theorem loadClose_loader (s : State) (lst findex tick : Nat) : (s.loadClose 4 lst findex tick).loader = { s.loader with
    ctxs := sput {} s.loader.ctxs 4 { lst := BitVec.ofNat 32 lst, lfrm := BitVec.ofNat 32 findex, ltk := (s.ctx 4).ltk, ltkLatch := (s.ctx 4).ltkLatch }
    rope := { s.loader.rope with old := none } } := by
  unfold State.loadClose
  dsimp only
  split
  · rw [complete_loader]
    rfl
  · rfl

theorem ropeIdleLine_loader (s : State) : ∃ d, s.ropeIdleLine.loader = { s.loader with rope := { s.loader.rope with doneo := d } } := by
  unfold State.ropeIdleLine
  split
  · exact ⟨s.loader.rope.doneo, rfl⟩
  · exact ⟨!s.loader.fullCommitted, rfl⟩

theorem fullEnd_loader (s : State) (pins : Bool) : ∃ d l, (s.fullEnd pins).loader = { s.loader with
    barrier := [], pinsFree := s.loader.pinsFree || pins, ownerClusters := l, rope := { s.loader.rope with doneo := d } } := by
  unfold State.fullEnd
  dsimp only
  obtain ⟨d, hd⟩ := ropeIdleLine_loader ((({ s with loader := { s.loader with
    barrier := [], pinsFree := s.loader.pinsFree || pins
    ownerClusters := s.loader.ownerClusters.filter (fun c => (s.cl c).digest.isSome || (s.cl c).shadow.isSome) } } : State)).noteIdle s)
  rw [noteIdle_frame] at hd
  refine ⟨d, s.loader.ownerClusters.filter (fun c => (s.cl c).digest.isSome || (s.cl c).shadow.isSome), ?_⟩
  rw [noteIdle_frame]
  exact hd

theorem bootNext_rope (s : State) {x : LoadCtx} (ok : Bool) (h : x.path = .rope) : s.bootNext x ok = s := by
  refine if_neg ?_
  rw [h]
  simp

/-- What the failure of a load of the Rope leaves of the loader: the context's status, and ROPE_FAULT_N low (R346, R352). -/
theorem loadFail_rope {s : State} (h : (s.ctx 4).path = .rope) (f : Nat) (e : LoadErr) :
    ((s.loadFail 4 f e).ctx 4).busy = false ∧ ((s.loadFail 4 f e).ctx 4).lst = BitVec.ofNat 32 e.lst ∧
    ∃ d, (s.loadFail 4 f e).loader.rope = { s.loader.rope with old := none, faulto := true, doneo := d } := by
  have hrope : s.loadFail 4 f e = ((((forAll (s.ctx 4).written (fun s c => s.updCl c Cluster.dropShadow) s).freeHolds 4).loadClose 4 e.lst f 0).ropeFault).fullEnd
      false := by
    unfold State.loadFail
    dsimp only
    rw [if_pos rfl, if_pos h, bootNext_rope _ _ h]
  have hload : ((forAll (s.ctx 4).written (fun s c => s.updCl c Cluster.dropShadow) s).freeHolds 4).loader = s.loader :=
    (freeHolds_loader _ 4).trans (forAll_frame State.loader (f := fun s c => s.updCl c Cluster.dropShadow) (fun _ _ => rfl) _ s)
  generalize (forAll (s.ctx 4).written (fun s c => s.updCl c Cluster.dropShadow) s).freeHolds 4 = u at hrope hload
  obtain ⟨d, l, hend⟩ := fullEnd_loader ((u.loadClose 4 e.lst f 0).ropeFault) false
  have hclose : ((u.loadClose 4 e.lst f 0).ropeFault).loader = { (u.loadClose 4 e.lst f 0).loader with
      rope := { (u.loadClose 4 e.lst f 0).loader.rope with faulto := true } } := rfl
  rw [loadClose_loader] at hclose
  have hctx : (s.loadFail 4 f e).ctx 4 = { lst := BitVec.ofNat 32 e.lst, lfrm := BitVec.ofNat 32 f, ltk := (u.ctx 4).ltk, ltkLatch := (u.ctx 4).ltkLatch } := by
    unfold State.ctx
    rw [hrope, hend, hclose]
    exact sget_sput_same _ _ _ _
  refine ⟨?_, ?_, d, ?_⟩
  · rw [hctx]
  · rw [hctx]
  · rw [hrope, hend, hclose, hload]

/-! ### Blocks -/

/-- The receiver after a block with a valid sync header (R344). -/
def Rope.sync (r : Rope) : Rope :=
  { r with recent := (true :: r.recent).take 64, good := min 64 (r.good + 1), lock := r.lock || decide (64 ≤ r.good + 1) }

section
variable {s : State} {f : State → State}

theorem ropeBlock_deaf (h : s.loader.rope.listen = false) : s.ropeBlock f = s := by
  unfold State.ropeBlock
  dsimp only
  rw [h]
  rfl

theorem ropeBlock_unlocked (h : s.loader.rope.listen = true) (hlock : s.loader.rope.lock = false) : s.ropeBlock f = s.setRope s.loader.rope.sync := by
  unfold State.ropeBlock Rope.sync
  dsimp only
  rw [h, hlock]
  rfl

theorem ropeBlock_locked (h : s.loader.rope.listen = true) (hlock : s.loader.rope.lock = true) : s.ropeBlock f = f (s.setRope s.loader.rope.sync) := by
  unfold State.ropeBlock Rope.sync
  dsimp only
  rw [h, hlock]
  rfl

/-- What runs on a block does so on a locked receiver alone. -/
theorem ropeBlock_id (h : s.loader.rope.listen = true) : s.ropeBlock id = s.setRope s.loader.rope.sync := by
  cases hlock : s.loader.rope.lock with
  | false => exact ropeBlock_unlocked h hlock
  | true => exact ropeBlock_locked h hlock

/-- The image that is being taken has been judged, and loads in context 4. -/
def State.ropeMine (s : State) : Prop :=
  s.loader.rope.addressed = some true ∧ s.loader.rope.old = none ∧ (s.ctx 4).busy = true ∧ (s.ctx 4).path = .rope ∧ (s.ctx 4).phase = .frames

theorem ropeAlive_mine (h : s.ropeMine) : s.ropeAlive = true := by
  obtain ⟨haddr, hold, hbusy, hpath, hphase⟩ := h
  unfold State.ropeAlive
  simp [haddr, hold, hbusy, hpath, hphase]

theorem ropeAlive_unjudged (himg : s.loader.rope.inimg = true) (haddr : s.loader.rope.addressed = none) : s.ropeAlive = true := by
  unfold State.ropeAlive
  simp [himg, haddr]

theorem ropeSettle_judged (h : s.loader.rope.addressed ≠ none ∨ s.loader.rope.buf.length < 256) : s.ropeSettle = s := by
  refine if_neg ?_
  rcases h with h | h
  · obtain ⟨a, ha⟩ := Option.ne_none_iff_exists'.mp h
    rw [ha]
    simp
  · rw [decide_eq_false (Nat.not_le.mpr h)]
    simp

/-- An image of context 4 that ends early fails its load, and what the receiver holds of it is dropped (R348). -/
theorem ropeEnd_mine (h : s.ropeMine) (st : Nat) :
    ((s.ropeEnd st).ctx 4).busy = false ∧ ((s.ropeEnd st).ctx 4).lst = BitVec.ofNat 32 (st * 2 ^ 24) ∧
    ∃ d, (s.ropeEnd st).loader.rope = { s.loader.rope with old := none, faulto := true, doneo := d, buf := [] } := by
  obtain ⟨haddr, -, -, hpath, -⟩ := h
  obtain ⟨hbusy, hlst, d, hrope⟩ := loadFail_rope hpath (s.ctx 4).nextFrame { status := st }
  have hend : s.ropeEnd st = (s.loadFail 4 (s.ctx 4).nextFrame { status := st }).setRope
      { (s.loadFail 4 (s.ctx 4).nextFrame { status := st }).loader.rope with buf := [] } := by
    unfold State.ropeEnd
    dsimp only
    rw [haddr]
    rfl
  rw [hend]
  refine ⟨hbusy, hlst.trans ?_, d, ?_⟩
  · rw [show ({ status := st } : LoadErr).lst = st * 2 ^ 24 by simp [LoadErr.lst]]
  · show ({ (s.loadFail 4 (s.ctx 4).nextFrame { status := st }).loader.rope with buf := [] } : Rope) = _
    rw [hrope]

/-- While no image is being taken, no frames of one are left for context 4. -/
theorem ropeLeft_dead (h : s.ropeAlive = false) : s.ropeLeft = s.loader.rope.old := by
  unfold State.ropeLeft
  dsimp only
  cases hold : s.loader.rope.old with
  | some b => rfl
  | none =>
    refine (if_neg Bool.false_ne_true).trans (if_neg fun hmine => ?_)
    simp only [Bool.and_eq_true, decide_eq_true_eq] at hmine
    obtain ⟨⟨⟨haddr, hbusy⟩, hpath⟩, hphase⟩ := hmine
    rw [ropeAlive_mine ⟨haddr, hold, hbusy, hpath, hphase⟩] at h
    cases h

/-! ### What each command does with its block -/

/-- SOI on a locked receiver (R344, R348): an image that is still being taken ends, and a new one begins. -/
def State.soiTaken (s : State) : State :=
  let s := (s.setRope { s.loader.rope with faulto := false, faultl := true }).ropeSettle
  let s := if s.ropeAlive && (s.loader.rope.inimg || !s.ropeComplete) then s.ropeEnd lsEARLY_END else s
  s.setRope { s.loader.rope with inimg := true, old := s.ropeLeft, buf := [], addressed := none, ended := false, lastBlock := s.now }

/-- EOI on a locked receiver inside an image (R344, R346). -/
def State.eoiTaken (s : State) : State :=
  let s := s.ropeSettle
  let s := if s.ropeAlive && !s.ropeComplete then s.ropeEnd lsEARLY_END else s
  let x := s.ctx 4
  let r := s.loader.rope
  let mine := x.busy && decide (x.path = .rope)
  let low := if mine then decide (x.phase ≠ .wake) else if r.addressed.isNone then r.doneo else !s.loader.fullCommitted
  s.setRope { r with inimg := false, ended := true, doneo := low }

theorem soi_runs (hs : s.live = true) : exec .soi s = .next (s.ropeBlock State.soiTaken) := by
  have hx : exec .soi s = execSoi s := rfl
  rw [hx, execSoi]
  exact act_live hs _

theorem eoi_runs (hs : s.live = true) : exec .eoi s = .next (s.ropeBlock fun s => if !s.loader.rope.inimg then s else s.eoiTaken) := by
  have hx : exec .eoi s = execEoi s := rfl
  rw [hx, execEoi]
  exact act_live hs _

theorem idle_runs (hs : s.live = true) : exec .idle s = .next (s.ropeBlock id) := by
  have hx : exec .idle s = execIdle s := rfl
  rw [hx, execIdle]
  exact act_live hs _

theorem data_runs (hs : s.live = true) {bytes : List Byte} (h : bytes.length = 8) : exec (.ropeDataBlock bytes) s = .next (s.ropeBlock fun s =>
    if s.loader.rope.inimg then
      s.setRope { s.loader.rope with lastBlock := s.now, buf := if s.ropeAlive then s.loader.rope.buf ++ bytes else s.loader.rope.buf }
    else s) := by
  have hx : exec (.ropeDataBlock bytes) s = execRopeDataBlock bytes s := rfl
  rw [hx]
  unfold execRopeDataBlock
  rw [act_live hs, if_neg (not_not.mpr h)]

theorem unknown_runs (hs : s.live = true) (type : Byte) : exec (.ropeUnknownControl type) s = .next (s.ropeBlock fun s =>
    if type = 0x1E || type == 0x78 || type == 0x87 then s else s.ropeErr) := by
  have hx : exec (.ropeUnknownControl type) s = execRopeUnknownControl type s := rfl
  rw [hx, execRopeUnknownControl]
  exact act_live hs _

/-- The receiver after a block with an invalid sync header (R344). -/
def Rope.unsync (r : Rope) : Rope :=
  { r with recent := (false :: r.recent).take 64, good := 0, rerr := min (r.rerr + 1) 0xFFFF
           lock := r.lock && !decide (16 ≤ (((false :: r.recent).take 64).filter (fun v => !v)).length) }

theorem invalid_runs (hs : s.live = true) (hl : s.loader.rope.listen = true) : exec .ropeInvalidSyncHeader s = .next (
    if (s.loader.rope.lock && decide (16 ≤ (((false :: s.loader.rope.recent).take 64).filter (fun v => !v)).length) && s.loader.rope.inimg &&
        (s.setRope s.loader.rope.unsync).ropeAlive) = true then
      (s.setRope s.loader.rope.unsync).ropeEnd lsROPE_LOCK
    else s.setRope s.loader.rope.unsync) := by
  have hx : exec .ropeInvalidSyncHeader s = execRopeInvalidSyncHeader s := rfl
  rw [hx]
  unfold execRopeInvalidSyncHeader
  rw [act_live hs]
  dsimp only
  rw [if_neg (by rw [hl]; exact Bool.false_ne_true)]
  rfl

theorem unsync_eq (r : Rope) : r.unsync = { r with
    recent := (false :: r.recent).take 64, good := 0, rerr := min (r.rerr + 1) 0xFFFF
    lock := r.lock && decide ((((false :: r.recent).take 64).filter (fun v => !v)).length < 16) } := by
  unfold Rope.unsync
  rw [← decide_not]
  simp only [Nat.not_le]

theorem invalid_keeps (h : s.loader.rope.lock = false ∨ s.loader.rope.inimg = false ∨ s.ropeAlive = false ∨
    (((false :: s.loader.rope.recent).take 64).filter (fun v => !v)).length < 16) :
    ¬ (s.loader.rope.lock && decide (16 ≤ (((false :: s.loader.rope.recent).take 64).filter (fun v => !v)).length) && s.loader.rope.inimg &&
        (s.setRope s.loader.rope.unsync).ropeAlive) = true := by
  have halive : (s.setRope s.loader.rope.unsync).ropeAlive = s.ropeAlive := rfl
  simp only [halive, Bool.and_eq_true, decide_eq_true_eq]
  rintro ⟨⟨⟨hlock, hbad⟩, himg⟩, hal⟩
  rcases h with h | h | h | h
  · exact Bool.false_ne_true (h.symm.trans hlock)
  · exact Bool.false_ne_true (h.symm.trans himg)
  · exact Bool.false_ne_true (h.symm.trans hal)
  · exact absurd hbad (Nat.not_le.mpr h)

/-- An image that is not for the device is forgotten (R327, R348). -/
theorem ropeEnd_other (haddr : s.loader.rope.addressed = none) (hfor : s.ropeAddressed = false) {st : Nat} :
    s.ropeEnd st = s.setRope { s.loader.rope with addressed := some false, buf := [] } := by
  unfold State.ropeEnd
  dsimp only
  rw [haddr, hfor]
  rfl

theorem soiTaken_mine (h : s.ropeMine) (himg : s.loader.rope.inimg = true) : (s.soiTaken.ctx 4).busy = false ∧
    (s.soiTaken.ctx 4).lst = BitVec.ofNat 32 (0x12 * 2 ^ 24) ∧ s.soiTaken.loader.rope.buf = [] ∧ s.soiTaken.loader.rope.faulto = true ∧
    s.soiTaken.loader.rope.inimg = true ∧ s.soiTaken.loader.rope.addressed = none := by
  have hu : (s.setRope { s.loader.rope with faulto := false, faultl := true }).ropeMine := h
  have himg' : (s.setRope { s.loader.rope with faulto := false, faultl := true }).loader.rope.inimg = true := himg
  unfold State.soiTaken
  generalize s.setRope { s.loader.rope with faulto := false, faultl := true } = u at hu himg'
  dsimp only
  rw [ropeSettle_judged (.inl (by rw [hu.1]; exact Option.some_ne_none _)), ropeAlive_mine hu, himg', Bool.true_and, Bool.true_or, if_pos rfl]
  obtain ⟨hbusy, hlst, d, hrope⟩ := ropeEnd_mine hu lsEARLY_END
  exact ⟨hbusy, hlst, rfl, congrArg Rope.faulto hrope, rfl, rfl⟩

theorem soiTaken_dead (h : s.ropeAlive = false) (hj : s.loader.rope.addressed ≠ none ∨ s.loader.rope.buf.length < 256) :
    s.soiTaken = s.setRope { s.loader.rope with
      inimg := true, buf := [], addressed := none, ended := false, lastBlock := s.now, faulto := false, faultl := true } := by
  obtain ⟨u, hu⟩ : ∃ u, u = s.setRope { s.loader.rope with faulto := false, faultl := true } := ⟨_, rfl⟩
  have halive : u.ropeAlive = false := by rw [hu]; exact h
  have hj' : u.loader.rope.addressed ≠ none ∨ u.loader.rope.buf.length < 256 := by rw [hu]; exact hj
  unfold State.soiTaken
  rw [← hu]
  dsimp only
  rw [ropeSettle_judged hj', halive, Bool.false_and, if_neg Bool.false_ne_true, ropeLeft_dead halive, hu]
  rfl

theorem eoiTaken_mine (h : s.ropeMine) (hall : s.ropeComplete = true) :
    s.eoiTaken = s.setRope { s.loader.rope with inimg := false, ended := true, doneo := true } := by
  have halive := ropeAlive_mine h
  obtain ⟨haddr, -, hbusy, hpath, hphase⟩ := h
  unfold State.eoiTaken
  dsimp only
  rw [ropeSettle_judged (.inl (by rw [haddr]; exact Option.some_ne_none _)), halive, hall, Bool.not_true, Bool.and_false, if_neg Bool.false_ne_true, hbusy, hpath, hphase]
  rfl

theorem lockLoss_runs (hs : s.live = true) : exec .ropeLockLoss s = .next (
    if (s.loader.rope.inimg && !s.loader.rope.lock && s.ropeAlive) = true then s.ropeEnd lsROPE_LOCK else s) := by
  have hx : exec .ropeLockLoss s = execRopeLockLoss s := rfl
  rw [hx, execRopeLockLoss]
  exact act_live hs _

theorem idleTimeout_runs (hs : s.live = true) : exec .ropeIdleTimeout s = .next (
    if (s.loader.rope.inimg && s.ropeAlive && decide (s.loader.rope.lastBlock + 1000000 * s.loader.rope.rto ≤ s.now) &&
        (decide (s.loader.rope.addressed = some true) || s.ropeAddressed)) = true then s.ropeEnd lsEARLY_END else s) := by
  have hx : exec .ropeIdleTimeout s = execRopeIdleTimeout s := rfl
  rw [hx, execRopeIdleTimeout]
  exact act_live hs _

end

/-- Settles O44: what a block does to the receiver, by whether it listens and has lock, and what an end of an image does to the load. -/
theorem ropeReceiver : Obligations.RopeReceiver := by
  unfold Obligations.RopeReceiver
  intro s bytes type hs hlen r x sync bad ends mine
  have hends : ∀ (u : State) (st : Nat), u.ropeMine → ends (u.ropeEnd st) st := by
    intro u st hu
    obtain ⟨hbusy, hlst, d, hrope⟩ := ropeEnd_mine hu st
    exact ⟨hbusy, hlst, congrArg Rope.buf hrope, congrArg Rope.faulto hrope⟩
  refine ⟨fun hl => ?_, fun hl => ⟨?_, fun h => ?_, fun hlock himg hm hbad => ?_⟩, fun hl hlock => ?_, fun hl hlock => ?_, fun himg hm => ⟨fun hlock => ?_,
    fun hend => ?_, fun hend => ?_⟩, fun himg haddr hfor hlock => ?_, fun himg => ⟨?_, ?_⟩⟩
  · rw [soi_runs hs, eoi_runs hs, idle_runs hs, data_runs hs hlen, unknown_runs hs]
    simp only [ropeBlock_deaf hl, true_and]
    have hx : exec .ropeInvalidSyncHeader s = execRopeInvalidSyncHeader s := rfl
    rw [hx, execRopeInvalidSyncHeader, act_live hs]
    exact congrArg Host.Outcome.next (if_pos (by rw [hl]; rfl))
  · rw [idle_runs hs, ropeBlock_id hl]
    rfl
  · rw [invalid_runs hs hl, if_neg (invalid_keeps h)]
    exact congrArg (fun v => Host.Outcome.next (s.setRope v)) (unsync_eq r)
  · have hm' : (s.setRope s.loader.rope.unsync).ropeMine := hm
    rw [invalid_runs hs hl, hlock, himg, ropeAlive_mine hm', decide_eq_true hbad]
    obtain ⟨-, -, d, hrope⟩ := ropeEnd_mine hm' lsROPE_LOCK
    refine ⟨_, rfl, hends _ _ hm', (congrArg Rope.lock hrope).trans ?_⟩
    show (r.lock && !decide (16 ≤ (bad.filter (fun v => !v)).length)) = false
    rw [decide_eq_true hbad, Bool.not_true, Bool.and_false]
  · rw [soi_runs hs, eoi_runs hs, data_runs hs hlen, unknown_runs hs]
    simp only [ropeBlock_unlocked hl hlock]
    exact ⟨rfl, rfl, rfl, rfl⟩
  · rw [soi_runs hs, eoi_runs hs, data_runs hs hlen, unknown_runs hs]
    simp only [ropeBlock_locked hl hlock]
    refine ⟨fun himg hm => ?_, fun hdead hj => ?_, fun himg halive => ?_, fun himg hdead => ?_, fun himg => ⟨?_, ?_⟩, fun himg hall hm => ?_,
      fun h1 h2 h3 => ?_⟩
    · obtain ⟨hbusy, hlst, hbuf, hfault, himg', haddr⟩ := soiTaken_mine (s := s.setRope s.loader.rope.sync) hm himg
      exact ⟨_, rfl, ⟨hbusy, hlst, hbuf, hfault⟩, himg', haddr⟩
    · exact congrArg Host.Outcome.next (soiTaken_dead (s := s.setRope s.loader.rope.sync) hdead hj)
    · have halive' : (s.setRope s.loader.rope.sync).ropeAlive = true := halive
      refine congrArg Host.Outcome.next ((if_pos himg).trans ?_)
      rw [halive']
      rfl
    · have hdead' : (s.setRope s.loader.rope.sync).ropeAlive = false := hdead
      refine congrArg Host.Outcome.next ((if_pos himg).trans ?_)
      rw [hdead']
      rfl
    · exact congrArg Host.Outcome.next (if_neg (fun h => Bool.false_ne_true (himg.symm.trans h)))
    · exact congrArg Host.Outcome.next (if_pos (congrArg (!·) himg))
    · refine congrArg Host.Outcome.next ((if_neg ?_).trans (eoiTaken_mine (s := s.setRope s.loader.rope.sync) hm hall))
      exact fun h => Bool.false_ne_true ((congrArg (!·) himg).symm.trans h)
    · refine congrArg Host.Outcome.next (if_neg ?_)
      simp only [decide_eq_true_eq, Bool.or_eq_true, beq_iff_eq, not_or]
      exact ⟨⟨h1, h2⟩, h3⟩
  · rw [lockLoss_runs hs, himg, hlock, ropeAlive_mine hm]
    exact ⟨_, rfl, hends s _ hm⟩
  · rw [idleTimeout_runs hs, himg, ropeAlive_mine hm, decide_eq_true hend, hm.1]
    exact ⟨_, rfl, hends s _ hm⟩
  · rw [idleTimeout_runs hs, decide_eq_false (Nat.not_le.mpr hend), Bool.and_false]
    rfl
  · rw [lockLoss_runs hs, if_pos (by rw [Bool.and_eq_true, Bool.and_eq_true]; exact ⟨⟨himg, congrArg (!·) hlock⟩, ropeAlive_unjudged himg haddr⟩)]
    exact congrArg Host.Outcome.next (ropeEnd_other haddr hfor)
  · rw [lockLoss_runs hs, himg]
    rfl
  · rw [idleTimeout_runs hs, himg]
    rfl

end Sys2Proof.Machine

/-! O48: the messages of the owner port. -/

namespace Sys2Proof.Machine

section
variable {s : State}

/-- A port's record of violations after one more (R410, R411). -/
def VState.more (w : VState) (kind : Byte) (f : Nat) (tag : BitVec 16) (now : Nat) : VState :=
  { w with cur := w.cur + 1, total := min (w.total + 1) 0xFFFF, log := (⟨kind, f, tag, now⟩ :: w.log).take 16 }

/-- A violation is recorded, and does not begin a throttled second while the sum stays below 1,024 or one runs (R411). -/
theorem violate_quiet {p : Nat} (h : (s.vstate p).sum + 1 < 1024 ∨ (s.vstate p).throttled.isSome = true) (kind f tag : Nat) :
    s.violate p kind f tag = s.setVstate p ((s.vstate p).more (BitVec.ofNat 8 kind) f (BitVec.ofNat 16 tag) s.now) := by
  unfold State.violate
  dsimp only
  refine if_neg fun hb => ?_
  rw [Bool.and_eq_true, decide_eq_true_eq] at hb
  obtain ⟨hnone, hsum⟩ := hb
  rcases h with h | h
  · unfold VState.sum at h hsum
    dsimp only at hsum
    omega
  · rw [Option.isNone_iff_eq_none] at hnone
    rw [hnone] at h
    cases h

/-- A violation on the owner port, whose record it brings up to date (R411, R414). -/
theorem violate_owner (h : (s.vstate 4).sum + 1 < 1024 ∨ (s.vstate 4).throttled.isSome = true) (o : OwnerPort) (ho : o.viol = s.host.owner.viol) (tag : Nat) :
    (s.setOwner o).violate 4 0x0A 0 tag = s.setOwner { o with viol := (s.vstate 4).more 0x0A 0 (BitVec.ofNat 16 tag) s.now } := by
  have hv : (s.setOwner o).vstate 4 = s.vstate 4 := congrArg (VState.roll · s.now) ho
  have hq := violate_quiet (s := s.setOwner o) (p := 4) (by rw [hv]; exact h) 0x0A 0 tag
  rw [hq, hv]
  rfl

theorem violate_owner_self (h : (s.vstate 4).sum + 1 < 1024 ∨ (s.vstate 4).throttled.isSome = true) (tag : Nat) :
    s.violate 4 0x0A 0 tag = s.setOwner { s.host.owner with viol := (s.vstate 4).more 0x0A 0 (BitVec.ofNat 16 tag) s.now } :=
  violate_owner h s.host.owner rfl tag

/-! ### The messages (R414) -/

theorem submit_runs (hs : s.live = true) {b : List Byte} (hb : b.head? = some 0x11) : exec (.submit b) s = .next (
    if b.length < 69 then (s.setOwner { s.host.owner with lastRes := 3 }).violate 4 0x0A 0 0
    else if (!spiOk b 65) = true then (s.setOwner { s.host.owner with lastRes := 1 }).violate 4 0x0A 0 0
    else if 64 ≤ s.host.owner.subs.length then s.setOwner { s.host.owner with lastRes := 2 }
    else s.setOwner { s.host.owner with lastRes := 0, subs := s.host.owner.subs ++ [slice b 1 64] }) := by
  have hx : exec (.submit b) s = execSubmit b s := rfl
  rw [hx, execSubmit, act_live hs, if_neg (not_not.mpr hb)]

theorem status_runs (hs : s.live = true) {b : List Byte} (hb : b.head? = some 0x22) : exec (.status b) s = .next (
    if b.length < 14 then s.violate 4 0x0A 0 0 else s.emit (.spi (s.ownerStatus ++ spiCrc s.ownerStatus))) := by
  have hx : exec (.status b) s = execStatus b s := rfl
  rw [hx, execStatus, act_live hs, if_neg (not_not.mpr hb)]

theorem fetch_runs (hs : s.live = true) {b : List Byte} (hb : b.head? = some 0x33) (hlen : 38 ≤ b.length) {e : List Byte}
    (he : ((s.host.owner.comps.head?).map fun r => r.bytes [] Config.ownerPhase Config.ownerSqhead.toNat).getD Config.fetchIdle = e) :
    exec (.fetch b) s = .next (s.emit (.spi (e ++ spiCrc e))) := by
  have hx : exec (.fetch b) s = execFetch b s := rfl
  rw [hx, execFetch, act_live hs, if_neg (not_not.mpr hb), if_neg (Nat.not_lt.mpr hlen), ← he]
  cases s.host.owner.comps.head? <;> rfl

theorem pop_wrong (hs : s.live = true) {b : List Byte} (hb : b.head? = some 0x44) (hbad : ¬ (7 ≤ b.length ∧ spiOk b 3 = true)) :
    exec (.pop b) s = .next (s.violate 4 0x0A 0 0) := by
  have hx : exec (.pop b) s = execPop b s := rfl
  rw [hx, execPop, act_live hs, if_neg (not_not.mpr hb), if_pos]
  rw [Bool.or_eq_true, decide_eq_true_eq]
  by_cases hlen : b.length < 7
  · exact .inl hlen
  · exact .inr (congrArg (!·) (Bool.eq_false_iff.mpr fun h => hbad ⟨Nat.not_lt.mp hlen, h⟩))

theorem pop_runs (hs : s.live = true) {b : List Byte} (hb : b.head? = some 0x44) (hok : 7 ≤ b.length ∧ spiOk b 3 = true) {r : Ready} {rs : List Ready}
    (hc : s.host.owner.comps = r :: rs) : exec (.pop b) s = .next (
      if r.tag.toNat ≠ le b 1 2 then s.violate 4 0x0A 0 (le b 1 2)
      else
        let t := (s.setOwner { s.host.owner with comps := rs }).ownerWrites 63
        if rs.isEmpty then t.emit (.ownerAlert false) else t) := by
  obtain ⟨hlen, hcrc⟩ := hok
  have hx : exec (.pop b) s = execPop b s := rfl
  rw [hx, execPop, act_live hs, if_neg (not_not.mpr hb), if_neg, hc]
  rw [hcrc, decide_eq_false (Nat.not_lt.mpr hlen)]
  exact Bool.false_ne_true

/-- While fewer than 64 completions wait, none of them enters the buffer by a POP (R415). -/
theorem ownerWrites_short (h : s.host.owner.comps.length < 64) : s.ownerWrites 63 = s := by
  unfold State.ownerWrites
  rw [List.getElem?_eq_none (by omega)]

theorem roll_throttled (v : VState) (now : Nat) : (v.roll now).throttled = v.throttled := by
  unfold VState.roll
  dsimp only
  split <;> rfl

theorem ownerStatus_eq (s : State) : s.ownerStatus =
    toLe 1 ((if s.host.avail then 1 else 0) + (if (s.vstate 4).throttled.isSome then 2 else 0) + (if s.host.owner.comps ≠ [] then 4 else 0) +
      8 * s.host.owner.lastRes.toNat) ++ [0] ++ toLe 2 (min 64 s.host.owner.comps.length) ++ toLe 2 (64 - s.host.owner.subs.length) ++
      toLe 2 (s.vstate 4).sum := by
  have hthr : s.host.owner.viol.throttled = (s.vstate 4).throttled := (roll_throttled s.host.owner.viol s.now).symm
  have hcomps : (0 < min 64 s.host.owner.comps.length) ↔ s.host.owner.comps ≠ [] := by
    rw [← List.length_pos_iff]
    omega
  unfold State.ownerStatus
  dsimp only
  rw [hthr]
  simp only [b2n_eq, decide_eq_true_eq, hcomps, mul_ite, mul_one, mul_zero]

/-- The bytes of a completion without SEQ, by place (R401). -/
theorem readyBytes_parts (r : Ready) (hr : r.seq = none) (key : List Byte) (phase : Bool) (sqhead : Nat) :
    slice (r.bytes key phase sqhead) 0 2 = toLe 2 r.tag.toNat ∧ slice (r.bytes key phase sqhead) 2 1 = [r.status] ∧
    slice (r.bytes key phase sqhead) 8 16 = toLe 16 r.result.toNat ∧ (r.bytes key phase sqhead).length = 32 := by
  have hgone : ∀ n k x, n ≤ k → (toLe n x).drop k = [] := fun n k x h => List.drop_eq_nil_of_le (by rw [length_toLe]; exact h)
  unfold Ready.bytes slice
  rw [hr]
  refine ⟨?_, ?_, ?_, ?_⟩ <;> simp [length_toLe, List.drop_append, List.take_append, hgone]

end

/-- Settles O48: each message by its bytes and CRC, and by what the buffer holds. -/
theorem ownerPortMessages : Obligations.OwnerPortMessages := by
  unfold Obligations.OwnerPortMessages
  intro s b r rs hs o w quiet crc violates good popOk tag
  have hgood : good → spiOk b 65 = true := fun h => decide_eq_true h
  have hbad : ¬ good → spiOk b 65 = false := fun h => decide_eq_false h
  have hpop : popOk ↔ 7 ≤ b.length ∧ spiOk b 3 = true := by
    unfold spiOk
    rw [decide_eq_true_eq]
    exact Iff.rfl
  refine ⟨fun hb => ⟨fun hlen hg hroom => ?_, fun hlen hg hfull => ?_, fun hlen hg hq => ?_, fun hlen hq => ?_⟩, fun hb hlen => ?_, fun hb hlen hq => ?_,
    fun hb hlen hc hr => ?_, fun hb hlen hc => ?_, fun hb hok hc => ⟨fun htag hlast => ?_, fun htag hmore hshort => ?_, fun htag hq => ?_⟩,
    fun hb hwrong hq => ?_, fun hb => ?_, fun hb => ?_⟩
  · rw [submit_runs hs hb, if_neg (Nat.not_lt.mpr hlen), hgood hg, if_neg (by decide), if_neg (Nat.not_le.mpr hroom)]
  · rw [submit_runs hs hb, if_neg (Nat.not_lt.mpr hlen), hgood hg, if_neg (by decide), if_pos hfull]
  · rw [submit_runs hs hb, if_neg (Nat.not_lt.mpr hlen), hbad hg, Bool.not_false, if_pos rfl, violate_owner hq { s.host.owner with lastRes := 1 } rfl]
    rfl
  · rw [submit_runs hs hb, if_pos hlen, violate_owner hq { s.host.owner with lastRes := 3 } rfl]
    rfl
  · dsimp only
    rw [status_runs hs hb, if_neg (Nat.not_lt.mpr hlen), ownerStatus_eq]
    rfl
  · rw [status_runs hs hb, if_pos hlen, violate_owner_self hq]
    rfl
  · exact ⟨_, fetch_runs hs hb hlen (by rw [hc]; rfl), readyBytes_parts r hr _ _ _⟩
  · exact fetch_runs hs hb hlen (by rw [hc]; rfl)
  · rw [pop_runs hs hb (hpop.mp hok) hc, if_neg (not_not.mpr htag), ownerWrites_short (by rw [hlast]; exact Nat.zero_lt_succ 63), hlast]
    rfl
  · rw [pop_runs hs hb (hpop.mp hok) hc, if_neg (not_not.mpr htag), ownerWrites_short hshort]
    exact congrArg Host.Outcome.next (if_neg (by rw [List.isEmpty_iff]; exact hmore))
  · rw [pop_runs hs hb (hpop.mp hok) hc, if_pos htag, violate_owner_self hq]
    rfl
  · rw [pop_wrong hs hb (fun h => hwrong (hpop.mpr h)), violate_owner_self hq]
    rfl
  · have hx : exec (.submit b) s = execSubmit b s := rfl
    rw [hx, execSubmit, act_live hs, if_pos hb]
  · have hx : exec (.pop b) s = execPop b s := rfl
    rw [hx, execPop, act_live hs, if_pos hb]

end Sys2Proof.Machine

/-! O53: GPIO, the console, the telemetry target and JTAG. -/

namespace Sys2Proof.Machine

section
variable {s : State} {b : BankId} {pins : BitVec 24} {r : BitVec 256}

/-! ### GPIO (R502) -/

theorem capture_runs (hs : s.live = true) (h : s.bankActive b = true) (pins : BitVec 24) : exec (.captureEvent b pins) s =
    .next ((s.setBank b ((s.bank b).capture (s.bankHeld b) pins)).bankSend b) := by
  have hx : exec (.captureEvent b pins) s = execCaptureEvent b pins s := rfl
  rw [hx, execCaptureEvent, act_live hs, if_pos h]

/-- The sample of a capture event (R502). -/
def Bank.sample (x : Bank) (pins : BitVec 24) : Reg := BitVec.ofNat 32 (x.scount.toNat * 2 ^ 24 + pins.toNat)

theorem capture_silent {x : Bank} (hr : x.record = some r) (hq : recN r 0x14 2 = 0xFFFF) (held : Nat) (pins : BitVec 24) :
    x.capture held pins = { x with pins := pins } := by
  unfold Bank.capture
  rw [hr]
  exact if_pos hq

theorem capture_of {x : Bank} (hr : x.record = some r) (hq : recN r 0x14 2 ≠ 0xFFFF) (held : Nat) (pins : BitVec 24) :
    x.capture held pins =
      if (x.partialSamples ++ [x.sample pins]).length < 4 then
        { x with pins := pins, scount := x.scount + 1, partialSamples := x.partialSamples ++ [x.sample pins] }
      else if 16 ≤ x.wait.length + held then
        { x with pins := pins, scount := x.scount + 1, partialSamples := [], drop := min (x.drop + 1) 0xFFFF }
      else
        { x with pins := pins, scount := x.scount + 1, partialSamples := [], wait := x.wait ++ [sampleWord (x.partialSamples ++ [x.sample pins])] } := by
  unfold Bank.capture
  rw [hr]
  exact if_neg hq

/-- While the NoC takes nothing from a bank, its words wait (R502). -/
theorem bankSend_barred {n : Nat} (h : s.maySendReq (0x228 + n) = false) (x : Bank) : (s.setBank n x).bankSend n = s.setBank n x := by
  have hbar : (s.setBank n x).maySendReq (0x228 + n) = false := h
  unfold State.bankSend
  dsimp only
  rw [hbar]
  cases ((s.setBank n x).bank n).record <;> rfl

theorem bankSend_one {n : Nat} {x : Bank} {w : Word} (hr : x.record = some r) (hw : x.wait = [w]) (h : s.maySendReq (0x228 + n) = true) :
    let to_ : End := .array (s.redir (recN r 0x14 2 / 128)) 0
    (s.setBank n x).bankSend n = (s.setBank n { x with wait := [] }).sendReq to_
      { op := .pushp, who := 0x228 + n, prio := if recN r 0 1 = 0xFF then 3 else s.lowerTo (0x228 + n) to_ 3 (some (recN r 0 1))
        addr := recN r 0x14 2, prod := prodGPIO, words := [(w, 0)] } := by
  have hsend : (s.setBank n x).maySendReq (0x228 + n) = true := h
  unfold State.bankSend
  dsimp only
  rw [bank_setBank, hr, hsend, setBank_setBank, hw]
  rfl

theorem gpioOutput_runs (hs : s.live = true) (h : s.bankActive b = true) : exec (.gpioOutputWord b) s = .next (s.bankDrive b) := by
  have hx : exec (.gpioOutputWord b) s = execGpioOutputWord b s := rfl
  rw [hx, execGpioOutputWord, act_live hs, if_pos h]

theorem bankDrive_idle {n : Nat} (h : (s.bank n).outbuf = []) : s.bankDrive n = s := by
  unfold State.bankDrive
  dsimp only
  rw [h]

/-- The four lanes of an output word drive the pins, and its credit goes back (R154, R502). -/
theorem bankDrive_word {n : Nat} {w : MvWord} {rest : List MvWord} (h : (s.bank n).outbuf = w :: rest) (hr : (s.bank n).record = some r) :
    s.bankDrive n = (({ s with out := s.out ++ (List.range 4).map (fun l => .pins n (laneOf w.w (recN r 8 3) l).1 (laneOf w.w (recN r 8 3) l).2) } : State).setBank n
      { s.bank n with outbuf := rest, driven := (laneOf w.w (recN r 8 3) 3).1
                      pins := ((s.bank n).pins &&& ~~~(BitVec.ofNat 24 (recN r 8 3))) ||| (laneOf w.w (recN r 8 3) 3).1 }).sendReq (.array w.cl 0)
      { op := .crd, who := 0x228 + n, prio := 3, chan := w.ch, addr := s.origin w.cl, count := 1 } := by
  have hlanes : (List.range 4).foldl (fun s l => s.emit (.pins n (laneOf w.w (recN r 8 3) l).1 (laneOf w.w (recN r 8 3) l).2)) s =
      { s with out := s.out ++ (List.range 4).map (fun l => .pins n (laneOf w.w (recN r 8 3) l).1 (laneOf w.w (recN r 8 3) l).2) } := by
    simp [List.range_succ, State.emit]
  unfold State.bankDrive
  dsimp only
  rw [h, hr]
  dsimp only
  rw [hlanes]
  rfl

/-! ### The pins (R506) -/

/-- Outside JTAG's pin instructions a live part in service shows a bank's record, or its HOLD in FAULT-SAFE. -/
theorem pad_loaded (hs : s.live = true) (hj : s.ext.jtag ≠ .highz ∧ s.ext.jtag ≠ .extest ∧ s.ext.jtag ≠ .clamp) (hb : 7 ≤ s.sys.bring)
    (hheld : s.pinsHeld = false) (n i : Nat) : s.pad n i =
      ((s.bank n).record.map fun r => if s.sys.dstate = .faultSafe then holdPad (recN r 3 1) (bit (s.bank n).driven.toNat i) else (s.bank n).pad r i).getD
        .pullDown := by
  obtain ⟨h1, h2, h3⟩ := hj
  unfold State.live at hs
  rw [Bool.and_eq_true, Bool.not_eq_true', Option.isNone_iff_eq_none] at hs
  obtain ⟨hoff, hnone⟩ := hs
  unfold State.pad
  dsimp only
  rw [hoff, decide_eq_false h1, decide_eq_false h2, decide_eq_false h3, hnone, decide_eq_false (Nat.not_lt.mpr hb), hheld]
  cases (s.bank n).record <;> rfl

end

/-- Settles O53: each command by the one state that it puts. -/
theorem pinsAndConsole : Obligations.PinsAndConsole := by
  unfold Obligations.PinsAndConsole
  intro s b pins rec w rest n ptr data addr cells ir hs x tells jtag sample
  have hfour : x.partialSamples.length = 3 → ¬ (x.partialSamples ++ [x.sample pins]).length < 4 := by
    intro h
    rw [List.length_append, h]
    exact Nat.lt_irrefl 4
  have hins : (s.ext.jtag = .idcode ∨ s.ext.jtag = .bypass ∨ s.ext.jtag = .sample ∨ s.ext.jtag = .debug ir) →
      s.ext.jtag ≠ .highz ∧ s.ext.jtag ≠ .extest ∧ s.ext.jtag ≠ .clamp := by
    rintro (h | h | h | h) <;> rw [h] <;> exact ⟨nofun, nofun, nofun⟩
  have hread : ∀ p : Byte, exec (.telemetryRead p) s = .next (if (decide (3 ≤ p.toNat) && decide (p.toNat ≤ 5)) = true then
      { tells (s.telemetry p.toNat) with entropy := s.entropy + 1 } else tells (s.telemetry p.toNat)) := by
    intro p
    have hx : exec (.telemetryRead p) s = execTelemetryRead p s := rfl
    rw [hx, execTelemetryRead, act_live hs]
    rfl
  have htell : ∀ p : Byte, ¬ (3 ≤ p.toNat ∧ p.toNat ≤ 5) → exec (.telemetryRead p) s = .next (tells (s.telemetry p.toNat)) := by
    intro p hp
    rw [hread, if_neg (by rw [Bool.and_eq_true, decide_eq_true_eq, decide_eq_true_eq]; exact hp)]
  refine ⟨fun hoff => ⟨?_, ?_⟩, fun hon hr => ⟨fun hq hbar => ?_, fun hq hbar => ⟨fun hlen => ?_, fun hlen hroom => ?_, fun hlen hfull => ?_⟩,
      fun hq hsend hlen hwait hroom => ?_, fun hout => ?_, fun hout => ?_⟩, fun hj hb hheld => ⟨fun hr => ?_, fun hr hdir hsafe => ?_, fun hr hsafe => ?_⟩,
    ?_, ?_, ?_, ⟨?_, ?_, ?_, ?_, fun h => ?_, fun h1 h2 => ?_⟩, fun hne => ?_, ?_, fun hi => ?_, fun hi => ?_, ⟨?_, ?_, ?_, ?_, ?_, ?_⟩, fun hl => ?_, fun hl => ?_⟩
  · have hx : exec (.captureEvent b pins) s = execCaptureEvent b pins s := rfl
    rw [hx, execCaptureEvent, act_live hs, if_neg (by rw [hoff]; exact Bool.false_ne_true)]
  · have hx : exec (.gpioOutputWord b) s = execGpioOutputWord b s := rfl
    rw [hx, execGpioOutputWord, act_live hs, if_neg (by rw [hoff]; exact Bool.false_ne_true)]
  · rw [capture_runs hs hon, capture_silent hr hq, bankSend_barred hbar]
  · rw [capture_runs hs hon, capture_of hr hq, if_pos (by rw [List.length_append]; exact Nat.succ_lt_succ hlen), bankSend_barred hbar]
    rfl
  · rw [capture_runs hs hon, capture_of hr hq, if_neg (hfour hlen), if_neg (Nat.not_le.mpr hroom), bankSend_barred hbar]
    rfl
  · rw [capture_runs hs hon, capture_of hr hq, if_neg (hfour hlen), if_pos hfull, bankSend_barred hbar]
  · have hnowait : x.wait.length + s.bankHeld b < 16 := by rw [hwait]; exact (Nat.zero_add _).trans_lt hroom
    have hone : x.wait ++ [sampleWord (x.partialSamples ++ [x.sample pins])] = [sampleWord (x.partialSamples ++ [x.sample pins])] := by rw [hwait]; rfl
    have hbankSend := bankSend_one (s := s) (n := b) (r := rec) (w := sampleWord (x.partialSamples ++ [x.sample pins])) (x := { x with
      pins := pins, scount := x.scount + 1, partialSamples := [], wait := x.wait ++ [sampleWord (x.partialSamples ++ [x.sample pins])] }) hr hone hsend
    dsimp only at hbankSend ⊢
    rw [capture_runs hs hon, capture_of hr hq, if_neg (hfour hlen), if_neg (Nat.not_le.mpr hnowait), hbankSend, ← hwait]
    rfl
  · rw [gpioOutput_runs hs hon, bankDrive_idle hout]
  · rw [gpioOutput_runs hs hon, bankDrive_word hout hr]
    exact ⟨_, rfl, rfl, bank_setBank _ _ _, rfl⟩
  · rw [pad_loaded hs (hins hj) hb hheld, hr]
    rfl
  · rw [pad_loaded hs (hins hj) hb hheld, hr]
    exact (if_neg hsafe).trans (if_pos hdir)
  · rw [pad_loaded hs (hins hj) hb hheld, hr]
    refine (if_pos hsafe).trans ?_
    obtain ⟨k, hk⟩ : ∃ k, k = recN rec 3 1 := ⟨_, rfl⟩
    rw [← hk]
    match k with
    | 0 | 1 | 2 | 3 => rfl
    | k + 4 => rfl
  · exact exec_of_act (f := fun s => s.emit (.console (toLe 16 s.devStatus))) hs rfl
  · exact exec_of_act (f := fun s => s.emit (.console (((s.rel.log[n]?).map LogEntry.bytes).getD []))) hs rfl
  · exact exec_of_act (f := fun s => s.emit (.console (Config.fwVersion (sget 0 s.rel.fwVer 0) ++ Config.fwVersion (sget 0 s.rel.fwVer 1)))) hs rfl
  · exact htell 0 (by decide)
  · exact htell 1 (by decide)
  · exact htell 2 (by decide)
  · exact htell 6 (by decide)
  · rw [htell ptr (fun h' => by omega)]
    refine congrArg (fun v => Host.Outcome.next (tells v)) ?_
    unfold State.telemetry
    simp only [show ptr.toNat ≠ 0 by omega, show ptr.toNat ≠ 1 by omega, show ptr.toNat ≠ 2 by omega, show ptr.toNat ≠ 3 by omega,
      show ptr.toNat ≠ 4 by omega, show ptr.toNat ≠ 5 by omega, show ptr.toNat ≠ 6 by omega, if_false]
  · rw [hread]
    exact ⟨_, congrArg Host.Outcome.next (if_pos (by rw [decide_eq_true h1, decide_eq_true h2]; rfl))⟩
  · have hx : exec (.telemetryWrite data) s = execTelemetryWrite data s := rfl
    rw [hx, execTelemetryWrite, act_live hs, if_neg (by rw [List.isEmpty_iff]; exact hne)]
  · exact exec_of_act (f := fun s => s) hs rfl
  · have hx : exec (.entdaa addr) s = execEntdaa addr s := rfl
    rw [hx, execEntdaa, act_live hs, if_neg (by rw [hi]; exact Bool.false_ne_true)]
  · have hx : exec (.entdaa addr) s = execEntdaa addr s := rfl
    rw [hx, execEntdaa, act_live hs, if_pos hi]
  · exact exec_of_act (f := (·.setJtag .bypass)) hs rfl
  · exact exec_of_act (f := (·.setJtag .extest)) hs rfl
  · exact exec_of_act (f := (·.setJtag .highz)) hs rfl
  · exact exec_of_act (f := (·.setJtag .clamp)) hs rfl
  · exact exec_of_act (f := fun s => (s.setJtag .idcode).emit (.jtag 0x14096A1D)) hs rfl
  · have hx : exec (.samplePreload cells) s = execSamplePreload cells s := rfl
    rw [hx, execSamplePreload, act_live hs]
    exact ⟨_, _, rfl, rfl, rfl⟩
  · have hx : exec (.jtagDebugInstruction ir) s = execJtagDebugInstruction ir s := rfl
    rw [hx, execJtagDebugInstruction, act_live hs, if_pos hl]
  · have hx : exec (.jtagDebugInstruction ir) s = execJtagDebugInstruction ir s := rfl
    rw [hx, execJtagDebugInstruction, act_live hs, if_neg (not_not.mpr hl)]

end Sys2Proof.Machine

/-! O52: Ethernet ingress, egress, associations and PTP. -/

namespace Sys2Proof.Machine

/-! ### Ingress (R492, R493) -/

/-- What the pushes of an Ethernet port add to the network (R493): packets for a queue that carry words in order. -/
def State.pushedEth (s t : State) (q : Nat) (ws : List (Word × BitVec 4)) : Prop :=
  t.ext = s.ext ∧ t.belay = s.belay ∧ ∃ ks, t.noc.packets = s.noc.packets ++ ks ∧ ks.flatMap (·.words) = ws ∧
    ∀ k ∈ ks, k.op = .pushp ∧ k.addr = q ∧ k.prod = prodETH ∧ k.words.length ≤ 16

theorem pushedEth_refl (s : State) (q : Nat) : s.pushedEth s q [] :=
  ⟨rfl, rfl, [], (List.append_nil _).symm, rfl, fun _ h => absurd h List.not_mem_nil⟩

theorem pushedEth_trans {s t u : State} {q : Nat} {ws vs : List (Word × BitVec 4)} (h : s.pushedEth t q ws) (h' : t.pushedEth u q vs) :
    s.pushedEth u q (ws ++ vs) := by
  obtain ⟨hext, hbelay, ks, hks, hws, hall⟩ := h
  obtain ⟨hext', hbelay', ls, hls, hvs, hall'⟩ := h'
  refine ⟨hext'.trans hext, hbelay'.trans hbelay, ks ++ ls, ?_, ?_, fun k hk => ?_⟩
  · rw [hls, hks, List.append_assoc]
  · rw [List.flatMap_append, hws, hvs]
  · rcases List.mem_append.mp hk with hk | hk
    · exact hall k hk
    · exact hall' k hk

theorem sendReq_pushedEth (s : State) (b : End) (p : Packet) (hop : p.op = .pushp) (hprod : p.prod = prodETH) (hlen : p.words.length ≤ 16) :
    s.pushedEth (s.sendReq b p) p.addr p.words := by
  refine ⟨rfl, rfl, [_], sendReq_packets s b p, ?_, ?_⟩
  · rw [List.flatMap_singleton]
    cases initEnd p.who <;> cases b <;> rfl
  · intro k hk
    rw [List.mem_singleton.mp hk]
    cases initEnd p.who <;> cases b <;> exact ⟨hop, rfl, hprod, hlen⟩

theorem packetsOf_short (k : Nat) : ∀ ws : List (Word × BitVec 4), ∀ w ∈ packetsOf k ws, w.length ≤ 16 := by
  induction k with
  | zero => exact fun _ _ => nofun
  | succ k ih =>
    intro ws w hw
    unfold packetsOf at hw
    split at hw
    · cases hw
    · rcases List.mem_cons.mp hw with rfl | hw
      · exact List.length_take_le 16 ws
      · exact ih _ w hw

theorem packetsOf_flatten (k : Nat) : ∀ ws : List (Word × BitVec 4), ws.length ≤ k → (packetsOf k ws).flatten = ws := by
  induction k with
  | zero => exact fun ws h => (List.length_eq_zero_iff.mp (Nat.le_zero.mp h)).symm
  | succ k ih =>
    intro ws h
    unfold packetsOf
    split
    · next hnil => exact (List.isEmpty_iff.mp hnil).symm
    · rw [List.flatten_cons, ih _ (by rw [List.length_drop]; omega), List.take_append_drop]

/-- A frame's words go to their queue in packets of up to 16 (R493). -/
theorem ethPush_pushed (s : State) (n q : Nat) (ws : List (Word × BitVec 4)) : s.pushedEth (s.ethPush n q ws) q ws := by
  have hfold : ∀ (l : List (List (Word × BitVec 4))) (u : State), (∀ w ∈ l, w.length ≤ 16) →
      u.pushedEth (l.foldl (fun s w =>
        let b : End := .array (s.redir (q / 128)) 0
        s.sendReq b { op := .pushp, who := 0x220 + n, prio := s.lowerTo (0x220 + n) b 3 (s.qRegion q), addr := q, prod := prodETH, words := w }) u) q l.flatten := by
    intro l
    induction l with
    | nil => exact fun u _ => pushedEth_refl u q
    | cons w l ih =>
      intro u hl
      exact pushedEth_trans (sendReq_pushedEth u _ _ rfl rfl (hl w List.mem_cons_self)) (ih _ fun v hv => hl v (List.mem_cons_of_mem w hv))
  have h := hfold (packetsOf ws.length ws) s (packetsOf_short _ ws)
  rw [packetsOf_flatten _ ws le_rfl] at h
  exact h

section
variable {s : State} {e : EthId} {sub : SubId} {f : RxFrame}

theorem receive_runs (hs : s.live = true) (e : EthId) (sub : SubId) (f : RxFrame) : exec (.frameReceive e sub f) s =
    .next (if (s.ethActive && s.ethUp e sub) = true then s.rxFrame e sub f else s) := by
  have hx : exec (.frameReceive e sub f) s = execFrameReceive e sub f s := rfl
  rw [hx, execFrameReceive, act_live hs]

/-- The frames that MACsec, the FCS and the bounds on their length let in (R486, R487). -/
def Eth.takes (v : Eth) (f : RxFrame) : Prop := f.fcsOk = true ∧ 60 ≤ f.bytes.length ∧ f.bytes.length ≤ 9596 ∧ v.rejects f = false

theorem takes_iff (v : Eth) (f : RxFrame) : v.takes f ↔
    ¬ (!f.fcsOk || decide (f.bytes.length + 4 < 64) || decide (9600 < f.bytes.length + 4) || v.rejects f) = true := by
  unfold Eth.takes
  simp only [Bool.or_eq_true, Bool.not_eq_true', decide_eq_true_eq, not_or, Bool.not_eq_false, Bool.not_eq_true]
  constructor
  · rintro ⟨h1, h2, h3, h4⟩
    exact ⟨⟨⟨h1, by omega⟩, by omega⟩, h4⟩
  · rintro ⟨⟨⟨h1, h2⟩, h3⟩, h4⟩
    exact ⟨h1, by omega, by omega, h4⟩

theorem rxFrame_bad {n k : Nat} (hc : s.sys.change = none) (h : ¬ (s.eth n).takes f) :
    s.rxFrame n k f = s.setEth n { s.eth n with rxerr := min ((s.eth n).rxerr + 1) 0xFFFFFFFF } := by
  unfold State.rxFrame
  rw [hc]
  exact (if_neg Bool.false_ne_true).trans (if_pos (not_not.mp fun hn => h ((takes_iff _ f).mpr hn)))

theorem rxFrame_pause {n k : Nat} (hc : s.sys.change = none) (h : (s.eth n).takes f) (hp : f.pause = true) : s.rxFrame n k f = s := by
  unfold State.rxFrame
  rw [hc]
  exact (if_neg Bool.false_ne_true).trans ((if_neg ((takes_iff _ f).mp h)).trans (if_pos hp))

theorem rxFrame_unmatched {n k : Nat} (hc : s.sys.change = none) (h : (s.eth n).takes f) (hp : f.pause = false) (hst : s.steer n k f.bytes = none) :
    s.rxFrame n k f = s.setEth n { s.eth n with noMatch := min ((s.eth n).noMatch + 1) 0xFFFFFFFF } := by
  unfold State.rxFrame
  rw [hc, hst]
  exact (if_neg Bool.false_ne_true).trans ((if_neg ((takes_iff _ f).mp h)).trans (if_neg (by rw [hp]; exact Bool.false_ne_true)))

theorem rxFrame_steered {n k x : Nat} {y : Rule} (hc : s.sys.change = none) (h : (s.eth n).takes f) (hp : f.pause = false)
    (hst : s.steer n k f.bytes = some (x, y)) : s.rxFrame n k f = s.ethPush n y.qid (frameWords n k x s.now y f.secure f.bytes) := by
  unfold State.rxFrame
  rw [hc, hst]
  exact (if_neg Bool.false_ne_true).trans ((if_neg ((takes_iff _ f).mp h)).trans (if_neg (by rw [hp]; exact Bool.false_ne_true)))

/-! ### Egress (R496) -/

theorem egress_runs (hs : s.live = true) (x : SessId) : exec (.egressFrame x) s = .next (s.egress x) := by
  have hx : exec (.egressFrame x) s = execEgressFrame x s := rfl
  rw [hx, execEgressFrame, act_live hs]

theorem egress_idle {x : Nat} (h : (s.sess x).words = []) : s.egress x = s := by
  unfold State.egress
  dsimp only
  rw [h]

theorem words_split {ws : List (Word × BitVec 4)} (hws : ∀ z ∈ ws, z.2 = 1) (w : Word) :
    (ws ++ [(w, 3)]).takeWhile (fun z => decide (z.2 = 1)) = ws ∧ (ws ++ [(w, 3)]).drop ws.length = [(w, (3 : BitVec 4))] := by
  refine ⟨?_, List.drop_left⟩
  rw [List.takeWhile_append_of_pos (fun z hz => decide_eq_true (hws z hz))]
  exact List.append_nil ws

/-- A metadata word with data words up to a last one, which form no frame, is discarded with them. -/
theorem egress_malformed {x : Nat} {m w : Word} {ws : List (Word × BitVec 4)} (h : (s.sess x).words = (m, 8) :: (ws ++ [(w, 3)]))
    (hws : ∀ z ∈ ws, z.2 = 1) (hbad : egressOk m (ws ++ [(w, 3)]) = false) :
    s.egress x = (s.setSess x { s.sess x with words := [] }).egError (s.egressAt x).1 := by
  obtain ⟨htake, hdrop⟩ := words_split hws w
  unfold State.egress
  dsimp only
  rw [h]
  dsimp only
  rw [if_neg (by decide), htake, hdrop]
  dsimp only
  rw [hbad]
  rfl

theorem egress_frame {x : Nat} {m w : Word} {ws : List (Word × BitVec 4)} (h : (s.sess x).words = (m, 8) :: (ws ++ [(w, 3)]))
    (hws : ∀ z ∈ ws, z.2 = 1) (hok : egressOk m (ws ++ [(w, 3)]) = true) :
    let n := (s.egressAt x).1
    let t := s.setSess x { s.sess x with words := [] }
    s.egress x = if s.ethUp n (s.egressAt x).2 = true then
        t.setEth n { s.eth n with out := (s.eth n).out ++ [⟨x, (s.egressAt x).2, ((ws ++ [(w, 3)]).flatMap (fun z : Word × BitVec 4 => wordBytes z.1)).take (egLEN m),
          BitVec.ofNat 2 (egTSMODE m), egTSOFF m, egUDP4 m⟩] }
      else t.txDrop n := by
  obtain ⟨htake, hdrop⟩ := words_split hws w
  unfold State.egress
  dsimp only
  rw [h]
  dsimp only
  rw [if_neg (by decide), htake, hdrop]
  dsimp only
  rw [hok]
  refine (if_pos rfl).trans ?_
  have hup : (s.setSess x { s.sess x with words := [] }).ethUp (s.egressAt x).1 (s.egressAt x).2 = s.ethUp (s.egressAt x).1 (s.egressAt x).2 := rfl
  rw [hup]
  cases s.ethUp (s.egressAt x).1 (s.egressAt x).2 <;> rfl

/-! ### Departure (R497, R498) -/

theorem rrPick_single {n x : Nat} (hx : x < n) (p : Nat) {f : Nat → Bool} (hf : ∀ y, f y = true ↔ y = x) : rrPick n p f = some x := by
  have hmem : x ∈ (List.range n).map (fun i => (p + i) % n) := by
    refine List.mem_map.mpr ⟨(x + (n - p % n)) % n, List.mem_range.mpr (Nat.mod_lt _ (by omega)), ?_⟩
    have hlt : p % n < n := Nat.mod_lt p (by omega)
    calc (p + (x + (n - p % n)) % n) % n = (p % n + (x + (n - p % n))) % n := by simp [Nat.add_mod]
      _ = (x + n) % n := congrArg (· % n) (by omega)
      _ = x := by rw [Nat.add_mod_right, Nat.mod_eq_of_lt hx]
  unfold rrPick
  cases h : ((List.range n).map (fun i => (p + i) % n)).find? f with
  | none => exact absurd ((hf x).mpr rfl) (List.find?_eq_none.mp h x hmem)
  | some y => exact congrArg some ((hf y).mp (List.find?_some h))

/-- The only frame that waits on a port departs next once its session's tokens cover it. -/
theorem nextFrame_only {n sub : Nat} {g : TxFrame} (h : (s.eth n).out = [g]) (hsub : g.sub = sub) (hsess : g.sess < 16384) :
    s.nextFrame n sub = if ((s.sess g.sess).atFrame s.now).may (g.bytes.length + 4) = true then some g else none := by
  have hfirst : firstFrames sub [g] = [g] := by simp [firstFrames, hsub]
  unfold State.nextFrame
  dsimp only
  rw [h, hfirst]
  by_cases hmay : ((s.sess g.sess).atFrame s.now).may (g.bytes.length + 4) = true
  · rw [if_pos hmay, List.filter_cons_of_pos (p := fun f : TxFrame => ((s.sess f.sess).atFrame s.now).may (f.bytes.length + 4)) hmay, List.filter_nil, rrPick_single hsess _ fun y => by simp [eq_comm]]
    exact List.find?_cons_of_pos (p := fun f : TxFrame => decide (f.sess = g.sess)) (decide_eq_true rfl)
  · rw [if_neg hmay, List.filter_cons_of_neg (p := fun f : TxFrame => ((s.sess f.sess).atFrame s.now).may (f.bytes.length + 4)) hmay, List.filter_nil]
    have hnone : ∀ p, rrPick 16384 p (fun e => ([] : List TxFrame).any fun f => decide (f.sess = e)) = none := fun p =>
      List.find?_eq_none.mpr fun _ _ => Bool.false_ne_true
    rw [hnone]
    rfl

theorem nextFrame_none {n sub : Nat} (h : (s.eth n).out = []) : s.nextFrame n sub = none := by
  unfold State.nextFrame
  dsimp only
  rw [h, show rrPick 16384 (sget 0 (s.eth n).ptr sub) (fun e => ((firstFrames sub []).filter fun f =>
    ((s.sess f.sess).atFrame s.now).may (f.bytes.length + 4)).any fun f => decide (f.sess = e)) = none from
      List.find?_eq_none.mpr fun _ _ => Bool.false_ne_true]
  rfl

theorem departure_runs (hs : s.live = true) (e : EthId) (sub : SubId) : exec (.frameDeparture e sub) s =
    .next (if s.ethActive = true then (s.nextFrame e sub).elim s (s.depart e) else s) := by
  have hx : exec (.frameDeparture e sub) s = execFrameDeparture e sub s := rfl
  rw [hx, execFrameDeparture, act_live hs]
  cases s.ethActive
  · rfl
  · cases s.nextFrame e sub <;> rfl

/-- The port and the session once a frame has left its queue. -/
def State.departed (s : State) (n : Nat) (g : TxFrame) : State :=
  let x := (s.sess g.sess).atFrame s.now
  (s.setEth n { s.eth n with out := (s.eth n).out.erase g, ptr := sput 0 (s.eth n).ptr g.sub ((g.sess + 1) % 16384) }).setSess g.sess
    { x with bucket := if x.rate = 0 then x.bucket else x.bucket - (g.bytes.length + 4) * 8000, egCount := x.egCount + 1 }

theorem departed_eth (n : Nat) (g : TxFrame) : (s.departed n g).eth n =
    { s.eth n with out := (s.eth n).out.erase g, ptr := sput 0 (s.eth n).ptr g.sub ((g.sess + 1) % 16384) } := eth_setEth (s := s) n _

theorem departed_ethUp (n k : Nat) (g : TxFrame) : (s.departed n g).ethUp n k = s.ethUp n k := by
  unfold State.ethUp
  rw [departed_eth]
  rfl

theorem transmit_plain {n : Nat} (h : (s.eth n).txSa = none) (k : Nat) (b : List Byte) :
    s.transmit n k b = s.emit (.frame n k (b ++ Config.fcs b)) := by
  unfold State.transmit
  dsimp only
  rw [h]

theorem stamped_none {g : TxFrame} (hts : g.tsmode = 0) (k : Nat) : stamped g k = g.bytes := by
  unfold stamped
  rw [hts]
  rfl

/-- A frame without a time stamp leaves an unprotected port with its FCS. -/
theorem depart_plain {n : Nat} {g : TxFrame} (hup : s.ethUp n g.sub = true) (hsa : (s.eth n).txSa = none) (hts : g.tsmode = 0) :
    s.depart n g = (s.departed n g).emit (.frame n g.sub (g.bytes ++ Config.fcs g.bytes)) := by
  have hup' : (!(s.departed n g).ethUp n g.sub) = false := by rw [departed_ethUp, hup]; rfl
  have hsa' : ((s.departed n g).eth n).txSa = none := by rw [departed_eth]; exact hsa
  have hsent := transmit_plain hsa' g.sub g.bytes
  rw [← stamped_none hts (s.departed n g).now] at hsent
  unfold State.depart
  refine (if_neg (fun h => Bool.false_ne_true (hup'.symm.trans h))).trans ?_
  refine Eq.trans ?_ (hsent.trans (by rw [stamped_none hts]))
  dsimp only
  split
  · next h2 _ _ => exact absurd (hts.symm.trans h2) (by decide)
  · rfl

/-! ### MACsec and PTP (R489, R499) -/

theorem linkChange_runs (hs : s.live = true) (e : EthId) (sub : SubId) (up : Bool) : exec (.ethLinkChange e sub up) s =
    .next (if (decide ((s.eth e).subs ≤ sub.val) || (up && (!s.ethActive || s.laneLost e sub))) = true then s
      else s.setEth e { s.eth e with link := sput false (s.eth e).link sub up }) := by
  have hx : exec (.ethLinkChange e sub up) s = execEthLinkChange e sub up s := rfl
  rw [hx, execEthLinkChange, act_live hs]

theorem associationChange_runs (hs : s.live = true) (e : EthId) : exec (.macsecAssociationChange e) s =
    .next ((s.eth e).newSas.elim s fun l => s.setEth e { s.eth e with
      sas := l, newSas := none, txAn := ((l.filter (fun a => a.tx && bit a.flags.toNat 0)).getLast?).map (·.an) }) := by
  have hx : exec (.macsecAssociationChange e) s = execMacsecAssociationChange e s := rfl
  rw [hx, execMacsecAssociationChange, act_live hs]
  dsimp only
  cases (s.eth e).newSas <;> rfl

theorem sync_runs (hs : s.live = true) (offset : Int) : exec (.syncMessage offset) s =
    .next (s.ext.ptp.src.elim s fun n => if (s.ethActive && (List.range 4).any (s.ethUp n)) = true then s.ptpSync offset else s) := by
  have hx : exec (.syncMessage offset) s = execSyncMessage offset s := rfl
  rw [hx, execSyncMessage, act_live hs]
  cases s.ext.ptp.src <;> rfl

theorem syncTimeout_runs (hs : s.live = true) : exec .ptpSyncTimeout s =
    .next (if (s.ext.ptp.locked && decide (s.ext.ptp.lastSync + 3000000000 ≤ s.now)) = true
      then s.setPtp { s.ext.ptp with locked := false, good := 0 } else s) := by
  have hx : exec .ptpSyncTimeout s = execPtpSyncTimeout s := rfl
  rw [hx, execPtpSyncTimeout, act_live hs]

/-- The servo's locks and its slew after a Sync, once a source has been locked before: no more steps of the time. -/
theorem ptpSync_servo (h : s.ext.ptp.ever = true) (offset : Int) :
    let t := s.ptpSync offset
    let p := s.ext.ptp
    t.time = s.time ∧ t.ext.ptp.lastSync = s.now ∧ t.ext.ptp.good = (if offset.natAbs ≤ 100 then min 16 (p.good + 1) else 0) ∧
      t.ext.ptp.locked = ((p.locked && decide (offset.natAbs ≤ 1000)) || (decide (offset.natAbs ≤ 100) && decide (15 ≤ p.good))) ∧
      -200 ≤ t.ext.ptp.slew ∧ t.ext.ptp.slew ≤ 200 ∧ t.out = s.out := by
  have hstep : ∀ c, ¬ (!s.ext.ptp.ever && c) = true := by
    rw [h]
    exact fun _ => Bool.false_ne_true
  have hgood : (16 ≤ (if offset.natAbs ≤ 100 then min 16 (s.ext.ptp.good + 1) else 0)) ↔ (offset.natAbs ≤ 100 ∧ 15 ≤ s.ext.ptp.good) := by
    split <;> omega
  intro t p
  unfold t State.ptpSync
  rw [if_neg (hstep _)]
  refine ⟨rfl, rfl, ?_, ?_, le_max_left _ _, max_le (by decide) (min_le_left _ _), rfl⟩
  · by_cases hn : offset.natAbs ≤ 100 <;> simp [State.setPtp, hn, p]
  · have hlost : (!decide (1000 < offset.natAbs)) = decide (offset.natAbs ≤ 1000) := by
      rw [← decide_not, decide_eq_decide, not_lt]
    have hnear : decide (16 ≤ if decide (offset.natAbs ≤ 100) = true then min 16 (s.ext.ptp.good + 1) else 0) =
        (decide (offset.natAbs ≤ 100) && decide (15 ≤ s.ext.ptp.good)) := by
      simp only [decide_eq_true_eq]
      rw [← Bool.decide_and, decide_eq_decide]
      exact hgood
    exact congrArg₂ (fun a b => (s.ext.ptp.locked && a) || b) hlost hnear

end

/-- Settles O52. -/
theorem ethernetTraffic : Obligations.EthernetTraffic := by
  unfold Obligations.EthernetTraffic
  intro s e sub f y n x m w g l offset hs v set good tx port p
  refine ⟨fun hsub => ⟨?_, fun hact hlane => ?_, fun hno => ?_⟩, fun hsub => ⟨?_, ?_⟩, fun hact hup hch => ⟨fun hg => ?_, fun hg hp => ?_, fun hg hp hst => ?_, fun hg hp hst => ?_⟩,
    fun hno => ?_, fun hw => ?_, fun hw => ?_, fun ws hw hws hts hlo hhi hlen => ?_, fun hact hout hsub hsess => ⟨fun hrate hnext hts hup hsa => ?_, fun hrate hnext htok => ?_⟩,
    fun hout => ?_, fun hsas => ?_, fun hsas => ?_, fun hsrc => ?_, fun hsrc hact hup hsub hever => ?_, fun hl ht => ?_, fun hno => ?_⟩
  · rw [linkChange_runs hs, if_neg (by simp only [Bool.false_and, Bool.or_false, decide_eq_true_eq]; exact not_le.mpr hsub)]
  · rw [linkChange_runs hs, hact, hlane, if_neg (by simp only [Bool.not_true, Bool.or_self, Bool.and_false, Bool.or_false, decide_eq_true_eq]; exact not_le.mpr hsub)]
  · rw [linkChange_runs hs, if_pos]
    rcases hno with h | h <;> simp [h]
  · rw [linkChange_runs hs, if_pos (by rw [decide_eq_true hsub, Bool.true_or])]
  · rw [linkChange_runs hs, if_pos (by rw [decide_eq_true hsub, Bool.true_or])]
  · rw [receive_runs hs, hact, hup, if_pos (Bool.and_self true), rxFrame_bad hch hg]
  · rw [receive_runs hs, hact, hup, if_pos (Bool.and_self true), rxFrame_pause hch hg hp]
  · rw [receive_runs hs, hact, hup, if_pos (Bool.and_self true), rxFrame_unmatched hch hg hp hst]
  · rw [receive_runs hs, hact, hup, if_pos (Bool.and_self true), rxFrame_steered hch hg hp hst]
    obtain ⟨hext, hbelay, ks, hks, hws, hall⟩ := ethPush_pushed s e y.qid (frameWords e sub n s.now y f.secure f.bytes)
    refine ⟨_, rfl, ?_, ?_, hext, hbelay⟩
    · rw [hks, List.drop_left]
      exact hws
    · rw [hks, List.drop_left]
      exact hall
  · rw [receive_runs hs, if_neg]
    rcases hno with h | h <;> simp [h]
  · rw [egress_runs hs, egress_idle hw]
  · rw [egress_runs hs, egress_malformed (ws := []) hw (fun _ h => absurd h List.not_mem_nil)]
    unfold egressOk
    simp only [List.nil_append, List.length_singleton, Bool.and_eq_false_iff, decide_eq_false_iff_not]
    omega
  · have hok : egressOk m (ws ++ [(w, 3)]) = true := by
      unfold egressOk
      rw [List.length_append, List.length_singleton, decide_eq_true hts, decide_eq_true hlo, decide_eq_true hhi, decide_eq_true hlen]
      rfl
    have hf := egress_frame (s := s) hw hws hok
    refine ⟨fun hup => ?_, fun hup => ?_⟩
    · rw [egress_runs hs, hf, if_neg (fun h => Bool.false_ne_true (hup.symm.trans h))]
    · rw [egress_runs hs, hf, if_pos hup]
  · have hsess' : s.sess g.sess = tx := congrArg s.sess hsess
    have hat : (s.sess g.sess).atFrame s.now = { tx with filled := s.now } := by
      rw [hsess']
      unfold Sess.atFrame
      dsimp only
      rw [if_pos hrate, hnext]
    rw [departure_runs hs, if_pos hact, nextFrame_only hout hsub (hsess ▸ x.isLt), hat,
      if_pos (by unfold Sess.may; rw [decide_eq_true hrate, Bool.true_or])]
    have hd := depart_plain (n := e) (g := g) (by rw [hsub]; exact hup) hsa hts
    refine ⟨_, rfl, (congrArg State.out hd).trans ?_, (congrArg (fun u => (u.eth e).out) hd).trans ?_, (congrArg (fun u => (u.sess x).egCount) hd).trans ?_⟩
    · rw [hsub]
      rfl
    · refine (congrArg Eth.out (departed_eth (s := s) e g)).trans ?_
      exact (congrArg (List.erase · g) hout).trans (List.erase_cons_head g [])
    · refine (congrArg Sess.egCount ((congrArg (s.departed e g).sess hsess).symm.trans (sess_setSess _ _ _))).trans ?_
      rw [hat]
  · have hsess' : s.sess g.sess = tx := congrArg s.sess hsess
    have hat : (s.sess g.sess).atFrame s.now =
        { tx with bucket := min (tx.burst * 8000) (tx.bucket + (s.now - tx.filled) * tx.rate), filled := s.now } := by
      rw [hsess']
      unfold Sess.atFrame
      dsimp only
      rw [if_neg hrate, hnext]
    rw [departure_runs hs, if_pos hact, nextFrame_only hout hsub (hsess ▸ x.isLt), hat, if_neg]
    · rfl
    · unfold Sess.may
      rw [decide_eq_false hrate, decide_eq_false (Nat.not_le.mpr htok)]
      exact Bool.false_ne_true
  · rw [departure_runs hs, nextFrame_none hout]
    exact congrArg Host.Outcome.next (ite_self _)
  · rw [associationChange_runs hs, hsas]
    rfl
  · rw [associationChange_runs hs, hsas]
    rfl
  · rw [sync_runs hs, hsrc]
    rfl
  · have hany : (List.range 4).any (s.ethUp e) = true := List.any_eq_true.mpr ⟨sub, List.mem_range.mpr hsub, hup⟩
    rw [sync_runs hs, hsrc]
    exact ⟨_, congrArg Host.Outcome.next (if_pos (by rw [hact, hany]; rfl)), ptpSync_servo hever offset⟩
  · rw [syncTimeout_runs hs, if_pos (by rw [decide_eq_true ht, Bool.and_true]; exact hl)]
  · rw [syncTimeout_runs hs, if_neg]
    rcases hno with h | h
    · rw [show s.ext.ptp.locked = false from h]
      exact Bool.false_ne_true
    · rw [decide_eq_false (Nat.not_le.mpr h), Bool.and_false]
      exact Bool.false_ne_true

end Sys2Proof.Machine

/-! O51: migration, the log's seconds, Cairn slices and PLL pairs. -/

namespace Sys2Proof.Machine

section
variable {s t u : State}

/-! ### Retirement is for good (R466, R469) -/

/-- Every cluster that is retired stays so. -/
def State.retiredStay (s t : State) : Prop := ∀ c, (s.smap c).retired = true → (t.smap c).retired = true

theorem retiredStay_refl (s : State) : s.retiredStay s := fun _ h => h

theorem retiredStay_trans (h : s.retiredStay t) (h' : t.retiredStay u) : s.retiredStay u := fun c hc => h' c (h c hc)

theorem retiredStay_of_smap (h : t.rel.smap = s.rel.smap) : s.retiredStay t := fun c hc => by
  unfold State.smap at hc ⊢
  rw [h]
  exact hc

theorem retiredStay_forAll {f : State → Nat → State} (h : ∀ (s : State) n, s.retiredStay (f s n)) (l : List Nat) (s : State) : s.retiredStay (forAll l f s) :=
  forAll_keeps (P := s.retiredStay) (fun t n ht => retiredStay_trans ht (h t n)) l s (retiredStay_refl s)

theorem setSmap_retiredStay {c : Nat} {v : SpareEntry} (h : (s.smap c).retired = true → v.retired = true) : s.retiredStay (s.setSmap c v) := by
  intro n hn
  by_cases hc : n = c
  · rw [hc] at hn ⊢
    rw [smap_setSmap]
    exact h hn
  · rw [smap_setSmap_ne (s := s) v hc]
    exact hn

theorem log_retiredStay (s : State) (code data : Nat) : s.retiredStay (s.log code data) := fun c hc => by
  rw [log_smap]
  exact hc

theorem markStandby_retiredStay (b : Bool) (s : State) (c : Nat) : s.retiredStay (s.setSmap c { s.smap c with standby := b }) :=
  setSmap_retiredStay id

theorem updCl_retiredStay (f : Cluster → Cluster) (s : State) (c : Nat) : s.retiredStay (s.updCl c f) := retiredStay_of_smap rfl

theorem useStandby_retiredStay (s : State) (xs : List Nat) : s.retiredStay (s.useStandby xs) := by
  unfold State.useStandby
  refine retiredStay_trans ?_ (retiredStay_forAll (markStandby_retiredStay false) xs _)
  exact retiredStay_of_smap rfl

theorem giveStandby_retiredStay (s : State) (xs : List Nat) : s.retiredStay (s.giveStandby xs) := by
  unfold State.giveStandby
  refine retiredStay_trans ?_ (retiredStay_forAll (markStandby_retiredStay true) _ _)
  exact retiredStay_of_smap rfl

theorem addMove_retiredStay (s : State) (c b : Nat) (lead : Bool) : s.retiredStay (s.addMove c b lead) := retiredStay_of_smap rfl

theorem stopRegion_retiredStay (s : State) (r : Nat) (cause : StopCause) : s.retiredStay (s.stopRegion r cause) := by
  unfold State.stopRegion
  split
  · exact retiredStay_refl s
  · split
    · exact retiredStay_refl s
    · dsimp only
      refine retiredStay_trans ?_ (log_retiredStay _ _ _)
      refine retiredStay_trans ?_ (retiredStay_forAll (updCl_retiredStay Cluster.park) _ _)
      exact retiredStay_of_smap rfl

theorem chooseStandby_retiredStay (s : State) (c r : Nat) : s.retiredStay (s.chooseStandby c r) := by
  unfold State.chooseStandby
  split
  · split
    · exact retiredStay_trans (useStandby_retiredStay s _) (addMove_retiredStay _ _ _ _)
    · exact stopRegion_retiredStay s r _
  · dsimp only
    split
    · exact stopRegion_retiredStay s r _
    · split
      · exact retiredStay_trans (retiredStay_trans (useStandby_retiredStay s _) (addMove_retiredStay _ _ _ _)) (addMove_retiredStay _ _ _ _)
      · exact stopRegion_retiredStay s r _

theorem chooseFor_retiredStay (s : State) (cs : List Nat) : s.retiredStay (s.chooseFor cs) := by
  unfold State.chooseFor
  refine retiredStay_forAll (fun s c => ?_) _ s
  split
  · exact retiredStay_refl s
  · split
    · exact chooseStandby_retiredStay s c _
    · exact retiredStay_refl s

theorem declare_retiredStay (s : State) (c : Nat) : s.retiredStay (s.declare c) := by
  unfold State.declare
  split
  · exact retiredStay_refl s
  · dsimp only
    refine retiredStay_trans ?_ (chooseFor_retiredStay _ _)
    refine retiredStay_trans ?_ (giveStandby_retiredStay _ _)
    exact retiredStay_of_smap rfl

theorem loseStandby_retiredStay (s : State) (b : Nat) : s.retiredStay (s.loseStandby b) := by
  unfold State.loseStandby
  split
  · exact retiredStay_refl s
  · dsimp only
    refine retiredStay_trans ?_ (chooseFor_retiredStay _ _)
    refine retiredStay_trans ?_ (giveStandby_retiredStay _ _)
    exact retiredStay_of_smap rfl

/-- What a retirement does besides its mark: it is logged, the cluster stops, and a standby is found for what it ran. -/
def State.retirement (s : State) (c cause : Nat) : State :=
  let s := { s with sec := { s.sec with standby := s.sec.standby.filter (fun x => decide (x ≠ c)) } }
  let s := s.log 0x11 (c * 2 ^ 24 + cause)
  let s := (s.updCl c (fun k => { k with stopped := true })).loseStandby c
  if (s.regionOf c).isSome then s.declare c else s

theorem retire_eq (s : State) (c cause : Nat) : s.retire c cause =
    if (s.smap c).retired = true then s else (s.setSmap c { s.smap c with retired := true, standby := false }).retirement c cause := rfl

theorem retirement_retiredStay (s : State) (c cause : Nat) : s.retiredStay (s.retirement c cause) := by
  have hlost : ∀ u : State, u.retiredStay ((u.updCl c (fun k => { k with stopped := true })).loseStandby c) := fun u =>
    retiredStay_trans (updCl_retiredStay _ u c) (loseStandby_retiredStay _ c)
  have hlog : ∀ (l : List Nat) n, s.retiredStay (({ s with sec := { s.sec with standby := l } } : State).log 0x11 n) := fun l n =>
    retiredStay_trans (t := { s with sec := { s.sec with standby := l } }) (retiredStay_of_smap rfl) (log_retiredStay _ _ _)
  unfold State.retirement
  dsimp only
  split
  · exact retiredStay_trans (retiredStay_trans (hlog _ _) (hlost _)) (declare_retiredStay _ _)
  · exact retiredStay_trans (hlog _ _) (hlost _)

theorem retire_retiredStay (s : State) (c cause : Nat) : s.retiredStay (s.retire c cause) := by
  rw [retire_eq]
  split
  · exact retiredStay_refl s
  · exact retiredStay_trans (setSmap_retiredStay fun _ => rfl) (retirement_retiredStay _ c cause)

theorem retire_retired (s : State) (c cause : Nat) : ((s.retire c cause).smap c).retired = true := by
  rw [retire_eq]
  split
  · next h => exact h
  · exact retirement_retiredStay _ c cause c (by rw [smap_setSmap])

/-- Retired together, all of a list of clusters are retired. -/
theorem retired_all (l : List Nat) (cause : Nat) (s : State) : ∀ c ∈ l, ((forAll l (fun s c => s.retire c cause) s).smap c).retired = true :=
  forAll_mem (P := fun s c => (s.smap c).retired = true) (fun s c => retire_retired s c cause) (fun s m c => retire_retiredStay s m cause c) l s

/-! ### Migration (R470) -/

/-- What a move leaves of the state where it gives references and rights over. -/
def State.handsOver (s t : State) : Prop := t.cls = s.cls ∧ t.hbm = s.hbm ∧ t.rel = s.rel

theorem handsOver_trans (h : s.handsOver t) (h' : t.handsOver u) : s.handsOver u :=
  ⟨h'.1.trans h.1, h'.2.1.trans h.2.1, h'.2.2.trans h.2.2⟩

theorem moveRefs_handsOver (s : State) (c b : Nat) : s.handsOver (s.moveRefs c b) := by
  have hbanks := fun (u : State) => forAll_ext (f := fun s k => s.setBank k { s.bank k with outbuf := (s.bank k).outbuf.map (fun w => { w with cl := movedCl c b w.cl }) })
    (fun _ _ => rfl) (List.range 4) u
  unfold State.moveRefs
  dsimp only
  rw [hbanks]
  exact ⟨rfl, rfl, rfl⟩

theorem fwGrant_handsOver (s : State) (r p k : Nat) (on : Bool) : s.handsOver (s.fwGrant r p k on) := ⟨rfl, rfl, rfl⟩

theorem setIrgn_handsOver (s : State) (i : Nat) (r : Option Nat) : s.handsOver (s.setIrgn i r) := ⟨rfl, rfl, rfl⟩

theorem setRegion_handsOver (s : State) (r : Nat) (g : Option Region) : s.handsOver (s.setRegion r g) := ⟨rfl, rfl, rfl⟩

/-- The rights of a region follow its cluster that moves. -/
def State.regrant (s : State) (c b r : Nat) : State := (((s.fwGrant c 0 r false).setIrgn c none).fwGrant b 0 r true).setIrgn b (some r)

theorem regrant_handsOver (s : State) (c b r : Nat) : s.handsOver (s.regrant c b r) := by
  unfold State.regrant
  refine handsOver_trans ?_ (setIrgn_handsOver _ _ _)
  refine handsOver_trans ?_ (fwGrant_handsOver _ _ _ _ _)
  exact handsOver_trans (fwGrant_handsOver _ _ _ _ _) (setIrgn_handsOver _ _ _)

/-- The rights of a region, and its patch mark, follow its cluster that moves. -/
def State.regionMoves (s : State) (c b : Nat) : Option Nat → State
  | some r =>
    let s := s.regrant c b r
    match s.region r with
    | some g => s.setRegion r (some { g with patched := true })
    | none => s
  | none => s

theorem regionMoves_handsOver (s : State) (c b : Nat) (r : Option Nat) : s.handsOver (s.regionMoves c b r) := by
  unfold State.regionMoves
  split
  · dsimp only
    split
    · exact handsOver_trans (regrant_handsOver s c b _) (setRegion_handsOver _ _ _)
    · exact regrant_handsOver s c b _
  · exact ⟨rfl, rfl, rfl⟩

/-- The two clusters of a move: the standby has the state, and the other is empty. -/
def State.clustersMove (s : State) (c b : Nat) : State :=
  let k := s.cl c
  (s.setCl b { k with stopped := false, failing := (s.cl b).failing, repair := none, pause := 0 }).setCl c { stopped := (s.smap c).retired, failing := k.failing }

/-- The patch entries of a move. -/
def State.patchMoves (s : State) (c b : Nat) : State :=
  let s := s.setSmap c { s.smap c with patch := false, src0 := 0 }
  s.setSmap b { s.smap b with patch := true, src0 := BitVec.ofNat 8 c }

theorem moveCluster_eq (s : State) (c b : Nat) : s.moveCluster c b [] =
    let u := (((s.clustersMove c b).moveRefs c b).patchMoves c b).regionMoves c b (s.regionOf c)
    let v := { u with rel := { u.rel with migq := u.rel.migq.filter (fun m => decide (m.cl ≠ c)) }, entropy := u.entropy + 1 }
    v.log 0x12 (c * 2 ^ 24 + b * 2 ^ 16 + min 200 (Config.migrationPause v.entropy)) := by
  unfold State.moveCluster State.regionMoves
  rfl

theorem clustersMove_to {c b : Nat} (hne : c ≠ b) : (s.clustersMove c b).cl b =
    { s.cl c with stopped := false, failing := (s.cl b).failing, repair := none, pause := 0 } :=
  (cl_setCl_ne (s := s.setCl b _) _ hne.symm).trans (cl_setCl (s := s) _ _)

theorem clustersMove_from (c b : Nat) : (s.clustersMove c b).cl c = { stopped := (s.smap c).retired, failing := (s.cl c).failing } :=
  cl_setCl (s := s.setCl b _) _ _

theorem patchMoves_to (c b : Nat) : ((s.patchMoves c b).smap b).patch = true ∧ ((s.patchMoves c b).smap b).src0 = BitVec.ofNat 8 c := by
  unfold State.patchMoves
  rw [smap_setSmap]
  exact ⟨rfl, rfl⟩

theorem patchMoves_from {c b : Nat} (hne : c ≠ b) : ((s.patchMoves c b).smap c).patch = false := by
  unfold State.patchMoves
  rw [smap_setSmap_ne (s := s.setSmap c _) _ hne, smap_setSmap]

/-- The parts of the state that hold what a move changes. -/
theorem moveCluster_parts (s : State) (c b : Nat) :
    let t := s.moveCluster c b []
    t.cls = (s.clustersMove c b).cls ∧ t.rel.smap = (s.patchMoves c b).rel.smap ∧
      t.rel.migq = s.rel.migq.filter (fun m => decide (m.cl ≠ c)) ∧ t.hbm = s.hbm := by
  obtain ⟨a, ha⟩ : ∃ a, a = (s.clustersMove c b).moveRefs c b := ⟨_, rfl⟩
  obtain ⟨u, hu⟩ : ∃ u, u = (a.patchMoves c b).regionMoves c b (s.regionOf c) := ⟨_, rfl⟩
  obtain ⟨hcls, hhbm, hrel⟩ := moveRefs_handsOver (s.clustersMove c b) c b
  obtain ⟨hcls', hhbm', hrel'⟩ := regionMoves_handsOver (a.patchMoves c b) c b (s.regionOf c)
  rw [← ha] at hcls hhbm hrel
  rw [← hu] at hcls' hhbm' hrel'
  have hsmap : (a.patchMoves c b).rel.smap = (s.patchMoves c b).rel.smap := by
    unfold State.patchMoves State.setSmap State.smap
    rw [hrel]
    rfl
  rw [moveCluster_eq]
  dsimp only
  rw [← ha, ← hu]
  obtain ⟨r, hr, hun⟩ := log_eq { u with rel := { u.rel with migq := u.rel.migq.filter (fun m => decide (m.cl ≠ c)) }, entropy := u.entropy + 1 } 0x12
    (c * 2 ^ 24 + b * 2 ^ 16 + min 200 (Config.migrationPause (u.entropy + 1)))
  rw [hr]
  have hmigq : u.rel.migq = s.rel.migq := by
    rw [hrel']
    exact (congrArg Rel.migq hrel :)
  refine ⟨hcls'.trans hcls, ?_, ?_, hhbm'.trans hhbm⟩
  · refine (congrArg Rel.smap hun :).trans ?_
    exact (congrArg Rel.smap hrel' :).trans hsmap
  · refine (congrArg Rel.migq hun :).trans ?_
    exact congrArg (List.filter fun m : Move => decide (m.cl ≠ c)) hmigq

/-- What a move leaves: the two clusters, their patch entries, and the declared moves without it. -/
theorem moveCluster_moves (s : State) {c b : Nat} (hne : c ≠ b) :
    let t := s.moveCluster c b []
    t.cl b = { s.cl c with stopped := false, failing := (s.cl b).failing, repair := none, pause := 0 } ∧
      t.cl c = { stopped := (s.smap c).retired, failing := (s.cl c).failing } ∧ (t.smap b).patch = true ∧ (t.smap b).src0 = BitVec.ofNat 8 c ∧
      (t.smap c).patch = false ∧ t.rel.migq = s.rel.migq.filter (fun m => decide (m.cl ≠ c)) ∧ t.hbm = s.hbm := by
  obtain ⟨hcls, hsmap, hmigq, hhbm⟩ := moveCluster_parts s c b
  have hcl : ∀ n, (s.moveCluster c b []).cl n = (s.clustersMove c b).cl n := fun n => congrArg (fun m : SMap Cluster => sget ({} : Cluster) m n) hcls
  have hsm : ∀ n, (s.moveCluster c b []).smap n = (s.patchMoves c b).smap n := fun n => congrArg (fun m : SMap SpareEntry => sget ({} : SpareEntry) m n) hsmap
  obtain ⟨hp, hs0⟩ := patchMoves_to (s := s) c b
  refine ⟨(hcl b).trans (clustersMove_to hne), (hcl c).trans (clustersMove_from c b), ?_, ?_, ?_, hmigq, hhbm⟩
  · rw [hsm, hp]
  · rw [hsm, hs0]
  · rw [hsm, patchMoves_from hne]

theorem migration_runs (hs : s.live = true) (c : ClId) : exec (.migration c []) s = .next (s.migrate c []) := by
  have hx : exec (.migration c []) s = execMigration c [] s := rfl
  rw [hx, execMigration, act_live hs]

theorem migrate_alone {c d at_ : Nat} {lead : Bool} (hq : s.rel.migq = [⟨c, d, at_, lead⟩]) (hp : s.pairOf c = none) (hm : s.canMigrate c d = true) :
    s.migrate c [] = s.moveCluster c d [] := by
  unfold State.migrate
  dsimp only
  rw [hq, List.find?_cons_of_pos (p := fun m : Move => decide (m.cl = c)) (decide_eq_true rfl), hp]
  exact if_pos hm

theorem migrate_undeclared {c : Nat} (h : ∀ y ∈ s.rel.migq, y.cl ≠ c) : s.migrate c [] = s := by
  have hnone : s.rel.migq.find? (fun m => decide (m.cl = c)) = none := List.find?_eq_none.mpr fun y hy => by
    rw [decide_eq_true_eq]
    exact h y hy
  unfold State.migrate
  dsimp only
  rw [hnone]
  rfl

/-! ### Cairn (R477 to R479) -/

theorem cairnSlice_runs (hs : s.live = true) (b : CairnBlock) (one two : Reg) (clock supply request : Bool) :
    exec (.cairnSlice b one two clock supply request) s = .next (s.cairnSlice b one two clock supply request) := by
  have hx : exec (.cairnSlice b one two clock supply request) s = execCairnSlice b one two clock supply request s := rfl
  rw [hx, execCairnSlice, act_live hs]

/-- A slice tests its block where Cairn runs and the block is idle. -/
theorem cairnSlice_tests {b : CairnBlock} (hen : s.rel.crnEn = true) (hd : s.sys.dstate = .service) (hidle : s.cairnIdle b = true)
    (hclk : s.sys.refclkLost = false) (one two : Reg) (clock supply request : Bool) : s.cairnSlice b one two clock supply request =
      if (!clock || !supply) = true then { s with rel := { s.rel with notrun := min (s.rel.notrun + 1) 0xFFFFFFFF } }
      else if (request && !blockTwin b) = true then s
      else if one = Config.cairnRef b.code ∨ two = Config.cairnRef b.code then s.cairnPass b else s.cairnFail b := by
  unfold State.cairnSlice
  rw [hen, hd, hidle, hclk, Bool.or_false, if_neg (by decide)]
  simp only [Bool.or_eq_true, decide_eq_true_eq, satAdd]

theorem cairnPass_other {b : CairnBlock} (h1 : b.code ≠ 1) (h2 : b.code ≠ 2) : s.cairnPass b = s := by
  unfold State.cairnPass
  dsimp only
  rw [if_neg h1, if_neg h2]

theorem cairnFail_marks (s : State) (b : CairnBlock) : let t := s.cairnFail b
    t.rel.fails = min (s.rel.fails + 1) 0xFFFFFFFF ∧ t.rel.lastfail = BitVec.ofNat 32 (blockWord b) ∧ blockWord b ∈ t.rel.badBlocks ∧ t.sys = s.sys ∧
      t.cls = s.cls ∧ t.ext = s.ext := by
  intro t
  unfold t State.cairnFail
  dsimp only
  obtain ⟨u, hu⟩ : ∃ u : State, u = { s with rel := { s.rel with fails := satAdd s.rel.fails 1 0xFFFFFFFF, lastfail := BitVec.ofNat 32 (blockWord b)
                                                                 pllBad := if b.code = 1 then sput false s.rel.pllBad b.inst.toNat true
                                                                   else if b.code = 2 then sput false s.rel.pllBad (128 + b.inst.toNat) true else s.rel.pllBad
                                                                 badBlocks := s.rel.badBlocks ++ [blockWord b] } } := ⟨_, rfl⟩
  rw [← hu]
  obtain ⟨r, hr, hun⟩ := log_eq u 0x40 (blockWord b)
  rw [hr]
  have hfails := (congrArg Rel.fails hun :)
  have hlast := (congrArg Rel.lastfail hun :)
  have hbad := (congrArg Rel.badBlocks hun :)
  rw [hu] at hfails hlast hbad ⊢
  exact ⟨hfails, hlast, hbad ▸ List.mem_append_right _ List.mem_cons_self, rfl, rfl, rfl⟩

theorem passEnd_runs (hs : s.live = true) : exec .cairnPassEnd s =
    .next (if (decide (s.sys.dstate ≠ .service) || !s.rel.crnEn) = true then s
      else { s with rel := { s.rel with
          passes := satAdd s.rel.passes 1 0xFFFFFFFF, pllPassed := []
          pllActive := ((List.range 68).filter (fun d => sget false s.rel.pllPassed d && !s.pllBad d (1 - s.pllActive d))).foldl
            (fun m d => sput 0 m d (1 - s.pllActive d)) s.rel.pllActive } }) := by
  have hx : exec .cairnPassEnd s = execCairnPassEnd s := rfl
  rw [hx, execCairnPassEnd, act_live hs]

theorem cairnDisable_runs (hs : s.live = true) (who : InitId) : exec (.cairnDisable who) s =
    .next (if who.val = fwId then s.setCrnEn false else s.emit (.regValue none)) := by
  have hx : exec (.cairnDisable who) s = execCairnDisable who s := rfl
  rw [hx, execCairnDisable, act_live hs]

/-- A failed PLL of an island that is powered: its standby takes over, or the island's clusters are retired. -/
theorem islandPll_runs (hs : s.live = true) {i : IslId} (hbad : s.pllBad i (s.pllActive i) = false) (hon : s.islOn i = true) :
    exec (.islandPllFailure (.island i)) s =
      let u : State := { s with rel := { s.rel with pllBad := sput false s.rel.pllBad (2 * i + s.pllActive i) true } }
      .next (if u.pllBad i (1 - s.pllActive i) = true then forAll (islandClusters i) (fun s c => s.retire c 3) u
        else { u with rel := { u.rel with pllActive := sput 0 u.rel.pllActive i (1 - s.pllActive i) } }) := by
  have hx : exec (.islandPllFailure (.island i)) s = execIslandPllFailure (.island i) s := rfl
  rw [hx, execIslandPllFailure, act_live hs]
  exact congrArg Host.Outcome.next (if_neg (by simp [pllNum, hbad, hon]))

theorem quadrantPll_bad (hs : s.live = true) {q : Fin 4} (h : s.pllBad (64 + q) (s.pllActive (64 + q)) = true) :
    exec (.islandPllFailure (.quadrant q)) s = .next s := by
  have hx : exec (.islandPllFailure (.quadrant q)) s = execIslandPllFailure (.quadrant q) s := rfl
  rw [hx, execIslandPllFailure, act_live hs]
  exact congrArg Host.Outcome.next (if_pos (by rw [pllNum, h]; rfl))

theorem logSecondEnd_runs (hs : s.live = true) : exec .logSecondEnd s = .next s.rollLog := by
  have hx : exec .logSecondEnd s = execLogSecondEnd s := rfl
  rw [hx, execLogSecondEnd, act_live hs]

/-- A map after a list of its entries has been written. -/
theorem sget_foldl_of {α : Type} [DecidableEq α] (d : α) (f : Nat → α) (l : List Nat) : ∀ (m : SMap α) (n : Nat),
    sget d (l.foldl (fun m i => sput d m i (f i)) m) n = if n ∈ l then f n else sget d m n := by
  induction l with
  | nil => exact fun m n => (if_neg List.not_mem_nil).symm
  | cons i l ih =>
    intro m n
    rw [List.foldl_cons, ih]
    by_cases hl : n ∈ l
    · rw [if_pos hl, if_pos (List.mem_cons_of_mem i hl)]
    · rw [if_neg hl]
      by_cases hi : n = i
      · rw [hi, sget_sput_same, if_pos List.mem_cons_self]
      · rw [sget_sput_other _ _ _ hi, if_neg (fun h => (List.mem_cons.mp h).elim hi hl)]

end

/-- Settles O51. -/
theorem reliability : Obligations.Reliability := by
  unfold Obligations.Reliability
  intro s c d at_ lead b one two i q who hs second ref runs word a bad
  refine ⟨fun hq hp hne hm => ?_, fun h => ?_, fun h => ?_, fun h h0 => ?_, fun h h0 => ?_, fun ⟨hen, hd, hidle, hclk⟩ => ⟨fun hok h1 h2 => ?_, fun h1 h2 => ?_, fun htw => ?_, ?_, ?_⟩,
    fun hno => ⟨?_, ?_⟩, fun hen hd => ?_, fun hw => ?_, fun hw => ?_, fun ha hbad hon => ⟨fun hok => ?_, fun hall => ?_⟩, fun h => ?_⟩
  · obtain ⟨hd, hc, hp1, hp2, hp3, hq', hh⟩ := moveCluster_moves s (fun e => hne (Fin.ext e) : c.val ≠ d.val)
    refine ⟨_, (migration_runs hs c).trans (congrArg Host.Outcome.next (migrate_alone hq hp hm)), hd, ?_, hc, hp1, hp2, hp3, hq'.trans ?_, hh⟩
    · exact (congrArg Cluster.seq hd :)
    · rw [hq]
      exact List.filter_cons_of_neg (by rw [decide_eq_true_eq]; exact fun h => h rfl)
  · rw [migration_runs hs, migrate_undeclared h]
  · rw [logSecondEnd_runs hs]
    exact congrArg Host.Outcome.next (if_pos h)
  · rw [logSecondEnd_runs hs]
    unfold State.rollLog
    dsimp only
    rw [if_neg h, if_pos h0]
  · rw [logSecondEnd_runs hs]
    unfold State.rollLog
    dsimp only
    rw [if_neg h, if_neg h0]
  · rw [cairnSlice_runs hs, cairnSlice_tests hen hd hidle hclk, if_neg (by decide), if_neg (by rw [Bool.false_and]; exact Bool.false_ne_true), if_pos hok,
      cairnPass_other h1 h2]
  · rw [cairnSlice_runs hs, cairnSlice_tests hen hd hidle hclk, if_neg (by decide), if_neg (by rw [Bool.false_and]; exact Bool.false_ne_true),
      if_neg (fun h => h.elim h1 h2)]
    exact ⟨_, rfl, cairnFail_marks s b⟩
  · rw [cairnSlice_runs hs, cairnSlice_tests hen hd hidle hclk, if_neg (by decide), if_pos (by rw [htw]; rfl)]
  · rw [cairnSlice_runs hs, cairnSlice_tests hen hd hidle hclk, if_pos (by decide)]
  · rw [cairnSlice_runs hs, cairnSlice_tests hen hd hidle hclk, if_pos (by decide)]
  · rw [cairnSlice_runs hs]
    exact congrArg Host.Outcome.next (if_pos (by rcases hno with h | h <;> simp [h]))
  · rw [passEnd_runs hs, if_pos]
    rcases hno with h | h <;> simp [h]
  · rw [passEnd_runs hs, if_neg (by rw [hen, hd]; decide)]
    refine ⟨_, rfl, rfl, rfl, rfl, fun n hn => ?_⟩
    refine (sget_foldl_of 0 (fun d => 1 - s.pllActive d) _ _ n).trans ?_
    simp only [List.mem_filter, List.mem_range, hn, true_and, Bool.and_eq_true, Bool.not_eq_true']
    rfl
  · rw [cairnDisable_runs hs, if_pos hw]
  · rw [cairnDisable_runs hs, if_neg hw]
  · have hne : 2 * i.val + (1 - a) ≠ 2 * i.val + a := by omega
    have hother : ({ s with rel := { s.rel with pllBad := bad } } : State).pllBad i (1 - a) = s.pllBad i (1 - a) :=
      sget_sput_other false s.rel.pllBad true hne
    rw [islandPll_runs hs hbad hon]
    exact congrArg Host.Outcome.next (if_neg (by rw [hother, hok]; exact Bool.false_ne_true))
  · have hne : 2 * i.val + (1 - a) ≠ 2 * i.val + a := by omega
    have hother : ({ s with rel := { s.rel with pllBad := bad } } : State).pllBad i (1 - a) = s.pllBad i (1 - a) :=
      sget_sput_other false s.rel.pllBad true hne
    rw [islandPll_runs hs hbad hon]
    exact ⟨_, congrArg Host.Outcome.next (if_pos (hother.trans hall)), retired_all _ 3 _⟩
  · exact quadrantPll_bad hs h

end Sys2Proof.Machine

/-! O50: resets, trips into FAULT-SAFE, bring-up steps and island power. -/

namespace Sys2Proof.Machine

section
variable {s : State}

/-! ### Device resets (R460, R482) -/

/-- The newest entry of the event log while its second has room. -/
theorem log_head (h : s.rel.second < 100) (code data : Nat) : (s.log code data).rel.log.head? =
    some { time := s.now, boot := s.sys.bootCount, code := BitVec.ofNat 16 code, data := BitVec.ofNat 32 data } := by
  have hroll : s.rollLog.rel.second < 100 := by
    unfold State.rollLog
    dsimp only
    split
    · exact h
    · exact Nat.zero_lt_succ _
  have hparts : s.rollLog.now = s.now ∧ s.rollLog.sys = s.sys := by
    unfold State.rollLog
    dsimp only
    split <;> exact ⟨rfl, rfl⟩
  unfold State.log
  dsimp only
  rw [if_neg (by omega), hparts.1, hparts.2]
  rfl

/-- What a reset of a kind leaves: bring-up at its first step over empty memories, with the life cycle, the owner and the tenants as before. -/
def State.boots (s t : State) (k : RKind) (straps : BitVec 10) : Prop :=
  t.sys.off = false ∧ t.sys.held = none ∧ t.sys.dstate = .bringup ∧ t.sys.mode = 1 ∧ t.sys.bring = 0 ∧ t.sys.rcause = k ∧ t.sys.straps = straps ∧
  t.sys.bootCount = s.sys.bootCount + 1 ∧ t.time = (if k = .cold then 0 else s.time) ∧ t.pending = s.pending ∧ t.out = s.out ∧
  t.hbm.mem = [] ∧ t.sec.regions = [] ∧ t.sec.keys = [] ∧ t.noc.packets = [] ∧ t.movers = [] ∧ t.sec.fused = s.sec.fused ∧
  t.sec.lcs = (if s.sec.fused then .retired else s.sec.lcs) ∧
  t.sec.ownerHash = s.sec.ownerHash ∧ t.sec.tenants = s.sec.tenants ∧ t.host.owner.subs = [] ∧ t.host.running = [] ∧ t.host.avail = false ∧
  (∀ q, q < 4 → (t.port q).perst = (s.port q).perst ∧ (t.port q).up = false) ∧
  (s.rel.second < 100 → t.rel.log.head? = some { time := t.now, boot := s.sys.bootCount + 1, code := 0x62, data := BitVec.ofNat 32 k.code })

theorem deviceReset_boots (s : State) (k : RKind) (straps : BitVec 10) : s.boots (s.deviceReset k straps) k straps := by
  unfold State.deviceReset
  extract_lets t w off r
  obtain ⟨noc, hr, hpackets⟩ : ∃ n, r = { off with noc := n } ∧ n.packets = [] := by
    refine ⟨_, forAll_noc (fun _ _ => rfl) _ off, ?_⟩
    refine (forAll_frame (fun u : State => u.noc.packets) ?_ _ off).trans rfl
    exact fun _ _ => rfl
  have hhead := fun h => log_head (s := r) h 0x62 k.code
  obtain ⟨rel, hl, -⟩ := log_eq r 0x62 k.code
  rw [hl] at hhead ⊢
  rw [hr] at hhead ⊢
  refine ⟨rfl, rfl, rfl, rfl, rfl, rfl, rfl, rfl, rfl, rfl, rfl, rfl, rfl, rfl, hpackets, rfl, rfl, rfl, rfl, rfl, rfl, rfl, rfl, fun q hq => ?_, hhead⟩
  have hport : ∀ u : State, u.host = off.host → u.port q = { perst := (s.port q).perst, bar2 := (s.port q).bar2, viol := { win := w } } := fun u hu =>
    (congrArg (fun h : HostIf => sget ({} : Port) h.ports q) hu).trans
      (sget_foldl_sput_zero ({} : Port) (fun p => { perst := (s.port p).perst, bar2 := (s.port p).bar2, viol := { win := w } }) hq [])
  have h := hport { off with noc := noc, rel := rel } rfl
  exact ⟨(congrArg Port.perst h :), (congrArg Port.up h :)⟩

theorem coldReset_runs (s : State) (high : Bool) (straps : BitVec 10) : exec (.coldReset high straps) s =
    .next (if (!s.sys.off || s.sys.held.isSome) = true then s else if high = true then s.deviceReset .cold straps
      else { s with sys := { s.sys with held := some .cold } }) := rfl

theorem warmReset_runs (s : State) : exec .warmReset s =
    .next (if (s.sys.off || s.sys.held.isSome) = true then s else { s with sys := { s.sys with held := some .warm } }) := rfl

theorem release_runs (s : State) (straps : BitVec 10) : exec (.resetNRelease straps) s =
    .next (s.sys.held.elim s fun k => s.deviceReset k straps) := by
  have hx : exec (.resetNRelease straps) s = execResetNRelease straps s := rfl
  rw [hx, execResetNRelease]
  cases s.sys.held <;> rfl

theorem lifecycleReset_runs (hs : s.live = true) {tr : Trans} (htr : s.sec.trans = some tr) : exec .lifecycleReset s =
    .next (if (tr.written && (!s.host.owner.comps.any (fun r => decide (r.tag = tr.issuer.tag) && !r.rej) || decide (tr.posted + 100000000 ≤ s.now))) = true
      then s.deviceReset .lifecycle s.sys.straps else s) := by
  have hx : exec .lifecycleReset s = execLifecycleReset s := rfl
  rw [hx, execLifecycleReset, act_live hs, htr]

theorem lifecycleReset_none (hs : s.live = true) (htr : s.sec.trans = none) : exec .lifecycleReset s = .next s := by
  have hx : exec .lifecycleReset s = execLifecycleReset s := rfl
  rw [hx, execLifecycleReset, act_live hs, htr]

/-! ### FAULT-SAFE (R448) -/

/-- What a trip leaves: FAULT-SAFE with its cause, the fences of the powered islands requested, every cluster parked. -/
def State.trips (s t : State) (n : Nat) : Prop :=
  t.sys.dstate = .faultSafe ∧ t.sys.fscause = BitVec.ofNat 8 n ∧ t.hbm = s.hbm ∧ t.sec = s.sec ∧
    t.host = s.host ∧ (∀ i, i < 64 → s.islOn i = true → t.fenceOf i = .requested) ∧ ∀ c, c < 256 → t.cl c = (s.cl c).park

theorem pendIsland_noc (s : State) (i : Nat) (x : RtrChange) : s.pendIsland i x = { s with noc := (s.pendIsland i x).noc } :=
  forAll_noc (fun _ _ => rfl) _ s

/-- What the request of a fence leaves alone. -/
theorem requestFence_eq (s : State) (i : Nat) : s.requestFence i =
    { s with noc := (s.requestFence i).noc, sys := { s.sys with fence := sput .none s.sys.fence i .requested } } := by
  unfold State.requestFence
  exact pendIsland_noc _ i _

theorem requestFence_self (s : State) (i : Nat) : (s.requestFence i).fenceOf i = .requested := by
  rw [requestFence_eq]
  exact sget_sput_same Fence.none s.sys.fence i .requested

theorem requestFence_keeps (s : State) (i j : Nat) (h : s.fenceOf j = .requested) : (s.requestFence i).fenceOf j = .requested := by
  by_cases hj : j = i
  · rw [hj, requestFence_self]
  · rw [requestFence_eq]
    exact (sget_sput_other Fence.none s.sys.fence .requested hj).trans h

/-- What parking every cluster and fencing islands leave of the state. -/
def State.parksAndFences (s t : State) : Prop :=
  t.sys.dstate = s.sys.dstate ∧ t.sys.fscause = s.sys.fscause ∧ t.hbm = s.hbm ∧ t.sec = s.sec ∧ t.host = s.host ∧ t.out = s.out ∧ t.sys.thermtrip = s.sys.thermtrip

theorem parksAndFences_trans {t u : State} (h : s.parksAndFences t) (h' : t.parksAndFences u) : s.parksAndFences u := by
  obtain ⟨h1, h2, h3, h4, h5, h6, h7⟩ := h
  obtain ⟨k1, k2, k3, k4, k5, k6, k7⟩ := h'
  exact ⟨k1.trans h1, k2.trans h2, k3.trans h3, k4.trans h4, k5.trans h5, k6.trans h6, k7.trans h7⟩

theorem parksAndFences_forAll {f : State → Nat → State} (h : ∀ (s : State) n, s.parksAndFences (f s n)) (l : List Nat) (s : State) :
    s.parksAndFences (forAll l f s) :=
  forAll_keeps (P := s.parksAndFences) (fun t n ht => parksAndFences_trans ht (h t n)) l s ⟨rfl, rfl, rfl, rfl, rfl, rfl, rfl⟩

theorem updCl_parksAndFences (f : Cluster → Cluster) (s : State) (c : Nat) : s.parksAndFences (s.updCl c f) := ⟨rfl, rfl, rfl, rfl, rfl, rfl, rfl⟩

theorem requestFence_parksAndFences (s : State) (i : Nat) : s.parksAndFences (s.requestFence i) := by
  rw [requestFence_eq]
  exact ⟨rfl, rfl, rfl, rfl, rfl, rfl, rfl⟩

theorem requestFence_cls (s : State) (i : Nat) : (s.requestFence i).cls = s.cls := by rw [requestFence_eq]

theorem log_parksAndFences (s : State) (code data : Nat) : s.parksAndFences (s.log code data) := by
  obtain ⟨r, hr, -⟩ := log_eq s code data
  rw [hr]
  exact ⟨rfl, rfl, rfl, rfl, rfl, rfl, rfl⟩

theorem faultSafe_trips (h : s.sys.dstate ≠ .faultSafe) (n : Nat) :
    s.trips (s.faultSafe n) n ∧ (s.faultSafe n).out = s.out ∧ (s.faultSafe n).sys.thermtrip = s.sys.thermtrip := by
  obtain ⟨u, hu⟩ : ∃ u : State, u = { s with sys := { s.sys with dstate := .faultSafe, fscause := BitVec.ofNat 8 n } } := ⟨_, rfl⟩
  obtain ⟨v, hv⟩ : ∃ v, v = forAll (List.range 256) (fun s c => s.updCl c Cluster.park) u := ⟨_, rfl⟩
  obtain ⟨w, hw⟩ : ∃ w, w = forAll ((List.range 64).filter v.islOn) State.requestFence v := ⟨_, rfl⟩
  have hsafe : s.faultSafe n = w.log 0x60 n := by
    rw [hw, hv, hu]
    exact if_neg h
  have huv : u.parksAndFences v := hv ▸ parksAndFences_forAll (updCl_parksAndFences Cluster.park) _ u
  have hvw : v.parksAndFences w := hw ▸ parksAndFences_forAll requestFence_parksAndFences _ v
  obtain ⟨hd, hcause, hhbm, hsec, hhost, hout, hth⟩ := parksAndFences_trans (parksAndFences_trans huv hvw) (log_parksAndFences w 0x60 n)
  have hon : v.sys.islOn = s.sys.islOn := by
    rw [hv, forAll_frame (fun u : State => u.sys.islOn) (f := fun s c => s.updCl c Cluster.park) (fun s c => rfl) _ u, hu]
  obtain ⟨r, hr, -⟩ := log_eq w 0x60 n
  rw [hsafe]
  rw [hu] at hd hcause hhbm hsec hhost hout hth
  refine ⟨⟨hd, hcause, hhbm, hsec, hhost, fun i hi hi' => ?_, fun c hc => ?_⟩, hout, hth⟩
  · have hpowered : v.islOn i = true := by
      unfold State.islOn
      rw [hon]
      exact hi'
    have hfence := forAll_mem (P := fun s i => s.fenceOf i = .requested) requestFence_self (fun s m i => requestFence_keeps s m i)
      ((List.range 64).filter v.islOn) v i (List.mem_filter.mpr ⟨List.mem_range.mpr hi, hpowered⟩)
    rw [hr, hw]
    exact hfence
  · have hpark := forAll_once (get := State.cl) (upd := fun _ => Cluster.park) (f := fun s c => s.updCl c Cluster.park) (fun s n => cl_setCl (s := s) n _)
      (fun s _ _ hmn => cl_setCl_ne (s := s) _ (Ne.symm hmn)) (List.range 256) List.nodup_range (List.mem_range.mpr hc) u
    have hcls : w.cls = v.cls := by
      rw [hw]
      exact forAll_frame State.cls requestFence_cls _ v
    rw [← hv] at hpark
    rw [hr]
    refine (congrArg (fun m : SMap Cluster => sget ({} : Cluster) m c) hcls).trans (hpark.trans ?_)
    rw [hu]
    rfl

theorem faultSafe_again (h : s.sys.dstate = .faultSafe) (n : Nat) : s.faultSafe n = s := if_pos h

/-! ### Bring-up (R461) -/

theorem bringupStep_runs (hs : s.live = true) (r : BringResult) : exec (.bringupStep r) s =
    .next (if s.sys.dstate = .bringup then s.bringStep r else s) := by
  have hx : exec (.bringupStep r) s = execBringupStep r s := rfl
  rw [hx, execBringupStep, act_live hs]

/-- A step in which no PMBus transaction fails and no bank voltage is found. -/
theorem bringStep_clean {r : BringResult} (hf : r.pm.fails = 0) (hv : r.vio = []) :
    let n : State := { s with ext := { s.ext with pmbFails := min s.ext.pmbFails 0xFFFF } }
    let go := fun (s : State) => ({ s with sys := { s.sys with bring := s.sys.bring + 1 } } : State)
    (s.sys.bring = 1 → s.bringStep r = go (forAll (List.range 4)
      (fun s p => if s.portExists p && !(s.port p).perst then s.setPort p { s.port p with training := true } else s)
      { n with host := { n.host with avail := true } })) ∧
    (s.sys.bring = 6 → s.bringStep r = go n) ∧
    (s.sys.bring = 7 → s.sys.change = none → s.bringStep r = n.enterBootMode) := by
  intro n go
  have hpm : s.pmBus r.pm = (true, n) := by
    unfold State.pmBus
    rw [hf]
    rfl
  unfold State.bringStep
  rw [hpm, hv]
  refine ⟨fun hb => ?_, fun hb => ?_, fun hb hc => ?_⟩
  · have hb' : n.sys.bring = 1 := hb
    dsimp only [List.foldl_nil]
    rw [hb']
    rfl
  · have hb' : n.sys.bring = 6 := hb
    dsimp only [List.foldl_nil]
    rw [hb']
    exact congrArg (fun b => ({ n with sys := { n.sys with bring := b + 1 } } : State)) hb'.symm
  · have hb' : n.sys.bring = 7 := hb
    have hc' : n.sys.change = none := hc
    dsimp only [List.foldl_nil]
    rw [hb', hc']
    rfl

/-- A port begins to train at step 1 of bring-up where it exists and its PE_PERST_N is high. -/
def State.trainPort (s : State) (p : Nat) : State :=
  if s.portExists p && !(s.port p).perst then s.setPort p { s.port p with training := true } else s

/-- A port, and whether it exists, once it trains. -/
def trained (x : Port × Bool) : Port × Bool := (if x.2 && !x.1.perst then { x.1 with training := true } else x.1, x.2)

theorem trainPort_port (s : State) (p : Nat) : ((s.trainPort p).port p, (s.trainPort p).portExists p) = trained (s.port p, s.portExists p) := by
  unfold State.trainPort trained
  dsimp only
  split
  · rw [port_setPort]
    rfl
  · rfl

theorem trainPort_other (s : State) {m n : Nat} (hmn : m ≠ n) : ((s.trainPort m).port n, (s.trainPort m).portExists n) = (s.port n, s.portExists n) := by
  unfold State.trainPort
  split
  · rw [port_setPort_ne (s := s) _ (Ne.symm hmn)]
    rfl
  · rfl

theorem trainPort_sys (s : State) (p : Nat) : (s.trainPort p).sys = s.sys := by
  unfold State.trainPort
  split <;> rfl

theorem trainPort_avail (s : State) (p : Nat) : (s.trainPort p).host.avail = s.host.avail := by
  unfold State.trainPort
  split <;> rfl

theorem trainPorts_training (s : State) {q : Nat} (hq : q < 4) :
    ((forAll (List.range 4) State.trainPort s).port q).training = ((s.port q).training || (s.portExists q && !(s.port q).perst)) := by
  have h := forAll_once (get := fun s p => ((s.port p), s.portExists p)) (upd := fun _ => trained) trainPort_port (fun s _ _ h => trainPort_other s h)
    (List.range 4) List.nodup_range (List.mem_range.mpr hq) s
  refine (congrArg (fun x : Port × Bool => x.1.training) h).trans ?_
  unfold trained
  dsimp only
  cases hb : s.portExists q && !(s.port q).perst
  · rw [if_neg Bool.false_ne_true, Bool.or_false]
  · rw [if_pos rfl, Bool.or_true]

/-! ### Island power (R450, R458) -/

theorem islandClusters_nodup {i : Nat} (_ : i < 64) : (islandClusters i).Nodup := by
  unfold islandClusters clOf
  simp only [List.nodup_cons, List.mem_cons, List.not_mem_nil, or_false, not_or, not_false_eq_true, List.nodup_nil, and_true]
  omega

theorem pendRouter_pend (s : State) (c : Nat) (x : RtrChange) : ((s.pendRouter c x).router c).pend = (s.router c).pend ++ [x] := by
  unfold State.pendRouter
  rw [router_setRouter]

/-- The change of an island's ports waits at each of its routers. -/
theorem pendIsland_pend {i c : Nat} (hi : i < 64) (hc : c ∈ islandClusters i) (s : State) (x : RtrChange) :
    ((s.pendIsland i x).router c).pend = (s.router c).pend ++ [x] :=
  forAll_once (get := fun s c => (s.router c).pend) (upd := fun _ l => l ++ [x]) (f := fun s r => s.pendRouter r x)
    (fun s n => pendRouter_pend s n x) (fun s _ _ hmn => congrArg Router.pend (router_setRouter_ne (s := s) _ (Ne.symm hmn)))
    (islandClusters i) (islandClusters_nodup hi) hc s

theorem powerOn_clears {i : Nat} (hi : i < 64) (s : State) :
    (s.powerOn i).islOn i = true ∧ (s.powerOn i).fenceOf i = .none ∧ PendEnable.island i ∉ (s.powerOn i).sys.pend ∧
      ∀ c ∈ islandClusters i, ((s.powerOn i).router c).pend = (s.router c).pend ++ [.unfence 0] ∧ (s.powerOn i).cl c = (s.cl c).cleared := by
  obtain ⟨u, hu⟩ : ∃ u : State, u = { s with sys := { s.sys with islOn := sput false s.sys.islOn i true, fence := sput .none s.sys.fence i .none
                                                                 clockAt := sput 0 s.sys.clockAt i s.now
                                                                 pend := s.sys.pend.filter (fun e => decide (e ≠ PendEnable.island i)) } } := ⟨_, rfl⟩
  obtain ⟨v, hv⟩ : ∃ v, v = u.pendIsland i (.unfence 0) := ⟨_, rfl⟩
  have hon : s.powerOn i = forAll (islandClusters i) State.clearCluster v := by
    rw [hv, hu]
    rfl
  have hsys : (s.powerOn i).sys = u.sys := by
    rw [hon, forAll_frame State.sys (f := State.clearCluster) (fun _ _ => rfl) _ v, hv, pendIsland_noc]
  have hnoc : (s.powerOn i).noc = v.noc := by
    rw [hon]
    exact forAll_frame State.noc (f := State.clearCluster) (fun _ _ => rfl) _ v
  refine ⟨?_, ?_, ?_, fun c hc => ⟨?_, ?_⟩⟩
  · unfold State.islOn
    rw [hsys, hu]
    exact sget_sput_same false s.sys.islOn i true
  · unfold State.fenceOf
    rw [hsys, hu]
    exact sget_sput_same Fence.none s.sys.fence i .none
  · rw [hsys, hu]
    exact fun h => of_decide_eq_true (List.mem_filter.mp h).2 rfl
  · have hpend := pendIsland_pend hi hc u (.unfence 0)
    rw [← hv] at hpend
    refine (congrArg (fun n : Noc => (sget ({} : Router) n.routers c).pend) hnoc).trans (hpend.trans ?_)
    rw [hu]
    rfl
  · have hclear := forAll_once (get := State.cl) (upd := fun _ => Cluster.cleared) (f := State.clearCluster) (fun s n => cl_setCl (s := s) n _)
      (fun s _ _ hmn => cl_setCl_ne (s := s) _ (Ne.symm hmn)) (islandClusters i) (islandClusters_nodup hi) hc v
    rw [hon]
    refine hclear.trans (congrArg Cluster.cleared ?_)
    rw [hv, pendIsland_noc, hu]
    rfl

theorem powerOn_runs (hs : s.live = true) (e : IslId) : exec (.islandPowerOn e) s =
    .next (if (s.islandOff e && s.wantsPower e && decide (s.sys.dstate ≠ .faultSafe)) = true then s.powerOn e else s) := by
  have hx : exec (.islandPowerOn e) s = execIslandPowerOn e s := rfl
  rw [hx, execIslandPowerOn, act_live hs]

theorem islandIdle_runs (hs : s.live = true) (e : IslId) : exec (.islandIdleTimeout e) s =
    .next (if (decide (s.sys.mode = 5) && s.islOn e && s.islSvc e && s.islandIdle e && decide (s.fenceOf e = .none)
        && decide (sget 0 s.sys.idleSince e + 1000 * s.sys.gidle ≤ s.now)) = true then s.requestFence e else s) := by
  have hx : exec (.islandIdleTimeout e) s = execIslandIdleTimeout e s := rfl
  rw [hx, execIslandIdleTimeout, act_live hs]

theorem requestFence_pend {i c : Nat} (hi : i < 64) (hc : c ∈ islandClusters i) (s : State) :
    ((s.requestFence i).router c).pend = (s.router c).pend ++ [.fence 0] :=
  pendIsland_pend hi hc { s with sys := { s.sys with fence := sput .none s.sys.fence i .requested } } (.fence 0)

/-- An enable that waited for the reset of its function runs (R459). -/
theorem pendingRing_runs (hs : s.live = true) {p f : Nat} {g : RingKind} (hp : s.sys.pend = [.ring p f g]) (hr : (s.func p f).rstp = false) :
    exec .pendingEnableRun s = .next (({ s with sys := { s.sys with pend := [] } } : State).setFunc p f
      ((s.func p f).setRing g { (s.func p f).ring g with en := true, head := 0, tail := 0, phase := true })) := by
  have hx : exec .pendingEnableRun s = execPendingEnableRun s := rfl
  have hfind : s.sys.pend.find? s.enableRuns = some (.ring p f g) := by
    rw [hp]
    exact List.find?_cons_of_pos (by simp [State.enableRuns, hr])
  rw [hx, execPendingEnableRun, act_live hs, hfind]
  dsimp only
  rw [hp, List.erase_cons_head]
  rfl

theorem pendingNone_runs (hs : s.live = true) (h : ∀ y ∈ s.sys.pend, s.enableRuns y = false) : exec .pendingEnableRun s = .next s := by
  have hx : exec .pendingEnableRun s = execPendingEnableRun s := rfl
  have hfind : s.sys.pend.find? s.enableRuns = none := List.find?_eq_none.mpr fun y hy => by rw [h y hy]; exact Bool.false_ne_true
  rw [hx, execPendingEnableRun, act_live hs, hfind]

end

/-- Settles O50. -/
theorem powerAndResets : Obligations.PowerAndResets := by
  unfold Obligations.PowerAndResets
  intro s high straps k tr e r p f g boots trips
  refine ⟨fun hoff hheld => ⟨?_, ?_⟩, fun hon => ?_, fun hon hheld => ?_, fun hoff => ?_, fun hheld => ?_, fun hheld => ?_, rfl, fun hs =>
    ⟨fun htr hw hpop => ?_, fun htr hw => ?_, fun htr => ?_, fun hd => ⟨?_, ?_, ?_, fun hth => ?_⟩, fun hd => ⟨?_, ?_, ?_⟩, ?_, fun hd => ?_, fun hd hf hv => ?_,
      fun hm hon hsvc hidle hfen => ⟨fun ht => ?_, fun ht => ?_⟩, fun hm => ?_, fun hoff hw hd => ?_, fun hno => ?_, fun hp hr => ?_, fun hno => ?_⟩⟩
  · rw [coldReset_runs, hoff, hheld, if_neg (by decide), if_pos rfl]
    exact ⟨_, rfl, deviceReset_boots s _ _⟩
  · rw [coldReset_runs, hoff, hheld, if_neg (by decide), if_neg Bool.false_ne_true]
  · rw [coldReset_runs, hon, if_pos (by rw [Bool.not_false, Bool.true_or])]
  · rw [warmReset_runs, hon, hheld, if_neg (by decide)]
  · rw [warmReset_runs, hoff, if_pos (by rw [Bool.true_or])]
  · rw [release_runs, hheld]
    exact ⟨_, rfl, deviceReset_boots s _ _⟩
  · rw [release_runs, hheld]
    rfl
  · have hdue : (!s.host.owner.comps.any (fun r => decide (r.tag = tr.issuer.tag) && !r.rej) || decide (tr.posted + 100000000 ≤ s.now)) = true := by
      rcases hpop with h | h
      · rw [decide_eq_true h, Bool.or_true]
      · have hany : s.host.owner.comps.any (fun r => decide (r.tag = tr.issuer.tag) && !r.rej) = false :=
          List.any_eq_false.mpr fun x hx => by rw [decide_eq_false (h x hx)]; exact Bool.false_ne_true
        rw [hany]
        rfl
    rw [lifecycleReset_runs hs htr, if_pos (by rw [hw, hdue]; rfl)]
    exact ⟨_, rfl, deviceReset_boots s _ _⟩
  · rw [lifecycleReset_runs hs htr, if_neg (by rw [hw]; exact Bool.false_ne_true)]
  · rw [lifecycleReset_none hs htr]
  · exact ⟨_, exec_of_act hs (f := (·.faultSafe 1)) rfl, (faultSafe_trips hd 1).1⟩
  · exact ⟨_, exec_of_act hs (f := (·.faultSafe 2)) rfl, (faultSafe_trips hd 2).1⟩
  · exact ⟨_, exec_of_act hs (f := (·.faultSafe 3)) rfl, (faultSafe_trips hd 3).1⟩
  · obtain ⟨u, hu⟩ : ∃ u, u = ({ s with sys := { s.sys with thermtrip := true } } : State).emit .thermtripLow := ⟨_, rfl⟩
    have hrun : exec .thermtrip s = .next (u.faultSafe 1) := by
      rw [exec_of_act hs (f := fun s => (if s.sys.thermtrip then s else ({ s with sys := { s.sys with thermtrip := true } } : State).emit .thermtripLow).faultSafe 1) rfl,
        hth, hu]
      rfl
    have hdu : u.sys.dstate ≠ .faultSafe := by rw [hu]; exact hd
    obtain ⟨ht, hout, hpin⟩ := faultSafe_trips hdu 1
    refine ⟨_, hrun, ?_, ?_, ?_⟩
    · rw [hu] at ht ⊢
      exact ht
    · rw [hpin, hu]
      rfl
    · rw [hout, hu]
      rfl
  · rw [exec_of_act hs (f := (·.faultSafe 1)) rfl, faultSafe_again hd]
  · rw [exec_of_act hs (f := (·.faultSafe 2)) rfl, faultSafe_again hd]
  · rw [exec_of_act hs (f := (·.faultSafe 3)) rfl, faultSafe_again hd]
  · exact exec_of_act hs (f := fun s => { s with sys := { s.sys with refclkLost := true } }) rfl
  · rw [bringupStep_runs hs, if_neg hd]
  · obtain ⟨h1, h6, h7⟩ := bringStep_clean (s := s) hf hv
    intro n
    refine ⟨fun hb => ?_, fun hb => ?_, fun hb hc hfit hl => ?_⟩
    · obtain ⟨m, hm⟩ : ∃ m : State, m = { n with host := { n.host with avail := true } } := ⟨_, rfl⟩
      have hsys : (forAll (List.range 4) State.trainPort m).sys = s.sys := by
        rw [forAll_frame State.sys trainPort_sys _ m, hm]
      have havail : (forAll (List.range 4) State.trainPort m).host.avail = true := by
        rw [forAll_frame (fun s : State => s.host.avail) trainPort_avail _ m, hm]
      have hports : ∀ q, q < 4 → ((forAll (List.range 4) State.trainPort m).port q).training = ((s.port q).training || (s.portExists q && !(s.port q).perst)) := by
        intro q hq
        rw [trainPorts_training m hq, hm]
        rfl
      have hstep := h1 hb
      rw [← hm] at hstep
      refine ⟨_, (bringupStep_runs hs r).trans (congrArg Host.Outcome.next ((if_pos hd).trans hstep)), havail, ?_, hports⟩
      refine (congrArg (fun y : Sys => { y with bring := y.bring + 1 }) hsys).trans ?_
      rw [hb]
    · rw [bringupStep_runs hs, if_pos hd, h6 hb]
      exact congrArg (fun b => Host.Outcome.next ({ n with sys := { s.sys with bring := b + 1 } } : State)) hb
    · rw [bringupStep_runs hs, if_pos hd, h7 hb hc]
      have hfit' : n.modeFits n.sys.bootMode [] = true := hfit
      unfold State.enterBootMode
      rw [if_pos hfit']
      unfold State.startChange
      rw [abortLoads_idle (s := n) hl]
      rfl
  · rw [islandIdle_runs hs, if_pos (by rw [hm, hon, hsvc, hidle, hfen, decide_eq_true ht]; rfl)]
    exact ⟨_, rfl, requestFence_self s e, fun c hc => requestFence_pend e.isLt hc s, requestFence_cls s e⟩
  · rw [islandIdle_runs hs, if_neg (by rw [decide_eq_false (Nat.not_le.mpr ht), Bool.and_false]; exact Bool.false_ne_true)]
  · rw [islandIdle_runs hs, if_neg (by rw [decide_eq_false hm]; exact Bool.false_ne_true)]
  · obtain ⟨hon, hfence, hpend, hcls⟩ := powerOn_clears e.isLt s
    rw [powerOn_runs hs, if_pos (by rw [hoff, hw, decide_eq_true hd]; rfl)]
    exact ⟨_, rfl, hon, hfence, hcls, hpend⟩
  · rw [powerOn_runs hs, if_neg]
    rcases hno with h | h <;> simp [h]
  · exact pendingRing_runs hs hp hr
  · exact pendingNone_runs hs hno

end Sys2Proof.Machine

/-! O49: register accesses. -/

namespace Sys2Proof.Machine

section
variable {s : State} {c who o : Nat}

/-! ### Control registers of a cluster's window (R21, R23) -/

/-- The address of a control register in the window of a cluster (R20, R21). -/
def regAddr (c o : Nat) : Nat := winBase + c * 0x1000000 + 0xF00000 + o

theorem place_regAddr (hc : c < 256) (ho : o < 0x100000) : place (regAddr c o) = .win c (0xF00000 + o) := by
  have hidx : (regAddr c o - winBase) / 0x1000000 = c ∧ (regAddr c o - winBase) % 0x1000000 = 0xF00000 + o := by
    unfold regAddr winBase
    omega
  unfold place
  rw [if_neg (by unfold regAddr winBase hbmBytes stackBytes; omega), if_pos (by unfold regAddr winBase; simp only [Bool.and_eq_true, decide_eq_true_eq]; omega),
    hidx.1, hidx.2]

theorem ctlAccess_reg (hc : c < 256) (ho : o < 0x100000) (hr : s.redir c = c) (ht : s.translate who (regAddr c o) = some (regAddr c o))
    (hub : Nat → Acc) (win : Nat → Nat → Acc) : s.ctlAccess who (regAddr c o) hub win = win c (0xF00000 + o) := by
  unfold State.ctlAccess
  rw [ht, Option.map_some, place_regAddr hc ho]
  dsimp only
  rw [hr]

theorem winArea_reg {o : Nat} (h1 : 0xF00000 ≤ o) (h2 : o < 0x1000000) : winArea o = some 5 := by
  unfold winArea
  rw [if_neg (by omega), if_neg, if_neg, if_neg, if_neg, if_pos] <;> simp only [Bool.and_eq_true, decide_eq_true_eq] <;> omega

theorem winRead_reg (ho : o + 3 < 0x100000) (ha : o % 4 = 0) : s.winRead who c (0xF00000 + o) 4 = s.clRegRead who c o := by
  unfold State.winRead
  rw [winArea_reg (by omega) (by omega), winArea_reg (o := 0xF00000 + o + 4 - 1) (by omega) (by omega)]
  have hal : (0xF00000 + o) % 4 = 0 := by omega
  refine (if_neg (fun h => h rfl)).trans ((if_neg (by rw [show [some 0, some 1, some 3, some 4].contains (some 5) = false from rfl, Bool.and_false]; exact Bool.false_ne_true)).trans ?_)
  refine (if_pos (by rw [decide_eq_true hal]; rfl)).trans ?_
  rw [Nat.add_sub_cancel_left]

theorem winWrite_reg (ho : o + 3 < 0x100000) (ha : o % 4 = 0) (v : Nat) :
    s.winWrite who c (0xF00000 + o) (toLe 4 v) = s.clRegWrite who c o (v % 2 ^ 32) := by
  unfold State.winWrite
  dsimp only
  rw [length_toLe, winArea_reg (by omega) (by omega), winArea_reg (o := 0xF00000 + o + 4 - 1) (by omega) (by omega)]
  have hal : (0xF00000 + o) % 4 = 0 := by omega
  refine (if_neg (fun h => h rfl)).trans ((if_neg (by rw [show [some 0, some 1, some 3, some 4].contains (some 5) = false from rfl, Bool.and_false]; exact Bool.false_ne_true)).trans ?_)
  refine (if_pos (by rw [decide_eq_true hal]; rfl)).trans ?_
  rw [Nat.add_sub_cancel_left, leNat_toLe]

/-- Who may read and write a queue's block: firmware, the tenant and the cluster's own sequencer (R168). -/
def State.blockRights (s : State) (who c : Nat) : Bool := ownSeq who c || s.tenantAt who c || decide (who = fwId)

theorem block_outside (a : Nat) {b q k : Nat} (_ : q < 128) (hb : b ≤ 0x40000) :
    ¬ (decide (a ≤ 0x40000 + 64 * q + k) && decide (0x40000 + 64 * q + k < b)) = true := by
  rw [decide_eq_false (p := 0x40000 + 64 * q + k < b) (by omega), Bool.and_false]
  exact Bool.false_ne_true

theorem block_inside {q k : Nat} (hq : q < 128) (hk : k < 64) : (decide (0x40000 ≤ 0x40000 + 64 * q + k) && decide (0x40000 + 64 * q + k < 0x42000)) = true := by
  rw [decide_eq_true (p := 0x40000 ≤ 0x40000 + 64 * q + k) (by omega), decide_eq_true (p := 0x40000 + 64 * q + k < 0x42000) (by omega)]
  rfl

theorem clRegRead_queue {q k v : Nat} {x : Cluster} (hq : q < 128) (hk : k < 64) (h : (s.cl c).queueRead q k = some (v, x)) :
    s.clRegRead who c (0x40000 + 64 * q + k) = if s.blockRights who c = true then ⟨0, toLe 4 v, s.setCl c x⟩ else ⟨3, [], s⟩ := by
  have hidx : (0x40000 + 64 * q + k - 0x40000) / 64 = q ∧ (0x40000 + 64 * q + k) % 64 = k := by omega
  unfold State.clRegRead
  dsimp only
  rw [hidx.1, hidx.2, h, if_neg (block_outside _ hq (by omega)), if_neg (block_outside _ hq (by omega)), if_neg (block_outside _ hq (by omega)),
    if_neg (block_outside _ hq (by omega)), if_pos (block_inside hq hk)]
  rfl

theorem clRegWrite_queue {q k v : Nat} (hq : q < 128) (hk : k < 64) (h : ((s.cl c).queueRead q k).isSome = true) :
    s.clRegWrite who c (0x40000 + 64 * q + k) v = if s.blockRights who c = true then ⟨0, [], s.queueWrite c q k v⟩ else ⟨3, [], s⟩ := by
  have hidx : (0x40000 + 64 * q + k - 0x40000) / 64 = q ∧ (0x40000 + 64 * q + k) % 64 = k := by omega
  unfold State.clRegWrite
  dsimp only
  rw [hidx.1, hidx.2, h, if_neg (block_outside _ hq (by omega)), if_neg (block_outside _ hq (by omega)), if_neg (block_outside _ hq (by omega)),
    if_neg (block_outside _ hq (by omega)), if_pos (block_inside hq hk)]
  rfl

/-- A write of CTX_SCAUSE (R101): each bit that is 1 clears its cause. -/
theorem clRegWrite_scause (hm : s.sys.mode ≠ 3) (ht : s.tenantAt who c = true) (v : Nat) :
    s.clRegWrite who c 0x2018 v = ⟨0, [], s.updCl c fun k => { k with scause := k.scause &&& ~~~(BitVec.ofNat 6 v) }⟩ := by
  unfold State.clRegWrite
  rw [withTwin_unpaired hm, ht]
  refine (if_pos (by decide)).trans ((if_neg Bool.false_ne_true).trans (if_pos (Bool.or_true _)))

/-! ### Accesses as commands (R7, R10, R12) -/

theorem rcRead_ctl (hs : s.live = true) (who : InitId) (a n : Nat) : exec (.rcRead (.ctl who a n)) s =
    let x := s.ctlAccess who a (fun o => s.hubRead who o n) (fun c o => s.winRead who c o n)
    .next (x.st.emit (.regValue (if x.status = 0 then some (BitVec.ofNat 64 (leNat x.data)) else none))) := by
  have hx : exec (.rcRead (.ctl who a n)) s = execRcRead (.ctl who a n) s := rfl
  rw [hx, execRcRead, act_live hs]

theorem registerWrite_ctl (hs : s.live = true) (who : InitId) (a n : Nat) (v : BitVec 64) : exec (.registerWrite (.ctl who a n) v) s =
    let x := s.ctlAccess who a (fun o => s.hubWrite who o (toLe n v.toNat)) (fun c o => s.winWrite who c o (toLe n v.toNat))
    .next (if x.status = 0 then x.st else x.st.emit (.regValue none)) := by
  have hx : exec (.registerWrite (.ctl who a n) v) s = execRegisterWrite (.ctl who a n) v s := rfl
  rw [hx, execRegisterWrite, act_live hs]

theorem rcRead_bar0 (hs : s.live = true) (p : PortId) (f : FnId) (o n : Nat) : exec (.rcRead (.bar0 p f o n)) s =
    .next (if (s.port p).up = true then s.bar0Read p f o n else s) := by
  have hx : exec (.rcRead (.bar0 p f o n)) s = execRcRead (.bar0 p f o n) s := rfl
  rw [hx, execRcRead, act_live hs]

theorem registerWrite_bar0 (hs : s.live = true) (p : PortId) (f : FnId) (o n : Nat) (v : BitVec 64) : exec (.registerWrite (.bar0 p f o n) v) s =
    .next (if (s.port p).up = true then s.bar0Write p f o n v.toNat else s) := by
  have hx : exec (.registerWrite (.bar0 p f o n) v) s = execRegisterWrite (.bar0 p f o n) v s := rfl
  rw [hx, execRegisterWrite, act_live hs]

/-- A read of a queue's block: the value and what the read clears, or an error without rights. -/
theorem rcRead_queue (hs : s.live = true) {who : InitId} {q k v : Nat} {x : Cluster} (hc : c < 256) (hq : q < 128) (hk : k + 3 < 64) (ha : k % 4 = 0)
    (hr : s.redir c = c) (ht : s.translate who (regAddr c (0x40000 + 64 * q + k)) = some (regAddr c (0x40000 + 64 * q + k)))
    (h : (s.cl c).queueRead q k = some (v, x)) : exec (.rcRead (.ctl who (regAddr c (0x40000 + 64 * q + k)) 4)) s =
      .next (if s.blockRights who c = true then (s.setCl c x).emit (.regValue (some (BitVec.ofNat 64 (v % 2 ^ 32)))) else s.emit (.regValue none)) := by
  rw [rcRead_ctl hs]
  dsimp only
  rw [ctlAccess_reg hc (by omega) hr ht, winRead_reg (by omega) (by omega), clRegRead_queue hq (by omega) h]
  cases s.blockRights who c
  · rfl
  · rw [if_pos rfl, if_pos rfl]
    dsimp only
    rw [leNat_toLe]
    rfl

theorem registerWrite_queue (hs : s.live = true) {who : InitId} {q k : Nat} {v : BitVec 64} (hv : v.toNat < 2 ^ 32) (hc : c < 256) (hq : q < 128) (hk : k + 3 < 64)
    (ha : k % 4 = 0) (hr : s.redir c = c) (ht : s.translate who (regAddr c (0x40000 + 64 * q + k)) = some (regAddr c (0x40000 + 64 * q + k)))
    (h : ((s.cl c).queueRead q k).isSome = true) : exec (.registerWrite (.ctl who (regAddr c (0x40000 + 64 * q + k)) 4) v) s =
      .next (if s.blockRights who c = true then s.queueWrite c q k v.toNat else s.emit (.regValue none)) := by
  rw [registerWrite_ctl hs]
  dsimp only
  rw [ctlAccess_reg hc (by omega) hr ht, winWrite_reg (by omega) (by omega), clRegWrite_queue hq (by omega) h, Nat.mod_eq_of_lt hv]
  cases s.blockRights who c <;> rfl

/-- Translation keeps offsets, so that an address that is its own translation has neighbours in its window that are so too (R242). -/
theorem translate_near {i a b : Nat} (h : s.translate i a = some a) (hu : b / unitBytes = a / unitBytes) (ha : winBase ≤ a) (hb : winBase ≤ b)
    (hw : (b - winBase) / 0x1000000 = (a - winBase) / 0x1000000) : s.translate i b = some b := by
  have hlt : ∀ n, b < n * unitBytes ↔ a < n * unitBytes := fun n => by
    have hpos : 0 < unitBytes := by decide
    rw [← Nat.div_lt_iff_lt_mul hpos, ← Nat.div_lt_iff_lt_mul hpos, hu]
  unfold State.translate at h ⊢
  split at h
  · next hhub => rw [if_pos hhub]
  · next hhub =>
    rw [if_neg hhub]
    cases hg : (s.initRegion i).bind s.region with
    | none =>
      rw [hg] at h
      cases h
    | some g =>
      rw [hg] at h
      dsimp only at h ⊢
      by_cases hm : a < g.units.length * unitBytes
      · rw [if_pos hm] at h
        rw [if_pos ((hlt _).mpr hm), hu]
        obtain ⟨u, hx, hval⟩ := Option.map_eq_some_iff.mp h
        refine Option.map_eq_some_iff.mpr ⟨u, hx, ?_⟩
        unfold unitBytes at hu hval ⊢
        omega
      · rw [if_neg hm] at h
        rw [if_neg (fun hb => hm ((hlt _).mp hb))]
        split at h
        · next hwin =>
          rw [Bool.and_eq_true, decide_eq_true_eq, decide_eq_true_eq] at hwin
          obtain ⟨u, hx, hval⟩ := Option.map_eq_some_iff.mp h
          have hend : b < winBase + 0x100000000 := by omega
          rw [if_pos (by rw [decide_eq_true hb, decide_eq_true hend]; rfl), hw]
          exact Option.map_eq_some_iff.mpr ⟨u, hx, by omega⟩
        · cases h

/-! ### BAR0 (R392, R393) -/

theorem bar0Read_nlost (hs : s.live = true) {p : PortId} {f : FnId} (hup : (s.port p).up = true) : exec (.rcRead (.bar0 p f 0x154 4)) s =
    .next ((s.setFunc p f { s.func p f with nlost := 0 }).emit (.regValue (some (BitVec.ofNat 64 (s.func p f).nlost)))) := by
  rw [rcRead_bar0 hs, if_pos hup]
  rfl

theorem sqBase_write (hs : s.live = true) {p : PortId} {f : FnId} (hup : (s.port p).up = true) {v : BitVec 64} (hv : v.toNat < 2 ^ 32) :
    exec (.registerWrite (.bar0 p f 0x104 4) v) s = .next (if s.ringEn p f .sq = true then s else
      s.setFunc p f { s.func p f with sq := { (s.func p f).sq with
        base := BitVec.ofNat 64 ((s.func p f).sq.base.toNat % 2 ^ 32 + v.toNat * 2 ^ 32) } }) := by
  have hput : putFld (s.func p f).sq.base.toNat 32 32 v.toNat = (s.func p f).sq.base.toNat % 2 ^ 32 + v.toNat * 2 ^ 32 := by
    have hb := (s.func p f).sq.base.isLt
    rw [putFld_eq]
    omega
  rw [registerWrite_bar0 hs, if_pos hup]
  have hlegal : s.bar0Legal p f 0x104 4 = true := rfl
  have hwrite : s.bar0Write p f 0x104 4 v.toNat = s.bar0Put p f 0x104 v.toNat := by
    unfold State.bar0Write
    rw [hlegal, Nat.mod_eq_of_lt hv]
    rfl
  rw [hwrite, ← hput]
  have hring : ∀ b, s.ringEn p f .sq = b → ((0x104 - 0x100) % 32 = 4 && !s.ringEn p f (ringAt ((0x104 - 0x100) / 32))) = !b := fun b hb => by
    rw [show ringAt ((0x104 - 0x100) / 32) = .sq from rfl, hb]
    rfl
  unfold State.bar0Put
  cases hen : s.ringEn p f .sq
  · exact congrArg Host.Outcome.next (if_pos (hring _ hen))
  · exact congrArg Host.Outcome.next (if_neg (fun h => Bool.false_ne_true ((hring _ hen).symm.trans h)))

theorem noRights {who c : Nat} (hw : who ≠ fwId) (hc : who ≠ c) (ht : s.tenantAt who c = false) : ¬ s.blockRights who c = true := by
  unfold State.blockRights ownSeq
  rw [ht, decide_eq_false hw, decide_eq_false hc]
  exact Bool.false_ne_true

theorem setQueue_at {c q : Nat} (hq : q < 128) (v : Queue) : s.setQueue (128 * c + q) v = s.setCl c ((s.cl c).setQueue q v) := by
  unfold State.setQueue State.updCl
  rw [show (128 * c + q) / 128 = c by omega, show (128 * c + q) % 128 = q by omega]

theorem fwRights (c : Nat) : s.blockRights fwId c = true := by
  unfold State.blockRights
  rw [decide_eq_true (p := fwId = fwId) rfl, Bool.or_true]

end

/-- Settles O49. -/
theorem registerAccesses : Obligations.RegisterAccesses := by
  unfold Obligations.RegisterAccesses
  intro s c q p f v who hs hm hr hv hfw fw reg sq u id value x keep
  have hfwt : ∀ a, s.translate fw a = some a := fun a => rfl
  refine ⟨fun ho => ?_, fun ho => ?_, ?_, ?_, fun ht hub htr => ?_, fun hw hc ht htr => ⟨?_, ?_⟩, fun hup => ⟨fun hn => ?_, fun hen => ?_, fun hen => ?_⟩⟩
  · refine (rcRead_queue (who := fw) (k := 0x18) hs c.isLt q.isLt (by omega) (by omega) hr (hfwt _) rfl).trans
      (congrArg Host.Outcome.next ((if_pos (fwRights c.val)).trans ?_))
    rw [Nat.mod_eq_of_lt (Nat.lt_trans ho (by decide))]
    exact congrArg (fun t => value t u.ovcnt) (setQueue_at (c := c.val) q.isLt _).symm
  · refine (rcRead_queue (who := fw) (k := 0x0C) hs c.isLt q.isLt (by omega) (by omega) hr (hfwt _) rfl).trans
      (congrArg Host.Outcome.next ((if_pos (fwRights c.val)).trans ?_))
    rw [Nat.mod_eq_of_lt (Nat.lt_trans ho (by decide))]
  · exact (registerWrite_queue (who := fw) (k := 0x14) hs hv c.isLt q.isLt (by omega) (by omega) hr (hfwt _) rfl).trans
      (congrArg Host.Outcome.next (if_pos (fwRights c.val)))
  · exact (registerWrite_queue (who := fw) (k := 0x0C) hs hv c.isLt q.isLt (by omega) (by omega) hr (hfwt _) rfl).trans
      (congrArg Host.Outcome.next (if_pos (fwRights c.val)))
  · have haddr : s.ctlAccess who (reg 0x2018) (fun o => s.hubWrite who o (toLe 4 v.toNat)) (fun c o => s.winWrite who c o (toLe 4 v.toNat)) =
        ⟨0, [], s.updCl c fun k => { k with scause := k.scause &&& ~~~(BitVec.ofNat 6 v.toNat) }⟩ := by
      refine (ctlAccess_reg c.isLt (o := 0x2018) (by decide) hr htr _ _).trans ?_
      rw [winWrite_reg (by decide) (by decide), Nat.mod_eq_of_lt hv, clRegWrite_scause hm ht]
    rw [registerWrite_ctl hs]
    dsimp only
    rw [haddr]
    rfl
  · exact (rcRead_queue (k := 0x18) hs c.isLt q.isLt (by omega) (by omega) hr htr rfl).trans (congrArg Host.Outcome.next (if_neg (noRights hw hc ht)))
  · have htr' : s.translate who (sq 0x0C) = some (sq 0x0C) := translate_near htr (by unfold sq reg winBase unitBytes; omega) (by unfold sq reg; omega) (by unfold sq reg; omega)
      (by unfold sq reg winBase; omega)
    exact (registerWrite_queue (k := 0x0C) hs hv c.isLt q.isLt (by omega) (by omega) hr htr' rfl).trans
      (congrArg Host.Outcome.next (if_neg (noRights hw hc ht)))
  · exact bar0Read_nlost hs hup
  · rw [sqBase_write hs hup hv, if_neg (fun h => Bool.false_ne_true (hen.symm.trans h))]
  · rw [sqBase_write hs hup hv, if_pos hen]

end Sys2Proof.Machine

/-! O46: host links and resets, rings, doorbells and coalescing. -/

namespace Sys2Proof.Machine

section
variable {s : State} {p f : Nat}

/-! ### Resets of functions (R412) -/

theorem sget_filter_key {α : Type} (d : α) (g : Nat → Bool) (k : Nat) : ∀ m : SMap α,
    sget d (m.filter fun x => g x.1) k = if g k = true then sget d m k else d
  | [] => (ite_self d).symm
  | (n, v) :: m => by
    have ih := sget_filter_key d g k m
    by_cases hn : g n = true
    · rw [List.filter_cons_of_pos (p := fun x : Nat × α => g x.1) hn]
      unfold sget
      split
      · next hk => rw [hk, if_pos hn]
      · exact ih
    · rw [List.filter_cons_of_neg (p := fun x : Nat × α => g x.1) hn, ih]
      split
      · next hk =>
        have hne : k ≠ n := fun e => hn (e ▸ hk)
        rw [sget, if_neg hne]
      · rfl

/-- A function after its reset, while commands of it run (R412). -/
def Func.reset (u : Func) (mine : List Running) : Func :=
  { u with
    sq := { u.sq with en := false }, cq := { u.cq with en := false }, nr := { u.nr with en := false }
    sigHeld := false, sigDone := false, sigBy := none
    ready := [], rstp := !mine.isEmpty
    slots := u.slots.filter (fun x => mine.any (fun r => decide (tagSlot r.iss.tag.toNat = x.1))) }

/-- The running commands of a function. -/
def State.runningOf (s : State) (p f : Nat) : List Running := s.host.running.filter (fun r => decide (r.iss.p = p) && decide (r.iss.f = f))

theorem dropSignal_eq (s : State) (p f : Nat) : ∃ b, s.dropSignal p f =
    { s.setFunc p f { s.func p f with sigHeld := false, sigDone := false, sigBy := none } with belay := b } := by
  obtain ⟨b, hb⟩ : ∃ b, forAll (List.range 64) (fun s r => s.setBreg r { s.breg r with held := (s.breg r).held.filter (fun e => decide (e.orig ≠ .host p f false)) }) s =
      { s with belay := b } :=
    ⟨_, forAll_part (put := fun s t => { s with belay := t.belay }) (fun _ => rfl) (fun _ _ _ => rfl) (fun _ _ => rfl) _ s⟩
  unfold State.dropSignal
  rw [hb]
  exact ⟨_, rfl⟩

theorem setFunc_again (s : State) (p f : Nat) (v w : Func) (b : Belay) (y : Sys) :
    ({ s.setFunc p f v with belay := b, sys := y } : State).setFunc p f w = { s.setFunc p f w with belay := b, sys := y } :=
  congrArg (fun t : State => ({ t with belay := b, sys := y } : State)) (setFunc_setFunc (s := s) p f v w)

theorem funcReset_eq (s : State) (p f : Nat) : ∃ b l, s.funcReset p f =
    { s.setFunc p f ((s.func p f).reset (s.runningOf p f)) with belay := b, sys := { s.sys with pend := l } } := by
  obtain ⟨b, hb⟩ := dropSignal_eq s p f
  unfold State.funcReset
  rw [hb]
  dsimp only
  have hf : ∀ y : Sys, ({ s.setFunc p f { s.func p f with sigHeld := false, sigDone := false, sigBy := none } with belay := b, sys := y } : State).func p f =
      { s.func p f with sigHeld := false, sigDone := false, sigBy := none } := fun _ => func_setFunc (s := s) p f _
  rw [hf, setFunc_again]
  exact ⟨b, _, rfl⟩

theorem funcReset_func (s : State) (p f : Nat) : (s.funcReset p f).func p f = (s.func p f).reset (s.runningOf p f) := by
  obtain ⟨b, l, h⟩ := funcReset_eq s p f
  rw [h]
  exact func_setFunc (s := s) p f _

theorem funcReset_other (s : State) {p f g : Nat} (hg : g ≠ f) : (s.funcReset p f).func p g = s.func p g := by
  obtain ⟨b, l, h⟩ := funcReset_eq s p f
  rw [h]
  exact func_setFunc_ne (s := s) _ fun e => hg e.2

/-- What the resets of a port's functions leave of the state: the security state, running commands, the other ports and the port's link. -/
def State.resetsOnly (s t : State) (p : Nat) : Prop :=
  t.sec = s.sec ∧ t.host.running = s.host.running ∧ (∀ k, k ≠ p → t.port k = s.port k) ∧ ({ t.port p with funcs := [] } : Port) = { s.port p with funcs := [] }

theorem resetsOnly_trans {s t u : State} {p : Nat} (h : s.resetsOnly t p) (h' : t.resetsOnly u p) : s.resetsOnly u p := by
  obtain ⟨hsec, hrun, hport, hlink⟩ := h
  obtain ⟨hsec', hrun', hport', hlink'⟩ := h'
  exact ⟨hsec'.trans hsec, hrun'.trans hrun, fun k hk => (hport' k hk).trans (hport k hk), hlink'.trans hlink⟩

theorem up_of_resetsOnly {s t : State} {p : Nat} (h : s.resetsOnly t p) : (t.port p).up = (s.port p).up := by
  obtain ⟨-, -, -, hlink⟩ := h
  exact (congrArg Port.up hlink :)

theorem funcReset_resetsOnly (s : State) (p f : Nat) : s.resetsOnly (s.funcReset p f) p := by
  obtain ⟨b, l, h⟩ := funcReset_eq s p f
  rw [h]
  refine ⟨rfl, rfl, fun k hk => port_setPort_ne (s := s) _ hk, ?_⟩
  exact (congrArg (fun x : Port => ({ x with funcs := [] } : Port)) (port_setPort (s := s) p ((s.port p).setFunc f _)) :)

theorem portReset_resetsOnly (s : State) (p : Nat) : s.resetsOnly (s.portReset p) p :=
  forAll_keeps (P := fun t => s.resetsOnly t p) (fun t f ht => resetsOnly_trans ht (funcReset_resetsOnly t p f)) (List.range 65) s
    ⟨rfl, rfl, fun _ _ => rfl, rfl⟩

theorem portReset_func (s : State) (p : Nat) {f : Nat} (hf : f < 65) : (s.portReset p).func p f = (s.func p f).reset (s.runningOf p f) := by
  have hself : ∀ (s : State) (n : Nat), ((s.funcReset p n).func p n, (s.funcReset p n).host.running) =
      (((s.func p n).reset (s.host.running.filter (fun r => decide (r.iss.p = p) && decide (r.iss.f = n)))), s.host.running) := fun s n =>
    Prod.ext (funcReset_func s p n) (funcReset_resetsOnly s p n).2.1
  have h := forAll_once (f := fun s f => s.funcReset p f) (get := fun s f => (s.func p f, s.host.running))
    (upd := fun n (x : Func × List Running) => (x.1.reset (x.2.filter (fun r => decide (r.iss.p = p) && decide (r.iss.f = n))), x.2))
    hself (fun s m n hmn => Prod.ext (funcReset_other s (Ne.symm hmn)) (funcReset_resetsOnly s p m).2.1) (List.range 65) List.nodup_range (List.mem_range.mpr hf) s
  dsimp only at h
  unfold State.portReset
  exact (Prod.mk.inj h).1

/-- A reset function, by its fields (R412). -/
theorem reset_spec (u : Func) (p f : Nat) :
    let runs := fun (tag : Nat) => s.host.running.any (fun r => decide (r.iss.p = p) && decide (r.iss.f = f) && decide (r.iss.tag.toNat % 4096 = tag))
    let n := u.reset (s.runningOf p f)
    n.sq.en = false ∧ n.cq.en = false ∧ n.nr.en = false ∧ n.ready = [] ∧ n.sigHeld = false ∧
      n.rstp = s.host.running.any (fun r => decide (r.iss.p = p) && decide (r.iss.f = f)) ∧ n.msix = u.msix ∧ n.pwq = u.pwq ∧
      (∀ k, runs k = false → sget {} n.slots k = {}) ∧ (∀ k, runs k = true → sget {} n.slots k = sget {} u.slots k) := by
  have hslot : ∀ k, sget {} (u.reset (s.runningOf p f)).slots k =
      if s.host.running.any (fun r => decide (r.iss.p = p) && decide (r.iss.f = f) && decide (r.iss.tag.toNat % 4096 = k)) = true then sget {} u.slots k else {} := by
    intro k
    refine (sget_filter_key ({} : HSlot) (fun n => (s.runningOf p f).any (fun r => decide (tagSlot r.iss.tag.toNat = n))) k u.slots).trans ?_
    unfold State.runningOf
    rw [List.any_filter]
    rfl
  refine ⟨rfl, rfl, rfl, rfl, rfl, ?_, rfl, rfl, fun k hk => ?_, fun k hk => ?_⟩
  · unfold Func.reset State.runningOf
    rw [Bool.eq_iff_iff]
    simp [List.filter_eq_nil_iff]
  · exact (hslot k).trans (if_neg (fun h => Bool.false_ne_true (hk.symm.trans h)))
  · exact (hslot k).trans (if_pos hk)

/-! ### Links (R385, R386, R412) -/

/-- What a link that goes down does besides the resets of its port's functions. -/
def State.unlink (u : State) (p : Nat) : State := (u.endSession p).setPort p { (u.endSession p).port p with up := false, slow := false }

theorem linkDown_eq (s : State) (p : Nat) : s.linkDown p = (s.portReset p).unlink p := by
  unfold State.linkDown State.unlink
  rfl

theorem setPort_running (u : State) (p : Nat) (v : Port) : (u.setPort p v).host.running = u.host.running := rfl

theorem endSession_host (u : State) (p : Nat) : (u.endSession p).host = u.host := (congrArg State.host (endSession_frame u p) :)

theorem endSession_port (u : State) (p k : Nat) : (u.endSession p).port k = u.port k :=
  congrArg (fun h : HostIf => sget ({} : Port) h.ports k) (endSession_host u p)

/-- A port whose link has gone down after its resets: its session and the session's keys are gone, all else of the host side stays. -/
theorem unlink_down (u : State) (p : Nat) {v : Port} (hv : v.funcs = (u.port p).funcs) (hup : v.up = false) :
    let t := (u.unlink p).setPort p v
    (t.port p).up = false ∧ (∀ f, t.func p f = u.func p f) ∧ (t.spdm p).session = none ∧
      t.key (8 + p) = none ∧ t.key (12 + p) = none ∧ (∀ k, k ≠ p → t.port k = u.port k) ∧ t.host.running = u.host.running := by
  intro t
  have hport : t.port p = v := port_setPort (s := u.unlink p) p v
  have hsec : t.sec = (u.endSession p).sec := rfl
  obtain ⟨hk8, hk12⟩ := endSession_key u p
  refine ⟨by rw [hport, hup], fun f => ?_, ?_, ?_, ?_, fun k hk => ?_, ?_⟩
  · refine (congrArg (fun x : Port => x.func f) hport).trans ?_
    unfold Port.func
    rw [hv]
    rfl
  · exact (congrArg (fun y : Sec => (sget ({} : Spdm) y.spdm p).session) hsec).trans (endSession_ends u p)
  · exact (congrArg (fun y : Sec => sget none y.keys (8 + p)) hsec).trans hk8
  · exact (congrArg (fun y : Sec => sget none y.keys (12 + p)) hsec).trans hk12
  · exact (port_setPort_ne (s := u.unlink p) v hk).trans ((port_setPort_ne (s := u.endSession p) _ hk).trans (endSession_port u p k))
  · exact (setPort_running _ _ _).trans ((setPort_running _ _ _).trans (congrArg HostIf.running (endSession_host u p)))

theorem unlink_port (u : State) (p : Nat) : (u.unlink p).port p = { u.port p with up := false, slow := false } := by
  unfold State.unlink
  rw [port_setPort, endSession_port]

/-- The functions of the port are reset with its link. -/
theorem linkDown_down (s : State) (p : Nat) {g : Port → Port} (hf : ∀ x, (g x).funcs = x.funcs) (hu : ∀ x, (g x).up = x.up) :
    let t := (s.linkDown p).setPort p (g ((s.linkDown p).port p))
    ((t.port p).up = false ∧ (∀ f, f < 65 → t.func p f = (s.func p f).reset (s.runningOf p f)) ∧ (t.spdm p).session = none ∧
      t.key (8 + p) = none ∧ t.key (12 + p) = none ∧ (∀ k, k ≠ p → t.port k = s.port k) ∧ t.host.running = s.host.running) ∧
      ∃ x : Port, t.port p = g { x with up := false, slow := false } := by
  obtain ⟨u, hres⟩ : ∃ u, u = s.portReset p := ⟨_, rfl⟩
  obtain ⟨-, hrun, hport, -⟩ := portReset_resetsOnly s p
  have hfunc := fun f (hf : f < 65) => portReset_func s p hf
  rw [← hres] at hrun hport
  have hfu : ∀ f, f < 65 → u.func p f = (s.func p f).reset (s.runningOf p f) := fun f hf => by rw [hres]; exact hfunc f hf
  have hlink : s.linkDown p = u.unlink p := by rw [linkDown_eq, hres]
  rw [hlink, unlink_port]
  obtain ⟨h1, h2, h3, h4, h5, h6, h7⟩ := unlink_down u p (v := g { u.port p with up := false, slow := false }) (hf _) (hu _)
  exact ⟨⟨h1, fun f hf => (h2 f).trans (hfu f hf), h3, h4, h5, fun k hk => (h6 k hk).trans (hport k hk), h7.trans hrun⟩, _, port_setPort (s := u.unlink p) p _⟩

theorem running_of_live (hs : s.live = true) : ¬ (s.sys.off || s.sys.held.isSome) = true := by
  unfold State.live at hs
  cases hoff : s.sys.off <;> cases hheld : s.sys.held <;> simp_all

theorem perstAssert_runs (hs : s.live = true) (p : PortId) : exec (.pePerstNAssert p) s =
    .next (if (!s.portExists p || (s.port p).perst) = true then s
      else (s.linkDown p).setPort p { (s.linkDown p).port p with perst := true, training := false }) := by
  have hx : exec (.pePerstNAssert p) s = execPePerstNAssert p s := rfl
  rw [hx, execPePerstNAssert]
  unfold pinPerst
  exact if_neg (running_of_live hs)

theorem perstDeassert_runs (hs : s.live = true) (p : PortId) : exec (.pePerstNDeassert p) s =
    .next (if (s.portExists p && (s.port p).perst) = true then s.setPort p { s.port p with perst := false, training := true } else s) := by
  have hx : exec (.pePerstNDeassert p) s = execPePerstNDeassert p s := rfl
  rw [hx, execPePerstNDeassert]
  unfold pinPerst
  exact if_neg (running_of_live hs)

theorem perst_off (h : s.sys.off = true) (p : PortId) : exec (.pePerstNAssert p) s = .next (s.setPort p { s.port p with perst := true }) ∧
    exec (.pePerstNDeassert p) s = .next (s.setPort p { s.port p with perst := false }) := by
  have hx : exec (.pePerstNAssert p) s = execPePerstNAssert p s := rfl
  have hy : exec (.pePerstNDeassert p) s = execPePerstNDeassert p s := rfl
  rw [hx, hy, execPePerstNAssert, execPePerstNDeassert]
  unfold pinPerst
  rw [h]
  exact ⟨rfl, rfl⟩

/-- The rates at which a port serves identity and status only (R387). -/
theorem linkUp_runs (hs : s.live = true) (p : PortId) (rate : LinkRate) : exec (.hostLinkUp p rate) s =
    .next (if (s.portExists p && !(s.port p).perst && ((s.port p).training || (s.port p).up) && decide (2 ≤ s.sys.bring)) = true
      then s.setPort p { s.port p with up := true, training := false, slow := decide (rate = .gt8 ∨ rate = .gt5 ∨ rate = .gt2_5) } else s) := by
  have hx : exec (.hostLinkUp p rate) s = execHostLinkUp p rate s := rfl
  rw [hx]
  unfold execHostLinkUp
  rw [act_live hs]
  cases rate <;> rfl

theorem linkDown_runs (hs : s.live = true) (p : PortId) : exec (.hostLinkDown p) s =
    .next (if (s.port p).up = true then (s.linkDown p).setPort p { (s.linkDown p).port p with training := true } else s) := by
  have hx : exec (.hostLinkDown p) s = execHostLinkDown p s := rfl
  rw [hx, execHostLinkDown, act_live hs]

theorem functionReset_runs (hs : s.live = true) (p : PortId) (f : FnId) : exec (.functionLevelReset p f) s =
    .next (if (s.port p).up = true then s.funcReset p f else s) := by
  have hx : exec (.functionLevelReset p f) s = execFunctionLevelReset p f s := rfl
  rw [hx, execFunctionLevelReset, act_live hs]

theorem hotReset_runs (hs : s.live = true) (p : PortId) : exec (.hotReset p) s =
    .next (if (s.port p).up = true then s.portReset p else s) := by
  have hx : exec (.hotReset p) s = execHotReset p s := rfl
  rw [hx, execHotReset, act_live hs]

/-! ### Violation windows and the throttle (R411) -/

theorem windowEnd_runs (hs : s.live = true) (q : VPort) : exec (.violationWindowEnd q) s = .next (s.setVstate q (s.vstate q)) := by
  have hx : exec (.violationWindowEnd q) s = execViolationWindowEnd q s := rfl
  rw [hx, execViolationWindowEnd, act_live hs]

theorem throttleEnd_runs (hs : s.live = true) {q : VPort} {t : Nat} (ht : (s.vstate q).throttled = some t) : exec (.throttleEnd q) s =
    .next (if s.now < t then s
      else if 1024 ≤ (s.vstate q).sum then s.setVstate q { s.vstate q with throttled := some (t + 1000000000) }
      else (s.setVstate q { s.vstate q with throttled := none }).log 0x51 (q.val * 2 ^ 24 + (s.vstate q).sum)) := by
  have hx : exec (.throttleEnd q) s = execThrottleEnd q s := rfl
  rw [hx, execThrottleEnd, act_live hs]
  dsimp only
  rw [ht]

/-! ### Rings (R393, R459) -/

theorem ringEn_eq (s : State) (p f : Nat) (k : RingKind) : s.ringEn p f k = (((s.func p f).ring k).en || decide (PendEnable.ring p f k ∈ s.sys.pend)) := by
  unfold State.ringEn State.ringWaits
  rw [List.contains_eq_mem]

/-- The fields of a ring's configuration after a write (R393). -/
theorem config_spec (r : Ring) (k : RingKind) (en : Bool) (v : Nat) :
    let x := r.config k en v
    x.en = r.en ∧ x.base = r.base ∧ x.head = r.head ∧ x.tail = r.tail ∧ x.log2 = (if en = false ∧ 4 ≤ v % 16 ∧ v % 16 ≤ 12 then v % 16 else r.log2) ∧
      (k ≠ .sq → x.vec = v / 2 ^ 20 % 2 ^ 11 ∧ x.ccnt = v / 2 ^ 12 % 2 ^ 8 ∧ x.ctime = v / 2 ^ 4 % 2 ^ 8) := by
  have hsize : ((!en && decide (4 ≤ v % 16) && decide (v % 16 ≤ 12)) = true) ↔ (en = false ∧ 4 ≤ v % 16 ∧ v % 16 ≤ 12) := by
    simp only [Bool.and_eq_true, Bool.not_eq_true', decide_eq_true_eq, and_assoc]
  unfold Ring.config
  dsimp only
  by_cases hk : k = .sq
  · rw [if_pos hk]
    by_cases hn : en = false ∧ 4 ≤ v % 16 ∧ v % 16 ≤ 12
    · rw [if_pos (hsize.mpr hn), if_pos hn]
      exact ⟨rfl, rfl, rfl, rfl, rfl, fun h => absurd hk h⟩
    · rw [if_neg (mt hsize.mp hn), if_neg hn]
      exact ⟨rfl, rfl, rfl, rfl, rfl, fun h => absurd hk h⟩
  · rw [if_neg hk]
    by_cases hn : en = false ∧ 4 ≤ v % 16 ∧ v % 16 ≤ 12
    · rw [if_pos (hsize.mpr hn), if_pos hn]
      exact ⟨rfl, rfl, rfl, rfl, rfl, fun _ => ⟨fld_eq_div_mod _ _ _, fld_eq_div_mod _ _ _, fld_eq_div_mod _ _ _⟩⟩
    · rw [if_neg (mt hsize.mp hn), if_neg hn]
      exact ⟨rfl, rfl, rfl, rfl, rfl, fun _ => ⟨fld_eq_div_mod _ _ _, fld_eq_div_mod _ _ _, fld_eq_div_mod _ _ _⟩⟩

theorem bit31_of {v : Reg} (h : v.toNat / 2 ^ 31 = 1) : bit v.toNat 31 = true := by
  unfold bit
  rw [fld_eq_div_mod, h]
  rfl

theorem bit31_of_not {v : Reg} (h : v.toNat / 2 ^ 31 = 0) : bit v.toNat 31 = false := by
  unfold bit
  rw [fld_eq_div_mod, h]
  rfl

section
variable {p : PortId} {f : FnId} {k : RingKind} {v : Reg}

theorem ringEnable_runs (hs : s.live = true) (hup : (s.port p).up = true) (hv : v.toNat / 2 ^ 31 = 1) : exec (.ringEnable p f k v) s =
    let r := ((s.func p f).ring k).config k (s.ringEn p f k) v.toNat
    let t := s.setFunc p f ((s.func p f).setRing k r)
    .next (if s.ringEn p f k = true then t
      else if (s.func p f).rstp = true then { t with sys := { t.sys with pend := t.sys.pend ++ [.ring p f k] } }
      else s.setFunc p f ((s.func p f).setRing k r.enable)) := by
  have hx : exec (.ringEnable p f k v) s = execRingEnable p f k v s := rfl
  rw [hx, execRingEnable, act_live hs, hup, bit31_of hv, Bool.and_self, if_pos rfl]
  unfold State.ringWrite
  rw [bit31_of hv]
  rfl

theorem ringDisable_runs (hs : s.live = true) (hup : (s.port p).up = true) (hv : v.toNat / 2 ^ 31 = 0) : exec (.ringDisable p f k v) s =
    let r := ((s.func p f).ring k).config k (s.ringEn p f k) v.toNat
    let t := s.setFunc p f ((s.func p f).setRing k { r with en := false })
    let u : State := { t with sys := { t.sys with pend := t.sys.pend.filter (fun e => decide (e ≠ .ring p f k)) } }
    .next (if (decide (k = .sq) && (s.func p f).sq.en) = true then u.dropSignal p f else u) := by
  have hx : exec (.ringDisable p f k v) s = execRingDisable p f k v s := rfl
  rw [hx, execRingDisable, act_live hs, hup, bit31_of_not hv, Bool.not_false, Bool.and_self, if_pos rfl]
  unfold State.ringWrite
  rw [bit31_of_not hv]
  rfl

/-- A submission ring that is disabled loses the task signal at its head (R393). -/
theorem sqDisable_drops (hs : s.live = true) (hup : (s.port p).up = true) (hv : v.toNat / 2 ^ 31 = 0) (hen : (s.func p f).sq.en = true) :
    ∃ t, exec (.ringDisable p f .sq v) s = .next t ∧ (t.func p f).sq.en = false ∧
        (t.func p f).sigHeld = false ∧ (t.func p f).cq = (s.func p f).cq ∧ (t.func p f).nr = (s.func p f).nr ∧ (t.func p f).slots = (s.func p f).slots ∧
        .ring p f .sq ∉ t.sys.pend := by
  obtain ⟨x, hx⟩ : ∃ x, x = (s.func p f).setRing .sq { ((s.func p f).ring .sq).config .sq (s.ringEn p f .sq) v.toNat with en := false } := ⟨_, rfl⟩
  obtain ⟨u, hu⟩ : ∃ u : State, u = { s.setFunc p f x with sys := { s.sys with pend := s.sys.pend.filter (fun e => decide (e ≠ .ring p f .sq)) } } := ⟨_, rfl⟩
  have hrun : exec (.ringDisable p f .sq v) s = .next (u.dropSignal p f) := by
    rw [ringDisable_runs hs hup hv, hu, hx]
    exact congrArg Host.Outcome.next (if_pos (by rw [hen]; rfl))
  have hfunc : u.func p f = x := by
    rw [hu]
    exact func_setFunc (s := s) p f x
  obtain ⟨b, hb⟩ := dropSignal_eq u p f
  have hf : (u.dropSignal p f).func p f = { x with sigHeld := false, sigDone := false, sigBy := none } := by
    rw [hb, hfunc]
    exact func_setFunc (s := u) p f _
  have hpend : (u.dropSignal p f).sys.pend = s.sys.pend.filter (fun e => decide (e ≠ .ring p f .sq)) := by
    rw [hb, hu]
    rfl
  refine ⟨_, hrun, ?_⟩
  rw [hf, hpend, hx]
  exact ⟨rfl, rfl, rfl, rfl, rfl, fun h => of_decide_eq_true (List.mem_filter.mp h).2 rfl⟩

/-! ### Doorbells (R394, R396) -/

theorem sqTail_runs (hs : s.live = true) (hup : (s.port p).up = true) : exec (.mbxSqtail p f v) s =
    .next (if ((s.func p f).sq.en && decide (v.toNat % 4096 < (s.func p f).sq.size)) = true
      then s.setFunc p f { s.func p f with sq := { (s.func p f).sq with tail := v.toNat % 4096 } } else s.violate p 6 f 0) := by
  have hx : exec (.mbxSqtail p f v) s = execMbxSqtail p f v s := rfl
  rw [hx, execMbxSqtail, act_live hs, if_pos hup]
  rfl

theorem headBell_accepts {r : Ring} (hr : (s.func p f).ring k = r) (hen : r.en = true) {h : Nat} (h1 : r.head ≤ h % 4096) (h2 : h % 4096 ≤ r.tail)
    (h3 : r.tail < 2 ^ r.log2) : s.headBell p f k h = s.setFunc p f ((s.func p f).setRing k { r with head := h % 4096 }) := by
  have hmod : (h % 4096 + r.size - r.head) % r.size ≤ (r.tail + r.size - r.head) % r.size := by
    have hsub : ∀ x, r.head ≤ x → x < r.size → (x + r.size - r.head) % r.size = x - r.head := fun x hx hlt => by
      rw [show x + r.size - r.head = (x - r.head) + r.size by omega, Nat.add_mod_right, Nat.mod_eq_of_lt (by omega)]
    rw [hsub _ h1 (lt_of_le_of_lt h2 h3), hsub _ (h1.trans h2) h3]
    omega
  unfold State.headBell
  dsimp only
  rw [hr, if_pos]
  rw [hen, decide_eq_true (p := h % 4096 < r.size) (lt_of_le_of_lt h2 h3), decide_eq_true hmod]
  rfl

theorem headBell_refuses (h : ((s.func p f).ring k).en = false ∨ 2 ^ ((s.func p f).ring k).log2 ≤ v.toNat % 4096) :
    s.headBell p f k v.toNat = s.violate p 6 f 0 := by
  unfold State.headBell
  refine if_neg ?_
  rcases h with h | h
  · rw [h]
    exact Bool.false_ne_true
  · rw [decide_eq_false (p := v.toNat % 4096 < ((s.func p f).ring k).size) (Nat.not_lt.mpr h), Bool.and_false]
    exact Bool.false_ne_true

theorem headBell_runs (hs : s.live = true) (hup : (s.port p).up = true) :
    exec (.mbxCqhead p f v) s = .next (s.headBell p f .cq v.toNat) ∧ exec (.mbxNrhead p f v) s = .next (s.headBell p f .nr v.toNat) := by
  have hx : exec (.mbxCqhead p f v) s = execMbxCqhead p f v s := rfl
  have hy : exec (.mbxNrhead p f v) s = execMbxNrhead p f v s := rfl
  rw [hx, hy, execMbxCqhead, execMbxNrhead, act_live hs, act_live hs]
  exact ⟨congrArg Host.Outcome.next (if_pos hup), congrArg Host.Outcome.next (if_pos hup)⟩

/-! ### Coalescing and violations (R392, R398) -/

theorem coalescing_runs (hs : s.live = true) : exec (.coalescingTimeout p f k) s =
    .next (if (decide (k ≠ .sq) && decide (0 < ((s.func p f).ring k).unsig) &&
        decide (((s.func p f).ring k).unsigAt + 1000 * ((s.func p f).ring k).ctime ≤ s.now)) = true
      then (s.setFunc p f ((s.func p f).setRing k { (s.func p f).ring k with unsig := 0 })).signal p f ((s.func p f).ring k).vec else s) := by
  have hx : exec (.coalescingTimeout p f k) s = execCoalescingTimeout p f k s := rfl
  rw [hx, execCoalescingTimeout, act_live hs]

theorem setRing_msixWord (u : Func) (k : RingKind) (r : Ring) (i : Nat) : (u.setRing k r).msixWord i = u.msixWord i := by
  cases k <;> rfl

theorem setRing_mpend (u : Func) (k : RingKind) (r : Ring) : (u.setRing k r).mpend = u.mpend := by
  cases k <;> rfl

/-- The signal of a vector that a function has: at once, or pending while it is masked (R398). -/
theorem signal_of {f x : Nat} (hx : x < nVec f) (p : Nat) : s.signal p f x =
    if bit ((s.func p f).msixWord (4 * x + 3)).toNat 0 = true then s.setFunc p f { s.func p f with mpend := sput false (s.func p f).mpend x true }
    else s.emit (.msix p f x) := if_neg (Nat.not_le.mpr hx)

/-- The end of the wait of a ring whose vector the function has. -/
theorem coalescing_signals (hs : s.live = true) (hk : k ≠ .sq) (hu : 0 < ((s.func p f).ring k).unsig)
    (ht : ((s.func p f).ring k).unsigAt + 1000 * ((s.func p f).ring k).ctime ≤ s.now) (hv : ((s.func p f).ring k).vec < nVec f) :
    let u := (s.func p f).setRing k { (s.func p f).ring k with unsig := 0 }
    let x := ((s.func p f).ring k).vec
    exec (.coalescingTimeout p f k) s = .next (if bit ((s.func p f).msixWord (4 * x + 3)).toNat 0 = true
      then s.setFunc p f { u with mpend := sput false u.mpend x true } else (s.setFunc p f u).emit (.msix p f x)) := by
  intro u x
  rw [coalescing_runs hs, if_pos (by rw [decide_eq_true hk, decide_eq_true hu, decide_eq_true ht]; rfl), signal_of hv, func_setFunc, setRing_msixWord,
    setFunc_setFunc]

theorem bar0Violation_runs (hs : s.live = true) (hup : (s.port p).up = true) (off size : Nat) (write : Bool) : exec (.bar0Violation p f off size write) s =
    .next (if (s.bar0Legal p f off size || (write && inPushWin off)) = true then s
      else if write = true then s.violate p 7 f 0 else (s.violate p 7 f 0).emit .bar0UR) := by
  have hx : exec (.bar0Violation p f off size write) s = execBar0Violation p f off size write s := rfl
  rw [hx, execBar0Violation, act_live hs, hup]
  rfl

end

end

/-- Settles O46. -/
theorem hostLinksAndRings : Obligations.HostLinksAndRings := by
  unfold Obligations.HostLinksAndRings
  refine ⟨?_, ?_⟩
  · intro s p f rate q end_ v w raw slot runs reset down
    have hreset : ∀ t : State, ∀ f, t.func p f = (s.func p f).reset (s.runningOf p f) → reset t f := fun t f ht => by
      dsimp only [reset]
      rw [ht]
      exact reset_spec _ _ _
    refine ⟨fun hoff => perst_off hoff p, fun hs => ⟨fun he hp => ?_, fun he hp => ?_, fun he hp ht hb => ?_, fun hno => ?_, fun hup => ⟨?_, ?_, ?_⟩,
      fun hdown => ⟨?_, ?_, ?_⟩, fun hw => ?_, fun hw => ?_, fun ht => ⟨fun hn => ?_, fun hn hsum => ?_, fun hn hsum => ?_⟩⟩⟩
    · rw [perstAssert_runs hs, if_neg (by rw [he]; exact fun h => Bool.false_ne_true (hp.symm.trans h))]
      obtain ⟨⟨h1, h2, h3, h4, h5, h6, h7⟩, x, hx⟩ := linkDown_down s p (g := fun x => { x with perst := true, training := false }) (fun _ => rfl) (fun _ => rfl)
      refine ⟨_, rfl, ⟨h1, fun f hf => hreset _ f (h2 f hf), h3, h4, h5, fun k _ hk => h6 k hk, h7⟩, ?_, ?_⟩
      · exact congrArg Port.perst hx
      · exact congrArg Port.training hx
    · rw [perstDeassert_runs hs, if_pos (by rw [he]; exact hp)]
    · rw [linkUp_runs hs, if_pos]
      rw [he, show (s.port p).perst = false from hp, show (s.port p).training = true from ht, decide_eq_true hb]
      rfl
    · rw [linkUp_runs hs, if_neg]
      rcases hno with h | h | h
      · rw [h]
        exact Bool.false_ne_true
      · rw [show (s.port p).perst = true from h, Bool.not_true, Bool.and_false]
        exact Bool.false_ne_true
      · rw [decide_eq_false (Nat.not_le.mpr h), Bool.and_false]
        exact Bool.false_ne_true
    · rw [linkDown_runs hs, if_pos hup]
      obtain ⟨⟨h1, h2, h3, h4, h5, h6, h7⟩, x, hx⟩ := linkDown_down s p (g := fun x => { x with training := true }) (fun _ => rfl) (fun _ => rfl)
      exact ⟨_, rfl, ⟨h1, fun f hf => hreset _ f (h2 f hf), h3, h4, h5, fun k _ hk => h6 k hk, h7⟩, congrArg Port.training hx, congrArg Port.slow hx⟩
    · rw [functionReset_runs hs, if_pos hup]
      refine ⟨_, rfl, hreset _ f (funcReset_func s p f), fun k hk => funcReset_other s hk, ?_⟩
      exact (up_of_resetsOnly (funcReset_resetsOnly s p f)).trans hup
    · rw [hotReset_runs hs, if_pos hup]
      have hres := portReset_resetsOnly s p
      exact ⟨_, rfl, fun k hk => hreset _ k (portReset_func s p hk), (up_of_resetsOnly hres).trans hup, hres.1⟩
    · rw [linkDown_runs hs, if_neg (fun h => Bool.false_ne_true (hdown.symm.trans h))]
    · rw [functionReset_runs hs, if_neg (fun h => Bool.false_ne_true (hdown.symm.trans h))]
    · rw [hotReset_runs hs, if_neg (fun h => Bool.false_ne_true (hdown.symm.trans h))]
    · rw [windowEnd_runs hs]
      exact congrArg (fun x => Host.Outcome.next (s.setVstate q x)) (if_neg (Nat.not_le.mpr hw))
    · rw [windowEnd_runs hs]
      exact congrArg (fun x => Host.Outcome.next (s.setVstate q x)) (if_pos hw)
    · rw [throttleEnd_runs hs ht, if_pos hn]
    · rw [throttleEnd_runs hs ht, if_neg (Nat.not_lt.mpr hn), if_pos hsum]
    · rw [throttleEnd_runs hs ht, if_neg (Nat.not_lt.mpr hn), if_neg (Nat.not_le.mpr hsum)]
  · intro s p f k v off size write hs hup u r n w en pends ring violates quiet head
    have hEn : s.ringEn p f k = en := ringEn_eq s p f k
    have hcfg := config_spec r k (s.ringEn p f k) v.toNat
    rw [hEn] at hcfg
    obtain ⟨hcen, hcbase, hchead, hctail, hclog, hcvec⟩ := hcfg
    have hquiet : ∀ kind : Nat, quiet → s.violate p kind f 0 = violates (BitVec.ofNat 8 kind) := fun kind hq => violate_quiet (p := p) hq kind f 0
    refine ⟨fun hv => ⟨fun hen hr => ?_, fun hre => ?_, fun hre hen => ?_, fun hen hr => ?_⟩, fun hv hk => ?_, fun hv hen => ?_, fun hen hh => ?_, fun hno hq => ?_,
      fun hen h1 h2 h3 => ?_, fun hno hq => ?_, fun hen h1 h2 h3 => ?_, fun hno hq => ?_, fun hk hu ht hv => ⟨fun hm => ?_, fun hm => ?_⟩, fun hno => ?_,
      fun hl => ?_, fun hl hq => ⟨?_, fun ho => ?_⟩⟩
    · rw [ringEnable_runs hs hup hv, hEn]
      refine ⟨_, congrArg Host.Outcome.next ((if_neg (fun h => Bool.false_ne_true (hen.symm.trans h))).trans (if_neg (fun h => Bool.false_ne_true (hr.symm.trans h)))), ?_, rfl, rfl, rfl⟩
      exact ⟨rfl, hcbase, hclog, hcvec⟩
    · have hen : en = true := Bool.or_eq_true_iff.mpr (.inl hre)
      rw [ringEnable_runs hs hup hv, hEn]
      exact ⟨_, congrArg Host.Outcome.next (if_pos hen), ⟨hcen.trans hre, hcbase, hclog, hcvec⟩, hchead, hctail⟩
    · rw [ringEnable_runs hs hup hv, hEn]
      exact ⟨_, congrArg Host.Outcome.next (if_pos hen), hcen.trans hre, hcbase, hclog, hcvec⟩
    · have hre : r.en = false := (Bool.or_eq_false_iff.mp hen).1
      rw [ringEnable_runs hs hup hv, hEn]
      exact ⟨_, congrArg Host.Outcome.next ((if_neg (fun h => Bool.false_ne_true (hen.symm.trans h))).trans (if_pos hr)), hcen.trans hre, hcbase, hclog, hcvec⟩
    · rw [ringDisable_runs hs hup hv, hEn]
      refine ⟨_, congrArg Host.Outcome.next (if_neg ?_), ⟨rfl, hcbase, hclog, hcvec⟩, hchead, hctail⟩
      rcases hk with hk | hk
      · rw [decide_eq_false hk]
        exact Bool.false_ne_true
      · rw [Bool.and_eq_true, decide_eq_true_eq]
        rintro ⟨hsq, hon⟩
        have hr : r = u.sq := congrArg u.ring hsq
        exact Bool.false_ne_true ((hr ▸ hk).symm.trans hon)
    · exact sqDisable_drops hs hup hv hen
    · rw [sqTail_runs hs hup, if_pos]
      rw [show (s.func p f).sq.en = true from hen, decide_eq_true (p := v.toNat % 4096 < (s.func p f).sq.size) hh]
      rfl
    · rw [sqTail_runs hs hup, if_neg]
      · exact congrArg Host.Outcome.next (hquiet 6 hq)
      · rcases hno with h | h
        · rw [show (s.func p f).sq.en = false from h]
          exact Bool.false_ne_true
        · rw [decide_eq_false (p := v.toNat % 4096 < (s.func p f).sq.size) (Nat.not_lt.mpr h), Bool.and_false]
          exact Bool.false_ne_true
    · rw [(headBell_runs hs hup).1, headBell_accepts (k := .cq) rfl hen h1 h2 h3]
      rfl
    · rw [(headBell_runs hs hup).1, headBell_refuses (k := .cq) hno, hquiet 6 hq]
      rfl
    · rw [(headBell_runs hs hup).2, headBell_accepts (k := .nr) rfl hen h1 h2 h3]
      rfl
    · rw [(headBell_runs hs hup).2, headBell_refuses (k := .nr) hno, hquiet 6 hq]
      rfl
    · rw [coalescing_signals hs hk hu ht hv, if_neg (fun h => Bool.false_ne_true (hm.symm.trans h))]
    · rw [coalescing_signals hs hk hu ht hv, if_pos hm]
      exact ⟨_, rfl, sget_sput_same false _ _ true⟩
    · rw [coalescing_runs hs, if_neg]
      rcases hno with h | h
      · rw [decide_eq_false (p := 0 < ((s.func p f).ring k).unsig) (by rw [h]; exact Nat.lt_irrefl 0), Bool.and_false]
        exact Bool.false_ne_true
      · rw [decide_eq_false (p := ((s.func p f).ring k).unsigAt + 1000 * ((s.func p f).ring k).ctime ≤ s.now) (Nat.not_le.mpr h), Bool.and_false]
        exact Bool.false_ne_true
    · rw [bar0Violation_runs hs hup, if_pos (by rw [hl]; rfl)]
    · rw [bar0Violation_runs hs hup, hl, if_neg (by rw [Bool.false_and]; exact Bool.false_ne_true), if_neg Bool.false_ne_true, hquiet 7 hq]
      rfl
    · have hwin : inPushWin off = false := by
        unfold inPushWin
        rw [← Bool.decide_and, decide_eq_false ho]
      rw [bar0Violation_runs hs hup, hl, hwin, if_neg (by decide), if_pos rfl, hquiet 7 hq]
      rfl

end Sys2Proof.Machine

/-! O47: consumption of descriptors, completions, notices, push window and BAR2. -/

namespace Sys2Proof.Machine

section
variable {s : State} {p f : Nat}

/-! ### A submission that every check accepts (R395, R417) -/

/-- What a submission's authority reads: the life cycle and the tenants, the device's state, and a host port's link. -/
theorem authority_congr {s t : State} (p op : Nat) (c : CmdInfo) (hsec : t.sec = s.sec) (hsys : t.sys = s.sys)
    (hslow : p < 4 → (t.port p).slow = (s.port p).slow) : t.authority p op c = s.authority p op c := by
  have hred : t.reduced p = s.reduced p := by
    unfold State.reduced
    rw [hsys]
    by_cases hp : p < 4
    · rw [hslow hp]
    · rw [decide_eq_false hp, Bool.false_and, Bool.false_and]
  unfold State.authority State.tenant
  rw [hred, hsec]

theorem setFunc_slow (s : State) (p f : Nat) (u : Func) : ((s.setFunc p f u).port p).slow = (s.port p).slow := by
  unfold State.setFunc
  rw [port_setPort]
  rfl

theorem setHslot_slow (s : State) (p f n : Nat) (v : HSlot) : ((s.setHslot p f n v).port p).slow = (s.port p).slow := by
  unfold State.setHslot
  split
  · rfl
  · exact setFunc_slow s p f _

theorem setHslot_sec (s : State) (p f n : Nat) (v : HSlot) : (s.setHslot p f n v).sec = s.sec := by
  unfold State.setHslot
  split <;> rfl

theorem setHslot_sys (s : State) (p f n : Nat) (v : HSlot) : (s.setHslot p f n v).sys = s.sys := by
  unfold State.setHslot
  split <;> rfl

/-- The state in which a submission has taken its slot and runs. -/
def State.admits (s : State) (p f : Nat) (b : List Byte) : State :=
  let n := tagSlot (le b 2 2)
  (s.setHslot p f n { s.hslot p f n with busy := true, marked := false }).setRunning
    (s.host.running ++ [{ iss := mkIssuer p f (BitVec.ofNat 16 (le b 2 2)), op := BitVec.ofNat 16 (le b 0 2), bytes := b, seq := none }])

theorem accept_admits {b : List Byte} {c : CmdInfo} (hbusy : (s.hslot p f (tagSlot (le b 2 2))).busy = false)
    (hgen : (s.hslot p f (tagSlot (le b 2 2))).gen = tagGen (le b 2 2)) (hc : cmdInfo (le b 0 2) = some c)
    (hbound : (c.session && decide (p < 4)) = false) (ha : s.authority p (le b 0 2) c = none) :
    s.accept p f b false = s.admits p f b := by
  have hauth : ∀ v, (s.setHslot p f (tagSlot (le b 2 2)) v).authority p (le b 0 2) c = none := fun v =>
    (authority_congr p (le b 0 2) c (setHslot_sec s p f _ v) (setHslot_sys s p f _ v) (fun _ => setHslot_slow s p f _ v)).trans ha
  unfold State.accept State.admits
  simp only [hbusy, Bool.false_eq_true, if_false, hgen, ne_eq, not_true_eq_false, hc, hauth, hbound, Bool.not_false, if_true, setHslot_running]

theorem admits_slot (b : List Byte) : (s.admits p f b).hslot p f (tagSlot (le b 2 2)) =
    { s.hslot p f (tagSlot (le b 2 2)) with busy := true, marked := false } := hslot_setHslot s p f _ _

/-- A slot of a host function changes of the function only the slots, and of its port nothing else. -/
theorem setHslot_func (s : State) (hp : p ≠ 4) (n : Nat) (v : HSlot) : ∃ l, (s.setHslot p f n v).func p f = { s.func p f with slots := l } :=
  ⟨_, (congrArg (fun t : State => t.func p f) (if_neg hp)).trans (func_setFunc ..)⟩

theorem setHslot_port (s : State) (hp : p ≠ 4) (n : Nat) (v : HSlot) : ∃ l, (s.setHslot p f n v).port p = { s.port p with funcs := l } :=
  ⟨_, (congrArg (fun t : State => t.port p) (if_neg hp)).trans (port_setPort ..)⟩

theorem admits_out (b : List Byte) : (s.admits p f b).out = s.out := setHslot_out s p f _ _

/-! ### Consumption (R395) -/

section
variable {p : PortId} {f : FnId} {b : List Byte}

theorem hostConsume_runs (hs : s.live = true) (hm : s.mayConsume p = true) (hup : (s.port p).up = true) (hn : s.nextRing p = some f.val) :
    exec (.descriptorConsume p.castSucc (some b)) s = .next (s.consumeHost p f (some b)) := by
  have hx : exec (.descriptorConsume p.castSucc (some b)) s = execDescriptorConsume p.castSucc (some b) s := rfl
  have hp : ¬ p.castSucc.val = 4 := Nat.ne_of_lt p.isLt
  rw [hx, execDescriptorConsume, act_live hs]
  have hm' : s.mayConsume p.castSucc.val = true := hm
  have hup' : (s.port p.castSucc.val).up = true := hup
  have hn' : s.nextRing p.castSucc.val = some f.val := hn
  simp only [hm', hup', hn', if_neg hp, Bool.not_true, Bool.false_eq_true, if_false]
  rfl

theorem consume_waits (hs : s.live = true) (hm : s.mayConsume p = false) : exec (.descriptorConsume p.castSucc (some b)) s = .next s := by
  have hx : exec (.descriptorConsume p.castSucc (some b)) s = execDescriptorConsume p.castSucc (some b) s := rfl
  have hm' : s.mayConsume p.castSucc.val = false := hm
  rw [hx, execDescriptorConsume, act_live hs]
  simp only [hm', Bool.not_false, if_true]

/-- A fetch from a ring: the port notes the ring and the time. -/
def State.fetch (s : State) (p f : Nat) (ptr : Nat) : State :=
  (s.emit (.hostRead p ((s.func p f).sq.base.toNat + 64 * (s.func p f).sq.head) 64)).setPort p { s.port p with ptr := ptr, lastTake := some s.now }

theorem fetch_func (s : State) (p f ptr : Nat) : (s.fetch p f ptr).func p f = s.func p f :=
  (congrArg (fun v : Port => v.func f) (port_setPort (s.emit (.hostRead p ((s.func p f).sq.base.toNat + 64 * (s.func p f).sq.head) 64)) p
    { s.port p with ptr := ptr, lastTake := some s.now }) :)

theorem fetch_port (s : State) (p f ptr : Nat) : (s.fetch p f ptr).port p = { s.port p with ptr := ptr, lastTake := some s.now } :=
  port_setPort ..

/-- A fetched submission leaves its ring, whose head moves. -/
def State.fetches (s : State) (p f : Nat) : State :=
  (s.fetch p f ((f + 1) % 65)).setFunc p f { s.func p f with sq := { (s.func p f).sq with head := ((s.func p f).sq.head + 1) % (s.func p f).sq.size } }

theorem consumeHost_accepts (hb : b.length = 64) (hd : (s.func p f).sigDone = false) (hg : s.signalGoes p f b = false) :
    s.consumeHost p f (some b) = (s.fetches p f).accept p f b false := by
  unfold State.consumeHost
  simp only [hb, hd, hg, ne_eq, not_true_eq_false, decide_false, Bool.false_and, Bool.or_false, Bool.false_eq_true, if_false]
  change ((s.fetch p f ((f + 1) % 65)).setFunc p f { (s.fetch p f ((f + 1) % 65)).func p f with
    sq := { (s.func p f).sq with head := ((s.func p f).sq.head + 1) % (s.func p f).sq.size } }).accept p f b false = _
  rw [fetch_func]
  rfl

theorem fetches_func (s : State) (p f : Nat) : (s.fetches p f).func p f =
    { s.func p f with sq := { (s.func p f).sq with head := ((s.func p f).sq.head + 1) % (s.func p f).sq.size } } := func_setFunc ..

theorem fetches_slot (s : State) (p : PortId) (f n : Nat) : (s.fetches p f).hslot p f n = s.hslot p f n := by
  have hp : ¬ p.val = 4 := Nat.ne_of_lt p.isLt
  unfold State.hslot
  rw [if_neg hp, if_neg hp, fetches_func]

theorem fetches_port (s : State) (p f : Nat) : ∃ l, (s.fetches p f).port p = { s.port p with ptr := (f + 1) % 65, lastTake := some s.now, funcs := l } := by
  unfold State.fetches State.setFunc
  rw [port_setPort, fetch_port]
  exact ⟨_, rfl⟩

/-- A submission of a ring that no check refuses runs, and its slot is busy (R395). -/
theorem hostSubmission_runs {c : CmdInfo} (hs : s.live = true) (hm : s.mayConsume p = true) (hup : (s.port p).up = true) (hn : s.nextRing p = some f.val)
    (hb : b.length = 64) (hd : (s.func p f).sigDone = false) (hg : s.signalGoes p f b = false)
    (hbusy : (s.hslot p f (tagSlot (le b 2 2))).busy = false) (hgen : (s.hslot p f (tagSlot (le b 2 2))).gen = tagGen (le b 2 2))
    (hc : cmdInfo (le b 0 2) = some c) (hses : c.session = false) (ha : s.authority p (le b 0 2) c = none) :
    exec (.descriptorConsume p.castSucc (some b)) s = .next ((s.fetches p f).admits p f b) := by
  have hslow : ((s.fetches p f).port p).slow = (s.port p).slow := by
    obtain ⟨l, hl⟩ := fetches_port s p f
    rw [hl]
  rw [hostConsume_runs hs hm hup hn, consumeHost_accepts hb hd hg, accept_admits (c := c)]
  · rw [fetches_slot, hbusy]
  · rw [fetches_slot, hgen]
  · exact hc
  · rw [hses, Bool.false_and]
  · exact (authority_congr (s := s) (t := s.fetches p f) p (le b 0 2) c rfl rfl (fun _ => hslow)).trans ha

/-- A task signal goes to Belay and stays at the head of its ring (R228). -/
theorem taskSignal_stays (hs : s.live = true) (hm : s.mayConsume p = true) (hup : (s.port p).up = true) (hn : s.nextRing p = some f.val)
    (hb : b.length = 64) (hd : (s.func p f).sigDone = false) (hg : s.signalGoes p f b = true) (hw : s.host.wide = none) :
    exec (.descriptorConsume p.castSucc (some b)) s = .next ((s.fetch p f (s.port p).ptr).sendSignal p f (le b 8 2) none) := by
  rw [hostConsume_runs hs hm hup hn]
  unfold State.consumeHost
  simp only [hb, hd, hg, hw, ne_eq, not_true_eq_false, decide_false, Bool.false_and, Bool.or_false, Bool.false_eq_true, if_false, if_true, Option.isSome_none]
  rfl

/-- The owner's buffer gives its oldest submission (R415). -/
theorem ownerSubmission_runs {c : CmdInfo} {rest : List (List Byte)} (hs : s.live = true) (hm : s.mayConsume 4 = true) (hsub : s.host.owner.subs = b :: rest)
    (hbusy : (s.hslot 4 0 (tagSlot (le b 2 2))).busy = false) (hgen : (s.hslot 4 0 (tagSlot (le b 2 2))).gen = tagGen (le b 2 2))
    (hc : cmdInfo (le b 0 2) = some c) (ha : s.authority 4 (le b 0 2) c = none) :
    exec (.descriptorConsume 4 none) s = .next ((s.setOwner { s.host.owner with subs := rest, lastTake := some s.now }).admits 4 0 b) := by
  have hx : exec (.descriptorConsume 4 none) s = execDescriptorConsume 4 none s := rfl
  have hm' : s.mayConsume (4 : VPort).val = true := hm
  rw [hx, execDescriptorConsume, act_live hs]
  simp only [hm', Bool.not_true, Bool.false_eq_true, if_false]
  rw [if_pos (show (4 : VPort).val = 4 from rfl), hsub]
  have hslot : ∀ n, (s.setOwner { s.host.owner with subs := rest, lastTake := some s.now }).hslot 4 0 n = s.hslot 4 0 n := fun _ => rfl
  refine congrArg Host.Outcome.next (accept_admits (c := c) ?_ ?_ hc (Bool.and_false _) ?_)
  · rw [hslot, hbusy]
  · rw [hslot, hgen]
  · exact (authority_congr (s := s) 4 (le b 0 2) c rfl rfl (fun _ => rfl)).trans ha

/-! ### Completions (R396, R397) -/

/-- An entry that the coalescing count does not reach yet is only counted (R398). -/
theorem entryWritten_waits {p f : Nat} {k : RingKind} (h : ((s.func p f).ring k).unsig + 1 < ((s.func p f).ring k).ccnt) :
    s.entryWritten p f k = s.setFunc p f ((s.func p f).setRing k { (s.func p f).ring k with
      unsig := ((s.func p f).ring k).unsig + 1
      unsigAt := if ((s.func p f).ring k).unsig + 1 = 1 then s.now else ((s.func p f).ring k).unsigAt }) :=
  if_neg (Nat.not_le.mpr h)

theorem completionPost_runs (hs : s.live = true) (p : PortId) (f : FnId) : exec (.completionPost p f) s = .next (s.postCompletion p f) := by
  have hx : exec (.completionPost p f) s = execCompletionPost p f s := rfl
  rw [hx, execCompletionPost, act_live hs]

/-- With no abort behind it, a completion that goes frees its slot and nothing else (R397). -/
theorem freeSlot_alone {p f : Nat} {r : Ready} (hrej : r.rej = false) (ha : (s.hslot p f (tagSlot r.tag.toNat)).aborters = []) (d : Bool) :
    s.freeSlot p f r d = s.setHslot p f (tagSlot r.tag.toNat)
      { gen := if (s.hslot p f (tagSlot r.tag.toNat)).marked || d then ((s.hslot p f (tagSlot r.tag.toNat)).gen + 1) % 16
        else (s.hslot p f (tagSlot r.tag.toNat)).gen } := by
  rw [freeSlot_eq_readyAborts hrej]
  dsimp only
  rw [ha]
  rfl

theorem setFunc_slots_hslot (s : State) {p : PortId} {f : Nat} {v : Func} (hv : v.slots = (s.func p f).slots) (n : Nat) :
    (s.setFunc p f v).hslot p f n = s.hslot p f n := by
  have hp : ¬ p.val = 4 := Nat.ne_of_lt p.isLt
  unfold State.hslot
  rw [if_neg hp, if_neg hp, func_setFunc, hv]

/-- A completion's function after its entry has been written and counted. -/
def Func.postedOne (u : Func) (rs : List Ready) (now : Nat) : Func :=
  { u with ready := rs, cq := { u.cq.advance with unsig := u.cq.unsig + 1, unsigAt := if u.cq.unsig + 1 = 1 then now else u.cq.unsigAt } }

theorem completion_written {r : Ready} {rs : List Ready} (hr : (s.func p f).ready = r :: rs) (hrej : r.rej = false)
    (ha : (s.hslot p f (tagSlot r.tag.toNat)).aborters = []) (hen : (s.func p f).cq.en = true) (hroom : (s.func p f).cq.room = true)
    (hav : s.host.avail = true) (hcnt : (s.func p f).cq.unsig + 1 < (s.func p f).cq.ccnt) :
    s.postCompletion p f = ((s.emit (.hostWrite p ((s.func p f).cq.base.toNat + 32 * (s.func p f).cq.tail)
        (r.bytes ((s.key (12 + p)).getD []) (s.func p f).cq.phase (s.func p f).sq.head))).setFunc p f ((s.func p f).postedOne rs s.now)).setHslot p f
      (tagSlot r.tag.toNat) { gen := if (s.hslot p f (tagSlot r.tag.toNat)).marked then ((s.hslot p f (tagSlot r.tag.toNat)).gen + 1) % 16
        else (s.hslot p f (tagSlot r.tag.toNat)).gen } := by
  unfold State.postCompletion
  simp only [hr, hen, hroom, hav, Bool.not_true, Bool.or_false, Bool.false_eq_true, if_false]
  rw [entryWritten_waits (by rw [func_setFunc]; exact hcnt), func_setFunc, setFunc_setFunc]
  obtain ⟨e, he⟩ : ∃ e, s.emit (.hostWrite p ((s.func p f).cq.base.toNat + 32 * (s.func p f).cq.tail)
        (r.bytes ((s.key (12 + p)).getD []) (s.func p f).cq.phase (s.func p f).sq.head)) = e := ⟨_, rfl⟩
  have hfun : e.func p f = s.func p f := by
    rw [← he]
    rfl
  have hslot : ∀ n, (e.setFunc p f ((s.func p f).postedOne rs s.now)).hslot p f n = s.hslot p f n := fun n => by
    rw [setFunc_slots_hslot e (v := (s.func p f).postedOne rs s.now) (congrArg Func.slots hfun).symm, ← he]
    rfl
  have hfree := freeSlot_alone (s := e.setFunc p f ((s.func p f).postedOne rs s.now)) (p := p) (f := f) (r := r) hrej (by rw [hslot, ha]) false
  have hnow : s.now = e.now := by
    rw [← he]
    rfl
  rw [hslot, Bool.or_false, hnow] at hfree
  rw [he, hnow]
  exact hfree

theorem completion_discarded {r : Ready} {rs : List Ready} (hr : (s.func p f).ready = r :: rs) (hrej : r.rej = false)
    (ha : (s.hslot p f (tagSlot r.tag.toNat)).aborters = []) (hen : (s.func p f).cq.en = false) :
    s.postCompletion p f = (s.setFunc p f { s.func p f with ready := rs }).setHslot p f (tagSlot r.tag.toNat)
      { gen := ((s.hslot p f (tagSlot r.tag.toNat)).gen + 1) % 16 } := by
  have hslot := hslot_setFunc_ready s p f rs p f
  have hfree := freeSlot_alone (s := s.setFunc p f { s.func p f with ready := rs }) (p := p) (f := f) (r := r) hrej (by rw [hslot, ha]) true
  rw [hslot, Bool.or_true, if_pos rfl] at hfree
  unfold State.postCompletion
  simp only [hr, hen, Bool.not_false, if_true]
  exact hfree

theorem completion_waits {r : Ready} {rs : List Ready} (hr : (s.func p f).ready = r :: rs) (hen : (s.func p f).cq.en = true)
    (hroom : (s.func p f).cq.room = false) : s.postCompletion p f = s := by
  unfold State.postCompletion
  simp only [hr, hen, hroom, Bool.not_true, Bool.not_false, Bool.true_or, Bool.false_eq_true, if_false, if_true]

end

/-! ### Notices (R407, R408) -/

theorem lostEntry_none (h : (s.func p f).lost = 0 ∨ (s.func p f).nr.en = false ∨ (s.func p f).nr.room = false) : s.lostEntry p f = s := by
  refine if_neg fun hc => ?_
  rw [Bool.and_eq_true, Bool.and_eq_true, decide_eq_true_eq] at hc
  obtain ⟨⟨hen, hlost⟩, hroom⟩ := hc
  rcases h with h | h | h
  · omega
  · exact Bool.false_ne_true (h.symm.trans hen)
  · exact Bool.false_ne_true (h.symm.trans hroom)

/-- The bytes of a notice entry. -/
def State.noticeBytes (s : State) (p f kind status code id : Nat) : List Byte :=
  toLe 1 kind ++ toLe 1 (if (s.func p f).nr.phase then 1 else 0) ++ toLe 1 status ++ toLe 1 code ++ toLe 4 id ++ toLe 8 s.now

/-- A notice entry that the coalescing count does not reach yet (R398): the entry leaves, and of the function only its notice ring changes. -/
theorem writeNotice_writes (hcnt : (s.func p f).nr.unsig + 1 < (s.func p f).nr.ccnt) (kind status code id : Nat) : ∃ r : Ring,
    r.tail = ((s.func p f).nr.tail + 1) % 2 ^ (s.func p f).nr.log2 ∧ s.writeNotice p f kind status code id =
      (s.emit (.hostWrite p ((s.func p f).nr.base.toNat + 16 * (s.func p f).nr.tail) (s.noticeBytes p f kind status code id))).setFunc p f
        { s.func p f with nr := r } := by
  unfold State.writeNotice
  obtain ⟨e, he⟩ : ∃ e, s.emit (.hostWrite p ((s.func p f).nr.base.toNat + 16 * (s.func p f).nr.tail) (s.noticeBytes p f kind status code id)) = e := ⟨_, rfl⟩
  refine ⟨{ (s.func p f).nr.advance with unsig := (s.func p f).nr.unsig + 1
                                         unsigAt := if (s.func p f).nr.unsig + 1 = 1 then e.now else (s.func p f).nr.unsigAt }, rfl, ?_⟩
  rw [he]
  refine (entryWritten_waits ?_).trans ?_
  · rw [func_setFunc]
    exact hcnt
  · rw [func_setFunc, setFunc_setFunc, ← he]
    rfl

theorem lostNotice_runs (hs : s.live = true) (p : PortId) (f : FnId) : exec (.lostNoticeEntry p f) s = .next (s.lostEntry p f) := by
  have hx : exec (.lostNoticeEntry p f) s = execLostNoticeEntry p f s := rfl
  rw [hx, execLostNoticeEntry, act_live hs]

theorem lostEntry_writes (hen : (s.func p f).nr.en = true) (hlost : 0 < (s.func p f).lost) (hroom : (s.func p f).nr.room = true) :
    s.lostEntry p f = (s.writeNotice p f 7 0 0 (s.func p f).lost).setFunc p f { (s.writeNotice p f 7 0 0 (s.func p f).lost).func p f with lost := 0 } :=
  if_pos (by rw [hen, decide_eq_true hlost, hroom]; rfl)

/-- The only notice on its way reaches its ring, where it can leave its source. -/
theorem noticeArrival_runs (hs : s.live = true) {p : PortId} {n : HostNotice} (hn : s.noc.hostNotices = [(p.val, n)]) :
    exec (.hostNoticeArrival p) s = .next (if s.noticeGoes p n = true
      then ({ s with noc := { s.noc with hostNotices := [] } } : State).noticeArrives p n else s) := by
  have hx : exec (.hostNoticeArrival p) s = execHostNoticeArrival p s := rfl
  rw [hx, execHostNoticeArrival, act_live hs, hn]
  cases hg : s.noticeGoes p n with
  | true => simp [hg]
  | false => simp [hg]

theorem noticeGoes_of_room {p : Nat} {n : HostNotice} (hl : (s.func p n.ring).lost = 0)
    (h : (s.func p n.ring).nr.en = false ∨ (s.func p n.ring).nr.room = true) : s.noticeGoes p n = true := by
  unfold State.noticeGoes
  rw [lostEntry_none (.inl hl)]
  dsimp only
  rcases h with h | h
  · rw [h]
    rfl
  · rw [h, Bool.not_true, Bool.and_false]
    rfl

theorem noticeGoes_not {p : Nat} {n : HostNotice} (hl : (s.func p n.ring).lost = 0) (hen : (s.func p n.ring).nr.en = true)
    (hroom : (s.func p n.ring).nr.room = false) (hk : n.kind ≠ .task) : s.noticeGoes p n = false := by
  unfold State.noticeGoes
  rw [lostEntry_none (.inl hl)]
  dsimp only
  rw [hen, hroom, decide_eq_false hk]
  rfl

theorem noticeArrives_writes {p : Nat} {n : HostNotice} (hl : (s.func p n.ring).lost = 0) (ho : n.orig = none) (hen : (s.func p n.ring).nr.en = true)
    (hroom : (s.func p n.ring).nr.room = true) : s.noticeArrives p n = s.writeNotice p n.ring n.kind.code n.status.toNat n.code.toNat n.id := by
  unfold State.noticeArrives
  rw [lostEntry_none (.inl hl)]
  simp only [ho, hen, hroom, Bool.not_true, Bool.false_eq_true, if_false, if_true]

theorem noticeArrives_lost {p : Nat} {n : HostNotice} (hl : (s.func p n.ring).lost = 0) (ho : n.orig = none) (hen : (s.func p n.ring).nr.en = false) :
    s.noticeArrives p n = s.setFunc p n.ring { s.func p n.ring with nlost := min ((s.func p n.ring).nlost + 1) 0xFFFF } := by
  unfold State.noticeArrives
  rw [lostEntry_none (.inl hl)]
  simp only [ho, hen, Bool.not_false, if_true]
  rfl

end

section
variable {s : State} {p : PortId}

/-! ### Push window (R409) -/

/-- A write of one word into a bound slot of the push window becomes a posted push of one word. -/
theorem pushWindow_pushes (hs : s.live = true) (f : FnId) {off q : Nat} {b : List Byte} (hup : (s.port p).up = true) (hslow : (s.port p).slow = false)
    (h1 : 0x1000 ≤ off) (h2 : off + 16 ≤ 0x3000) (h3 : off % 16 = 0) (hmay : s.maySendReq (hostInit p) = true) (hb : b.length = 16)
    (hq : sget none (s.func p f).pwq ((off - 0x1000) / 0x100) = some q) :
    exec (.pushWindowWrite p f off b) s = .next (s.sendReq (.array (s.redir (q / 128)) 0) {
      op := .pushp, who := hostInit p, prio := s.lowerTo (hostInit p) (.array (s.redir (q / 128)) 0) 3 (s.qRegion q), addr := q, prod := prodHOST, words := [(bytesWord b, 0)] }) := by
  have hx : exec (.pushWindowWrite p f off b) s = execPushWindowWrite p f off b s := rfl
  have hwin : inPushWin off = true := by
    unfold inPushWin
    rw [decide_eq_true h1, decide_eq_true (by omega : off < 0x3000)]
    rfl
  have h4 : (off - 0x1000) % 16 = 0 := by omega
  have h5 : ¬ 0x100 < (off - 0x1000) % 0x100 + 16 := by omega
  rw [hx, execPushWindowWrite, act_live hs, hup, hwin, hmay]
  unfold State.pushWrite
  simp only [hslow, hq, hb, h4, h5, Bool.and_true, if_true, Bool.false_eq_true, if_false, ne_eq, not_true_eq_false, decide_false, Bool.or_false,
    Nat.mod_self, Nat.reduceEqDiff]
  rfl

/-! ### BAR2 (R389) -/

/-- The sizes that a BAR2 request may have: 4 or 8 bytes, or whole words up to 256. -/
def partSize (m : Nat) : Prop := m = 4 ∨ m = 8 ∨ (m % 16 = 0 ∧ 16 ≤ m ∧ m ≤ 256)

/-- The bytes of the first request of a range. -/
def firstPart (a n : Nat) : Nat := if a % 16 = 0 && decide (16 ≤ n) then min 256 (n / 16 * 16) else if a % 8 = 0 && decide (8 ≤ n) then 8 else 4

theorem firstPart_size (a n : Nat) : partSize (firstPart a n) := by
  unfold firstPart partSize
  split
  next h =>
    rw [Bool.and_eq_true, decide_eq_true_eq, decide_eq_true_eq] at h
    omega
  · split
    · exact .inr (.inl rfl)
    · exact .inl rfl

theorem firstPart_le {a n : Nat} (hn : 4 ≤ n) : firstPart a n ≤ n := by
  unfold firstPart
  split
  · omega
  · split
    next h =>
      rw [Bool.and_eq_true, decide_eq_true_eq, decide_eq_true_eq] at h
      exact h.2
    · exact hn

theorem bar2Parts_end (k a : Nat) {n : Nat} (h : n < 4) : bar2Parts (k + 1) a n = [] := if_pos h

theorem bar2Parts_more (k a : Nat) {n : Nat} (h : ¬ n < 4) :
    bar2Parts (k + 1) a n = (a, firstPart a n) :: bar2Parts k (a + firstPart a n) (n - firstPart a n) := if_neg h

/-- The requests of a range cover its bytes. -/
theorem bar2Parts_covers (k : Nat) : ∀ a n : Nat, n < k → n % 4 = 0 →
    ((bar2Parts k a n).map (·.2)).sum = n ∧ (∀ x ∈ bar2Parts k a n, partSize x.2) := by
  induction k with
  | zero => exact fun _ n h => absurd h (Nat.not_lt_zero n)
  | succ k ih =>
    intro a n hk hn
    by_cases h : n < 4
    · rw [bar2Parts_end k a h]
      refine ⟨?_, fun x hx => absurd hx List.not_mem_nil⟩
      rw [List.map_nil, List.sum_nil]
      omega
    · have hsize := firstPart_size a n
      have hle : firstPart a n ≤ n := firstPart_le (by omega)
      have h4 : firstPart a n % 4 = 0 := by
        unfold partSize at hsize
        omega
      have hpos : 0 < firstPart a n := by
        unfold partSize at hsize
        omega
      obtain ⟨hsum, hall⟩ := ih (a + firstPart a n) (n - firstPart a n) (by omega) (by omega)
      rw [bar2Parts_more k a h]
      refine ⟨?_, fun x hx => ?_⟩
      · rw [List.map_cons, List.sum_cons, hsum]
        omega
      · rcases List.mem_cons.mp hx with rfl | hx
        · exact hsize
        · exact hall x hx

theorem bar2Parts_head (k a n : Nat) : ∀ x ∈ (bar2Parts (k + 1) a n).head?, x.1 = a := by
  intro x hx
  by_cases h : n < 4
  · rw [bar2Parts_end k a h] at hx
    cases hx
  · rw [bar2Parts_more k a h, List.head?_cons, Option.mem_some_iff] at hx
    rw [← hx]

theorem bar2_runs (hs : s.live = true) (hup : (s.port p).up = true) (t : Tlp) : exec (.bar2Access p t) s = .next (s.bar2 p t) := by
  have hx : exec (.bar2Access p t) s = execBar2Access p t s := rfl
  rw [hx, execBar2Access, act_live hs, if_pos hup]

/-- The bytes that a TLP moves. -/
def tlpBytes (t : Tlp) : Nat := match t.write with | some d => d.length | none => t.readLen

/-- The requests of an accepted TLP leave, once all their tags are free. -/
theorem bar2_requests {t : Tlp} (hslow : (s.port p).slow = false) (hok : s.bar2Ok p t = true) (hmay : s.maySendReq (hostInit p) = true)
    (h4 : t.off % 4 = 0) (hn4 : tlpBytes t % 4 = 0)
    (hfree : ∀ k, k < (bar2Parts (tlpBytes t + 1) t.off (tlpBytes t)).length → t.tag + k < 256 ∧ ((s.init (hostInit p)).tagOf (t.tag + k)).st = .free) :
    s.bar2 p t = (bar2Parts (tlpBytes t + 1) t.off (tlpBytes t)).zipIdx.foldl (fun s x => s.request
      { who := Fin.ofNat 4096 (hostInit p), tag := t.tag + x.2, addr := x.1.1, len := Fin.ofNat 16 (if 16 ≤ x.1.2 then x.1.2 / 16 - 1 else 0), prio := 3
        size := if 16 ≤ x.1.2 then 0 else if x.1.2 = 8 then 2 else 1
        data := if t.write.isSome then bytesWords ((x.1.2 + 15) / 16) (match t.write with | some d => slice d (x.1.1 - t.off) x.1.2 | none => []) else [] }
      (if t.write.isSome then .wr else .rd)) s := by
  have htags : nTags (hostInit p) = 256 := by
    fin_cases p <;> rfl
  have hall : (List.range (bar2Parts (tlpBytes t + 1) t.off (tlpBytes t)).length).all (fun k =>
      decide (t.tag + k < nTags (hostInit p)) && decide (((s.init (hostInit p)).tagOf (t.tag + k)).st = .free)) = true := by
    rw [List.all_eq_true]
    intro k hk
    obtain ⟨h1, h2⟩ := hfree k (List.mem_range.mp hk)
    rw [htags, decide_eq_true h1, decide_eq_true h2]
    rfl
  unfold State.bar2
  rw [if_neg (fun h => Bool.false_ne_true (hslow.symm.trans h)), if_neg (by rw [hok]; exact Bool.false_ne_true)]
  refine if_neg ?_
  change ¬ (decide (t.off % 4 ≠ 0) || decide (tlpBytes t % 4 ≠ 0) || !((List.range (bar2Parts (tlpBytes t + 1) t.off (tlpBytes t)).length).all _) || !_) = true
  rw [hall, hmay, h4, hn4]
  exact Bool.false_ne_true

theorem bar2_slow (hslow : (s.port p).slow = true) (t : Tlp) : s.bar2 p t = if t.write.isSome = true then s else s.emit .bar2UR := if_pos hslow

theorem bar2_refused {t : Tlp} (hslow : (s.port p).slow = false) (hno : s.bar2Ok p t = false) :
    s.bar2 p t = if t.write.isSome = true then (s.violate p 9 0 0).aerUr p else ((s.violate p 9 0 0).aerUr p).emit .bar2UR :=
  (if_neg (fun h => Bool.false_ne_true (hslow.symm.trans h))).trans (if_pos (by rw [hno]; rfl))

/-- A TLP outside a selective IDE stream, or of a port that no region is bound to, is not accepted (R376, R389). -/
theorem bar2Ok_not {t : Tlp} (h : (s.port p).bound = none ∨ t.ide = none ∨ t.ide = some 0) : s.bar2Ok p t = false := by
  unfold State.bar2Ok
  rcases h with h | h | h
  · simp [h]
  · simp [h]
  · simp [h]

theorem bar2Answer_host (write : Bool) (status : Nat) (b : List Byte) : s.bar2Answer (hostInit p) write status b =
    if status = 0 then (if write = true then s else s.emit (.bar2Data p b))
    else if write = true then s.setPort p { s.port p with berr := min ((s.port p).berr + 1) 0xFFFF } else s.emit .bar2CA := by
  fin_cases p <;> rfl

end

/-- Settles O47. -/
theorem hostTraffic : Obligations.HostTraffic := by
  unfold Obligations.HostTraffic
  intro s p f b c rest r rs n t0 q off hs u tag i runs w
  have hp : (p : Nat) ≠ 4 := Nat.ne_of_lt p.isLt
  refine ⟨fun hm hup hn hb hd hg hbusy hgen hc hses ha => ?_, fun hm hup hn hb hd hg hw => ?_, fun hm hsub hbusy hgen hc ha => ?_, consume_waits hs,
    fun hr hrej hab => ⟨fun hen hroom hav hcnt => ?_, fun hen => ?_, fun hen hroom => ?_⟩,
    fun hnot hring ho hl => ⟨fun hen hroom hcnt => ?_, fun hen => ?_, fun hen hroom hk => ?_⟩,
    fun hen hl hroom hcnt => ?_, fun h => ?_, fun hup hslow h1 h2 h3 hmay hb hq => pushWindow_pushes hs f hup hslow h1 h2 h3 hmay hb hq,
    fun hup hslow hok hmay => ?_,
    ⟨bar2Answer_host false 0 b, bar2Answer_host true 0 b, fun hne => ⟨(bar2Answer_host false off b).trans (if_neg hne), (bar2Answer_host true off b).trans (if_neg hne)⟩⟩,
    fun hup hslow => (bar2_runs hs hup _).trans (congrArg Host.Outcome.next (bar2_slow hslow _)),
    fun hup hslow => (bar2_runs hs hup _).trans (congrArg Host.Outcome.next (bar2_slow hslow _)), fun hup hslow hno hq => ?_⟩
  · refine ⟨_, hostSubmission_runs hs hm hup hn hb hd hg hbusy hgen hc hses ha, ⟨?_, ?_⟩, ?_, ?_, ?_, admits_out b⟩
    · exact (admits_slot b).trans (by rw [fetches_slot]; rfl)
    · rfl
    · obtain ⟨l, hl⟩ := setHslot_func (s := s.fetches p f) (f := f) hp (tagSlot (le b 2 2)) { (s.fetches p f).hslot p f (tagSlot (le b 2 2)) with busy := true, marked := false }
      rw [show ((s.fetches p f).admits p f b).func p f = _ from hl, fetches_func]
      rfl
    · obtain ⟨l, hl⟩ := setHslot_port (s := s.fetches p f) (f := f) hp (tagSlot (le b 2 2)) { (s.fetches p f).hslot p f (tagSlot (le b 2 2)) with busy := true, marked := false }
      obtain ⟨k, hk⟩ := fetches_port s p f
      rw [show ((s.fetches p f).admits p f b).port p = _ from hl, hk]
    · obtain ⟨l, hl⟩ := setHslot_port (s := s.fetches p f) (f := f) hp (tagSlot (le b 2 2)) { (s.fetches p f).hslot p f (tagSlot (le b 2 2)) with busy := true, marked := false }
      obtain ⟨k, hk⟩ := fetches_port s p f
      rw [show ((s.fetches p f).admits p f b).port p = _ from hl, hk]
  · refine ⟨_, taskSignal_stays hs hm hup hn hb hd hg hw, ?_, rfl, rfl⟩
    unfold State.sendSignal
    rw [func_setFunc, fetch_func]
  · exact ⟨_, ownerSubmission_runs hs hm hsub hbusy hgen hc ha, ⟨admits_slot b, rfl⟩, rfl, rfl⟩
  · rw [completionPost_runs hs, completion_written hr hrej hab hen hroom hav hcnt]
    refine ⟨_, rfl, setHslot_out .., ?_⟩
    obtain ⟨e, he⟩ : ∃ e, s.emit (.hostWrite p ((s.func p f).cq.base.toNat + 32 * (s.func p f).cq.tail)
        (r.bytes ((s.key (12 + p)).getD []) (s.func p f).cq.phase (s.func p f).sq.head)) = e := ⟨_, rfl⟩
    obtain ⟨l, hl⟩ := setHslot_func (s := e.setFunc p f ((s.func p f).postedOne rs s.now)) (f := f) hp (tagSlot r.tag.toNat)
      { gen := if (s.hslot p f (tagSlot r.tag.toNat)).marked then ((s.hslot p f (tagSlot r.tag.toNat)).gen + 1) % 16 else (s.hslot p f (tagSlot r.tag.toNat)).gen }
    rw [he, hl, func_setFunc]
    exact ⟨rfl, rfl, rfl, rfl, hslot_setHslot ..⟩
  · rw [completionPost_runs hs, completion_discarded hr hrej hab hen]
    refine ⟨_, rfl, setHslot_out .., ?_, hslot_setHslot ..⟩
    rw [setHslot_ready, func_setFunc]
  · rw [completionPost_runs hs, completion_waits hr hen hroom]
  · obtain ⟨x, hx⟩ : ∃ x : State, ({ s with noc := { s.noc with hostNotices := [] } } : State) = x := ⟨_, rfl⟩
    have hxf : x.func p n.ring = u := by
      rw [← hx, hring]
      rfl
    obtain ⟨y, hy, hw⟩ := writeNotice_writes (s := x) (p := p) (f := n.ring) (by rw [hxf]; exact hcnt) n.kind.code n.status.toNat n.code.toNat n.id
    rw [noticeArrival_runs hs hnot, if_pos (noticeGoes_of_room (by rw [hring]; exact hl) (.inr (by rw [hring]; exact hroom))), hx,
      noticeArrives_writes (by rw [hxf]; exact hl) ho (by rw [hxf]; exact hen) (by rw [hxf]; exact hroom), hw]
    unfold State.noticeBytes
    rw [hxf, ← hx, hring]
    rw [hxf] at hy
    refine ⟨_, rfl, rfl, rfl, ?_⟩
    rw [func_setFunc]
    exact hy
  · obtain ⟨x, hx⟩ : ∃ x : State, ({ s with noc := { s.noc with hostNotices := [] } } : State) = x := ⟨_, rfl⟩
    have hxf : x.func p n.ring = u := by
      rw [← hx, hring]
      rfl
    rw [noticeArrival_runs hs hnot, if_pos (noticeGoes_of_room (by rw [hring]; exact hl) (.inl (by rw [hring]; exact hen))), hx,
      noticeArrives_lost (by rw [hxf]; exact hl) ho (by rw [hxf]; exact hen), hxf, ← hx, hring]
    refine ⟨_, rfl, rfl, ?_, rfl⟩
    rw [func_setFunc]
  · rw [noticeArrival_runs hs hnot, if_neg]
    rw [noticeGoes_not (by rw [hring]; exact hl) (by rw [hring]; exact hen) (by rw [hring]; exact hroom) hk]
    exact Bool.false_ne_true
  · obtain ⟨y, _, hw⟩ := writeNotice_writes (s := s) (p := p) (f := f) hcnt 7 0 0 (s.func p f).lost
    rw [lostNotice_runs hs, lostEntry_writes hen hl hroom, hw]
    refine ⟨_, rfl, ?_, rfl⟩
    rw [func_setFunc]
  · rw [lostNotice_runs hs, lostEntry_none h]
  · intro len parts req h4 hn4
    obtain ⟨hsum, hsize⟩ := bar2Parts_covers (len + 1) t0.off len (Nat.lt_succ_self _) hn4
    refine ⟨hsum, hsize, bar2Parts_head _ _ _, fun hfree => ?_⟩
    rw [bar2_runs hs hup, bar2_requests hslow hok hmay h4 hn4 hfree]
    dsimp only [req, parts, len, tlpBytes]
    cases t0.write <;> rfl
  · have hv : s.violate p 9 0 0 = s.setVstate p (w.more 9 0 0 s.now) := violate_quiet (p := p) hq 9 0 0
    intro x
    rw [bar2_runs hs hup, bar2_runs hs hup, bar2_refused (t := { t0 with write := none }) hslow (bar2Ok_not hno),
      bar2_refused (t := { t0 with write := some b }) hslow (bar2Ok_not hno), hv]
    exact ⟨rfl, rfl⟩

end Sys2Proof.Machine

/-! O29: what a region is given, and what leaves with it. -/

namespace Sys2Proof.Machine

section
variable {s : State}

/-! ### The life cycle while loads fail (R352, R380) -/

theorem sec_of_upToHost {s t : State} (h : t.upToHost s = s) : t.sec = s.sec := (congrArg State.sec h :)

theorem complete_sec (s : State) (i : Issuer) (st r : Nat) : (s.complete i st r).sec = s.sec := (congrArg State.sec (complete_upToHost s s i st r) :)

theorem noteIdle_sec (s old : State) : (s.noteIdle old).sec = s.sec := (congrArg State.sec (noteIdle_frame s old) :)

theorem loadClose_lcs (s : State) (i lst findex tick : Nat) : (s.loadClose i lst findex tick).sec.lcs = s.sec.lcs := by
  have hrope : ∀ t : State, (if i = 4 then t.setRope { t.loader.rope with old := none } else t).sec = t.sec := fun t => by
    split <;> rfl
  unfold State.loadClose
  dsimp only
  split
  · rw [complete_sec, hrope]
    rfl
  · rw [hrope]
    rfl

theorem fullEnd_sec (s : State) (pins : Bool) : (s.fullEnd pins).sec = s.sec := by
  unfold State.fullEnd State.ropeIdleLine
  dsimp only
  split
  · exact noteIdle_sec _ _
  · exact noteIdle_sec _ _

theorem bootNext_sec (s : State) (x : LoadCtx) (ok : Bool) : (s.bootNext x ok).sec = s.sec := by
  unfold State.bootNext
  split
  · split
    · rfl
    · split <;> rfl
  · rfl

theorem freeHolds_sec (s : State) (i : Nat) : (s.freeHolds i).sec = s.sec := by
  unfold State.freeHolds
  exact forAll_frame State.sec (fun u c => by split <;> rfl) _ s

theorem loadFail_lcs (s : State) (i findex : Nat) (e : LoadErr) : (s.loadFail i findex e).sec.lcs = s.sec.lcs := by
  have hshadow : (forAll (s.ctx i).written (fun s c => s.updCl c Cluster.dropShadow) s).sec = s.sec :=
    forAll_frame State.sec (f := fun s c => s.updCl c Cluster.dropShadow) (fun _ _ => rfl) _ s
  have hclose : (((forAll (s.ctx i).written (fun s c => s.updCl c Cluster.dropShadow) s).freeHolds i).loadClose i e.lst findex 0).sec.lcs = s.sec.lcs := by
    rw [loadClose_lcs, freeHolds_sec, hshadow]
  unfold State.loadFail
  dsimp only
  split
  · rw [bootNext_sec, fullEnd_sec]
    split
    · exact hclose
    · exact hclose
  · exact hclose

/-! ### The units of a region (R380, R381, R432) -/

theorem sget_units (s : State) (l : List Nat) (k : Option Nat) (u : Nat) :
    sget none (s.tagUnits l k).sec.units u = if u ∈ l then k else sget none s.sec.units u := by
  have hself : ∀ (t : State) n, sget none (sput none t.sec.units n k) n = k := fun t n => sget_sput_same none t.sec.units n k
  by_cases h : u ∈ l
  · rw [if_pos h]
    refine forAll_mem (P := fun t n => sget none t.sec.units n = k) hself (fun t m n hn => ?_) l s u h
    by_cases hmn : n = m
    · rw [hmn]
      exact hself t m
    · exact (sget_sput_other none t.sec.units k hmn).trans hn
  · rw [if_neg h]
    exact forAll_other (get := fun t n => sget none t.sec.units n) (fun t m n hmn => sget_sput_other none t.sec.units k (Ne.symm hmn)) l h s

theorem tagUnits_frame (s : State) (l : List Nat) (k : Option Nat) : s.tagUnits l k = { s with sec := { s.sec with units := (s.tagUnits l k).sec.units } } :=
  forAll_part (put := fun s t => { s with sec := { s.sec with units := t.sec.units } }) (fun _ => rfl) (fun _ _ _ => rfl) (fun _ _ => rfl) l s

theorem forAll_handles {f : State → Nat → State} (h : ∀ (s : State) n, s.handles (f s n)) (l : List Nat) (s : State) : s.handles (forAll l f s) :=
  forAll_keeps (P := s.handles) (fun u n (k : s.handles u) => k.trans (h u n)) l s (handles_refl s)

/-- The requests that channels and PCs hold for units are answered and forgotten. -/
theorem denyUnits_handles (s : State) (us : List Nat) : s.handles (s.denyUnits us) := by
  have hheld : ∀ (l : List Held) (u : State), u.handles (l.foldl (fun v h => v.respond h 3 []) u) :=
    foldl_handles fun v h => respond_handles v h 3 []
  have hopen : ∀ (p : Nat) (l : List HOpen) (u : State), u.handles (l.foldl (fun v o => (v.forget p o.rid).respond o.h 3 []) u) := fun p =>
    foldl_handles fun v o => (forget_handles v p o.rid).trans (respond_handles _ o.h 3 [])
  unfold State.denyUnits
  dsimp only
  refine (forAll_handles (fun u k => ?_) _ s).trans (forAll_handles (fun u p => hopen p _ u) _ _)
  generalize (sget [] u.hbm.ports k).filter _ = l1
  generalize List.filter _ _ = l2
  exact (setPorts_handles u _).trans (hheld _ _)

/-- Whether a state has the bytes and the secure records of another one. -/
def State.stores (s t : State) : Prop := t.hbm.mem = s.hbm.mem ∧ t.sec = s.sec

theorem State.stores.trans {s t u : State} (h : s.stores t) (k : t.stores u) : s.stores u := ⟨k.1.trans h.1, k.2.trans h.2⟩

theorem State.handles.stores {s t : State} (h : s.handles t) : s.stores t := ⟨h.2.1, (congrArg State.sec h.1 :)⟩

theorem setPc_stores (s : State) (i : Nat) (p : Pc) : s.stores (s.setPc i p) := ⟨rfl, rfl⟩

theorem log_stores (s : State) (c d : Nat) : s.stores (s.log c d) := by
  obtain ⟨r, hr, _⟩ := log_eq s c d
  rw [hr]
  exact ⟨rfl, rfl⟩

/-- The retirement of a PC moves no byte (R307). -/
theorem retirePc_stores (s : State) (i : Nat) : s.stores (s.retirePc i) := by
  unfold State.retirePc
  split
  · exact ⟨rfl, rfl⟩
  · refine .trans ?_ (.trans (setPc_stores _ i _) (.trans (setPcDead_handles _ i true).stores (log_stores _ _ _)))
    refine .trans ((endCopies_handles s i).stores.trans ?_) (dropPc_handles _ i 4).stores
    split
    · exact (setPc_stores ..).trans ((dropPc_handles ..).trans (setPcDead_handles ..)).stores
    · exact ⟨rfl, rfl⟩

theorem forAll_stores {f : State → Nat → State} (h : ∀ (s : State) n, s.stores (f s n)) (l : List Nat) (s : State) : s.stores (forAll l f s) :=
  forAll_keeps (P := s.stores) (fun u n (k : s.stores u) => k.trans (h u n)) l s ⟨rfl, rfl⟩

theorem startWipe_frame (s : State) (us : List Nat) : s.startWipe us =
    { s with sec := { s.sec with wipeUnits := (s.startWipe us).sec.wipeUnits, wipePcs := (s.startWipe us).sec.wipePcs } } := by
  unfold State.startWipe
  exact forAll_part (put := fun s t => { s with sec := { s.sec with wipeUnits := t.sec.wipeUnits, wipePcs := t.sec.wipePcs } }) (fun _ => rfl) (fun _ _ _ => rfl)
    (fun _ _ => rfl) us s

/-- The bytes of units are gone (R381). -/
theorem erased_bytes (s : State) (us : List Nat) {u : Nat} (hu : u ∈ us) {a : Nat} (h1 : u * 0x8000000 ≤ a) (h2 : a < (u + 1) * 0x8000000) :
    memGet (forAll us (fun s u => s.hbmErase (u * unitBytes) ((u + 1) * unitBytes)) s).hbm.mem a = none := by
  have hb : unitBytes = 0x8000000 := rfl
  refine forAll_mem (P := fun t n => n * 0x8000000 ≤ a → a < (n + 1) * 0x8000000 → memGet t.hbm.mem a = none) (fun t n h1 h2 => ?_) (fun t m n hn h1 h2 => ?_)
    us s u hu h1 h2
  · exact (memGet_memErase ..).trans (if_pos ⟨h1, h2⟩)
  · refine (memGet_memErase ..).trans ?_
    split
    · rfl
    · exact hn h1 h2

theorem erases_sec (s : State) (us : List Nat) :
    (forAll us (fun s u => s.hbmErase (u * unitBytes) ((u + 1) * unitBytes)) s).sec = s.sec :=
  forAll_frame State.sec (f := fun s u => s.hbmErase (u * unitBytes) ((u + 1) * unitBytes)) (fun _ _ => rfl) us s

/-- What a unit's end as a region's leaves: no tag and no byte. -/
def State.wiped (s : State) (u : Nat) : Prop :=
  sget none s.sec.units u = none ∧ ∀ a, u * 0x8000000 ≤ a → a < (u + 1) * 0x8000000 → memGet s.hbm.mem a = none

/-- Units that are freed are wiped, and of the secure records only the tags and the wipes change. -/
theorem freeUnits_frees (s : State) (us : List Nat) : (∀ u ∈ us, (s.freeUnits us).wiped u) ∧
    ∃ a b c, (s.freeUnits us).sec = { s.sec with units := a, wipeUnits := b, wipePcs := c } := by
  obtain ⟨hdm, hds⟩ := (denyUnits_handles s us).stores
  obtain ⟨d, hd⟩ : ∃ d, s.denyUnits us = d := ⟨_, rfl⟩
  rw [hd] at hds
  obtain ⟨x, hx⟩ : ∃ x, d.tagUnits us none = x := ⟨_, rfl⟩
  have hxf := tagUnits_frame d us none
  rw [hx] at hxf
  obtain ⟨y, hy⟩ : ∃ y, forAll us (fun s u => s.hbmErase (u * unitBytes) ((u + 1) * unitBytes)) x = y := ⟨_, rfl⟩
  have hys : y.sec = x.sec := hy ▸ erases_sec x us
  have hwf := startWipe_frame y us
  obtain ⟨w, hw⟩ : ∃ w, y.startWipe us = w := ⟨_, rfl⟩
  rw [hw] at hwf
  have hfree : s.freeUnits us = forAll (us.flatMap w.unitPcs) (fun s p => if (s.pc p).st = .frozen then s.retirePc p else s) w := by
    unfold State.freeUnits
    dsimp only
    rw [hd, hx, hy, hw]
  obtain ⟨hm, hs⟩ := forAll_stores (f := fun s p => if (s.pc p).st = .frozen then s.retirePc p else s) (fun u n => by
    split
    · exact retirePc_stores u n
    · exact ⟨rfl, rfl⟩) (us.flatMap w.unitPcs) w
  have hunits : w.sec.units = (d.tagUnits us none).sec.units := by
    rw [hwf, hx, ← hys]
  have hmem : w.hbm.mem = y.hbm.mem := (congrArg (·.hbm.mem) hwf :)
  have hsec : w.sec = { s.sec with units := x.sec.units, wipeUnits := w.sec.wipeUnits, wipePcs := w.sec.wipePcs } := by
    rw [hwf, hys, hxf, hds]
  rw [hfree]
  refine ⟨fun u hu => ⟨?_, fun a h1 h2 => ?_⟩, ⟨_, _, _, hs.trans hsec⟩⟩
  · rw [hs, hunits, sget_units, if_pos hu]
  · rw [hm, hmem, ← hy]
    exact erased_bytes x us hu h1 h2

/-! ### The release of a region, phase by phase (R380) -/

/-- Its loads fail. -/
def State.endLoads (s : State) (r : Nat) : State :=
  forAll (List.range 5) (fun s x => if (s.ctx x).busy && decide ((s.ctx x).region = some r) then s.loadFail x ((s.ctx x).nextFrame - 1) { status := lsABORTED } else s) s

/-- Its ports close, its mirroring ends, and its units and its key go. -/
def State.endUnits (s : State) (r : Nat) (g : Region) : State :=
  let s := s.grantRegion r g false
  let s := if g.mirrored then s.endMirror (s.regionPcs g) else s
  (s.freeUnits g.units).setKey (32 + r) none

/-- Its movers are unassigned. -/
def State.endMovers (s : State) (r : Nat) : State :=
  forAll ((List.range 64).filter (fun m => decide ((s.mover m).region = some r))) (fun s m =>
    ((s.setMover m {}).setIrgn (moverInit m) none).fwGrant (moverRouter m) 2 r false) s

def State.endSessions (s : State) (g : Region) : State := forAll (List.range g.scount) (fun s k => s.setSess (g.sbase + k) {}) s

/-- The push window's slots of a function that reach none of some clusters. -/
def State.leavesSlots (s : State) (p : Nat) (cs : List Nat) (f : Nat) : State :=
  let u := s.func p f
  s.setFunc p f { u with pwq := u.pwq.filter (fun e => match e.2 with | some q => !cs.contains (s.redir (q / 128)) | none => false) }

/-- The bindings of host ports to it go. -/
def State.endBindings (s : State) (r : Nat) (cs : List Nat) : State :=
  forAll (List.range 4) (fun s p =>
    let v := s.port p
    let s := if v.bound = some r then (s.setPort p { v with bound := none }).setIrgn (hostInit p) none else s
    forAll (v.funcs.map (·.1)) (fun s f => s.leavesSlots p cs f) s) s

/-- Its standby clusters go back to the pool. -/
def State.endPatches (s : State) (g : Region) (cs : List Nat) : State :=
  let s := forAll (cs.filter (fun c => !g.clusters.contains c)) (fun s c => s.setSmap c { s.smap c with patch := false, src0 := 0 }) s
  { s with noc := { s.noc with redirect := s.noc.redirect.filter (fun e => !g.clusters.contains e.1) }
           rel := { s.rel with migq := s.rel.migq.filter (fun m => !cs.contains m.cl) } }

theorem releaseRegion_eq {r : Nat} {g : Region} (h : s.region r = some g) : s.releaseRegion r =
    (((((((forAll (g.clusters ++ g.clusters.map (s.endLoads r).redir).dedup State.wipeCluster ((s.endLoads r).endUnits r g)).belayRelease r).endMovers r).endSessions
      g).endBindings r (g.clusters.map (s.endLoads r).redir)).endPatches g (g.clusters.map (s.endLoads r).redir)).setRegion r none) := by
  unfold State.releaseRegion
  rw [h]
  rfl

/-! ### What the phases leave alone -/

theorem grantRegion_frame (s : State) (r : Nat) (g : Region) (on : Bool) : s.grantRegion r g on = { s with noc := (s.grantRegion r g on).noc } := by
  have h1 := forAll_noc (f := fun s c => (s.fwGrant c 0 r on).setIrgn c (if on then some r else none)) (fun _ _ => rfl) (g.clusters.map s.redir) s
  unfold State.grantRegion
  dsimp only
  obtain ⟨u, hu⟩ : ∃ u, forAll (g.clusters.map s.redir) (fun s c => (s.fwGrant c 0 r on).setIrgn c (if on then some r else none)) s = u := ⟨_, rfl⟩
  rw [hu] at h1 ⊢
  have h2 := forAll_noc (f := fun s n => s.fwGrant n 1 r on) (fun _ _ => rfl) ((g.units.flatMap u.unitPcs).map pcRouter).dedup u
  obtain ⟨v, hv⟩ : ∃ v, forAll ((g.units.flatMap u.unitPcs).map pcRouter).dedup (fun s n => s.fwGrant n 1 r on) u = v := ⟨_, rfl⟩
  rw [hv] at h2 ⊢
  refine (forAll_noc (f := fun s n => s.fwGrant (hubB n) 3 r on) (fun _ _ => rfl) (List.range 4) v).trans ?_
  rw [h2, h1]

/-- The end of mirroring changes of the secure records only the list of partners. -/
theorem endMirror_sec (s : State) (ps : List Nat) : ∃ l, (s.endMirror ps).sec = { s.sec with mirrorPcs := l } := by
  have hstep : ∀ (u : State) p, (if (u.pc p).st = .degraded then ((u.stopPc p .frozen).dropPc p 4).setPcDead p true else u).sec = u.sec := fun u p => by
    split
    · have hstop : u.stores (u.stopPc p .frozen) := setPc_stores u p _
      exact ((hstop.trans (dropPc_handles (u.stopPc p .frozen) p 4).stores).trans (setPcDead_handles _ p true).stores).2
    · rfl
  have hun : (s.unmirrors ps).sec = s.sec := by
    unfold State.unmirrors
    dsimp only
    refine (forAll_frame State.sec (f := fun s p => s.setPc p { s.pc p with mir := false, primary := false }) (fun _ _ => rfl) _ _).trans ?_
    refine (erases_sec _ _).trans ((forAll_frame State.sec hstep _ _).trans ?_)
    exact forAll_frame State.sec (fun u p => (endCopies_handles u p).stores.2) _ s
  rw [endMirror_eq, hun]
  exact ⟨_, rfl⟩

theorem endLoads_lcs (s : State) (r : Nat) : (s.endLoads r).sec.lcs = s.sec.lcs := by
  unfold State.endLoads
  refine forAll_frame (fun u : State => u.sec.lcs) (fun u x => ?_) _ s
  split
  · exact loadFail_lcs ..
  · rfl

/-- A region's units and key are gone, and the life cycle stands. -/
theorem endUnits_ends (s : State) (r : Nat) (g : Region) : (∀ u ∈ g.units, (s.endUnits r g).wiped u) ∧ (s.endUnits r g).key (32 + r) = none ∧
    (s.endUnits r g).sec.lcs = s.sec.lcs := by
  obtain ⟨x, hx⟩ : ∃ x, s.grantRegion r g false = x := ⟨_, rfl⟩
  have hxs : x.sec = s.sec := by
    rw [← hx, grantRegion_frame]
  obtain ⟨y, hy⟩ : ∃ y, (if g.mirrored then x.endMirror (x.regionPcs g) else x) = y := ⟨_, rfl⟩
  have hys : y.sec.lcs = s.sec.lcs := by
    rw [← hy, ← hxs]
    split
    · obtain ⟨l, hl⟩ := endMirror_sec x (x.regionPcs g)
      rw [hl]
    · rfl
  obtain ⟨hw, a, b, c, hs⟩ := freeUnits_frees y g.units
  have he : s.endUnits r g = (y.freeUnits g.units).setKey (32 + r) none := by
    unfold State.endUnits
    dsimp only
    rw [hx, hy]
  rw [he]
  refine ⟨hw, sget_sput_same none (y.freeUnits g.units).sec.keys (32 + r) none, ?_⟩
  have hkey : ((y.freeUnits g.units).setKey (32 + r) none).sec.lcs = (y.freeUnits g.units).sec.lcs := rfl
  rw [hkey, hs]
  exact hys

/-- Whether a cluster holds nothing of its past. -/
def State.clusterEmpty (s : State) (c : Nat) : Prop := (s.cl c).planes = [] ∧ (s.cl c).queues = [] ∧ (s.cl c).sram = [] ∧ (s.cl c).digest = none

theorem wipeClusters_empty (s : State) (l : List Nat) {c : Nat} (h : c ∈ l) : (forAll l State.wipeCluster s).clusterEmpty c := by
  have hself : ∀ (t : State) n, (t.wipeCluster n).clusterEmpty n := fun t n => by
    have hcl : (t.wipeCluster n).cl n = (t.cl n).cleared := cl_setCl ..
    unfold State.clusterEmpty
    rw [hcl]
    exact ⟨rfl, rfl, rfl, rfl⟩
  refine forAll_mem (P := State.clusterEmpty) hself (fun t m n hn => ?_) l s c h
  by_cases hmn : n = m
  · rw [hmn]
    exact hself t m
  · have hcl : (t.wipeCluster m).cl n = t.cl n := cl_setCl_ne (s := t) _ hmn
    unfold State.clusterEmpty
    rw [hcl]
    exact hn

theorem wipeClusters_frame (s : State) (l : List Nat) : forAll l State.wipeCluster s =
    { s with cls := (forAll l State.wipeCluster s).cls, sec := { s.sec with wipeCls := (forAll l State.wipeCluster s).sec.wipeCls } } :=
  forAll_part (put := fun s t => { s with cls := t.cls, sec := { s.sec with wipeCls := t.sec.wipeCls } }) (fun _ => rfl) (fun _ _ _ => rfl) (fun _ _ => rfl) l s

/-- A task signal of an event that goes with its region no longer stands with Belay. -/
def State.letsGo (s : State) (e : BEvent) : State :=
  match e.orig with
  | .host p f _ => s.setFunc p f { s.func p f with sigHeld := false, sigBy := none }
  | _ => s

theorem letsGo_host (l : List BEvent) : ∀ u : State, ∃ h, l.foldl State.letsGo u = { u with host := h } := by
  induction l with
  | nil => exact fun u => ⟨u.host, rfl⟩
  | cons e l ih =>
    intro u
    obtain ⟨h, hh⟩ := ih (u.letsGo e)
    obtain ⟨k, hk⟩ : ∃ k, u.letsGo e = { u with host := k } := by
      unfold State.letsGo
      split
      · exact ⟨_, rfl⟩
      · exact ⟨_, rfl⟩
    refine ⟨h, ?_⟩
    rw [List.foldl_cons, hh, hk]

/-- What Belay gives up with a region, outside DEBUG: its registers and the events on their way to it. -/
theorem belayRelease_frame (s : State) (r : Nat) (h : s.sec.lcs ≠ .debug) : ∃ n b h, s.belayRelease r = ({ s with noc := n, belay := b, host := h } : State).setBreg r {} := by
  have htrace : ∀ (l : List Nat) (u : State), u.sec.lcs ≠ .debug → forAll l (fun s t => s.btrace (.state t .free)) u = u := fun l u hu =>
    forAll_same fun t _ => if_neg hu
  have hrest : ∀ (n : Noc) (b : Belay) (l : List BEvent), ∃ n' b' h, (l.foldl State.letsGo (({ s with noc := n } : State).setBelay b)).setBreg r {} =
      ({ s with noc := n', belay := b', host := h } : State).setBreg r {} := fun n b l => by
    obtain ⟨h, hh⟩ := letsGo_host l (({ s with noc := n } : State).setBelay b)
    exact ⟨n, b, h, congrArg (·.setBreg r {}) hh⟩
  unfold State.belayRelease
  dsimp only
  rw [htrace _ s h]
  exact hrest _ _ _

/-- A mover of a released region is of no region. -/
theorem endMovers_frame (s : State) (r : Nat) : s.endMovers r = { s with movers := (s.endMovers r).movers, noc := (s.endMovers r).noc } := by
  unfold State.endMovers
  exact forAll_part (put := fun s t => { s with movers := t.movers, noc := t.noc }) (fun _ => rfl) (fun _ _ _ => rfl) (fun _ _ => rfl) _ s

theorem endMovers_region (s : State) (r : Nat) {m : Nat} (hm : m < 64) : ((s.endMovers r).mover m).region ≠ some r := by
  have hself : ∀ (t : State) n, ((((t.setMover n {}).setIrgn (moverInit n) none).fwGrant (moverRouter n) 2 r false).mover n).region ≠ some r := fun t n => by
    rw [show (((t.setMover n {}).setIrgn (moverInit n) none).fwGrant (moverRouter n) 2 r false).mover n = {} from mover_setMover t n {}]
    exact nofun
  have hkeep : ∀ (t : State) k n, (t.mover n).region ≠ some r →
      ((((t.setMover k {}).setIrgn (moverInit k) none).fwGrant (moverRouter k) 2 r false).mover n).region ≠ some r := fun t k n hn => by
    by_cases hk : n = k
    · rw [hk]
      exact hself t k
    · rw [show (((t.setMover k {}).setIrgn (moverInit k) none).fwGrant (moverRouter k) 2 r false).mover n = t.mover n from mover_setMover_ne t {} hk]
      exact hn
  unfold State.endMovers
  by_cases h : (s.mover m).region = some r
  · exact forAll_mem (P := fun t n => (t.mover n).region ≠ some r) hself hkeep _ s m (List.mem_filter.mpr ⟨List.mem_range.mpr hm, decide_eq_true h⟩)
  · exact forAll_keeps (P := fun t => (t.mover m).region ≠ some r) (fun t k hn => hkeep t k m hn) _ s h

/-- The last phases of a release: of clusters, memory, keys and Belay they change nothing. -/
theorem endRest_frame (s : State) (r : Nat) (g : Region) (cs : List Nat) : ∃ x n h l, ((s.endSessions g).endBindings r cs).endPatches g cs =
    { s with ext := x, noc := n, host := h, rel := l } := by
  have h1 : s.endSessions g = { s with ext := (s.endSessions g).ext } := by
    unfold State.endSessions
    exact forAll_ext (fun _ _ => rfl) _ s
  have h2 : ∀ u : State, u.endBindings r cs = { u with host := (u.endBindings r cs).host, noc := (u.endBindings r cs).noc } := fun u => by
    unfold State.endBindings
    refine forAll_part (put := fun s t => { s with host := t.host, noc := t.noc }) (fun _ => rfl) (fun _ _ _ => rfl) (fun v p => ?_) _ u
    have h3 := forAll_part (f := fun s f => s.leavesSlots p cs f) (put := fun s t => { s with host := t.host, noc := t.noc }) (fun _ => rfl) (fun _ _ _ => rfl)
      (fun _ _ => rfl) ((v.port p).funcs.map (·.1))
    dsimp only
    split
    · exact h3 _
    · exact h3 _
  have h4 : ∀ u : State, ∃ n l, u.endPatches g cs = { u with noc := n, rel := l } := fun u => by
    unfold State.endPatches
    dsimp only
    rw [forAll_rel (f := fun s c => s.setSmap c { s.smap c with patch := false, src0 := 0 }) (fun _ _ => rfl)]
    exact ⟨_, _, rfl⟩
  obtain ⟨n, l, h5⟩ := h4 ((s.endSessions g).endBindings r cs)
  rw [h5, h2, h1]
  exact ⟨_, _, _, _, rfl⟩

/-- What a release outside DEBUG leaves of a region (R380): nothing. -/
theorem releaseRegion_leaves {r : Nat} {g : Region} (h : s.region r = some g) (hl : s.sec.lcs ≠ .debug) :
    let x := s.releaseRegion r
    x.region r = none ∧ x.key (32 + r) = none ∧ x.breg r = {} ∧ (∀ m, m < 64 → (x.mover m).region ≠ some r) ∧ (∀ u ∈ g.units, x.wiped u) ∧
      ∀ c ∈ g.clusters, x.clusterEmpty c := by
  obtain ⟨a, ha⟩ : ∃ a, s.endLoads r = a := ⟨_, rfl⟩
  have hla := endLoads_lcs s r
  rw [ha] at hla
  obtain ⟨hw, hk, hlu⟩ := endUnits_ends a r g
  obtain ⟨b, hb⟩ : ∃ b, a.endUnits r g = b := ⟨_, rfl⟩
  rw [hb] at hw hk hlu
  have he := fun c (hc : c ∈ g.clusters) => wipeClusters_empty b (g.clusters ++ g.clusters.map a.redir).dedup (List.mem_dedup.mpr (List.mem_append_left _ hc))
  have hf := wipeClusters_frame b (g.clusters ++ g.clusters.map a.redir).dedup
  obtain ⟨c, hc⟩ : ∃ c, forAll (g.clusters ++ g.clusters.map a.redir).dedup State.wipeCluster b = c := ⟨_, rfl⟩
  rw [hc] at he hf
  have hlc : c.sec.lcs ≠ .debug := by
    rw [hf]
    exact hlu ▸ hla ▸ hl
  obtain ⟨n, y, p, hd⟩ := belayRelease_frame c r hlc
  obtain ⟨d, hdd⟩ : ∃ d, c.belayRelease r = d := ⟨_, rfl⟩
  rw [hdd] at hd
  have hmov := fun m (hm : m < 64) => endMovers_region d r hm
  have hmf := endMovers_frame d r
  obtain ⟨e, hee⟩ : ∃ e, d.endMovers r = e := ⟨_, rfl⟩
  rw [hee] at hmov hmf
  obtain ⟨x1, x2, x3, x4, hr⟩ := endRest_frame e r g (g.clusters.map a.redir)
  intro x
  have hx : x = ({ e with ext := x1, noc := x2, host := x3, rel := x4 } : State).setRegion r none := by
    rw [← hr, ← hee, ← hdd, ← hc, ← hb, ← ha]
    exact releaseRegion_eq h
  have hsec : e.sec = { b.sec with wipeCls := c.sec.wipeCls } := by
    rw [hmf, hd, hf]
    rfl
  have hmem : e.hbm = b.hbm := by
    rw [hmf, hd, hf]
    rfl
  have hcls : e.cls = c.cls := by
    rw [hmf, hd]
    rfl
  have hbel : e.belay = (({ c with noc := n, belay := y, host := p } : State).setBreg r {}).belay := by
    rw [hmf, hd]
  rw [hx]
  refine ⟨region_setRegion .., ?_, ?_, hmov, fun u hu => ⟨?_, fun k h1 h2 => ?_⟩, fun k hk => ?_⟩
  · exact (congrArg (fun t : Sec => sget none t.keys (32 + r)) hsec).trans hk
  · exact (congrArg (fun t : Belay => sget ({} : BRegion) t.regions r) hbel).trans
      (sget_sput_same ({} : BRegion) y.regions r {})
  · exact (congrArg (fun t : Sec => sget none t.units u) hsec).trans (hw u hu).1
  · exact (congrArg (fun t : Hbm => memGet t.mem k) hmem).trans ((hw u hu).2 k h1 h2)
  · have hcl : (({ e with ext := x1, noc := x2, host := x3, rel := x4 } : State).setRegion r none).cl k = c.cl k :=
      congrArg (fun m : SMap Cluster => sget ({} : Cluster) m k) hcls
    unfold State.clusterEmpty
    rw [hcl]
    exact he k hk

/-! ### The commands (R380, R431, R432) -/

section
variable {i : Issuer} {r stk : Byte} {units : BitVec 16} {g : Region}

/-- The state in which a region has been released. -/
def State.releases (s : State) (i : Issuer) (r : Nat) : State :=
  (((s.runsNow i 0x0304).release0 i fun x => (s.runsNow i 0x0304).namesRegion x r).releaseRegion r).noteIdle (s.runsNow i 0x0304)

theorem regionRelease_answers (hi : i.owner = true) (hd : s.due i 0x0304 [(8, 1, r.toNat)] = true) (hlt : r.toNat < 64) (hg : s.region r.toNat = some g)
    (hm : ∀ m ∈ s.rel.migq, s.regionOf m.cl ≠ some r.toNat) : Answers (.regionRelease i r) s i stOK 0 ((s.releases i r.toNat).upToHost s) := by
  refine answers_of_owner (body := (·.fwRegionRelease i r.toNat (.regionRelease i r))) hi rfl hd ?_
  rw [State.fwRegionRelease]
  refine (judge_pass (regionFails_pass (s := s.runsNow i 0x0304) hlt hg (.inl hi))).trans ?_
  refine (afterMoves_unmet fun m h k hk hreg => ?_).trans ?_
  · rw [List.mem_singleton.mp hk] at hreg
    exact hm m h hreg
  · rfl

/-- A region's units become others. -/
theorem setUnits_frame (s : State) (r : Nat) (g : Region) (us : List Nat) :
    s.setUnits r g us = { s.setRegion r (some { g with units := us }) with noc := (s.setUnits r g us).noc } := by
  have h1 := grantRegion_frame s r g false
  obtain ⟨u, hu⟩ : ∃ u, s.grantRegion r g false = u := ⟨_, rfl⟩
  unfold State.setUnits
  dsimp only
  rw [hu] at h1 ⊢
  refine (grantRegion_frame _ r _ true).trans ?_
  rw [h1]
  rfl

theorem releases_leaves (hg : s.region r.toNat = some g) (hl : s.sec.lcs ≠ .debug) :
    let x := (s.releases i r.toNat).upToHost s
    x.region r.toNat = none ∧ x.key (32 + r.toNat) = none ∧ x.breg r.toNat = {} ∧ (∀ m, m < 64 → (x.mover m).region ≠ some r.toNat) ∧
      (∀ u ∈ g.units, x.wiped u) ∧ ∀ c ∈ g.clusters, x.clusterEmpty c := by
  obtain ⟨u, hu⟩ : ∃ u, (s.runsNow i 0x0304).release0 i (fun x => (s.runsNow i 0x0304).namesRegion x r.toNat) = u := ⟨_, rfl⟩
  have hsec : u.sec = s.sec := by
    rw [← hu]
    exact (congrArg State.sec (release0_upToHost (s.runsNow i 0x0304) s i _) :)
  have hgu : u.region r.toNat = some g := (congrArg (fun t : Sec => sget none t.regions r.toNat) hsec).trans hg
  have h := releaseRegion_leaves hgu (hsec ▸ hl)
  obtain ⟨v, hv⟩ : ∃ v, u.releaseRegion r.toNat = v := ⟨_, rfl⟩
  rw [hv] at h
  intro x
  have hx : x = ({ v with sys := (v.noteIdle (s.runsNow i 0x0304)).sys } : State).upToHost s := by
    rw [← noteIdle_frame, ← hv, ← hu]
    rfl
  rw [hx]
  exact h

/-- The checks of a resize outside ISOLATED mode, of a region that is not mirrored. -/
theorem regionResize_passes (hi : i.owner = true) (hlt : r.toNat < 64) (hg : s.region r.toNat = some g) (hm : s.sys.mode ≠ 4) (hmir : g.mirrored = false)
    (run : State → State) : (s.runsNow i 0x0303).judge i ((s.runsNow i 0x0303).regionFails i r.toNat ++
      [(decide ((s.runsNow i 0x0303).sys.mode = 4) && decide (units.toNat % 9 ≠ 0), stBAD_OPERAND),
        ((((s.runsNow i 0x0303).region r.toNat).map (·.mirrored)).getD false, stBAD_STATE)]) run = run (s.runsNow i 0x0303) := by
  have hg' : (s.runsNow i 0x0303).region r.toNat = some g := hg
  have hm' : (s.runsNow i 0x0303).sys.mode ≠ 4 := hm
  refine judge_pass (firstFail_append (regionFails_pass hlt hg' (.inl hi)) (firstFail_pass ?_ (firstFail_pass ?_ firstFail_nil)))
  · rw [decide_eq_false hm', Bool.false_and]
  · rw [hg']
    exact hmir

theorem regionResize_shrinks (hi : i.owner = true) (hd : s.due i 0x0303 [(8, 1, r.toNat), (10, 2, units.toNat), (12, 1, stk.toNat)] = true)
    (hlt : r.toNat < 64) (hg : s.region r.toNat = some g) (hm : s.sys.mode ≠ 4) (hmir : g.mirrored = false) (hle : units.toNat ≤ g.units.length) :
    Answers (.regionResize i r units stk) s i stOK units.toNat
      ((((s.runsNow i 0x0303).setUnits r.toNat g (g.units.take units.toNat)).freeUnits (g.units.drop units.toNat)).upToHost s) := by
  refine answers_of_owner (body := (·.fwRegionResize i r.toNat units.toNat stk.toNat (.regionResize i r units stk))) hi rfl hd ?_
  rw [State.fwRegionResize]
  refine (regionResize_passes hi hlt hg hm hmir _).trans ?_
  rw [show (s.runsNow i 0x0303).region r.toNat = some g from hg]
  dsimp only
  rw [if_pos hle]
  exact congrArg (State.complete _ i stOK) (Nat.mul_one _)

theorem regionResize_grows {us : List Nat} (hi : i.owner = true)
    (hd : s.due i 0x0303 [(8, 1, r.toNat), (10, 2, units.toNat), (12, 1, stk.toNat)] = true)
    (hlt : r.toNat < 64) (hg : s.region r.toNat = some g) (hm : s.sys.mode ≠ 4) (hmir : g.mirrored = false) (hgt : g.units.length < units.toNat)
    (hpick : s.pickUnits (units.toNat - g.units.length) stk.toNat = some us) (hw : ∀ u ∈ us, s.unitWiping u = false) :
    Answers (.regionResize i r units stk) s i stOK units.toNat
      ((((s.runsNow i 0x0303).tagUnits us (some r.toNat)).setUnits r.toNat g (g.units ++ us)).upToHost s) := by
  refine answers_of_owner (body := (·.fwRegionResize i r.toNat units.toNat stk.toNat (.regionResize i r units stk))) hi rfl hd ?_
  rw [State.fwRegionResize]
  refine (regionResize_passes hi hlt hg hm hmir _).trans ?_
  rw [show (s.runsNow i 0x0303).region r.toNat = some g from hg]
  dsimp only
  rw [if_neg (Nat.not_le.mpr hgt), show (s.runsNow i 0x0303).pickUnits (units.toNat - g.units.length) stk.toNat = some us from hpick]
  dsimp only
  rw [if_neg (by
    intro h
    obtain ⟨u, hu, hwu⟩ := List.any_eq_true.mp h
    exact Bool.false_ne_true ((hw u hu).symm.trans hwu))]
  exact congrArg (State.complete _ i stOK) (Nat.mul_one _)

theorem regionResize_refused (hi : i.owner = true) (hd : s.due i 0x0303 [(8, 1, r.toNat), (10, 2, units.toNat), (12, 1, stk.toNat)] = true)
    (hlt : r.toNat < 64) (hg : s.region r.toNat = some g) (hm : s.sys.mode ≠ 4) (hmir : g.mirrored = false) (hgt : g.units.length < units.toNat)
    (hpick : s.pickUnits (units.toNat - g.units.length) stk.toNat = none) : Answers (.regionResize i r units stk) s i stNO_RESOURCE 0 s := by
  refine answers_plain (body := (·.fwRegionResize i r.toNat units.toNat stk.toNat (.regionResize i r units stk))) rfl hd ?_
  rw [State.fwRegionResize]
  refine (regionResize_passes hi hlt hg hm hmir _).trans ?_
  rw [show (s.runsNow i 0x0303).region r.toNat = some g from hg]
  dsimp only
  rw [if_neg (Nat.not_le.mpr hgt), show (s.runsNow i 0x0303).pickUnits (units.toNat - g.units.length) stk.toNat = none from hpick]

/-- A region with fewer units: those at the end of its list are wiped. -/
theorem shrunk_leaves (s u : State) (r : Nat) (g : Region) (n : Nat) :
    let x := ((s.setUnits r g (g.units.take n)).freeUnits (g.units.drop n)).upToHost u
    x.region r = some { g with units := g.units.take n } ∧ ∀ k ∈ g.units.drop n, x.wiped k := by
  have hf := setUnits_frame s r g (g.units.take n)
  obtain ⟨v, hv⟩ : ∃ v, s.setUnits r g (g.units.take n) = v := ⟨_, rfl⟩
  rw [hv] at hf ⊢
  obtain ⟨hw, a, b, c, hs⟩ := freeUnits_frees v (g.units.drop n)
  have hsec : v.sec = (s.setRegion r (some { g with units := g.units.take n })).sec := (congrArg State.sec hf :)
  refine ⟨?_, hw⟩
  refine (congrArg (fun t : Sec => sget none t.regions r) hs).trans ((congrArg (fun t : Sec => sget none t.regions r) hsec).trans ?_)
  exact region_setRegion ..

/-- A region with more units: they are tagged and stand at the end of its list. -/
theorem grown_has (s u : State) (r : Nat) (g : Region) (us : List Nat) :
    let x := ((s.tagUnits us (some r)).setUnits r g (g.units ++ us)).upToHost u
    x.region r = some { g with units := g.units ++ us } ∧ ∀ k ∈ us, sget none x.sec.units k = some r := by
  obtain ⟨v, hv⟩ : ∃ v, s.tagUnits us (some r) = v := ⟨_, rfl⟩
  have htag : ∀ k ∈ us, sget none v.sec.units k = some r := fun k hk => by
    rw [← hv, sget_units, if_pos hk]
  have hsec : (v.setUnits r g (g.units ++ us)).sec = (v.setRegion r (some { g with units := g.units ++ us })).sec :=
    (congrArg State.sec (setUnits_frame v r g (g.units ++ us)) :)
  rw [hv]
  refine ⟨(congrArg (fun t : Sec => sget none t.regions r) hsec).trans (region_setRegion ..), fun k hk => ?_⟩
  exact (congrArg (fun t : Sec => sget none t.units k) hsec).trans (htag k hk)

end

/-! ### Allocation (R431) -/

section
variable {i : Issuer} {a : AllocOp} {r : Nat} {us : List Nat} {t e : Nat}

/-- The region that an allocation makes. -/
def allocRegion (a : AllocOp) (us : List Nat) (t e : Nat) : Region :=
  { ten := a.ten.toNat, x0 := a.x0.toNat, y0 := a.y0.toNat, w := a.w.toNat, h := a.h.toNat, maxp := a.maxp.toNat, units := us
    tbase := t, tcount := a.tcount.toNat, sbase := e, scount := a.scount.toNat }

/-- The state in which a region of clusters that the owner's image does not hold has its key, its units, its registers and its priority. -/
def State.settles (s : State) (a : AllocOp) (r : Nat) (us : List Nat) (t e : Nat) : State :=
  let k := Config.random s.entropy
  let s : State := { s with entropy := s.entropy + 1 }
  (((((s.setKey (32 + r) (some k)).tagUnits us (some r)).setRegion r (some (allocRegion a us t e))).setBreg r { base := t, count := a.tcount.toNat, quota := a.quota.toNat }).setPmap
    r a.maxp.toNat).grantRegion r (allocRegion a us t e) true

theorem install_eq (h : ∀ c ∈ rect a.x0.toNat a.y0.toNat a.w.toNat a.h.toNat, c ∉ s.loader.ownerClusters) :
    s.install i a r us t e = (s.settles a r us t e).complete i stOK (r + t * 2 ^ 16 + e * 2 ^ 32) := by
  have htaken : (allocRegion a us t e).clusters.filter (fun c => s.loader.ownerClusters.contains c) = [] :=
    List.filter_eq_nil_iff.mpr fun c hc hb => h c hc (List.contains_iff_mem.mp hb)
  have hkeep : s.loader.ownerClusters.filter (fun c => !([] : List Nat).contains c) = s.loader.ownerClusters := List.filter_eq_self.mpr fun _ _ => rfl
  have hres : resAt 0x08 r + resAt 0x0A t + resAt 0x0C e = r + t * 2 ^ 16 + e * 2 ^ 32 := by
    simp [resAt]
  unfold State.install
  dsimp only
  unfold allocRegion at htaken
  rw [htaken, show forAll [] State.clearCluster s = s from rfl, hkeep, hres]
  rfl

/-- What an allocation gives (R431). -/
theorem settles_has (hk : s.keyless = false) :
    let x := s.settles a r us t e
    x.region r = some (allocRegion a us t e) ∧ (∀ k, k ≠ r → x.region k = s.region k) ∧
      x.breg r = { base := t, count := a.tcount.toNat, quota := a.quota.toNat } ∧
      x.key (32 + r) = some (Config.random s.entropy) ∧ x.entropy = s.entropy + 1 ∧
      (∀ u ∈ us, sget none x.sec.units u = some r) ∧ (∀ u, u ∉ us → sget none x.sec.units u = sget none s.sec.units u) ∧
      x.cls = s.cls ∧ x.hbm = s.hbm := by
  obtain ⟨v, hv⟩ : ∃ v : State, (({ s with entropy := s.entropy + 1 } : State).setKey (32 + r) (some (Config.random s.entropy))) = v := ⟨_, rfl⟩
  have hvu : v.sec.units = s.sec.units := by
    rw [← hv]
    rfl
  have hvr : v.sec.regions = s.sec.regions := by
    rw [← hv]
    rfl
  have hvk : v.key (32 + r) = some (Config.random s.entropy) := by
    rw [← hv, key_setKey, if_neg]
    rw [show ({ s with entropy := s.entropy + 1 } : State).keyless = s.keyless from rfl, hk, Bool.and_false]
    exact Bool.false_ne_true
  obtain ⟨w, hw⟩ : ∃ w, v.tagUnits us (some r) = w := ⟨_, rfl⟩
  have hwf := tagUnits_frame v us (some r)
  rw [hw] at hwf
  have hwu := fun u => sget_units v us (some r) u
  rw [hw] at hwu
  have hf : s.settles a r us t e = { (w.setRegion r (some (allocRegion a us t e))).setBreg r { base := t, count := a.tcount.toNat, quota := a.quota.toNat } with
      noc := (s.settles a r us t e).noc } := by
    unfold State.settles
    dsimp only
    rw [hv, hw]
    refine (grantRegion_frame _ _ _ _).trans ?_
    rw [setPmap_frame]
  intro x
  have hx : x = _ := hf
  rw [hx]
  refine ⟨region_setRegion w r _, fun k hk => ?_, breg_setBreg .., ?_, ?_, fun u hu => ?_, fun u hu => ?_, ?_, ?_⟩
  · refine (region_setRegion_ne w _ hk).trans ?_
    have hwr : w.sec.regions = s.sec.regions := by
      rw [hwf, ← hvr]
    exact congrArg (sget none · k) hwr
  · have hwk : w.sec.keys = v.sec.keys := by
      rw [hwf]
    exact (congrArg (sget none · (32 + r)) hwk).trans hvk
  · have hwe : w.entropy = s.entropy + 1 := by
      rw [hwf, ← hv]
      rfl
    exact hwe
  · exact (hwu u).trans (if_pos hu)
  · exact (hwu u).trans ((if_neg hu).trans (congrArg (sget none · u) hvu))
  · have hwc : w.cls = s.cls := by
      rw [hwf, ← hv]
      rfl
    exact hwc
  · have hwh : w.hbm = s.hbm := by
      rw [hwf, ← hv]
      rfl
    exact hwh

/-- The number that an allocation takes is the lowest free one. -/
theorem allocate_lowest (h : s.allocate a = some (r, us, t, e)) : s.region r = none ∧ ∀ k, k < r → s.region k ≠ none := by
  have hfind : (List.range 64).find? (fun r => (s.region r).isNone) = some r := by
    unfold State.allocate at h
    split at h
    next hr _ _ _ =>
      obtain ⟨rfl, -⟩ := Prod.mk.inj (Option.some.inj h)
      exact hr
    · exact absurd h nofun
  obtain ⟨hnone, -, hbefore⟩ := List.find?_range_eq_some.mp hfind
  refine ⟨Option.isNone_iff_eq_none.mp hnone, fun k hk hn => ?_⟩
  have hk' := hbefore k hk
  rw [hn] at hk'
  exact Bool.false_ne_true hk'

/-- The conditions of an allocation of free clusters whose islands are in service, outside ISOLATED mode. -/
structure Allocable (s : State) (a : AllocOp) : Prop where
  ten : a.ten.toNat ≤ 3
  maxp : a.maxp.toNat ≤ 3
  w : a.w ≠ 0
  h : a.h ≠ 0
  x : a.x0.toNat + a.w.toNat ≤ 16
  y : a.y0.toNat + a.h.toNat ≤ 16
  pairs : s.sys.mode = 3 → a.y0.toNat % 2 = 0 ∧ a.h.toNat % 2 = 0
  mode : s.sys.mode ≠ 4
  tenant : s.tenant a.ten.toNat = true
  clusters : ∀ c ∈ rect a.x0.toNat a.y0.toNat a.w.toNat a.h.toNat,
    s.clTaken c = false ∧ c ∉ s.loader.ownerClusters ∧ s.islOn (islandOf c) = true ∧ s.islSvc (islandOf c) = true ∧ s.clWiping c = false

theorem fwRegionAlloc_installs (h : Allocable s a) (cmd : Instr) (ha : s.allocate a = some (r, us, t, e)) (hu : ∀ u ∈ us, s.unitWiping u = false) :
    s.fwRegionAlloc i a cmd = s.install i a r us t e := by
  have hw : a.w.toNat ≠ 0 := fun hz => h.w (BitVec.eq_of_toNat_eq hz)
  have hh : a.h.toNat ≠ 0 := fun hz => h.h (BitVec.eq_of_toNat_eq hz)
  have hpair : (decide (s.sys.mode = 3) && (decide (a.y0.toNat % 2 = 1) || decide (a.h.toNat % 2 = 1))) = false := by
    by_cases hm : s.sys.mode = 3
    · obtain ⟨h1, h2⟩ := h.pairs hm
      rw [h1, h2]
      exact Bool.and_false _
    · rw [decide_eq_false hm, Bool.false_and]
  have hnone : ∀ {l : List Nat} {f : Nat → Bool}, (∀ x ∈ l, f x = false) → l.any f = false := fun hf =>
    List.any_eq_false.mpr fun x hx => Bool.eq_false_iff.mp (hf x hx)
  have hdark : (((rect a.x0.toNat a.y0.toNat a.w.toNat a.h.toNat).map islandOf).dedup).filter (fun n => !s.islOn n && s.islSvc n) = [] := by
    refine List.filter_eq_nil_iff.mpr fun n hn => ?_
    obtain ⟨c, hc, rfl⟩ := List.mem_map.mp (List.mem_dedup.mp hn)
    obtain ⟨-, -, hon, -, -⟩ := h.clusters c hc
    rw [hon]
    exact Bool.false_ne_true
  rw [State.fwRegionAlloc]
  refine (judge_pass (firstFail_pass ?_ (firstFail_pass ?_ (firstFail_pass (hnone fun c hc => ?_) firstFail_nil)))).trans ?_
  · rw [decide_eq_false (Nat.not_lt.mpr h.ten), decide_eq_false (Nat.not_lt.mpr h.maxp), decide_eq_false hw, decide_eq_false hh,
      decide_eq_false (Nat.not_lt.mpr h.x), decide_eq_false (Nat.not_lt.mpr h.y), hpair, decide_eq_false h.mode]
    rfl
  · rw [h.tenant]
    rfl
  · obtain ⟨htaken, hown, -, -, -⟩ := h.clusters c hc
    rw [htaken, List.contains_eq_mem, decide_eq_false hown, Bool.and_false]
    rfl
  · dsimp only
    rw [hdark, hnone fun c hc => (h.clusters c hc).2.2.2.2, ha]
    dsimp only
    rw [hnone fun c hc => (Bool.not_eq_false' ..).mpr (h.clusters c hc).2.2.2.1, decide_eq_false h.mode, hnone hu]
    rfl

end

end

theorem allocated_has {s : State} {i : Issuer} {op : Nat} {a : AllocOp} {r : Nat} {us : List Nat} {t e : Nat} (hk : s.keyless = false) :
    let x := ((s.runsNow i op).settles a r us t e).upToHost s
    x.region r = some (allocRegion a us t e) ∧ (∀ k, k ≠ r → x.region k = s.region k) ∧
      x.breg r = { base := t, count := a.tcount.toNat, quota := a.quota.toNat } ∧
      x.key (32 + r) = some (Config.random s.entropy) ∧ x.entropy = s.entropy + 1 ∧
      (∀ u ∈ us, sget none x.sec.units u = some r) ∧ (∀ u, u ∉ us → sget none x.sec.units u = sget none s.sec.units u) ∧
      x.cls = s.cls ∧ x.hbm = s.hbm := by
  have h := settles_has (s := s.runsNow i op) (a := a) (r := r) (us := us) (t := t) (e := e) hk
  obtain ⟨v, hv⟩ : ∃ v, (s.runsNow i op).settles a r us t e = v := ⟨_, rfl⟩
  rw [hv] at h ⊢
  exact h

/-- Settles O29. -/
theorem regionCommands : Obligations.RegionCommands := by
  unfold Obligations.RegionCommands
  refine ⟨fun s i a r us t e hi hd h1 h2 h3 h4 h5 h6 h7 h8 h9 h10 ha hu hl => ⟨allocate_lowest ha, ?_⟩, fun s i r stk units g hi hlt hg => ?_⟩
  · have hall : Allocable (s.runsNow i 0x0302) a := ⟨h1, h2, h3, h4, h5, h6, h7, h8, h9, h10⟩
    have hb : (s.runsNow i 0x0302).fwRegionAlloc i a (.regionAlloc i a) = _ :=
      (fwRegionAlloc_installs hall _ ha hu).trans (install_eq fun c hc => (h10 c hc).2.1)
    have hkey : s.keyless = false := by
      unfold State.keyless
      rw [due_untransited hd (by simp [statusOp]), decide_eq_false hl]
      rfl
    exact ⟨_, answers_of_owner (body := (·.fwRegionAlloc i a (.regionAlloc i a))) hi rfl hd hb, allocated_has hkey⟩
  · intro n wiped
    refine ⟨fun hd hl hm => ?_, fun hd hm hmir => ⟨fun hle => ?_, fun us hgt hp hw => ?_, fun hgt hp => ?_⟩⟩
    · exact ⟨_, regionRelease_answers hi hd hlt hg hm, releases_leaves hg hl⟩
    · exact ⟨_, regionResize_shrinks hi hd hlt hg hm hmir hle, shrunk_leaves _ s r.toNat g units.toNat⟩
    · exact ⟨_, regionResize_grows hi hd hlt hg hm hmir hgt hp hw, grown_has _ s r.toNat g us⟩
    · exact regionResize_refused hi hd hlt hg hm hmir hgt hp

end Sys2Proof.Machine

/-! O42: HBM scheduling, refresh, self-refresh, training and maintenance. -/

namespace Sys2Proof.Machine

section
variable {s : State}

theorem sget_sput_if {α : Type} [DecidableEq α] (d : α) (m : SMap α) (i : Nat) (x : α) (z : Nat) : sget d (sput d m i x) z = if z = i then x else sget d m z := by
  by_cases h : z = i
  · rw [if_pos h, h, sget_sput_same]
  · rw [if_neg h, sget_sput_other _ _ _ h]

/-! ### Requests that enter the queue of their PC (R283, R287, R291) -/

/-- The bursts of a request, in ascending order (R287). -/
def Held.bursts (h : Held) : List Nat := (List.range ((h.addr + h.nbytes - 1) / 32 - h.addr / 32 + 1)).map (fun j => (h.addr / 32 + j) * 32)

/-- But under BANK-SPREAD a request is one sub-request. -/
theorem subRequests_one {h : Held} (ho : (s.stack (h.addr / stackBytes)).order ≠ 1) : s.subRequests h = [h.bursts] := if_neg ho

theorem enqueue_runs (hs : s.live = true) (st : StackId) (ch : Fin 16) : exec (.hbmRequestEnqueue st ch) s = .next (s.hbmEnqueue (16 * st + ch)) := by
  have hx : exec (.hbmRequestEnqueue st ch) s = execHbmRequestEnqueue st ch s := rfl
  rw [hx, execHbmRequestEnqueue, act_live hs]

theorem serverOf_self {j : Nat} (h : (s.pc j).st ≠ .degraded) : s.serverOf j = j := if_neg h

/-- Whether a request of a channel's port waits for its PC (R291). -/
def State.enqueueWaits (s : State) (j : Nat) (h : Held) : Bool :=
  let p := s.pc j
  let subs := s.subRequests h
  p.sref || !p.entering.isEmpty || decide (p.inAt = some p.cycle) || decide (64 < p.queue.length + subs.length) || decide (p.st ≠ .service)

/-- The sub-requests of a request of PC i that enter the queue of PC j. -/
def State.newSubs (s : State) (i j : Nat) (h : Held) : List HReq :=
  (s.subRequests h).zipIdx.map (fun (bs, n) => { rid := s.hbm.nextRid, sub := 8 * s.hbm.nextRid + n, h := h, bursts := bs, arrive := (s.pc j).cycle, cls := h.prio
                                                 goal := (s.stack (j / 32)).goal h.prio, role := if j = i then .own else .instead i })

/-- A PC that takes sub-requests in. -/
def Pc.takesIn (p : Pc) (l : List HReq) (now : Nat) : Pc := { ({ p with entering := l } : Pc).enter with lastReq := now }

/-- A PC that has a request open. -/
def Pc.opensOne (p : Pc) (o : HOpen) : Pc := { p with opens := p.opens ++ [o] }

/-- The request has left the channel's port, and its number is used. -/
def State.leavesPort (s : State) (n : Nat) (rest : List Held) (rid : Nat) : State :=
  { s with hbm := { s.hbm with ports := sput [] s.hbm.ports n rest, nextRid := rid + 1 } }

theorem hbmEnqueue_eq {n : Nat} {h : Held} {rest : List Held} (hp : sget [] s.hbm.ports n = h :: rest) : s.hbmEnqueue n =
    if s.enqueueWaits (s.serverOf (s.hbmLoc h.addr).pc) h = true then s
    else
      let i := (s.hbmLoc h.addr).pc
      let t := s.setPc (s.serverOf i) ((s.pc (s.serverOf i)).takesIn (s.newSubs i (s.serverOf i) h) s.now)
      (t.setPc i ((t.pc i).opensOne { rid := s.hbm.nextRid, h := h, left := (s.subRequests h).length })).leavesPort n rest s.hbm.nextRid := by
  unfold State.hbmEnqueue
  rw [hp]
  rfl

theorem takesIn_one {p : Pc} {r : HReq} (hlen : p.queue.length < 64) (hin : p.inAt ≠ some p.cycle) (he : p.entering = []) (now : Nat) :
    p.takesIn [r] now = { p with queue := p.queue ++ [r], inAt := some p.cycle, lastReq := now } := by
  unfold Pc.takesIn Pc.enter
  simp only [hlen, hin, ne_eq, not_false_eq_true, decide_true, Bool.and_true, if_true]
  rw [← he]

/-- The sub-request of a request that is one (R287). -/
def State.oneSub (s : State) (j : Nat) (h : Held) : HReq :=
  { rid := s.hbm.nextRid, sub := 8 * s.hbm.nextRid, h := h, bursts := h.bursts, arrive := (s.pc j).cycle, goal := (s.stack (j / 32)).goal h.prio, cls := h.prio }

/-- A request that its PC takes as one sub-request. -/
theorem enqueue_enters {n : Nat} {h : Held} {rest : List Held} (hp : sget [] s.hbm.ports n = h :: rest) {j : Nat} (hj : (s.hbmLoc h.addr).pc = j)
    (hsref : (s.pc j).sref = false) (hlen : (s.pc j).queue.length < 64) (hent : (s.pc j).entering = []) (hin : (s.pc j).inAt ≠ some (s.pc j).cycle)
    (hst : (s.pc j).st = .service) (ho : (s.stack (h.addr / stackBytes)).order ≠ 1) : ∃ q : Pc,
    q = { s.pc j with
      queue := (s.pc j).queue ++ [s.oneSub j h]
      opens := (s.pc j).opens ++ [{ rid := s.hbm.nextRid, h := h, left := 1 }], inAt := some (s.pc j).cycle, lastReq := s.now } ∧
    s.hbmEnqueue n = (s.setPc j q).leavesPort n rest s.hbm.nextRid := by
  have hserve : s.serverOf (s.hbmLoc h.addr).pc = j := by
    rw [hj]
    exact serverOf_self (by rw [hst]; exact nofun)
  have hone := subRequests_one ho
  have hw : s.enqueueWaits j h = false := by
    unfold State.enqueueWaits
    rw [hone]
    simp only [hsref, hent, hst, decide_eq_false hin, List.length_singleton, List.isEmpty_nil, Bool.not_true, Bool.or_self, ne_eq, not_true_eq_false,
      decide_false, Bool.false_or, Bool.or_false, decide_eq_false_iff_not]
    omega
  have hnew : s.newSubs j j h = [s.oneSub j h] := by
    unfold State.newSubs State.oneSub
    rw [hone]
    simp
  have hin' := takesIn_one hlen hin hent s.now (r := s.oneSub j h)
  refine ⟨_, rfl, ?_⟩
  rw [hbmEnqueue_eq hp, hserve, if_neg (by rw [hw]; exact Bool.false_ne_true)]
  dsimp only
  rw [hserve, hj, hone, hnew, hin', pc_setPc, setPc_setPc]
  rfl

/-- A request waits for a PC in service that takes nothing in now (R291). -/
theorem enqueue_waits {n : Nat} {h : Held} {rest : List Held} (hp : sget [] s.hbm.ports n = h :: rest) (hst : (s.pc (s.hbmLoc h.addr).pc).st ≠ .degraded)
    (hw : s.enqueueWaits (s.hbmLoc h.addr).pc h = true) : s.hbmEnqueue n = s := by
  rw [hbmEnqueue_eq hp, serverOf_self hst, if_pos hw]

theorem enqueueWaits_full {j : Nat} {h : Held} (ho : (s.stack (h.addr / stackBytes)).order ≠ 1)
    (hw : (s.pc j).sref = true ∨ 64 ≤ (s.pc j).queue.length ∨ (s.pc j).entering ≠ [] ∨ (s.pc j).inAt = some (s.pc j).cycle) : s.enqueueWaits j h = true := by
  unfold State.enqueueWaits
  rw [subRequests_one ho]
  rcases hw with hw | hw | hw | hw
  · simp [hw]
  · simp [Nat.lt_succ_of_le hw]
  · simp [hw]
  · simp [hw]

theorem enqueueWaits_stopped {j : Nat} {h : Held} (hst : (s.pc j).st ≠ .service) : s.enqueueWaits j h = true := by
  unfold State.enqueueWaits
  simp [hst]

/-! ### The command bus (R24 to R26, R295) -/

/-- The PC that comes first takes the bus but for a better command of the other one. -/
theorem grant_first {i u v : Nat} {act : HAct} (ht : (s.bus (i / 2)).turn = none)
    (hc : s.hbmChoose (2 * (i / 2) + (1 - i % 2)) (s.pc (2 * (i / 2) + (1 - i % 2))).tick = some (v, act)) :
    (s.hbmGrant i (some u)).1 = (decide (v < u) || (decide (u = v) && decide (rrPick 2 (sget 0 (s.bus (i / 2)).ptr u) (fun _ => true) = some (i % 2)))) := by
  unfold State.hbmGrant
  dsimp only
  rw [ht]
  unfold State.hbmGrant.first
  rw [hc]
  dsimp only
  split
  next h => exact h.symm
  next h => exact (Bool.eq_false_iff.mpr h).symm

/-- A pick of two of which any will do is the pointer. -/
theorem rrPick_two {p : Nat} (h : p < 2) : rrPick 2 p (fun _ => true) = some p := by
  obtain rfl | rfl : p = 0 ∨ p = 1 := by omega
  · rfl
  · rfl

/-! ### Cycles of a scheduler (R293, R295) -/

/-- A PC in its next cycle, with the time of its last request. -/
def Pc.ticked (p : Pc) (now : Nat) : Pc :=
  { p.tick with lastReq := if p.tick.queue.isEmpty && p.tick.entering.isEmpty && p.tick.leaving.isEmpty then p.tick.lastReq else now }

/-- A row opens for a request. -/
def State.opensRow (s : State) (i : Nat) (r : HReq) : State :=
  let p := s.pc i
  let fast := (s.stack (i / 32)).rate
  let b := r.bursts.headD 0
  let l := s.hbmLoc b
  let subs := if s.det then [r.sub] else ((s.sameRow p l).map (·.sub)).take 8
  let a : Activation := { sid := l.sid, bank := l.bank, row := l.row, subs := subs, readyAt := p.cycle + hcyc fast 140 }
  let p := p.note { stamp := p.cycle, cmd := 1, sid := l.sid, bank := l.bank, row := l.row, req := some (r.rid, b) }
  s.setPc i { p with acts := p.acts ++ [a], lastActs := ((p.cycle, l.bank) :: p.lastActs).take 4
                     bankFree := sput 0 p.bankFree (16 * l.sid + l.bank) (p.cycle + hcyc fast 470) }

/-- What a PC's scheduler does. -/
def State.doesAct (s : State) (i : Nat) (ecc : EccEvent) : Option (Nat × HAct) → State
  | none => s
  | some (_, .col a r) => s.column i a r ecc
  | some (_, .row r) => s.opensRow i r

theorem hbmCycle_eq {i : Nat} (ecc : EccEvent) (h : (s.pc i).sref = false) : s.hbmCycle i ecc =
    let p := (s.pc i).ticked s.now
    let act := s.hbmChoose i p
    let g := s.hbmGrant i (act.map (·.1))
    let t := ((s.setPc i p.enter).setBus (i / 2) g.2).leaves i
    if (!g.1) = true then t else t.doesAct i ecc act := by
  unfold State.hbmCycle
  exact (if_neg (by rw [h]; exact Bool.false_ne_true)).trans rfl

theorem schedule_runs (hs : s.live = true) (i : PcId) (ecc : EccEvent) : exec (.hbmSchedule i ecc) s = .next (s.hbmCycle i ecc) := by
  have hx : exec (.hbmSchedule i ecc) s = execHbmSchedule i ecc s := rfl
  rw [hx, execHbmSchedule, act_live hs]

theorem enter_none {p : Pc} (h : p.entering = []) : p.enter = p := by
  unfold Pc.enter
  rw [h]

/-- A PC with other reads on their way through the engine. -/
def Pc.leavingAs (p : Pc) (l : List (Nat × Nat × Nat)) : Pc := { p with leaving := l }

theorem leaves_eq {s : State} {i : Nat} {go stay : List (Nat × Nat × Nat)}
    (h : (s.pc i).leaving.partition (fun e => decide (e.1 ≤ (s.pc i).cycle)) = (go, stay)) :
    s.leaves i = go.foldl (fun s e => s.hbmDone e.2.1 e.2.2) (s.setPc i ((s.pc i).leavingAs stay)) := by
  unfold State.leaves
  dsimp only
  rw [h]
  rfl

/-- Reads whose data has come through are answered, and the others stay (R296). -/
theorem leaves_setPc (s : State) (i c : Nat) (q : Pc) (b : CmdBus) {go stay : List (Nat × Nat × Nat)}
    (h : q.leaving.partition (fun e => decide (e.1 ≤ q.cycle)) = (go, stay)) : ((s.setPc i q).setBus c b).leaves i =
    go.foldl (fun s e => s.hbmDone e.2.1 e.2.2) ((s.setPc i (q.leavingAs stay)).setBus c b) := by
  have hpc : ((s.setPc i q).setBus c b).pc i = q := pc_setPc ..
  have hset : ∀ w : Pc, ((s.setPc i q).setBus c b).setPc i w = (s.setPc i w).setBus c b := fun w => congrArg (·.setBus c b) (setPc_setPc ..)
  rw [leaves_eq (by rw [hpc, h]), hpc, hset]

/-- Without reads on their way nothing leaves. -/
theorem leaves_none (s : State) (i c : Nat) {q : Pc} (b : CmdBus) (h : q.leaving = []) : ((s.setPc i q).setBus c b).leaves i = (s.setPc i q).setBus c b := by
  have hq : q.leavingAs [] = q := by
    unfold Pc.leavingAs
    rw [← h]
  rw [leaves_setPc s i c q b (go := []) (stay := []) (by rw [h]; rfl), hq]
  rfl

/-- A cycle in which the PC does not have the bus. -/
theorem hbmCycle_idle {i : Nat} {ecc : EccEvent} (h : (s.pc i).sref = false) (hent : (s.pc i).entering = [])
    (hg : (s.hbmGrant i ((s.hbmChoose i ((s.pc i).ticked s.now)).map (·.1))).1 = false) :
    ∃ e, s.hbmCycle i ecc = ((s.setPc i ((s.pc i).ticked s.now)).setBus (i / 2) e).leaves i := by
  refine ⟨(s.hbmGrant i ((s.hbmChoose i ((s.pc i).ticked s.now)).map (·.1))).2, (hbmCycle_eq ecc h).trans ?_⟩
  dsimp only
  rw [if_pos (by rw [hg]; rfl), enter_none (p := (s.pc i).ticked s.now) hent]

/-- A PC that has no command does not get the bus. -/
theorem grant_none (s : State) (i : Nat) : (s.hbmGrant i none).1 = false := by
  unfold State.hbmGrant State.hbmGrant.first
  dsimp only
  split
  · split
    · rfl
    · rfl
  · rfl

theorem choose_none {i : Nat} {p : Pc} (hq : p.queue = []) (ha : p.acts = []) : s.hbmChoose i p = none := by
  unfold State.hbmChoose
  dsimp only
  split
  · rfl
  · simp [hq, ha]

/-- A cycle in which the PC has the bus. -/
theorem hbmCycle_acts {i : Nat} {ecc : EccEvent} {u : Nat} {act : HAct} (h : (s.pc i).sref = false) (hent : (s.pc i).entering = []) (hl : (s.pc i).leaving = [])
    (hc : s.hbmChoose i ((s.pc i).ticked s.now) = some (u, act)) (hg : (s.hbmGrant i (some u)).1 = true) :
    ∃ e, s.hbmCycle i ecc = ((s.setPc i ((s.pc i).ticked s.now)).setBus (i / 2) e).doesAct i ecc (some (u, act)) := by
  refine ⟨(s.hbmGrant i (some u)).2, (hbmCycle_eq ecc h).trans ?_⟩
  dsimp only
  rw [hc, Option.map_some, hg, if_neg (by decide), enter_none (p := (s.pc i).ticked s.now) hent, leaves_none (q := (s.pc i).ticked s.now) _ _ _ _ hl]

theorem ticked_idle {p : Pc} (hq : p.queue = []) (he : p.entering = []) (hl : p.leaving = []) (now : Nat) : p.ticked now = { p with cycle := p.cycle + 1 } := by
  unfold Pc.ticked Pc.tick
  simp only [hq, he, hl, List.isEmpty_nil, Bool.and_self, if_true]

theorem ticked_busy {p : Pc} (h : p.queue ≠ [] ∨ p.leaving ≠ []) (now : Nat) : p.ticked now = { p with cycle := p.cycle + 1, lastReq := now } := by
  have hb : (p.queue.isEmpty && p.entering.isEmpty && p.leaving.isEmpty) = false := by
    rcases h with h | h
    · simp [h]
    · simp [h]
  unfold Pc.ticked Pc.tick
  simp only [hb, Bool.false_eq_true, if_false]

/-- An idle PC only counts the cycle. -/
theorem schedule_idle {i : Nat} {ecc : EccEvent} (h : (s.pc i).sref = false) (hent : (s.pc i).entering = []) (hl : (s.pc i).leaving = [])
    (hq : (s.pc i).queue = []) (ha : (s.pc i).acts = []) :
    ∃ e, s.hbmCycle i ecc = (s.setPc i { s.pc i with cycle := (s.pc i).cycle + 1 }).setBus (i / 2) e := by
  have hg : (s.hbmGrant i ((s.hbmChoose i ((s.pc i).ticked s.now)).map (·.1))).1 = false := by
    rw [choose_none (p := (s.pc i).ticked s.now) hq ha]
    exact grant_none s i
  obtain ⟨e, he⟩ := hbmCycle_idle (ecc := ecc) h hent hg
  refine ⟨e, he.trans ?_⟩
  rw [leaves_none (q := (s.pc i).ticked s.now) _ _ _ _ hl, ticked_idle hq hent hl]

/-- A PC that does not get the bus only counts the cycle. -/
theorem schedule_yields {i : Nat} {ecc : EccEvent} (h : (s.pc i).sref = false) (hent : (s.pc i).entering = []) (hl : (s.pc i).leaving = [])
    (hq : (s.pc i).queue ≠ []) (hno : ∀ u, (s.hbmGrant i (some u)).1 = false) :
    ∃ e, s.hbmCycle i ecc = (s.setPc i { s.pc i with cycle := (s.pc i).cycle + 1, lastReq := s.now }).setBus (i / 2) e := by
  have hg : (s.hbmGrant i ((s.hbmChoose i ((s.pc i).ticked s.now)).map (·.1))).1 = false := by
    cases s.hbmChoose i ((s.pc i).ticked s.now) with
    | none => exact grant_none s i
    | some x => exact hno x.1
  obtain ⟨e, he⟩ := hbmCycle_idle (ecc := ecc) h hent hg
  refine ⟨e, he.trans ?_⟩
  rw [leaves_none (q := (s.pc i).ticked s.now) _ _ _ _ hl, ticked_busy (.inl hq)]

/-! ### Reads on their way through the engine (R296) -/

/-- A read of a PC without other work: it stays until its cycle, and is answered then. -/
theorem schedule_leaving {i m rid : Nat} {ecc : EccEvent} (h : (s.pc i).sref = false) (hent : (s.pc i).entering = []) (hl : (s.pc i).leaving = [(m, i, rid)])
    (hq : (s.pc i).queue = []) (ha : (s.pc i).acts = []) : ∃ e, s.hbmCycle i ecc =
      if m ≤ (s.pc i).cycle + 1 then ((s.setPc i { s.pc i with cycle := (s.pc i).cycle + 1, lastReq := s.now, leaving := [] }).setBus (i / 2) e).hbmDone i rid
      else (s.setPc i { s.pc i with cycle := (s.pc i).cycle + 1, lastReq := s.now }).setBus (i / 2) e := by
  have hg : (s.hbmGrant i ((s.hbmChoose i ((s.pc i).ticked s.now)).map (·.1))).1 = false := by
    rw [choose_none (p := (s.pc i).ticked s.now) hq ha]
    exact grant_none s i
  obtain ⟨e, he⟩ := hbmCycle_idle (ecc := ecc) h hent hg
  have ht : (s.pc i).ticked s.now = { s.pc i with cycle := (s.pc i).cycle + 1, lastReq := s.now } := ticked_busy (.inr (by rw [hl]; exact nofun)) _
  refine ⟨e, he.trans ?_⟩
  rw [ht]
  by_cases hm : m ≤ (s.pc i).cycle + 1
  · rw [if_pos hm, leaves_setPc _ _ _ _ _ (go := [(m, i, rid)]) (stay := []) (by simp [hl, hm])]
    rfl
  · rw [if_neg hm, leaves_setPc _ _ _ _ _ (go := []) (stay := [(m, i, rid)]) (by simp [hl, hm])]
    unfold Pc.leavingAs
    rw [← hl]
    rfl

/-- The last sub-request of a request has ended (R287). -/
theorem hbmDone_last {i rid : Nat} {o : HOpen} (ho : (s.pc i).opens = [o]) (hr : o.rid = rid) (hleft : o.left = 1) : s.hbmDone i rid =
    (s.setPc i { s.pc i with opens := [] }).respond o.h 0 (if o.h.data.isSome then [] else
      (List.range o.h.nbytes).map (fun n => ((o.got.find? (fun g => decide (g.1 = n))).map (·.2)).getD 0)) := by
  have hfind : (s.pc i).opens.find? (fun o => decide (o.rid = rid)) = some o := by
    rw [ho]
    simp [hr]
  have hfilter : (s.pc i).opens.filter (fun x => decide (x.rid ≠ rid)) = [] := by
    rw [ho]
    simp [hr]
  unfold State.hbmDone
  dsimp only
  rw [hfind]
  dsimp only
  rw [if_neg (by rw [hleft]; exact Nat.lt_irrefl 1), hfilter]

theorem find_zipIdx {α : Type} : ∀ (d : List α) (k n : Nat),
    (((d.zipIdx k).map (fun e => (e.2, e.1))).find? (fun g => decide (g.1 = k + n))).map (·.2) = d[n]?
  | [], _, _ => rfl
  | x :: d, k, 0 => by simp
  | x :: d, k, n + 1 => by
    have ih := find_zipIdx d (k + 1) n
    rw [List.zipIdx_cons, List.map_cons, List.find?_cons_of_neg (by simp), List.getElem?_cons_succ, ← ih]
    congr 2
    funext g
    rw [Nat.add_right_comm, Nat.add_assoc]

/-- Bytes that are kept by their offset read in order. -/
theorem read_in_order (d : List Byte) : (List.range d.length).map (fun n => (((d.zipIdx.map (fun e => (e.2, e.1))).find? (fun g => decide (g.1 = n))).map (·.2)).getD 0) = d := by
  refine List.ext_getElem (by simp) fun n h1 h2 => ?_
  have hn := find_zipIdx d 0 n
  rw [Nat.zero_add] at hn
  rw [List.getElem_map, List.getElem_range, hn, List.getElem?_eq_getElem h2]
  rfl

/-- The last sub-request of the only open request of a PC in its cycle has ended. -/
theorem hbmDone_setBus {i c rid : Nat} {q : Pc} {e : CmdBus} {o : HOpen} (ho : q.opens = [o]) (hr : o.rid = rid) (hleft : o.left = 1) {d : List Byte}
    (hd : o.h.data = none) (hlen : o.h.nbytes = d.length) (hgot : o.got = d.zipIdx.map (fun e => (e.2, e.1))) :
    ((s.setPc i q).setBus c e).hbmDone i rid = ((s.setPc i { q with opens := [] }).setBus c e).respond o.h 0 d := by
  have hpc : ((s.setPc i q).setBus c e).pc i = q := pc_setPc ..
  rw [hbmDone_last (by rw [hpc, ho]) hr hleft, hpc, hd, hgot, hlen]
  refine congrArg₂ (fun (t : State) (l : List Byte) => t.respond o.h 0 l) ?_ (read_in_order d)
  exact congrArg (·.setBus c e) (setPc_setPc s i q { q with opens := [] })

/-- The only read of a PC without other work is answered as its data has come through (R296). -/
theorem schedule_answers {i m rid : Nat} {ecc : EccEvent} {o : HOpen} {d : List Byte} (h : (s.pc i).sref = false) (hent : (s.pc i).entering = [])
    (hl : (s.pc i).leaving = [(m, i, rid)]) (hq : (s.pc i).queue = []) (ha : (s.pc i).acts = []) (hm : m ≤ (s.pc i).cycle + 1) (ho : (s.pc i).opens = [o])
    (hr : o.rid = rid) (hleft : o.left = 1) (hd : o.h.data = none) (hlen : o.h.nbytes = d.length) (hgot : o.got = d.zipIdx.map (fun e => (e.2, e.1))) :
    ∃ e, s.hbmCycle i ecc =
      ((s.setPc i { s.pc i with cycle := (s.pc i).cycle + 1, lastReq := s.now, leaving := [], opens := [] }).setBus (i / 2) e).respond o.h 0 d := by
  obtain ⟨e, he⟩ := schedule_leaving (ecc := ecc) h hent hl hq ha
  obtain ⟨q, hq⟩ : ∃ q : Pc, { s.pc i with cycle := (s.pc i).cycle + 1, lastReq := s.now, leaving := [] } = q := ⟨_, rfl⟩
  have hqo : q.opens = [o] := by
    rw [← hq, ← ho]
  have hfinal : ({ q with opens := [] } : Pc) = { s.pc i with cycle := (s.pc i).cycle + 1, lastReq := s.now, leaving := [], opens := [] } := by
    rw [← hq]
  refine ⟨e, he.trans ?_⟩
  rw [if_pos hm, hq, hbmDone_setBus hqo hr hleft hd hlen hgot, hfinal]

/-! ### Rows (R293) -/

/-- A request that a PC holds alone and whose row is closed has its row opened. -/
theorem choose_row {i : Nat} {p : Pc} {r : HReq} (hsref : p.sref = false) (hst : p.st = .service) (hdet : s.det = false) (hbusy : p.busyUntil ≤ p.cycle)
    (hq : p.queue = [r]) (ha : p.acts = []) (hready : s.rowReady (s.stack (i / 32)).rate i p r = true) :
    s.hbmChoose i p = some (r.urgency p.cycle, .row r) := by
  unfold State.hbmChoose
  simp only [hsref, hst, hdet, hq, ha, Nat.not_lt.mpr hbusy, decide_false, Bool.or_false, ne_eq, not_true_eq_false, Bool.false_eq_true, if_false, List.filterMap_nil,
    List.any_nil, Bool.not_false, List.filter_cons_of_pos, List.filter_nil, hready, List.map_cons, List.map_nil, List.nil_append, List.foldl_cons, List.foldl_nil,
    Option.map_some]

theorem rowReady_first {fast : Bool} {i : Nat} {p : Pc} {r : HReq} (hdet : s.det = false) (ha : p.acts = []) (hl : p.lastActs = []) (harr : r.arrive + 4 ≤ p.cycle)
    (hfree : sget 0 p.bankFree (16 * (s.hbmLoc (r.bursts.headD 0)).sid + (s.hbmLoc (r.bursts.headD 0)).bank) ≤ p.cycle) : s.rowReady fast i p r = true := by
  unfold State.rowReady
  simp only [ha, hl, hdet, List.any_nil, Bool.not_false, List.head?_nil, List.getElem?_nil, decide_eq_true harr, decide_eq_true hfree, Bool.and_self, Bool.true_or]

/-- A PC with a row open for its only request. -/
def Pc.rowOpened (p : Pc) (r : HReq) (l : Loc) (fast : Bool) : Pc :=
  { p with
    acts := [{ sid := l.sid, bank := l.bank, row := l.row, subs := [r.sub], readyAt := p.cycle + hcyc fast 140 }], lastActs := [(p.cycle, l.bank)]
    bankFree := sput 0 p.bankFree (16 * l.sid + l.bank) (p.cycle + hcyc fast 470)
    trace := ({ stamp := p.cycle, cmd := 1, sid := l.sid, bank := l.bank, row := l.row, req := some (r.rid, r.bursts.headD 0) } :: p.trace).take 64 }

theorem opensRow_alone {i : Nat} {r : HReq} {p : Pc} (hp : s.pc i = p) (hdet : s.det = false) (hheld : p.held = false) (hq : p.queue = [r]) (ha : p.acts = [])
    (hl : p.lastActs = []) : s.opensRow i r = s.setPc i (p.rowOpened r (s.hbmLoc (r.bursts.headD 0)) (s.stack (i / 32)).rate) := by
  have hsame : ((s.sameRow p (s.hbmLoc (r.bursts.headD 0))).map (·.sub)).take 8 = [r.sub] := by
    unfold State.sameRow
    rw [hq]
    simp
  have hnote : ∀ c, p.note c = { p with trace := (c :: p.trace).take 64 } := fun c => if_neg (by rw [hheld]; exact Bool.false_ne_true)
  unfold State.opensRow
  dsimp only
  rw [hp, hdet, if_neg Bool.false_ne_true, hsame, hnote]
  unfold Pc.rowOpened
  rw [ha, hl]
  rfl

/-- The row of an only request opens (R293). -/
theorem schedule_row {i : Nat} {r : HReq} {ecc : EccEvent} (h : (s.pc i).sref = false) (hst : (s.pc i).st = .service) (hdet : s.det = false)
    (hbusy : (s.pc i).busyUntil ≤ (s.pc i).cycle + 1) (hent : (s.pc i).entering = []) (hl : (s.pc i).leaving = []) (hheld : (s.pc i).held = false)
    (hgrant : ∀ u, (s.hbmGrant i (some u)).1 = true) (hq : (s.pc i).queue = [r]) (harr : r.arrive + 4 ≤ (s.pc i).cycle + 1) (ha : (s.pc i).acts = [])
    (hla : (s.pc i).lastActs = [])
    (hfree : sget 0 (s.pc i).bankFree (16 * (s.hbmLoc (r.bursts.headD 0)).sid + (s.hbmLoc (r.bursts.headD 0)).bank) ≤ (s.pc i).cycle + 1) :
    ∃ e, s.hbmCycle i ecc = (s.setPc i (({ s.pc i with cycle := (s.pc i).cycle + 1, lastReq := s.now } : Pc).rowOpened r (s.hbmLoc (r.bursts.headD 0))
      (s.stack (i / 32)).rate)).setBus (i / 2) e := by
  have ht : (s.pc i).ticked s.now = { s.pc i with cycle := (s.pc i).cycle + 1, lastReq := s.now } := ticked_busy (.inl (by rw [hq]; exact nofun)) _
  obtain ⟨p, hp⟩ : ∃ p : Pc, { s.pc i with cycle := (s.pc i).cycle + 1, lastReq := s.now } = p := ⟨_, rfl⟩
  rw [hp] at ht ⊢
  have hc : s.hbmChoose i p = some (r.urgency p.cycle, .row r) := by
    subst hp
    exact choose_row h hst hdet hbusy hq ha (rowReady_first hdet ha hla harr hfree)
  obtain ⟨e, he⟩ := hbmCycle_acts (ecc := ecc) h hent hl (by rw [ht]; exact hc) (hgrant _)
  refine ⟨e, he.trans ?_⟩
  rw [ht]
  refine (opensRow_alone (s := (s.setPc i p).setBus (i / 2) e) (p := p) (pc_setPc ..) hdet ?_ ?_ ?_ ?_).trans ?_
  · subst hp
    exact hheld
  · subst hp
    exact hq
  · subst hp
    exact ha
  · subst hp
    exact hla
  · exact congrArg (·.setBus (i / 2) e) (setPc_setPc ..)

/-! ### Column commands of a whole burst (R293, R296, R304) -/

/-- A request of one burst that is its own and that it covers wholly. -/
structure OneBurst (r : HReq) (b : Nat) : Prop where
  bursts : r.bursts = [b]
  done : r.done = 0
  hold : r.hold = 0
  seen : r.seen = []
  role : r.role = .own
  addr : r.h.addr = b
  nbytes : r.h.nbytes = 32

theorem OneBurst.readNext {r : HReq} {b : Nat} (h : OneBurst r b) : r.readNext = none := by
  have hw : r.whole b = true := by
    unfold HReq.whole
    rw [h.addr, h.nbytes]
    simp
  unfold HReq.readNext
  split
  · rw [h.bursts]
    simp [hw]
  · rfl

theorem OneBurst.next {r : HReq} {b : Nat} (h : OneBurst r b) : r.next = (b, r.h.data.isSome) := by
  unfold HReq.next
  rw [h.readNext]
  dsimp only
  rw [h.bursts, h.done]
  rfl

theorem OneBurst.part {r : HReq} {b : Nat} (h : OneBurst r b) : r.part b = (0, b, 32) := by
  unfold HReq.part
  rw [h.addr, h.nbytes, Nat.max_self, Nat.min_self]
  dsimp only
  rw [Nat.sub_self, Nat.add_sub_cancel_left]

/-- The only request of an open row has its column command. -/
theorem choose_col {i b : Nat} {p : Pc} {r : HReq} {a : Activation} (hsref : p.sref = false) (hst : p.st = .service) (hdet : s.det = false)
    (hbusy : p.busyUntil ≤ p.cycle) (hq : p.queue = [r]) (ha : p.acts = [a]) (hclosed : a.closed = true) (hsubs : a.subs = [r.sub]) (hready : a.readyAt ≤ p.cycle)
    (harr : r.arrive + 4 ≤ p.cycle) (hcol : p.lastCol = none) (hwrs : p.lastWrs = []) (hb : OneBurst r b) : ∃ u, s.hbmChoose i p = some (u, .col a r) := by
  have hreq : p.reqOf r.sub = some r := by
    unfold Pc.reqOf
    rw [hq]
    simp
  have hmerged : s.merged p a = [r.sub] := by
    unfold State.merged
    rw [hclosed, hsubs]
    rfl
  have hready : s.colReady (s.stack (i / 32)).rate p a = some r := by
    unfold State.colReady
    rw [hmerged]
    simp only [List.findSome?_cons, hreq, hb.next, hcol, hwrs, hb.hold, decide_eq_true hready, decide_eq_true harr, Nat.zero_le, decide_true, List.all_nil, Bool.or_true,
      Bool.and_true, if_true]
  unfold State.hbmChoose
  simp only [hsref, hst, hdet, hq, ha, Nat.not_lt.mpr hbusy, decide_false, Bool.or_false, ne_eq, not_true_eq_false, Bool.false_eq_true, if_false, List.filterMap_cons,
    List.filterMap_nil, hready, Option.map_some, hmerged, List.any_cons, List.any_nil, List.contains_cons, beq_self_eq_true, Bool.true_or, Bool.not_true,
    List.filter_cons_of_neg, not_false_eq_true, List.filter_nil, List.map_nil, List.append_nil, List.map_cons, List.foldl_cons, List.foldl_nil]
  exact ⟨_, rfl⟩

theorem column_clean {i b : Nat} {p : Pc} {r : HReq} {a : Activation} (hp : s.pc i = p) (hq : p.queue = [r]) (ha : p.acts = [a]) (hclosed : a.closed = true)
    (hsubs : a.subs = [r.sub]) (hb : OneBurst r b) (hheld : p.held = false) : ∃ x y, s.column i a r .clean =
      ((s.setPc i { p with acts := [], queue := [], lastCol := some (p.cycle, a.bank / 4, r.h.data.isSome), lastWrs := x, bankFree := y
                           trace := ({ stamp := p.cycle, cmd := if r.h.data.isSome then 5 else 4, sid := a.sid, bank := a.bank, row := a.row
                                       col := (s.hbmLoc b).col, req := some (r.rid, b) } :: p.trace).take 64 }).moveBurst i r b none).subDone i r := by
  have hmerged : s.merged p a = [r.sub] := by
    unfold State.merged
    rw [hclosed, hsubs]
    rfl
  have hnote : ∀ c, p.note c = { p with trace := (c :: p.trace).take 64 } := fun c => if_neg (by rw [hheld]; exact Bool.false_ne_true)
  have hfilter : p.queue.filter (fun x => decide (x.sub ≠ r.sub)) = [] := by
    rw [hq]
    simp
  have herase : p.acts.erase a = [] := by
    rw [ha]
    simp
  unfold State.column
  simp only [hp, hb.next, hb.readNext, hb.bursts, hb.done, hmerged, Option.isSome_none, Bool.not_false, List.length_singleton, decide_true, Bool.and_true,
    List.getLast?_singleton, Bool.true_or, if_true, hnote, herase, hfilter, Bool.false_eq_true, if_false,
    Option.isNone_none]
  exact ⟨_, _, rfl⟩

/-- An uncorrectable read freezes the PC with the request in its queue (R304). -/
theorem column_uncorrectable {i b : Nat} {p : Pc} {r : HReq} {a : Activation} {syn : Reg} (hp : s.pc i = p) (hq : p.queue = [r])
    (hclosed : a.closed = true) (hsubs : a.subs = [r.sub]) (hb : OneBurst r b) (hd : r.h.data = none) : ∃ q : Pc,
      s.column i a r (.uncorrectable syn) = (s.setPc i q).freeze i b syn true (some (i, r.rid)) ∧ q.queue = [r] ∧ q.opens = p.opens ∧ q.mir = p.mir ∧ q.ue = p.ue := by
  have hmerged : s.merged p a = [r.sub] := by
    unfold State.merged
    rw [hclosed, hsubs]
    rfl
  have hspot : r.spot b = b := if_pos hb.role
  have hhome : r.home i = i := by
    unfold HReq.home
    rw [hb.role]
  have hnote : ∀ c, ∃ l, p.note c = { p with trace := l } := fun c => by
    unfold Pc.note
    split
    · exact ⟨_, rfl⟩
    · exact ⟨_, rfl⟩
  obtain ⟨l, hl⟩ := hnote { stamp := p.cycle, cmd := 4, sid := a.sid, bank := a.bank, row := a.row, col := (s.hbmLoc b).col, req := some (r.rid, b) }
  unfold State.column
  simp only [hp, hb.next, hb.readNext, hb.bursts, hb.done, hmerged, hd, Option.isSome_none, Bool.not_false, List.length_singleton, decide_true, Bool.and_true,
    List.getLast?_singleton, Bool.true_or, if_true, Bool.false_eq_true, if_false, hl, hq, hspot, hhome, Option.isNone_some, Option.isSome_some, Bool.and_false, List.map_cons,
    List.map_nil]
  exact ⟨_, rfl, rfl, rfl, rfl, rfl⟩

/-! ### What only moves within the memory (R264, R268) -/

/-- Whether a state differs from another one only in its PCs. -/
def State.pcsOnly (s t : State) : Prop := t = { s with hbm := { s.hbm with pcs := t.hbm.pcs } }

theorem State.pcsOnly.trans {s t u : State} (h : s.pcsOnly t) (k : t.pcsOnly u) : s.pcsOnly u := by
  unfold State.pcsOnly at *
  rw [h] at k
  exact k

theorem setPc_pcsOnly (s : State) (i : Nat) (p : Pc) : s.pcsOnly (s.setPc i p) := rfl

theorem without_pcsOnly (s : State) (i : Nat) (f : HReq → Bool) : s.pcsOnly (s.without i f) := rfl

theorem forget_pcsOnly (s : State) (i rid : Nat) : s.pcsOnly (s.forget i rid) :=
  ((setPc_pcsOnly s i _).trans (without_pcsOnly _ i _)).trans (without_pcsOnly _ (pcPartner i) _)

theorem clearPc_pcsOnly (s : State) (i : Nat) : s.pcsOnly (s.clearPc i) :=
  ((setPc_pcsOnly s i _).trans (without_pcsOnly _ i _)).trans (without_pcsOnly _ (pcPartner i) _)

/-- An answer goes the same way while the network and the address orders are the same. -/
theorem respond_hbm {s t : State} (h : t = { s with hbm := t.hbm }) (hk : t.hbm.stks = s.hbm.stks) (x : Held) (st : Nat) (d : List Byte) :
    t.respond x st d = { s.respond x st d with hbm := t.hbm } := by
  have hend : t.targetEnd x.addr = s.targetEnd x.addr := by
    have hloc : ∀ a, t.hbmLoc a = s.hbmLoc a := fun a => by
      unfold State.hbmLoc State.stack
      rw [hk]
    have hred : ∀ c, t.redir c = s.redir c := fun c => by
      rw [h]
      rfl
    unfold State.targetEnd
    simp only [hloc, hred]
  have hport : t.targetPort x.who x.addr = s.targetPort x.who x.addr := by
    unfold State.targetPort
    rw [hend]
  unfold State.respond
  rw [hend, hport]
  split
  · exact h
  · rw [h]
    rfl

theorem portAnswered_pend (s : State) (r p k : Nat) : ((s.portAnswered r p).router k).pend = (s.router k).pend := by
  unfold State.portAnswered
  by_cases hk : k = r
  · rw [hk, router_setRouter]
  · rw [router_setRouter_ne _ _ hk]

/-- An answer pends no change of a router. -/
theorem respond_pend (s : State) (x : Held) (st : Nat) (d : List Byte) (k : Nat) : ((s.respond x st d).router k).pend = (s.router k).pend := by
  unfold State.respond
  split
  · rfl
  · exact portAnswered_pend ..

/-- A PC that holds nothing has nothing to answer as it drops its requests. -/
theorem dropPc_empty {i : Nat} (st : Nat) (h : s.openAtPc i = []) : ∃ m, s.dropPc i st = ({ s with hbm := { s.hbm with ports := m } } : State).clearPc i := by
  unfold State.dropPc
  rw [h]
  exact ⟨_, rfl⟩

/-! ### Freeze of a PC that is of no pair (R304, R305) -/

theorem note_parts (p : Pc) (c : HCmd) : ∃ l, p.note c = { p with trace := l } := by
  unfold Pc.note
  split
  · exact ⟨_, rfl⟩
  · exact ⟨_, rfl⟩

/-- Refreshes change what counts them, and the trace. -/
theorem refresh_parts (p : Pc) (fast det : Bool) (n : Nat) : ∃ l, (p.refresh fast det n) = { p with
    trace := l, owed := 0, runs := if 1 < n then satAdd p.runs 1 0xFFFF else p.runs, pauseOwed := decide (0 < n) || p.pauseOwed
    busyUntil := max p.busyUntil p.cycle + (if det then n * 760 else n * hcyc fast 4100) } := by
  have hfold : ∀ (l : List Nat) (q : Pc), ∃ m, l.foldl (fun p _ => p.note { stamp := p.cycle, cmd := 7 }) q = { q with trace := m } := by
    intro l
    induction l with
    | nil => exact fun q => ⟨q.trace, rfl⟩
    | cons x l ih =>
      intro q
      obtain ⟨m, hm⟩ := note_parts q { stamp := q.cycle, cmd := 7 }
      obtain ⟨k, hk⟩ := ih { q with trace := m }
      exact ⟨k, by rw [List.foldl_cons, hm, hk]⟩
  obtain ⟨m, hm⟩ := hfold (List.range n) p
  unfold Pc.refresh
  dsimp only
  rw [hm]
  exact ⟨_, rfl⟩

/-- The state in which a freeze has recorded the failure. -/
def State.recordsFailure (s : State) (i addr : Nat) (syn : Reg) (ue : Bool) : State :=
  let p := s.pc i
  let k := s.stack (i / 32)
  let p := if p.owed = 0 then p else p.refresh k.rate s.det p.owed
  (s.setPc i { p with faddr := addr, fsyn := syn, fue := ue, capar := !ue, ue := if ue then satAdd p.ue 1 0xFFFF else p.ue }).log 0x30 (pcData i + (if ue then 1 else 2))

/-- The end of a freeze: what the PC still holds is answered DEAD, and its absorb mode pends. -/
def State.endsFrozen (s : State) (i : Nat) : State := (((s.stopPc i .frozen).dropPc i 4).setPcDead i true)

theorem recordsFailure_pc (s : State) (i addr : Nat) (syn : Reg) (ue : Bool) : ∃ x : Pc, x.queue = (s.pc i).queue ∧ x.opens = (s.pc i).opens ∧ x.entering = (s.pc i).entering ∧
    x.mir = (s.pc i).mir ∧ x.faddr = addr ∧ x.fsyn = syn ∧ x.fue = ue ∧ x.capar = (!ue) ∧ x.ue = (if ue then min ((s.pc i).ue + 1) 0xFFFF else (s.pc i).ue) ∧
    ∃ r, s.recordsFailure i addr syn ue = { s.setPc i x with rel := r } := by
  obtain ⟨q, hq⟩ : ∃ q : Pc, (if (s.pc i).owed = 0 then s.pc i else (s.pc i).refresh (s.stack (i / 32)).rate s.det (s.pc i).owed) = q := ⟨_, rfl⟩
  have hqp : q.queue = (s.pc i).queue ∧ q.opens = (s.pc i).opens ∧ q.entering = (s.pc i).entering ∧ q.mir = (s.pc i).mir ∧ q.ue = (s.pc i).ue := by
    rw [← hq]
    split
    · exact ⟨rfl, rfl, rfl, rfl, rfl⟩
    · obtain ⟨l, hl⟩ := refresh_parts (s.pc i) (s.stack (i / 32)).rate s.det (s.pc i).owed
      rw [hl]
      exact ⟨rfl, rfl, rfl, rfl, rfl⟩
  obtain ⟨h1, h2, h3, h4, h5⟩ := hqp
  unfold State.recordsFailure
  dsimp only
  rw [hq]
  obtain ⟨r, hr, -⟩ := log_eq (s.setPc i { q with faddr := addr, fsyn := syn, fue := ue, capar := !ue, ue := if ue then satAdd q.ue 1 0xFFFF else q.ue }) 0x30
    (pcData i + (if ue then 1 else 2))
  refine ⟨{ q with faddr := addr, fsyn := syn, fue := ue, capar := !ue, ue := if ue then satAdd q.ue 1 0xFFFF else q.ue }, h1, h2, h3, h4, rfl, rfl, rfl, rfl, ?_, r, hr⟩
  rw [← h5]
  rfl

/-- The failing request is answered DATAERR (R305). -/
def State.answersFailed (s : State) (bad : Option (Nat × Nat)) : State :=
  match bad with
  | some (h, rid) => match (s.pc h).opens.find? (fun (o : HOpen) => decide (o.rid = rid)) with
    | some o => (s.forget h rid).respond o.h 6 []
    | none => s
  | none => s

theorem answersFailed_handles (s : State) (bad : Option (Nat × Nat)) : s.handles (s.answersFailed bad) := by
  unfold State.answersFailed
  split
  · split
    · exact (forget_handles ..).trans (respond_handles ..)
    · exact handles_refl s
  · exact handles_refl s

/-- A PC in a state in which requests have been handled keeps its own state. -/
theorem State.handles.mir {s t : State} (h : s.handles t) (i : Nat) : (t.pc i).mir = (s.pc i).mir := (congrArg Pc.mir (h.2.2 i) :)

theorem State.handles.sec {s t : State} (h : s.handles t) : t.sec = s.sec := (congrArg State.sec h.1 :)

theorem State.handles.now {s t : State} (h : s.handles t) : t.now = s.now := (congrArg State.now h.1 :)

theorem stopPc_endsFrozen (v : State) (i : Nat) : (v.stopPc i .frozen).handles (v.endsFrozen i) := (dropPc_handles _ i 4).trans (setPcDead_handles _ i true)

theorem stopPc_pc (v : State) (i : Nat) (st : PcSt) : (v.stopPc i st).pc i = { v.pc i with st := st, held := true, acts := [] } := pc_setPc ..

theorem pc_rel (s : State) (r : Rel) (i : Nat) : ({ s with rel := r } : State).pc i = s.pc i := rfl

/-- The freeze of a PC that is no anchor and is being wiped by nothing, without a partner. -/
theorem freeze_alone {i addr : Nat} {syn : Reg} {ue : Bool} {bad : Option (Nat × Nat)} (hmir : (s.pc i).mir = false) (ha : anchorPc i = false)
    (hw : sget 0 s.sec.wipePcs i ≤ s.now) :
    s.freeze i addr syn ue bad = (((s.recordsFailure i addr syn ue).answersFailed bad).endsFrozen i).log 0x23 (pcRouter i * 2 ^ 24 + 2 ^ 16 + 2 ^ (i % 2)) := by
  obtain ⟨x, -, -, -, hxm, -, -, -, -, -, r, hr⟩ := recordsFailure_pc s i addr syn ue
  obtain ⟨u, hu⟩ : ∃ u, s.recordsFailure i addr syn ue = u := ⟨_, rfl⟩
  have hum : (u.pc i).mir = false := by
    rw [← hu, hr, pc_rel, pc_setPc, hxm, hmir]
  have hsys : u.sec = s.sec ∧ u.now = s.now := by
    rw [← hu, hr]
    exact ⟨rfl, rfl⟩
  have hpaired : u.paired i = false := by
    unfold State.paired
    rw [hum]
    rfl
  obtain ⟨v, hv⟩ : ∃ v, u.answersFailed bad = v := ⟨_, rfl⟩
  have hvh : u.handles v := hv ▸ answersFailed_handles u bad
  obtain ⟨t, ht⟩ : ∃ t, v.endsFrozen i = t := ⟨_, rfl⟩
  have hth : (v.stopPc i .frozen).handles t := ht ▸ stopPc_endsFrozen v i
  have htm : (t.pc i).mir = false := by
    rw [hth.mir, stopPc_pc]
    exact (hvh.mir i).trans hum
  obtain ⟨r', hr', -⟩ := log_eq t 0x23 (pcRouter i * 2 ^ 24 + 2 ^ 16 + 2 ^ (i % 2))
  have hwipe : ¬ (t.log 0x23 (pcRouter i * 2 ^ 24 + 2 ^ 16 + 2 ^ (i % 2))).now < sget 0 (t.log 0x23 (pcRouter i * 2 ^ 24 + 2 ^ 16 + 2 ^ (i % 2))).sec.wipePcs i := by
    have h1 : t.sec = s.sec := hth.sec.trans (hvh.sec.trans hsys.1)
    have h2 : t.now = s.now := hth.now.trans (hvh.now.trans hsys.2)
    rw [hr']
    change ¬ t.now < sget 0 t.sec.wipePcs i
    rw [h1, h2]
    exact Nat.not_lt.mpr hw
  unfold State.freeze
  extract_lets p k p' s1 q s2 s3 s4 s5 s6
  have hs2 : s2 = u := hu
  have hs3 : s3 = v := hv ▸ hs2 ▸ rfl
  have hs4 : s4 = t := ht ▸ hs3 ▸ rfl
  have hs5 : s5 = t := (if_neg (by rw [hs4, htm]; exact Bool.false_ne_true)).trans hs4
  have hs6 : s6 = t.log 0x23 (pcRouter i * 2 ^ 24 + 2 ^ 16 + 2 ^ (i % 2)) := hs5 ▸ rfl
  rw [hs2, if_neg (by rw [hpaired]; exact Bool.false_ne_true), if_pos (by rw [ha]; rfl), hs6, if_neg hwipe, hu, hv, ht]

/-- What a freeze leaves of a PC that holds nothing more than the failing request (R305). -/
structure FrozenBy (s t : State) (i addr : Nat) (syn : Reg) (ue : Bool) : Prop where
  st : (t.pc i).st = .frozen
  held : (t.pc i).held = true
  fue : (t.pc i).fue = ue
  capar : (t.pc i).capar = !ue
  fsyn : (t.pc i).fsyn = syn
  faddr : (t.pc i).faddr = addr
  count : (t.pc i).ue = if ue then min ((s.pc i).ue + 1) 0xFFFF else (s.pc i).ue
  opens : (t.pc i).opens = []
  pend : (t.router (pcRouter i)).pend = (s.router (pcRouter i)).pend ++ [RtrChange.pcDead (i % 2) true]
  mem : t.hbm.mem = s.hbm.mem

theorem hbmLoc_pcs (s : State) (m : SMap Pc) (a : Nat) : ({ s with hbm := { s.hbm with pcs := m } } : State).hbmLoc a = s.hbmLoc a := rfl

theorem openAtPc_pcs {s t : State} (h : s.pcsOnly t) (j : Nat) :
    t.openAtPc j = (t.pc j).opens.map (·.h) ++ (sget [] s.hbm.ports (j / 2)).filter (fun h => decide ((s.hbmLoc h.addr).pc = j)) := by
  have hports : t.hbm.ports = s.hbm.ports := (congrArg (·.hbm.ports) h :)
  have hloc : ∀ a, t.hbmLoc a = s.hbmLoc a := fun a => by
    rw [h, hbmLoc_pcs]
  unfold State.openAtPc
  simp only [hports, hloc]

theorem precharge_queue (p : Pc) (fast : Bool) (a : Activation) : (p.precharge fast a).queue = p.queue := by
  obtain ⟨l, hl⟩ := note_parts p { stamp := p.cycle, cmd := 6, sid := a.sid, bank := a.bank, row := a.row }
  unfold Pc.precharge
  dsimp only
  rw [hl]

theorem foldl_precharge_queue (fast : Bool) (l : List Activation) : ∀ p : Pc, (l.foldl (fun p a => p.precharge fast a) p).queue = p.queue := by
  induction l with
  | nil => exact fun _ => rfl
  | cons a l ih => exact fun p => (ih _).trans (precharge_queue p fast a)

theorem without_queue (s : State) (i : Nat) (f : HReq → Bool) (k : Nat) :
    ((s.without i f).pc k).queue = if k = i then (s.pc i).queue.filter (fun r => !f r) else (s.pc k).queue := by
  rw [State.without]
  by_cases hk : k = i
  · rw [if_pos hk, hk, pc_setPc, foldl_precharge_queue]
  · rw [if_neg hk, pc_setPc_ne _ _ hk]

theorem pcPartner_ne (i : Nat) : i ≠ pcPartner i := by
  unfold pcPartner
  split
  · omega
  · omega

/-- A PC that forgets its open requests keeps what belongs to another PC. -/
theorem clearPc_queue (s : State) (i : Nat) : ((s.clearPc i).pc i).queue = (s.pc i).queue.filter (fun r => !decide (r.home i = i)) := by
  unfold State.clearPc
  dsimp only
  rw [without_queue, if_neg (pcPartner_ne i), without_queue, if_pos rfl, pc_setPc]

theorem clearPc_foreign (s : State) (i : Nat) : ∀ r ∈ ((s.clearPc i).pc i).queue, r ∈ (s.pc i).queue ∧ r.home i ≠ i := by
  intro r hr
  rw [clearPc_queue, List.mem_filter] at hr
  exact ⟨hr.1, by simpa using hr.2⟩

theorem forget_queue (s : State) (i rid : Nat) : ∀ r ∈ ((s.forget i rid).pc i).queue, r ∈ (s.pc i).queue := by
  intro r hr
  unfold State.forget at hr
  dsimp only at hr
  rw [without_queue, if_neg (pcPartner_ne i), without_queue, if_pos rfl, pc_setPc, List.mem_filter] at hr
  exact hr.1

theorem endsFrozen_opens (v : State) (i : Nat) : ((v.endsFrozen i).pc i).opens = [] := by
  unfold State.endsFrozen
  rw [setPcDead_pc]
  exact dropPc_opens ..

theorem setPcDead_packets (v : State) (i : Nat) (d : Bool) : (v.setPcDead i d).noc.packets = v.noc.packets := rfl

theorem pc_ports (s : State) (m : SMap (List Held)) (i : Nat) : ({ s with hbm := { s.hbm with ports := m } } : State).pc i = s.pc i := rfl

/-- What the end of a freeze leaves of a PC that holds nothing. -/
theorem endsFrozen_leaves {v : State} {i : Nat} (h : v.openAtPc i = []) : let t := v.endsFrozen i
    (t.pc i).still = { (v.pc i).still with st := .frozen, held := true } ∧ (t.pc i).opens = [] ∧ t.noc.packets = v.noc.packets ∧
      (t.router (pcRouter i)).pend = (v.router (pcRouter i)).pend ++ [RtrChange.pcDead (i % 2) true] ∧ t.hbm.mem = v.hbm.mem ∧
      ∀ r ∈ (t.pc i).queue, r ∈ (v.pc i).queue ∧ r.home i ≠ i := by
  have hopen : (v.stopPc i .frozen).openAtPc i = [] := by
    rw [openAtPc_pcs (show v.pcsOnly (v.stopPc i .frozen) from rfl), stopPc_pc]
    exact h
  have hstill := (stopPc_endsFrozen v i).2.2 i
  rw [stopPc_pc] at hstill
  obtain ⟨m, hm⟩ := dropPc_empty 4 hopen
  have hc := clearPc_pcsOnly ({ v.stopPc i .frozen with hbm := { (v.stopPc i .frozen).hbm with ports := m } } : State) i
  rw [← hm] at hc
  have hnoc : ((v.stopPc i .frozen).dropPc i 4).noc = v.noc := (congrArg State.noc hc :)
  have hmem : (v.endsFrozen i).hbm.mem = v.hbm.mem := (stopPc_endsFrozen v i).2.1
  have hrouter : ((v.stopPc i .frozen).dropPc i 4).router (pcRouter i) = v.router (pcRouter i) := by
    unfold State.router
    rw [hnoc]
  refine ⟨hstill, endsFrozen_opens v i, ?_, ?_, hmem, ?_⟩
  · unfold State.endsFrozen
    rw [setPcDead_packets, hnoc]
  · unfold State.endsFrozen
    rw [setPcDead_pend, hrouter]
  · unfold State.endsFrozen
    rw [setPcDead_pc, hm]
    intro r hr
    obtain ⟨h1, h2⟩ := clearPc_foreign _ i r hr
    rw [pc_ports, stopPc_pc] at h1
    exact ⟨h1, h2⟩

theorem freeze_frozen {i addr : Nat} {syn : Reg} {ue : Bool} {bad : Option (Nat × Nat)} (hmir : (s.pc i).mir = false) (ha : anchorPc i = false)
    (hw : sget 0 s.sec.wipePcs i ≤ s.now) (hempty : ((s.recordsFailure i addr syn ue).answersFailed bad).openAtPc i = [])
    (hpend : (((s.recordsFailure i addr syn ue).answersFailed bad).router (pcRouter i)).pend = (s.router (pcRouter i)).pend) :
    FrozenBy s (s.freeze i addr syn ue bad) i addr syn ue ∧
      (s.freeze i addr syn ue bad).noc.packets = ((s.recordsFailure i addr syn ue).answersFailed bad).noc.packets ∧
      ∀ r ∈ ((s.freeze i addr syn ue bad).pc i).queue, r ∈ (((s.recordsFailure i addr syn ue).answersFailed bad).pc i).queue ∧ r.home i ≠ i := by
  obtain ⟨x, hxq, hxo, hxe, hxm, hx1, hx2, hx3, hx4, hx5, r, hr⟩ := recordsFailure_pc s i addr syn ue
  rw [freeze_alone hmir ha hw]
  have hvh := answersFailed_handles (s.recordsFailure i addr syn ue) bad
  obtain ⟨v, hv⟩ : ∃ v, (s.recordsFailure i addr syn ue).answersFailed bad = v := ⟨_, rfl⟩
  rw [hv] at hvh hempty hpend ⊢
  rw [hr] at hvh
  have hvs : (v.pc i).still = x.still := by
    rw [hvh.2.2 i, pc_rel, pc_setPc]
  obtain ⟨h1, h2, h3, h4, h5, h6⟩ := endsFrozen_leaves hempty
  obtain ⟨t, ht⟩ : ∃ t, v.endsFrozen i = t := ⟨_, rfl⟩
  rw [ht] at h1 h2 h3 h4 h5 h6 ⊢
  obtain ⟨r', hr', -⟩ := log_eq t 0x23 (pcRouter i * 2 ^ 24 + 2 ^ 16 + 2 ^ (i % 2))
  rw [hr']
  rw [hvs] at h1
  exact ⟨⟨(congrArg Pc.st h1 :), (congrArg Pc.held h1 :), (congrArg Pc.fue h1 :).trans hx3, (congrArg Pc.capar h1 :).trans hx4, (congrArg Pc.fsyn h1 :).trans hx2,
    (congrArg Pc.faddr h1 :).trans hx1, (congrArg Pc.ue h1 :).trans hx5, h2, h4.trans (by rw [hpend]), h5.trans hvh.2.1⟩, h3, h6⟩

/-- The only open request of a PC is answered as the failing one. -/
theorem answersFailed_one {i rid : Nat} {o : HOpen} (ho : (s.pc i).opens = [o]) (hr : o.rid = rid) :
    s.answersFailed (some (i, rid)) = (s.forget i rid).respond o.h 6 [] := by
  unfold State.answersFailed
  dsimp only
  rw [ho, List.find?_cons_of_pos (by rw [hr]; exact decide_eq_true rfl)]

theorem forget_opens {i rid : Nat} {o : HOpen} (ho : (s.pc i).opens = [o]) (hr : o.rid = rid) : ((s.forget i rid).pc i).opens = [] := by
  unfold State.forget
  dsimp only
  rw [without_opens, without_opens, pc_setPc, ho]
  simp [hr]

end

end Sys2Proof.Machine

/-! O42: freezes and column commands of a PC with one request; refresh, self-refresh and training. -/

namespace Sys2Proof.Machine

section
variable {s : State}

/-! ### A freeze that answers the only open request (R304, R305) -/

theorem respond_rel (s : State) (r : Rel) (x : Held) (st : Nat) (d : List Byte) :
    ({ s with rel := r } : State).respond x st d = { s.respond x st d with rel := r } := by
  unfold State.respond
  split
  · rfl
  · rfl

/-- An answer leaves the memory side of the state as it is. -/
theorem respond_keeps (s : State) (x : Held) (st : Nat) (d : List Byte) : (s.respond x st d).hbm = s.hbm := by
  unfold State.respond
  split
  · rfl
  · rfl

/-- The failing request of a freeze is answered, and nothing else is open. -/
theorem answersFailed_alone {i rid addr : Nat} {syn : Reg} {ue : Bool} {o : HOpen} (ho : (s.pc i).opens = [o]) (hr : o.rid = rid)
    (hports : sget [] s.hbm.ports (i / 2) = []) :
    let v := (s.recordsFailure i addr syn ue).answersFailed (some (i, rid))
    v.noc.packets = (s.respond o.h 6 []).noc.packets ∧ v.openAtPc i = [] ∧ (v.router (pcRouter i)).pend = (s.router (pcRouter i)).pend ∧
      ∀ r ∈ (v.pc i).queue, r ∈ (s.pc i).queue := by
  obtain ⟨x, hxq, hxo, -, -, -, -, -, -, -, r, hx⟩ := recordsFailure_pc s i addr syn ue
  have hpc : (({ s.setPc i x with rel := r } : State).pc i) = x := (pc_rel ..).trans (pc_setPc ..)
  rw [hx, answersFailed_one (by rw [hpc, hxo, ho]) hr]
  dsimp only
  obtain ⟨u, hu⟩ : ∃ u, ({ s.setPc i x with rel := r } : State).forget i rid = u := ⟨_, rfl⟩
  have hu1 : ({ s.setPc i x with rel := r } : State).pcsOnly u := hu ▸ forget_pcsOnly ..
  have hu2 : (u.pc i).opens = [] := hu ▸ forget_opens (by rw [hpc, hxo, ho]) hr
  have hu3 : ∀ q ∈ (u.pc i).queue, q ∈ (s.pc i).queue := fun q hq => by
    have := forget_queue _ _ _ q (hu ▸ hq)
    rwa [hpc, hxq] at this
  rw [hu]
  obtain ⟨m, hm⟩ : ∃ m, u.hbm.pcs = m := ⟨_, rfl⟩
  have hus : u = { ({ s with hbm := { s.hbm with pcs := m } } : State) with rel := r } := hm ▸ hu1
  have hresp : u.respond o.h 6 [] = { ({ s.respond o.h 6 [] with hbm := { s.hbm with pcs := m } } : State) with rel := r } := by
    rw [hus, respond_rel]
    exact congrArg (fun w : State => { w with rel := r }) (respond_hbm (t := { s with hbm := { s.hbm with pcs := m } }) rfl rfl o.h 6 [])
  have hvp : ∀ k, (u.respond o.h 6 []).pc k = u.pc k := fun k => congrArg (fun b : Hbm => sget ({} : Pc) b.pcs k) (respond_keeps u o.h 6 [])
  refine ⟨by rw [hresp], ?_, ?_, ?_⟩
  · have hp : (u.respond o.h 6 []).hbm.ports = s.hbm.ports := (congrArg Hbm.ports (respond_keeps u o.h 6 [])).trans (by rw [hus])
    unfold State.openAtPc
    rw [hvp, hu2, hp, hports]
    rfl
  · rw [respond_pend, hus]
    rfl
  · intro q hq
    rw [hvp] at hq
    exact hu3 q hq

/-- The freeze of a PC with one open request, which failed. -/
theorem freeze_one {i addr rid : Nat} {syn : Reg} {ue : Bool} {o : HOpen} (hmir : (s.pc i).mir = false) (ha : anchorPc i = false)
    (hw : sget 0 s.sec.wipePcs i ≤ s.now) (ho : (s.pc i).opens = [o]) (hr : o.rid = rid) (hports : sget [] s.hbm.ports (i / 2) = []) :
    FrozenBy s (s.freeze i addr syn ue (some (i, rid))) i addr syn ue ∧
      (s.freeze i addr syn ue (some (i, rid))).noc.packets = (s.respond o.h 6 []).noc.packets ∧
      ∀ r ∈ ((s.freeze i addr syn ue (some (i, rid))).pc i).queue, r ∈ (s.pc i).queue ∧ r.home i ≠ i := by
  obtain ⟨h1, h2, h3, h4⟩ := answersFailed_alone (addr := addr) (syn := syn) (ue := ue) ho hr hports
  obtain ⟨k1, k2, k3⟩ := freeze_frozen hmir ha hw h2 h3
  exact ⟨k1, k2.trans h1, fun r hr => ⟨h4 r (k3 r hr).1, (k3 r hr).2⟩⟩

/-- The freeze of a PC without open requests. -/
theorem freeze_idle {i addr : Nat} {syn : Reg} {ue : Bool} (hmir : (s.pc i).mir = false) (ha : anchorPc i = false) (hw : sget 0 s.sec.wipePcs i ≤ s.now)
    (ho : (s.pc i).opens = []) (hports : sget [] s.hbm.ports (i / 2) = []) :
    FrozenBy s (s.freeze i addr syn ue none) i addr syn ue ∧ (s.freeze i addr syn ue none).noc.packets = s.noc.packets := by
  obtain ⟨x, -, hxo, -, -, -, -, -, -, -, r, hx⟩ := recordsFailure_pc s i addr syn ue
  have hopen : ((s.recordsFailure i addr syn ue).answersFailed none).openAtPc i = [] := by
    rw [hx]
    unfold State.answersFailed State.openAtPc
    dsimp only
    rw [pc_rel, pc_setPc, hxo, ho]
    exact (congrArg (fun l : List Held => l.filter _) hports :)
  obtain ⟨k1, k2, -⟩ := freeze_frozen (addr := addr) (syn := syn) (ue := ue) (bad := none) hmir ha hw hopen (by rw [hx]; rfl)
  exact ⟨k1, k2.trans (by rw [hx]; rfl)⟩

/-! ### Column commands of a request of one burst (R293, R296, R304) -/

/-- A PC in whose cycle the only request, of one burst, has its last column command. -/
structure ReadyColumn (s : State) (i b : Nat) (r : HReq) (a : Activation) : Prop where
  awake : (s.pc i).sref = false
  st : (s.pc i).st = .service
  mode : s.det = false
  busy : (s.pc i).busyUntil ≤ (s.pc i).cycle + 1
  entering : (s.pc i).entering = []
  leaving : (s.pc i).leaving = []
  held : (s.pc i).held = false
  grant : ∀ u, (s.hbmGrant i (some u)).1 = true
  queue : (s.pc i).queue = [r]
  arrive : r.arrive + 4 ≤ (s.pc i).cycle + 1
  acts : (s.pc i).acts = [a]
  closed : a.closed = true
  subs : a.subs = [r.sub]
  readyAt : a.readyAt ≤ (s.pc i).cycle + 1
  lastCol : (s.pc i).lastCol = none
  lastWrs : (s.pc i).lastWrs = []
  burst : OneBurst r b
  opens : (s.pc i).opens = [{ rid := r.rid, h := r.h, left := 1 }]

/-- A PC that counts a cycle with work to do. -/
def Pc.worked (p : Pc) (now : Nat) : Pc := { p with cycle := p.cycle + 1, lastReq := now }

/-- The only request of an open row has its column command in this cycle. -/
theorem schedule_col {i b : Nat} {r : HReq} {a : Activation} {ecc : EccEvent} (h : ReadyColumn s i b r a) :
    ∃ e, s.hbmCycle i ecc = ((s.setPc i ((s.pc i).worked s.now)).setBus (i / 2) e).column i a r ecc := by
  have ht : (s.pc i).ticked s.now = (s.pc i).worked s.now := ticked_busy (.inl (by rw [h.queue]; exact nofun)) _
  obtain ⟨u, hc⟩ := choose_col (s := s) (i := i) (p := (s.pc i).worked s.now) h.awake h.st h.mode h.busy h.queue h.acts h.closed h.subs h.readyAt h.arrive h.lastCol
    h.lastWrs h.burst
  obtain ⟨e, he⟩ := hbmCycle_acts (ecc := ecc) h.awake h.entering h.leaving (by rw [ht]; exact hc) (h.grant _)
  exact ⟨e, he.trans (by rw [ht]; rfl)⟩

/-- A byte reads the same while the bytes, the keys, the orders and the training are the same. -/
theorem hbmByte_same {s t : State} (hm : t.hbm.mem = s.hbm.mem) (hk : t.hbm.stks = s.hbm.stks) (hs : t.sec = s.sec)
    (ht : ∀ k, (t.pc k).trained = (s.pc k).trained) (a : Nat) : t.hbmByte a = s.hbmByte a := by
  have hloc : t.hbmLoc a = s.hbmLoc a := by
    unfold State.hbmLoc State.stack
    rw [hk]
  have hkey : t.unitKey a = s.unitKey a := by
    unfold State.unitKey State.unitTag State.key
    rw [hs]
  unfold State.hbmByte State.hbmBlank
  rw [hm, hloc, ht, hkey]

theorem zipIdx_map_range {α : Type} (f : Nat → α) (n : Nat) :
    ((List.range n).map f).zipIdx.map (fun e => (0 + e.2, e.1)) = (List.range n).map (fun j => (j, f j)) :=
  List.ext_getElem (by simp) fun k h1 h2 => by simp

/-- The data of a read of a whole burst. -/
theorem moveBurst_read {i b : Nat} {p : Pc} {r : HReq} {o : HOpen} (hp : s.pc i = p) (hb : OneBurst r b) (hd : r.h.data = none) (ho : p.opens = [o])
    (hr : o.rid = r.rid) : s.moveBurst i r b none =
      s.setPc i { p with opens := [{ o with got := o.got ++ (List.range 32).map (fun j => (j, s.hbmByte (b + j))) }] } := by
  have hhome : r.home i = i := by
    unfold HReq.home
    rw [hb.role]
  unfold State.moveBurst
  rw [hb.part]
  dsimp only
  rw [hd]
  dsimp only
  rw [hhome, hp, ho, List.map_singleton, if_pos hr]
  simp only [hb.role, if_true]
  rw [zipIdx_map_range]

/-- The bytes of a write of a whole burst. -/
theorem moveBurst_write {i b : Nat} {r : HReq} {d : List Byte} (hb : OneBurst r b) (hd : r.h.data = some d) :
    s.moveBurst i r b none = s.hbmWrite b (slice d 0 32) := by
  have hspot : r.spot b = b := if_pos hb.role
  unfold State.moveBurst
  rw [hb.part]
  dsimp only
  rw [hd]
  dsimp only
  rw [hb.seen, List.find?_nil, hspot]

theorem subDone_read {i : Nat} {r : HReq} (hrole : r.role = .own) (hd : r.h.data = none) :
    s.subDone i r = s.setPc i { s.pc i with leaving := (s.pc i).leaving ++ [((s.pc i).cycle + 41, i, r.rid)] } := by
  have hhome : r.home i = i := by
    unfold HReq.home
    rw [hrole]
  unfold State.subDone
  rw [hd, if_pos (by decide), hhome]

/-- A write of a PC of no pair ends with its request (R296). -/
theorem subDone_write {i : Nat} {r : HReq} {d : List Byte} (hrole : r.role = .own) (hd : r.h.data = some d) (hmir : (s.pc i).mir = false) :
    s.subDone i r = s.hbmDone i r.rid := by
  have hhome : r.home i = i := by
    unfold HReq.home
    rw [hrole]
  have hpaired : s.paired i = false := by
    unfold State.paired
    rw [hmir]
    rfl
  unfold State.subDone
  rw [hd, Option.isNone_some, if_neg Bool.false_ne_true, hpaired, Bool.and_false, if_neg Bool.false_ne_true, hhome]

/-- The column command of a read of one burst, its last (R293, R296). -/
theorem column_reads {i b : Nat} {p : Pc} {r : HReq} {a : Activation} {o : HOpen} (hp : s.pc i = p) (hq : p.queue = [r]) (ha : p.acts = [a])
    (hclosed : a.closed = true) (hsubs : a.subs = [r.sub]) (hb : OneBurst r b) (hheld : p.held = false) (hd : r.h.data = none) (ho : p.opens = [o])
    (hr : o.rid = r.rid) : ∃ q : Pc, s.column i a r .clean = s.setPc i q ∧ q.queue = [] ∧ q.acts = [] ∧
      q.leaving = p.leaving ++ [(p.cycle + 41, i, r.rid)] ∧ q.opens = [{ o with got := o.got ++ (List.range 32).map (fun j => (j, s.hbmByte (b + j))) }] ∧
      q.lastCol = some (p.cycle, a.bank / 4, false) ∧ q.trace = ({ stamp := p.cycle, cmd := 4, sid := a.sid, bank := a.bank, row := a.row
                                                                   col := (s.hbmLoc b).col, req := some (r.rid, b) } :: p.trace).take 64 := by
  obtain ⟨x, y, hc⟩ := column_clean hp hq ha hclosed hsubs hb hheld
  obtain ⟨q, hq'⟩ : ∃ q : Pc, { p with
    acts := [], queue := [], lastCol := some (p.cycle, a.bank / 4, r.h.data.isSome), lastWrs := x, bankFree := y
    trace := ({ stamp := p.cycle, cmd := if r.h.data.isSome then 5 else 4, sid := a.sid, bank := a.bank, row := a.row
                col := (s.hbmLoc b).col, req := some (r.rid, b) } :: p.trace).take 64 } = q := ⟨_, rfl⟩
  rw [hq'] at hc
  have hpc : (s.setPc i q).pc i = q := pc_setPc ..
  have hqo : q.opens = [o] := by
    rw [← hq', ← ho]
  have hbyte : ∀ z, (s.setPc i q).hbmByte z = s.hbmByte z := fun z => hbmByte_same (s := s) (t := s.setPc i q) rfl rfl rfl (fun k => by
    by_cases hk : k = i
    · rw [hk, hpc, hp, ← hq']
    · rw [pc_setPc_ne _ _ hk]) z
  rw [moveBurst_read hpc hb hd hqo hr, setPc_setPc, subDone_read hb.role hd, pc_setPc, setPc_setPc] at hc
  simp only [hbyte] at hc
  refine ⟨_, hc, ?_⟩
  dsimp only
  subst hq'
  rw [hd]
  exact ⟨rfl, rfl, rfl, rfl, rfl, rfl⟩

/-- The column command of a write of one burst, its last (R293, R296). -/
theorem column_writes {i b : Nat} {p : Pc} {r : HReq} {a : Activation} {o : HOpen} {d : List Byte} (hp : s.pc i = p) (hq : p.queue = [r]) (ha : p.acts = [a])
    (hclosed : a.closed = true) (hsubs : a.subs = [r.sub]) (hb : OneBurst r b) (hheld : p.held = false) (hd : r.h.data = some d) (ho : p.opens = [o])
    (hr : o.rid = r.rid) (hleft : o.left = 1) (hod : o.h.data = some d) (hmir : p.mir = false) : ∃ q : Pc,
      s.column i a r .clean = ((s.hbmWrite b (slice d 0 32)).setPc i q).respond o.h 0 [] ∧ q.queue = [] ∧ q.acts = [] ∧ q.opens = [] ∧
      q.lastCol = some (p.cycle, a.bank / 4, true) := by
  obtain ⟨x, y, hc⟩ := column_clean hp hq ha hclosed hsubs hb hheld
  obtain ⟨q, hq'⟩ : ∃ q : Pc, { p with
    acts := [], queue := [], lastCol := some (p.cycle, a.bank / 4, r.h.data.isSome), lastWrs := x, bankFree := y
    trace := ({ stamp := p.cycle, cmd := if r.h.data.isSome then 5 else 4, sid := a.sid, bank := a.bank, row := a.row
                col := (s.hbmLoc b).col, req := some (r.rid, b) } :: p.trace).take 64 } = q := ⟨_, rfl⟩
  rw [hq'] at hc
  have hqo : q.opens = [o] := by
    rw [← hq', ← ho]
  have hqm : q.mir = false := by
    rw [← hq', ← hmir]
  have hpc : ((s.setPc i q).hbmWrite b (slice d 0 32)).pc i = q := (hbmWrite_pc ..).trans (pc_setPc ..)
  rw [moveBurst_write hb hd, subDone_write hb.role hd (by rw [hpc, hqm]), hbmDone_last (by rw [hpc, hqo]) hr hleft, hpc, hod, if_pos Option.isSome_some] at hc
  refine ⟨{ q with opens := [] }, hc.trans (congrArg (fun u : State => u.respond o.h 0 []) ?_), ?_⟩
  · exact (setPc_setPc (s.hbmWrite b (slice d 0 32)) i q { q with opens := [] })
  · subst hq'
    rw [hd]
    exact ⟨rfl, rfl, rfl, rfl⟩

/-- An uncorrectable read of one burst freezes the PC, with its request the one that failed (R304, R305). -/
theorem column_freezes {i b : Nat} {p : Pc} {r : HReq} {a : Activation} {o : HOpen} {syn : Reg} (hp : s.pc i = p) (hq : p.queue = [r])
    (hclosed : a.closed = true) (hsubs : a.subs = [r.sub]) (hb : OneBurst r b) (hd : r.h.data = none) (ho : p.opens = [o]) (hr : o.rid = r.rid)
    (hmir : p.mir = false) (hanchor : anchorPc i = false) (hw : sget 0 s.sec.wipePcs i ≤ s.now) (hports : sget [] s.hbm.ports (i / 2) = []) :
    FrozenBy s (s.column i a r (.uncorrectable syn)) i b syn true ∧
      (s.column i a r (.uncorrectable syn)).noc.packets = (s.respond o.h 6 []).noc.packets ∧ ((s.column i a r (.uncorrectable syn)).pc i).queue = [] := by
  obtain ⟨q, hc, hqq, hqo, hqm, hqu⟩ := column_uncorrectable (syn := syn) hp hq hclosed hsubs hb hd
  have hpc : (s.setPc i q).pc i = q := pc_setPc ..
  obtain ⟨hf, hpk, hqueue⟩ := freeze_one (s := s.setPc i q) (addr := b) (syn := syn) (ue := true) (rid := r.rid) (by rw [hpc, hqm, hmir]) hanchor hw
    (by rw [hpc, hqo, ho]) hr hports
  rw [← hc] at hf hpk hqueue
  have hcount := hf.count
  rw [hpc, hqu, ← hp] at hcount
  refine ⟨⟨hf.st, hf.held, hf.fue, hf.capar, hf.fsyn, hf.faddr, hcount, hf.opens, hf.pend, hf.mem⟩, hpk.trans ?_, ?_⟩
  · rw [respond_hbm (s := s) (t := s.setPc i q) rfl rfl]
  · refine List.eq_nil_iff_forall_not_mem.mpr fun x hx => ?_
    obtain ⟨h1, h2⟩ := hqueue x hx
    rw [hpc, hqq, List.mem_singleton] at h1
    refine h2 ?_
    rw [h1]
    unfold HReq.home
    rw [hb.role]

/-! ### Cycles with a column command -/

theorem worked_pc (s : State) (i c : Nat) (e : CmdBus) (p : Pc) : ((s.setPc i p).setBus c e).pc i = p := pc_setPc ..

theorem setBus_setPc (s : State) (i c : Nat) (e : CmdBus) (p q : Pc) : ((s.setPc i p).setBus c e).setPc i q = (s.setPc i q).setBus c e :=
  congrArg (·.setBus c e) (setPc_setPc s i p q)

/-- A cycle with the last column command of a read. -/
theorem schedule_reads {i b : Nat} {r : HReq} {a : Activation} (h : ReadyColumn s i b r a) (hd : r.h.data = none) : ∃ t, s.hbmCycle i .clean = t ∧
    t = { s with hbm := t.hbm } ∧ t.hbm.mem = s.hbm.mem ∧ (t.pc i).queue = [] ∧ (t.pc i).acts = [] ∧
    (t.pc i).leaving = [((s.pc i).cycle + 1 + 41, i, r.rid)] ∧
    (t.pc i).opens = [{ rid := r.rid, h := r.h, left := 1, got := (List.range 32).map (fun j => (j, s.hbmByte (b + j))) }] ∧
    (t.pc i).lastCol = some ((s.pc i).cycle + 1, a.bank / 4, false) ∧
    (t.pc i).trace = ({ stamp := (s.pc i).cycle + 1, cmd := 4, sid := a.sid, bank := a.bank, row := a.row, col := (s.hbmLoc b).col
                        req := some (r.rid, b) } :: (s.pc i).trace).take 64 := by
  obtain ⟨e, he⟩ := schedule_col (ecc := .clean) h
  obtain ⟨q, hc, hq, ha, hl, ho, hcol, htr⟩ := column_reads (s := (s.setPc i ((s.pc i).worked s.now)).setBus (i / 2) e) (worked_pc ..) h.queue h.acts h.closed h.subs
    h.burst h.held hd h.opens rfl
  have hbyte : ∀ z, ((s.setPc i ((s.pc i).worked s.now)).setBus (i / 2) e).hbmByte z = s.hbmByte z := fun z =>
    hbmByte_same (s := s) (t := (s.setPc i ((s.pc i).worked s.now)).setBus (i / 2) e) rfl rfl rfl (fun k => by
      by_cases hk : k = i
      · rw [hk, worked_pc]
        rfl
      · exact congrArg Pc.trained (pc_setPc_ne _ _ hk)) z
  simp only [hbyte, List.nil_append] at ho
  rw [he, hc, setBus_setPc]
  refine ⟨_, rfl, rfl, rfl, ?_⟩
  rw [worked_pc]
  refine ⟨hq, ha, ?_, ho, hcol, htr⟩
  have hl0 : ((s.pc i).worked s.now).leaving = [] := h.leaving
  rw [hl, hl0]
  rfl

theorem written_keeps (s : State) (i b : Nat) (d : List Byte) (q : Pc) : let t := (s.hbmWrite b d).setPc i q
    t = { s with hbm := t.hbm } ∧ t.hbm.stks = s.hbm.stks ∧ t.hbm.mem = memPuts s.hbm.mem b d := ⟨rfl, rfl, rfl⟩

/-- A cycle with the last column command of a write. -/
theorem schedule_writes {i b : Nat} {r : HReq} {a : Activation} {d : List Byte} (h : ReadyColumn s i b r a) (hd : r.h.data = some d) (hlen : d.length = 32)
    (hmir : (s.pc i).mir = false) : ∃ t, s.hbmCycle i .clean = t ∧ t.noc = (s.respond r.h 0 []).noc ∧
    (∀ z, memGet t.hbm.mem z = if b ≤ z ∧ z < b + 32 then some ((d[z - b]?).getD 0) else memGet s.hbm.mem z) ∧
    (t.pc i).queue = [] ∧ (t.pc i).acts = [] ∧ (t.pc i).opens = [] ∧ (t.pc i).lastCol = some ((s.pc i).cycle + 1, a.bank / 4, true) := by
  obtain ⟨e, he⟩ := schedule_col (ecc := .clean) h
  obtain ⟨q, hc, hq, ha, ho, hcol⟩ := column_writes (s := (s.setPc i ((s.pc i).worked s.now)).setBus (i / 2) e) (worked_pc ..) h.queue h.acts h.closed h.subs
    h.burst h.held hd h.opens rfl rfl hd hmir
  have hslice : slice d 0 32 = d := by
    unfold slice
    rw [List.drop_zero, List.take_of_length_le (Nat.le_of_eq hlen)]
  rw [hslice] at hc
  obtain ⟨v, hv⟩ : ∃ v : State, (s.setPc i ((s.pc i).worked s.now)).setBus (i / 2) e = v := ⟨_, rfl⟩
  have hvs : v = { s with hbm := v.hbm } ∧ v.hbm.stks = s.hbm.stks ∧ v.hbm.mem = s.hbm.mem := by
    rw [← hv]
    exact ⟨rfl, rfl, rfl⟩
  obtain ⟨hv1, hv2, hv3⟩ := hvs
  rw [hv] at he hc
  obtain ⟨hw1, hw2, hw3⟩ := written_keeps v i b d q
  have hw4 : ((v.hbmWrite b d).setPc i q).pc i = q := pc_setPc ..
  obtain ⟨w, hw⟩ : ∃ w : State, (v.hbmWrite b d).setPc i q = w := ⟨_, rfl⟩
  rw [hw] at hc hw1 hw2 hw3 hw4
  rw [hv2] at hw2
  rw [hv3] at hw3
  have hws : w = { s with hbm := w.hbm } := by
    rw [hv1] at hw1
    exact hw1
  refine ⟨_, he.trans hc, ?_, fun z => ?_, ?_⟩
  · rw [respond_hbm hws hw2]
  · rw [respond_keeps, hw3, memGet_memPuts, hlen]
    by_cases hz : b ≤ z ∧ z < b + 32
    · rw [if_pos hz, if_pos hz, List.getElem?_eq_getElem (by omega)]
      rfl
    · rw [if_neg hz, if_neg hz]
  · have hpc : (w.respond r.h 0 []).pc i = q := (congrArg (fun b : Hbm => sget ({} : Pc) b.pcs i) (respond_keeps w r.h 0 [])).trans hw4
    rw [hpc]
    exact ⟨hq, ha, ho, hcol⟩

/-- A cycle with an uncorrectable read. -/
theorem schedule_freezes {i b : Nat} {r : HReq} {a : Activation} {syn : Reg} (h : ReadyColumn s i b r a) (hd : r.h.data = none) (hmir : (s.pc i).mir = false)
    (hanchor : anchorPc i = false) (hw : sget 0 s.sec.wipePcs i ≤ s.now) (hports : sget [] s.hbm.ports (i / 2) = []) :
    FrozenBy s (s.hbmCycle i (.uncorrectable syn)) i b syn true ∧ (s.hbmCycle i (.uncorrectable syn)).noc.packets = (s.respond r.h 6 []).noc.packets ∧
      ((s.hbmCycle i (.uncorrectable syn)).pc i).queue = [] := by
  obtain ⟨e, he⟩ := schedule_col (ecc := .uncorrectable syn) h
  obtain ⟨w, hww⟩ : ∃ w : State, (s.setPc i ((s.pc i).worked s.now)).setBus (i / 2) e = w := ⟨_, rfl⟩
  have hpc : w.pc i = (s.pc i).worked s.now := by
    rw [← hww]
    exact worked_pc ..
  obtain ⟨hf, hpk, hq⟩ := column_freezes (s := w) (syn := syn) hpc h.queue h.closed h.subs h.burst hd h.opens rfl hmir hanchor
    (by rw [← hww]; exact hw) (by rw [← hww]; exact hports)
  rw [he, hww]
  have hws : w = { s with hbm := w.hbm } ∧ w.hbm.stks = s.hbm.stks ∧ w.hbm.mem = s.hbm.mem ∧ w.noc = s.noc := by
    rw [← hww]
    exact ⟨rfl, rfl, rfl, rfl⟩
  obtain ⟨hw1, hw2, hw3, hw4⟩ := hws
  have hcount := hf.count
  rw [hpc] at hcount
  have hpend := hf.pend
  rw [show w.router (pcRouter i) = s.router (pcRouter i) from congrArg (fun n : Noc => sget ({} : Router) n.routers (pcRouter i)) hw4] at hpend
  refine ⟨⟨hf.st, hf.held, hf.fue, hf.capar, hf.fsyn, hf.faddr, hcount, hf.opens, hpend, hf.mem.trans hw3⟩, hpk.trans ?_, hq⟩
  rw [respond_hbm hw1 hw2]

end

end Sys2Proof.Machine

/-! O42: refresh, self-refresh, training and the registers of the controllers. -/

namespace Sys2Proof.Machine

section
variable {s : State}

/-! ### Refresh (R299, R300) -/

/-- A PC with another trace. -/
def Pc.traced (p : Pc) (l : List HCmd) : Pc := { p with trace := l }

theorem note_traced {p : Pc} (h : p.held = false) (l : List HCmd) (c : HCmd) : (p.traced l).note c = p.traced ((c :: l).take 64) :=
  if_neg (c := (p.traced l).held = true) (by rw [show (p.traced l).held = false from h]; exact Bool.false_ne_true)

/-- The refreshes of a PC whose trace does not hold are noted. -/
theorem notes_traced {p : Pc} (h : p.held = false) : ∀ n, ∃ l, (List.range n).foldl (fun p _ => p.note { stamp := p.cycle, cmd := 7 }) p = p.traced l ∧
    l.take 64 = (List.replicate n ({ stamp := p.cycle, cmd := 7 } : HCmd) ++ p.trace).take 64
  | 0 => ⟨p.trace, rfl, rfl⟩
  | n + 1 => by
    obtain ⟨l, hl, ht⟩ := notes_traced h n
    refine ⟨(({ stamp := p.cycle, cmd := 7 } : HCmd) :: l).take 64, ?_, ?_⟩
    · rw [List.range_succ, List.foldl_append, hl]
      exact note_traced h l _
    · have h63 := congrArg (List.take 63) ht
      rw [List.take_take, List.take_take] at h63
      rw [List.take_take, Nat.min_self, List.replicate_succ, List.cons_append, List.take_succ_cons, List.take_succ_cons]
      exact congrArg _ h63

theorem refresh_trace {p : Pc} (h : p.held = false) (fast det : Bool) (m : Nat) : (p.refresh fast det (m + 1)).trace =
    (List.replicate (m + 1) ({ stamp := p.cycle, cmd := 7 } : HCmd) ++ p.trace).take 64 := by
  obtain ⟨l, hl, ht⟩ := notes_traced h m
  have hlast : (List.range (m + 1)).foldl (fun p _ => p.note { stamp := p.cycle, cmd := 7 }) p = p.traced ((({ stamp := p.cycle, cmd := 7 } : HCmd) :: l).take 64) := by
    rw [List.range_succ, List.foldl_append, hl]
    exact note_traced h l _
  have h63 := congrArg (List.take 63) ht
  rw [List.take_take, List.take_take] at h63
  unfold Pc.refresh
  rw [hlast, List.replicate_succ, List.cons_append, List.take_succ_cons]
  exact congrArg _ h63

/-- What refreshes that are issued back to back leave. -/
theorem refresh_counts (p : Pc) (fast : Bool) {m : Nat} (hm : 0 < m) : (p.refresh fast s.det m).owed = 0 ∧ (p.refresh fast s.det m).pauseOwed = true ∧
    (p.refresh fast s.det m).runs = (if 1 < m then min (p.runs + 1) 0xFFFF else p.runs) ∧
    (p.refresh fast s.det m).busyUntil = max p.busyUntil p.cycle + (if s.sys.mode = 2 then m * 760 else m * hcyc fast 4100) ∧
    (p.held = false → (p.refresh fast s.det m).trace = (List.replicate m ({ stamp := p.cycle, cmd := 7 } : HCmd) ++ p.trace).take 64) ∧
    (p.refresh fast s.det m).due = p.due := by
  have htrace : p.held = false → (p.refresh fast s.det m).trace = (List.replicate m ({ stamp := p.cycle, cmd := 7 } : HCmd) ++ p.trace).take 64 := fun h => by
    obtain ⟨k, rfl⟩ := Nat.exists_eq_add_of_lt hm
    rw [Nat.zero_add, refresh_trace h]
  obtain ⟨l, hl⟩ := refresh_parts p fast s.det m
  refine ⟨by rw [hl], ?_, ?_, ?_, htrace, by rw [hl]⟩
  · rw [hl]
    dsimp only
    rw [decide_eq_true hm, Bool.true_or]
  · rw [hl]
    rfl
  · rw [hl]
    dsimp only
    unfold State.det
    simp only [decide_eq_true_eq]

theorem refreshDue_runs (hs : s.live = true) (i : PcId) : exec (.refreshDue i) s = .next (s.refreshDue i) := by
  have hx : exec (.refreshDue i) s = execRefreshDue i s := rfl
  rw [hx, execRefreshDue, act_live hs]

theorem refreshDue_none {i : Nat} (h : s.now < (s.pc i).due ∨ (s.stack (i / 32)).insvc = false) : s.refreshDue i = s := by
  unfold State.refreshDue
  refine if_pos ?_
  rcases h with h | h
  · rw [decide_eq_true h, Bool.true_or]
  · rw [h, Bool.not_false, Bool.or_true]

/-- A PC with its next due time. -/
def Pc.dueNext (p : Pc) (gap : Nat) : Pc := { p with due := p.due + gap }

theorem refreshDue_eq {i : Nat} (h : (s.pc i).due ≤ s.now) (hk : (s.stack (i / 32)).insvc = true) : s.refreshDue i =
    if (s.pc i).sref = true then s.setPc i ((s.pc i).dueNext (s.stack (i / 32)).interval)
    else if ((s.pc i).urgent && !s.det && decide ((s.pc i).owed < (s.stack (i / 32)).ppost)) = true then
      s.setPc i { (s.pc i).dueNext (s.stack (i / 32)).interval with owed := (s.pc i).owed + 1, postp := satAdd (s.pc i).postp 1 0xFFFF }
    else s.setPc i (((s.pc i).dueNext (s.stack (i / 32)).interval).refresh (s.stack (i / 32)).rate s.det ((s.pc i).owed + 1)) := by
  unfold State.refreshDue
  dsimp only
  rw [if_neg (by rw [hk, decide_eq_false (Nat.not_lt.mpr h)]; exact Bool.false_ne_true)]
  rfl

/-- A due refresh that nothing postpones is issued. -/
theorem refreshDue_issues {p : Pc} {k : Stack} (h : p.urgent = false ∨ s.sys.mode = 2 ∨ k.ppost ≤ p.owed) :
    ¬ (p.urgent && !s.det && decide (p.owed < k.ppost)) = true := by
  rcases h with h | h | h
  · simp [h]
  · simp [State.det, h]
  · simp [h]

theorem owedRun_runs (hs : s.live = true) (i : PcId) : exec (.owedRefreshRun i) s = .next (s.owedRun i) := by
  have hx : exec (.owedRefreshRun i) s = execOwedRefreshRun i s := rfl
  rw [hx, execOwedRefreshRun, act_live hs]

theorem owedRun_none {i : Nat} (h : (s.pc i).owed = 0 ∨ (s.pc i).urgent = true) : s.owedRun i = s := by
  unfold State.owedRun
  refine if_pos ?_
  rcases h with h | h
  · rw [decide_eq_true h, Bool.true_or]
  · rw [h, Bool.or_true]

theorem owedRun_eq {i : Nat} (h : 0 < (s.pc i).owed) (hu : (s.pc i).urgent = false) :
    s.owedRun i = s.setPc i ((s.pc i).refresh (s.stack (i / 32)).rate s.det (s.pc i).owed) :=
  if_neg (by rw [hu, decide_eq_false (Nat.ne_of_gt h)]; exact Bool.false_ne_true)

/-! ### Retraining pauses and spare lanes (R301, R311, R312) -/

/-- A PC whose pause has tested a lane. -/
def Pc.paused (p : Pc) (lane : Nat) (lo hi : Bool) (margin now busy : Nat) : Pc :=
  let d := sget 0 p.delays lane
  { p with
    delays := sput 0 p.delays lane (if !lo && hi then min (d + 1) 63 else if lo && !hi then d - 1 else d), pauseOwed := false, drift := p.drift || decide (margin < 4)
    trainDue := now + 16000000
    weak := if decide (margin < 4) then (lane / 2) :: p.weak.filter (fun n => decide (n ≠ lane / 2)) else p.weak, busyUntil := busy }

/-- The pause comes with the next refresh that is due. -/
theorem retrainingPause_pc (hs : s.live = true) (i : PcId) (lane : Fin 8) (lo hi : Bool) (margin : Nat) (h : (s.pc i).pauseOwed = true)
    (hsref : (s.pc i).sref = false) (hst : (s.pc i).st = .service) (hdue : (s.pc i).trainDue ≤ s.now) : ∃ t busy,
      exec (.retrainingPause i lane lo hi margin) s = .next t ∧ t.pc i = (s.pc i).paused lane lo hi margin s.now busy := by
  have hx : exec (.retrainingPause i lane lo hi margin) s = execRetrainingPause i lane lo hi margin s := rfl
  rw [hx, execRetrainingPause, act_live hs]
  dsimp only
  rw [if_neg (by rw [h, hsref, hst, decide_eq_false (Nat.not_lt.mpr hdue)]; decide)]
  refine ⟨_, if s.det then (s.pc i).busyUntil else max (s.pc i).busyUntil (s.pc i).cycle + hcyc (s.stack (i.val / 32)).rate 2500, rfl, ?_⟩
  split
  · rw [log_pc, pc_setPc]
    rfl
  · rw [pc_setPc]
    rfl

theorem retrainingPause_early (hs : s.live = true) (i : PcId) (lane : Fin 8) (lo hi : Bool) (margin : Nat) (h : s.now < (s.pc i).trainDue) :
    exec (.retrainingPause i lane lo hi margin) s = .next s := by
  have hx : exec (.retrainingPause i lane lo hi margin) s = execRetrainingPause i lane lo hi margin s := rfl
  rw [hx, execRetrainingPause, act_live hs]
  dsimp only
  rw [if_pos (by rw [decide_eq_true h, Bool.or_true])]

/-- The delay of the tested lane moves by its two outcomes, and no other. -/
theorem paused_delays (p : Pc) (lane : Nat) (lo hi : Bool) (margin now busy z : Nat) : sget 0 (p.paused lane lo hi margin now busy).delays z =
    if z = lane then
      (if lo = false ∧ hi = true then min (sget 0 p.delays z + 1) 63 else if lo = true ∧ hi = false then sget 0 p.delays z - 1 else sget 0 p.delays z)
    else sget 0 p.delays z := by
  unfold Pc.paused
  dsimp only
  rw [sget_sput_if]
  by_cases hz : z = lane
  · subst hz
    rw [if_pos rfl, if_pos rfl]
    cases lo <;> cases hi <;> rfl
  · rw [if_neg hz, if_neg hz]

/-- A weak lane takes the first spare of its channel. -/
theorem dqLaneRemap_pc (hs : s.live = true) (i : PcId) (dq : BitVec 6) (h : (s.pc i).pauseOwed = true) (hdq : dq.toNat < 36)
    (hweak : byteLane dq.toNat ∈ (s.pc i).weak) (hgood : sget 0 (s.pc i).dqBad dq.toNat = 0) (h0 : (s.pc (2 * (i / 2))).dqUsed = 0)
    (h1 : (s.pc (2 * (i / 2) + 1)).dqUsed = 0) (hbad : s.rel.badBlocks = []) : ∃ t, exec (.dqLaneRemap i dq) s = .next t ∧
      sget 0 (t.pc i).dqBad dq.toNat = 1 ∧ (t.pc i).dqUsed = (s.pc i).dqUsed + 1 ∧ (t.pc i).corr = (s.pc i).corr.filter (fun e => decide (e.2 ≠ dq.toNat)) := by
  have hx : exec (.dqLaneRemap i dq) s = execDqLaneRemap i dq s := rfl
  rw [hx, execDqLaneRemap, act_live hs]
  dsimp only
  have hspare : ((List.range 2).filter (fun n => !(s.rel.badBlocks.contains (0x06000000 + 64 * (i.val / 2 / 16) + 2 * (i.val / 2 % 16) + n))))[
      (s.pc (2 * (i.val / 2))).dqUsed + (s.pc (2 * (i.val / 2) + 1)).dqUsed]? = some 0 := by
    rw [h0, h1, hbad]
    rfl
  rw [hspare]
  dsimp only
  rw [if_neg (by simp [h, hgood, hweak, Nat.not_le.mpr hdq])]
  refine ⟨_, rfl, ?_⟩
  rw [log_pc, pc_setPc]
  dsimp only
  exact ⟨sget_sput_same .., rfl, rfl⟩

theorem dqUsed_pair {i : Nat} (h0 : (s.pc (2 * (i / 2))).dqUsed = 0) (h1 : (s.pc (2 * (i / 2) + 1)).dqUsed = 0) : (s.pc i).dqUsed = 0 := by
  rcases Nat.mod_two_eq_zero_or_one i with h | h
  · rwa [show 2 * (i / 2) = i by omega] at h0
  · rwa [show 2 * (i / 2) + 1 = i by omega] at h1

/-! ### Self-refresh (R302, R303) -/

theorem selfRefreshEntry_runs (hs : s.live = true) (i : PcId) : exec (.selfRefreshEntry i) s = .next (s.srefEnter i) := by
  have hx : exec (.selfRefreshEntry i) s = execSelfRefreshEntry i s := rfl
  rw [hx, execSelfRefreshEntry, act_live hs]

theorem selfRefreshExit_runs (hs : s.live = true) (i : PcId) : exec (.selfRefreshExit i) s = .next (s.srefExit i) := by
  have hx : exec (.selfRefreshExit i) s = execSelfRefreshExit i s := rfl
  rw [hx, execSelfRefreshExit, act_live hs]

theorem interval_pos (k : Stack) : 0 < k.interval := by
  unfold Stack.interval
  split
  · decide
  · decide

theorem srefEnter_enters {i : Nat} (hmode : s.sys.mode = 5) (hid : (s.pc i).idleus ≠ 0) (ha : anchorPc i = false) (hst : (s.pc i).st = .service)
    (hsref : (s.pc i).sref = false) (hq : (s.pc i).queue = []) (hent : (s.pc i).entering = []) (hl : (s.pc i).leaving = []) (hport : s.portHas i = false)
    (hmove : (s.stack (i / 32)).moving = false) (hheld : (s.pc i).held = false) (hidle : (s.pc i).lastReq + 1000 * (s.pc i).idleus ≤ s.now)
    (howed : (s.pc i).owed = 0) : s.srefEnter i = s.setPc i { s.pc i with
      sref := true, srefAt := s.now + 80, trace := ({ stamp := (s.pc i).cycle, cmd := 8 } :: (s.pc i).trace).take 64 } := by
  have hnote : ∀ c, (s.pc i).note c = (s.pc i).traced ((c :: (s.pc i).trace).take 64) := note_traced (p := s.pc i) hheld (s.pc i).trace
  unfold State.srefEnter
  dsimp only
  rw [if_neg (by simp [hmode, hid, ha, hst, hsref, hq, hent, hl, hport, hmove, hidle]), if_pos howed, hnote]
  rfl

theorem srefExit_early {i : Nat} (h : s.now < (s.pc i).srefAt) : s.srefExit i = s := by
  unfold State.srefExit
  exact if_pos (by rw [decide_eq_true h, Bool.or_true])

/-- Refreshes that have fallen due in self-refresh leave the phase as it is (R303). -/
def dueAfter (due now gap : Nat) : Nat := if now < due then 0 else (now - due) / gap + 1

theorem dueAfter_later {gap : Nat} (hgap : 0 < gap) (due now : Nat) : now < due + dueAfter due now gap * gap ∧ (due ≤ now → due + dueAfter due now gap * gap ≤ now + gap) := by
  unfold dueAfter
  by_cases h : now < due
  · rw [if_pos h, Nat.zero_mul]
    omega
  · have h1 := Nat.div_add_mod (now - due) gap
    have h2 := Nat.mod_lt (now - due) hgap
    rw [if_neg h, Nat.add_mul, Nat.one_mul, Nat.mul_comm]
    omega

theorem srefExit_exits {i : Nat} (h : (s.pc i).sref = true) (hport : s.portHas i = true) (hheld : (s.pc i).held = false) (hat : (s.pc i).srefAt ≤ s.now) :
    s.srefExit i = s.setPc i { s.pc i with
      sref := false, due := (s.pc i).due + dueAfter (s.pc i).due s.now (s.stack (i / 32)).interval * (s.stack (i / 32)).interval, lastReq := s.now
      busyUntil := max (s.pc i).busyUntil (s.pc i).cycle + hcyc (s.stack (i / 32)).rate 4600
      trace := ({ stamp := (s.pc i).cycle, cmd := 9 } :: (s.pc i).trace).take 64 } := by
  have hnote : ∀ c, (s.pc i).note c = (s.pc i).traced ((c :: (s.pc i).trace).take 64) := note_traced (p := s.pc i) hheld (s.pc i).trace
  have hdue : (if s.now < (s.pc i).due then (s.pc i).due else
      (s.pc i).due + ((s.now - (s.pc i).due) / (s.stack (i / 32)).interval + 1) * (s.stack (i / 32)).interval) =
      (s.pc i).due + dueAfter (s.pc i).due s.now (s.stack (i / 32)).interval * (s.stack (i / 32)).interval := by
    unfold dueAfter
    by_cases hd : s.now < (s.pc i).due
    · rw [if_pos hd, if_pos hd, Nat.zero_mul, Nat.add_zero]
    · rw [if_neg hd, if_neg hd]
  unfold State.srefExit
  dsimp only
  rw [if_neg (by simp [h, hport, hat]), hnote, hdue]
  rfl

theorem temperature_runs (hs : s.live = true) (st : StackId) (temp : Byte) : exec (.stackTemperatureChange st temp) s = .next (s.setStack st { s.stack st with
    temp := temp, hot := if 85 < temp.toNat then true else if temp.toNat ≤ 82 then false else (s.stack st).hot }) := by
  have hx : exec (.stackTemperatureChange st temp) s = execStackTemperatureChange st temp s := rfl
  rw [hx, execStackTemperatureChange, act_live hs]

/-! ### Sweeps and the store of the training (R308, R310) -/

/-- A sweep of a PC that waits for one (R310). -/
theorem fullSweep_runs (hs : s.live = true) (i : PcId) (eyes : Eyes) (hk : (s.stack (i / 32)).insvc = true) (hst : (s.pc i).st = .out)
    (hb : (s.pc i).barred = false) : exec (.fullSweep i eyes) s =
      .next (if (eyesList eyes).all eyeOk = true then (s.swept i eyes).servePc i else s.swept i eyes) := by
  have hx : exec (.fullSweep i eyes) s = execFullSweep i eyes s := rfl
  rw [hx, execFullSweep, act_live hs]
  dsimp only
  rw [if_pos (by simp [hk, hst, hb]), sweepPc_eq]

theorem sweptPc_trained (n : Nat) (eyes : Eyes) : (s.sweptPc n eyes).trained = (s.pc n).trained + 1 := by
  rw [State.sweptPc, State.trainWrite]
  dsimp only
  rw [pc_setPc, hbmErase_pc]

/-- The recorded eyes are no wider than those of any lane. -/
theorem sweptPc_eyes (n : Nat) (eyes : Eyes) : ∀ e ∈ [eyes.lane0, eyes.lane1, eyes.lane2, eyes.lane3],
    (s.sweptPc n eyes).wreye.toNat ≤ e.write.toNat ∧ (s.sweptPc n eyes).rdeye.toNat ≤ e.read.toNat := by
  have hw : (s.sweptPc n eyes).wreye.toNat = leastOf eyes (·.write) := leastEye_toNat ..
  have hr : (s.sweptPc n eyes).rdeye.toNat = leastOf eyes (·.read) := leastEye_toNat ..
  intro e he
  rw [hw, hr]
  unfold leastOf
  dsimp only
  simp only [List.mem_cons, List.not_mem_nil, or_false] at he
  obtain rfl | rfl | rfl | rfl := he
  · omega
  · omega
  · omega
  · omega

theorem swept_stack (n : Nat) (eyes : Eyes) (k : Nat) : (s.swept n eyes).stack k = s.stack k := rfl

theorem swept_now (n : Nat) (eyes : Eyes) : (s.swept n eyes).now = s.now := rfl

/-- A PC that enters service keeps what its training has found. -/
theorem servePc_pc (i : Nat) : ∃ hard soft, (s.servePc i).pc i = { s.pc i with
    st := .service, due := s.now + (s.stack (i / 32)).interval, lastReq := s.now, trainDue := s.now + 16000000, hard := hard, soft := soft } :=
  ⟨_, _, pc_setPc ..⟩

theorem trainingStore_runs (hs : s.live = true) {m : Nat} (h : s.hbm.storedAt = some m) (hm : m ≤ s.now) : exec .trainingStore s =
    .next { s with hbm := { s.hbm with
      store := ((List.range 128).filter (fun i => (s.pc i).st = .service || decide ((s.pc i).st = .degraded))).foldl (fun m i => sput [] m i (s.pc i).delays) s.hbm.store
      storedAt := some (s.now + 3600000000000) } } := by
  have hx : exec .trainingStore s = execTrainingStore s := rfl
  rw [hx, execTrainingStore, act_live hs, h]
  dsimp only
  rw [if_neg (Nat.not_lt.mpr hm)]

end

end Sys2Proof.Machine

/-! O42: PCs that drop what they hold: rate changes, retirement and command parity errors; RESUME. -/

namespace Sys2Proof.Machine

section
variable {s : State}

/-! ### What a PC that drops its requests leaves (R268, R313) -/

theorem mem_insOpen (o x : Open) (l : List Open) : x ∈ insOpen o l ↔ x = o ∨ x ∈ l := by
  induction l with
  | nil => simp [insOpen]
  | cons y l ih =>
    unfold insOpen
    split
    · rw [List.mem_cons]
    · rw [List.mem_cons, ih, List.mem_cons]
      tauto

theorem mem_insOpens (hs : List Held) (x : Open) : ∀ l : List Open, x ∈ hs.foldl (fun a h => insOpen (.mem h) a) l ↔ x ∈ l ∨ ∃ h ∈ hs, x = .mem h := by
  induction hs with
  | nil => simp
  | cons h hs ih =>
    intro l
    rw [List.foldl_cons, ih, mem_insOpen]
    simp only [List.mem_cons, exists_eq_or_imp]
    tauto

/-- Whether a request has been answered with an error. -/
def State.hasError (t : State) (st : Nat) (h : Held) : Prop :=
  ∃ y ∈ t.noc.packets, y.op = .err ∧ y.who = h.who ∧ y.tag = h.tag ∧ y.gen = h.gen ∧ y.status = BitVec.ofNat 4 st

/-- Whether a state has all packets of another one, and the same memory. -/
def State.answers (s t : State) : Prop := t.hbm = s.hbm ∧ ∀ y ∈ s.noc.packets, y ∈ t.noc.packets

theorem State.answers.trans {s t u : State} (h : s.answers t) (k : t.answers u) : s.answers u := ⟨k.1.trans h.1, fun y hy => k.2 y (h.2 y hy)⟩

theorem hasError_mono {s t : State} (h : ∀ y ∈ s.noc.packets, y ∈ t.noc.packets) {st : Nat} {x : Held} (he : s.hasError st x) : t.hasError st x := by
  obtain ⟨y, hy, hyx⟩ := he
  exact ⟨y, h y hy, hyx⟩

theorem sendFrom_answers (s : State) (a b : End) (p : Packet) : s.answers (s.sendFrom a b p) := by
  rw [sendFrom_eq]
  exact ⟨rfl, fun y hy => List.mem_append_left _ hy⟩

theorem portAnswered_answers (s : State) (r p : Nat) : s.answers (s.portAnswered r p) := ⟨rfl, fun _ hy => hy⟩

theorem respond_answers (s : State) (h : Held) (st : Nat) (d : List Byte) : s.answers (s.respond h st d) := by
  unfold State.respond
  split
  · exact ⟨rfl, fun _ hy => hy⟩
  · exact (portAnswered_answers s _ _).trans (sendFrom_answers ..)

theorem answerOpen_answers (s : State) (r : Nat) (o : Open) (st : Nat) : s.answers (s.answerOpen r o st) := by
  cases o with
  | mem h => exact respond_answers s h st []
  | push x => exact (portAnswered_answers s r 0).trans (sendFrom_answers ..)

theorem respond_error {h : Held} (hp : h.posted = false) {st : Nat} (hst : st ≠ 0) : (s.respond h st []).hasError st h := by
  obtain ⟨z, -, ht, -, -, hop, hwho, htag, hgen, -, -, hstatus, -⟩ := respond_spec (s := s) hp st []
  refine ⟨z, ?_, hop.trans (if_pos hst), hwho, htag, hgen, hstatus⟩
  rw [ht]
  exact List.mem_append_right _ (List.mem_singleton_self z)

/-- Requests that are answered one after another. -/
theorem answersAll (r st : Nat) (hst : st ≠ 0) : ∀ (l : List Open) (s : State),
    s.answers (l.foldl (fun s o => s.answerOpen r o st) s) ∧ ∀ h, Open.mem h ∈ l → h.posted = false → (l.foldl (fun s o => s.answerOpen r o st) s).hasError st h
  | [], s => ⟨⟨rfl, fun _ hy => hy⟩, fun _ hh => absurd hh List.not_mem_nil⟩
  | o :: l, s => by
    obtain ⟨h1, h2⟩ := answersAll r st hst l (s.answerOpen r o st)
    refine ⟨(answerOpen_answers s r o st).trans h1, fun h hh hp => ?_⟩
    rcases List.mem_cons.mp hh with rfl | hl
    · exact hasError_mono h1.2 (respond_error hp hst)
    · exact h2 h hl hp

/-- The state in which a PC has answered what it holds. -/
def State.answersAtPc (s : State) (i st : Nat) : State :=
  ((s.openAtPc i).foldl (fun a h => insOpen (.mem h) a) []).foldl (fun s o => s.answerOpen (pcRouter i) o st) s

/-- The requests of a PC have left its channel's port. -/
def State.leavesPorts (s : State) (i : Nat) : State :=
  { s with hbm := { s.hbm with ports := sput [] s.hbm.ports (i / 2) ((sget [] s.hbm.ports (i / 2)).filter (fun h => decide ((s.hbmLoc h.addr).pc ≠ i))) } }

theorem dropPc_eq (i st : Nat) : s.dropPc i st = ((s.answersAtPc i st).leavesPorts i).clearPc i := rfl

/-- What a PC that drops its requests does to the others and to the network. -/
structure Dropped (s t : State) (i st : Nat) : Prop where
  open_self : t.openAtPc i = []
  open_other : ∀ j, j ≠ i → t.openAtPc j = s.openAtPc j
  stks : t.hbm.stks = s.hbm.stks
  store : t.hbm.store = s.hbm.store
  packets : ∀ y ∈ s.noc.packets, y ∈ t.noc.packets
  errors : ∀ h ∈ s.openAtPc i, h.posted = false → t.hasError st h

theorem clearPc_opens (s : State) (i k : Nat) : ((s.clearPc i).pc k).opens = if k = i then [] else (s.pc k).opens := by
  unfold State.clearPc
  dsimp only
  rw [without_opens, without_opens]
  by_cases hk : k = i
  · rw [if_pos hk, hk, pc_setPc]
  · rw [if_neg hk, pc_setPc_ne _ _ hk]

/-- The open requests of a PC after the requests of one PC have left. -/
theorem openAtPc_cleared {s u : State} (h : u.hbm = s.hbm) (i j : Nat) : ((u.leavesPorts i).clearPc i).openAtPc j = if j = i then [] else s.openAtPc j := by
  have hloc : ∀ a, u.hbmLoc a = s.hbmLoc a := fun a => by
    unfold State.hbmLoc State.stack
    rw [h]
  have hpc : ∀ k, u.pc k = s.pc k := fun k => by
    unfold State.pc
    rw [h]
  have hports : (u.leavesPorts i).hbm.ports = sput [] s.hbm.ports (i / 2) ((sget [] s.hbm.ports (i / 2)).filter (fun h => decide ((s.hbmLoc h.addr).pc ≠ i))) := by
    unfold State.leavesPorts
    simp only [h, hloc]
  have hloc' : ∀ a, (u.leavesPorts i).hbmLoc a = s.hbmLoc a := hloc
  have hopens : (((u.leavesPorts i).clearPc i).pc j).opens = if j = i then [] else (s.pc j).opens := (clearPc_opens ..).trans (by rw [← hpc]; rfl)
  rw [openAtPc_pcs (clearPc_pcsOnly ..), hopens, hports]
  simp only [hloc']
  by_cases hj : j = i
  · subst hj
    rw [if_pos rfl, if_pos rfl, sget_sput_same, List.filter_filter]
    simp
  · rw [if_neg hj, if_neg hj]
    unfold State.openAtPc
    by_cases hc : j / 2 = i / 2
    · rw [hc, sget_sput_same, List.filter_filter]
      refine congrArg _ (List.filter_congr fun x _ => ?_)
      by_cases hx : (s.hbmLoc x.addr).pc = j
      · simp [hx, hj]
      · simp [hx]
    · rw [sget_sput_other _ _ _ hc]

theorem leavesPorts_keeps (u : State) (i : Nat) : (u.leavesPorts i).noc = u.noc ∧ (u.leavesPorts i).hbm.stks = u.hbm.stks ∧
    (u.leavesPorts i).hbm.store = u.hbm.store := ⟨rfl, rfl, rfl⟩

theorem answersAtPc_spec (s : State) (i : Nat) {st : Nat} (hst : st ≠ 0) : s.answers (s.answersAtPc i st) ∧
    ∀ h ∈ s.openAtPc i, h.posted = false → (s.answersAtPc i st).hasError st h := by
  obtain ⟨h1, h2⟩ := answersAll (pcRouter i) st hst ((s.openAtPc i).foldl (fun a h => insOpen (.mem h) a) []) s
  exact ⟨h1, fun h hh hp => h2 h ((mem_insOpens _ _ _).mpr (.inr ⟨h, hh, rfl⟩)) hp⟩

theorem dropPc_dropped (s : State) (i : Nat) {st : Nat} (hst : st ≠ 0) : Dropped s (s.dropPc i st) i st := by
  obtain ⟨⟨hhbm, hpackets⟩, herr⟩ := answersAtPc_spec s i hst
  rw [dropPc_eq]
  obtain ⟨u, hu⟩ : ∃ u, s.answersAtPc i st = u := ⟨_, rfl⟩
  rw [hu] at hhbm hpackets herr ⊢
  have hopen := openAtPc_cleared hhbm i
  obtain ⟨hn, hk, hst'⟩ := leavesPorts_keeps u i
  obtain ⟨v, hv⟩ : ∃ v, u.leavesPorts i = v := ⟨_, rfl⟩
  rw [hv] at hopen hn hk hst' ⊢
  have honly := clearPc_pcsOnly v i
  obtain ⟨w, hw⟩ : ∃ w, v.clearPc i = w := ⟨_, rfl⟩
  rw [hw] at honly hopen ⊢
  have hwn : w.noc = u.noc := (congrArg State.noc honly :).trans hn
  refine ⟨(hopen i).trans (if_pos rfl), fun j hj => (hopen j).trans (if_neg hj), ?_, ?_, ?_, fun h hh hp => ?_⟩
  · exact (congrArg (fun u : State => u.hbm.stks) honly :).trans (hk.trans (congrArg Hbm.stks hhbm))
  · exact (congrArg (fun u : State => u.hbm.store) honly :).trans (hst'.trans (congrArg Hbm.store hhbm))
  · rw [hwn]
    exact hpackets
  · exact hasError_mono (by rw [hwn]; exact fun _ hy => hy) (herr h hh hp)

/-! ### Rate changes (R313) -/

/-- PCs drop their requests one after another. -/
def State.dropsPcs (s : State) (l : List Nat) (st : Nat) : State := forAll l (fun s i => s.dropPc i st) s

theorem dropsPcs_cons (s : State) (i : Nat) (l : List Nat) (st : Nat) : s.dropsPcs (i :: l) st = (s.dropPc i st).dropsPcs l st := rfl

/-- What PCs that drop their requests do to the others and to the network. -/
structure DroppedAll (s t : State) (l : List Nat) (st : Nat) : Prop where
  stks : t.hbm.stks = s.hbm.stks
  packets : ∀ y ∈ s.noc.packets, y ∈ t.noc.packets
  other : ∀ j, j ∉ l → t.openAtPc j = s.openAtPc j
  self : ∀ j ∈ l, t.openAtPc j = []
  errors : ∀ j ∈ l, ∀ h ∈ s.openAtPc j, h.posted = false → t.hasError st h

theorem dropsPcs_dropped {st : Nat} (hst : st ≠ 0) : ∀ (l : List Nat) (s : State), DroppedAll s (s.dropsPcs l st) l st
  | [], s => ⟨rfl, fun _ hy => hy, fun _ _ => rfl, fun _ hj => absurd hj List.not_mem_nil, fun _ hj => absurd hj List.not_mem_nil⟩
  | i :: l, s => by
    obtain ⟨k1, k2, k3, k4, k5⟩ := dropsPcs_dropped hst l (s.dropPc i st)
    have hd := dropPc_dropped s i hst
    rw [dropsPcs_cons]
    refine ⟨k1.trans hd.stks, fun y hy => k2 y (hd.packets y hy), fun j hj => ?_, fun j hj => ?_, fun j hj h hh hp => ?_⟩
    · rw [List.mem_cons, not_or] at hj
      exact (k3 j hj.2).trans (hd.open_other j hj.1)
    · by_cases hl : j ∈ l
      · exact k4 j hl
      · rw [List.mem_cons] at hj
        rw [k3 j hl, hj.resolve_right hl]
        exact hd.open_self
    · by_cases hji : j = i
      · rw [hji] at hh
        exact hasError_mono k2 (hd.errors h hh hp)
      · rw [List.mem_cons] at hj
        exact k5 j (hj.resolve_left hji) h (by rw [hd.open_other j hji]; exact hh) hp

theorem openAtPc_setStack (s : State) (k : Nat) (v : Stack) (hv : v.order = (s.stack k).order) (j : Nat) : (s.setStack k v).openAtPc j = s.openAtPc j := by
  have hloc : ∀ a, (s.setStack k v).hbmLoc a = s.hbmLoc a := fun a => by
    unfold State.hbmLoc
    by_cases h : a / stackBytes = k
    · rw [h, stack_setStack, hv]
    · rw [stack_setStack_ne _ _ h]
  unfold State.openAtPc
  simp only [hloc]
  rfl

/-- The move of a stack begins once its stored values are loaded. -/
theorem rateStart_begins {m : Nat} (hi : (s.stack m).insvc = true) (hr : (s.stack m).rate = false) (hm : (s.stack m).moving = false)
    (hw : ∀ j, j < 32 → (s.pc (32 * m + j)).st = .out → sget [] s.hbm.store (32 * m + j) = []) :
    s.rateStart m = (s.dropsPcs (stackPcs m) 5).setStack m { (s.dropsPcs (stackPcs m) 5).stack m with moving := true } := by
  have hwait : (stackPcs m).any (fun i => decide ((s.pc i).st = .out) && !anchorPc i && decide (sget [] s.hbm.store i ≠ []) && !(s.pc i).loaded) = false := by
    rw [List.any_eq_false]
    intro i hi
    unfold stackPcs at hi
    rw [List.mem_map] at hi
    obtain ⟨j, hj, rfl⟩ := hi
    have hj' := hw j (List.mem_range.mp hj)
    by_cases hout : (s.pc (32 * m + j)).st = .out
    · simp [hj' hout]
    · simp [hout]
  unfold State.rateStart
  dsimp only
  rw [if_neg (by rw [hi, hr, hm, hwait]; decide)]
  rfl

theorem mem_stackPcs {m j : Nat} (h : j < 32) : 32 * m + j ∈ stackPcs m := List.mem_map.mpr ⟨j, List.mem_range.mpr h, rfl⟩

theorem rateChange_runs (hs : s.live = true) (st : StackId) (eyes : Eyes × Eyes) :
    exec (.stackRateChange st eyes) s = .next (if (s.stack st).moving = true then s.rateEnd st eyes else s.rateStart st) := by
  have hx : exec (.stackRateChange st eyes) s = execStackRateChange st eyes s := rfl
  rw [hx, execStackRateChange, act_live hs]

/-- What the begin of a stack's move leaves. -/
theorem rateStart_leaves {m : Nat} (hi : (s.stack m).insvc = true) (hr : (s.stack m).rate = false) (hm : (s.stack m).moving = false)
    (hw : ∀ j, j < 32 → (s.pc (32 * m + j)).st = .out → sget [] s.hbm.store (32 * m + j) = []) :
    (s.rateStart m).stack m = { s.stack m with moving := true } ∧
      ∀ j, j < 32 → (s.rateStart m).openAtPc (32 * m + j) = [] ∧ ∀ h ∈ s.openAtPc (32 * m + j), h.posted = false → (s.rateStart m).hasError 5 h := by
  have hd := dropsPcs_dropped (st := 5) (by decide) (stackPcs m) s
  have hstack : (s.dropsPcs (stackPcs m) 5).stack m = s.stack m := by
    unfold State.stack
    rw [hd.stks]
  rw [rateStart_begins hi hr hm hw]
  obtain ⟨d, hdd⟩ : ∃ d, s.dropsPcs (stackPcs m) 5 = d := ⟨_, rfl⟩
  rw [hdd] at hd hstack ⊢
  refine ⟨by rw [stack_setStack, hstack], fun j hj => ⟨?_, fun h hh hp => ?_⟩⟩
  · exact (openAtPc_setStack d m { d.stack m with moving := true } rfl _).trans (hd.self _ (mem_stackPcs hj))
  · exact hasError_mono (fun _ hy => hy) (hd.errors _ (mem_stackPcs hj) h hh hp)

/-- What training has set of a PC, with its state and the values stored for it. -/
def State.training (s : State) (z : Nat) : PcSt × SMap Nat × SMap Nat := ((s.pc z).st, (s.pc z).delays, sget [] s.hbm.store z)

theorem training_st (s : State) (z : Nat) : (s.training z).1 = (s.pc z).st := rfl

theorem training_delays (s : State) (z : Nat) : (s.training z).2.1 = (s.pc z).delays := rfl

theorem training_still {s t : State} {z : Nat} (h : (t.pc z).still = (s.pc z).still) (hs : t.hbm.store = s.hbm.store) : t.training z = s.training z := by
  unfold State.training
  rw [hs, show (t.pc z).st = (s.pc z).st from (congrArg Pc.st h :), show (t.pc z).delays = (s.pc z).delays from (congrArg Pc.delays h :)]

/-- A PC that leaves service is out, and the others stay (R313). -/
theorem leavePc_training (s : State) (i z : Nat) : ((s.leavePc i).training z) = if z = i then (.out, (s.pc i).delays, sget [] s.hbm.store i) else s.training z := by
  have hd := training_still (s := s) (t := s.dropPc i 5) (z := z) ((dropPc_handles s i 5).2.2 z) (dropPc_dropped s i (st := 5) (by decide)).store
  unfold State.leavePc
  obtain ⟨u, hu⟩ : ∃ u, s.dropPc i 5 = u := ⟨_, rfl⟩
  rw [hu] at hd ⊢
  by_cases hz : z = i
  · subst hz
    rw [if_pos rfl]
    unfold State.training at hd ⊢
    rw [pc_setPc]
    exact congrArg (fun x : PcSt × SMap Nat × SMap Nat => (PcSt.out, x.2)) hd
  · rw [if_neg hz, ← hd]
    unfold State.training
    rw [pc_setPc_ne _ _ hz]
    rfl

theorem leavePc_stks (s : State) (i : Nat) : (s.leavePc i).hbm.stks = s.hbm.stks := (dropPc_dropped s i (st := 5) (by decide)).stks

theorem swept_other (s : State) {n z : Nat} (h : z ≠ n) (eyes : Eyes) : (s.swept n eyes).training z = s.training z := by
  have hw : (s.trainWrite n).pc z = s.pc z := by
    unfold State.trainWrite
    dsimp only
    rw [pc_setPc_ne _ _ h, hbmErase_pc]
  have hpc : (s.swept n eyes).pc z = s.pc z := (pc_setPc_ne (s.trainWrite n) (s.sweptPc n eyes) h).trans hw
  unfold State.training
  rw [hpc]
  rfl

/-- An anchor of a stack at its new rate is swept, and out of service when it fails (R313). -/
def State.rateAnchor (s : State) (e : Nat × Eyes) : State :=
  if (s.pc e.1).st = .retired then s else if (s.sweepPc e.1 e.2).1 then (s.sweepPc e.1 e.2).2 else (s.sweepPc e.1 e.2).2.leavePc e.1

theorem rateAnchor_other (s : State) {z : Nat} (e : Nat × Eyes) (h : z ≠ e.1) : (s.rateAnchor e).training z = s.training z := by
  unfold State.rateAnchor
  rw [sweepPc_eq]
  split
  · rfl
  · split
    · exact swept_other s h e.2
    · rw [leavePc_training, if_neg h]
      exact swept_other s h e.2

theorem rateAnchor_self (s : State) (e : Nat × Eyes) (h : (s.pc e.1).st ≠ .retired) :
    ((s.rateAnchor e).pc e.1).st = if (eyesList e.2).all eyeOk = true then (s.pc e.1).st else .out := by
  unfold State.rateAnchor
  rw [sweepPc_eq, if_neg h]
  dsimp only
  split
  · rw [swept_pc, sweptPc_st]
  · rw [← training_st, leavePc_training, if_pos rfl]

theorem swept_stks (s : State) (n : Nat) (eyes : Eyes) : (s.swept n eyes).hbm.stks = s.hbm.stks := rfl

theorem rateAnchor_stks (s : State) (e : Nat × Eyes) : (s.rateAnchor e).hbm.stks = s.hbm.stks := by
  unfold State.rateAnchor
  rw [sweepPc_eq]
  dsimp only
  split
  · rfl
  · split
    · rw [swept_stks]
    · rw [leavePc_stks, swept_stks]

/-- A PC notes that the mode registers are set. -/
def State.notesRate (s : State) (i : Nat) : State := s.setPc i ((s.pc i).note { stamp := (s.pc i).cycle, cmd := 0xA })

theorem notesRate_training (s : State) (i z : Nat) : (s.notesRate i).training z = s.training z := by
  obtain ⟨l, hl⟩ := note_parts (s.pc i) { stamp := (s.pc i).cycle, cmd := 0xA }
  unfold State.notesRate
  rw [hl]
  refine training_still ?_ rfl
  by_cases hz : z = i
  · rw [hz, pc_setPc]
    rfl
  · rw [pc_setPc_ne _ _ hz]

/-- A PC reloads the values that are stored for it (R313). -/
def State.reloads (s : State) (i : Nat) : State :=
  if sget [] s.hbm.store i ≠ [] && !anchorPc i && decide ((s.pc i).st ≠ .retired) then s.setPc i { s.pc i with delays := sget [] s.hbm.store i, stored := true } else s

/-- What a reload makes of a PC's training. -/
def reloaded (i : Nat) (x : PcSt × SMap Nat × SMap Nat) : PcSt × SMap Nat × SMap Nat :=
  if x.2.2 ≠ [] && !anchorPc i && decide (x.1 ≠ .retired) then (x.1, x.2.2, x.2.2) else x

theorem reloads_self (s : State) (i : Nat) : (s.reloads i).training i = reloaded i (s.training i) := by
  unfold State.reloads reloaded
  split
  next h =>
    refine Eq.trans ?_ (if_pos h).symm
    unfold State.training
    rw [pc_setPc]
    rfl
  next h => exact (if_neg h).symm

theorem reloads_other (s : State) (i z : Nat) (h : i ≠ z) : (s.reloads i).training z = s.training z := by
  unfold State.reloads
  split
  · unfold State.training
    rw [pc_setPc_ne _ _ h.symm]
    rfl
  · rfl

theorem reloads_stks (s : State) (i : Nat) : (s.reloads i).hbm.stks = s.hbm.stks := by
  unfold State.reloads
  split
  · rfl
  · rfl

/-- The state in which a stack's move has ended but for the reload. -/
def State.ratesAnchors (s : State) (m : Nat) (a : Eyes × Eyes) : State :=
  ((forAll (stackPcs m) State.notesRate (s.setStack m { s.stack m with rate := true, moving := false })).rateAnchor (32 * m, a.1)).rateAnchor (32 * m + 16, a.2)

theorem rateEnd_eq (s : State) (m : Nat) (a : Eyes × Eyes) : s.rateEnd m a = forAll (stackPcs m) State.reloads (s.ratesAnchors m a) := by
  unfold State.rateEnd State.ratesAnchors
  dsimp only
  rw [List.foldl_cons, List.foldl_cons, List.foldl_nil]
  generalize s.setStack m _ = u
  have hn : forAll (stackPcs m) (fun s i => s.setPc i ((s.pc i).note { stamp := (s.pc i).cycle, cmd := 0xA })) u = forAll (stackPcs m) State.notesRate u := rfl
  rw [hn]
  generalize forAll (stackPcs m) State.notesRate u = v
  rfl

theorem ratesAnchors_other (s : State) (m : Nat) (a : Eyes × Eyes) {z : Nat} (h1 : z ≠ 32 * m) (h2 : z ≠ 32 * m + 16) :
    (s.ratesAnchors m a).training z = s.training z := by
  unfold State.ratesAnchors
  rw [rateAnchor_other _ _ h2, rateAnchor_other _ _ h1]
  exact forAll_frame (State.training · z) (fun s i => notesRate_training s i z) (stackPcs m) _

theorem stackPcs_nodup (m : Nat) : (stackPcs m).Nodup :=
  List.nodup_range.map fun _ _ h => Nat.add_left_cancel h

/-- The reload takes each PC of the stack once. -/
theorem rateEnd_training (s : State) {m j : Nat} (a : Eyes × Eyes) (hj : j < 32) :
    (s.rateEnd m a).training (32 * m + j) = reloaded (32 * m + j) ((s.ratesAnchors m a).training (32 * m + j)) := by
  rw [rateEnd_eq]
  exact forAll_once (get := State.training) (upd := reloaded) reloads_self reloads_other (stackPcs m) (stackPcs_nodup m) (mem_stackPcs hj) _

theorem anchorPc_iff {m j : Nat} (hj : j < 32) : anchorPc (32 * m + j) = true ↔ j = 0 ∨ j = 16 := by
  unfold anchorPc
  rw [Nat.mul_add_mod, Nat.mod_eq_of_lt hj, Bool.or_eq_true, decide_eq_true_eq, decide_eq_true_eq]

theorem rateEnd_anchor (s : State) (m : Nat) (a : Eyes × Eyes) {j : Nat} (hj : j = 0 ∨ j = 16) :
    ((s.rateEnd m a).pc (32 * m + j)).st = ((s.ratesAnchors m a).pc (32 * m + j)).st := by
  have hlt : j < 32 := by omega
  rw [← training_st, rateEnd_training s a hlt]
  unfold reloaded
  rw [(anchorPc_iff (m := m) hlt).mpr hj, Bool.not_true, Bool.and_false, Bool.false_and, if_neg Bool.false_ne_true,
    training_st]

/-- What the end of a stack's move makes of a PC that is no anchor (R313). -/
theorem rateEnd_plain (s : State) {m j : Nat} (a : Eyes × Eyes) (hj : j < 32) (ha : anchorPc (32 * m + j) = false) :
    ((s.rateEnd m a).pc (32 * m + j)).st = (s.pc (32 * m + j)).st ∧ ((s.rateEnd m a).pc (32 * m + j)).delays =
      if sget [] s.hbm.store (32 * m + j) ≠ [] ∧ (s.pc (32 * m + j)).st ≠ .retired then sget [] s.hbm.store (32 * m + j) else (s.pc (32 * m + j)).delays := by
  have hne : j ≠ 0 ∧ j ≠ 16 := by
    have := mt (anchorPc_iff (m := m) hj).mpr (by rw [ha]; exact Bool.false_ne_true)
    omega
  have ht := rateEnd_training s (m := m) a hj
  rw [ratesAnchors_other s m a (by omega) (by omega)] at ht
  rw [← training_st, ← training_delays, ht]
  unfold reloaded
  rw [ha, Bool.not_false, Bool.and_true]
  unfold State.training
  dsimp only
  by_cases h : sget [] s.hbm.store (32 * m + j) ≠ [] ∧ (s.pc (32 * m + j)).st ≠ .retired
  · rw [if_pos h, if_pos (by simp [h])]
    exact ⟨rfl, rfl⟩
  · rw [if_neg h, if_neg (by simpa using h)]
    exact ⟨rfl, rfl⟩

theorem notesAll_pc_st (s : State) (m : Nat) (v : Stack) (z : Nat) : ((forAll (stackPcs m) State.notesRate (s.setStack m v)).pc z).st = (s.pc z).st := by
  have h := forAll_frame (State.training · z) (fun s i => notesRate_training s i z) (stackPcs m) (s.setStack m v)
  rw [← training_st, h]
  rfl

/-- The anchors stay as they are where both eyes of each lane are wide (R313). -/
theorem rateEnd_anchors (s : State) (m : Nat) (a : Eyes × Eyes) : ∀ e ∈ [(32 * m, a.1), (32 * m + 16, a.2)], (s.pc e.1).st ≠ .retired →
    ((s.rateEnd m a).pc e.1).st = if (eyesList e.2).all eyeOk = true then (s.pc e.1).st else .out := by
  intro e he hst
  have hu := notesAll_pc_st s m { s.stack m with rate := true, moving := false }
  have h0 := rateEnd_anchor s m a (j := 0) (.inl rfl)
  have h16 := rateEnd_anchor s m a (j := 16) (.inr rfl)
  unfold State.ratesAnchors at h0 h16
  obtain ⟨u, hue⟩ : ∃ u, forAll (stackPcs m) State.notesRate (s.setStack m { s.stack m with rate := true, moving := false }) = u := ⟨_, rfl⟩
  rw [hue] at hu h0 h16
  simp only [List.mem_cons, List.not_mem_nil, or_false] at he
  obtain rfl | rfl := he
  · rw [Nat.add_zero, ← training_st (((u.rateAnchor _).rateAnchor _)), rateAnchor_other _ _ (by dsimp only; omega), training_st,
      rateAnchor_self u (32 * m, a.1) (by rw [hu]; exact hst), hu] at h0
    exact h0
  · have hv : ((u.rateAnchor (32 * m, a.1)).pc (32 * m + 16)).st = (s.pc (32 * m + 16)).st := by
      rw [← training_st, rateAnchor_other _ _ (by dsimp only; omega), training_st, hu]
    rw [rateAnchor_self (u.rateAnchor (32 * m, a.1)) (32 * m + 16, a.2) (by rw [hv]; exact hst), hv] at h16
    exact h16

theorem rateEnd_stack (s : State) (m : Nat) (a : Eyes × Eyes) : (s.rateEnd m a).stack m = { s.stack m with rate := true, moving := false } := by
  have hstk : (s.rateEnd m a).hbm.stks = (s.setStack m { s.stack m with rate := true, moving := false }).hbm.stks := by
    rw [rateEnd_eq, forAll_frame (fun u => u.hbm.stks) reloads_stks]
    unfold State.ratesAnchors
    rw [rateAnchor_stks, rateAnchor_stks]
    exact forAll_frame (fun u => u.hbm.stks) (f := State.notesRate) (fun _ _ => rfl) (stackPcs m) _
  unfold State.stack at hstk ⊢
  rw [hstk]
  exact stack_setStack ..

/-! ### Command parity errors (R305) -/

theorem parityError_runs (hs : s.live = true) (i : PcId) (rep : ParityReport) (hst : (s.pc i).st = .service) (hq : (s.pc i).queue = []) :
    (((s.pc i).trace[rep.back.toNat]?).bind (·.req) = none → exec (.commandParityError i rep) s = .next (s.freeze i (s.pc i).faddr rep.syn false none)) ∧
    ∀ rid b, ((s.pc i).trace[rep.back.toNat]?).bind (·.req) = some (rid, b) →
      exec (.commandParityError i rep) s = .next (s.freeze i b rep.syn false (some (i.val, rid))) := by
  have hx : exec (.commandParityError i rep) s = execCommandParityError i rep s := rfl
  rw [hx, execCommandParityError, act_live hs]
  dsimp only
  rw [if_neg (fun h => h hst)]
  refine ⟨fun h => by rw [h], fun rid b h => ?_⟩
  rw [h]
  dsimp only
  rw [hq, List.find?_nil]

/-! ### RESUME and RETIRE (R306, R307) -/

theorem resume_runs (hs : s.live = true) (who : InitId) (i : PcId) :
    exec (.resume who i) s = .next (if who.val = fwId then s.resumePc i else s.emit (.regValue none)) := by
  have hx : exec (.resume who i) s = execResume who i s := rfl
  rw [hx, execResume, act_live hs]

theorem retire_runs (hs : s.live = true) (who : InitId) (i : PcId) :
    exec (.retire who i) s = .next (if who.val = fwId then s.retirePc i else s.emit (.regValue none)) := by
  have hx : exec (.retire who i) s = execRetire who i s := rfl
  rw [hx, execRetire, act_live hs]

theorem resumePc_restarts {i : Nat} (h : (s.pc i).st = .frozen) :
    s.resumePc i = s.setPc i { s.pc i with st := .service, fue := false, capar := false, held := false } := by
  unfold State.resumePc
  dsimp only
  rw [if_pos h]

/-- A PC that its partner served alone serves again. -/
theorem resumePc_rejoins {i : Nat} (h : (s.pc i).st = .degraded) :
    ((s.resumePc i).pc i).still = { (s.pc i).still with st := .service, fue := false, capar := false, held := false } := by
  unfold State.resumePc
  dsimp only
  rw [if_neg (by rw [h]; exact nofun), if_pos h, resync_still, pc_setPc]
  rfl

/-- A PC that owes no copy ends none. -/
theorem endCopies_none {i : Nat} (h : ∀ r ∈ (s.pc i).queue ++ (s.pc i).entering, r.role = .own) : ∃ f, s.endCopies i = s.without i f := by
  have hmine : ∀ f : HReq → Bool, (∀ r, r.role = .own → f r = false) → ((s.pc i).queue ++ (s.pc i).entering).filter f = [] := fun f hf =>
    List.filter_eq_nil_iff.mpr fun r hr => by rw [hf r (h r hr)]; exact Bool.false_ne_true
  unfold State.endCopies
  dsimp only
  rw [hmine _ (fun r hr => by rw [hr])]
  exact ⟨_, rfl⟩

theorem answerOpen_pend (s : State) (r : Nat) (o : Open) (st k : Nat) : ((s.answerOpen r o st).router k).pend = (s.router k).pend := by
  cases o with
  | mem h => exact respond_pend s h st [] k
  | push x =>
    refine Eq.trans ?_ (portAnswered_pend s r 0 k)
    rfl

theorem dropPc_pend (s : State) (i st k : Nat) : ((s.dropPc i st).router k).pend = (s.router k).pend := by
  have hfold : ∀ (l : List Open) (s : State), ((l.foldl (fun s o => s.answerOpen (pcRouter i) o st) s).router k).pend = (s.router k).pend := by
    intro l
    induction l with
    | nil => exact fun _ => rfl
    | cons o l ih => exact fun s => (ih _).trans (answerOpen_pend s _ o st k)
  rw [dropPc_eq]
  have honly := clearPc_pcsOnly ((s.answersAtPc i st).leavesPorts i) i
  have hu : ((s.answersAtPc i st).router k).pend = (s.router k).pend := hfold _ s
  obtain ⟨u, hue⟩ : ∃ u, s.answersAtPc i st = u := ⟨_, rfl⟩
  rw [hue] at honly hu ⊢
  have hnoc : ((u.leavesPorts i).clearPc i).noc = u.noc := (congrArg State.noc honly :)
  rw [← hu]
  unfold State.router
  rw [hnoc]

theorem dropPc_foreign (s : State) (i st : Nat) : ∀ r ∈ ((s.dropPc i st).pc i).queue, r.home i ≠ i := by
  rw [dropPc_eq]
  exact fun r hr => (clearPc_foreign _ i r hr).2

/-- What RETIRE makes of a PC that is of no pair (R307). -/
structure RetiredBy (s t : State) (i : Nat) : Prop where
  st : (t.pc i).st = .retired
  opens : (t.pc i).opens = []
  queue : ∀ r ∈ (t.pc i).queue, r.home i ≠ i
  sref : (t.pc i).sref = false
  pend : (t.router (pcRouter i)).pend = (s.router (pcRouter i)).pend ++ [RtrChange.pcDead (i % 2) true]
  errors : ∀ h ∈ s.openAtPc i, h.posted = false → t.hasError 4 h

theorem dropsAll_alone {i : Nat} (hmir : (s.pc i).mir = false) : s.dropsAll i = (s.endCopies i).dropPc i 4 := by
  have h : ((s.endCopies i).pc i).mir = false := ((endCopies_handles s i).mir i).trans hmir
  unfold State.dropsAll
  dsimp only
  rw [h, Bool.false_and, if_neg Bool.false_ne_true]

/-- The end of a retirement. -/
theorem retires_keeps (u : State) (i : Nat) : let t := ((u.setPc i { u.pc i with st := .retired, sref := false }).setPcDead i true).log 0x32 (pcData i)
    t.pc i = { u.pc i with st := .retired, sref := false } ∧ (t.router (pcRouter i)).pend = (u.router (pcRouter i)).pend ++ [RtrChange.pcDead (i % 2) true] ∧
      t.noc.packets = u.noc.packets := by
  refine ⟨?_, ?_, ?_⟩
  · rw [log_pc, setPcDead_pc, pc_setPc]
  · rw [log_router, setPcDead_pend, setPc_router]
  · obtain ⟨r, hr, -⟩ := log_eq ((u.setPc i { u.pc i with st := .retired, sref := false }).setPcDead i true) 0x32 (pcData i)
    rw [hr]
    exact setPcDead_packets ..

theorem retirePc_retired {i : Nat} (hst : (s.pc i).st ≠ .retired) (hmir : (s.pc i).mir = false)
    (hown : ∀ r ∈ (s.pc i).queue ++ (s.pc i).entering, r.role = .own) : RetiredBy s (s.retirePc i) i := by
  obtain ⟨f, hf⟩ := endCopies_none hown
  have honly : s.pcsOnly (s.endCopies i) := hf ▸ without_pcsOnly s i f
  have hopen : (s.endCopies i).openAtPc i = s.openAtPc i := by
    rw [openAtPc_pcs honly, hf, without_opens]
    rfl
  rw [retirePc_eq hst, dropsAll_alone hmir]
  obtain ⟨v, hv⟩ : ∃ v, s.endCopies i = v := ⟨_, rfl⟩
  rw [hv] at honly hopen ⊢
  have hd := dropPc_dropped v i (st := 4) (by decide)
  have hopens := dropPc_opens v i 4
  have hqueue := dropPc_foreign v i 4
  have hpend := dropPc_pend v i 4 (pcRouter i)
  rw [show (v.router (pcRouter i)).pend = (s.router (pcRouter i)).pend from (congrArg (fun w : State => (w.router (pcRouter i)).pend) honly :)] at hpend
  have herr := hd.errors
  rw [hopen] at herr
  obtain ⟨u, hu⟩ : ∃ u, v.dropPc i 4 = u := ⟨_, rfl⟩
  rw [hu] at hopens hqueue hpend herr ⊢
  obtain ⟨k1, k2, k3⟩ := retires_keeps u i
  refine ⟨by rw [k1], by rw [k1]; exact hopens, by rw [k1]; exact hqueue, by rw [k1], k2.trans (by rw [hpend]), fun h hh hp => ?_⟩
  exact hasError_mono (fun y hy => by rw [k3]; exact hy) (herr h hh hp)

end

end Sys2Proof.Machine

/-! O42: the requests and commands of the HBM controllers. -/

namespace Sys2Proof.Machine

/-- Settles O42. -/
theorem hbmControllers : Obligations.HbmControllers := by
  unfold Obligations.HbmControllers
  constructor
  · intro s st ch i h rest r a b ecc o d syn act u v m hs p n fast l c other bursts has
    refine ⟨?_, ?_, ?_, ?_, ?_, ?_⟩
    · intro hp j q k
      refine ⟨fun hst hw ho => ?_, fun h1 h2 => ?_, fun hsref hlen hent hin hst ho => ?_⟩
      · rw [enqueue_runs hs, enqueue_waits hp (by rw [show (s.pc (s.hbmLoc h.addr).pc).st = .service from hst]; exact nofun) (enqueueWaits_full ho hw)]
      · rw [enqueue_runs hs, enqueue_waits hp h2 (enqueueWaits_stopped h1)]
      · obtain ⟨x, hx, he⟩ := enqueue_enters hp rfl hsref hlen hent hin hst ho
        rw [enqueue_runs hs, he]
        refine ⟨_, rfl, ?_, rfl, rfl, rfl, ?_⟩
        · exact sget_sput_same ..
        · exact (pc_setPc ..).trans hx
    · intro hturn hch
      rw [grant_first hturn hch]
      refine ⟨fun h => by rw [decide_eq_true h, Bool.true_or], fun h => ?_, fun h hp => ?_⟩
      · rw [decide_eq_false (Nat.not_lt.mpr (Nat.le_of_lt h)), decide_eq_false (Nat.ne_of_lt h), Bool.false_and, Bool.or_self]
      · rw [rrPick_two hp, h, decide_eq_false (Nat.lt_irrefl v), decide_eq_true rfl, Bool.false_or, Bool.true_and]
        exact decide_eq_decide.mpr (Option.some_inj)
    · intro hsref
      have hc : s.hbmCycle i ecc = s := if_pos hsref
      rw [schedule_runs hs, hc]
    · intro hsref hent hl
      refine ⟨fun hq ha => ?_, fun hq hno => ?_⟩
      · obtain ⟨e, he⟩ := schedule_idle (ecc := ecc) hsref hent hl hq ha
        exact ⟨e, by rw [schedule_runs hs, he]⟩
      · obtain ⟨e, he⟩ := schedule_yields (ecc := ecc) hsref hent hl (by rw [show (s.pc i).queue = [r] from hq]; exact nofun) hno
        exact ⟨e, by rw [schedule_runs hs, he]⟩
    · intro hsref hent hq ha hl ho hr hleft
      refine ⟨fun hm => ?_, fun hm hd hlen hgot => ?_⟩
      · obtain ⟨e, he⟩ := schedule_leaving (ecc := ecc) hsref hent hl hq ha
        exact ⟨e, by rw [schedule_runs hs, he, if_neg (Nat.not_le.mpr hm)]⟩
      · obtain ⟨e, he⟩ := schedule_answers (ecc := ecc) hsref hent hl hq ha hm ho hr hleft hd hlen hgot
        exact ⟨e, by rw [schedule_runs hs, he]⟩
    · intro hsref hst hm hbusy hent hl hheld hgrant hq harr
      have hdet : s.det = false := decide_eq_false hm
      refine ⟨fun ha hla hfree => ?_, fun ha hclosed hsubs hready hcol hwrs hbs hdone hhold hseen hrole ho haddr hn hposted => ?_⟩
      · obtain ⟨e, he⟩ := schedule_row (ecc := ecc) hsref hst hdet hbusy hent hl hheld hgrant hq harr ha hla hfree
        refine ⟨sput 0 p.bankFree (16 * l.sid + l.bank) (n + hcyc fast 470), e, ?_, fun z => sget_sput_if _ _ _ _ z⟩
        rw [schedule_runs hs, he]
        rfl
      · have hready : ReadyColumn s i b r a := ⟨hsref, hst, hdet, hbusy, hent, hl, hheld, hgrant, hq, harr, ha, hclosed, hsubs, hready, hcol, hwrs,
          ⟨hbs, hdone, hhold, hseen, hrole, haddr, hn⟩, ho⟩
        rw [schedule_runs hs]
        refine ⟨fun hd hecc => ?_, fun hd hlen hecc hmir => ?_, fun hd hecc hmir hanchor hports hwipe => ?_⟩
        · obtain ⟨t, ht, h⟩ := schedule_reads hready hd
          exact ⟨t, by rw [hecc, ht], h⟩
        · obtain ⟨t, ht, h⟩ := schedule_writes hready hd hlen hmir
          exact ⟨t, by rw [hecc, ht], h⟩
        · obtain ⟨hf, hpackets, hqueue⟩ := schedule_freezes (syn := syn) hready hd hmir hanchor hwipe hports
          rw [hecc]
          exact ⟨_, rfl, hpackets, hf.st, hqueue, hf.opens, hf.held, hf.fue, hf.fsyn, hf.faddr, hf.count, hf.pend, hf.mem⟩
  · intro s i st lane dq lo hi margin temp who eyes eyes2 rep o b at_ hs p k u gap wide dead answered refreshed
    refine ⟨?_, ?_, ?_, ?_, ?_, ?_, ?_, ?_, ?_, ?_, ?_, ?_, ?_, ?_, ?_, ?_, ?_, ?_⟩
    · intro h
      rw [refreshDue_runs hs, refreshDue_none h]
    · intro hdue hk
      rw [refreshDue_runs hs, refreshDue_eq hdue hk]
      refine ⟨fun hsref => ?_, fun hsref hu hm ho => ?_, fun hsref h => ?_⟩
      · rw [if_pos hsref]
        rfl
      · rw [if_neg (by rw [hsref]; exact Bool.false_ne_true), if_pos (by rw [hu, show s.det = false from decide_eq_false hm, decide_eq_true ho]; rfl)]
        rfl
      · rw [if_neg (by rw [hsref]; exact Bool.false_ne_true), if_neg (refreshDue_issues h)]
        obtain ⟨h1, h2, h3, h4, h5, h6⟩ := refresh_counts (s := s) (p.dueNext gap) k.rate (Nat.succ_pos p.owed)
        refine ⟨_, rfl, ?_⟩
        rw [pc_setPc]
        exact ⟨rfl, h6, h1, h2, h3, h4, h5⟩
    · intro howed hu
      rw [owedRun_runs hs, owedRun_eq howed hu]
      obtain ⟨h1, h2, h3, h4, h5, -⟩ := refresh_counts (s := s) (s.pc i) k.rate howed
      refine ⟨_, rfl, ?_⟩
      rw [pc_setPc]
      exact ⟨rfl, h1, h2, h3, h4, h5⟩
    · intro h
      rw [owedRun_runs hs, owedRun_none h]
    · exact retrainingPause_early hs i lane lo hi margin
    · intro h hsref hst hdue
      obtain ⟨t, busy, ht, hpc⟩ := retrainingPause_pc hs i lane lo hi margin h hsref hst hdue
      refine ⟨t, ht, ?_⟩
      rw [hpc]
      exact ⟨rfl, rfl, rfl, paused_delays _ _ lo hi _ _ _⟩
    · intro h hdq hweak hgood h0 h1 hbad
      obtain ⟨t, ht, k1, k2, k3⟩ := dqLaneRemap_pc hs i dq h hdq hweak hgood h0 h1 hbad
      refine ⟨t, ht, k1, ?_, ?_⟩
      · rw [k2, dqUsed_pair h0 h1]
      · rw [k3]
        exact fun e he => of_decide_eq_true (List.mem_filter.mp he).2
    · intro hmode hid ha hst hsref hq hent hl hport hmove hheld hidle howed
      rw [selfRefreshEntry_runs hs, srefEnter_enters hmode hid ha hst hsref hq hent hl hport hmove hheld hidle howed]
    · intro _ h
      rw [selfRefreshExit_runs hs, srefExit_early h]
    · intro h hport hheld hat
      obtain ⟨h1, h2⟩ := dueAfter_later (gap := k.interval) (interval_pos k) p.due s.now
      refine ⟨dueAfter p.due s.now k.interval, ?_, h1, h2⟩
      rw [selfRefreshExit_runs hs, srefExit_exits h hport hheld hat]
      rfl
    · exact temperature_runs hs st temp
    · intro hk hst hb
      have hwide : (eyesList eyes).all eyeOk = true ↔ wide eyes := eyesOk_iff eyes
      rw [fullSweep_runs hs i eyes hk hst hb]
      have htrained : (s.sweptPc i eyes).trained = p.trained + 1 := sweptPc_trained i eyes
      have heyes := sweptPc_eyes (s := s) i eyes
      refine ⟨_, rfl, ?_⟩
      split
      next hok =>
        obtain ⟨hard, soft, hp⟩ := servePc_pc (s := s.swept i eyes) i.val
        rw [hp, swept_pc]
        exact ⟨htrained, fun _ => ⟨rfl, rfl, rfl⟩, fun hn => absurd (hwide.mp hok) hn, heyes⟩
      next hok =>
        rw [swept_pc]
        exact ⟨htrained, fun hw => absurd (hwide.mpr hw) hok, fun _ => (sweptPc_st ..).trans hst, heyes⟩
    · intro h hat
      refine ⟨_, trainingStore_runs hs h hat, fun z hz => ?_⟩
      rw [sget_foldl_of]
      simp [hz]
    · intro hi hr hm hw
      obtain ⟨h1, h2⟩ := rateStart_leaves hi hr hm hw
      rw [rateChange_runs hs, if_neg (by rw [show (s.stack st).moving = false from hm]; exact Bool.false_ne_true)]
      exact ⟨_, rfl, h1, h2⟩
    · intro hm
      rw [rateChange_runs hs, if_pos hm]
      refine ⟨_, rfl, rateEnd_stack .., fun j hj ha => rateEnd_plain s (eyes, eyes2) hj ha, fun e he hst => ?_⟩
      rw [rateEnd_anchors s st (eyes, eyes2) e he hst]
      exact if_congr (eyesOk_iff e.2) rfl rfl
    · intro hst hmir ha hq _ _ hwipe hports
      obtain ⟨h1, h2⟩ := parityError_runs hs i rep hst hq
      refine ⟨fun ho htr => ?_, fun ho htr => ?_⟩
      · obtain ⟨hf, hpk⟩ := freeze_idle (addr := (s.pc i).faddr) (syn := rep.syn) (ue := false) hmir ha hwipe ho hports
        exact ⟨_, h1 (by rw [show (s.pc i).trace = [] from htr]; rfl), hf.st, hf.capar, hf.fsyn, hf.count, hf.pend, hpk⟩
      · obtain ⟨hf, hpk, -⟩ := freeze_one (addr := b) (syn := rep.syn) (ue := false) hmir ha hwipe ho rfl hports
        exact ⟨_, h2 o.rid b htr, hf.st, hf.capar, hf.fsyn, hf.faddr, hf.opens, hf.pend, hpk⟩
    · intro hwho
      rw [resume_runs hs, retire_runs hs, if_pos hwho, if_pos hwho]
      refine ⟨fun hst => by rw [resumePc_restarts hst], fun hst => ?_, fun hst hmir hown => ?_⟩
      · have h := resumePc_rejoins hst
        exact ⟨_, rfl, (congrArg Pc.st h :), (congrArg Pc.fue h :), (congrArg Pc.capar h :), (congrArg Pc.held h :)⟩
      · have h := retirePc_retired hst hmir hown
        exact ⟨_, rfl, h.st, h.opens, h.queue, h.sref, h.pend, h.errors⟩
    · intro hwho
      rw [resume_runs hs, retire_runs hs, if_neg hwho, if_neg hwho]
      exact ⟨rfl, rfl⟩

end Sys2Proof.Machine

/-! O56: the canonical form of the HBM contents, and what keeps it. -/

namespace Sys2Proof.Machine

/-- Whether the HBM contents of a state have the canonical form. -/
def State.memWf (s : State) : Prop := Memory.wf s.hbm.mem = true

/-- Whether the HBM contents have the canonical form wherever a command goes on. -/
def nextMemWf (o : Host.Outcome State Fault Refusal) : Prop := ∀ t, o = .next t → t.memWf

/-- All but the memory may change. -/
theorem mk_memWf {s : State} {pending out entropy time sys cls movers belay noc loader sec host rel ext} (h : s.memWf) :
    State.memWf ⟨pending, out, entropy, time, sys, cls, movers, belay, noc, s.hbm, loader, sec, host, rel, ext⟩ := h

/-- All of the memory but its contents may change. -/
theorem mkHbm_memWf {s : State} {pending out entropy time sys cls movers belay noc loader sec host rel ext stks pcs ports buses nextRid store storedAt} (h : s.memWf) :
    State.memWf ⟨pending, out, entropy, time, sys, cls, movers, belay, noc, ⟨s.hbm.mem, stks, pcs, ports, buses, nextRid, store, storedAt⟩, loader, sec, host, rel, ext⟩ := h

/-- Whether the HBM contents have the canonical form in a state that comes with a value, if any. -/
def someMemWf {α : Type} (o : Option (α × State)) : Prop := ∀ x, o = some x → x.2.memWf

/-- Whether the HBM contents have the canonical form where a sequencer's access is performed. -/
def accMemWf (o : SeqAcc) : Prop := ∀ d t, o = .ok d t → t.memWf

theorem ite_memWf {c : Prop} [Decidable c] {a b : State} (ha : a.memWf) (hb : b.memWf) : (if c then a else b).memWf := by
  split
  · exact ha
  · exact hb

theorem ite_snd_memWf {α : Type} {c : Prop} [Decidable c] {a b : α × State} (ha : a.2.memWf) (hb : b.2.memWf) : (if c then a else b).2.memWf := by
  split
  · exact ha
  · exact hb

theorem ite_st_memWf {c : Prop} [Decidable c] {a b : Acc} (ha : a.st.memWf) (hb : b.st.memWf) : (if c then a else b).st.memWf := by
  split
  · exact ha
  · exact hb

theorem ite_nextMemWf {c : Prop} [Decidable c] {a b : Host.Outcome State Fault Refusal} (ha : nextMemWf a) (hb : nextMemWf b) : nextMemWf (if c then a else b) := by
  split
  · exact ha
  · exact hb

theorem next_memWf {s : State} (h : s.memWf) : nextMemWf (.next s) := by
  intro t ht
  cases ht
  exact h

theorem refused_memWf (r : Refusal) : nextMemWf (.refused r) := by
  intro t ht
  cases ht

theorem fault_memWf (f : Fault) : nextMemWf (.fault f) := by
  intro t ht
  cases ht

theorem foldl_memWf {α : Type} {f : State → α → State} {l : List α} {s : State} (hf : ∀ u a, u.memWf → (f u a).memWf) (h : s.memWf) : (l.foldl f s).memWf := by
  induction l generalizing s with
  | nil => exact h
  | cons a l ih => exact ih (hf s a h)

theorem foldl_snd_memWf {α β : Type} {f : β × State → α → β × State} {l : List α} {r : β × State} (hf : ∀ u a, u.2.memWf → (f u a).2.memWf) (h : r.2.memWf) :
    (l.foldl f r).2.memWf := by
  induction l generalizing r with
  | nil => exact h
  | cons a l ih => exact ih (hf r a h)

theorem ite_someMemWf {α : Type} {c : Prop} [Decidable c] {a b : Option (α × State)} (ha : someMemWf a) (hb : someMemWf b) : someMemWf (if c then a else b) := by
  split
  · exact ha
  · exact hb

theorem ite_accMemWf {c : Prop} [Decidable c] {a b : SeqAcc} (ha : accMemWf a) (hb : accMemWf b) : accMemWf (if c then a else b) := by
  split
  · exact ha
  · exact hb

theorem some_memWf {α : Type} {x : α × State} (h : x.2.memWf) : someMemWf (some x) := by
  intro y hy
  cases hy
  exact h

theorem none_memWf {α : Type} : someMemWf (none : Option (α × State)) := by
  intro _ hx
  cases hx

theorem someMemWf_of {α : Type} {o : Option (α × State)} {a : α} {t : State} (h : someMemWf o) (e : o = some (a, t)) : t.memWf := h _ e

theorem getD_memWf {α : Type} {o : Option (α × State)} {d : α × State} (ho : someMemWf o) (hd : d.2.memWf) : (o.getD d).2.memWf := by
  cases o with
  | none => exact hd
  | some x => exact ho x rfl

theorem served_memWf {d : List Byte} {s : State} (h : s.memWf) : accMemWf (.ok d s) := by
  intro _ _ ht
  cases ht
  exact h

theorem trapped_memWf {n : Nat} : accMemWf (.trap n) := by
  intro _ _ ht
  cases ht

theorem waiting_memWf : accMemWf .wait := by
  intro _ _ ht
  cases ht

theorem accMemWf_of {o : SeqAcc} {d : List Byte} {t : State} (h : accMemWf o) (e : o = .ok d t) : t.memWf := h _ _ e

theorem forAll_memWf {xs : List Nat} {f : State → Nat → State} {s : State} (hf : ∀ u a, u.memWf → (f u a).memWf) (h : s.memWf) : (forAll xs f s).memWf := foldl_memWf hf h

/-! ### What writes the memory -/

section
variable {s : State}

theorem hbmWrite_memWf {a bs} (h : s.memWf) : (s.hbmWrite a bs).memWf := memPuts_wf bs _ a h

theorem hbmErase_memWf {lo hi} (h : s.memWf) : (s.hbmErase lo hi).memWf := memErase_wf _ lo hi h

theorem foldl_memPuts_wf {l : List Nat} {f : Nat → Nat} {bs : List Byte} : ∀ {m : List Host.Cell}, Memory.wf m = true →
    Memory.wf (l.foldl (fun m b => memPuts m (f b) bs) m) = true := by
  induction l with
  | nil => exact fun h => h
  | cons b l ih => exact fun h => ih (memPuts_wf bs _ _ h)

theorem anchorKeep_memWf {item off bs} (h : s.memWf) : (s.anchorKeep item off bs).memWf := foldl_memPuts_wf h

end

end Sys2Proof.Machine

/-! O56: the parts of the state, clusters and sequencers keep the canonical form of the HBM contents. -/

namespace Sys2Proof.Machine

section
variable {s : State}

/-! ### Named operations over the parts of the state -/

theorem setCl_memWf {c v} (h : s.memWf) : (s.setCl c v).memWf := mk_memWf h

theorem updCl_memWf {c f} (h : s.memWf) : (s.updCl c f).memWf := setCl_memWf h

theorem setQueue_memWf {q v} (h : s.memWf) : (s.setQueue q v).memWf := updCl_memWf h

theorem setMover_memWf {m v} (h : s.memWf) : (s.setMover m v).memWf := mk_memWf h

theorem setTask_memWf {t v} (h : s.memWf) : (s.setTask t v).memWf := mk_memWf h

theorem setBreg_memWf {r v} (h : s.memWf) : (s.setBreg r v).memWf := mk_memWf h

theorem setTimer_memWf {t v} (h : s.memWf) : (s.setTimer t v).memWf := mk_memWf h

theorem setSrec_memWf {c v} (h : s.memWf) : (s.setSrec c v).memWf := mk_memWf h

theorem setRouter_memWf {r v} (h : s.memWf) : (s.setRouter r v).memWf := mk_memWf h

theorem setInit_memWf {i v} (h : s.memWf) : (s.setInit i v).memWf := mk_memWf h

theorem setStack_memWf {i v} (h : s.memWf) : (s.setStack i v).memWf := mkHbm_memWf h

theorem setPc_memWf {i v} (h : s.memWf) : (s.setPc i v).memWf := mkHbm_memWf h

theorem setCtx_memWf {i v} (h : s.memWf) : (s.setCtx i v).memWf := mk_memWf h

theorem setRope_memWf {v} (h : s.memWf) : (s.setRope v).memWf := mk_memWf h

theorem setRegion_memWf {r v} (h : s.memWf) : (s.setRegion r v).memWf := mk_memWf h

theorem setSpdm_memWf {p v} (h : s.memWf) : (s.setSpdm p v).memWf := mk_memWf h

theorem setKey_memWf {k v} (h : s.memWf) : (s.setKey k v).memWf := mk_memWf h

theorem setPort_memWf {p v} (h : s.memWf) : (s.setPort p v).memWf := mk_memWf h

theorem setFunc_memWf {p f v} (h : s.memWf) : (s.setFunc p f v).memWf := setPort_memWf h

theorem setSmap_memWf {c v} (h : s.memWf) : (s.setSmap c v).memWf := mk_memWf h

theorem setEth_memWf {e v} (h : s.memWf) : (s.setEth e v).memWf := mk_memWf h

theorem setSess_memWf {i v} (h : s.memWf) : (s.setSess i v).memWf := mk_memWf h

theorem setBank_memWf {b v} (h : s.memWf) : (s.setBank b v).memWf := mk_memWf h

theorem emit_memWf {o} (h : s.memWf) : (s.emit o).memWf := mk_memWf h

theorem stepTime_memWf {t} (h : s.memWf) : (s.stepTime t).memWf := ite_memWf h (mk_memWf h)

theorem act_memWf {f} (h : s.memWf) (hf : ∀ (a : State), a.memWf → (f a).memWf) : nextMemWf (act s f) := next_memWf (ite_memWf h (hf _ h))

theorem rollLog_memWf (h : s.memWf) : s.rollLog.memWf := ite_memWf h (mk_memWf h)

theorem log_memWf {code data} (h : s.memWf) : (s.log code data).memWf := ite_memWf (mk_memWf (rollLog_memWf h)) (mk_memWf (rollLog_memWf h))

/-! ### The network's geometry -/

theorem sendFrom_memWf {a b p} (h : s.memWf) : (s.sendFrom a b p).memWf := mk_memWf h

theorem sendReq_memWf {b p} (h : s.memWf) : (s.sendReq b p).memWf := sendFrom_memWf (setInit_memWf h)

/-! ### Stream queues -/

theorem linkBack_memWf {c q} (h : s.memWf) : (s.linkBack c q).memWf := by
  unfold State.linkBack
  split
  · exact updCl_memWf h
  · split
    · exact ite_memWf h (updCl_memWf h)
    · exact h

theorem creditBack_memWf {c q} (h : s.memWf) : (s.creditBack c q).memWf := ite_memWf (sendReq_memWf (linkBack_memWf h)) (linkBack_memWf h)

theorem raiseLine_memWf {c l} (h : s.memWf) : (s.raiseLine c l).memWf := updCl_memWf h

/-! ### Errors and their responses (R448, R464 to R475) -/

theorem pendRouter_memWf {r c} (h : s.memWf) : (s.pendRouter r c).memWf := setRouter_memWf h

theorem pendIsland_memWf {i c} (h : s.memWf) : (s.pendIsland i c).memWf := forAll_memWf (fun _ _ hu => pendRouter_memWf hu) h

theorem requestFence_memWf {i} (h : s.memWf) : (s.requestFence i).memWf := pendIsland_memWf (mk_memWf h)

theorem faultSafe_memWf {cause} (h : s.memWf) : (s.faultSafe cause).memWf :=
  ite_memWf h (log_memWf (forAll_memWf (fun _ _ hu => requestFence_memWf hu) (forAll_memWf (fun _ _ hu => updCl_memWf hu) (mk_memWf h))))

theorem stopRegion_memWf {r cause} (h : s.memWf) : (s.stopRegion r cause).memWf := by
  unfold State.stopRegion
  split
  · exact h
  · exact ite_memWf h (log_memWf (forAll_memWf (fun _ _ hu => updCl_memWf hu) (setRegion_memWf h)))

theorem useStandby_memWf {xs} (h : s.memWf) : (s.useStandby xs).memWf := forAll_memWf (fun _ _ hu => setSmap_memWf hu) (mk_memWf h)

theorem giveStandby_memWf {xs} (h : s.memWf) : (s.giveStandby xs).memWf := forAll_memWf (fun _ _ hu => setSmap_memWf hu) (mk_memWf h)

theorem addMove_memWf {c b lead} (h : s.memWf) : (s.addMove c b lead).memWf := mk_memWf h

theorem chooseStandby_memWf {c r} (h : s.memWf) : (s.chooseStandby c r).memWf := by
  unfold State.chooseStandby
  split
  · split
    · exact addMove_memWf (useStandby_memWf h)
    · exact stopRegion_memWf h
  · refine ite_memWf (stopRegion_memWf h) ?_
    split
    · exact addMove_memWf (addMove_memWf (useStandby_memWf h))
    · exact stopRegion_memWf h

theorem chooseFor_memWf {cs} (h : s.memWf) : (s.chooseFor cs).memWf := by
  unfold State.chooseFor
  refine forAll_memWf ?_ h
  intro _ _ hu
  refine ite_memWf hu ?_
  split
  · exact chooseStandby_memWf hu
  · exact hu

theorem declare_memWf {c} (h : s.memWf) : (s.declare c).memWf := ite_memWf h (chooseFor_memWf (giveStandby_memWf (mk_memWf h)))

theorem loseStandby_memWf {b} (h : s.memWf) : (s.loseStandby b).memWf := by
  unfold State.loseStandby
  split
  · exact h
  · exact chooseFor_memWf (giveStandby_memWf (mk_memWf h))

theorem retire_memWf {c cause} (h : s.memWf) : (s.retire c cause).memWf :=
  ite_memWf h (ite_memWf (declare_memWf (loseStandby_memWf (updCl_memWf (log_memWf (mk_memWf (setSmap_memWf h)))))) (loseStandby_memWf (updCl_memWf
      (log_memWf (mk_memWf (setSmap_memWf h))))))

theorem failCell_memWf {c cell} (h : s.memWf) : (s.failCell c cell).memWf :=
  ite_memWf h (ite_memWf (updCl_memWf h) (ite_memWf (retire_memWf h) (updCl_memWf h)))

theorem residue_memWf {c cell} (h : s.memWf) : (s.residue c cell).memWf :=
  ite_memWf (failCell_memWf (log_memWf (setCl_memWf h))) (log_memWf (setCl_memWf h))

theorem cellUE_memWf {c cell word} (h : s.memWf) : (s.cellUE c cell word).memWf :=
  ite_memWf (failCell_memWf (log_memWf (setCl_memWf h))) (log_memWf (setCl_memWf h))

theorem memUE_memWf {c area} (h : s.memWf) : (s.memUE c area).memWf := log_memWf h

/-! ### An island cycle of a cluster (R78 to R128) -/

theorem fwdPop_memWf {c ch turn} (h : s.memWf) : (s.fwdPop c ch turn).memWf :=
  ite_memWf (ite_memWf (creditBack_memWf (setCl_memWf h)) (setCl_memWf h)) h

theorem queueUpkeep_memWf {k0 c} (h : s.memWf) : (State.queueUpkeep k0 s c).memWf := updCl_memWf (forAll_memWf (fun _ _ hu => fwdPop_memWf hu) h)

theorem planePops_memWf {c} (h : s.memWf) : (s.planePops c).2.memWf :=
  foldl_snd_memWf (fun _ _ hu => ite_snd_memWf (ite_memWf (creditBack_memWf (setCl_memWf hu)) (setCl_memWf hu)) hu) h

theorem planeSends_memWf {c out} (h : s.memWf) : (s.planeSends c out).memWf := updCl_memWf h

theorem noteIdle_memWf {old : State} (h : s.memWf) : (s.noteIdle old).memWf := forAll_memWf (fun _ _ hu => mk_memWf hu) h

theorem setCls_memWf {l} (h : s.memWf) : (s.setCls l).memWf := by
  induction l generalizing s with
  | nil => exact h
  | cons e l ih => exact ih (setCl_memWf h)

theorem pairMismatch_memWf {c cs} (h : s.memWf) : (s.pairMismatch c cs).memWf := by
  unfold State.pairMismatch
  split
  · exact forAll_memWf (fun _ _ hu => updCl_memWf hu) (stopRegion_memWf (log_memWf h))
  · exact h

theorem advanceCycle_memWf {s0 : State} {ls ts} (h : s0.memWf) : (s0.advanceCycle ls ts).memWf :=
  ite_memWf (foldl_memWf (fun _ _ hu => planeSends_memWf hu) (forAll_memWf (fun _ _ hu => foldl_memWf (fun _ _ hv => cellUE_memWf hv) hu)
      (setCls_memWf (forAll_memWf (fun _ _ hu => foldl_memWf (fun _ _ hv => cellUE_memWf hv) hu) (setCls_memWf (foldl_snd_memWf (fun _ _ hu =>
      planePops_memWf hu) h)))))) (pairMismatch_memWf h)

theorem repairEnd_memWf {c} (h : s.memWf) : (s.repairEnd c).memWf := forAll_memWf (fun _ _ hu => failCell_memWf hu) (setCl_memWf h)

theorem pauseCycle_memWf {cs} (h : s.memWf) : (s.pauseCycle cs).memWf :=
  forAll_memWf (fun _ _ hu => ite_memWf (repairEnd_memWf (setCl_memWf hu)) (setCl_memWf hu)) h

theorem fillCycle_memWf {ls ts last} (h : s.memWf) : (s.fillCycle ls ts last).memWf := by
  unfold State.fillCycle
  refine ite_memWf ?_ (forAll_memWf (fun _ _ hu => updCl_memWf hu) h)
  dsimp only
  split
  · refine setCl_memWf ?_
    split
    · exact setCl_memWf (forAll_memWf (fun _ _ hu => updCl_memWf hu) h)
    · exact setCl_memWf (setCl_memWf (forAll_memWf (fun _ _ hu => updCl_memWf hu) h))
    · exact forAll_memWf (fun _ _ hu => updCl_memWf hu) h
  · refine setCl_memWf ?_
    refine setCl_memWf ?_
    split
    · exact setCl_memWf (forAll_memWf (fun _ _ hu => updCl_memWf hu) h)
    · exact setCl_memWf (setCl_memWf (forAll_memWf (fun _ _ hu => updCl_memWf hu) h))
    · exact forAll_memWf (fun _ _ hu => updCl_memWf hu) h
  · split
    · exact setCl_memWf (forAll_memWf (fun _ _ hu => updCl_memWf hu) h)
    · exact setCl_memWf (setCl_memWf (forAll_memWf (fun _ _ hu => updCl_memWf hu) h))
    · exact forAll_memWf (fun _ _ hu => updCl_memWf hu) h

theorem parkedCycle_memWf {ls ts} (h : s.memWf) : (s.parkedCycle ls ts).memWf := setCls_memWf (setCls_memWf h)

theorem runCycle_memWf {ls ts} (h : s.memWf) : (s.runCycle ls ts).memWf :=
  ite_memWf (advanceCycle_memWf h) (foldl_memWf (fun _ _ hu => updCl_memWf hu) (foldl_memWf (fun _ _ hu => updCl_memWf hu) h))

theorem migCycle_memWf {c} (h : s.memWf) : (s.migCycle c).memWf := forAll_memWf (fun _ _ hu => updCl_memWf hu) h

theorem cycle_memWf {c} (h : s.memWf) : (s.cycle c).memWf :=
  ite_memWf (ite_memWf (migCycle_memWf h) h) (forAll_memWf (fun _ _ hu => queueUpkeep_memWf hu) (ite_memWf (pauseCycle_memWf h) (ite_memWf
      (fillCycle_memWf h) (ite_memWf (parkedCycle_memWf h) (runCycle_memWf h)))))

theorem upset_memWf {c cell word double} (h : s.memWf) : (s.upset c cell word double).memWf := setCl_memWf h

theorem loseWord_memWf {c area i} (h : s.memWf) : (s.loseWord c area i).memWf := memUE_memWf (updCl_memWf h)

theorem cellEvent_memWf {c y} (h : s.memWf) : (s.cellEvent c y).memWf := by
  unfold State.cellEvent
  split
  · exact upset_memWf h
  · exact residue_memWf h
  · exact loseWord_memWf h
  · exact h

/-! ### The sequencer's operations (R171 to R205) -/

theorem updSeq_memWf {c f} (h : s.memWf) : (s.updSeq c f).memWf := updCl_memWf h

theorem sendComp_memWf {c task status code} (h : s.memWf) : (s.sendComp c task status code).memWf := ite_memWf h (sendReq_memWf h)

theorem endSlot_memWf {c i status code} (h : s.memWf) : (s.endSlot c i status code).memWf := by
  unfold State.endSlot
  split
  · exact h
  · exact sendComp_memWf (updSeq_memWf h)

theorem endTask_memWf {c status code} (h : s.memWf) : (s.endTask c status code).memWf := by
  unfold State.endTask
  refine updSeq_memWf ?_
  split
  · exact endSlot_memWf h
  · exact h

theorem windowFault_memWf {c} (h : s.memWf) : (s.windowFault c).memWf := retire_memWf (log_memWf (endTask_memWf h))

theorem trap_memWf {c cause} (h : s.memWf) : (s.trap c cause).memWf := ite_memWf (windowFault_memWf h) (updSeq_memWf h)

theorem seqAct_memWf {c f} (h : s.memWf) (hf : ∀ (a : State), a.memWf → (f a).memWf) : nextMemWf (seqAct c s f) :=
  act_memWf h (fun _ hu => ite_memWf (hf _ hu) hu)

theorem setBelay_memWf {b} (h : s.memWf) : (s.setBelay b).memWf := mk_memWf h

theorem rollBelay_memWf (h : s.memWf) : s.rollBelay.memWf := ite_memWf h (setBelay_memWf h)

theorem changeRec_memWf {c f} (h : s.memWf) : (s.changeRec c f).memWf := setSrec_memWf (setBelay_memWf (rollBelay_memWf h))

theorem takeStart_memWf {c} (h : s.memWf) : (s.takeStart c).memWf := by
  unfold State.takeStart
  split
  · exact h
  · dsimp only
    split
    · exact sendReq_memWf (changeRec_memWf (updSeq_memWf h))
    · exact ite_memWf (sendComp_memWf (changeRec_memWf (updSeq_memWf h))) (updSeq_memWf (changeRec_memWf (updSeq_memWf h)))

end

end Sys2Proof.Machine

/-! O56: Belay, HBM, the network and the movers keep the canonical form of the HBM contents. -/

namespace Sys2Proof.Machine

section
variable {s : State}

/-! ### Belay's operations (R206 to R239) -/

theorem btrace_memWf {what} (h : s.memWf) : (s.btrace what).memWf := ite_memWf (anchorKeep_memWf (setBelay_memWf h)) h

theorem putTask_memWf {t k} (h : s.memWf) : (s.putTask t k).memWf := ite_memWf (setTask_memWf h) (btrace_memWf (setTask_memWf h))

theorem takeLane_memWf {o} (h : s.memWf) : (s.takeLane o).memWf := setBelay_memWf h

theorem makeReady_memWf {t} (h : s.memWf) : (s.makeReady t).memWf := setBelay_memWf (putTask_memWf (rollBelay_memWf h))

theorem enterList_memWf {t} (h : s.memWf) : (s.enterList t).memWf := ite_memWf (makeReady_memWf h) (setBelay_memWf (putTask_memWf h))

theorem takeUnit_memWf {r t} (h : s.memWf) : (s.takeUnit r t).memWf := enterList_memWf (setBreg_memWf h)

theorem armRetry_memWf {r} (h : s.memWf) : (s.armRetry r).memWf := ite_memWf h (setBreg_memWf h)

theorem counterZero_memWf {r t} (h : s.memWf) : (s.counterZero r t).memWf := ite_memWf (takeUnit_memWf h) (setBreg_memWf (putTask_memWf h))

theorem moverNotices_memWf {m n} (h : s.memWf) : (s.moverNotices m n).memWf := by
  induction n with
  | zero => exact h
  | succ n ih =>
    unfold State.moverNotices
    dsimp only
    split
    · refine ite_memWf (sendReq_memWf (setMover_memWf ih)) (ite_memWf ?_ (sendReq_memWf (setMover_memWf ih)))
      split
      · exact forAll_memWf (fun _ _ hu => raiseLine_memWf hu) (setMover_memWf ih)
      · exact setMover_memWf ih
    · exact ih

theorem moverAnswered_memWf {m} (h : s.memWf) : (s.moverAnswered m).memWf := moverNotices_memWf (setMover_memWf h)

theorem holdSource_memWf {o v} (h : s.memWf) : (s.holdSource o v).memWf := by
  unfold State.holdSource
  split
  · exact updSeq_memWf h
  · exact ite_memWf h (setQueue_memWf h)
  · exact ite_memWf h (moverAnswered_memWf h)
  · exact setTimer_memWf h
  · exact setFunc_memWf h

theorem decrement_memWf {e} (h : s.memWf) : (s.decrement e).2.memWf := by
  unfold State.decrement
  split
  · exact h
  · exact ite_snd_memWf (setBreg_memWf h) (ite_snd_memWf (ite_snd_memWf (setBreg_memWf h) (setTask_memWf h)) (ite_snd_memWf (setTask_memWf h)
        (ite_snd_memWf (takeUnit_memWf h) (setBreg_memWf h))))

theorem holdEvent_memWf {e} (h : s.memWf) : (s.holdEvent e).memWf := by
  unfold State.holdEvent
  split
  · exact holdSource_memWf (setBreg_memWf h)
  · exact h

theorem belayGets_memWf {w} (h : s.memWf) : (s.belayGets w).memWf := setBelay_memWf h

theorem takeWork_memWf {i w} (h : s.memWf) : (s.takeWork i w).memWf := takeLane_memWf (setBelay_memWf h)

theorem timerWrite_memWf {i second v} (h : s.memWf) : (s.timerWrite i second v).memWf :=
  ite_memWf h (ite_memWf (setTimer_memWf h) (ite_memWf (setTimer_memWf h) (setTimer_memWf h)))

theorem taskWrite_memWf {t d} (h : s.memWf) : (s.taskWrite t d).memWf := putTask_memWf h

theorem taskArm_memWf {t} (h : s.memWf) : (s.taskArm t).memWf := by
  unfold State.taskArm
  refine ite_memWf ?_ (putTask_memWf h)
  split
  · exact counterZero_memWf h
  · exact h

theorem taskRemove_memWf {t} (h : s.memWf) : (s.taskRemove t).memWf := by
  unfold State.taskRemove
  refine putTask_memWf ?_
  split
  · exact setBreg_memWf h
  · exact h

theorem belayRelease_memWf {r} (h : s.memWf) : (s.belayRelease r).memWf := by
  unfold State.belayRelease
  refine setBreg_memWf ?_
  refine foldl_memWf ?_ (setBelay_memWf (mk_memWf (forAll_memWf (fun _ _ hu => btrace_memWf hu) h)))
  intro _ _ hu
  split
  · exact setFunc_memWf hu
  · exact hu

/-! ### The commands of Belay (R211 to R239) -/

theorem holdRest_memWf {e} (h : s.memWf) : (s.holdRest e).memWf := foldl_memWf (fun _ _ hu => holdEvent_memWf hu) (setBelay_memWf h)

theorem takeEvent_memWf {e} (h : s.memWf) : (s.takeEvent e).memWf :=
  ite_memWf (holdSource_memWf (btrace_memWf (decrement_memWf h))) (holdRest_memWf (holdEvent_memWf (btrace_memWf (decrement_memWf h))))

theorem compNotice_memWf {r t c} (h : s.memWf) : (s.compNotice r t c).memWf := by
  unfold State.compNotice
  refine ite_memWf ?_ h
  split
  · exact mk_memWf h
  · exact h

theorem dropRec_memWf {c t} (h : s.memWf) : (s.dropRec c t).memWf := changeRec_memWf h

theorem processComp_memWf {c} (h : s.memWf) : (s.processComp c).memWf := by
  unfold State.processComp
  dsimp only
  split
  · exact dropRec_memWf h
  · exact ite_memWf (dropRec_memWf h) (ite_memWf (setBelay_memWf (ite_memWf (ite_memWf (counterZero_memWf (putTask_memWf (btrace_memWf
        (compNotice_memWf (armRetry_memWf (setBreg_memWf (dropRec_memWf h))))))) (putTask_memWf (btrace_memWf (compNotice_memWf (armRetry_memWf
        (setBreg_memWf (dropRec_memWf h))))))) (putTask_memWf (btrace_memWf (compNotice_memWf (armRetry_memWf (setBreg_memWf (dropRec_memWf h))))))))
        (ite_memWf (ite_memWf (counterZero_memWf (putTask_memWf (btrace_memWf (compNotice_memWf (armRetry_memWf (setBreg_memWf (dropRec_memWf h)))))))
        (putTask_memWf (btrace_memWf (compNotice_memWf (armRetry_memWf (setBreg_memWf (dropRec_memWf h))))))) (putTask_memWf (btrace_memWf
        (compNotice_memWf (armRetry_memWf (setBreg_memWf (dropRec_memWf h))))))))

theorem expire_memWf (h : s.memWf) : s.expire.memWf := forAll_memWf (fun _ _ hu => makeReady_memWf (btrace_memWf hu)) (setBelay_memWf h)

theorem timerFires_memWf {i} (h : s.memWf) : (s.timerFires i).memWf :=
  ite_memWf h (ite_memWf (btrace_memWf (setTimer_memWf h)) (belayGets_memWf (btrace_memWf (setTimer_memWf h))))

theorem retryEvent_memWf {r e} (h : s.memWf) : (s.retryEvent r e).memWf :=
  ite_memWf (ite_memWf (setBreg_memWf (btrace_memWf (decrement_memWf (takeLane_memWf h)))) (holdSource_memWf (setBreg_memWf (btrace_memWf
      (decrement_memWf (takeLane_memWf h)))))) (setBreg_memWf (btrace_memWf (decrement_memWf (takeLane_memWf h))))

theorem retryTask_memWf {r t} (h : s.memWf) : (s.retryTask r t).memWf :=
  ite_memWf (takeUnit_memWf (setBreg_memWf (takeLane_memWf h))) (setBreg_memWf (takeLane_memWf h))

theorem retryOne_memWf {r} (h : s.memWf) : (s.retryOne r).memWf := by
  unfold State.retryOne
  refine ite_memWf h ?_
  split
  · split
    · exact retryTask_memWf h
    · exact h
  · split
    · exact retryEvent_memWf h
    · exact h

theorem sendStart_memWf {c p t} (h : s.memWf) : (s.sendStart c p t).memWf := by
  unfold State.sendStart
  refine btrace_memWf ?_
  refine sendReq_memWf ?_
  split
  · exact setBreg_memWf (changeRec_memWf (setBelay_memWf (putTask_memWf h)))
  · exact changeRec_memWf (setBelay_memWf (putTask_memWf h))

theorem startRefused_memWf {c t} (h : s.memWf) : (s.startRefused c t).memWf :=
  ite_memWf (dropRec_memWf h) (setBelay_memWf (putTask_memWf (dropRec_memWf h)))

theorem execDependenceDecrement_memWf (h : s.memWf) : nextMemWf (execDependenceDecrement s) := by
  unfold execDependenceDecrement
  refine act_memWf h ?_
  intro _ hu
  dsimp only
  split
  · exact takeEvent_memWf (takeWork_memWf (rollBelay_memWf hu))
  · exact rollBelay_memWf hu

theorem execCompletionProcessing_memWf (h : s.memWf) : nextMemWf (execCompletionProcessing s) := by
  unfold execCompletionProcessing
  refine act_memWf h ?_
  intro _ hu
  dsimp only
  split
  · exact processComp_memWf (takeWork_memWf (rollBelay_memWf hu))
  · exact rollBelay_memWf hu

theorem execDelayExpiry_memWf (h : s.memWf) : nextMemWf (execDelayExpiry s) := act_memWf h (fun _ hu => expire_memWf (rollBelay_memWf hu))

theorem execTimerExpiry_memWf {t} (h : s.memWf) : nextMemWf (execTimerExpiry t s) := act_memWf h (fun _ hu => timerFires_memWf hu)

theorem execHeldEventRetry_memWf {r} (h : s.memWf) : nextMemWf (execHeldEventRetry r s) :=
  act_memWf h (fun _ hu => retryOne_memWf (rollBelay_memWf hu))

theorem execDispatch_memWf (h : s.memWf) : nextMemWf (execDispatch s) := by
  unfold execDispatch
  refine act_memWf h ?_
  intro _ hu
  dsimp only
  split
  · exact sendStart_memWf (rollBelay_memWf hu)
  · exact rollBelay_memWf hu

theorem execBlyTmrWrite_memWf {who t second v} (h : s.memWf) : nextMemWf (execBlyTmrWrite who t second v s) :=
  act_memWf h (fun _ hu => ite_memWf (timerWrite_memWf hu) (emit_memWf hu))

/-! ### Bytes and copies of HBM (R280 to R290) -/

theorem deny_memWf {addr} (h : s.memWf) : (s.deny addr).memWf := setStack_memWf h

theorem copyPc_memWf {p} (h : s.memWf) : (s.copyPc p).memWf :=
  foldl_memWf (fun _ _ hu => foldl_memWf (fun _ _ hv => hbmWrite_memWf hv) (hbmErase_memWf hu)) h

theorem without_memWf {i f} (h : s.memWf) : (s.without i f).memWf := setPc_memWf h

theorem clearPc_memWf {i} (h : s.memWf) : (s.clearPc i).memWf := without_memWf (without_memWf (setPc_memWf h))

theorem setPcDead_memWf {p v} (h : s.memWf) : (s.setPcDead p v).memWf := pendRouter_memWf h

/-! ### Packets and responses (R240 to R279) -/

theorem pdrop_memWf {r} (h : s.memWf) : (s.pdrop r).memWf := setRouter_memWf h

theorem setIrgn_memWf {i r} (h : s.memWf) : (s.setIrgn i r).memWf := setInit_memWf h

theorem fwGrant_memWf {r p k on} (h : s.memWf) : (s.fwGrant r p k on).memWf := pendRouter_memWf h

theorem portAnswered_memWf {r p} (h : s.memWf) : (s.portAnswered r p).memWf := setRouter_memWf h

theorem respond_memWf {x status data} (h : s.memWf) : (s.respond x status data).memWf := ite_memWf h (sendFrom_memWf (portAnswered_memWf h))

theorem sendPush_memWf {i tag client prio q ws} (h : s.memWf) : (s.sendPush i tag client prio q ws).memWf := sendReq_memWf (setInit_memWf h)

theorem pushAnswer_memWf {c x status} (h : s.memWf) : (s.pushAnswer c x status).memWf := sendFrom_memWf (portAnswered_memWf h)

theorem turnAway_memWf {x st} (h : s.memWf) : (s.turnAway x st).memWf :=
  ite_memWf (ite_memWf (pdrop_memWf h) h) (ite_memWf (pushAnswer_memWf h) (respond_memWf h))

theorem answerOpen_memWf {r o st} (h : s.memWf) : (s.answerOpen r o st).memWf := by
  unfold State.answerOpen
  split
  · exact respond_memWf h
  · exact pushAnswer_memWf h

theorem dropPc_memWf {i st} (h : s.memWf) : (s.dropPc i st).memWf := clearPc_memWf (mkHbm_memWf (foldl_memWf (fun _ _ hu => answerOpen_memWf hu) h))

theorem goDead_memWf {r p} (h : s.memWf) : (s.goDead r p).memWf :=
  log_memWf (setRouter_memWf (ite_memWf (updCl_memWf (foldl_memWf (fun _ _ hu => turnAway_memWf hu) (mk_memWf (foldl_memWf (fun _ _ hu =>
      answerOpen_memWf hu) h)))) (ite_memWf (forAll_memWf (fun _ _ hu => forAll_memWf (fun _ _ hv => clearPc_memWf hv) (mkHbm_memWf hu)) (foldl_memWf
      (fun _ _ hu => turnAway_memWf hu) (mk_memWf (foldl_memWf (fun _ _ hu => answerOpen_memWf hu) h)))) (foldl_memWf (fun _ _ hu => turnAway_memWf
      hu) (mk_memWf (foldl_memWf (fun _ _ hu => answerOpen_memWf hu) h))))))

theorem applyChange_memWf {r c} (h : s.memWf) : (s.applyChange r c).memWf := by
  unfold State.applyChange
  dsimp only
  split
  · exact setRouter_memWf h
  · exact setRouter_memWf h
  · exact setRouter_memWf h
  · exact setRouter_memWf h
  · exact setRouter_memWf h
  · exact setRouter_memWf h
  · exact ite_memWf (goDead_memWf h) h
  · exact setRouter_memWf h
  · exact forAll_memWf (fun _ _ hu => ite_memWf (dropPc_memWf hu) hu) (setRouter_memWf h)
  · exact ite_memWf (forAll_memWf (fun _ _ hu => dropPc_memWf hu) (setRouter_memWf h)) (setRouter_memWf h)
  · exact setRouter_memWf h
  · exact setRouter_memWf h
  · exact setRouter_memWf h
  · exact h

theorem dropPacket_memWf {p} (h : s.memWf) : (s.dropPacket p).memWf := mk_memWf h

/-! ### The movers' operations (R157 to R168) -/

theorem moverDid_memWf {m x} (h : s.memWf) : (s.moverDid m x).memWf := setMover_memWf h

theorem moverFail_memWf {m x status} (h : s.memWf) : (s.moverFail m x status).memWf := setMover_memWf h

theorem moverPush_memWf {m x w} (h : s.memWf) : (s.moverPush m x w).memWf := moverDid_memWf (sendReq_memWf (setMover_memWf h))

theorem moverGot_memWf {m x status data} (h : s.memWf) : (s.moverGot m x status data).memWf :=
  ite_memWf (moverFail_memWf h) (ite_memWf (moverDid_memWf h) (ite_memWf (setMover_memWf h) (moverPush_memWf h)))

theorem moverVoid_memWf {q} (h : s.memWf) : (s.moverVoid q).memWf := ite_memWf (setMover_memWf h) h

theorem moverCredits_memWf {q} (h : s.memWf) : (s.moverCredits q).memWf := ite_memWf (setMover_memWf (moverVoid_memWf h)) (moverVoid_memWf h)

/-! ### The window of a cluster (R21, R77, R134) -/

theorem ctxRunWrite_memWf {c v} (h : s.memWf) : (s.ctxRunWrite c v).memWf := forAll_memWf (fun _ _ hu => updCl_memWf hu) h

theorem queueWrite_memWf {c q o v} (h : s.memWf) : (s.queueWrite c q o v).memWf :=
  ite_memWf (setQueue_memWf h) (ite_memWf (setQueue_memWf h) (ite_memWf (ite_memWf (setQueue_memWf h) h) (ite_memWf (setQueue_memWf h) h)))

theorem clRegRead_memWf {who c o} (h : s.memWf) : (s.clRegRead who c o).st.memWf := by
  unfold State.clRegRead
  extract_lets k ten fw own ans m
  have hans : ∀ ok r, (ans ok r).st.memWf := by
    intro ok r
    cases r with
    | none => exact h
    | some x =>
      obtain ⟨v, k⟩ := x
      exact ite_st_memWf (setCl_memWf h) h
  clear_value ans
  split
  · exact hans _ _
  · split
    · exact hans _ _
    · split
      · exact hans _ _
      · split
        · exact hans _ _
        · split
          · exact hans _ _
          · split
            · split
              · exact h
              · exact ite_st_memWf h h
            · exact h

theorem clRegWrite_memWf {who c o v} (h : s.memWf) : (s.clRegWrite who c o v).st.memWf := by
  unfold State.clRegWrite
  extract_lets ten fw own ans i m
  have hans : ∀ ok decoded t, t.memWf → (ans ok decoded t).st.memWf := fun _ _ _ ht => ite_st_memWf h (ite_st_memWf ht h)
  clear_value ans
  split
  · exact hans _ _ _ (ite_memWf (ctxRunWrite_memWf h) (forAll_memWf (fun _ _ hu => updCl_memWf hu) h))
  · split
    · exact hans _ _ _ h
    · split
      · exact hans _ _ _ (forAll_memWf (fun _ _ hu => updCl_memWf hu) h)
      · split
        · exact hans _ _ _ h
        · split
          · exact hans _ _ _ (queueWrite_memWf h)
          · split
            · split
              · exact h
              · exact ite_st_memWf (setMover_memWf h) h
            · exact h

theorem cellMemRead_memWf {c a n} (h : s.memWf) : (s.cellMemRead c a n).2.memWf :=
  forAll_memWf (fun _ _ hu => ite_memWf (cellUE_memWf (updCl_memWf hu)) (updCl_memWf hu)) h

theorem cellMemWrite_memWf {c a bs} (h : s.memWf) : (s.cellMemWrite c a bs).memWf :=
  forAll_memWf (fun _ _ hu => foldl_memWf (fun _ _ hv => updCl_memWf hv) hu) h

theorem winRead_memWf {who c o n} (h : s.memWf) : (s.winRead who c o n).st.memWf := by
  unfold State.winRead
  refine ite_st_memWf h ?_
  refine ite_st_memWf h ?_
  split
  · exact cellMemRead_memWf h
  · exact h
  · exact ite_st_memWf h (ite_st_memWf h h)
  · exact h
  · exact h
  · exact ite_st_memWf (clRegRead_memWf h) h
  · exact h

theorem winWrite_memWf {who c o bs} (h : s.memWf) : (s.winWrite who c o bs).st.memWf := by
  unfold State.winWrite
  refine ite_st_memWf h ?_
  refine ite_st_memWf h ?_
  split
  · exact cellMemWrite_memWf h
  · exact updCl_memWf h
  · exact ite_st_memWf h (ite_st_memWf (forAll_memWf (fun _ _ hu => updCl_memWf hu) h) h)
  · exact ite_st_memWf (forAll_memWf (fun _ _ hu => updSeq_memWf hu) h) h
  · exact forAll_memWf (fun _ _ hu => updSeq_memWf hu) h
  · exact ite_st_memWf (clRegWrite_memWf h) h
  · exact h

/-! ### Commands at a cluster -/

theorem cellAccess_memWf {c i} (h : s.memWf) : (s.cellAccess c i).memWf := by
  unfold State.cellAccess
  dsimp only
  split
  · exact h
  · refine ite_memWf h ?_
    refine ite_memWf (respond_memWf (updCl_memWf h)) ?_
    split
    · exact ite_memWf h (ite_memWf (updCl_memWf (updCl_memWf h)) (respond_memWf (cellMemWrite_memWf (updCl_memWf h))))
    · exact ite_memWf h (respond_memWf (ite_memWf (updCl_memWf (cellMemRead_memWf (updCl_memWf h))) (cellMemRead_memWf (updCl_memWf h))))

theorem execCellMemoryAccess_memWf {c cell} (h : s.memWf) : nextMemWf (execCellMemoryAccess c cell s) := act_memWf h (fun _ hu => cellAccess_memWf hu)

theorem portsEnd_memWf {c} (h : s.memWf) : (s.portsEnd c).memWf := foldl_memWf (fun _ _ hu => respond_memWf (cellMemWrite_memWf hu)) (updCl_memWf h)

theorem execClusterCycle_memWf {c ev} (h : s.memWf) : nextMemWf (execClusterCycle c ev s) := by
  unfold execClusterCycle
  refine act_memWf h ?_
  intro _ hu
  dsimp only
  split
  · exact foldl_memWf (fun _ _ hv => failCell_memWf hv) (pairMismatch_memWf (foldl_memWf (fun _ _ hv => cellEvent_memWf hv) hu))
  · exact foldl_memWf (fun _ _ hv => cellEvent_memWf hv) (ite_memWf (forAll_memWf (fun _ _ hv => portsEnd_memWf hv) (cycle_memWf (foldl_memWf (fun _ _
        hv => cellEvent_memWf hv) hu))) (cycle_memWf (foldl_memWf (fun _ _ hv => cellEvent_memWf hv) hu)))

theorem seqAccess_memWf {c} (h : s.memWf) : (s.seqAccess c).memWf := by
  unfold State.seqAccess
  split
  · exact h
  · refine ite_memWf h ?_
    refine respond_memWf ?_
    split
    · exact winWrite_memWf (updCl_memWf h)
    · exact winRead_memWf (updCl_memWf h)

theorem execSequencerMemoryAccess_memWf {c} (h : s.memWf) : nextMemWf (execSequencerMemoryAccess c s) := act_memWf h (fun _ hu => seqAccess_memWf hu)

theorem execStart_memWf {who c entry alsoPark} (h : s.memWf) : nextMemWf (execStart who c entry alsoPark s) :=
  act_memWf h (fun _ hu => ite_memWf (ctxRunWrite_memWf hu) (emit_memWf hu))

theorem execPark_memWf {who c} (h : s.memWf) : nextMemWf (execPark who c s) :=
  act_memWf h (fun _ hu => ite_memWf (ctxRunWrite_memWf hu) (emit_memWf hu))

theorem execCtxCtickLoRead_memWf {who c} (h : s.memWf) : nextMemWf (execCtxCtickLoRead who c s) := by
  unfold execCtxCtickLoRead
  refine act_memWf h ?_
  intro _ hu
  refine ite_memWf ?_ (emit_memWf hu)
  split
  · exact emit_memWf (setCl_memWf hu)
  · exact hu

theorem linkLands_memWf {c l} (h : s.memWf) : (s.linkLands c l).memWf := by
  unfold State.linkLands
  split
  · exact h
  · exact ite_memWf h (updCl_memWf (updCl_memWf h))

theorem execLinkWordLanding_memWf {c l} (h : s.memWf) : nextMemWf (execLinkWordLanding c l s) := act_memWf h (fun _ hu => linkLands_memWf hu)

theorem linkCredit_memWf {c l} (h : s.memWf) : (s.linkCredit c l).memWf := ite_memWf (setCl_memWf h) h

theorem execLinkCreditArrival_memWf {c l} (h : s.memWf) : nextMemWf (execLinkCreditArrival c l s) := act_memWf h (fun _ hu => linkCredit_memWf hu)

theorem pushLeft_memWf {c id took} (h : s.memWf) : (s.pushLeft c id took).memWf := by
  unfold State.pushLeft
  split
  · exact h
  · exact ite_memWf (pushAnswer_memWf (updCl_memWf h)) (updCl_memWf h)

theorem stagedEnters_memWf {q} (h : s.memWf) : (s.stagedEnters q).memWf := by
  unfold State.stagedEnters
  dsimp only
  split
  · exact h
  · refine ite_memWf h ?_
    split
    · exact pushLeft_memWf (updCl_memWf h)
    · exact updCl_memWf h

theorem execStagedWordEntry_memWf {q} (h : s.memWf) : nextMemWf (execStagedWordEntry q s) := act_memWf h (fun _ hu => stagedEnters_memWf hu)

theorem execStaleTimeout_memWf {q} (h : s.memWf) : nextMemWf (execStaleTimeout q s) := act_memWf h (fun _ hu => ite_memWf (setQueue_memWf hu) hu)

theorem execSqStaleWrite_memWf {who q v} (h : s.memWf) : nextMemWf (execSqStaleWrite who q v s) :=
  act_memWf h (fun _ hu => ite_memWf (setQueue_memWf hu) (emit_memWf hu))

theorem noticeLeaves_memWf {q} (h : s.memWf) : (s.noticeLeaves q).memWf := by
  unfold State.noticeLeaves
  dsimp only
  split
  · exact h
  · refine ite_memWf h ?_
    refine ite_memWf (ite_memWf h (sendReq_memWf (setQueue_memWf h))) ?_
    refine ite_memWf (forAll_memWf (fun _ _ hu => raiseLine_memWf hu) (setQueue_memWf h)) ?_
    split
    · exact sendReq_memWf (setQueue_memWf h)
    · exact setQueue_memWf h

theorem execNoticeDelivery_memWf {q} (h : s.memWf) : nextMemWf (execNoticeDelivery q s) := act_memWf h (fun _ hu => noticeLeaves_memWf hu)

theorem fwdSend_memWf {c ch} (h : s.memWf) : (s.fwdSend c ch).memWf := by
  unfold State.fwdSend
  refine ite_memWf (sendReq_memWf (updCl_memWf h)) ?_
  split
  · exact h
  · exact sendPush_memWf (updCl_memWf h)

theorem execForwardChannelSend_memWf {c ch} (h : s.memWf) : nextMemWf (execForwardChannelSend c ch s) :=
  act_memWf h (fun _ hu => ite_memWf (fwdSend_memWf hu) hu)

theorem beginRepair_memWf {c cell phys} (h : s.memWf) : (s.beginRepair c cell phys).memWf := ite_memWf h (setCl_memWf (log_memWf (setSmap_memWf h)))

theorem execSpareRepair_memWf {c cell phys} (h : s.memWf) : nextMemWf (execSpareRepair c cell phys s) :=
  act_memWf h (fun _ hu => beginRepair_memWf hu)

theorem repairPause_memWf {c bad cycles} (h : s.memWf) : (s.repairPause c bad cycles).memWf := by
  unfold State.repairPause
  split
  · exact h
  · exact ite_memWf h (ite_memWf (repairEnd_memWf (forAll_memWf (fun _ _ hu => cellUE_memWf hu) h)) (updCl_memWf (forAll_memWf (fun _ _ hu =>
        cellUE_memWf hu) h)))

theorem execRepairPause_memWf {c bad cycles} (h : s.memWf) : nextMemWf (execRepairPause c bad cycles s) :=
  act_memWf h (fun _ hu => repairPause_memWf hu)

/-! ### The channel controllers (R291 to R316) -/

theorem hbmEnqueue_memWf {ch} (h : s.memWf) : (s.hbmEnqueue ch).memWf := by
  unfold State.hbmEnqueue
  split
  · exact h
  · exact ite_memWf h (mkHbm_memWf (setPc_memWf (setPc_memWf h)))

theorem setBus_memWf {ch b} (h : s.memWf) : (s.setBus ch b).memWf := mkHbm_memWf h

theorem forget_memWf {i rid} (h : s.memWf) : (s.forget i rid).memWf := without_memWf (without_memWf (setPc_memWf h))

theorem hbmDone_memWf {i rid} (h : s.memWf) : (s.hbmDone i rid).memWf := by
  unfold State.hbmDone
  dsimp only
  split
  · exact h
  · exact ite_memWf (setPc_memWf h) (respond_memWf (setPc_memWf h))

theorem forward_memWf {i r} (h : s.memWf) : (s.forward i r).memWf := setPc_memWf h

theorem subDone_memWf {i r} (h : s.memWf) : (s.subDone i r).memWf := ite_memWf (setPc_memWf h) (ite_memWf (forward_memWf h) (hbmDone_memWf h))

theorem leaves_memWf {i} (h : s.memWf) : (s.leaves i).memWf := foldl_memWf (fun _ _ hu => hbmDone_memWf hu) (setPc_memWf h)

theorem endCopies_memWf {i} (h : s.memWf) : (s.endCopies i).memWf := foldl_memWf (fun _ _ hu => hbmDone_memWf hu) (without_memWf h)

theorem handOver_memWf {i j role f} (h : s.memWf) : (s.handOver i j role f).memWf := setPc_memWf (without_memWf h)

theorem stopPc_memWf {i st} (h : s.memWf) : (s.stopPc i st).memWf := setPc_memWf h

theorem retirePc_memWf {i} (h : s.memWf) : (s.retirePc i).memWf :=
  ite_memWf h (log_memWf (setPcDead_memWf (setPc_memWf (dropPc_memWf (ite_memWf (setPcDead_memWf (dropPc_memWf (stopPc_memWf (endCopies_memWf h))))
      (endCopies_memWf h))))))

theorem freeze_memWf {i addr syn ue bad} (h : s.memWf) : (s.freeze i addr syn ue bad).memWf := by
  unfold State.freeze
  refine ite_memWf (handOver_memWf (endCopies_memWf (stopPc_memWf (log_memWf (setPc_memWf h))))) ?_
  refine ite_memWf ?_ ?_
  · refine ite_memWf ?_ ?_
    · refine retirePc_memWf ?_
      refine log_memWf ?_
      refine ite_memWf ?_ ?_
      · refine setPcDead_memWf ?_
        refine dropPc_memWf ?_
        refine stopPc_memWf ?_
        refine setPcDead_memWf ?_
        refine dropPc_memWf ?_
        refine stopPc_memWf ?_
        split
        · split
          · exact respond_memWf (forget_memWf (log_memWf (setPc_memWf h)))
          · exact log_memWf (setPc_memWf h)
        · exact log_memWf (setPc_memWf h)
      · refine setPcDead_memWf ?_
        refine dropPc_memWf ?_
        refine stopPc_memWf ?_
        split
        · split
          · exact respond_memWf (forget_memWf (log_memWf (setPc_memWf h)))
          · exact log_memWf (setPc_memWf h)
        · exact log_memWf (setPc_memWf h)
    · refine log_memWf ?_
      refine ite_memWf ?_ ?_
      · refine setPcDead_memWf ?_
        refine dropPc_memWf ?_
        refine stopPc_memWf ?_
        refine setPcDead_memWf ?_
        refine dropPc_memWf ?_
        refine stopPc_memWf ?_
        split
        · split
          · exact respond_memWf (forget_memWf (log_memWf (setPc_memWf h)))
          · exact log_memWf (setPc_memWf h)
        · exact log_memWf (setPc_memWf h)
      · refine setPcDead_memWf ?_
        refine dropPc_memWf ?_
        refine stopPc_memWf ?_
        split
        · split
          · exact respond_memWf (forget_memWf (log_memWf (setPc_memWf h)))
          · exact log_memWf (setPc_memWf h)
        · exact log_memWf (setPc_memWf h)
  · refine ite_memWf ?_ ?_
    · refine log_memWf ?_
      refine setPcDead_memWf ?_
      refine ite_memWf ?_ ?_
      · refine hbmWrite_memWf ?_
        refine setPc_memWf ?_
        refine log_memWf ?_
        refine ite_memWf ?_ ?_
        · refine setPcDead_memWf ?_
          refine dropPc_memWf ?_
          refine stopPc_memWf ?_
          refine setPcDead_memWf ?_
          refine dropPc_memWf ?_
          refine stopPc_memWf ?_
          split
          · split
            · exact respond_memWf (forget_memWf (log_memWf (setPc_memWf h)))
            · exact log_memWf (setPc_memWf h)
          · exact log_memWf (setPc_memWf h)
        · refine setPcDead_memWf ?_
          refine dropPc_memWf ?_
          refine stopPc_memWf ?_
          split
          · split
            · exact respond_memWf (forget_memWf (log_memWf (setPc_memWf h)))
            · exact log_memWf (setPc_memWf h)
          · exact log_memWf (setPc_memWf h)
      · refine setPc_memWf ?_
        refine log_memWf ?_
        refine ite_memWf ?_ ?_
        · refine setPcDead_memWf ?_
          refine dropPc_memWf ?_
          refine stopPc_memWf ?_
          refine setPcDead_memWf ?_
          refine dropPc_memWf ?_
          refine stopPc_memWf ?_
          split
          · split
            · exact respond_memWf (forget_memWf (log_memWf (setPc_memWf h)))
            · exact log_memWf (setPc_memWf h)
          · exact log_memWf (setPc_memWf h)
        · refine setPcDead_memWf ?_
          refine dropPc_memWf ?_
          refine stopPc_memWf ?_
          split
          · split
            · exact respond_memWf (forget_memWf (log_memWf (setPc_memWf h)))
            · exact log_memWf (setPc_memWf h)
          · exact log_memWf (setPc_memWf h)
    · refine ite_memWf ?_ ?_
      · refine faultSafe_memWf ?_
        refine log_memWf ?_
        refine ite_memWf ?_ ?_
        · refine setPcDead_memWf ?_
          refine dropPc_memWf ?_
          refine stopPc_memWf ?_
          refine setPcDead_memWf ?_
          refine dropPc_memWf ?_
          refine stopPc_memWf ?_
          split
          · split
            · exact respond_memWf (forget_memWf (log_memWf (setPc_memWf h)))
            · exact log_memWf (setPc_memWf h)
          · exact log_memWf (setPc_memWf h)
        · refine setPcDead_memWf ?_
          refine dropPc_memWf ?_
          refine stopPc_memWf ?_
          split
          · split
            · exact respond_memWf (forget_memWf (log_memWf (setPc_memWf h)))
            · exact log_memWf (setPc_memWf h)
          · exact log_memWf (setPc_memWf h)
      · refine log_memWf ?_
        refine ite_memWf ?_ ?_
        · refine setPcDead_memWf ?_
          refine dropPc_memWf ?_
          refine stopPc_memWf ?_
          refine setPcDead_memWf ?_
          refine dropPc_memWf ?_
          refine stopPc_memWf ?_
          split
          · split
            · exact respond_memWf (forget_memWf (log_memWf (setPc_memWf h)))
            · exact log_memWf (setPc_memWf h)
          · exact log_memWf (setPc_memWf h)
        · refine setPcDead_memWf ?_
          refine dropPc_memWf ?_
          refine stopPc_memWf ?_
          split
          · split
            · exact respond_memWf (forget_memWf (log_memWf (setPc_memWf h)))
            · exact log_memWf (setPc_memWf h)
          · exact log_memWf (setPc_memWf h)

theorem resync_memWf {i} (h : s.memWf) : (s.resync i).memWf := by
  unfold State.resync
  refine handOver_memWf ?_
  refine foldl_memWf ?_ (copyPc_memWf h)
  intro _ _ hu
  split
  · exact ite_memWf (foldl_memWf (fun _ _ hv => hbmWrite_memWf hv) hu) hu
  · exact hu

theorem resumePc_memWf {i} (h : s.memWf) : (s.resumePc i).memWf := ite_memWf (setPc_memWf h) (ite_memWf (resync_memWf (setPc_memWf h)) h)

theorem moveBurst_memWf {i r b wrong} (h : s.memWf) : (s.moveBurst i r b wrong).memWf := by
  unfold State.moveBurst
  split
  · split
    · refine hbmWrite_memWf ?_
      split
      · exact hbmWrite_memWf h
      · exact h
    · exact setPc_memWf h

theorem column_memWf {i a r ecc} (h : s.memWf) : (s.column i a r ecc).memWf := by
  unfold State.column
  dsimp only
  split
  · exact freeze_memWf (setPc_memWf h)
  · exact ite_memWf (subDone_memWf (ite_memWf (setPc_memWf h) (moveBurst_memWf (setPc_memWf h)))) (ite_memWf (setPc_memWf h) (moveBurst_memWf
        (setPc_memWf h)))

theorem hbmCycle_memWf {i ecc} (h : s.memWf) : (s.hbmCycle i ecc).memWf := by
  unfold State.hbmCycle
  refine ite_memWf h ?_
  refine ite_memWf (leaves_memWf (setBus_memWf (setPc_memWf h))) ?_
  split
  · exact leaves_memWf (setBus_memWf (setPc_memWf h))
  · exact column_memWf (leaves_memWf (setBus_memWf (setPc_memWf h)))
  · exact setPc_memWf (leaves_memWf (setBus_memWf (setPc_memWf h)))

theorem refreshDue_memWf {i} (h : s.memWf) : (s.refreshDue i).memWf :=
  ite_memWf h (ite_memWf (setPc_memWf h) (ite_memWf (setPc_memWf h) (setPc_memWf h)))

theorem owedRun_memWf {i} (h : s.memWf) : (s.owedRun i).memWf := ite_memWf h (setPc_memWf h)

theorem srefEnter_memWf {i} (h : s.memWf) : (s.srefEnter i).memWf := ite_memWf h (setPc_memWf h)

theorem srefExit_memWf {i} (h : s.memWf) : (s.srefExit i).memWf := ite_memWf h (setPc_memWf h)

theorem trainWrite_memWf {i} (h : s.memWf) : (s.trainWrite i).memWf := setPc_memWf (hbmErase_memWf h)

theorem sweepPc_memWf {i eyes} (h : s.memWf) : (s.sweepPc i eyes).2.memWf := mk_memWf (setPc_memWf (trainWrite_memWf h))

theorem servePc_memWf {i} (h : s.memWf) : (s.servePc i).memWf := setPc_memWf h

theorem leavePc_memWf {i} (h : s.memWf) : (s.leavePc i).memWf := setPc_memWf (dropPc_memWf h)

/-! ### Registers of hub control space -/

theorem blyRead_memWf {o} (h : s.memWf) : someMemWf (s.blyRead o) :=
  ite_someMemWf (some_memWf h) (ite_someMemWf (some_memWf h) (ite_someMemWf (some_memWf h) (ite_someMemWf (ite_someMemWf (some_memWf (setBreg_memWf
      h)) (ite_someMemWf (some_memWf (setBreg_memWf h)) (ite_someMemWf (some_memWf (setBreg_memWf h)) (some_memWf h)))) (ite_someMemWf (ite_someMemWf
      (some_memWf h) (ite_someMemWf (some_memWf h) (ite_someMemWf (some_memWf (setTimer_memWf h)) (some_memWf h)))) none_memWf))))

theorem setQuota_memWf {r q} (h : s.memWf) : (s.setQuota r q).memWf := ite_memWf (armRetry_memWf (setBreg_memWf h)) (setBreg_memWf h)

theorem blyWrite_memWf {o v} (h : s.memWf) : (s.blyWrite o v).memWf :=
  ite_memWf (ite_memWf (setBelay_memWf h) h) (ite_memWf (ite_memWf (setBreg_memWf h) (setQuota_memWf h)) (ite_memWf (ite_memWf (setBreg_memWf h) h)
      (ite_memWf (timerWrite_memWf h) h)))

theorem rtrRead_memWf {r o} (h : s.memWf) : someMemWf (s.rtrRead r o) :=
  ite_someMemWf (some_memWf h) (ite_someMemWf (ite_someMemWf (some_memWf h) (ite_someMemWf (some_memWf h) (ite_someMemWf (some_memWf h) none_memWf)))
      (ite_someMemWf (some_memWf h) (ite_someMemWf (some_memWf h) (ite_someMemWf (some_memWf h) (ite_someMemWf (some_memWf (setRouter_memWf h))
      (ite_someMemWf (some_memWf h) none_memWf))))))

theorem absWrite_memWf {r p st pcd} (h : s.memWf) : (s.absWrite r p st pcd).memWf :=
  ite_memWf (pendRouter_memWf (ite_memWf (pendRouter_memWf h) (ite_memWf (pendRouter_memWf h) h))) (ite_memWf (pendRouter_memWf h) (ite_memWf
      (pendRouter_memWf h) h))

theorem rtrWrite_memWf {r o v} (h : s.memWf) : (s.rtrWrite r o v).memWf :=
  ite_memWf (ite_memWf h (setRouter_memWf h)) (ite_memWf (ite_memWf (pendRouter_memWf h) (ite_memWf (pendRouter_memWf h) (pendRouter_memWf h)))
      (ite_memWf (absWrite_memWf h) (ite_memWf (pendRouter_memWf h) h)))

theorem iniRead_memWf {i o} (h : s.memWf) : someMemWf (s.iniRead i o) :=
  ite_someMemWf (some_memWf h) (ite_someMemWf (some_memWf h) (ite_someMemWf (some_memWf h) (ite_someMemWf (some_memWf (setInit_memWf h))
      (ite_someMemWf (some_memWf (setInit_memWf h)) (ite_someMemWf (some_memWf (setInit_memWf h)) (ite_someMemWf (some_memWf (setInit_memWf h))
      (ite_someMemWf (some_memWf (setInit_memWf h)) (ite_someMemWf (some_memWf (setInit_memWf h)) none_memWf))))))))

theorem iniWrite_memWf {i o v} (h : s.memWf) : (s.iniWrite i o v).memWf := ite_memWf (ite_memWf (setInit_memWf h) h) (ite_memWf (setInit_memWf h) h)

theorem pcRead_memWf {i o} (h : s.memWf) : someMemWf (s.pcRead i o) := by
  unfold State.pcRead
  refine ite_someMemWf (some_memWf h) ?_
  refine ite_someMemWf (some_memWf h) ?_
  refine ite_someMemWf (some_memWf h) ?_
  refine ite_someMemWf (some_memWf (setPc_memWf h)) ?_
  refine ite_someMemWf (some_memWf h) ?_
  refine ite_someMemWf (some_memWf h) ?_
  refine ite_someMemWf (some_memWf h) ?_
  refine ite_someMemWf (some_memWf h) ?_
  refine ite_someMemWf (some_memWf h) ?_
  refine ite_someMemWf (some_memWf (setPc_memWf h)) ?_
  refine ite_someMemWf (some_memWf h) ?_
  refine ite_someMemWf (some_memWf h) ?_
  refine ite_someMemWf ?_ none_memWf
  split <;> exact some_memWf h

theorem pcWrite_memWf {i o v} (h : s.memWf) : (s.pcWrite i o v).memWf :=
  ite_memWf (ite_memWf (retirePc_memWf (ite_memWf (resumePc_memWf h) h)) (ite_memWf (resumePc_memWf h) h)) (ite_memWf (setPc_memWf h) (ite_memWf
      (setPc_memWf h) h))

theorem stackRead_memWf {m o} (h : s.memWf) : someMemWf (s.stackRead m o) :=
  ite_someMemWf (some_memWf h) (ite_someMemWf (some_memWf h) (ite_someMemWf (some_memWf h) (ite_someMemWf (some_memWf h) (ite_someMemWf (some_memWf h)
      none_memWf))))

theorem stackWrite_memWf {m o v} (h : s.memWf) : (s.stackWrite m o v).memWf :=
  ite_memWf (setStack_memWf h) (ite_memWf (setStack_memWf h) (ite_memWf (setStack_memWf h) (ite_memWf (setStack_memWf h) h)))

theorem cfgRead_memWf {o} (h : s.memWf) : someMemWf (s.cfgRead o) :=
  ite_someMemWf (some_memWf h) (ite_someMemWf (some_memWf h) (ite_someMemWf (some_memWf h) (ite_someMemWf (some_memWf (setRope_memWf h))
      (ite_someMemWf (some_memWf h) (ite_someMemWf (ite_someMemWf (some_memWf h) (ite_someMemWf (some_memWf h) (ite_someMemWf (some_memWf
      (setCtx_memWf h)) (ite_someMemWf (some_memWf (setCtx_memWf h)) (ite_someMemWf (some_memWf h) none_memWf))))) none_memWf)))))

theorem cfgWrite_memWf {o v} (h : s.memWf) : (s.cfgWrite o v).memWf := ite_memWf (setRope_memWf h) (ite_memWf (setRope_memWf h) h)

theorem secRead_memWf {o} (h : s.memWf) : someMemWf (s.secRead o) :=
  ite_someMemWf (some_memWf h) (ite_someMemWf (some_memWf h) (ite_someMemWf (some_memWf h) (ite_someMemWf (some_memWf h) (ite_someMemWf (some_memWf
      (setStack_memWf h)) none_memWf))))

theorem pwrRead_memWf {o} (h : s.memWf) : someMemWf (s.pwrRead o) :=
  ite_someMemWf (some_memWf h) (ite_someMemWf (some_memWf h) (ite_someMemWf (some_memWf h) (ite_someMemWf (some_memWf h) (ite_someMemWf (some_memWf h)
      (ite_someMemWf (some_memWf h) (ite_someMemWf (some_memWf h) (ite_someMemWf (some_memWf h) (ite_someMemWf (some_memWf h) (ite_someMemWf
      (some_memWf h) none_memWf)))))))))

theorem pwrWrite_memWf {o v} (h : s.memWf) : (s.pwrWrite o v).memWf := ite_memWf (mk_memWf h) (ite_memWf (mk_memWf h) h)

theorem crnRead_memWf {o} (h : s.memWf) : someMemWf (s.crnRead o) :=
  ite_someMemWf (some_memWf h) (ite_someMemWf (some_memWf h) (ite_someMemWf (some_memWf h) (ite_someMemWf (some_memWf h) (ite_someMemWf (some_memWf h)
      (ite_someMemWf (some_memWf h) (ite_someMemWf (some_memWf h) none_memWf))))))

theorem setCrnEn_memWf {v} (h : s.memWf) : (s.setCrnEn v).memWf := mk_memWf h

theorem ethRead_memWf {n o} (h : s.memWf) : someMemWf (s.ethRead n o) :=
  ite_someMemWf (some_memWf h) (ite_someMemWf (some_memWf h) (ite_someMemWf (some_memWf (setEth_memWf h)) (ite_someMemWf (some_memWf (setEth_memWf h))
      (ite_someMemWf (some_memWf (setEth_memWf h)) (ite_someMemWf (some_memWf (setEth_memWf h)) (ite_someMemWf (some_memWf (setEth_memWf h))
      (ite_someMemWf (some_memWf h) none_memWf)))))))

theorem gioRead_memWf {b o} (h : s.memWf) : someMemWf (s.gioRead b o) :=
  ite_someMemWf (some_memWf h) (ite_someMemWf (some_memWf h) (ite_someMemWf (some_memWf (setBank_memWf h)) none_memWf))

theorem serRead_memWf {o} (h : s.memWf) : someMemWf (s.serRead o) := ite_someMemWf (some_memWf (mk_memWf h)) (ite_someMemWf (some_memWf h) none_memWf)

theorem hubReg_memWf {o} (h : s.memWf) : someMemWf (s.hubReg o) :=
  ite_someMemWf none_memWf (ite_someMemWf (blyRead_memWf h) (ite_someMemWf (rtrRead_memWf h) (ite_someMemWf (iniRead_memWf h) (ite_someMemWf
      (pcRead_memWf h) (ite_someMemWf (stackRead_memWf h) (ite_someMemWf (cfgRead_memWf h) (ite_someMemWf (secRead_memWf h) (ite_someMemWf
      (pwrRead_memWf h) (ite_someMemWf (crnRead_memWf h) (ite_someMemWf (ethRead_memWf h) (ite_someMemWf (gioRead_memWf h) (ite_someMemWf
      (serRead_memWf h) none_memWf))))))))))))

theorem hubPut_memWf {o v} (h : s.memWf) : (s.hubPut o v).memWf :=
  ite_memWf (blyWrite_memWf h) (ite_memWf (rtrWrite_memWf h) (ite_memWf (iniWrite_memWf h) (ite_memWf (pcWrite_memWf h) (ite_memWf (stackWrite_memWf
      h) (ite_memWf (cfgWrite_memWf h) (ite_memWf (pwrWrite_memWf h) (ite_memWf (setCrnEn_memWf h) h)))))))

theorem hubRead_memWf {who o n} (h : s.memWf) : (s.hubRead who o n).st.memWf := by
  unfold State.hubRead
  refine ite_st_memWf h ?_
  refine ite_st_memWf ?_ ?_
  · dsimp only
    split
    · exact h
    · exact ite_st_memWf h h
  · split
    · exact h
    · exact ite_st_memWf (someMemWf_of (hubReg_memWf h) ‹_›) h

theorem hubWrite_memWf {who o bs} (h : s.memWf) : (s.hubWrite who o bs).st.memWf := by
  unfold State.hubWrite
  refine ite_st_memWf h ?_
  refine ite_st_memWf ?_ ?_
  · dsimp only
    split
    · exact h
    · exact ite_st_memWf (setMover_memWf h) h
  · split
    · exact h
    · exact ite_st_memWf (hubPut_memWf h) h

/-! ### The network's cycles (R24 to R28, R250 to R262) -/

theorem setNoc_memWf {n} (h : s.memWf) : (s.setNoc n).memWf := mk_memWf h

theorem flitLands_memWf {k} (h : s.memWf) : (s.flitLands k).memWf := by
  unfold State.flitLands
  dsimp only
  split
  · exact h
  · exact ite_memWf (setNoc_memWf h) (ite_memWf (setNoc_memWf h) (setNoc_memWf h))

theorem landFlits_memWf (h : s.memWf) : s.landFlits.memWf := foldl_memWf (fun _ _ hu => flitLands_memWf hu) (setNoc_memWf h)

theorem allocateVc_memWf {t hs} (h : s.memWf) : (s.allocateVc t hs).memWf := by
  unfold State.allocateVc
  split
  · exact h
  · dsimp only
    split
    · exact h
    · split
      · exact h
      · exact setNoc_memWf (setRouter_memWf h)

theorem allocateVcs_memWf (h : s.memWf) : s.allocateVcs.memWf := foldl_memWf (fun _ _ hu => allocateVc_memWf hu) h

theorem sendFlit_memWf {ro cs} (h : s.memWf) : (s.sendFlit ro cs).memWf := by
  unfold State.sendFlit
  refine ite_memWf h ?_
  dsimp only
  split
  · exact h
  · split
    · exact h
    · exact setNoc_memWf (setRouter_memWf h)

theorem sendFlits_memWf (h : s.memWf) : s.sendFlits.memWf := foldl_memWf (fun _ _ hu => sendFlit_memWf hu) h

theorem enterPacket_memWf {p} (h : s.memWf) : (s.enterPacket p).memWf := ite_memWf (setNoc_memWf h) (setInit_memWf (setNoc_memWf h))

theorem inject_memWf {k ps} (h : s.memWf) : (s.inject k ps).memWf := by
  unfold State.inject
  refine ite_memWf h ?_
  dsimp only
  split
  · exact h
  · split
    · exact h
    · exact enterPacket_memWf (setNoc_memWf h)

theorem injectAll_memWf (h : s.memWf) : s.injectAll.memWf := foldl_memWf (fun _ _ hu => inject_memWf hu) h

theorem netCycle_memWf (h : s.memWf) : s.netCycle.memWf :=
  ite_memWf (setNoc_memWf h) (sendFlits_memWf (allocateVcs_memWf (injectAll_memWf (landFlits_memWf (setNoc_memWf h)))))

theorem netCycles_memWf {n} (h : s.memWf) : (s.netCycles n).memWf := by
  induction n generalizing s with
  | zero => exact h
  | succ n ih => exact ih (netCycle_memWf h)

/-! ### The commands of the network (R243 to R276, R152 to R155) -/

theorem noteAccept_memWf (h : s.memWf) : s.noteAccept.memWf := setNoc_memWf h

theorem winTake_memWf {x c o} (h : s.memWf) : (s.winTake x c o).memWf := by
  unfold State.winTake
  refine ite_memWf (updCl_memWf (noteAccept_memWf h)) ?_
  refine ite_memWf (updCl_memWf (noteAccept_memWf h)) ?_
  refine respond_memWf ?_
  split
  · exact winWrite_memWf h
  · exact winRead_memWf h

theorem arrive_memWf {x} (h : s.memWf) : (s.arrive x).memWf := by
  unfold State.arrive
  split
  · exact respond_memWf h
  · exact ite_memWf (respond_memWf (ite_memWf (deny_memWf h) h)) (mkHbm_memWf (noteAccept_memWf h))
  · exact winTake_memWf h
  · refine respond_memWf ?_
    split
    · exact hubWrite_memWf h
    · exact hubRead_memWf h

theorem request_memWf {r op} (h : s.memWf) : (s.request r op).memWf := by
  unfold State.request
  refine ite_memWf h ?_
  dsimp only
  split
  · exact turnAway_memWf (setInit_memWf (ite_memWf h (setInit_memWf h)))
  · exact sendReq_memWf (ite_memWf h (setInit_memWf h))

theorem reach_memWf {op i tag} (h : s.memWf) : (s.reach op i tag).memWf := by
  unfold State.reach
  split
  · exact h
  · exact ite_memWf (turnAway_memWf (dropPacket_memWf h)) (arrive_memWf (dropPacket_memWf h))

theorem execRd_memWf {r} (h : s.memWf) : nextMemWf (execRd r s) := by
  unfold execRd
  split
  · exact ite_nextMemWf (act_memWf h (fun _ hu => request_memWf hu)) (fault_memWf _)
  · exact act_memWf h (fun _ hu => reach_memWf hu)

theorem execWr_memWf {r} (h : s.memWf) : nextMemWf (execWr r s) := by
  unfold execWr
  split
  · exact ite_nextMemWf (act_memWf h (fun _ hu => request_memWf hu)) (fault_memWf _)
  · exact act_memWf h (fun _ hu => reach_memWf hu)

theorem execWrp_memWf {r} (h : s.memWf) : nextMemWf (execWrp r s) := by
  unfold execWrp
  split
  · exact ite_nextMemWf (act_memWf h (fun _ hu => request_memWf hu)) (fault_memWf _)
  · exact act_memWf h (fun _ hu => reach_memWf hu)

theorem stageWords_memWf {who q prod ws push} (h : s.memWf) : (s.stageWords who q prod ws push).memWf := updCl_memWf h

theorem pushStage_memWf {x q} (h : s.memWf) : (s.pushStage x q).memWf := updCl_memWf (stageWords_memWf (noteAccept_memWf h))

theorem execPush_memWf {p} (h : s.memWf) : nextMemWf (execPush p s) := by
  unfold execPush
  split
  · refine act_memWf h ?_
    intro _ hu
    split
    · exact hu
    · exact ite_memWf (turnAway_memWf (dropPacket_memWf hu)) (ite_memWf (turnAway_memWf (dropPacket_memWf hu)) (ite_memWf (pushStage_memWf
          (dropPacket_memWf hu)) hu))
  · exact ite_nextMemWf (fault_memWf _) (act_memWf h (fun _ hu => ite_memWf hu (sendPush_memWf hu)))

theorem moverTake_memWf {m p} (h : s.memWf) : (s.moverTake m p).memWf := ite_memWf (setBank_memWf h) (setMover_memWf h)

theorem execPushp_memWf {p} (h : s.memWf) : nextMemWf (execPushp p s) := by
  unfold execPushp
  split
  · refine act_memWf h ?_
    intro _ hu
    split
    · exact hu
    · exact ite_memWf (turnAway_memWf (dropPacket_memWf hu)) (ite_memWf (moverTake_memWf (dropPacket_memWf hu)) (ite_memWf (stageWords_memWf
          (dropPacket_memWf hu)) hu))
  · exact ite_nextMemWf (fault_memWf _) (act_memWf h (fun _ hu => ite_memWf hu (sendReq_memWf hu)))

theorem execCrd_memWf {i} (h : s.memWf) : nextMemWf (execCrd i s) := by
  unfold execCrd
  refine act_memWf h ?_
  intro _ hu
  split
  · exact hu
  · exact ite_memWf (turnAway_memWf (dropPacket_memWf hu)) (ite_memWf (setMover_memWf (dropPacket_memWf hu)) (updCl_memWf (dropPacket_memWf hu)))

theorem evtArrive_memWf {m} (h : s.memWf) : (s.evtArrive m).memWf := by
  unfold State.evtArrive
  split
  · exact belayGets_memWf h
  · exact belayGets_memWf h
  · exact forAll_memWf (fun _ _ hu => updSeq_memWf hu) h
  · exact startRefused_memWf (rollBelay_memWf h)
  · exact setNoc_memWf h

theorem execEvt_memWf {i} (h : s.memWf) : nextMemWf (execEvt i s) := by
  unfold execEvt
  refine act_memWf h ?_
  intro _ hu
  split
  · exact hu
  · refine ite_memWf hu ?_
    refine ite_memWf (turnAway_memWf (dropPacket_memWf hu)) ?_
    split
    · exact evtArrive_memWf (dropPacket_memWf hu)
    · exact dropPacket_memWf hu

theorem cancel_memWf {p r port} (h : s.memWf) : (s.cancel p r port).memWf := by
  unfold State.cancel
  split
  · exact turnAway_memWf (dropPacket_memWf h)
  · refine ite_memWf ?_ ?_
    · dsimp only
      split
      · exact respond_memWf (setCl_memWf h)
      · exact pushAnswer_memWf (setCl_memWf h)
      · exact h
    · refine ite_memWf ?_ h
      refine forAll_memWf ?_ h
      intro _ _ hu
      split
      · exact respond_memWf (mkHbm_memWf hu)
      · refine forAll_memWf ?_ hu
        intro _ _ hv
        dsimp only
        split
        · exact ite_memWf hv (respond_memWf (forget_memWf hv))
        · exact hv

theorem execTorep_memWf {i tag} (h : s.memWf) : nextMemWf (execTorep i tag s) := by
  unfold execTorep
  refine act_memWf h ?_
  intro _ hu
  split
  · exact hu
  · exact ite_memWf (turnAway_memWf (dropPacket_memWf hu)) (cancel_memWf (ite_memWf (pendRouter_memWf (setRouter_memWf (dropPacket_memWf hu)))
        (setRouter_memWf (dropPacket_memWf hu))))

theorem bar2Answer_memWf {i write status data} (h : s.memWf) : (s.bar2Answer i write status data).memWf :=
  ite_memWf h (ite_memWf (ite_memWf h (emit_memWf h)) (ite_memWf (setPort_memWf h) (emit_memWf h)))

theorem moverAnswer_memWf {i tag status data} (h : s.memWf) : (s.moverAnswer i tag status data).memWf := by
  unfold State.moverAnswer
  refine ite_memWf h ?_
  dsimp only
  split
  · exact ite_memWf (moverGot_memWf h) h
  · exact h

theorem clientGets_memWf {i write a} (h : s.memWf) : (s.clientGets i write a).memWf := moverAnswer_memWf (bar2Answer_memWf (setInit_memWf h))

theorem deliver_memWf {op i tag lat} (h : s.memWf) : (s.deliver op i tag lat).memWf := by
  unfold State.deliver
  split
  · exact h
  · exact ite_memWf (setInit_memWf (dropPacket_memWf h)) (ite_memWf (clientGets_memWf (setInit_memWf (dropPacket_memWf h))) (ite_memWf (setInit_memWf
        (dropPacket_memWf h)) (setInit_memWf (dropPacket_memWf h))))

theorem execRdata_memWf {i tag lat} (h : s.memWf) : nextMemWf (execRdata i tag lat s) := act_memWf h (fun _ hu => deliver_memWf hu)

theorem execAck_memWf {i tag lat} (h : s.memWf) : nextMemWf (execAck i tag lat s) := act_memWf h (fun _ hu => deliver_memWf hu)

theorem execPushack_memWf {i tag lat} (h : s.memWf) : nextMemWf (execPushack i tag lat s) := act_memWf h (fun _ hu => deliver_memWf hu)

theorem execErr_memWf {i tag lat} (h : s.memWf) : nextMemWf (execErr i tag lat s) := act_memWf h (fun _ hu => deliver_memWf hu)

theorem timeOut_memWf {i tag} (h : s.memWf) : (s.timeOut i tag).memWf := clientGets_memWf (sendReq_memWf (setInit_memWf h))

theorem execRequestTimeout_memWf {i tag} (h : s.memWf) : nextMemWf (execRequestTimeout i tag s) :=
  act_memWf h (fun _ hu => ite_memWf (timeOut_memWf hu) hu)

theorem execQuarantineEnd_memWf {i tag} (h : s.memWf) : nextMemWf (execQuarantineEnd i tag s) :=
  act_memWf h (fun _ hu => ite_memWf (setInit_memWf hu) hu)

theorem execAbsorbSetDead_memWf {who r p} (h : s.memWf) : nextMemWf (execAbsorbSetDead who r p s) :=
  act_memWf h (fun _ hu => ite_memWf (pendRouter_memWf hu) (emit_memWf hu))

theorem execAbsorbClear_memWf {who r p keepPc} (h : s.memWf) : nextMemWf (execAbsorbClear who r p keepPc s) :=
  act_memWf h (fun _ hu => ite_memWf (pendRouter_memWf hu) (emit_memWf hu))

theorem execRouterSettingWrite_memWf {who r w} (h : s.memWf) : nextMemWf (execRouterSettingWrite who r w s) :=
  act_memWf h (fun _ hu => ite_memWf (pendRouter_memWf hu) (emit_memWf hu))

theorem execPacketBoundaryChange_memWf {r} (h : s.memWf) : nextMemWf (execPacketBoundaryChange r s) := by
  unfold execPacketBoundaryChange
  refine act_memWf h ?_
  intro _ hu
  refine ite_memWf hu ?_
  refine foldl_memWf ?_ (setRouter_memWf hu)
  intro _ _ hv
  dsimp only
  split
  · exact setRouter_memWf (applyChange_memWf hv)
  · exact applyChange_memWf hv

theorem execFenceRequest_memWf {i} (h : s.memWf) : nextMemWf (execFenceRequest i s) := act_memWf h (fun _ hu => ite_memWf (requestFence_memWf hu) hu)

theorem execFenceAcknowledge_memWf {i} (h : s.memWf) : nextMemWf (execFenceAcknowledge i s) :=
  act_memWf h (fun _ hu => ite_memWf (ite_memWf (mk_memWf hu) (mk_memWf (mk_memWf hu))) hu)

theorem execFlitCrcFail_memWf {r _d} (h : s.memWf) : nextMemWf (execFlitCrcFail r _d s) := act_memWf h (fun _ hu => setRouter_memWf hu)

theorem retireLane_memWf {r d lane} (h : s.memWf) : (s.retireLane r d lane).memWf :=
  ite_memWf (faultSafe_memWf (log_memWf h)) (ite_memWf (log_memWf (pendRouter_memWf (pendRouter_memWf (log_memWf h)))) (pendRouter_memWf
      (pendRouter_memWf (log_memWf h))))

theorem execLaneParityError_memWf {r d lane} (h : s.memWf) : nextMemWf (execLaneParityError r d lane s) :=
  act_memWf h (fun _ hu => ite_memWf hu (ite_memWf (retireLane_memWf (setRouter_memWf hu)) (setRouter_memWf hu)))

/-! ### The commands of the movers (R157 to R164) -/

theorem execSqMvpost_memWf {who m v} (h : s.memWf) : nextMemWf (execSqMvpost who m v s) := by
  unfold execSqMvpost
  refine act_memWf h ?_
  intro _ hu
  refine ite_memWf ?_ (emit_memWf hu)
  split
  · exact setMover_memWf hu
  · exact hu

theorem moverStart_memWf {m} (h : s.memWf) : (s.moverStart m).memWf := by
  unfold State.moverStart
  dsimp only
  split
  · exact ite_memWf (setMover_memWf h) h
  · exact h

theorem execMoverDescriptorStart_memWf {m} (h : s.memWf) : nextMemWf (execMoverDescriptorStart m s) := act_memWf h (fun _ hu => moverStart_memWf hu)

theorem moverPop_memWf {m} (h : s.memWf) : someMemWf (s.moverPop m) := by
  unfold State.moverPop
  dsimp only
  split
  · exact none_memWf
  · exact some_memWf (sendReq_memWf (setMover_memWf h))

theorem moverHbm_memWf {m x tag a data} (h : s.memWf) : (s.moverHbm m x tag a data).memWf := by
  unfold State.moverHbm
  dsimp only
  split
  · exact moverFail_memWf h
  · exact sendReq_memWf (setMover_memWf (setInit_memWf h))

theorem moverWord_memWf {m host} (h : s.memWf) : (s.moverWord m host).memWf := by
  unfold State.moverWord
  split
  · refine ite_memWf h ?_
    refine ite_memWf ?_ ?_
    · split
      · exact h
      · exact ite_memWf (moverHbm_memWf (someMemWf_of (moverPop_memWf h) ‹_›)) (ite_memWf (ite_memWf (moverDid_memWf (emit_memWf (someMemWf_of
            (moverPop_memWf h) ‹_›))) (moverFail_memWf (someMemWf_of (moverPop_memWf h) ‹_›))) (moverDid_memWf (setSess_memWf (someMemWf_of
            (moverPop_memWf h) ‹_›))))
    · refine ite_memWf h ?_
      refine ite_memWf (moverHbm_memWf h) ?_
      dsimp only
      split
      · exact moverPush_memWf (ite_memWf (emit_memWf h) h)
      · exact moverFail_memWf (ite_memWf (emit_memWf h) h)
  · exact h

theorem execMoverWordTransfer_memWf {m host} (h : s.memWf) : nextMemWf (execMoverWordTransfer m host s) :=
  act_memWf h (fun _ hu => moverWord_memWf hu)

theorem moverComplete_memWf {m} (h : s.memWf) : (s.moverComplete m).memWf := by
  unfold State.moverComplete
  dsimp only
  split
  · exact h
  · split
    · exact moverNotices_memWf (setMover_memWf h)
    · exact h

theorem execMoverCompletion_memWf {m} (h : s.memWf) : nextMemWf (execMoverCompletion m s) := act_memWf h (fun _ hu => moverComplete_memWf hu)

end

end Sys2Proof.Machine

/-! O56: firmware, the loader and the host ports keep the canonical form of the HBM contents. -/

namespace Sys2Proof.Machine

section
variable {s : State}

/-! ### How firmware commands run (R395 to R425) -/

theorem setOwner_memWf {o} (h : s.memWf) : (s.setOwner o).memWf := mk_memWf h

theorem setHslot_memWf {p f n v} (h : s.memWf) : (s.setHslot p f n v).memWf := ite_memWf (setOwner_memWf h) (setFunc_memWf h)

theorem addReady_memWf {p f r} (h : s.memWf) : (s.addReady p f r).memWf := ite_memWf (setOwner_memWf (ite_memWf (emit_memWf h) h)) (setFunc_memWf h)

theorem freeSlot_memWf {p f r discarded} (h : s.memWf) : (s.freeSlot p f r discarded).memWf :=
  ite_memWf h (foldl_memWf (fun _ _ hu => addReady_memWf hu) (setHslot_memWf h))

theorem ownerWrites_memWf {n} (h : s.memWf) : (s.ownerWrites n).memWf := by
  unfold State.ownerWrites
  split
  · exact ite_memWf (freeSlot_memWf h) h
  · exact h

theorem post_memWf {p f r} (h : s.memWf) : (s.post p f r).memWf := ite_memWf (ownerWrites_memWf (addReady_memWf h)) (addReady_memWf h)

theorem endRstp_memWf {p f} (h : s.memWf) : (s.endRstp p f).memWf := ite_memWf (setFunc_memWf h) h

theorem setRunning_memWf {l} (h : s.memWf) : (s.setRunning l).memWf := mk_memWf h

theorem complete_memWf {i status result} (h : s.memWf) : (s.complete i status result).memWf :=
  ite_memWf (endRstp_memWf (mk_memWf (setRunning_memWf h))) (post_memWf (mk_memWf (setRunning_memWf h)))

theorem setVstate_memWf {p v} (h : s.memWf) : (s.setVstate p v).memWf := ite_memWf (setOwner_memWf h) (setPort_memWf h)

theorem throttle_memWf {p} (h : s.memWf) : (s.throttle p).memWf := log_memWf (setVstate_memWf h)

theorem violate_memWf {p kind f tag} (h : s.memWf) : (s.violate p kind f tag).memWf :=
  ite_memWf (throttle_memWf (setVstate_memWf h)) (setVstate_memWf h)

theorem accept_memWf {p f b direct} (h : s.memWf) : (s.accept p f b direct).memWf := by
  unfold State.accept
  refine ite_memWf (post_memWf (violate_memWf h)) ?_
  refine ite_memWf (post_memWf (violate_memWf h)) ?_
  dsimp only
  split
  · exact post_memWf (violate_memWf (setHslot_memWf h))
  · split
    · exact post_memWf (setHslot_memWf h)
    · split
      · exact post_memWf (ite_memWf (violate_memWf (setHslot_memWf h)) (setHslot_memWf h))
      · exact setRunning_memWf (ite_memWf (setSpdm_memWf (setHslot_memWf h)) (setHslot_memWf h))

theorem go_memWf {i x cmd body} (h : s.memWf) (hbody : ∀ (a : State), a.memWf → (body a).memWf) : (s.go i x cmd body).memWf :=
  ite_memWf h (ite_memWf (complete_memWf h) (ite_memWf h (ite_memWf (complete_memWf h) (ite_memWf (ite_memWf (ite_memWf (mk_memWf h) h) (mk_memWf
      (ite_memWf (mk_memWf h) h))) (hbody _ (mk_memWf h))))))

theorem command_memWf {i op ops cmd body} (h : s.memWf) (hbody : ∀ (a : State), a.memWf → (body a).memWf) : (s.command i op ops cmd body).memWf := by
  unfold State.command
  split
  · exact ite_memWf (go_memWf h (fun _ hu => hbody _ hu)) h
  · refine ite_memWf h ?_
    dsimp only
    split
    · exact go_memWf (accept_memWf h) (fun _ hu => hbody _ hu)
    · exact accept_memWf h

theorem begin_memWf {i} (h : s.memWf) : (s.begin i).memWf := setRunning_memWf h

/-! ### The loader (R97 to R103, R320 to R353) -/

theorem freeHolds_memWf {i} (h : s.memWf) : (s.freeHolds i).memWf := forAll_memWf (fun _ _ hu => ite_memWf hu (updSeq_memWf hu)) h

theorem ropeFault_memWf (h : s.memWf) : s.ropeFault.memWf := setRope_memWf h

theorem ropeIdleLine_memWf (h : s.memWf) : s.ropeIdleLine.memWf := ite_memWf h (setRope_memWf h)

theorem loadClose_memWf {i lst findex tick} (h : s.memWf) : (s.loadClose i lst findex tick).memWf := by
  unfold State.loadClose
  dsimp only
  split
  · exact complete_memWf (ite_memWf (setRope_memWf (setKey_memWf (setCtx_memWf h))) (setKey_memWf (setCtx_memWf h)))
  · exact ite_memWf (setRope_memWf (setKey_memWf (setCtx_memWf h))) (setKey_memWf (setCtx_memWf h))

theorem fullEnd_memWf {pins} (h : s.memWf) : (s.fullEnd pins).memWf := ropeIdleLine_memWf (noteIdle_memWf (mk_memWf h))

theorem bootNext_memWf {x ok} (h : s.memWf) : (s.bootNext x ok).memWf := ite_memWf (ite_memWf (setCtx_memWf h) (ite_memWf (setRope_memWf h) h)) h

theorem loadFail_memWf {i findex e} (h : s.memWf) : (s.loadFail i findex e).memWf :=
  ite_memWf (bootNext_memWf (fullEnd_memWf (ite_memWf (ropeFault_memWf (loadClose_memWf (freeHolds_memWf (forAll_memWf (fun _ _ hu => updCl_memWf hu)
      h)))) (loadClose_memWf (freeHolds_memWf (forAll_memWf (fun _ _ hu => updCl_memWf hu) h)))))) (loadClose_memWf (freeHolds_memWf (forAll_memWf
      (fun _ _ hu => updCl_memWf hu) h)))

theorem loadDone_memWf {i} (h : s.memWf) : (s.loadDone i).memWf := by
  unfold State.loadDone
  refine ite_memWf (bootNext_memWf (fullEnd_memWf (mk_memWf (loadClose_memWf (freeHolds_memWf h))))) ?_
  split
  · split
    · exact ite_memWf (setRegion_memWf (loadClose_memWf (freeHolds_memWf h))) (loadClose_memWf (freeHolds_memWf h))
    · exact loadClose_memWf (freeHolds_memWf h)
  · exact loadClose_memWf (freeHolds_memWf h)

theorem writeSeg_memWf {i rel records g} (h : s.memWf) : (s.writeSeg i rel records g).memWf :=
  setCtx_memWf (forAll_memWf (fun _ _ hu => updCl_memWf hu) h)

theorem loadArm_memWf {i} (h : s.memWf) : (s.loadArm i).memWf :=
  ite_memWf (ite_memWf (setRope_memWf (setCtx_memWf h)) (setCtx_memWf h)) (ite_memWf (loadFail_memWf h) (setCtx_memWf (forAll_memWf (fun _ _ hu =>
      updCl_memWf hu) h)))

theorem framesEnd_memWf {i} (h : s.memWf) : (s.framesEnd i).memWf := ite_memWf (loadFail_memWf h) (ite_memWf (setCtx_memWf h) (loadArm_memWf h))

theorem endSeg_memWf {i n findex cipher} (h : s.memWf) : (s.endSeg i n findex cipher).memWf := by
  unfold State.endSeg
  refine ite_memWf (loadFail_memWf (setKey_memWf h)) ?_
  split
  · exact loadFail_memWf (setKey_memWf h)
  · split
    · exact loadFail_memWf (setKey_memWf h)
    · dsimp only
      split
      · exact loadFail_memWf (ite_memWf (forAll_memWf (fun _ _ hu => updSeq_memWf hu) (setKey_memWf h)) (setKey_memWf h))
      · refine ite_memWf (setCtx_memWf (ite_memWf (forAll_memWf (fun _ _ hu => updSeq_memWf hu) (setKey_memWf h)) (setKey_memWf h))) ?_
        split
        · exact loadFail_memWf (ite_memWf (forAll_memWf (fun _ _ hu => updSeq_memWf hu) (setKey_memWf h)) (setKey_memWf h))
        · refine writeSeg_memWf ?_
          split
          · exact writeSeg_memWf (setCtx_memWf (ite_memWf (forAll_memWf (fun _ _ hu => updSeq_memWf hu) (setKey_memWf h)) (setKey_memWf h)))
          · exact setCtx_memWf (ite_memWf (forAll_memWf (fun _ _ hu => updSeq_memWf hu) (setKey_memWf h)) (setKey_memWf h))

theorem engineServes_memWf {i} (h : s.memWf) : (s.engineServes i).memWf :=
  ite_memWf (framesEnd_memWf (endSeg_memWf (mk_memWf h))) (endSeg_memWf (mk_memWf h))

theorem loaderCycle_memWf (h : s.memWf) : s.loaderCycle.memWf := by
  unfold State.loaderCycle
  split
  · exact engineServes_memWf h
  · exact h

theorem commitLinks_memWf {c i o} (h : s.memWf) : (s.commitLinks c i o).memWf :=
  forAll_memWf (fun _ _ hu => ite_memWf hu (ite_memWf (setCl_memWf hu) (ite_memWf (setCl_memWf (setCl_memWf hu)) (ite_memWf (setCl_memWf (setCl_memWf
      hu)) (setCl_memWf (setCl_memWf hu)))))) h

theorem countEdge_memWf {t i} (h : s.memWf) : (s.countEdge t i).memWf := by
  unfold State.countEdge
  refine forAll_memWf ?_ h
  intro _ _ hu
  refine forAll_memWf ?_ hu
  intro _ _ hv
  dsimp only
  split <;> exact ite_memWf (setCl_memWf hv) hv

theorem commitOne_memWf {c w} (h : s.memWf) : (s.commitOne c w).memWf := by
  unfold State.commitOne
  dsimp only
  split
  · exact countEdge_memWf (commitLinks_memWf (anchorKeep_memWf (setCl_memWf h)))
  · exact h

theorem wakeNext_memWf (h : s.memWf) : s.wakeNext.memWf := ite_memWf (setCtx_memWf h) (loadDone_memWf h)

theorem fullIn_memWf (h : s.memWf) : s.fullIn.memWf := by
  unfold State.fullIn
  dsimp only
  split
  · exact ite_memWf (wakeNext_memWf (ropeIdleLine_memWf (mk_memWf h))) (ropeIdleLine_memWf (mk_memWf h))
  · exact ropeIdleLine_memWf (mk_memWf h)

theorem commitCluster_memWf {c} (h : s.memWf) : (s.commitCluster c).memWf :=
  ite_memWf h (ite_memWf (forAll_memWf (fun _ _ hu => commitOne_memWf hu) h) (ite_memWf (fullIn_memWf (forAll_memWf (fun _ _ hu => commitOne_memWf hu)
      h)) (loadDone_memWf (forAll_memWf (fun _ _ hu => commitOne_memWf hu) h))))

theorem execRegionCommit_memWf {c} (h : s.memWf) : nextMemWf (execRegionCommit c s) := act_memWf h (fun _ hu => commitCluster_memWf hu)

/-! ### The SPDM responder (R361 to R376) -/

theorem spdmError_memWf {p e} (h : s.memWf) : (s.spdmError p e).memWf := emit_memWf h

theorem spdmAct_memWf {p f} (h : s.memWf) (hf : ∀ (a : State), a.memWf → (f a).memWf) : nextMemWf (spdmAct p s f) :=
  act_memWf h (fun _ hu => ite_memWf (hf _ hu) hu)

theorem afterAlgs_memWf {p f} (h : s.memWf) (hf : ∀ (a : State), a.memWf → (f a).memWf) : (s.afterAlgs p f).memWf :=
  ite_memWf (hf _ h) (spdmError_memWf h)

theorem inSession_memWf {p f} (h : s.memWf) (hf : ∀ (a : State), a.memWf → (f a).memWf) : (s.inSession p f).memWf :=
  ite_memWf (hf _ h) (spdmError_memWf h)

theorem endSession_memWf {p} (h : s.memWf) : (s.endSession p).memWf :=
  forAll_memWf (fun _ _ hu => setKey_memWf hu) (setKey_memWf (setKey_memWf (setSpdm_memWf h)))

theorem draw_memWf (h : s.memWf) : s.draw.2.memWf := mk_memWf h

theorem execGetVersion_memWf {p} (h : s.memWf) : nextMemWf (execGetVersion p s) := spdmAct_memWf h (fun _ hu => emit_memWf (setSpdm_memWf hu))

theorem execGetCapabilities_memWf {p} (h : s.memWf) : nextMemWf (execGetCapabilities p s) :=
  spdmAct_memWf h (fun _ hu => ite_memWf (emit_memWf (setSpdm_memWf hu)) (spdmError_memWf hu))

theorem execNegotiateAlgorithms_memWf {p offer} (h : s.memWf) : nextMemWf (execNegotiateAlgorithms p offer s) :=
  spdmAct_memWf h (fun _ hu => ite_memWf (emit_memWf (setSpdm_memWf hu)) (spdmError_memWf hu))

theorem execGetDigests_memWf {p} (h : s.memWf) : nextMemWf (execGetDigests p s) :=
  spdmAct_memWf h (fun _ hu => afterAlgs_memWf hu (fun _ hv => emit_memWf hv))

theorem execGetCertificate_memWf {p slot} (h : s.memWf) : nextMemWf (execGetCertificate p slot s) :=
  spdmAct_memWf h (fun _ hu => afterAlgs_memWf hu (fun _ hv => ite_memWf (emit_memWf hv) (spdmError_memWf hv)))

theorem execChallenge_memWf {p nonce} (h : s.memWf) : nextMemWf (execChallenge p nonce s) :=
  spdmAct_memWf h (fun _ hu => afterAlgs_memWf hu (fun _ hv => emit_memWf (draw_memWf hv)))

theorem execGetMeasurements_memWf {p index nonce} (h : s.memWf) : nextMemWf (execGetMeasurements p index nonce s) := by
  unfold execGetMeasurements
  refine spdmAct_memWf h ?_
  intro _ hu
  refine afterAlgs_memWf hu ?_
  intro _ hv
  split
  · exact emit_memWf hv
  · exact spdmError_memWf hv

theorem execKeyExchange_memWf {p share} (h : s.memWf) : nextMemWf (execKeyExchange p share s) :=
  spdmAct_memWf h (fun _ hu => afterAlgs_memWf hu (fun _ hv => ite_memWf (spdmError_memWf hv) (emit_memWf (setSpdm_memWf (draw_memWf hv)))))

theorem execFinish_memWf {p verify} (h : s.memWf) : nextMemWf (execFinish p verify s) := by
  unfold execFinish
  refine spdmAct_memWf h ?_
  intro _ hu
  split
  · exact spdmError_memWf hu
  · exact ite_memWf (emit_memWf (setKey_memWf (setKey_memWf (setSpdm_memWf hu)))) (spdmError_memWf (setSpdm_memWf hu))

theorem execHeartbeat_memWf {p} (h : s.memWf) : nextMemWf (execHeartbeat p s) :=
  spdmAct_memWf h (fun _ hu => inSession_memWf hu (fun _ hv => emit_memWf hv))

theorem execKeyUpdate_memWf {p} (h : s.memWf) : nextMemWf (execKeyUpdate p s) :=
  spdmAct_memWf h (fun _ hu => inSession_memWf hu (fun _ hv => emit_memWf (setSpdm_memWf hv)))

theorem execEndSession_memWf {p} (h : s.memWf) : nextMemWf (execEndSession p s) :=
  spdmAct_memWf h (fun _ hu => inSession_memWf hu (fun _ hv => emit_memWf (endSession_memWf hv)))

theorem execIdeKm_memWf {p m} (h : s.memWf) : nextMemWf (execIdeKm p m s) := by
  unfold execIdeKm
  refine spdmAct_memWf h ?_
  intro _ hu
  refine inSession_memWf hu ?_
  intro _ hv
  refine emit_memWf ?_
  split
  · exact setKey_memWf (setSpdm_memWf hv)
  · exact setKey_memWf (setKey_memWf (setSpdm_memWf hv))

/-! ### Host ports (R384 to R416) -/

theorem signal_memWf {p f v} (h : s.memWf) : (s.signal p f v).memWf := ite_memWf h (ite_memWf (setFunc_memWf h) (emit_memWf h))

theorem msixWrite_memWf {p f i v} (h : s.memWf) : (s.msixWrite p f i v).memWf := ite_memWf (signal_memWf (setFunc_memWf h)) (setFunc_memWf h)

theorem entryWritten_memWf {p f k} (h : s.memWf) : (s.entryWritten p f k).memWf := ite_memWf (signal_memWf (setFunc_memWf h)) (setFunc_memWf h)

theorem writeNotice_memWf {p f kind status code id} (h : s.memWf) : (s.writeNotice p f kind status code id).memWf :=
  entryWritten_memWf (setFunc_memWf (emit_memWf h))

theorem lostEntry_memWf {p f} (h : s.memWf) : (s.lostEntry p f).memWf := ite_memWf (setFunc_memWf (writeNotice_memWf h)) h

theorem noticeArrives_memWf {p n} (h : s.memWf) : (s.noticeArrives p n).memWf := by
  unfold State.noticeArrives
  refine ite_memWf ?_ ?_
  · dsimp only
    split
    · exact holdSource_memWf (setFunc_memWf (lostEntry_memWf h))
    · exact setFunc_memWf (lostEntry_memWf h)
  · refine ite_memWf ?_ (ite_memWf (setFunc_memWf (lostEntry_memWf h)) (lostEntry_memWf h))
    dsimp only
    split
    · exact holdSource_memWf (writeNotice_memWf (lostEntry_memWf h))
    · exact writeNotice_memWf (lostEntry_memWf h)

theorem execHostNoticeArrival_memWf {p} (h : s.memWf) : nextMemWf (execHostNoticeArrival p s) := by
  unfold execHostNoticeArrival
  refine act_memWf h ?_
  intro _ hu
  split
  · exact hu
  · exact noticeArrives_memWf (mk_memWf hu)

theorem execLostNoticeEntry_memWf {p f} (h : s.memWf) : nextMemWf (execLostNoticeEntry p f s) := act_memWf h (fun _ hu => lostEntry_memWf hu)

theorem dropSignal_memWf {p f} (h : s.memWf) : (s.dropSignal p f).memWf := setFunc_memWf (mk_memWf (forAll_memWf (fun _ _ hu => setBreg_memWf hu) h))

theorem ringWrite_memWf {p f k v} (h : s.memWf) : (s.ringWrite p f k v).memWf :=
  ite_memWf (ite_memWf (setFunc_memWf h) (ite_memWf (mk_memWf (setFunc_memWf h)) (setFunc_memWf h))) (ite_memWf (dropSignal_memWf (mk_memWf
      (setFunc_memWf h))) (mk_memWf (setFunc_memWf h)))

theorem ringEnable_memWf {p f k} (h : s.memWf) : (s.ringEnable p f k).memWf := setFunc_memWf h

theorem execRingEnable_memWf {p f k v} (h : s.memWf) : nextMemWf (execRingEnable p f k v s) :=
  act_memWf h (fun _ hu => ite_memWf (ringWrite_memWf hu) hu)

theorem execRingDisable_memWf {p f k v} (h : s.memWf) : nextMemWf (execRingDisable p f k v s) :=
  act_memWf h (fun _ hu => ite_memWf (ringWrite_memWf hu) hu)

theorem sqTail_memWf {p f v} (h : s.memWf) : (s.sqTail p f v).memWf := ite_memWf (setFunc_memWf h) (violate_memWf h)

theorem headBell_memWf {p f k v} (h : s.memWf) : (s.headBell p f k v).memWf := ite_memWf (setFunc_memWf h) (violate_memWf h)

theorem execMbxSqtail_memWf {p f v} (h : s.memWf) : nextMemWf (execMbxSqtail p f v s) := act_memWf h (fun _ hu => ite_memWf (sqTail_memWf hu) hu)

theorem execMbxCqhead_memWf {p f v} (h : s.memWf) : nextMemWf (execMbxCqhead p f v s) := act_memWf h (fun _ hu => ite_memWf (headBell_memWf hu) hu)

theorem execMbxNrhead_memWf {p f v} (h : s.memWf) : nextMemWf (execMbxNrhead p f v s) := act_memWf h (fun _ hu => ite_memWf (headBell_memWf hu) hu)

theorem execCoalescingTimeout_memWf {p f k} (h : s.memWf) : nextMemWf (execCoalescingTimeout p f k s) :=
  act_memWf h (fun _ hu => ite_memWf (signal_memWf (setFunc_memWf hu)) hu)

theorem sendSignal_memWf {p f task by_} (h : s.memWf) : (s.sendSignal p f task by_).memWf := setFunc_memWf (belayGets_memWf h)

theorem signalDone_memWf {p f b direct} (h : s.memWf) : (s.signalDone p f b direct).memWf :=
  ite_memWf (complete_memWf (setFunc_memWf (accept_memWf h))) (setFunc_memWf (accept_memWf h))

theorem consumeHost_memWf {p f fetched} (h : s.memWf) : (s.consumeHost p f fetched).memWf := by
  unfold State.consumeHost
  dsimp only
  split
  · exact ite_memWf h (violate_memWf (setFunc_memWf (setPort_memWf (ite_memWf h (emit_memWf h)))))
  · exact ite_memWf h (ite_memWf (signalDone_memWf (setFunc_memWf (setPort_memWf h))) (ite_memWf (ite_memWf h (sendSignal_memWf (setPort_memWf
        (ite_memWf h (emit_memWf h))))) (accept_memWf (setFunc_memWf (setPort_memWf (ite_memWf h (emit_memWf h)))))))

theorem execDescriptorConsume_memWf {p fetched} (h : s.memWf) : nextMemWf (execDescriptorConsume p fetched s) := by
  unfold execDescriptorConsume
  refine act_memWf h ?_
  intro _ hu
  refine ite_memWf hu ?_
  refine ite_memWf ?_ ?_
  · split
    · exact hu
    · exact accept_memWf (setOwner_memWf hu)
  · refine ite_memWf hu ?_
    split
    · exact consumeHost_memWf hu
    · exact hu

theorem postCompletion_memWf {p f} (h : s.memWf) : (s.postCompletion p f).memWf := by
  unfold State.postCompletion
  dsimp only
  split
  · exact h
  · exact ite_memWf (freeSlot_memWf (setFunc_memWf h)) (ite_memWf h (freeSlot_memWf (entryWritten_memWf (setFunc_memWf (emit_memWf h)))))

theorem execCompletionPost_memWf {p f} (h : s.memWf) : nextMemWf (execCompletionPost p f s) := act_memWf h (fun _ hu => postCompletion_memWf hu)

theorem pushWrite_memWf {p f off bytes} (h : s.memWf) : (s.pushWrite p f off bytes).memWf := by
  unfold State.pushWrite
  refine ite_memWf h ?_
  split
  · exact violate_memWf h
  · exact ite_memWf (violate_memWf h) (sendReq_memWf h)

theorem execPushWindowWrite_memWf {p f off bytes} (h : s.memWf) : nextMemWf (execPushWindowWrite p f off bytes s) :=
  act_memWf h (fun _ hu => ite_memWf (pushWrite_memWf hu) hu)

theorem aerUr_memWf {p} (h : s.memWf) : (s.aerUr p).memWf := setPort_memWf h

theorem bar2_memWf {p t} (h : s.memWf) : (s.bar2 p t).memWf :=
  ite_memWf (ite_memWf h (emit_memWf h)) (ite_memWf (ite_memWf (aerUr_memWf (violate_memWf h)) (emit_memWf (aerUr_memWf (violate_memWf h))))
      (ite_memWf h (foldl_memWf (fun _ _ hu => request_memWf hu) h)))

theorem execBar2Access_memWf {p t} (h : s.memWf) : nextMemWf (execBar2Access p t s) := act_memWf h (fun _ hu => ite_memWf (bar2_memWf hu) hu)

theorem bar0Reg_memWf {p f o} (h : s.memWf) : someMemWf (s.bar0Reg p f o) := by
  unfold State.bar0Reg
  refine ite_someMemWf (some_memWf h) ?_
  refine ite_someMemWf (some_memWf h) ?_
  refine ite_someMemWf (some_memWf h) ?_
  refine ite_someMemWf (ite_someMemWf (some_memWf h) (ite_someMemWf (some_memWf h) (ite_someMemWf (some_memWf h) (ite_someMemWf (some_memWf h)
      (ite_someMemWf (some_memWf h) none_memWf))))) ?_
  refine ite_someMemWf (some_memWf (setFunc_memWf h)) ?_
  refine ite_someMemWf (some_memWf (setVstate_memWf h)) ?_
  refine ite_someMemWf ?_ ?_
  · split <;> exact some_memWf h
  · refine ite_someMemWf ?_ (ite_someMemWf (some_memWf (setPort_memWf h)) none_memWf)
    split <;> exact some_memWf h

theorem bar0Word_memWf {p f o} (h : s.memWf) : (s.bar0Word p f o).2.memWf := ite_snd_memWf h (ite_snd_memWf h (getD_memWf (bar0Reg_memWf h) h))

theorem bar0Read_memWf {p f o n} (h : s.memWf) : (s.bar0Read p f o n).memWf :=
  ite_memWf (emit_memWf (violate_memWf h)) (ite_memWf (emit_memWf (bar0Word_memWf (bar0Word_memWf h))) (emit_memWf (bar0Word_memWf h)))

theorem bar0Put_memWf {p f o v} (h : s.memWf) : (s.bar0Put p f o v).memWf :=
  ite_memWf (msixWrite_memWf h) (ite_memWf (ite_memWf (setFunc_memWf h) (ite_memWf (setFunc_memWf h) (ite_memWf (ringWrite_memWf h) (ite_memWf
      (ite_memWf (sqTail_memWf h) (headBell_memWf h)) h)))) h)

theorem bar0Write_memWf {p f o n v} (h : s.memWf) : (s.bar0Write p f o n v).memWf :=
  ite_memWf (pushWrite_memWf h) (ite_memWf (violate_memWf h) (ite_memWf (bar0Put_memWf (bar0Put_memWf h)) (bar0Put_memWf h)))

theorem execBar0Violation_memWf {p f off size write} (h : s.memWf) : nextMemWf (execBar0Violation p f off size write s) :=
  act_memWf h (fun _ hu => ite_memWf hu (ite_memWf (violate_memWf hu) (emit_memWf (violate_memWf hu))))

theorem ctlAccess_memWf {who addr hub win} (h : s.memWf) (hhub : ∀ (a : ℕ), (hub a).st.memWf) (hwin : ∀ (a a_1 : ℕ), (win a a_1).st.memWf) :
    (s.ctlAccess who addr hub win).st.memWf := by
  unfold State.ctlAccess
  split
  · exact hhub _
  · exact hwin _ _
  · exact h

theorem execRegisterWrite_memWf {a v} (h : s.memWf) : nextMemWf (execRegisterWrite a v s) := by
  unfold execRegisterWrite
  refine act_memWf h ?_
  intro _ hu
  split
  · exact ite_memWf (bar0Write_memWf hu) hu
  · exact ite_memWf (ctlAccess_memWf hu (fun _ => hubWrite_memWf hu) (fun _ _ => winWrite_memWf hu)) (emit_memWf (ctlAccess_memWf hu (fun _ =>
        hubWrite_memWf hu) (fun _ _ => winWrite_memWf hu)))

theorem execRcRead_memWf {a} (h : s.memWf) : nextMemWf (execRcRead a s) := by
  unfold execRcRead
  refine act_memWf h ?_
  intro _ hu
  split
  · exact ite_memWf (bar0Read_memWf hu) hu
  · exact emit_memWf (ctlAccess_memWf hu (fun _ => hubRead_memWf hu) (fun _ _ => winRead_memWf hu))

theorem execViolationWindowEnd_memWf {p} (h : s.memWf) : nextMemWf (execViolationWindowEnd p s) := act_memWf h (fun _ hu => setVstate_memWf hu)

theorem execThrottleEnd_memWf {p} (h : s.memWf) : nextMemWf (execThrottleEnd p s) := by
  unfold execThrottleEnd
  refine act_memWf h ?_
  intro _ hu
  dsimp only
  split
  · exact hu
  · exact ite_memWf hu (ite_memWf (setVstate_memWf hu) (log_memWf (setVstate_memWf hu)))

theorem funcReset_memWf {p f} (h : s.memWf) : (s.funcReset p f).memWf := setFunc_memWf (mk_memWf (dropSignal_memWf h))

theorem portReset_memWf {p} (h : s.memWf) : (s.portReset p).memWf := forAll_memWf (fun _ _ hu => funcReset_memWf hu) h

theorem execFunctionLevelReset_memWf {p f} (h : s.memWf) : nextMemWf (execFunctionLevelReset p f s) :=
  act_memWf h (fun _ hu => ite_memWf (funcReset_memWf hu) hu)

theorem execHotReset_memWf {p} (h : s.memWf) : nextMemWf (execHotReset p s) := act_memWf h (fun _ hu => ite_memWf (portReset_memWf hu) hu)

theorem linkDown_memWf {p} (h : s.memWf) : (s.linkDown p).memWf := setPort_memWf (endSession_memWf (portReset_memWf h))

theorem execHostLinkDown_memWf {p} (h : s.memWf) : nextMemWf (execHostLinkDown p s) :=
  act_memWf h (fun _ hu => ite_memWf (setPort_memWf (linkDown_memWf hu)) hu)

theorem pinPerst_memWf {p low f} (h : s.memWf) (hf : ∀ (a : State), a.memWf → (f a).memWf) : nextMemWf (pinPerst p low s f) :=
  ite_nextMemWf (next_memWf (setPort_memWf h)) (next_memWf (hf _ h))

theorem execPePerstNAssert_memWf {p} (h : s.memWf) : nextMemWf (execPePerstNAssert p s) :=
  pinPerst_memWf h (fun _ hu => ite_memWf hu (setPort_memWf (linkDown_memWf hu)))

theorem execPePerstNDeassert_memWf {p} (h : s.memWf) : nextMemWf (execPePerstNDeassert p s) :=
  pinPerst_memWf h (fun _ hu => ite_memWf (setPort_memWf hu) hu)

theorem execHostLinkUp_memWf {p rate} (h : s.memWf) : nextMemWf (execHostLinkUp p rate s) := act_memWf h (fun _ hu => ite_memWf (setPort_memWf hu) hu)

theorem execSubmit_memWf {bytes} (h : s.memWf) : nextMemWf (execSubmit bytes s) :=
  act_memWf h (fun _ hu => ite_memWf hu (ite_memWf (violate_memWf (setOwner_memWf hu)) (ite_memWf (violate_memWf (setOwner_memWf hu)) (ite_memWf
      (setOwner_memWf hu) (setOwner_memWf hu)))))

theorem execStatus_memWf {bytes} (h : s.memWf) : nextMemWf (execStatus bytes s) :=
  act_memWf h (fun _ hu => ite_memWf hu (ite_memWf (violate_memWf hu) (emit_memWf hu)))

theorem execFetch_memWf {bytes} (h : s.memWf) : nextMemWf (execFetch bytes s) :=
  act_memWf h (fun _ hu => ite_memWf hu (ite_memWf (violate_memWf hu) (emit_memWf hu)))

theorem execPop_memWf {bytes} (h : s.memWf) : nextMemWf (execPop bytes s) := by
  unfold execPop
  refine act_memWf h ?_
  intro _ hu
  refine ite_memWf hu ?_
  refine ite_memWf (violate_memWf hu) ?_
  split
  · exact violate_memWf hu
  · exact ite_memWf (violate_memWf hu) (ite_memWf (emit_memWf (ownerWrites_memWf (setOwner_memWf hu))) (ownerWrites_memWf (setOwner_memWf hu)))

/-! ### What firmware commands share -/

theorem judge_memWf {i fails run} (h : s.memWf) (hrun : ∀ (a : State), a.memWf → (run a).memWf) : (s.judge i fails run).memWf := by
  unfold State.judge
  split
  · exact complete_memWf h
  · exact hrun _ h

theorem ok_memWf {i} (h : s.memWf) : (s.ok i).memWf := complete_memWf h

theorem waitOn_memWf {i cmd} (h : s.memWf) : (s.waitOn i cmd).memWf := ite_memWf h (mk_memWf h)

theorem afterMoves_memWf {rs i cmd run} (h : s.memWf) (hrun : ∀ (a : State), a.memWf → (run a).memWf) : (s.afterMoves rs i cmd run).memWf :=
  ite_memWf (waitOn_memWf h) (hrun _ h)

theorem tagUnits_memWf {us k} (h : s.memWf) : (s.tagUnits us k).memWf := forAll_memWf (fun _ _ hu => mk_memWf hu) h

theorem denyUnits_memWf {us} (h : s.memWf) : (s.denyUnits us).memWf :=
  forAll_memWf (fun _ _ hu => foldl_memWf (fun _ _ hv => respond_memWf (forget_memWf hv)) hu) (forAll_memWf (fun _ _ hu => foldl_memWf (fun _ _ hv =>
      respond_memWf hv) (mkHbm_memWf hu)) h)

theorem startWipe_memWf {us} (h : s.memWf) : (s.startWipe us).memWf := forAll_memWf (fun _ _ hu => mk_memWf hu) h

theorem freeUnits_memWf {us} (h : s.memWf) : (s.freeUnits us).memWf :=
  forAll_memWf (fun _ _ hu => ite_memWf (retirePc_memWf hu) hu) (startWipe_memWf (forAll_memWf (fun _ _ hu => hbmErase_memWf hu) (tagUnits_memWf
      (denyUnits_memWf h))))

theorem grantRegion_memWf {r g on} (h : s.memWf) : (s.grantRegion r g on).memWf :=
  forAll_memWf (fun _ _ hu => fwGrant_memWf hu) (forAll_memWf (fun _ _ hu => fwGrant_memWf hu) (forAll_memWf (fun _ _ hu => setIrgn_memWf
      (fwGrant_memWf hu)) h))

theorem clearCluster_memWf {c} (h : s.memWf) : (s.clearCluster c).memWf := updCl_memWf h

theorem wipeCluster_memWf {c} (h : s.memWf) : (s.wipeCluster c).memWf := mk_memWf (clearCluster_memWf h)

theorem endMirror_memWf {ps} (h : s.memWf) : (s.endMirror ps).memWf :=
  mk_memWf (forAll_memWf (fun _ _ hu => setPc_memWf hu) (forAll_memWf (fun _ _ hu => hbmErase_memWf hu) (forAll_memWf (fun _ _ hu => ite_memWf
      (setPcDead_memWf (dropPc_memWf (stopPc_memWf hu))) hu) (forAll_memWf (fun _ _ hu => endCopies_memWf hu) h))))

theorem releaseRegion_memWf {r} (h : s.memWf) : (s.releaseRegion r).memWf := by
  unfold State.releaseRegion
  split
  · exact h
  · exact setRegion_memWf (mk_memWf (forAll_memWf (fun _ _ hu => setSmap_memWf hu) (forAll_memWf (fun _ _ hu => forAll_memWf (fun _ _ hv =>
        setFunc_memWf hv) (ite_memWf (setIrgn_memWf (setPort_memWf hu)) hu)) (forAll_memWf (fun _ _ hu => setSess_memWf hu) (forAll_memWf (fun _ _ hu
        => fwGrant_memWf (setIrgn_memWf (setMover_memWf hu))) (belayRelease_memWf (forAll_memWf (fun _ _ hu => wipeCluster_memWf hu) (setKey_memWf
        (freeUnits_memWf (ite_memWf (endMirror_memWf (grantRegion_memWf (forAll_memWf (fun _ _ hu => ite_memWf (loadFail_memWf hu) hu) h)))
        (grantRegion_memWf (forAll_memWf (fun _ _ hu => ite_memWf (loadFail_memWf hu) hu) h))))))))))))

theorem release0_memWf {i names} (h : s.memWf) : (s.release0 i names).memWf := foldl_memWf (fun _ _ hu => complete_memWf hu) (setRunning_memWf h)

theorem evict_memWf {t} (h : s.memWf) : (s.evict t).memWf :=
  mk_memWf (endSession_memWf (noteIdle_memWf (forAll_memWf (fun _ _ hu => releaseRegion_memWf hu) h)))

theorem setPmap_memWf {r maxp} (h : s.memWf) : (s.setPmap r maxp).memWf := forAll_memWf (fun _ _ hu => pendRouter_memWf hu) h

/-! ### Tenants and regions (R378, R380, R430 to R434) -/

theorem fwTenantCreate_memWf {i ten} (h : s.memWf) : (s.fwTenantCreate i ten).memWf := judge_memWf h (fun _ hu => ok_memWf (mk_memWf hu))

theorem cTenantCreate_memWf {i ten} (h : s.memWf) : (s.cTenantCreate i ten).memWf := command_memWf h (fun _ hu => fwTenantCreate_memWf hu)

theorem execTenantCreate_memWf {i ten} (h : s.memWf) : nextMemWf (execTenantCreate i ten s) := act_memWf h (fun _ hu => cTenantCreate_memWf hu)

theorem fwTenantEvict_memWf {i ten cmd} (h : s.memWf) : (s.fwTenantEvict i ten cmd).memWf :=
  judge_memWf h (fun _ hu => afterMoves_memWf hu (fun _ hv => ok_memWf (evict_memWf (release0_memWf hv))))

theorem cTenantEvict_memWf {i ten} (h : s.memWf) : (s.cTenantEvict i ten).memWf := command_memWf h (fun _ hu => fwTenantEvict_memWf hu)

theorem execTenantEvict_memWf {i ten} (h : s.memWf) : nextMemWf (execTenantEvict i ten s) := act_memWf h (fun _ hu => cTenantEvict_memWf hu)

theorem install_memWf {i a r us t e} (h : s.memWf) : (s.install i a r us t e).memWf :=
  complete_memWf (grantRegion_memWf (setPmap_memWf (setBreg_memWf (setRegion_memWf (tagUnits_memWf (setKey_memWf (draw_memWf (mk_memWf (forAll_memWf
      (fun _ _ hu => clearCluster_memWf hu) h)))))))))

theorem fwRegionAlloc_memWf {i a cmd} (h : s.memWf) : (s.fwRegionAlloc i a cmd).memWf := by
  unfold State.fwRegionAlloc
  refine judge_memWf h ?_
  intro _ hu
  refine ite_memWf (waitOn_memWf (mk_memWf hu)) ?_
  refine ite_memWf (waitOn_memWf hu) ?_
  split
  · exact complete_memWf hu
  · exact ite_memWf (complete_memWf hu) (ite_memWf (complete_memWf hu) (ite_memWf (waitOn_memWf hu) (install_memWf hu)))

theorem cRegionAlloc_memWf {i a} (h : s.memWf) : (s.cRegionAlloc i a).memWf := command_memWf h (fun _ hu => fwRegionAlloc_memWf hu)

theorem execRegionAlloc_memWf {i a} (h : s.memWf) : nextMemWf (execRegionAlloc i a s) := act_memWf h (fun _ hu => cRegionAlloc_memWf hu)

theorem setUnits_memWf {r g us} (h : s.memWf) : (s.setUnits r g us).memWf := grantRegion_memWf (setRegion_memWf (grantRegion_memWf h))

theorem fwRegionResize_memWf {i r n stk cmd} (h : s.memWf) : (s.fwRegionResize i r n stk cmd).memWf := by
  unfold State.fwRegionResize
  refine judge_memWf h ?_
  intro _ hu
  split
  · exact hu
  · refine ite_memWf (complete_memWf (freeUnits_memWf (setUnits_memWf hu))) ?_
    split
    · exact complete_memWf hu
    · exact ite_memWf (waitOn_memWf hu) (complete_memWf (setUnits_memWf (tagUnits_memWf hu)))

theorem cRegionResize_memWf {i r units stk} (h : s.memWf) : (s.cRegionResize i r units stk).memWf :=
  command_memWf h (fun _ hu => fwRegionResize_memWf hu)

theorem execRegionResize_memWf {i r units stk} (h : s.memWf) : nextMemWf (execRegionResize i r units stk s) :=
  act_memWf h (fun _ hu => cRegionResize_memWf hu)

theorem fwRegionRelease_memWf {i r cmd} (h : s.memWf) : (s.fwRegionRelease i r cmd).memWf :=
  judge_memWf h (fun _ hu => afterMoves_memWf hu (fun _ hv => ok_memWf (noteIdle_memWf (releaseRegion_memWf (release0_memWf hv)))))

theorem cRegionRelease_memWf {i r} (h : s.memWf) : (s.cRegionRelease i r).memWf := command_memWf h (fun _ hu => fwRegionRelease_memWf hu)

theorem execRegionRelease_memWf {i r} (h : s.memWf) : nextMemWf (execRegionRelease i r s) := act_memWf h (fun _ hu => cRegionRelease_memWf hu)

theorem fwRegionInfo_memWf {i r item} (h : s.memWf) : (s.fwRegionInfo i r item).memWf := judge_memWf h (fun _ hu => complete_memWf hu)

theorem cRegionInfo_memWf {i r item} (h : s.memWf) : (s.cRegionInfo i r item).memWf := command_memWf h (fun _ hu => fwRegionInfo_memWf hu)

theorem execRegionInfo_memWf {i r item} (h : s.memWf) : nextMemWf (execRegionInfo i r item s) := act_memWf h (fun _ hu => cRegionInfo_memWf hu)

theorem startLoad_memWf {i x path base given r} (h : s.memWf) : (s.startLoad i x path base given r).memWf := setCtx_memWf (begin_memWf h)

theorem loaderBusy_memWf {i} (h : s.memWf) : (s.loaderBusy i).memWf := complete_memWf h

theorem fwRegionLoad_memWf {i r addr len} (h : s.memWf) : (s.fwRegionLoad i r addr len).memWf :=
  judge_memWf h (fun _ hu => ite_memWf (loaderBusy_memWf hu) (startLoad_memWf hu))

theorem cRegionLoad_memWf {i r addr len} (h : s.memWf) : (s.cRegionLoad i r addr len).memWf := command_memWf h (fun _ hu => fwRegionLoad_memWf hu)

theorem execRegionLoad_memWf {i r addr len} (h : s.memWf) : nextMemWf (execRegionLoad i r addr len s) :=
  act_memWf h (fun _ hu => cRegionLoad_memWf hu)

theorem fwQuotaSet_memWf {i r q} (h : s.memWf) : (s.fwQuotaSet i r q).memWf := judge_memWf h (fun _ hu => ok_memWf (setQuota_memWf hu))

theorem cQuotaSet_memWf {i r quota} (h : s.memWf) : (s.cQuotaSet i r quota).memWf := command_memWf h (fun _ hu => fwQuotaSet_memWf hu)

theorem execQuotaSet_memWf {i r quota} (h : s.memWf) : nextMemWf (execQuotaSet i r quota s) := act_memWf h (fun _ hu => cQuotaSet_memWf hu)

theorem fwPrioSet_memWf {i r maxp} (h : s.memWf) : (s.fwPrioSet i r maxp).memWf := by
  unfold State.fwPrioSet
  refine judge_memWf h ?_
  intro _ hu
  refine ok_memWf ?_
  refine setPmap_memWf ?_
  split
  · exact setRegion_memWf hu
  · exact hu

theorem cPrioSet_memWf {i r maxp} (h : s.memWf) : (s.cPrioSet i r maxp).memWf := command_memWf h (fun _ hu => fwPrioSet_memWf hu)

theorem execPrioSet_memWf {i r maxp} (h : s.memWf) : nextMemWf (execPrioSet i r maxp s) := act_memWf h (fun _ hu => cPrioSet_memWf hu)

theorem fwStandbySet_memWf {i mask} (h : s.memWf) : (s.fwStandbySet i mask).memWf :=
  judge_memWf h (fun _ hu => ok_memWf (forAll_memWf (fun _ _ hv => setSmap_memWf hv) (noteIdle_memWf (mk_memWf hu))))

theorem cStandbySet_memWf {i mask} (h : s.memWf) : (s.cStandbySet i mask).memWf := command_memWf h (fun _ hu => fwStandbySet_memWf hu)

theorem execStandbySet_memWf {i mask} (h : s.memWf) : nextMemWf (execStandbySet i mask s) := act_memWf h (fun _ hu => cStandbySet_memWf hu)

theorem setSigner_memWf {t v} (h : s.memWf) : (s.setSigner t v).memWf := mk_memWf h

theorem fwSignerReg_memWf {i addr len hash blob} (h : s.memWf) : (s.fwSignerReg i addr len hash blob).memWf :=
  judge_memWf (ite_memWf (emit_memWf h) h) (fun _ hu => complete_memWf (setSigner_memWf hu))

theorem cSignerReg_memWf {i addr len hash blob} (h : s.memWf) : (s.cSignerReg i addr len hash blob).memWf :=
  command_memWf h (fun _ hu => fwSignerReg_memWf hu)

theorem execSignerReg_memWf {i addr len hash blob} (h : s.memWf) : nextMemWf (execSignerReg i addr len hash blob s) :=
  act_memWf h (fun _ hu => cSignerReg_memWf hu)

theorem fwSvnRaise_memWf {i svn} (h : s.memWf) : (s.fwSvnRaise i svn).memWf :=
  judge_memWf h (fun _ hu => ok_memWf (ite_memWf (mk_memWf hu) (setSigner_memWf hu)))

theorem cSvnRaise_memWf {i svn} (h : s.memWf) : (s.cSvnRaise i svn).memWf := command_memWf h (fun _ hu => fwSvnRaise_memWf hu)

theorem execSvnRaise_memWf {i svn} (h : s.memWf) : nextMemWf (execSvnRaise i svn s) := act_memWf h (fun _ hu => cSvnRaise_memWf hu)

/-! ### Sessions, movers, windows, ports, queues and tasks -/

theorem fwSessionRule_memWf {i e port profile q key} (h : s.memWf) : (s.fwSessionRule i e port profile q key).memWf :=
  judge_memWf h (fun _ hu => ok_memWf (setSess_memWf hu))

theorem cSessionRule_memWf {i sess port profile qid key} (h : s.memWf) : (s.cSessionRule i sess port profile qid key).memWf :=
  command_memWf h (fun _ hu => fwSessionRule_memWf hu)

theorem execSessionRule_memWf {i sess port profile qid key} (h : s.memWf) : nextMemWf (execSessionRule i sess port profile qid key s) :=
  act_memWf h (fun _ hu => cSessionRule_memWf hu)

theorem fwSessionClear_memWf {i e} (h : s.memWf) : (s.fwSessionClear i e).memWf := judge_memWf h (fun _ hu => ok_memWf (setSess_memWf hu))

theorem cSessionClear_memWf {i sess} (h : s.memWf) : (s.cSessionClear i sess).memWf := command_memWf h (fun _ hu => fwSessionClear_memWf hu)

theorem execSessionClear_memWf {i sess} (h : s.memWf) : nextMemWf (execSessionClear i sess s) := act_memWf h (fun _ hu => cSessionClear_memWf hu)

theorem fwSessionShape_memWf {i e rate burst} (h : s.memWf) : (s.fwSessionShape i e rate burst).memWf :=
  judge_memWf h (fun _ hu => ok_memWf (setSess_memWf hu))

theorem cSessionShape_memWf {i sess rate burst} (h : s.memWf) : (s.cSessionShape i sess rate burst).memWf :=
  command_memWf h (fun _ hu => fwSessionShape_memWf hu)

theorem execSessionShape_memWf {i sess rate burst} (h : s.memWf) : nextMemWf (execSessionShape i sess rate burst s) :=
  act_memWf h (fun _ hu => cSessionShape_memWf hu)

theorem fwMoverAssign_memWf {i m r} (h : s.memWf) : (s.fwMoverAssign i m r).memWf := by
  unfold State.fwMoverAssign
  refine judge_memWf h ?_
  intro _ hu
  refine ok_memWf ?_
  refine setIrgn_memWf ?_
  refine setMover_memWf ?_
  split
  · refine fwGrant_memWf ?_
    split
    · exact fwGrant_memWf hu
    · exact hu
  · split
    · exact fwGrant_memWf hu
    · exact hu

theorem cMoverAssign_memWf {i m r} (h : s.memWf) : (s.cMoverAssign i m r).memWf := command_memWf h (fun _ hu => fwMoverAssign_memWf hu)

theorem execMoverAssign_memWf {i m r} (h : s.memWf) : nextMemWf (execMoverAssign i m r s) := act_memWf h (fun _ hu => cMoverAssign_memWf hu)

theorem fwMoverPost_memWf {i m d} (h : s.memWf) : (s.fwMoverPost i m d).memWf :=
  judge_memWf h (fun _ hu => ite_memWf (complete_memWf (setMover_memWf hu)) (complete_memWf (setMover_memWf hu)))

theorem cMoverPost_memWf {i m desc} (h : s.memWf) : (s.cMoverPost i m desc).memWf := command_memWf h (fun _ hu => fwMoverPost_memWf hu)

theorem execMoverPost_memWf {i m desc} (h : s.memWf) : nextMemWf (execMoverPost i m desc s) := act_memWf h (fun _ hu => cMoverPost_memWf hu)

theorem fwMoverStatus_memWf {i m} (h : s.memWf) : (s.fwMoverStatus i m).memWf := judge_memWf h (fun _ hu => complete_memWf (setMover_memWf hu))

theorem cMoverStatus_memWf {i m} (h : s.memWf) : (s.cMoverStatus i m).memWf := command_memWf h (fun _ hu => fwMoverStatus_memWf hu)

theorem execMoverStatus_memWf {i m} (h : s.memWf) : nextMemWf (execMoverStatus i m s) := act_memWf h (fun _ hu => cMoverStatus_memWf hu)

theorem fwBar2Bind_memWf {i r} (h : s.memWf) : (s.fwBar2Bind i r).memWf := judge_memWf h (fun _ hu => ok_memWf (setIrgn_memWf (setPort_memWf hu)))

theorem cBar2Bind_memWf {i r} (h : s.memWf) : (s.cBar2Bind i r).memWf := command_memWf h (fun _ hu => fwBar2Bind_memWf hu)

theorem execBar2Bind_memWf {i r} (h : s.memWf) : nextMemWf (execBar2Bind i r s) := act_memWf h (fun _ hu => cBar2Bind_memWf hu)

theorem fwPushwinBind_memWf {i slot q} (h : s.memWf) : (s.fwPushwinBind i slot q).memWf := judge_memWf h (fun _ hu => ok_memWf (setFunc_memWf hu))

theorem cPushwinBind_memWf {i slot qid} (h : s.memWf) : (s.cPushwinBind i slot qid).memWf := command_memWf h (fun _ hu => fwPushwinBind_memWf hu)

theorem execPushwinBind_memWf {i slot qid} (h : s.memWf) : nextMemWf (execPushwinBind i slot qid s) := act_memWf h (fun _ hu => cPushwinBind_memWf hu)

theorem fwPortEth_memWf {i n split off len} (h : s.memWf) : (s.fwPortEth i n split off len).memWf :=
  judge_memWf h (fun _ hu => ok_memWf (setEth_memWf hu))

theorem bankChannel_memWf {b r on} (h : s.memWf) : (s.bankChannel b r on).memWf := ite_memWf h (updCl_memWf h)

theorem fwPortBank_memWf {i b split off len} (h : s.memWf) : (s.fwPortBank i b split off len).memWf := by
  unfold State.fwPortBank
  refine judge_memWf h ?_
  intro _ hu
  refine ok_memWf ?_
  refine setBank_memWf ?_
  refine setIrgn_memWf ?_
  refine bankChannel_memWf ?_
  split
  · exact bankChannel_memWf hu
  · exact hu

theorem fwPortCfg_memWf {i port split off len} (h : s.memWf) : (s.fwPortCfg i port split off len).memWf :=
  ite_memWf (fwPortEth_memWf h) (ite_memWf (fwPortBank_memWf h) (complete_memWf h))

theorem cPortCfg_memWf {i port split off len} (h : s.memWf) : (s.cPortCfg i port split off len).memWf :=
  command_memWf h (fun _ hu => fwPortCfg_memWf hu)

theorem execPortCfg_memWf {i port split off len} (h : s.memWf) : nextMemWf (execPortCfg i port split off len s) :=
  act_memWf h (fun _ hu => cPortCfg_memWf hu)

theorem fwPtpSource_memWf {i port} (h : s.memWf) : (s.fwPtpSource i port).memWf := judge_memWf h (fun _ hu => ok_memWf (ite_memWf hu (mk_memWf hu)))

theorem cPtpSource_memWf {i port} (h : s.memWf) : (s.cPtpSource i port).memWf := command_memWf h (fun _ hu => fwPtpSource_memWf hu)

theorem execPtpSource_memWf {i port} (h : s.memWf) : nextMemWf (execPtpSource i port s) := act_memWf h (fun _ hu => cPtpSource_memWf hu)

theorem fwQueueCfg_memWf {i q base depth prod cons psrc} (h : s.memWf) : (s.fwQueueCfg i q base depth prod cons psrc).memWf :=
  judge_memWf h (fun _ hu => ok_memWf (setQueue_memWf hu))

theorem cQueueCfg_memWf {i qid base depth prod cons psrc} (h : s.memWf) : (s.cQueueCfg i qid base depth prod cons psrc).memWf :=
  command_memWf h (fun _ hu => fwQueueCfg_memWf hu)

theorem execQueueCfg_memWf {i qid base depth prod cons psrc} (h : s.memWf) : nextMemWf (execQueueCfg i qid base depth prod cons psrc s) :=
  act_memWf h (fun _ hu => cQueueCfg_memWf hu)

theorem fwQueueEnable_memWf {i q} (h : s.memWf) : (s.fwQueueEnable i q).memWf :=
  judge_memWf h (fun _ hu => ite_memWf (ok_memWf hu) (judge_memWf hu (fun _ hv => ok_memWf (moverCredits_memWf (setCl_memWf hv)))))

theorem cQueueEnable_memWf {i qid} (h : s.memWf) : (s.cQueueEnable i qid).memWf := command_memWf h (fun _ hu => fwQueueEnable_memWf hu)

theorem execQueueEnable_memWf {i qid} (h : s.memWf) : nextMemWf (execQueueEnable i qid s) := act_memWf h (fun _ hu => cQueueEnable_memWf hu)

theorem queueOff_memWf {q} (h : s.memWf) : (s.queueOff q).memWf := mk_memWf (updCl_memWf (moverVoid_memWf h))

theorem fwQueueDisable_memWf {i q} (h : s.memWf) : (s.fwQueueDisable i q).memWf :=
  judge_memWf h (fun _ hu => ite_memWf (ok_memWf hu) (judge_memWf hu (fun _ hv => ok_memWf (queueOff_memWf hv))))

theorem cQueueDisable_memWf {i qid} (h : s.memWf) : (s.cQueueDisable i qid).memWf := command_memWf h (fun _ hu => fwQueueDisable_memWf hu)

theorem execQueueDisable_memWf {i qid} (h : s.memWf) : nextMemWf (execQueueDisable i qid s) := act_memWf h (fun _ hu => cQueueDisable_memWf hu)

theorem fwQmodeSet_memWf {i cl um} (h : s.memWf) : (s.fwQmodeSet i cl um).memWf := judge_memWf h (fun _ hu => ok_memWf (updCl_memWf hu))

theorem cQmodeSet_memWf {i cl um} (h : s.memWf) : (s.cQmodeSet i cl um).memWf := command_memWf h (fun _ hu => fwQmodeSet_memWf hu)

theorem execQmodeSet_memWf {i cl um} (h : s.memWf) : nextMemWf (execQmodeSet i cl um s) := act_memWf h (fun _ hu => cQmodeSet_memWf hu)

theorem fwFwdCfg_memWf {i q ch en tkind prio target cred cmd} (h : s.memWf) : (s.fwFwdCfg i q ch en tkind prio target cred cmd).memWf :=
  judge_memWf h (fun _ hu => ite_memWf (judge_memWf hu (fun _ hv => ok_memWf (updCl_memWf hv))) (ite_memWf (ok_memWf hu) (ite_memWf (waitOn_memWf
      (ite_memWf hu (fwdSend_memWf hu))) (ok_memWf (updCl_memWf (ite_memWf hu (fwdSend_memWf hu)))))))

theorem cFwdCfg_memWf {i srcq chan en tkind prio target cred} (h : s.memWf) : (s.cFwdCfg i srcq chan en tkind prio target cred).memWf :=
  command_memWf h (fun _ hu => fwFwdCfg_memWf hu)

theorem execFwdCfg_memWf {i srcq chan en tkind prio target cred} (h : s.memWf) : nextMemWf (execFwdCfg i srcq chan en tkind prio target cred s) :=
  act_memWf h (fun _ hu => cFwdCfg_memWf hu)

theorem fwTaskWrite_memWf {i t d} (h : s.memWf) : (s.fwTaskWrite i t d).memWf := judge_memWf h (fun _ hu => ok_memWf (taskWrite_memWf hu))

theorem cTaskWrite_memWf {i task desc} (h : s.memWf) : (s.cTaskWrite i task desc).memWf := command_memWf h (fun _ hu => fwTaskWrite_memWf hu)

theorem execTaskWrite_memWf {i task desc} (h : s.memWf) : nextMemWf (execTaskWrite i task desc s) := act_memWf h (fun _ hu => cTaskWrite_memWf hu)

theorem fwTaskArm_memWf {i t} (h : s.memWf) : (s.fwTaskArm i t).memWf := judge_memWf h (fun _ hu => ok_memWf (taskArm_memWf hu))

theorem cTaskArm_memWf {i task} (h : s.memWf) : (s.cTaskArm i task).memWf := command_memWf h (fun _ hu => fwTaskArm_memWf hu)

theorem execTaskArm_memWf {i task} (h : s.memWf) : nextMemWf (execTaskArm i task s) := act_memWf h (fun _ hu => cTaskArm_memWf hu)

theorem fwTaskRemove_memWf {i t} (h : s.memWf) : (s.fwTaskRemove i t).memWf := judge_memWf h (fun _ hu => ok_memWf (taskRemove_memWf hu))

theorem cTaskRemove_memWf {i task} (h : s.memWf) : (s.cTaskRemove i task).memWf := command_memWf h (fun _ hu => fwTaskRemove_memWf hu)

theorem execTaskRemove_memWf {i task} (h : s.memWf) : nextMemWf (execTaskRemove i task s) := act_memWf h (fun _ hu => cTaskRemove_memWf hu)

theorem fwTaskQuery_memWf {i t} (h : s.memWf) : (s.fwTaskQuery i t).memWf := judge_memWf h (fun _ hu => complete_memWf hu)

theorem cTaskQuery_memWf {i task} (h : s.memWf) : (s.cTaskQuery i task).memWf := command_memWf h (fun _ hu => fwTaskQuery_memWf hu)

theorem execTaskQuery_memWf {i task} (h : s.memWf) : nextMemWf (execTaskQuery i task s) := act_memWf h (fun _ hu => cTaskQuery_memWf hu)

theorem fwTaskSignal_memWf {i t} (h : s.memWf) : (s.fwTaskSignal i t).memWf := judge_memWf h (fun _ hu => ok_memWf (belayGets_memWf hu))

theorem cTaskSignal_memWf {i task} (h : s.memWf) : (s.cTaskSignal i task).memWf :=
  ite_memWf (command_memWf h (fun _ hu => fwTaskSignal_memWf hu)) (ite_memWf (signalDone_memWf h) (ite_memWf h (sendSignal_memWf h)))

theorem execTaskSignal_memWf {i task} (h : s.memWf) : nextMemWf (execTaskSignal i task s) := act_memWf h (fun _ hu => cTaskSignal_memWf hu)

theorem fwTimerSet_memWf {i t r task period} (h : s.memWf) : (s.fwTimerSet i t r task period).memWf :=
  judge_memWf h (fun _ hu => ok_memWf (ite_memWf (timerWrite_memWf (timerWrite_memWf hu)) (timerWrite_memWf (timerWrite_memWf (timerWrite_memWf
      hu)))))

theorem cTimerSet_memWf {i t r task period} (h : s.memWf) : (s.cTimerSet i t r task period).memWf := command_memWf h (fun _ hu => fwTimerSet_memWf hu)

theorem execTimerSet_memWf {i t r task period} (h : s.memWf) : nextMemWf (execTimerSet i t r task period s) :=
  act_memWf h (fun _ hu => cTimerSet_memWf hu)

/-! ### Memory, statistics and maintenance (R305 to R315, R440 to R442) -/

theorem fwHbmOrder_memWf {i m order} (h : s.memWf) : (s.fwHbmOrder i m order).memWf := judge_memWf h (fun _ hu => ok_memWf (setStack_memWf hu))

theorem cHbmOrder_memWf {i stack order} (h : s.memWf) : (s.cHbmOrder i stack order).memWf := command_memWf h (fun _ hu => fwHbmOrder_memWf hu)

theorem execHbmOrder_memWf {i stack order} (h : s.memWf) : nextMemWf (execHbmOrder i stack order s) := act_memWf h (fun _ hu => cHbmOrder_memWf hu)

theorem fwPcRepair_memWf {i n bad hard ok} (h : s.memWf) : (s.fwPcRepair i n bad hard ok).memWf :=
  judge_memWf h (fun _ hu => ok_memWf (log_memWf (setPcDead_memWf (resumePc_memWf (setPc_memWf (ite_memWf (hbmWrite_memWf hu) hu))))))

theorem cPcRepair_memWf {i pc hard ok} (h : s.memWf) : (s.cPcRepair i pc hard ok).memWf := command_memWf h (fun _ hu => fwPcRepair_memWf hu)

theorem execPcRepair_memWf {i pc hard ok} (h : s.memWf) : nextMemWf (execPcRepair i pc hard ok s) := act_memWf h (fun _ hu => cPcRepair_memWf hu)

theorem fwPcRetire_memWf {i n bad} (h : s.memWf) : (s.fwPcRetire i n bad).memWf := judge_memWf h (fun _ hu => ok_memWf (retirePc_memWf hu))

theorem cPcRetire_memWf {i pc} (h : s.memWf) : (s.cPcRetire i pc).memWf := command_memWf h (fun _ hu => fwPcRetire_memWf hu)

theorem execPcRetire_memWf {i pc} (h : s.memWf) : nextMemWf (execPcRetire i pc s) := act_memWf h (fun _ hu => cPcRetire_memWf hu)

theorem fwPcResweep_memWf {i n bad lanes} (h : s.memWf) : (s.fwPcResweep i n bad lanes).memWf :=
  judge_memWf h (fun _ hu => ite_memWf (complete_memWf (ite_memWf (sweepPc_memWf hu) (ite_memWf (setPc_memWf (leavePc_memWf (sweepPc_memWf hu)))
      (ite_memWf (setPc_memWf (sweepPc_memWf hu)) (servePc_memWf (setPc_memWf (sweepPc_memWf hu))))))) (complete_memWf (ite_memWf (sweepPc_memWf hu)
      (ite_memWf (setPc_memWf (leavePc_memWf (sweepPc_memWf hu))) (ite_memWf (setPc_memWf (sweepPc_memWf hu)) (servePc_memWf (setPc_memWf
      (sweepPc_memWf hu))))))))

theorem cPcResweep_memWf {i pc lanes} (h : s.memWf) : (s.cPcResweep i pc lanes).memWf := command_memWf h (fun _ hu => fwPcResweep_memWf hu)

theorem execPcResweep_memWf {i pc lanes} (h : s.memWf) : nextMemWf (execPcResweep i pc lanes s) := act_memWf h (fun _ hu => cPcResweep_memWf hu)

theorem fwMemMirror_memWf {i r en} (h : s.memWf) : (s.fwMemMirror i r en).memWf := by
  unfold State.fwMemMirror
  refine judge_memWf h ?_
  intro _ hu
  split
  · exact hu
  · exact ite_memWf (ok_memWf hu) (ite_memWf (ok_memWf (setRegion_memWf (mk_memWf (forAll_memWf (fun _ _ hv => setPc_memWf (setPc_memWf hv))
        (forAll_memWf (fun _ _ hv => copyPc_memWf hv) hu))))) (ok_memWf (setRegion_memWf (endMirror_memWf hu))))

theorem cMemMirror_memWf {i r en} (h : s.memWf) : (s.cMemMirror i r en).memWf := command_memWf h (fun _ hu => fwMemMirror_memWf hu)

theorem execMemMirror_memWf {i r en} (h : s.memWf) : nextMemWf (execMemMirror i r en s) := act_memWf h (fun _ hu => cMemMirror_memWf hu)

theorem fwHbmStats_memWf {i n bad} (h : s.memWf) : (s.fwHbmStats i n bad).memWf := judge_memWf h (fun _ hu => complete_memWf (setPc_memWf hu))

theorem cHbmStats_memWf {i pc} (h : s.memWf) : (s.cHbmStats i pc).memWf := command_memWf h (fun _ hu => fwHbmStats_memWf hu)

theorem execHbmStats_memWf {i pc} (h : s.memWf) : nextMemWf (execHbmStats i pc s) := act_memWf h (fun _ hu => cHbmStats_memWf hu)

theorem fwNocStats_memWf {i id item} (h : s.memWf) : (s.fwNocStats i id item).memWf :=
  judge_memWf h (fun _ _ => ite_memWf (complete_memWf (setInit_memWf h)) (ite_memWf (complete_memWf (setInit_memWf h)) (ite_memWf (complete_memWf
      (setInit_memWf h)) (complete_memWf (setInit_memWf h)))))

theorem cNocStats_memWf {i id item} (h : s.memWf) : (s.cNocStats i id item).memWf := command_memWf h (fun _ hu => fwNocStats_memWf hu)

theorem execNocStats_memWf {i id item} (h : s.memWf) : nextMemWf (execNocStats i id item s) := act_memWf h (fun _ hu => cNocStats_memWf hu)

theorem fwRouterStats_memWf {i r} (h : s.memWf) : (s.fwRouterStats i r).memWf := complete_memWf (setRouter_memWf h)

theorem cRouterStats_memWf {i r} (h : s.memWf) : (s.cRouterStats i r).memWf := command_memWf h (fun _ hu => fwRouterStats_memWf hu)

theorem execRouterStats_memWf {i r} (h : s.memWf) : nextMemWf (execRouterStats i r s) := act_memWf h (fun _ hu => cRouterStats_memWf hu)

theorem fwBelayStats_memWf {i r} (h : s.memWf) : (s.fwBelayStats i r).memWf := judge_memWf h (fun _ hu => complete_memWf (setBreg_memWf hu))

theorem cBelayStats_memWf {i r} (h : s.memWf) : (s.cBelayStats i r).memWf := command_memWf h (fun _ hu => fwBelayStats_memWf hu)

theorem execBelayStats_memWf {i r} (h : s.memWf) : nextMemWf (execBelayStats i r s) := act_memWf h (fun _ hu => cBelayStats_memWf hu)

theorem fwNocTimeout_memWf {i id us} (h : s.memWf) : (s.fwNocTimeout i id us).memWf := judge_memWf h (fun _ hu => ok_memWf (setInit_memWf hu))

theorem cNocTimeout_memWf {i id tous} (h : s.memWf) : (s.cNocTimeout i id tous).memWf := command_memWf h (fun _ hu => fwNocTimeout_memWf hu)

theorem execNocTimeout_memWf {i id tous} (h : s.memWf) : nextMemWf (execNocTimeout i id tous s) := act_memWf h (fun _ hu => cNocTimeout_memWf hu)

theorem fwEventLog_memWf {i n} (h : s.memWf) : (s.fwEventLog i n).memWf := by
  unfold State.fwEventLog
  split <;> exact complete_memWf h

theorem cEventLog_memWf {i index} (h : s.memWf) : (s.cEventLog i index).memWf := command_memWf h (fun _ hu => fwEventLog_memWf hu)

theorem execEventLog_memWf {i index} (h : s.memWf) : nextMemWf (execEventLog i index s) := act_memWf h (fun _ hu => cEventLog_memWf hu)

theorem fwCairnStatus_memWf {i} (h : s.memWf) : (s.fwCairnStatus i).memWf := complete_memWf h

theorem cCairnStatus_memWf {i} (h : s.memWf) : (s.cCairnStatus i).memWf := command_memWf h (fun _ hu => fwCairnStatus_memWf hu)

theorem execCairnStatus_memWf {i} (h : s.memWf) : nextMemWf (execCairnStatus i s) := act_memWf h (fun _ hu => cCairnStatus_memWf hu)

/-! ### Device, updates, loads and life cycle (R354 to R359) -/

theorem fwDevIdentity_memWf {i} (h : s.memWf) : (s.fwDevIdentity i).memWf := complete_memWf h

theorem cDevIdentity_memWf {i} (h : s.memWf) : (s.cDevIdentity i).memWf := command_memWf h (fun _ hu => fwDevIdentity_memWf hu)

theorem execDevIdentity_memWf {i} (h : s.memWf) : nextMemWf (execDevIdentity i s) := act_memWf h (fun _ hu => cDevIdentity_memWf hu)

theorem fwDevStatus_memWf {i} (h : s.memWf) : (s.fwDevStatus i).memWf := complete_memWf h

theorem cDevStatus_memWf {i} (h : s.memWf) : (s.cDevStatus i).memWf := command_memWf h (fun _ hu => fwDevStatus_memWf hu)

theorem execDevStatus_memWf {i} (h : s.memWf) : nextMemWf (execDevStatus i s) := act_memWf h (fun _ hu => cDevStatus_memWf hu)

theorem fwTimeGet_memWf {i} (h : s.memWf) : (s.fwTimeGet i).memWf := complete_memWf h

theorem cTimeGet_memWf {i} (h : s.memWf) : (s.cTimeGet i).memWf := command_memWf h (fun _ hu => fwTimeGet_memWf hu)

theorem execTimeGet_memWf {i} (h : s.memWf) : nextMemWf (execTimeGet i s) := act_memWf h (fun _ hu => cTimeGet_memWf hu)

theorem fwTimeStep_memWf {i t} (h : s.memWf) : (s.fwTimeStep i t).memWf := judge_memWf h (fun _ hu => ok_memWf (stepTime_memWf hu))

theorem cTimeStep_memWf {i t} (h : s.memWf) : (s.cTimeStep i t).memWf := command_memWf h (fun _ hu => fwTimeStep_memWf hu)

theorem execTimeStep_memWf {i t} (h : s.memWf) : nextMemWf (execTimeStep i t s) := act_memWf h (fun _ hu => cTimeStep_memWf hu)

theorem fwTickSet_memWf {i ns} (h : s.memWf) : (s.fwTickSet i ns).memWf := judge_memWf h (fun _ hu => ok_memWf (setBelay_memWf hu))

theorem cTickSet_memWf {i ns} (h : s.memWf) : (s.cTickSet i ns).memWf := command_memWf h (fun _ hu => fwTickSet_memWf hu)

theorem execTickSet_memWf {i ns} (h : s.memWf) : nextMemWf (execTickSet i ns s) := act_memWf h (fun _ hu => cTickSet_memWf hu)

theorem abortRunning_memWf {x} (h : s.memWf) : (s.abortRunning x).memWf :=
  ite_memWf (ite_memWf (loadFail_memWf h) (complete_memWf h)) (ite_memWf (ite_memWf (complete_memWf h) (ite_memWf h (loadFail_memWf h))) h)

theorem fwAbort_memWf {i target} (h : s.memWf) : (s.fwAbort i target).memWf := by
  unfold State.fwAbort
  refine ite_memWf (complete_memWf h) ?_
  dsimp only
  split
  · exact abortRunning_memWf (setRunning_memWf (setHslot_memWf h))
  · exact setRunning_memWf (setHslot_memWf h)

theorem cAbort_memWf {i target} (h : s.memWf) : (s.cAbort i target).memWf := command_memWf h (fun _ hu => fwAbort_memWf hu)

theorem execAbort_memWf {i target} (h : s.memWf) : nextMemWf (execAbort i target s) := act_memWf h (fun _ hu => cAbort_memWf hu)

theorem fwStage_memWf {i off d} (h : s.memWf) : (s.fwStage i off d).memWf := judge_memWf h (fun _ hu => ok_memWf (mk_memWf hu))

theorem cStage_memWf {i off data} (h : s.memWf) : (s.cStage i off data).memWf := command_memWf h (fun _ hu => fwStage_memWf hu)

theorem execStage_memWf {i off data} (h : s.memWf) : nextMemWf (execStage i off data s) := act_memWf h (fun _ hu => cStage_memWf hu)

theorem fwFullLoad_memWf {i src off len} (h : s.memWf) : (s.fwFullLoad i src off len).memWf :=
  judge_memWf h (fun _ hu => ite_memWf (loaderBusy_memWf hu) (startLoad_memWf hu))

theorem cFullLoad_memWf {i src off len} (h : s.memWf) : (s.cFullLoad i src off len).memWf := command_memWf h (fun _ hu => fwFullLoad_memWf hu)

theorem execFullLoad_memWf {i src off len} (h : s.memWf) : nextMemWf (execFullLoad i src off len s) := act_memWf h (fun _ hu => cFullLoad_memWf hu)

theorem fwRopeCtl_memWf {i ghi action} (h : s.memWf) : (s.fwRopeCtl i ghi action).memWf := judge_memWf h (fun _ hu => ok_memWf (setRope_memWf hu))

theorem cRopeCtl_memWf {i ghi action} (h : s.memWf) : (s.cRopeCtl i ghi action).memWf := command_memWf h (fun _ hu => fwRopeCtl_memWf hu)

theorem execRopeCtl_memWf {i ghi action} (h : s.memWf) : nextMemWf (execRopeCtl i ghi action s) := act_memWf h (fun _ hu => cRopeCtl_memWf hu)

theorem setAlias2_memWf (h : s.memWf) : s.setAlias2.memWf := setKey_memWf (mk_memWf h)

theorem bootKeys_memWf (h : s.memWf) : s.bootKeys.memWf :=
  ite_memWf h (forAll_memWf (fun _ _ hu => setKey_memWf (draw_memWf hu)) (setKey_memWf (setKey_memWf (setAlias2_memWf (setKey_memWf (setKey_memWf
      (setKey_memWf (mk_memWf h))))))))

theorem scaethRestart_memWf {cause} (h : s.memWf) : (s.scaethRestart cause).memWf := log_memWf (mk_memWf h)

theorem execScaethRestart_memWf {cause} (h : s.memWf) : nextMemWf (execScaethRestart cause s) :=
  act_memWf h (fun _ hu => ite_memWf (scaethRestart_memWf hu) hu)

theorem fwFwUpdate_memWf {i off len} (h : s.memWf) : (s.fwFwUpdate i off len).memWf := by
  unfold State.fwFwUpdate
  dsimp only
  split
  · exact complete_memWf h
  · exact judge_memWf h (fun _ hu => setAlias2_memWf (scaethRestart_memWf (begin_memWf (mk_memWf hu))))

theorem cFwUpdate_memWf {i off len} (h : s.memWf) : (s.cFwUpdate i off len).memWf := command_memWf h (fun _ hu => fwFwUpdate_memWf hu)

theorem execFwUpdate_memWf {i off len} (h : s.memWf) : nextMemWf (execFwUpdate i off len s) := act_memWf h (fun _ hu => cFwUpdate_memWf hu)

theorem execFwUpdateTimeout_memWf (h : s.memWf) : nextMemWf (execFwUpdateTimeout s) := by
  unfold execFwUpdateTimeout
  refine act_memWf h ?_
  intro _ hu
  split
  · exact hu
  · exact ite_memWf hu (complete_memWf (setAlias2_memWf (mk_memWf hu)))

theorem mailboxReturn_memWf (h : s.memWf) : s.mailboxReturn.memWf := foldl_memWf (fun _ _ hu => complete_memWf hu) (mk_memWf h)

theorem execMailboxReturn_memWf (h : s.memWf) : nextMemWf (execMailboxReturn s) := act_memWf h (fun _ hu => ite_memWf hu (mailboxReturn_memWf hu))

theorem transition_memWf {i dest wipe} (h : s.memWf) (hwipe : ∀ (a : State), a.memWf → (wipe a).memWf) : (s.transition i dest wipe).memWf :=
  begin_memWf (hwipe _ (ite_memWf (forAll_memWf (fun _ _ hu => evict_memWf hu) (release0_memWf (mk_memWf h))) (mk_memWf h)))

theorem transWrite_memWf {t} (h : s.memWf) : (s.transWrite t).memWf := ok_memWf (mk_memWf h)

theorem lcCommand_memWf {i op ops cmd body} (h : s.memWf) (hbody : ∀ (a : State), a.memWf → (body a).memWf) : (s.lcCommand i op ops cmd body).memWf :=
    by
  unfold State.lcCommand
  split
  · exact ite_memWf (transWrite_memWf h) (command_memWf h (fun _ hu => hbody _ hu))
  · exact command_memWf h (fun _ hu => ite_memWf (afterMoves_memWf hu (fun _ hv => hbody _ hv)) (hbody _ hu))

theorem fwLcClaim_memWf {i off len} (h : s.memWf) : (s.fwLcClaim i off len).memWf :=
  judge_memWf h (fun _ hu => transition_memWf hu (fun _ hv => mk_memWf hv))

theorem cLcClaim_memWf {i off len} (h : s.memWf) : (s.cLcClaim i off len).memWf := lcCommand_memWf h (fun _ hu => fwLcClaim_memWf hu)

theorem execLcClaim_memWf {i off len} (h : s.memWf) : nextMemWf (execLcClaim i off len s) := act_memWf h (fun _ hu => cLcClaim_memWf hu)

theorem fwLcSeal_memWf {i} (h : s.memWf) : (s.fwLcSeal i).memWf := transition_memWf h (fun _ hu => hu)

theorem cLcSeal_memWf {i} (h : s.memWf) : (s.cLcSeal i).memWf := lcCommand_memWf h (fun _ hu => fwLcSeal_memWf hu)

theorem execLcSeal_memWf {i} (h : s.memWf) : nextMemWf (execLcSeal i s) := act_memWf h (fun _ hu => cLcSeal_memWf hu)

theorem fwLcUnseal_memWf {i} (h : s.memWf) : (s.fwLcUnseal i).memWf := transition_memWf h (fun _ hu => hu)

theorem cLcUnseal_memWf {i} (h : s.memWf) : (s.cLcUnseal i).memWf := lcCommand_memWf h (fun _ hu => fwLcUnseal_memWf hu)

theorem execLcUnseal_memWf {i} (h : s.memWf) : nextMemWf (execLcUnseal i s) := act_memWf h (fun _ hu => cLcUnseal_memWf hu)

theorem fwLcDebug_memWf {i off len} (h : s.memWf) : (s.fwLcDebug i off len).memWf :=
  judge_memWf h (fun _ hu => transition_memWf hu (fun _ hv => setKey_memWf (mk_memWf (forAll_memWf (fun _ _ hw => setEth_memWf hw) hv))))

theorem cLcDebug_memWf {i off len} (h : s.memWf) : (s.cLcDebug i off len).memWf := lcCommand_memWf h (fun _ hu => fwLcDebug_memWf hu)

theorem execLcDebug_memWf {i off len} (h : s.memWf) : nextMemWf (execLcDebug i off len s) := act_memWf h (fun _ hu => cLcDebug_memWf hu)

theorem fwLcDebugExit_memWf {i} (h : s.memWf) : (s.fwLcDebugExit i).memWf := transition_memWf h (fun _ hu => setKey_memWf (mk_memWf hu))

theorem cLcDebugExit_memWf {i} (h : s.memWf) : (s.cLcDebugExit i).memWf := lcCommand_memWf h (fun _ hu => fwLcDebugExit_memWf hu)

theorem execLcDebugExit_memWf {i} (h : s.memWf) : nextMemWf (execLcDebugExit i s) := act_memWf h (fun _ hu => cLcDebugExit_memWf hu)

theorem fwLcRetire_memWf {i confirm} (h : s.memWf) : (s.fwLcRetire i confirm).memWf :=
  judge_memWf h (fun _ hu => transition_memWf hu (fun _ hv => mk_memWf (forAll_memWf (fun _ _ hw => endSession_memWf hw) (forAll_memWf (fun _ _ hw =>
      setEth_memWf hw) hv))))

theorem cLcRetire_memWf {i confirm} (h : s.memWf) : (s.cLcRetire i confirm).memWf := lcCommand_memWf h (fun _ hu => fwLcRetire_memWf hu)

theorem execLcRetire_memWf {i confirm} (h : s.memWf) : nextMemWf (execLcRetire i confirm s) := act_memWf h (fun _ hu => cLcRetire_memWf hu)

theorem fwFleetKey_memWf {i off len} (h : s.memWf) : (s.fwFleetKey i off len).memWf :=
  judge_memWf h (fun _ hu => ok_memWf (setKey_memWf (mk_memWf hu)))

theorem cFleetKey_memWf {i off len} (h : s.memWf) : (s.cFleetKey i off len).memWf := command_memWf h (fun _ hu => fwFleetKey_memWf hu)

theorem execFleetKey_memWf {i off len} (h : s.memWf) : nextMemWf (execFleetKey i off len s) := act_memWf h (fun _ hu => cFleetKey_memWf hu)

theorem fwOwnerSigner_memWf {i off len} (h : s.memWf) : (s.fwOwnerSigner i off len).memWf := judge_memWf h (fun _ hu => ok_memWf (mk_memWf hu))

theorem cOwnerSigner_memWf {i off len} (h : s.memWf) : (s.cOwnerSigner i off len).memWf := command_memWf h (fun _ hu => fwOwnerSigner_memWf hu)

theorem execOwnerSigner_memWf {i off len} (h : s.memWf) : nextMemWf (execOwnerSigner i off len s) := act_memWf h (fun _ hu => cOwnerSigner_memWf hu)

/-! ### Operating modes (R449 to R455) -/

theorem pmBus_memWf {p} (h : s.memWf) : (s.pmBus p).2.memWf := ite_snd_memWf (faultSafe_memWf (mk_memWf h)) (mk_memWf h)

theorem setVdd_memWf {mv p} (h : s.memWf) : (s.setVdd mv p).memWf := ite_memWf (mk_memWf (pmBus_memWf h)) (pmBus_memWf h)

theorem abortLoads_memWf (h : s.memWf) : s.abortLoads.memWf := forAll_memWf (fun _ _ hu => ite_memWf (loadFail_memWf hu) hu) h

theorem startChange_memWf {mode i rs} (h : s.memWf) : (s.startChange mode i rs).memWf := mk_memWf (abortLoads_memWf h)

theorem powerOn_memWf {i} (h : s.memWf) : (s.powerOn i).memWf := forAll_memWf (fun _ _ hu => clearCluster_memWf hu) (pendIsland_memWf (mk_memWf h))

theorem takeMode_memWf {mode rs} (h : s.memWf) : (s.takeMode mode rs).memWf :=
  mk_memWf (setBelay_memWf (forAll_memWf (fun _ _ hu => setRouter_memWf hu) h))

theorem endChange_memWf {ch} (h : s.memWf) : (s.endChange ch).memWf := by
  unfold State.endChange
  dsimp only
  split
  · exact ok_memWf (mk_memWf h)
  · exact mkHbm_memWf h

theorem toStep_memWf {ch n} (h : s.memWf) : (s.toStep ch n).memWf := mk_memWf h

theorem clocksRestart_memWf (h : s.memWf) : s.clocksRestart.memWf := ite_memWf (mk_memWf h) h

theorem changeStep_memWf {p} (h : s.memWf) : (s.changeStep p).memWf := by
  unfold State.changeStep
  split
  · exact h
  · exact ite_memWf h (ite_memWf (toStep_memWf h) (ite_memWf (ite_memWf h (ite_memWf (setVdd_memWf (toStep_memWf (foldl_memWf (fun _ _ hu =>
        timeOut_memWf hu) h))) (ite_memWf (toStep_memWf (foldl_memWf (fun _ _ hu => timeOut_memWf hu) h)) (forAll_memWf (fun _ _ hu => powerOn_memWf
        hu) (toStep_memWf (foldl_memWf (fun _ _ hu => timeOut_memWf hu) h)))))) (ite_memWf (ite_memWf (toStep_memWf h) (forAll_memWf (fun _ _ hu =>
        powerOn_memWf hu) (toStep_memWf h))) (ite_memWf (setVdd_memWf (toStep_memWf (clocksRestart_memWf h))) (ite_memWf (takeMode_memWf (toStep_memWf
        (clocksRestart_memWf h))) (endChange_memWf h))))))

theorem execModeChangeStep_memWf {pm} (h : s.memWf) : nextMemWf (execModeChangeStep pm s) := act_memWf h (fun _ hu => changeStep_memWf hu)

theorem fwModeSet_memWf {i mode off len cmd} (h : s.memWf) : (s.fwModeSet i mode off len cmd).memWf :=
  judge_memWf h (fun _ hu => afterMoves_memWf hu (fun _ hv => ite_memWf (complete_memWf hv) (startChange_memWf (begin_memWf hv))))

theorem cModeSet_memWf {i mode off len} (h : s.memWf) : (s.cModeSet i mode off len).memWf :=
  ite_memWf (complete_memWf (command_memWf h (fun _ hu => fwModeSet_memWf hu))) (command_memWf h (fun _ hu => fwModeSet_memWf hu))

theorem execModeSet_memWf {i mode off len} (h : s.memWf) : nextMemWf (execModeSet i mode off len s) := act_memWf h (fun _ hu => cModeSet_memWf hu)

/-! ### A command that waited (R420 to R422) -/

theorem fwRun_memWf {y} (h : s.memWf) : (fwRun y s).memWf := by
  unfold fwRun
  split
  · exact cDevIdentity_memWf h
  · exact cDevStatus_memWf h
  · exact cTimeGet_memWf h
  · exact cTimeStep_memWf h
  · exact cTickSet_memWf h
  · exact cAbort_memWf h
  · exact cStage_memWf h
  · exact cFullLoad_memWf h
  · exact cRopeCtl_memWf h
  · exact cFwUpdate_memWf h
  · exact cLcClaim_memWf h
  · exact cLcSeal_memWf h
  · exact cLcUnseal_memWf h
  · exact cLcDebug_memWf h
  · exact cLcDebugExit_memWf h
  · exact cLcRetire_memWf h
  · exact cFleetKey_memWf h
  · exact cOwnerSigner_memWf h
  · exact cHbmOrder_memWf h
  · exact cPcRepair_memWf h
  · exact cPcRetire_memWf h
  · exact cMemMirror_memWf h
  · exact cHbmStats_memWf h
  · exact cNocStats_memWf h
  · exact cRouterStats_memWf h
  · exact cBelayStats_memWf h
  · exact cNocTimeout_memWf h
  · exact cEventLog_memWf h
  · exact cCairnStatus_memWf h
  · exact cSessionRule_memWf h
  · exact cSessionClear_memWf h
  · exact cSessionShape_memWf h
  · exact cMoverAssign_memWf h
  · exact cMoverPost_memWf h
  · exact cMoverStatus_memWf h
  · exact cBar2Bind_memWf h
  · exact cPushwinBind_memWf h
  · exact cPortCfg_memWf h
  · exact cPtpSource_memWf h
  · exact cQueueCfg_memWf h
  · exact cQueueEnable_memWf h
  · exact cQueueDisable_memWf h
  · exact cQmodeSet_memWf h
  · exact cFwdCfg_memWf h
  · exact cTaskWrite_memWf h
  · exact cTaskArm_memWf h
  · exact cTaskRemove_memWf h
  · exact cTaskQuery_memWf h
  · exact cTaskSignal_memWf h
  · exact cTimerSet_memWf h
  · exact cTenantCreate_memWf h
  · exact cTenantEvict_memWf h
  · exact cRegionAlloc_memWf h
  · exact cRegionResize_memWf h
  · exact cRegionRelease_memWf h
  · exact cRegionInfo_memWf h
  · exact cRegionLoad_memWf h
  · exact cQuotaSet_memWf h
  · exact cPrioSet_memWf h
  · exact cStandbySet_memWf h
  · exact cSvnRaise_memWf h
  · exact cModeSet_memWf h
  · exact cPcResweep_memWf h
  · exact cSignerReg_memWf h
  · exact h

theorem execCommandWaitEnd_memWf {i} (h : s.memWf) : nextMemWf (execCommandWaitEnd i s) := by
  unfold execCommandWaitEnd
  refine act_memWf h ?_
  intro _ hu
  split
  · exact ite_memWf (fwRun_memWf hu) hu
  · exact hu

end

end Sys2Proof.Machine

/-! O56: the other commands, and a step keep the canonical form of the HBM contents. -/

namespace Sys2Proof.Machine

section
variable {s : State}

/-! ### The commands of the channel controllers (R291 to R313) -/

theorem execHbmRequestEnqueue_memWf {st ch} (h : s.memWf) : nextMemWf (execHbmRequestEnqueue st ch s) := act_memWf h (fun _ hu => hbmEnqueue_memWf hu)

theorem execHbmSchedule_memWf {p ecc} (h : s.memWf) : nextMemWf (execHbmSchedule p ecc s) := act_memWf h (fun _ hu => hbmCycle_memWf hu)

theorem execCommandParityError_memWf {p rep} (h : s.memWf) : nextMemWf (execCommandParityError p rep s) := by
  unfold execCommandParityError
  refine act_memWf h ?_
  intro _ hu
  refine ite_memWf hu ?_
  split
  · exact freeze_memWf hu
  · split <;> exact freeze_memWf hu

theorem execRefreshDue_memWf {p} (h : s.memWf) : nextMemWf (execRefreshDue p s) := act_memWf h (fun _ hu => refreshDue_memWf hu)

theorem execOwedRefreshRun_memWf {p} (h : s.memWf) : nextMemWf (execOwedRefreshRun p s) := act_memWf h (fun _ hu => owedRun_memWf hu)

theorem execRetrainingPause_memWf {p lane lowOk highOk margin} (h : s.memWf) : nextMemWf (execRetrainingPause p lane lowOk highOk margin s) :=
  act_memWf h (fun _ hu => ite_memWf hu (ite_memWf (log_memWf (setPc_memWf hu)) (setPc_memWf hu)))

theorem execDqLaneRemap_memWf {p lane} (h : s.memWf) : nextMemWf (execDqLaneRemap p lane s) := by
  unfold execDqLaneRemap
  refine act_memWf h ?_
  intro _ hu
  dsimp only
  split
  · exact hu
  · exact ite_memWf hu (log_memWf (setPc_memWf hu))

theorem execSelfRefreshEntry_memWf {p} (h : s.memWf) : nextMemWf (execSelfRefreshEntry p s) := act_memWf h (fun _ hu => srefEnter_memWf hu)

theorem execSelfRefreshExit_memWf {p} (h : s.memWf) : nextMemWf (execSelfRefreshExit p s) := act_memWf h (fun _ hu => srefExit_memWf hu)

theorem execStackTemperatureChange_memWf {st temp} (h : s.memWf) : nextMemWf (execStackTemperatureChange st temp s) :=
  act_memWf h (fun _ hu => setStack_memWf hu)

theorem execFullSweep_memWf {p lanes} (h : s.memWf) : nextMemWf (execFullSweep p lanes s) :=
  act_memWf h (fun _ hu => ite_memWf (ite_memWf (servePc_memWf (sweepPc_memWf hu)) (sweepPc_memWf hu)) hu)

theorem execTrainingStore_memWf (h : s.memWf) : nextMemWf (execTrainingStore s) := by
  unfold execTrainingStore
  refine act_memWf h ?_
  intro _ hu
  split
  · exact ite_memWf hu (mkHbm_memWf hu)
  · exact hu

theorem rateStart_memWf {m} (h : s.memWf) : (s.rateStart m).memWf := ite_memWf h (setStack_memWf (forAll_memWf (fun _ _ hu => dropPc_memWf hu) h))

theorem rateEnd_memWf {m anchors} (h : s.memWf) : (s.rateEnd m anchors).memWf :=
  forAll_memWf (fun _ _ hu => ite_memWf (setPc_memWf hu) hu) (foldl_memWf (fun _ _ hu => ite_memWf hu (ite_memWf (sweepPc_memWf hu) (leavePc_memWf
      (sweepPc_memWf hu)))) (forAll_memWf (fun _ _ hu => setPc_memWf hu) (setStack_memWf h)))

theorem execStackRateChange_memWf {st anchors} (h : s.memWf) : nextMemWf (execStackRateChange st anchors s) :=
  act_memWf h (fun _ hu => ite_memWf (rateEnd_memWf hu) (rateStart_memWf hu))

theorem execResume_memWf {who p} (h : s.memWf) : nextMemWf (execResume who p s) :=
  act_memWf h (fun _ hu => ite_memWf (resumePc_memWf hu) (emit_memWf hu))

theorem execRetire_memWf {who p} (h : s.memWf) : nextMemWf (execRetire who p s) :=
  act_memWf h (fun _ hu => ite_memWf (retirePc_memWf hu) (emit_memWf hu))

/-! ### Resets, bring-up and island power (R445 to R450, R458 to R461) -/

theorem deviceReset_memWf {k straps} : (s.deviceReset k straps).memWf := log_memWf (forAll_memWf (fun _ _ hu => setRouter_memWf hu) rfl)

theorem execColdReset_memWf {resetHigh straps} (h : s.memWf) : nextMemWf (execColdReset resetHigh straps s) :=
  next_memWf (ite_memWf h (ite_memWf deviceReset_memWf (mk_memWf h)))

theorem execWarmReset_memWf (h : s.memWf) : nextMemWf (execWarmReset s) := next_memWf (ite_memWf h (mk_memWf h))

theorem execResetNRelease_memWf {straps} (h : s.memWf) : nextMemWf (execResetNRelease straps s) := by
  unfold execResetNRelease
  refine next_memWf ?_
  split
  · exact deviceReset_memWf
  · exact h

theorem execPowerDown_memWf (h : s.memWf) : nextMemWf (execPowerDown s) := next_memWf (mk_memWf h)

theorem execLifecycleReset_memWf (h : s.memWf) : nextMemWf (execLifecycleReset s) := by
  unfold execLifecycleReset
  refine act_memWf h ?_
  intro _ hu
  split
  · exact hu
  · exact ite_memWf deviceReset_memWf hu

theorem execTemperatureTrip_memWf (h : s.memWf) : nextMemWf (execTemperatureTrip s) := act_memWf h (fun _ hu => faultSafe_memWf hu)

theorem execSupplyFault_memWf (h : s.memWf) : nextMemWf (execSupplyFault s) := act_memWf h (fun _ hu => faultSafe_memWf hu)

theorem execSecurityCoreSelfCheckFail_memWf (h : s.memWf) : nextMemWf (execSecurityCoreSelfCheckFail s) :=
  act_memWf h (fun _ hu => faultSafe_memWf hu)

theorem execThermtrip_memWf (h : s.memWf) : nextMemWf (execThermtrip s) :=
  act_memWf h (fun _ hu => faultSafe_memWf (ite_memWf hu (emit_memWf (mk_memWf hu))))

theorem execSysRefclkLoss_memWf (h : s.memWf) : nextMemWf (execSysRefclkLoss s) := act_memWf h (fun _ hu => mk_memWf hu)

theorem bringStack_memWf {m eyes} (h : s.memWf) : (s.bringStack m eyes).memWf := by
  unfold State.bringStack
  extract_lets ps
  split
  next ok t hr =>
    have ht : t.memWf := by
      have hsnd := congrArg Prod.snd hr
      dsimp only at hsnd
      rw [← hsnd]
      exact foldl_snd_memWf (fun _ _ hu => ite_snd_memWf hu (sweepPc_memWf hu)) h
    exact ite_memWf (anchorKeep_memWf (forAll_memWf (fun _ _ hu => servePc_memWf hu) (setStack_memWf ht))) ht

theorem bringCell_memWf {c cell phys} (h : s.memWf) : (s.bringCell c cell phys).memWf :=
  ite_memWf h (ite_memWf (retire_memWf h) (log_memWf (setSmap_memWf h)))

theorem bringIsland_memWf {i fails} (h : s.memWf) : (s.bringIsland i fails).memWf := ite_memWf (log_memWf h) (mk_memWf h)

theorem bringPc_memWf {i sweep} (h : s.memWf) : (s.bringPc i sweep).memWf := by
  unfold State.bringPc
  refine ite_memWf h ?_
  dsimp only
  split
  · exact ite_memWf (servePc_memWf (sweepPc_memWf (ite_memWf h (setPc_memWf (trainWrite_memWf h))))) (sweepPc_memWf (ite_memWf h (setPc_memWf
        (trainWrite_memWf h))))
  · exact ite_memWf (ite_memWf h (setPc_memWf (trainWrite_memWf h))) (servePc_memWf (ite_memWf h (setPc_memWf (trainWrite_memWf h))))

theorem bootPath_memWf (h : s.memWf) : s.bootPath.memWf := ite_memWf (setCtx_memWf h) (ite_memWf (setRope_memWf h) h)

theorem enterBootMode_memWf (h : s.memWf) : s.enterBootMode.memWf := ite_memWf (startChange_memWf h) (startChange_memWf (log_memWf h))

theorem bringStep_memWf {r} (h : s.memWf) : (s.bringStep r).memWf := by
  unfold State.bringStep
  split
  next ok t ht =>
    have htw : t.memWf := by
      have hp := pmBus_memWf (p := r.pm) h
      rwa [ht] at hp
    extract_lets u go
    have hu : u.memWf := foldl_memWf (fun _ _ hv => setBank_memWf hv) htw
    have hgo : ∀ v : State, v.memWf → (go v).memWf := fun _ hv => mk_memWf hv
    split
    · exact hu
    · split
      · exact hgo _ (bootKeys_memWf hu)
      · exact hgo _ (forAll_memWf (fun _ _ hv => ite_memWf (setPort_memWf hv) hv) (mk_memWf hu))
      · refine hgo _ (forAll_memWf (fun _ _ hv => ?_) hu)
        split
        · exact bringStack_memWf hv
        · exact hv
      · exact hgo _ (foldl_memWf (fun _ _ hv => bringCell_memWf hv) (forAll_memWf (fun _ _ hv => setSmap_memWf hv) (forAll_memWf (fun _ _ hv =>
            bringIsland_memWf hv) hu)))
      · exact hgo _ (forAll_memWf (fun _ _ hv => rateStart_memWf hv) (forAll_memWf (fun _ _ hv => bringPc_memWf hv) hu))
      · exact ite_memWf hu (hgo _ (bootPath_memWf hu))
      · exact hgo _ hu
      · exact ite_memWf hu (enterBootMode_memWf hu)
      · exact hu

theorem execBringupStep_memWf {r} (h : s.memWf) : nextMemWf (execBringupStep r s) := act_memWf h (fun _ hu => ite_memWf (bringStep_memWf hu) hu)

theorem execIslandIdleTimeout_memWf {i} (h : s.memWf) : nextMemWf (execIslandIdleTimeout i s) :=
  act_memWf h (fun _ hu => ite_memWf (requestFence_memWf hu) hu)

theorem execIslandPowerOn_memWf {i} (h : s.memWf) : nextMemWf (execIslandPowerOn i s) := act_memWf h (fun _ hu => ite_memWf (powerOn_memWf hu) hu)

theorem execPendingEnableRun_memWf (h : s.memWf) : nextMemWf (execPendingEnableRun s) := by
  unfold execPendingEnableRun
  refine act_memWf h ?_
  intro _ hu
  split
  · exact hu
  · dsimp only
    split
    · exact powerOn_memWf (mk_memWf hu)
    · exact ringEnable_memWf (mk_memWf hu)

/-! ### Migration, Cairn and PLL pairs (R469 to R480) -/

theorem moveRefs_memWf {c b} (h : s.memWf) : (s.moveRefs c b).memWf := forAll_memWf (fun _ _ hu => setBank_memWf hu) (mk_memWf (setBelay_memWf h))

theorem migLose_memWf {c b x} (h : s.memWf) : (s.migLose c b x).memWf := ite_memWf (log_memWf (setCl_memWf h)) (memUE_memWf (mk_memWf h))

theorem moveCluster_memWf {c b bad} (h : s.memWf) : (s.moveCluster c b bad).memWf := by
  unfold State.moveCluster
  refine log_memWf ?_
  refine mk_memWf ?_
  split
  · dsimp only
    split
    · exact setRegion_memWf (setIrgn_memWf (fwGrant_memWf (setIrgn_memWf (fwGrant_memWf (setSmap_memWf (setSmap_memWf (moveRefs_memWf (foldl_memWf
          (fun _ _ hu => migLose_memWf hu) (setCl_memWf (setCl_memWf h))))))))))
    · exact setIrgn_memWf (fwGrant_memWf (setIrgn_memWf (fwGrant_memWf (setSmap_memWf (setSmap_memWf (moveRefs_memWf (foldl_memWf (fun _ _ hu =>
          migLose_memWf hu) (setCl_memWf (setCl_memWf h)))))))))
  · exact setSmap_memWf (setSmap_memWf (moveRefs_memWf (foldl_memWf (fun _ _ hu => migLose_memWf hu) (setCl_memWf (setCl_memWf h)))))

theorem migrate_memWf {c bad} (h : s.memWf) : (s.migrate c bad).memWf := by
  unfold State.migrate
  dsimp only
  split
  · exact h
  · split
    · exact ite_memWf (moveCluster_memWf h) h
    · split
      · exact h
      · exact ite_memWf (moveCluster_memWf (moveCluster_memWf h)) h

theorem execMigration_memWf {c bad} (h : s.memWf) : nextMemWf (execMigration c bad s) := act_memWf h (fun _ hu => migrate_memWf hu)

theorem execLogSecondEnd_memWf (h : s.memWf) : nextMemWf (execLogSecondEnd s) := act_memWf h (fun _ hu => rollLog_memWf hu)

theorem cairnFail_memWf {b} (h : s.memWf) : (s.cairnFail b).memWf := log_memWf (mk_memWf h)

theorem cairnPass_memWf {b} (h : s.memWf) : (s.cairnPass b).memWf := by
  unfold State.cairnPass
  dsimp only
  split
  · exact mk_memWf h
  · exact h

theorem cairnSlice_memWf {b first second clockOk supplyOk request} (h : s.memWf) : (s.cairnSlice b first second clockOk supplyOk request).memWf :=
  ite_memWf h (ite_memWf (mk_memWf h) (ite_memWf h (ite_memWf (cairnPass_memWf h) (cairnFail_memWf h))))

theorem execCairnSlice_memWf {b first second clockOk supplyOk request} (h : s.memWf) : nextMemWf (execCairnSlice b first second clockOk supplyOk
    request s) :=
  act_memWf h (fun _ hu => cairnSlice_memWf hu)

theorem execCairnPassEnd_memWf (h : s.memWf) : nextMemWf (execCairnPassEnd s) := act_memWf h (fun _ hu => ite_memWf hu (mk_memWf hu))

theorem execCairnDisable_memWf {who} (h : s.memWf) : nextMemWf (execCairnDisable who s) :=
  act_memWf h (fun _ hu => ite_memWf (setCrnEn_memWf hu) (emit_memWf hu))

theorem execIslandPllFailure_memWf {d} (h : s.memWf) : nextMemWf (execIslandPllFailure d s) := by
  unfold execIslandPllFailure
  refine act_memWf h ?_
  intro _ hu
  refine ite_memWf hu ?_
  refine ite_memWf ?_ (mk_memWf (mk_memWf hu))
  split
  · exact forAll_memWf (fun _ _ hv => retire_memWf hv) (mk_memWf hu)
  · exact mk_memWf hu

/-! ### Ethernet and PTP (R485 to R499) -/

theorem execEthLinkChange_memWf {e sub up} (h : s.memWf) : nextMemWf (execEthLinkChange e sub up s) :=
  act_memWf h (fun _ hu => ite_memWf hu (setEth_memWf hu))

theorem ethPush_memWf {n q ws} (h : s.memWf) : (s.ethPush n q ws).memWf := foldl_memWf (fun _ _ hu => sendReq_memWf hu) h

theorem rxFrame_memWf {n sub f} (h : s.memWf) : (s.rxFrame n sub f).memWf := by
  unfold State.rxFrame
  refine ite_memWf (setEth_memWf h) ?_
  refine ite_memWf (setEth_memWf h) ?_
  refine ite_memWf h ?_
  split
  · exact setEth_memWf h
  · exact ethPush_memWf h

theorem execFrameReceive_memWf {e sub f} (h : s.memWf) : nextMemWf (execFrameReceive e sub f s) :=
  act_memWf h (fun _ hu => ite_memWf (rxFrame_memWf hu) hu)

theorem egError_memWf {n} (h : s.memWf) : (s.egError n).memWf := setEth_memWf h

theorem txDrop_memWf {n} (h : s.memWf) : (s.txDrop n).memWf := setEth_memWf h

theorem egress_memWf {e} (h : s.memWf) : (s.egress e).memWf := by
  unfold State.egress
  split
  · dsimp only
    split
    · exact h
    · refine ite_memWf (egError_memWf (setSess_memWf h)) ?_
      split
      · exact h
      · exact ite_memWf (ite_memWf (txDrop_memWf (setSess_memWf h)) (setEth_memWf (setSess_memWf h))) (egError_memWf (setSess_memWf h))

theorem execEgressFrame_memWf {x} (h : s.memWf) : nextMemWf (execEgressFrame x s) := act_memWf h (fun _ hu => egress_memWf hu)

theorem transmit_memWf {n sub b} (h : s.memWf) : (s.transmit n sub b).memWf := by
  unfold State.transmit
  dsimp only
  split
  · exact emit_memWf h
  · exact ite_memWf (txDrop_memWf h) (emit_memWf (setEth_memWf h))

theorem depart_memWf {n f} (h : s.memWf) : (s.depart n f).memWf := by
  unfold State.depart
  refine ite_memWf (txDrop_memWf (setSess_memWf (setEth_memWf h))) ?_
  dsimp only
  split
  · exact ethPush_memWf (transmit_memWf (setSess_memWf (setEth_memWf h)))
  · exact transmit_memWf (setSess_memWf (setEth_memWf h))

theorem execFrameDeparture_memWf {e sub} (h : s.memWf) : nextMemWf (execFrameDeparture e sub s) := by
  unfold execFrameDeparture
  refine act_memWf h ?_
  intro _ hu
  refine ite_memWf hu ?_
  split
  · exact depart_memWf hu
  · exact hu

theorem execMacsecAssociationChange_memWf {e} (h : s.memWf) : nextMemWf (execMacsecAssociationChange e s) := by
  unfold execMacsecAssociationChange
  refine act_memWf h ?_
  intro _ hu
  dsimp only
  split
  · exact hu
  · exact setEth_memWf hu

theorem setPtp_memWf {p} (h : s.memWf) : (s.setPtp p).memWf := mk_memWf h

theorem ptpSync_memWf {offset} (h : s.memWf) : (s.ptpSync offset).memWf := ite_memWf (setPtp_memWf (stepTime_memWf h)) (setPtp_memWf (mk_memWf h))

theorem execSyncMessage_memWf {offset} (h : s.memWf) : nextMemWf (execSyncMessage offset s) := by
  unfold execSyncMessage
  refine act_memWf h ?_
  intro _ hu
  split
  · exact ite_memWf (ptpSync_memWf hu) hu
  · exact hu

theorem execPtpSyncTimeout_memWf (h : s.memWf) : nextMemWf (execPtpSyncTimeout s) := act_memWf h (fun _ hu => ite_memWf (setPtp_memWf hu) hu)

/-! ### The commands of the loader and the Rope (R327 to R353) -/

theorem judgeHeader_memWf {i x} (h : s.memWf) : (s.judgeHeader i x).memWf := by
  unfold State.judgeHeader
  dsimp only
  split
  · exact loadFail_memWf h
  · exact ite_memWf (mk_memWf (setCtx_memWf (setKey_memWf h))) (setCtx_memWf (setKey_memWf h))

theorem ropeStatus_memWf {st} (h : s.memWf) : (s.ropeStatus st).memWf := ite_memWf h (setCtx_memWf h)

theorem ropeHeader_memWf {x} (h : s.memWf) : (s.ropeHeader x).memWf :=
  ite_memWf (setRope_memWf (ropeStatus_memWf h)) (ite_memWf (setRope_memWf h) (judgeHeader_memWf (setCtx_memWf (setRope_memWf h))))

theorem loadRead_memWf {x n} (h : s.memWf) : (s.loadRead x n).memWf := by
  unfold State.loadRead
  split
  · exact emit_memWf h
  · exact h

theorem takeHeader_memWf {i b} (h : s.memWf) : (s.takeHeader i b).memWf :=
  ite_memWf (ite_memWf (loadFail_memWf h) (ite_memWf h (ite_memWf (loadFail_memWf (loadRead_memWf h)) (judgeHeader_memWf (loadRead_memWf h)))))
      (ite_memWf (ropeHeader_memWf h) h)

theorem execLoadHeader_memWf {x bytes} (h : s.memWf) : nextMemWf (execLoadHeader x bytes s) := act_memWf h (fun _ hu => takeHeader_memWf hu)

theorem judgeFrame_memWf {i f} (h : s.memWf) : (s.judgeFrame i f).memWf := by
  unfold State.judgeFrame
  dsimp only
  split
  · exact loadFail_memWf h
  · exact ite_memWf (framesEnd_memWf (setCtx_memWf (ite_memWf (mk_memWf h) h))) (setCtx_memWf (ite_memWf (mk_memWf h) h))

theorem takeFrame_memWf {i b} (h : s.memWf) : (s.takeFrame i b).memWf :=
  ite_memWf h (ite_memWf (ite_memWf (judgeFrame_memWf (setRope_memWf h)) h) (ite_memWf (loadFail_memWf h) (ite_memWf h (ite_memWf (loadFail_memWf
      (loadRead_memWf h)) (judgeFrame_memWf (loadRead_memWf h))))))

theorem execFrame_memWf {x bytes} (h : s.memWf) : nextMemWf (execFrame x bytes s) := act_memWf h (fun _ hu => takeFrame_memWf hu)

theorem codeWrite_memWf {c} (h : s.memWf) : (s.codeWrite c).memWf := by
  unfold State.codeWrite
  split
  · split
    · exact ite_memWf (ite_memWf (loadArm_memWf (forAll_memWf (fun _ _ hu => updCl_memWf hu) h)) (forAll_memWf (fun _ _ hu => updCl_memWf hu) h)) h
    · exact h
  · exact h

theorem execCodeWrite_memWf {c} (h : s.memWf) : nextMemWf (execCodeWrite c s) := act_memWf h (fun _ hu => codeWrite_memWf hu)

theorem execCommitDeadline_memWf {x} (h : s.memWf) : nextMemWf (execCommitDeadline x s) := act_memWf h (fun _ hu => ite_memWf (loadFail_memWf hu) hu)

theorem wakeFail_memWf {st} (h : s.memWf) : (s.wakeFail st).memWf :=
  ite_memWf (bootNext_memWf (fullEnd_memWf (mk_memWf (ite_memWf (ropeFault_memWf (loadClose_memWf (freeHolds_memWf h))) (loadClose_memWf
      (freeHolds_memWf h)))))) (loadFail_memWf h)

theorem execWaitLock_memWf (h : s.memWf) : nextMemWf (execWaitLock s) := by
  unfold execWaitLock
  refine act_memWf h ?_
  intro _ hu
  split
  · exact ite_memWf (wakeNext_memWf hu) hu
  · exact hu

theorem execEnableWrites_memWf (h : s.memWf) : nextMemWf (execEnableWrites s) := by
  unfold execEnableWrites
  refine act_memWf h ?_
  intro _ hu
  split
  · exact wakeNext_memWf (mk_memWf hu)
  · exact hu

theorem execReleaseSetreset_memWf (h : s.memWf) : nextMemWf (execReleaseSetreset s) := by
  unfold execReleaseSetreset
  refine act_memWf h ?_
  intro _ hu
  split
  · exact ite_memWf (ite_memWf (wakeNext_memWf hu) hu) (setCtx_memWf (forAll_memWf (fun _ _ hv => updCl_memWf hv) hu))
  · exact hu

theorem execReleaseOutputs_memWf (h : s.memWf) : nextMemWf (execReleaseOutputs s) := by
  unfold execReleaseOutputs
  refine act_memWf h ?_
  intro _ hu
  split
  · exact wakeNext_memWf (mk_memWf hu)
  · exact hu

theorem execDelay_memWf (h : s.memWf) : nextMemWf (execDelay s) := by
  unfold execDelay
  refine act_memWf h ?_
  intro _ hu
  split
  · exact ite_memWf (wakeNext_memWf hu) hu
  · exact hu

theorem execWaitDoneLine_memWf {lines} (h : s.memWf) : nextMemWf (execWaitDoneLine lines s) := by
  unfold execWaitDoneLine
  refine act_memWf h ?_
  intro _ hu
  dsimp only
  split
  · exact ite_memWf (wakeFail_memWf (setRope_memWf hu)) (ite_memWf (wakeNext_memWf (setRope_memWf hu)) (setRope_memWf hu))
  · exact setRope_memWf hu

theorem execWakeStepTimeout_memWf (h : s.memWf) : nextMemWf (execWakeStepTimeout s) := by
  unfold execWakeStepTimeout
  refine act_memWf h ?_
  intro _ hu
  dsimp only
  split
  · exact ite_memWf (wakeFail_memWf hu) hu
  · exact ite_memWf (wakeFail_memWf hu) (ite_memWf (wakeFail_memWf hu) hu)
  · exact hu

theorem execRopeFaultLineLow_memWf (h : s.memWf) : nextMemWf (execRopeFaultLineLow s) := by
  unfold execRopeFaultLineLow
  refine act_memWf h ?_
  intro _ hu
  dsimp only
  split
  · exact wakeFail_memWf (setRope_memWf hu)
  · exact setRope_memWf hu

theorem ropeEnd_memWf {st} (h : s.memWf) : (s.ropeEnd st).memWf :=
  setRope_memWf (ite_memWf (ite_memWf (setRope_memWf (ropeFault_memWf (ropeStatus_memWf h))) (setRope_memWf h)) (loadFail_memWf h))

theorem ropeBlock_memWf {f} (h : s.memWf) (hf : ∀ (a : State), a.memWf → (f a).memWf) : (s.ropeBlock f).memWf :=
  ite_memWf h (ite_memWf (hf _ (setRope_memWf h)) (setRope_memWf h))

theorem ropeSettle_memWf (h : s.memWf) : s.ropeSettle.memWf := ite_memWf (ropeHeader_memWf h) h

theorem execSoi_memWf (h : s.memWf) : nextMemWf (execSoi s) :=
  act_memWf h (fun _ hu => ropeBlock_memWf hu (fun _ hv => setRope_memWf (ite_memWf (ropeEnd_memWf (ropeSettle_memWf (setRope_memWf hv)))
      (ropeSettle_memWf (setRope_memWf hv)))))

theorem execEoi_memWf (h : s.memWf) : nextMemWf (execEoi s) :=
  act_memWf h (fun _ hu => ropeBlock_memWf hu (fun _ hv => ite_memWf hv (setRope_memWf (ite_memWf (ropeEnd_memWf (ropeSettle_memWf hv))
      (ropeSettle_memWf hv)))))

theorem execIdle_memWf (h : s.memWf) : nextMemWf (execIdle s) := act_memWf h (fun _ hu => ropeBlock_memWf hu (fun _ hv => hv))

theorem execRopeDataBlock_memWf {bytes} (h : s.memWf) : nextMemWf (execRopeDataBlock bytes s) :=
  act_memWf h (fun _ hu => ite_memWf hu (ropeBlock_memWf hu (fun _ hv => ite_memWf (setRope_memWf hv) hv)))

theorem ropeErr_memWf (h : s.memWf) : s.ropeErr.memWf := setRope_memWf h

theorem execRopeUnknownControl_memWf {type} (h : s.memWf) : nextMemWf (execRopeUnknownControl type s) :=
  act_memWf h (fun _ hu => ropeBlock_memWf hu (fun _ hv => ite_memWf hv (ropeErr_memWf hv)))

theorem execRopeInvalidSyncHeader_memWf (h : s.memWf) : nextMemWf (execRopeInvalidSyncHeader s) :=
  act_memWf h (fun _ hu => ite_memWf hu (ite_memWf (ropeEnd_memWf (ropeErr_memWf (setRope_memWf hu))) (ropeErr_memWf (setRope_memWf hu))))

theorem execRopeLockLoss_memWf (h : s.memWf) : nextMemWf (execRopeLockLoss s) := act_memWf h (fun _ hu => ite_memWf (ropeEnd_memWf hu) hu)

theorem execRopeIdleTimeout_memWf (h : s.memWf) : nextMemWf (execRopeIdleTimeout s) := act_memWf h (fun _ hu => ite_memWf (ropeEnd_memWf hu) hu)

theorem execCfgLtklRead_memWf {who x} (h : s.memWf) : nextMemWf (execCfgLtklRead who x s) :=
  act_memWf h (fun _ hu => ite_memWf (emit_memWf (setCtx_memWf hu)) (emit_memWf hu))

/-! ### GPIO, console, telemetry and JTAG (R501 to R506) -/

theorem bankSend_memWf {b} (h : s.memWf) : (s.bankSend b).memWf := by
  unfold State.bankSend
  dsimp only
  split
  · exact h
  · exact ite_memWf h (foldl_memWf (fun _ _ hu => sendReq_memWf hu) (setBank_memWf h))

theorem execCaptureEvent_memWf {b pins} (h : s.memWf) : nextMemWf (execCaptureEvent b pins s) :=
  act_memWf h (fun _ hu => ite_memWf (bankSend_memWf (setBank_memWf hu)) hu)

theorem bankDrive_memWf {b} (h : s.memWf) : (s.bankDrive b).memWf := by
  unfold State.bankDrive
  dsimp only
  split
  · exact sendReq_memWf (setBank_memWf (foldl_memWf (fun _ _ hu => emit_memWf hu) h))
  · exact h

theorem execGpioOutputWord_memWf {b} (h : s.memWf) : nextMemWf (execGpioOutputWord b s) := act_memWf h (fun _ hu => ite_memWf (bankDrive_memWf hu) hu)

theorem execConsoleStatus_memWf (h : s.memWf) : nextMemWf (execConsoleStatus s) := act_memWf h (fun _ hu => emit_memWf hu)

theorem execConsoleLog_memWf {n} (h : s.memWf) : nextMemWf (execConsoleLog n s) := act_memWf h (fun _ hu => emit_memWf hu)

theorem execConsoleVer_memWf (h : s.memWf) : nextMemWf (execConsoleVer s) := act_memWf h (fun _ hu => emit_memWf hu)

theorem execTelemetryRead_memWf {ptr} (h : s.memWf) : nextMemWf (execTelemetryRead ptr s) :=
  act_memWf h (fun _ hu => ite_memWf (mk_memWf (emit_memWf hu)) (emit_memWf hu))

theorem execTelemetryWrite_memWf {data} (h : s.memWf) : nextMemWf (execTelemetryWrite data s) :=
  act_memWf h (fun _ hu => ite_memWf hu (emit_memWf hu))

theorem execEntdaa_memWf {addr} (h : s.memWf) : nextMemWf (execEntdaa addr s) := act_memWf h (fun _ hu => ite_memWf hu (mk_memWf hu))

theorem setJtag_memWf {j} (h : s.memWf) : (s.setJtag j).memWf := mk_memWf h

theorem execBypass_memWf (h : s.memWf) : nextMemWf (execBypass s) := act_memWf h (fun _ hu => setJtag_memWf hu)

theorem execIdcode_memWf (h : s.memWf) : nextMemWf (execIdcode s) := act_memWf h (fun _ hu => emit_memWf (setJtag_memWf hu))

theorem execSamplePreload_memWf {cells} (h : s.memWf) : nextMemWf (execSamplePreload cells s) :=
  act_memWf h (fun _ hu => emit_memWf (mk_memWf (setJtag_memWf hu)))

theorem execExtest_memWf (h : s.memWf) : nextMemWf (execExtest s) := act_memWf h (fun _ hu => setJtag_memWf hu)

theorem execHighz_memWf (h : s.memWf) : nextMemWf (execHighz s) := act_memWf h (fun _ hu => setJtag_memWf hu)

theorem execClamp_memWf (h : s.memWf) : nextMemWf (execClamp s) := act_memWf h (fun _ hu => setJtag_memWf hu)

theorem execJtagDebugInstruction_memWf {ir} (h : s.memWf) : nextMemWf (execJtagDebugInstruction ir s) :=
  act_memWf h (fun _ hu => ite_memWf (setJtag_memWf hu) (emit_memWf (setJtag_memWf hu)))

/-! ### Integer, branch, window, event and context instructions (R177 to R204) -/

theorem intOp_memWf {c rd ra b f} (h : s.memWf) : (s.intOp c rd ra b f).memWf := ite_memWf (updSeq_memWf h) (trap_memWf h)

theorem branch_memWf {c ra off t} (h : s.memWf) : (s.branch c ra off t).memWf := ite_memWf (updSeq_memWf h) (trap_memWf h)

theorem execAdd_memWf {c rd ra b} (h : s.memWf) : nextMemWf (execAdd c rd ra b s) := seqAct_memWf h (fun _ hu => intOp_memWf hu)

theorem execSub_memWf {c rd ra b} (h : s.memWf) : nextMemWf (execSub c rd ra b s) := seqAct_memWf h (fun _ hu => intOp_memWf hu)

theorem execAnd_memWf {c rd ra b} (h : s.memWf) : nextMemWf (execAnd c rd ra b s) := seqAct_memWf h (fun _ hu => intOp_memWf hu)

theorem execOr_memWf {c rd ra b} (h : s.memWf) : nextMemWf (execOr c rd ra b s) := seqAct_memWf h (fun _ hu => intOp_memWf hu)

theorem execXor_memWf {c rd ra b} (h : s.memWf) : nextMemWf (execXor c rd ra b s) := seqAct_memWf h (fun _ hu => intOp_memWf hu)

theorem execAndn_memWf {c rd ra b} (h : s.memWf) : nextMemWf (execAndn c rd ra b s) := seqAct_memWf h (fun _ hu => intOp_memWf hu)

theorem execShl_memWf {c rd ra b} (h : s.memWf) : nextMemWf (execShl c rd ra b s) := seqAct_memWf h (fun _ hu => intOp_memWf hu)

theorem execShr_memWf {c rd ra b} (h : s.memWf) : nextMemWf (execShr c rd ra b s) := seqAct_memWf h (fun _ hu => intOp_memWf hu)

theorem execShra_memWf {c rd ra b} (h : s.memWf) : nextMemWf (execShra c rd ra b s) := seqAct_memWf h (fun _ hu => intOp_memWf hu)

theorem execMins_memWf {c rd ra b} (h : s.memWf) : nextMemWf (execMins c rd ra b s) := seqAct_memWf h (fun _ hu => intOp_memWf hu)

theorem execMaxs_memWf {c rd ra b} (h : s.memWf) : nextMemWf (execMaxs c rd ra b s) := seqAct_memWf h (fun _ hu => intOp_memWf hu)

theorem execMinu_memWf {c rd ra b} (h : s.memWf) : nextMemWf (execMinu c rd ra b s) := seqAct_memWf h (fun _ hu => intOp_memWf hu)

theorem execMaxu_memWf {c rd ra b} (h : s.memWf) : nextMemWf (execMaxu c rd ra b s) := seqAct_memWf h (fun _ hu => intOp_memWf hu)

theorem execSetlt_memWf {c rd ra b} (h : s.memWf) : nextMemWf (execSetlt c rd ra b s) := seqAct_memWf h (fun _ hu => intOp_memWf hu)

theorem execSetltu_memWf {c rd ra b} (h : s.memWf) : nextMemWf (execSetltu c rd ra b s) := seqAct_memWf h (fun _ hu => intOp_memWf hu)

theorem execMul_memWf {c rd ra b} (h : s.memWf) : nextMemWf (execMul c rd ra b s) := seqAct_memWf h (fun _ hu => intOp_memWf hu)

theorem execMulhi_memWf {c rd ra b} (h : s.memWf) : nextMemWf (execMulhi c rd ra b s) := seqAct_memWf h (fun _ hu => intOp_memWf hu)

theorem execQuo_memWf {c rd ra b} (h : s.memWf) : nextMemWf (execQuo c rd ra b s) := seqAct_memWf h (fun _ hu => intOp_memWf hu)

theorem execRem_memWf {c rd ra b} (h : s.memWf) : nextMemWf (execRem c rd ra b s) := seqAct_memWf h (fun _ hu => intOp_memWf hu)

theorem execBz_memWf {c ra off} (h : s.memWf) : nextMemWf (execBz c ra off s) := seqAct_memWf h (fun _ hu => branch_memWf hu)

theorem execBnz_memWf {c ra off} (h : s.memWf) : nextMemWf (execBnz c ra off s) := seqAct_memWf h (fun _ hu => branch_memWf hu)

theorem execBlz_memWf {c ra off} (h : s.memWf) : nextMemWf (execBlz c ra off s) := seqAct_memWf h (fun _ hu => branch_memWf hu)

theorem execBgez_memWf {c ra off} (h : s.memWf) : nextMemWf (execBgez c ra off s) := seqAct_memWf h (fun _ hu => branch_memWf hu)

theorem execBgz_memWf {c ra off} (h : s.memWf) : nextMemWf (execBgz c ra off s) := seqAct_memWf h (fun _ hu => branch_memWf hu)

theorem execBlez_memWf {c ra off} (h : s.memWf) : nextMemWf (execBlez c ra off s) := seqAct_memWf h (fun _ hu => branch_memWf hu)

theorem execMovh_memWf {c rd imm} (h : s.memWf) : nextMemWf (execMovh c rd imm s) :=
  seqAct_memWf h (fun _ hu => ite_memWf (updSeq_memWf hu) (trap_memWf hu))

theorem execJl_memWf {c rd off} (h : s.memWf) : nextMemWf (execJl c rd off s) :=
  seqAct_memWf h (fun _ hu => ite_memWf (updSeq_memWf hu) (trap_memWf hu))

theorem execJr_memWf {c rd ra} (h : s.memWf) : nextMemWf (execJr c rd ra s) :=
  seqAct_memWf h (fun _ hu => ite_memWf (updSeq_memWf hu) (trap_memWf hu))

theorem enter_memWf {c} (h : s.memWf) : (s.enter c).memWf := by
  unfold State.enter
  refine ite_memWf (windowFault_memWf h) ?_
  split
  · exact updSeq_memWf h
  · exact trap_memWf h

theorem execEnter_memWf {c} (h : s.memWf) : nextMemWf (execEnter c s) := seqAct_memWf h (fun _ hu => enter_memWf hu)

theorem leave_memWf {c} (h : s.memWf) : (s.leave c).memWf := by
  unfold State.leave
  refine ite_memWf (windowFault_memWf h) ?_
  split
  · exact updSeq_memWf h
  · exact trap_memWf h
  · exact endTask_memWf h

theorem execLeave_memWf {c} (h : s.memWf) : nextMemWf (execLeave c s) := seqAct_memWf h (fun _ hu => leave_memWf hu)

theorem execDone_memWf {c} (h : s.memWf) : nextMemWf (execDone c s) := seqAct_memWf h (fun _ hu => endTask_memWf hu)

theorem execFail_memWf {c code} (h : s.memWf) : nextMemWf (execFail c code s) := seqAct_memWf h (fun _ hu => endTask_memWf hu)

theorem failr_memWf {c ra} (h : s.memWf) : (s.failr c ra).memWf := ite_memWf (ite_memWf (endTask_memWf h) (endTask_memWf h)) (trap_memWf h)

theorem execFailr_memWf {c ra} (h : s.memWf) : nextMemWf (execFailr c ra s) := seqAct_memWf h (fun _ hu => failr_memWf hu)

theorem rett_memWf {c} (h : s.memWf) : (s.rett c).memWf := ite_memWf (trap_memWf h) (updSeq_memWf h)

theorem execRett_memWf {c} (h : s.memWf) : nextMemWf (execRett c s) := seqAct_memWf h (fun _ hu => rett_memWf hu)

theorem spillw_memWf {c ra} (h : s.memWf) : (s.spillw c ra).memWf := by
  unfold State.spillw
  refine ite_memWf (trap_memWf h) ?_
  dsimp only
  split
  · exact windowFault_memWf h
  · split
    · exact windowFault_memWf h
    · exact ite_memWf (updSeq_memWf (endSlot_memWf h)) (updSeq_memWf h)

theorem execSpillw_memWf {c ra} (h : s.memWf) : nextMemWf (execSpillw c ra s) := seqAct_memWf h (fun _ hu => spillw_memWf hu)

theorem fillw_memWf {c ra} (h : s.memWf) : (s.fillw c ra).memWf := by
  unfold State.fillw
  refine ite_memWf (trap_memWf h) ?_
  split
  · exact updSeq_memWf h
  · exact ite_memWf (windowFault_memWf h) (ite_memWf (updSeq_memWf h) (updSeq_memWf h))

theorem execFillw_memWf {c ra} (h : s.memWf) : nextMemWf (execFillw c ra s) := seqAct_memWf h (fun _ hu => fillw_memWf hu)

theorem execRdc_memWf {c rd idx} (h : s.memWf) : nextMemWf (execRdc c rd idx s) :=
  seqAct_memWf h (fun _ hu => ite_memWf (updSeq_memWf hu) (trap_memWf hu))

theorem execWaite_memWf {c mask} (h : s.memWf) : nextMemWf (execWaite c mask s) := act_memWf h (fun _ hu => ite_memWf (updSeq_memWf hu) hu)

theorem execClre_memWf {c mask} (h : s.memWf) : nextMemWf (execClre c mask s) := seqAct_memWf h (fun _ hu => updSeq_memWf hu)

theorem execCstart_memWf {c entry} (h : s.memWf) : nextMemWf (execCstart c entry s) := seqAct_memWf h (fun _ hu => updSeq_memWf (updCl_memWf hu))

theorem execCpark_memWf {c} (h : s.memWf) : nextMemWf (execCpark c s) := seqAct_memWf h (fun _ hu => updSeq_memWf (updCl_memWf hu))

theorem execCstat_memWf {c rd} (h : s.memWf) : nextMemWf (execCstat c rd s) :=
  seqAct_memWf h (fun _ hu => ite_memWf (updSeq_memWf hu) (trap_memWf hu))

theorem execEventLine_memWf {c line} (h : s.memWf) : nextMemWf (execEventLine c line s) := act_memWf h (fun _ hu => ite_memWf (updSeq_memWf hu) hu)

theorem execTaskStartTaken_memWf {c} (h : s.memWf) : nextMemWf (execTaskStartTaken c s) := act_memWf h (fun _ hu => ite_memWf (takeStart_memWf hu) hu)

theorem execPreemptionTaken_memWf {c} (h : s.memWf) : nextMemWf (execPreemptionTaken c s) :=
  act_memWf h (fun _ hu => ite_memWf (takeStart_memWf hu) hu)

theorem execIllegalInstruction_memWf {c k} (h : s.memWf) : nextMemWf (execIllegalInstruction c k s) := by
  unfold execIllegalInstruction
  refine act_memWf h ?_
  intro _ hu
  dsimp only
  split <;> exact ite_memWf (trap_memWf hu) hu

/-! ### Floating-point instructions (R178, R199) -/

theorem fpOp_memWf {c ok f} (h : s.memWf) : (s.fpOp c ok f).memWf := ite_memWf (updSeq_memWf h) (trap_memWf h)

theorem fp2_memWf {c d a b p f} (h : s.memWf) : (s.fp2 c d a b p f).memWf := fpOp_memWf h

theorem execFpadd_memWf {c d a b p} (h : s.memWf) : nextMemWf (execFpadd c d a b p s) := seqAct_memWf h (fun _ hu => fp2_memWf hu)

theorem execFpsub_memWf {c d a b p} (h : s.memWf) : nextMemWf (execFpsub c d a b p s) := seqAct_memWf h (fun _ hu => fp2_memWf hu)

theorem execFpmul_memWf {c d a b p} (h : s.memWf) : nextMemWf (execFpmul c d a b p s) := seqAct_memWf h (fun _ hu => fp2_memWf hu)

theorem execFpdiv_memWf {c d a b p} (h : s.memWf) : nextMemWf (execFpdiv c d a b p s) := seqAct_memWf h (fun _ hu => fp2_memWf hu)

theorem execFpfma_memWf {c d a b x p} (h : s.memWf) : nextMemWf (execFpfma c d a b x p s) := seqAct_memWf h (fun _ hu => fpOp_memWf hu)

theorem execFpmin_memWf {c d a b p} (h : s.memWf) : nextMemWf (execFpmin c d a b p s) := seqAct_memWf h (fun _ hu => fpOp_memWf hu)

theorem execFpmax_memWf {c d a b p} (h : s.memWf) : nextMemWf (execFpmax c d a b p s) := seqAct_memWf h (fun _ hu => fpOp_memWf hu)

theorem execFpcmp_memWf {c d a b fn p} (h : s.memWf) : nextMemWf (execFpcmp c d a b fn p s) := seqAct_memWf h (fun _ hu => fpOp_memWf hu)

theorem fpcvt_memWf {c d a fn p} (h : s.memWf) : (s.fpcvt c d a fn p).memWf := by
  unfold State.fpcvt
  dsimp only
  split
  · exact fpOp_memWf h
  · exact fpOp_memWf h
  · exact fpOp_memWf h
  · exact fpOp_memWf h
  · exact fpOp_memWf h
  · exact fpOp_memWf h
  · exact trap_memWf h

theorem execFpcvt_memWf {c d a fn p} (h : s.memWf) : nextMemWf (execFpcvt c d a fn p s) := seqAct_memWf h (fun _ hu => fpcvt_memWf hu)

theorem fpmov_memWf {c d a fn p} (h : s.memWf) : (s.fpmov c d a fn p).memWf := by
  unfold State.fpmov
  dsimp only
  split
  · exact fpOp_memWf h
  · exact fpOp_memWf h
  · exact fpOp_memWf h
  · exact fpOp_memWf h
  · exact fpOp_memWf h
  · exact fpOp_memWf h
  · exact fpOp_memWf h
  · exact trap_memWf h

theorem execFpmov_memWf {c d a fn p} (h : s.memWf) : nextMemWf (execFpmov c d a fn p s) := seqAct_memWf h (fun _ hu => fpmov_memWf hu)

/-! ### Loads and stores of the sequencer (R172, R173) -/

theorem seqMem_memWf {c a n data} (h : s.memWf) : accMemWf (s.seqMem c a n data) := by
  unfold State.seqMem
  refine ite_accMemWf trapped_memWf ?_
  refine ite_accMemWf ?_ ?_
  · split
    · exact served_memWf h
    · exact served_memWf (updSeq_memWf h)
  · refine ite_accMemWf ?_ trapped_memWf
    refine ite_accMemWf waiting_memWf ?_
    refine ite_accMemWf ?_ trapped_memWf
    refine served_memWf ?_
    split
    · exact winRead_memWf h
    · exact winWrite_memWf h

theorem seqLoad_memWf {c rd ra off n signed} (h : s.memWf) : (s.seqLoad c rd ra off n signed).memWf := by
  unfold State.seqLoad
  refine ite_memWf ?_ (trap_memWf h)
  split
  · exact updSeq_memWf (accMemWf_of (seqMem_memWf h) ‹_›)
  · exact trap_memWf h
  · exact h

theorem seqStore_memWf {c rs ra off n} (h : s.memWf) : (s.seqStore c rs ra off n).memWf := by
  unfold State.seqStore
  refine ite_memWf ?_ (trap_memWf h)
  split
  · exact updSeq_memWf (accMemWf_of (seqMem_memWf h) ‹_›)
  · exact trap_memWf h
  · exact h

theorem execLdb_memWf {c rd ra off} (h : s.memWf) : nextMemWf (execLdb c rd ra off s) := seqAct_memWf h (fun _ hu => seqLoad_memWf hu)

theorem execLdbz_memWf {c rd ra off} (h : s.memWf) : nextMemWf (execLdbz c rd ra off s) := seqAct_memWf h (fun _ hu => seqLoad_memWf hu)

theorem execLdh_memWf {c rd ra off} (h : s.memWf) : nextMemWf (execLdh c rd ra off s) := seqAct_memWf h (fun _ hu => seqLoad_memWf hu)

theorem execLdhz_memWf {c rd ra off} (h : s.memWf) : nextMemWf (execLdhz c rd ra off s) := seqAct_memWf h (fun _ hu => seqLoad_memWf hu)

theorem execLdw_memWf {c rd ra off} (h : s.memWf) : nextMemWf (execLdw c rd ra off s) := seqAct_memWf h (fun _ hu => seqLoad_memWf hu)

theorem execStb_memWf {c rs ra off} (h : s.memWf) : nextMemWf (execStb c rs ra off s) := seqAct_memWf h (fun _ hu => seqStore_memWf hu)

theorem execSth_memWf {c rs ra off} (h : s.memWf) : nextMemWf (execSth c rs ra off s) := seqAct_memWf h (fun _ hu => seqStore_memWf hu)

theorem execStw_memWf {c rs ra off} (h : s.memWf) : nextMemWf (execStw c rs ra off s) := seqAct_memWf h (fun _ hu => seqStore_memWf hu)

theorem swapFp_memWf {c} (h : s.memWf) : (s.swapFp c).memWf := updSeq_memWf h

theorem fpLoad_memWf {c d ra p off} (h : s.memWf) : (s.fpLoad c d ra p off).memWf := by
  unfold State.fpLoad
  refine ite_memWf ?_ (trap_memWf h)
  dsimp only
  split
  · exact updSeq_memWf (accMemWf_of (seqMem_memWf (swapFp_memWf h)) ‹_›)
  · exact trap_memWf (swapFp_memWf h)
  · exact swapFp_memWf h

theorem fpStore_memWf {c d ra p off} (h : s.memWf) : (s.fpStore c d ra p off).memWf := by
  unfold State.fpStore
  refine ite_memWf ?_ (trap_memWf h)
  dsimp only
  split
  · exact updSeq_memWf (accMemWf_of (seqMem_memWf (swapFp_memWf h)) ‹_›)
  · exact trap_memWf (swapFp_memWf h)
  · exact swapFp_memWf h

theorem execFpld_memWf {c d ra p off} (h : s.memWf) : nextMemWf (execFpld c d ra p off s) := seqAct_memWf h (fun _ hu => fpLoad_memWf hu)

theorem execFpst_memWf {c d ra p off} (h : s.memWf) : nextMemWf (execFpst c d ra p off s) := seqAct_memWf h (fun _ hu => fpStore_memWf hu)

/-! ### Every command -/

theorem exec_memWf {i} (h : s.memWf) : nextMemWf (exec i s) := by
  unfold exec
  split
  · exact execRegisterWrite_memWf h
  · exact execRcRead_memWf h
  · exact execClusterCycle_memWf h
  · exact execCellMemoryAccess_memWf h
  · exact execStart_memWf h
  · exact execPark_memWf h
  · exact execCtxCtickLoRead_memWf h
  · exact execRegionCommit_memWf h
  · exact execSpareRepair_memWf h
  · exact execRepairPause_memWf h
  · exact execLinkWordLanding_memWf h
  · exact execLinkCreditArrival_memWf h
  · exact execStagedWordEntry_memWf h
  · exact execStaleTimeout_memWf h
  · exact execSqStaleWrite_memWf h
  · exact execNoticeDelivery_memWf h
  · exact execForwardChannelSend_memWf h
  · exact execSqMvpost_memWf h
  · exact execMoverDescriptorStart_memWf h
  · exact execMoverWordTransfer_memWf h
  · exact execMoverCompletion_memWf h
  · exact execAdd_memWf h
  · exact execSub_memWf h
  · exact execAnd_memWf h
  · exact execOr_memWf h
  · exact execXor_memWf h
  · exact execAndn_memWf h
  · exact execShl_memWf h
  · exact execShr_memWf h
  · exact execShra_memWf h
  · exact execMins_memWf h
  · exact execMaxs_memWf h
  · exact execMinu_memWf h
  · exact execMaxu_memWf h
  · exact execSetlt_memWf h
  · exact execSetltu_memWf h
  · exact execMovh_memWf h
  · exact execMul_memWf h
  · exact execMulhi_memWf h
  · exact execQuo_memWf h
  · exact execRem_memWf h
  · exact execLdb_memWf h
  · exact execLdbz_memWf h
  · exact execLdh_memWf h
  · exact execLdhz_memWf h
  · exact execLdw_memWf h
  · exact execStb_memWf h
  · exact execSth_memWf h
  · exact execStw_memWf h
  · exact execBz_memWf h
  · exact execBnz_memWf h
  · exact execBlz_memWf h
  · exact execBgez_memWf h
  · exact execBgz_memWf h
  · exact execBlez_memWf h
  · exact execJl_memWf h
  · exact execJr_memWf h
  · exact execFpadd_memWf h
  · exact execFpsub_memWf h
  · exact execFpmul_memWf h
  · exact execFpfma_memWf h
  · exact execFpdiv_memWf h
  · exact execFpcvt_memWf h
  · exact execFpcmp_memWf h
  · exact execFpmin_memWf h
  · exact execFpmax_memWf h
  · exact execFpmov_memWf h
  · exact execFpld_memWf h
  · exact execFpst_memWf h
  · exact execEnter_memWf h
  · exact execLeave_memWf h
  · exact execDone_memWf h
  · exact execFail_memWf h
  · exact execFailr_memWf h
  · exact execRett_memWf h
  · exact execSpillw_memWf h
  · exact execFillw_memWf h
  · exact execRdc_memWf h
  · exact execWaite_memWf h
  · exact execClre_memWf h
  · exact execCstart_memWf h
  · exact execCpark_memWf h
  · exact execCstat_memWf h
  · exact execEventLine_memWf h
  · exact execTaskStartTaken_memWf h
  · exact execPreemptionTaken_memWf h
  · exact execSequencerMemoryAccess_memWf h
  · exact execDependenceDecrement_memWf h
  · exact execCompletionProcessing_memWf h
  · exact execDelayExpiry_memWf h
  · exact execTimerExpiry_memWf h
  · exact execHeldEventRetry_memWf h
  · exact execDispatch_memWf h
  · exact execBlyTmrWrite_memWf h
  · exact execRd_memWf h
  · exact execWr_memWf h
  · exact execWrp_memWf h
  · exact execPush_memWf h
  · exact execPushp_memWf h
  · exact execCrd_memWf h
  · exact execEvt_memWf h
  · exact execTorep_memWf h
  · exact execRdata_memWf h
  · exact execAck_memWf h
  · exact execPushack_memWf h
  · exact execErr_memWf h
  · exact execRequestTimeout_memWf h
  · exact execQuarantineEnd_memWf h
  · exact execAbsorbSetDead_memWf h
  · exact execAbsorbClear_memWf h
  · exact execRouterSettingWrite_memWf h
  · exact execPacketBoundaryChange_memWf h
  · exact execFenceRequest_memWf h
  · exact execFenceAcknowledge_memWf h
  · exact execFlitCrcFail_memWf h
  · exact execLaneParityError_memWf h
  · exact execHbmRequestEnqueue_memWf h
  · exact execHbmSchedule_memWf h
  · exact execCommandParityError_memWf h
  · exact execRefreshDue_memWf h
  · exact execOwedRefreshRun_memWf h
  · exact execRetrainingPause_memWf h
  · exact execDqLaneRemap_memWf h
  · exact execSelfRefreshEntry_memWf h
  · exact execSelfRefreshExit_memWf h
  · exact execStackTemperatureChange_memWf h
  · exact execFullSweep_memWf h
  · exact execTrainingStore_memWf h
  · exact execStackRateChange_memWf h
  · exact execResume_memWf h
  · exact execRetire_memWf h
  · exact execLoadHeader_memWf h
  · exact execFrame_memWf h
  · exact execCodeWrite_memWf h
  · exact execCommitDeadline_memWf h
  · exact execWaitLock_memWf h
  · exact execEnableWrites_memWf h
  · exact execReleaseSetreset_memWf h
  · exact execReleaseOutputs_memWf h
  · exact execDelay_memWf h
  · exact execWaitDoneLine_memWf h
  · exact execWakeStepTimeout_memWf h
  · exact execSoi_memWf h
  · exact execEoi_memWf h
  · exact execIdle_memWf h
  · exact execRopeDataBlock_memWf h
  · exact execRopeUnknownControl_memWf h
  · exact execRopeLockLoss_memWf h
  · exact execRopeIdleTimeout_memWf h
  · exact execCfgLtklRead_memWf h
  · exact execGetVersion_memWf h
  · exact execGetCapabilities_memWf h
  · exact execNegotiateAlgorithms_memWf h
  · exact execGetDigests_memWf h
  · exact execGetCertificate_memWf h
  · exact execChallenge_memWf h
  · exact execGetMeasurements_memWf h
  · exact execKeyExchange_memWf h
  · exact execFinish_memWf h
  · exact execHeartbeat_memWf h
  · exact execKeyUpdate_memWf h
  · exact execEndSession_memWf h
  · exact execIdeKm_memWf h
  · exact execPePerstNAssert_memWf h
  · exact execPePerstNDeassert_memWf h
  · exact execHostLinkUp_memWf h
  · exact execHostLinkDown_memWf h
  · exact execFunctionLevelReset_memWf h
  · exact execHotReset_memWf h
  · exact execRingEnable_memWf h
  · exact execRingDisable_memWf h
  · exact execMbxSqtail_memWf h
  · exact execMbxCqhead_memWf h
  · exact execMbxNrhead_memWf h
  · exact execDescriptorConsume_memWf h
  · exact execCompletionPost_memWf h
  · exact execCoalescingTimeout_memWf h
  · exact execHostNoticeArrival_memWf h
  · exact execLostNoticeEntry_memWf h
  · exact execPushWindowWrite_memWf h
  · exact execBar2Access_memWf h
  · exact execBar0Violation_memWf h
  · exact execViolationWindowEnd_memWf h
  · exact execThrottleEnd_memWf h
  · exact execScaethRestart_memWf h
  · exact execMailboxReturn_memWf h
  · exact execSubmit_memWf h
  · exact execStatus_memWf h
  · exact execFetch_memWf h
  · exact execPop_memWf h
  · exact execCommandWaitEnd_memWf h
  · exact execDevIdentity_memWf h
  · exact execDevStatus_memWf h
  · exact execTimeGet_memWf h
  · exact execTimeStep_memWf h
  · exact execAbort_memWf h
  · exact execModeSet_memWf h
  · exact execModeChangeStep_memWf h
  · exact execTickSet_memWf h
  · exact execTenantCreate_memWf h
  · exact execTenantEvict_memWf h
  · exact execRegionAlloc_memWf h
  · exact execRegionResize_memWf h
  · exact execRegionRelease_memWf h
  · exact execRegionInfo_memWf h
  · exact execRegionLoad_memWf h
  · exact execQuotaSet_memWf h
  · exact execPrioSet_memWf h
  · exact execStandbySet_memWf h
  · exact execSignerReg_memWf h
  · exact execSvnRaise_memWf h
  · exact execSessionRule_memWf h
  · exact execSessionClear_memWf h
  · exact execSessionShape_memWf h
  · exact execMoverAssign_memWf h
  · exact execBar2Bind_memWf h
  · exact execPushwinBind_memWf h
  · exact execPortCfg_memWf h
  · exact execPtpSource_memWf h
  · exact execMoverPost_memWf h
  · exact execMoverStatus_memWf h
  · exact execQueueCfg_memWf h
  · exact execQueueEnable_memWf h
  · exact execQueueDisable_memWf h
  · exact execFwdCfg_memWf h
  · exact execQmodeSet_memWf h
  · exact execTaskWrite_memWf h
  · exact execTaskArm_memWf h
  · exact execTaskRemove_memWf h
  · exact execTaskQuery_memWf h
  · exact execTaskSignal_memWf h
  · exact execTimerSet_memWf h
  · exact execHbmOrder_memWf h
  · exact execPcRepair_memWf h
  · exact execPcRetire_memWf h
  · exact execPcResweep_memWf h
  · exact execMemMirror_memWf h
  · exact execHbmStats_memWf h
  · exact execNocStats_memWf h
  · exact execRouterStats_memWf h
  · exact execBelayStats_memWf h
  · exact execNocTimeout_memWf h
  · exact execEventLog_memWf h
  · exact execCairnStatus_memWf h
  · exact execStage_memWf h
  · exact execFwUpdate_memWf h
  · exact execFwUpdateTimeout_memWf h
  · exact execFullLoad_memWf h
  · exact execRopeCtl_memWf h
  · exact execLcClaim_memWf h
  · exact execLcSeal_memWf h
  · exact execLcUnseal_memWf h
  · exact execLcDebug_memWf h
  · exact execLcDebugExit_memWf h
  · exact execLcRetire_memWf h
  · exact execFleetKey_memWf h
  · exact execOwnerSigner_memWf h
  · exact execLifecycleReset_memWf h
  · exact execTemperatureTrip_memWf h
  · exact execSupplyFault_memWf h
  · exact execIslandIdleTimeout_memWf h
  · exact execIslandPowerOn_memWf h
  · exact execPendingEnableRun_memWf h
  · exact execColdReset_memWf h
  · exact execWarmReset_memWf h
  · exact execBringupStep_memWf h
  · exact execPowerDown_memWf h
  · exact execMigration_memWf h
  · exact execLogSecondEnd_memWf h
  · exact execCairnSlice_memWf h
  · exact execCairnPassEnd_memWf h
  · exact execCairnDisable_memWf h
  · exact execFrameReceive_memWf h
  · exact execEthLinkChange_memWf h
  · exact execEgressFrame_memWf h
  · exact execFrameDeparture_memWf h
  · exact execMacsecAssociationChange_memWf h
  · exact execSyncMessage_memWf h
  · exact execPtpSyncTimeout_memWf h
  · exact execCaptureEvent_memWf h
  · exact execGpioOutputWord_memWf h
  · exact execConsoleStatus_memWf h
  · exact execConsoleLog_memWf h
  · exact execConsoleVer_memWf h
  · exact execTelemetryRead_memWf h
  · exact execTelemetryWrite_memWf h
  · exact execBypass_memWf h
  · exact execIdcode_memWf h
  · exact execSamplePreload_memWf h
  · exact execExtest_memWf h
  · exact execHighz_memWf h
  · exact execClamp_memWf h
  · exact execJtagDebugInstruction_memWf h
  · exact execThermtrip_memWf h
  · exact execSysRefclkLoss_memWf h
  · exact execRopeInvalidSyncHeader_memWf h
  · exact execRopeFaultLineLow_memWf h
  · exact execResetNRelease_memWf h
  · exact execIslandPllFailure_memWf h
  · exact execSecurityCoreSelfCheckFail_memWf h
  · exact execIllegalInstruction_memWf h
  · exact execEntdaa_memWf h

/-! ### A nanosecond of device time (R30) -/

theorem tick_memWf (h : s.memWf) : s.tick.memWf := ite_memWf h (ite_memWf (mk_memWf h) (loaderCycle_memWf (netCycles_memWf (mk_memWf h))))

/-! ### One step -/

theorem step_memWf (h : s.memWf) : nextMemWf (step s) := by
  unfold step
  split
  · exact next_memWf (tick_memWf h)
  · exact exec_memWf (mk_memWf h)

end

/-- Settles O56: each function of the model keeps the form, and so does the step that calls them. -/
theorem stepKeepsMemoryForm : Obligations.StepKeepsMemoryForm := by
  unfold Obligations.StepKeepsMemoryForm
  exact fun s t h hstep => step_memWf h t hstep

end Sys2Proof.Machine
